-- ==== Sys2Proof/Word.lean ====
section
/-! DEFINITION. The plain words of the model: bytes, 64-byte lines, and the sizes of R6. -/

namespace Sys2Proof

/-- One byte. -/
abbrev Byte := BitVec 8

/-- A string of bytes, in order of address (or of transmission). -/
abbrev Bytes := List Byte

/-- A line of 64 bytes (R6); byte `i` is bits `[8i+7:8i]` (R4, little-endian). -/
abbrev Line := BitVec 512

/-- Bytes of a line (R6). -/
abbrev lineBytes : Nat := 64
/-- Bytes of a granule (R6). -/
abbrev granuleBytes : Nat := 4096
/-- Bytes of a chunk (R6). -/
abbrev chunkBytes : Nat := 65536
/-- Bytes of an extent (R6). -/
abbrev extentBytes : Nat := 2097152

end Sys2Proof
end

