-- ==== Sys2Proof/Syntax.lean ====
section
/-! DEFINITION. The commands the block takes: one constructor of `Instr` for each row of the spec's table of steps,
with the operands its rule gives it, and the plain records those operands are made of. -/

namespace Sys2Proof

/-- The path a dictionary message arrives on (R50, R65). A CXL port has one endpoint a logical device in multi-logical-device
mode; in global fabric-attached memory mode the port is one endpoint (logical device 0). -/
inductive Path where
  | i3c0
  | i3c1
  | cxl (port ld : Nat)
  | jtag
  deriving DecidableEq, Repr

/-- A requester of the dictionary server (R50, R118): an MCTP endpoint on a path, a logical device at its mailbox,
or the pair of entry device and entry requester of a forwarded request. -/
inductive Req where
  | mctp (path : Path) (eid : Nat)
  | ld (port ld : Nat)
  | fwd (dev slot : Nat)
  deriving DecidableEq, Repr

/-- A dictionary request message (R67), field by field. `crc`: the CRC-32C it carries; `icBit`, `iana`: the MCTP
integrity-check bit and enterprise number it came with (R66); `rsv0`, `rsv7`: its two reserved fields. -/
structure DictMsg where
  version : Nat := 1
  rsv0    : Nat := 0
  opcode  : Nat
  tag     : Nat := 0
  index   : Nat := 0
  sub     : Nat := 0
  fwd     : Bool := false
  more    : Bool := false
  staged  : Bool := false
  rsv7    : Nat := 0
  target  : Nat := 0xFFFF
  type    : Nat := 0
  offset  : Nat := 0
  total   : Nat := 0
  value   : Bytes := []
  crc     : Nat := 0
  icBit   : Bool := false
  iana    : Nat := 0x0001C7A5
  deriving DecidableEq, Repr

/-- A dictionary response (R67); `crc`: its CRC-32C. -/
structure DictResp where
  opcode : Nat
  tag    : Nat
  index  : Nat
  sub    : Nat
  status : Nat
  type   : Nat := 0
  more   : Bool := false
  offset : Nat := 0
  total  : Nat := 0
  value  : Bytes := []
  crc    : Nat := 0
  deriving DecidableEq, Repr

/-- The forwarding prefix of a MGMT frame (R75). -/
structure FwdPrefix where
  dev   : Nat
  slot  : Nat
  level : Nat
  deriving DecidableEq, Repr

/-- The header of a Hinge frame as received (R291). Three flags say whether the frame passes step 1 of R294, step 2, and what step 3 asks of the
version, the reserved bits and the payload length; `check`: the header check it carries; `tag`: its GCM tag where ENC is set, and its lines are
then ciphertext (R313). The virtual channel and the type are the row's own. -/
structure Hdr where
  src    : Nat
  dst    : Nat
  sport  : Nat
  dport  : Nat
  seq    : Nat := 0
  ack    : Nat := 0
  claim  : Nat := 0
  poison : Nat := 0
  enc    : Bool := false
  retx   : Bool := false
  fcsOk  : Bool := true
  addrOk : Bool := true
  hdrOk  : Bool := true
  check  : Nat := 0
  tag    : Nat := 0
  deriving DecidableEq, Repr

/-- Payload of a heartbeat frame (R253). -/
structure Beat where
  state    : Nat
  hearing  : Bool
  fenced   : Bool
  withdrawn : Bool
  inSync   : Bool
  handover : Bool
  seq      : Nat
  echo     : Nat
  claim    : Nat
  horizon  : Nat
  assigned : Nat
  deriving DecidableEq, Repr

/-- The request sub-header of READ, WRITE, LOOKUP and PIECE (R296). `entry`/`num`: the origin tag.
`bulk`: a ring's piece issued the request; `ring`, `idx` and `eff`: of a PIECE, the ring and descriptor it comes from and the effective class of its
writes. The sub-header has no bits for these four: DESIGN CHOICE, log entry 37. -/
structure ReqSub where
  entry  : Nat
  num    : Nat
  key    : Nat
  gen    : Nat := 0
  slot   : Nat := 0
  cls    : Nat := 0
  copyOk : Bool := false
  part   : Bool := false
  homeStore : Bool := false
  off    : Nat := 0
  len    : Nat := 64
  be     : BitVec 64 := BitVec.allOnes 64
  bulk   : Bool := false
  ring   : Nat := 0
  idx    : Nat := 0
  eff    : Nat := 1
  deriving DecidableEq, Repr

/-- The response sub-header of DATA and STATUS (R296). -/
structure RespSub where
  entry  : Nat
  num    : Nat
  status : Nat := 0
  gen    : Nat := 0
  vault  : Nat := 0xFFFF
  slot   : Nat := 0
  last   : Bool := true
  off    : Nat := 0
  result : Nat := 0
  deriving DecidableEq, Repr

/-- One accessor of a heat entry (R161). -/
structure Accessor where
  vault : Nat
  cnt   : Nat
  deriving DecidableEq, Repr

/-- A heat entry (R161); `acc` holds the valid accessors, at most four, in their order. -/
structure Heat where
  rd  : Nat := 0
  wr  : Nat := 0
  rdS : Nat := 0
  wrS : Nat := 0
  age : Nat := 0
  homed  : Bool := false
  copy   : Bool := false
  queued : Bool := false
  acc : List (Option Accessor) := [none, none, none, none]
  deriving DecidableEq, Repr

/-- A placement message (R297): its common fields and the body of its code. `a`, `b` are the two body numbers
(destination vault, source slot, phase and cause, copy vault, lease expiry), `list` its pairs (heat report, copy vaults). -/
structure PMsg where
  status : Nat := 0
  key    : Nat
  vault  : Nat := 0xFFFF
  slot   : Nat := 0
  gen    : Nat := 0
  a      : Nat := 0
  b      : Nat := 0
  heat   : Heat := {}
  list   : List (Nat × Nat) := []
  deriving DecidableEq, Repr

/-- A directory entry or group record as its 32 bytes give it (R173), and as a map transfer carries it (R346). -/
structure MapEnt where
  key    : Nat
  state  : Nat := 0
  attract : Nat := 0xFFFF
  pinned : Bool := false
  noCopies : Bool := false
  group  : Nat := 0
  gen    : Nat := 0
  home   : Nat := 0xFFFF
  slot   : Nat := 0
  copies : List Nat := []
  cooling : Bool := false
  coolEnd : Nat := 0
  prev   : Nat := 0xFFFF
  deriving DecidableEq, Repr

/-- What a local extent slot is used for (R33, R36, R178): an entry of the reverse slot map. `filling`: released and not yet free;
`kept`: released by a move whose destination has not yet written the extent to its home store (R185). -/
inductive SlotUse where
  | home (key : Nat)
  | copy (key : Nat)
  | dest (key : Nat)
  | filling
  | kept (key : Nat)
  deriving DecidableEq, Repr

/-- A tombstone (R177). `expires`: when its life ends, once the directory vault has acknowledged the commit. -/
structure Tomb where
  key   : Nat
  vault : Nat
  slot  : Nat
  gen   : Nat
  acked : Bool := false
  expires : Nat := 0
  deriving DecidableEq, Repr

/-- A migration into a vault as its metadata area keeps it (R18, R179): the key, the slot reserved, the source and its slot. -/
structure InRec where
  key   : Nat
  slot  : Nat
  src   : Nat
  sslot : Nat
  deriving DecidableEq, Repr

/-- A migration out as the metadata area keeps it, and from phase 4 on its commit record (R181): the key, its old slot, the new home and
slot, the generation, the extent's heat and its copy vaults as the commit names them. -/
structure MoveRec where
  key   : Nat
  slot  : Nat
  dst   : Nat
  dslot : Nat := 0
  gen   : Nat := 0
  phase : Nat
  evac  : Bool := false
  heat  : Heat := {}
  copies : List (Nat × Nat) := []
  deriving DecidableEq, Repr

/-- A read copy of an extent homed in the vault as the metadata area keeps it (R186, R189). -/
structure CopyRec where
  key   : Nat
  vault : Nat
  slot  : Nat := 0
  live  : Bool := false
  deriving DecidableEq, Repr

/-- An arrival record of a moved extent (R223); `written`: a bit a granule. -/
structure Arrival where
  slot  : Nat
  key   : Nat
  src   : Nat
  sslot : Nat
  written : Nat := 0
  deriving DecidableEq, Repr

/-- A poison list entry (R418). -/
structure PoisonEnt where
  line  : Nat
  cause : Nat
  span  : Nat := 0
  time  : Nat := 0
  deriving DecidableEq, Repr

/-- One change of the metadata area as the mirror and META frames carry it (R173, R177, R178, R181, R223, R274, R418). The spec gives
neither the place of each structure in the area nor every entry's bytes, so a change is carried as the entry it changes: DESIGN
CHOICE, log entry 12. -/
inductive MetaUpd where
  | slot (n : Nat) (u : Option SlotUse) (spare : Bool)
  | dir (e : MapEnt)
  | dirGone (key : Nat)
  | tomb (t : Tomb)
  | tombGone (key : Nat)
  | migIn (r : InRec)
  | migInGone (key : Nat)
  | move (r : MoveRec)
  | moveGone (key : Nat)
  | copy (r : CopyRec)
  | copyGone (key vault : Nat)
  | hints (e : MapEnt)
  | hintsGone (key : Nat)
  | arrival (a : Arrival)
  | arrivalGone (slot : Nat)
  | poison (e : PoisonEnt)
  | poisonGone (line span : Nat)
  | dirty (granules : List Nat)
  deriving DecidableEq, Repr

/-- One run of a MIRROR frame (R299) with its lines; `poison` marks the poisoned ones. `upd`: the run is a line of the metadata area
and changes that entry. `sync`: resync sends it, which its class tells (R304); the descriptor has no bit for it: DESIGN CHOICE, log
entry 37. -/
structure Run where
  first  : Nat
  slot   : Nat
  line   : Nat
  oneSeq : Bool := false
  cont   : Bool := false
  be     : Option (BitVec 64) := none
  origin : Option (Nat × Nat) := none
  atomic : Option (Nat × Nat × Nat) := none
  lines  : List Line
  poison : List Bool := []
  upd    : Option MetaUpd := none
  sync   : Bool := false
  deriving DecidableEq, Repr

/-- The body of a CONNECT or ACCEPT frame (R295). -/
structure ConnBody where
  seq     : Nat
  epoch   : Nat
  credits : List Nat
  enc     : Bool
  keyGen  : Nat
  deriving DecidableEq, Repr

/-- The sub-header of a TREE frame (R330). -/
structure TreeHdr where
  more  : Bool := false
  late  : Bool := false
  root  : Nat
  term  : Nat
  pool  : Nat
  op    : Nat := 0
  latch : Nat := 0
  deriving DecidableEq, Repr

/-- A CHUNK or CHUNK_ACK sub-header (R295). `kind`: 0 migration, 1 read copy. -/
structure ChunkSub where
  key   : Nat
  kind  : Nat
  slot  : Nat
  line  : Nat
  count : Nat
  pass  : Nat
  deriving DecidableEq, Repr

/-- A manifest entry (R323). -/
structure MEntry where
  dev     : Nat
  noRoot  : Bool := false
  ident   : Nat
  macs    : List Nat := [0, 0, 0, 0]
  ips     : List Nat := [0, 0, 0, 0]
  extents : Nat := 0
  gen     : Nat := 0
  check   : Nat := 0
  deriving DecidableEq, Repr

/-- What a device counts for the pool's totals: the extents its vault homes and how many of each volume (R28, R39), and of each volume
its bound sessions and the highest volume byte they map (R27, R28). -/
structure Census where
  homed : Nat := 0
  vols  : List (Nat × Nat) := []
  sess  : List (Nat × Nat × Nat) := []
  deriving DecidableEq, Repr

/-- A pool-state action or latch request as an ACTION message carries it to the root (R325, R340). `room`: a vault's figures
for the room table (R170). `census`: what the sending device counts (log entry 96).
`manExtents`: a device's installed extents saved in its entry (R21, log entry 99). `volAttr`: a default class or a label committed without an action. `outcome`: the status of an action the root refused, for every device's status object (R27): kind
0 a volume, 1 a manifest entry, 2 a vault's shares. -/
inductive Action where
  | volCreate (n size cls label : Nat)
  | volResize (n size : Nat)
  | volDelete (n : Nat)
  | volAttr (n cls label : Nat)
  | share (vault : Nat) (spare copy fill : Nat)
  | manAdd (e : MEntry)
  | manAddr (e : MEntry)
  | manRemove (dev : Nat)
  | mapEntry (i vault : Nat)
  | password (salt hash : Nat) (zero : Bool)
  | setting (key val : Nat)
  | point (n : Nat)
  | freeze (mask : Nat)
  | release (mask : Nat)
  | poolReset (cold : Bool)
  | room (vault p h state : Nat)
  | outcome (kind n act status : Nat)
  | census (c : Census)
  | manExtents (dev extents : Nat)
  deriving DecidableEq, Repr

/-- A volume record as a state transfer carries it (R28, R344). -/
structure VolImage where
  n      : Nat
  state  : Nat
  size   : Nat
  cls    : Nat
  label  : Nat
  number : Nat
  status : Nat := 0
  dev    : Nat := 0xFFFF
  deriving DecidableEq, Repr

/-- The pool state as STATE segments carry it (R344): manifest, directory map, volume records, releases, capacity shares, claim
numbers, password hash and pool-state objects. -/
structure PoolImage where
  id      : Nat
  gen     : Nat
  manGen  : Nat := 0
  entries : List MEntry := []
  dirMap  : List (Nat × Nat) := []
  vols    : List VolImage := []
  lastNumber : Nat := 0
  releases : List (Nat × Nat × Nat × Nat) := []
  shares  : List (Nat × Nat × Nat × Nat) := []
  claims  : List (Nat × Nat) := []
  salt    : Nat := 0
  hash    : Nat := 0
  pwSet   : Bool := false
  objects : List (Nat × Nat) := []
  deriving DecidableEq, Repr

/-- What a home drive reports of itself to the checks of R211. -/
structure DriveInfo where
  versionOk : Bool
  dualPort  : Bool
  reserv    : Bool
  lbaOk     : Bool
  atomicOk  : Bool
  volatileCache : Bool
  lbas      : Nat
  empty     : Bool := true
  deriving DecidableEq, Repr

/-- A power-fail dirty map (R231): the claim and role of the device that wrote it, the slots of its extent bitmap, its arrival records and its
flags. -/
structure DirtyMap where
  valid  : Bool := false
  gen    : Nat := 0
  vault  : Nat := 0
  dev    : Nat := 0
  claim  : Nat := 0
  active : Bool := false
  horizon : Nat := 0
  slots  : List Nat := []
  arrivals : List Arrival := []
  incomplete : Bool := false
  overflow : Bool := false
  deriving DecidableEq, Repr

/-- What a home drive's header region holds at a start (R214, R237): both copies of its header and the lost-extent list behind each. -/
structure HeadRead where
  drive : Nat
  a     : Bytes
  b     : Bytes
  lostA : List Nat := []
  lostB : List Nat := []
  deriving DecidableEq, Repr

/-- What every drive's home header says (R214); the vault, the drive's own index, the layout and the pool are added as it is written. -/
structure Header where
  valid  : Bool := false
  seq    : Nat := 0
  gen    : Nat := 0
  state  : Nat := 0
  keySlot : Nat := 0xFFFF
  keyGen : Nat := 0
  claim  : Nat := 0
  progress : Nat := 0
  lost   : List Nat := []
  sealTime : Nat := 0
  horizon : Nat := 0
  deriving DecidableEq, Repr

/-- Who submits a strongbox descriptor (R477, R482). -/
inductive SbSrc where
  | firmware
  | critical
  | dict (rq : Req)
  deriving DecidableEq, Repr

/-- A strongbox descriptor (R477). `rsv`: its reserved bits, 7 of byte 1, 5 of bytes 4 to 7, and bytes 20 to 27; `check`: its CRC-32C; `data`, `poison`:
what a program takes from steward memory. -/
structure SbDesc where
  src    : SbSrc
  prio   : Bool := false
  tag    : Nat := 0
  sector : Nat
  off    : Nat := 0
  len    : Nat := 0
  data   : Bytes := []
  poison : Bool := false
  buffer : Nat := 0
  rsv    : Nat := 0
  check  : Nat := 0
  deriving DecidableEq, Repr

/-- A PTP message as the port sees it (R317, R318). `quality`: class, accuracy and variance as one number, the better the lower. -/
inductive PtpMsg where
  | announce (priority1 quality priority2 clock : Nat)
  | sync (offset : Int) (delay : Nat)
  | delayReq (clock : Nat)
  deriving DecidableEq, Repr

/-- The outcome a home drive gives a reservation command (R265). -/
inductive ResvResult where
  | held
  | conflict
  | failed
  deriving DecidableEq, Repr

/-- The classes of the beat path (R255), in the order 0x2110:02 codes them. -/
inductive BeatClass where
  | toggling | stuck | openPath | quiet | invalid
  deriving DecidableEq, Repr

/-- The on-die memories of R415. -/
inductive OnDie where
  | dataBuffer | merge | tcache | heat | session | dictionary | stagedSet | cluster | keySlot | context | hold
  deriving DecidableEq, Repr

/-- The user of a cipher operation (R434, R446). -/
inductive CipherUser where
  | hingeTx | hingeRx | home | ring
  deriving DecidableEq, Repr

/-- The attribute of an engine's access (R462). -/
inductive CacheAttr where
  | cached | streaming | uncached
  deriving DecidableEq, Repr

/-- The commands, one constructor a row of the table of steps, in the table's order. -/
inductive Instr where
  | dictRead (rq : Req) (m : DictMsg)
  | dictWrite (rq : Req) (m : DictMsg)
  | dictReadSegment (rq : Req) (m : DictMsg)
  | dictWriteSegment (rq : Req) (m : DictMsg)
  | dictAbortTransfer (rq : Req) (m : DictMsg)
  | dictDescribe (rq : Req) (m : DictMsg)
  | dictEnumerate (rq : Req) (m : DictMsg)
  | setEndpointId (p : Path) (eid : Nat)
  | getEndpointId (p : Path)
  | getEndpointUuid (p : Path)
  | getMctpVersionSupport (p : Path)
  | getMessageTypeSupport (p : Path)
  | getVendorDefinedMessageSupport (p : Path)
  | forwardRequest (rq : Req) (m : DictMsg)
  | forwardResponse (h : Hdr) (pre : FwdPrefix) (r : DictResp)
  | forwardTimeout (slot tag : Nat)
  | mgmtFrame (h : Hdr) (pre : FwdPrefix) (m : DictMsg)
  | commit (rq : Req) (tag : Nat)
  | discardStaged (rq : Req) (tag : Nat)
  | stageTimeout (slot : Nat)
  | requesterSlotTimeout (slot : Nat)
  | save (rq : Req) (tag : Nat)
  | saveComplete (ok : Bool)
  | restoreDefaults (rq : Req) (tag : Nat)
  | resetWarm (rq : Req) (tag : Nat)
  | resetCold (rq : Req) (tag : Nat)
  | resetStartDelay
  | presentPassword (rq : Req) (tag : Nat) (pw : Bytes)
  | presentationRefusalEnd
  | ownerLock (rq : Req) (tag : Nat)
  | elevationTimeout (slot : Nat)
  | newPassword (rq : Req) (tag : Nat) (pw : Bytes)
  | transferIdleTimeout (rq : Req) (tag : Nat)
  | registerWrite (rq : Req) (m : DictMsg)
  | paceWindow (vault steward : List Nat)
  | voltageStep
  | paceTargetMissed
  | volumeCreate (n size cls label dev : Nat)
  | volumeResize (n size dev : Nat)
  | volumeDelete (n dev : Nat)
  | zeroFillComplete (n : Nat)
  | capacityShareChange (vault spare copy fill dev : Nat)
  | manifestAdd (e : MEntry) (dev : Nat)
  | manifestChangeAddresses (e : MEntry) (dev : Nat)
  | manifestRemove (n dev : Nat)
  | directoryMapChange (i vault dev : Nat)
  | hostRead (p host hpa tag : Nat)
  | hostWrite (p host hpa : Nat) (line : Line) (be : BitVec 64) (poison : Bool) (tag : Nat)
  | heldWriteAdmitted (p : Nat)
  | writeHoldThreshold (p : Nat)
  | translationTimeLimit (num : Nat)
  | portLinkTrained (p speed width : Nat)
  | portLinkDown (p : Nat)
  | portRetrain (rq : Req) (tag p : Nat)
  | portEnableWrite (rq : Req) (tag p : Nat) (on : Bool)
  | cxlPerst (p : Nat)
  | gpfPhase1 (p : Nat)
  | gpfPhase2 (p : Nat)
  | gpfPhase2Answer (p : Nat)
  | sessionUnbindDone (n : Nat)
  | capacityOfferTimeout (n : Nat)
  | releaseCapacityDone (n : Nat)
  | identify (p ld : Nat)
  | getEventRecords (p ld log : Nat)
  | clearEventRecords (p ld log : Nat) (all : Bool) (handles : List Nat)
  | getEventInterruptPolicy (p ld : Nat)
  | setEventInterruptPolicy (p ld policy : Nat)
  | getFwInfo (p ld : Nat)
  | getTimestamp (p ld : Nat)
  | setTimestamp (p ld t : Nat)
  | getSupportedLogs (p ld : Nat)
  | getLog (p ld off len : Nat)
  | identifyMemoryDevice (p ld : Nat)
  | getPartitionInfo (p ld : Nat)
  | getHealthInfo (p ld : Nat)
  | getAlertConfiguration (p ld : Nat)
  | setAlertConfiguration (p ld cfg : Nat)
  | getShutdownState (p ld : Nat)
  | setShutdownState (p ld v : Nat)
  | getPoisonList (p ld start len : Nat) (others : List (Nat × Nat × Nat)) (overflow : Bool)
  | injectPoison (p ld dpa : Nat)
  | clearPoison (p ld dpa : Nat) (line : Line)
  | poisonCommandAnswer (num : Nat)
  | getDynamicCapacityConfiguration (p ld : Nat)
  | getDynamicCapacityExtentList (p ld : Nat)
  | addDynamicCapacityResponse (p ld : Nat) (extents : List (Nat × Nat))
  | releaseDynamicCapacity (p ld start len : Nat)
  | dictionaryMessage (p ld : Nat) (m : DictMsg)
  | mailboxUnsupported (p ld opcode : Nat)
  | getLdInfo (p : Nat)
  | getLdAllocations (p : Nat)
  | setLdAllocations (p opcode : Nat)
  | doorbellTailWrite (p ld ring tail size : Nat) (head : Option Nat)
  | completionHeadWrite (p ld ring head size : Nat)
  | doorbellRestart (p ld ring : Nat)
  | doorbellLineWrite (pbr hpa : Nat) (line : Line) (be : BitVec 64)
  | ringRegister (rq : Req) (tag : Nat) (block : Bytes)
  | ringUnregister (rq : Req) (tag ring : Nat)
  | ringRestart (rq : Req) (tag ring : Nat)
  | descriptorFetch (ring : Nat) (bytes : Bytes) (poisoned : Bool)
  | copy (ring : Nat)
  | fill (ring : Nat)
  | importRange (ring : Nat)
  | exportRange (ring : Nat)
  | persist (ring : Nat)
  | place (ring : Nat)
  | atomic (ring : Nat)
  | compare (ring : Nat)
  | crc32c (ring : Nat)
  | encrypt (ring : Nat)
  | decrypt (ring : Nat)
  | persistPoint (ring : Nat)
  | fence (ring : Nat)
  | nop (ring : Nat)
  | pieceComplete (ring idx off : Nat)
  | moderationTimer (ring : Nat)
  | ringHoldLimit (ring idx off : Nat)
  | epochEnd
  | lookup (h : Hdr) (q : ReqSub) (forWrite : Bool)
  | moveLeaseExpiry (key : Nat)
  | chunk (h : Hdr) (c : ChunkSub) (lines : List Line)
  | chunkAck (h : Hdr) (c : ChunkSub)
  | freezeLimitExpiry (key : Nat)
  | tombstoneExpiry (key : Nat)
  | translationCacheFlush (rq : Req) (tag : Nat)
  | inval (h : Hdr) (key slot line count token : Nat)
  | invalAck (h : Hdr) (token : Nat)
  | copyLeaseExpiry (slot : Nat)
  | copyLeaseGuardExpiry (key vault : Nat)
  | copyLeaseRenewTimer
  | moveRequest (h : Hdr) (m : PMsg)
  | moveAnswer (h : Hdr) (m : PMsg)
  | reserveRequest (h : Hdr) (m : PMsg)
  | reserveAnswer (h : Hdr) (m : PMsg)
  | placementCommit (h : Hdr) (m : PMsg)
  | commitAcknowledgement (h : Hdr) (m : PMsg)
  | placementAbort (h : Hdr) (m : PMsg)
  | copyGrant (h : Hdr) (m : PMsg)
  | copyRegister (h : Hdr) (m : PMsg)
  | leaseRenewal (h : Hdr) (m : PMsg)
  | copyDropNotice (h : Hdr) (m : PMsg)
  | heatReport (h : Hdr) (m : PMsg)
  | arrivalReport (h : Hdr) (m : PMsg)
  | rebuildQuery (h : Hdr) (m : PMsg)
  | mirror (h : Hdr) (stream : Nat) (runs : List Run)
  | mirrorAck (h : Hdr) (stream seq : Nat)
  | clean (h : Hdr) (stream : Nat) (entries : List (Nat × Nat))
  | writebackVisit (slot granule : Nat)
  | homeWriteComplete (id : Nat)
  | homeWriteFailed (id drive : Nat) (conflict : Bool)
  | driveTimeout (id drive : Nat)
  | driveOutOfService (rq : Req) (tag d : Nat)
  | driveInsert (rq : Req) (tag d : Nat) (info : DriveInfo)
  | rebuildBatch (d : Nat)
  | pfailAsserted
  | flushSnapshot
  | dirtyMapWritten (incomplete overflow : Bool) (remapped : Nat)
  | pfailDeasserted
  | resumeDelayExpiry
  | unsteadyRelease
  | pfailStartReminder
  | restoreReadComplete (slot granule : Nat) (bytes : Bytes) (poisonLines : List Nat)
  | restoreReadFailed (slot granule d : Nat)
  | restoreSourceWaitExpiry (slot granule : Nat)
  | pointPeriod
  | pointTimeout
  | heartbeatSend
  | heartbeat (h : Hdr) (b : Beat)
  | beatEdge (interval : Nat)
  | beatPathTimeout (cls : BeatClass)
  | framePathSilent
  | hearingWindowExpiry
  | twinAbsentDetected
  | selfFence
  | claimStart
  | claimRecordWritten
  | reservationComplete (d holder : Nat) (r : ResvResult)
  | claimLimitExpiry
  | twinLost
  | inSyncTimeout
  | watchdogRefresh
  | watchdogExpiry
  | claimFrame (h : Hdr) (vault claim : Nat)
  | reclaimDelayExpiry (keysOwn : Bool)
  | handover (rq : Req) (tag : Nat)
  | handoverDrained
  | handoverHoldExpiry
  | resyncStart
  | resyncGranuleSend (slot granule : Nat)
  | metaFrame (h : Hdr) (part off : Nat) (m : List Line × List MetaUpd)
  | hingeLinkUp (p mode lanes : Nat)
  | hingeLinkDown (p : Nat)
  | hingeLaneFailure (p lane : Nat) (partnerModes : List (Nat × Nat))
  | hingeRetrain (rq : Req) (tag p : Nat)
  | hingePortEnableWrite (rq : Req) (tag p : Nat) (on : Bool)
  | hingeRead (h : Hdr) (q : ReqSub)
  | hingeWrite (h : Hdr) (q : ReqSub) (lines : List Line) (resend : Bool)
  | piece (h : Hdr) (q : ReqSub) (desc : Bytes) (off len : Nat)
  | dataFrame (h : Hdr) (r : RespSub) (lines : List Line)
  | status (h : Hdr) (r : RespSub)
  | ack (h : Hdr) (next credits : List Nat)
  | nak (h : Hdr) (vc next : Nat)
  | connect (h : Hdr) (b : ConnBody)
  | accept (h : Hdr) (b : ConnBody)
  | close (h : Hdr) (why : Nat)
  | retransmitTimeout (peer port vc : Nat)
  | ackTimer (peer port vc : Nat)
  | connectTimeout (peer port : Nat)
  | idleCloseTimer (peer port : Nat)
  | creditWindow (p : Nat)
  | pfcPause (p prio : Nat) (quanta : Nat)
  | neighborSolicitation (p : Nat) (solicit : Bool) (addr mac : Nat)
  | ndCacheExpiry (p addr : Nat)
  | throttleNotice (h : Hdr) (vault dirty : Nat)
  | throttleReleaseNotice (h : Hdr) (vault dirty : Nat)
  | flushNotice (h : Hdr) (vault dirty : Nat)
  | sealedNotice (h : Hdr) (vault dirty : Nat)
  | ptpMessage (m : Nat × PtpMsg)
  | ptpSyncInterval
  | ptpDelayRequestInterval
  | timeBaseStep (offset : Int)
  | treeGather (h : Hdr) (t : TreeHdr) (gen : Nat) (ranks : List (Nat × Bool))
  | treeReady (h : Hdr) (t : TreeHdr) (segment : Nat) (present : List Nat)
  | treeTick (h : Hdr) (t : TreeHdr)
  | treeArrive (h : Hdr) (t : TreeHdr) (arrived absent : Nat)
  | treeRelease (h : Hdr) (t : TreeHdr) (st : Nat)
  | treeBroadcast (h : Hdr) (t : TreeHdr) (rooms : List (Nat × Nat × Nat × Nat)) (m : Bytes × List (Nat × Census))
  | treeAnnounce (h : Hdr) (t : TreeHdr) (a : Action) (dev : Nat)
  | treeDone (h : Hdr) (t : TreeHdr) (st covered missed firstMissed : Nat)
  | treeAction (h : Hdr) (t : TreeHdr) (a : Action) (dev : Nat)
  | treeResult (h : Hdr) (t : TreeHdr) (st : Nat)
  | treeJoin (h : Hdr) (t : TreeHdr) (ident number mac : Nat)
  | treeState (h : Hdr) (t : TreeHdr) (img : PoolImage)
  | gatherSendTimer
  | gatherTimeout
  | closeGather (rq : Req) (tag : Nat)
  | readyWaveSend
  | tickTimer
  | tickMissed
  | parentUnreachable
  | successionWaitExpiry
  | barrierLimit
  | counterFreeze
  | counterRelease
  | poolPersistPoint
  | poolStateApply
  | poolResetWarm
  | poolResetCold
  | poolResetFire
  | joinStart (rq : Req) (tag : Nat)
  | arbitrate (r : Nat) (entryParityOk : Bool)
  | tableSwap
  | ageInspection (r : Nat)
  | arbiterStatsClear (rq : Req) (tag r : Nat)
  | startPhaseAdvance (drives : List (Nat × DriveInfo)) (keys : List (Nat × Nat)) (heads : List HeadRead) (twinMap : Option DirtyMap)
  | hostServiceOpen
  | trainingComplete (n : Nat) (ok : Bool) (step rank : Nat)
  | refreshDue (n rank : Nat) (queued : Bool)
  | mr4Poll (n rank : Nat) (hot : Bool × Bool) (temp : Int)
  | driftCheck (n : Nat) (absorbed : Bool)
  | rcdAlert (n sub : Nat)
  | retryReplay (n : Nat) (alert : Bool)
  | idleSelfRefresh (n : Nat)
  | channelRetrain (rq : Req) (tag n : Nat)
  | channelOffline (rq : Req) (tag n : Nat)
  | channelReturn (rq : Req) (tag n : Nat) (checksPass : Bool)
  | retrainComplete (n : Nat) (ok : Bool)
  | retireRank (rq : Req) (tag n rank : Nat)
  | freezeChannel (rq : Req) (tag n : Nat)
  | freezeRead (rq : Req) (tag addr : Nat)
  | freezeReadDone (bytes : Bytes)
  | dramReadComplete (line : Nat) (first last : List Nat) (standby : Bool)
  | markDeviceBad (rq : Req) (tag n v : Nat)
  | clearErasure (rq : Req) (tag n v : Nat)
  | deviceBadWindow (n : Nat)
  | repairWaitExpiry (line : Nat)
  | standbyResendWaitExpiry (slot granule : Nat)
  | scrubLine (n : Nat) (first last : List Nat)
  | wordScrub (mem : OnDie) (addr : Nat) (word : BitVec 80)
  | keyLoad (rq : Req) (tag n : Nat) (block : Bytes)
  | keyErase (rq : Req) (tag n : Nat)
  | contextAcquired (user : CipherUser) (slot mode gen ring idx len : Nat)
  | cipherBlockDone (ctx pipe : Nat) (stageOk keyOk hashOk : Bool)
  | returnPipelines (rq : Req) (tag : Nat) (passed : BitVec 16)
  | keyWaitReminder (slot : Nat) (hinge : Bool)
  | engineTrap (e cause addr : Nat)
  | engineWatchdogExpiry (e : Nat)
  | engineRestart (e : Nat)
  | imageLoad (rq : Req) (m : DictMsg) (checksOk programOk : Bool) (version interface size : Nat)
  | activateRolling (rq : Req) (tag : Nat)
  | activateAtReset (rq : Req) (tag : Nat)
  | activateRollback (rq : Req) (tag : Nat)
  | clusterUpdateDone (passed : Bool)
  | invalidateLine (c addr : Nat)
  | invalidateAll (c : Nat)
  | invalidateAllLocked (c : Nat)
  | drain (c : Nat)
  | lockFill (c way addr : Nat)
  | lockWay (c way : Nat)
  | unlockWay (c way : Nat)
  | cacheDisable (rq : Req) (tag c : Nat)
  | cacheEnable (rq : Req) (tag c : Nat)
  | cacheLoad (e addr : Nat) (attr : CacheAttr) (wordOk : Bool)
  | cacheStore (e addr : Nat) (line : Line) (be : BitVec 64) (attr : CacheAttr)
  | cacheFillComplete (c addr : Nat) (line : Line) (poison : Bool)
  | mergeEntryTimeout (c : Nat)
  | sbRead (d : SbDesc) (bad : List Nat)
  | sbProgram (d : SbDesc)
  | sbErase (d : SbDesc)
  | sbSuspend (d : SbDesc)
  | sbResume (d : SbDesc)
  | sbMarginRead (d : SbDesc) (bad : List Nat)
  | pagePulseDone (plane : Nat) (verified : Bool)
  | erasePulseDone (plane : Nat) (verified : Bool)
  | flagCellPulseDone (plane : Nat) (verified : Bool)
  | suspendHoldExpiry (plane : Nat)
  | minRunTimeElapsed (plane : Nat)
  | acknowledgeSource (rq : Req) (tag n : Nat)
  | acknowledgeAll (rq : Req) (tag : Nat)
  | recorderFlush (rq : Req) (tag : Nat)
  | clearFirstArea (rq : Req) (tag : Nat)
  | repeatWindowExpiry (source cause : Nat)
  | tokenRefill (source cause : Nat)
  | mgmtInterruptTimer (p : Path)
  | counterPreset (rq : Req) (tag n v : Nat)
  | localFreezeWrite (rq : Req) (tag mask : Nat)
  | counterSweep
  | ucieLaneFailure (m lane : Nat)
  | ucieRetrain (m cause : Nat)
  | ucieCrcRate (m retries : Nat)
  | ucieModuleFailure (m : Nat)
  | timeBasePllLoss
  | vauxRise
  | vauxLoss
  | vauxOutOfRange (mv : Nat)
  | powerGoodRise
  | powerGoodFall
  | vmainUndervoltage (mv : Nat)
  | brownOut (mv : Nat)
  | powerLimitCheck (watts : Nat)
  | thermalSample (vault steward : List Int)
  | regulatorFault (measured : Nat)
  | porstAssert
  | porstRelease (spds : List (List Nat)) (failed : List Nat)
  | wrstAssert
  | wrstRelease (checksPass : List Bool) (failed : List Nat)
  | jtagReset
  | deferredReset
  | nvmeLinkChange (d : Nat) (up reserved : Bool)
  | hdmDecoderCommit (p ld i base size ways gran dpaBase : Nat) (commit : Bool)
  | busMasterEnableWrite (p ld : Nat) (on : Bool)
  | busMasterReadCompletion (ring idx off : Nat) (bytes : Bytes) (status : Nat) (poison : Bool)
  | busMasterCompletionTimeout (ring idx : Nat)
  | msixVectorMaskWrite (p ld v : Nat) (masked : Bool)
  | mapTransferEntries (h : Hdr) (i : Nat) (ents : List MapEnt) (last : Bool)
  | i3cDynamicAddress (port addr : Nat)
  | jtagFactoryAccess (take : Bool)
  | ptpAnnounceTimeout
  deriving DecidableEq, Repr

end Sys2Proof
end

