-- ==== Sys2Proof/Config.lean ====
section
/-! DEFINITION. What the spec leaves to the part or leaves open: constants with no body, so that no proof can lean on
a value. Each is named in the assumption log. -/

namespace Sys2Proof.Config

/-- Bytes of a line the spec calls undefined (R110, R293): a fresh value for each use, taken by the counter `State.fresh`. -/
opaque freeLine : Nat → BitVec 512

/-- A number the spec leaves open, taken by the counter `State.fresh`. -/
opaque freeNat : Nat → Nat

/-- The salted hash of a password (R62): salt, then the 32-byte password as a number. -/
opaque pwHash : Nat → Nat → Nat

/-- Cycles of a pace monitor in one 1 µs window at nominal speed (R350). -/
opaque paceNominal : Nat

/-- The part's factory-set identity (R80), 16 bytes as a number. -/
opaque identity : Nat

/-- Whether the part is the lidless ordering code (R1, R80). -/
opaque lidless : Bool

/-- The part's factory MAC base (R347, 0x2002:08). -/
opaque factoryMac : Nat

/-- The part's IEEE 1588 clock identity (R317). -/
opaque clockIdentity : Nat

/-- The class, accuracy and variance of the part's clock as one number (R317, IEEE 1588-2019): the better the lower. -/
opaque clockQuality : Nat

/-- The endpoint UUID (R66). -/
opaque endpointUuid : Nat

/-- What the CXL and MCTP standards put in an answer of the named command and the spec does not restate
(R66, R117): opcode and word number. -/
opaque standardField : Nat → Nat → Nat

/-- The version, the interface version and the size of the image of manufacture (R456): 0, 1 and 2. -/
opaque imageFactory : Nat → Nat

/-- The PBR ID that the fabric manager assigns to a port (R92). -/
opaque pbrOf : Nat → Nat

/-- The salt drawn for a new password (R62). -/
opaque pwSalt : Nat → Nat

end Sys2Proof.Config
end

