-- ==== Sys2Proof/Machine/State.lean ====
section
/-! DEFINITION. The state of one TZ-9616: everything the spec gives the device to hold, as plain data, chapter by chapter;
the reasons a step can stop; and the state after reset. Maps are association lists with rising keys that hold no default entry. -/

namespace Sys2Proof.Machine

/-- No device: one beyond the 65,536 device numbers (R15), so that device 65,535 is a device like any other. On the wire and in an
object "no device" is the spec's 0xFFFF, which those fields also give for device 65,535: DESIGN CHOICE, log entry 97. -/
abbrev noDev : Nat := 0x10000

/-- Why a command stops the block with a fault. -/
inductive Fault where
  /-- Raised by MIRROR, CHUNK and META when a frame names a local extent slot at or beyond the vault's installed extents,
  or a metadata offset beyond the metadata area: an address the spec says does not exist (R33, R34). Safe: the device's own
  peers never send one. -/
  | slotOutsideVault
  deriving DecidableEq, Repr

/-- Why a command is refused by the model. -/
inductive Refusal where
  /-- Raised by no meaning: only an arm of `exec` whose command has no meaning yet answers with it. Safe. -/
  | notModelled (mnemonic : String)
  deriving DecidableEq, Repr

/-! ### What the device sends -/

/-- Bodies of TREE messages (R330). -/
inductive TBody where
  | gather (gen : Nat) (ranks : List (Nat × Bool))
  | ready (segment : Nat) (present : List Nat)
  | tick
  | arrive (arrived absent : Nat)
  | release (st : Nat)
  | broadcast (payload : List Nat) (census : List (Nat × Census))
  | announce (a : Action) (dev : Nat)
  | done (st covered missed firstMissed : Nat)
  | action (a : Action) (dev : Nat)
  | result (st : Nat)
  | join (ident number : Nat)
  | state (img : PoolImage)
  deriving DecidableEq, Repr

/-- Bodies of Hinge frames (R295). -/
inductive FBody where
  | heartbeat (b : Beat)
  | ack (next credits : List Nat)
  | nak (vc next : Nat)
  | connect (b : ConnBody)
  | accept (b : ConnBody)
  | close (why : Nat)
  | claim (vault claim : Nat)
  | notice (kind vault dirty : Nat)
  | mgmtReq (pre : FwdPrefix) (m : DictMsg)
  | mgmtResp (pre : FwdPrefix) (r : DictResp)
  | tree (t : TreeHdr) (b : TBody)
  | placement (code : Nat) (m : PMsg)
  | read (q : ReqSub)
  | write (q : ReqSub) (lines : List Line) (poison : List Bool)
  | lookup (q : ReqSub) (forWrite : Bool)
  | piece (q : ReqSub) (desc : Bytes) (off len : Nat)
  | data (r : RespSub) (lines : List Line) (poison : List Bool)
  | status (r : RespSub)
  | mirror (stream : Nat) (runs : List Run)
  | mirrorAck (stream seq : Nat)
  | clean (stream : Nat) (entries : List (Nat × Nat))
  | chunk (c : ChunkSub) (lines : List Line) (poison : List Bool)
  | chunkAck (c : ChunkSub)
  | inval (key slot line count token : Nat)
  | invalAck (token : Nat)
  | metaArea (part off : Nat) (lines : List Line) (upds : List MetaUpd)
  | mapEntries (i : Nat) (ents : List MapEnt) (last : Bool)
  deriving DecidableEq, Repr

/-- The UDP datagram in IPv6 that carries a frame (R288, R289). Addresses are numbers whose lowest byte is byte 0. -/
structure Datagram where
  src    : Nat
  dst    : Nat
  flow   : Nat
  dscp   : Nat
  hop    : Nat := 64
  sport  : Nat
  dport  : Nat
  check  : Nat
  deriving DecidableEq, Repr

/-- The Ethernet header of a frame (R288, R289, R304): MAC addresses, VLAN ID, priority, EtherType, and the datagram in IPv6 carriage. -/
structure Ether where
  srcMac : Nat := 0
  dstMac : Nat := 0
  vlan   : Nat := 0
  prio   : Nat := 0
  type   : Nat := 0
  udp    : Option Datagram := none
  deriving DecidableEq, Repr

/-- A frame as it leaves a port: peer, local port, virtual channel, sequence (0 when unsequenced), RETX, body; what its header holds beside
(R291), with the check; under ENC its IV, ciphertext and tag (R313); and its Ethernet header. -/
structure Frame where
  peer : Nat
  port : Nat
  vc   : Nat
  seq  : Nat := 0
  retx : Bool := false
  body : FBody
  rport : Nat := 0
  ack   : Nat := 0
  claim : Nat := 0
  poison : Nat := 0
  check : Nat := 0
  enc   : Option (Nat × List Line × Nat) := none
  ether : Ether := {}
  deriving DecidableEq, Repr

/-- Commands to a home drive (R212, R214, R218, R222, R265); a poison table entry names the home LBA and the line. -/
inductive DriveCmd where
  | write (lba : Nat) (id : Nat) (data : Bytes)
  | read (lba : Nat)
  | header (lba : Nat) (data : Bytes)
  | lost (lba : Nat) (slots : List Nat)
  | poisonEntry (lba line : Nat) (valid : Bool)
  | resvReport
  | resvRegister (key : Nat)
  | resvPreempt (key holder : Nat)
  deriving DecidableEq, Repr

/-- A DRAM cell: channel, DIMM, package rank, chip ID, subchannel, bank group, bank, row and column address (R377, R378). -/
structure Cell where
  chan   : Nat
  dimm   : Nat
  rank   : Nat
  chip   : Nat
  sub    : Nat
  group  : Nat
  bank   : Nat
  row    : Nat
  column : Nat
  deriving DecidableEq, Repr

/-- What the device shows the outside, in the order it shows it. `inBand`: the I3C in-band interrupt that signals a pending response (R65). -/
inductive Output where
  | dict (rq : Req) (r : DictResp)
  | inBand (p : Path)
  | mctp (p : Path) (command : Nat) (value : List Nat)
  | readDone (p host tag : Nat) (line : Line) (poison : Bool)
  | writeDone (p host tag : Nat)
  | gpfDone (p phase : Nat)
  | mailbox (p ld opcode ret : Nat) (out : List Nat)
  | fmApi (p opcode ret : Nat) (out : List Nat)
  | msix (p ld v : Nat)
  | mgmtIrq (p : Path) (source : Nat)
  | busRead (p ld addr len : Nat)
  | busWrite (p ld addr : Nat) (bytes : Bytes)
  | frame (f : Frame)
  | drive (d : Nat) (c : DriveCmd)
  | ptp (kind n : Nat)
  | neighbor (p addr mac : Nat)
  | neighborAsk (p addr : Nat)
  | clusterLoad (c e : Nat) (line : Line) (poison : Bool)
  | clusterStore (c addr : Nat) (line : Line) (be : BitVec 64) (poison : Bool)
  | clusterFetch (c addr : Nat)
  | frozenRead (c : Cell)
  | sbDone (src : SbSrc) (tag status progress pulses : Nat) (retired weak : Bool) (data : Bytes)
  deriving DecidableEq, Repr

/-- Where a request at its home came from, and so where its answer goes (R203 step 8): a request of this device's host, the
peer that sent a READ or WRITE frame with its origin tag (R266), or a line of a ring's piece that runs here. -/
inductive Origin where
  | host (num : Nat)
  | remote (peer entry num : Nat)
  | ring (num : Nat)
  | none
  deriving DecidableEq, Repr

/-- An ATOMIC element on its way to its word (R140, R148): operation, operands, the device and ring and descriptor index it came
by, and its place in the batch. -/
structure AtomOp where
  op   : Nat
  a    : Nat
  b    : Nat
  dev  : Nat
  ring : Nat
  idx  : Nat
  elem : Nat
  deriving DecidableEq, Repr

/-- A request as its home vault takes it (R176, R203): one line to write, or `len` bytes to read. `piece`: the ring and descriptor of the piece
it is a line of; `limit`: the ring hold limit in force when it began to wait at the ceiling (R130, R149). -/
structure HReq where
  write  : Bool
  origin : Origin
  vault  : Nat
  key    : Nat
  slot   : Nat
  gen    : Nat := 0
  off    : Nat
  len    : Nat := 64
  line   : Line := 0
  be     : BitVec 64 := BitVec.allOnes 64
  poison : Bool := false
  cls    : Nat := 1
  copyOk : Bool := false
  cause  : Nat := 2
  atomic : Option AtomOp := none
  bulk   : Bool := false
  piece  : Option (Nat × Nat) := none
  limit  : Nat := 0
  since  : Nat := 0
  deriving DecidableEq, Repr

/-! ### The object dictionary -/

/-- One slot of the requester table (R50). `staged`: object key and value of each staged object (R52). -/
structure Requester where
  rq      : Req
  staged  : List (Nat × Bytes) := []
  grant   : Bool := false
  last    : Nat := 0
  lastObj : Nat := 0
  lastUse : Nat := 0
  stageAt : Nat := 0
  targets : List Nat := []
  deriving DecidableEq, Repr

/-- A request forwarded and not answered (R74). -/
structure Fwd where
  slot   : Nat
  tag    : Nat
  target : Nat
  msg    : DictMsg
  since  : Nat
  deriving DecidableEq, Repr

/-- An open segmented transfer (R71 to R73). -/
structure Xfer where
  rq     : Req
  tag    : Nat
  key    : Nat
  isWrite : Bool
  type   : Nat
  total  : Nat
  data   : Bytes
  next   : Nat
  prev   : Nat
  lastUse : Nat
  deriving DecidableEq, Repr

/-- A saved set of the strongbox (R54): its generation and its object values. -/
structure SavedSet where
  valid   : Bool := false
  gen     : Nat := 0
  entries : List (Nat × Nat) := []
  deriving DecidableEq, Repr

/-- The dictionary server (R43 to R79). `segTags`: the writes whose value came in segments, whose answer names that opcode (R67, R72). -/
structure Dict where
  slots     : List (Nat × Requester) := []
  fwds      : List Fwd := []
  xfers     : List Xfer := []
  savedA    : SavedSet := {}
  savedB    : SavedSet := {}
  saving    : Option (Nat × List (Nat × Nat)) := none
  saveState : Nat := 0
  pwSalt    : Nat := 0
  pwHash    : Nat := 0
  pwSet     : Bool := false
  fails     : Nat := 0
  refuseUntil : Nat := 0
  held      : List (Action × Nat) := []
  discarded : Nat := 0
  eids      : List (Nat × Nat) := []
  i3c       : List (Nat × Nat) := []
  resetReq  : Option (Bool × Nat) := none
  jtag      : Bool := false
  fwdLevel  : List (Nat × Nat) := []
  segTags   : List (Req × Nat) := []
  deriving DecidableEq, Repr

/-! ### Timing -/

/-- Pace and the core voltage (R350, R351, R81). -/
structure Pace where
  vault     : Nat := 1000
  steward   : Nat := 1000
  hist      : List Nat := []
  index     : Nat := 1000
  lowest    : Nat := 1000
  highest   : Nat := 1000
  volt      : Nat := 880
  held      : Bool := true
  below     : Option Nat := none
  above     : Option Nat := none
  apart     : Option Nat := none
  apartTold : Bool := false
  stepAt    : Nat := 0
  deriving DecidableEq, Repr

/-! ### Host ports -/

/-- A host port (R84 to R87, R123). -/
structure HPort where
  link     : Nat := 0
  speed    : Nat := 0
  width    : Nat := 0
  protocol : Nat := 0
  pbr      : Nat := 0xFFFF
  retrains : Nat := 0
  lds      : Nat := 16
  deriving DecidableEq, Repr

/-- An HDM decoder of a logical device (R89, R93). -/
structure Decoder where
  base : Nat
  size : Nat
  ways : Nat
  gran : Nat
  dpa  : Nat
  deriving DecidableEq, Repr

/-- What each logical device holds: decoders, event log (handle, kind, address and length of each record), mailbox settings, Bus Master Enable and
MSI-X bits. -/
structure LDev where
  decoders : List (Nat × Decoder) := []
  log      : List (Nat × Nat × Nat × Nat) := []
  logNext  : Nat := 1
  policy   : Nat := 0
  alertCfg : Nat := 0
  shutdown : Nat := 0
  busMaster : Bool := false
  vecMask  : BitVec 64 := BitVec.allOnes 64
  vecPend  : BitVec 64 := 0
  deriving DecidableEq, Repr

/-- The running part of a session (R94); its RWC members are objects of `settings`. `offerAt`: when the open capacity offer ends (R115);
`binding`: which of its bindings is in force, for requests that finish after a rebinding (R96). -/
structure Sess where
  state   : Nat := 0
  acc     : Nat := 0
  eff     : Nat := 0
  reads   : Nat := 0
  writes  : Nat := 0
  refused : Nat := 0
  poisons : Nat := 0
  dead    : Bool := false
  waiter  : List (Req × Nat) := []
  rebind  : Bool := false
  offerAt : Nat := 0
  release : Option Nat := none
  binding : Nat := 0
  deriving DecidableEq, Repr

/-- No host port. -/
abbrev noPort : Nat := 8

/-- A request that entered the pool at this device and is not finished (R99 to R102, R266). `port`: its host port, or that of its ring, `noPort`
for a piece a peer sent; `dpa`, `binding`: the host's address and the binding its session lookup found (R96); `sentTo`: the device its frame
was handed to (R101); `busyAt`: when a peer's BUSY came, after which it is sent again (R307). `locate`: it carries a piece to its vault; `find`: it ends as soon as the home vault is known (R145). -/
structure EReq where
  num    : Nat
  write  : Bool
  port   : Nat
  host   : Nat
  tag    : Nat
  sess   : Nat
  key    : Nat
  off    : Nat
  line   : Line := 0
  be     : BitVec 64 := BitVec.allOnes 64
  poison : Bool := false
  cls    : Nat := 1
  silent : Bool := false
  mailbox : Option (Nat × Nat × Nat) := none
  lookup : Bool := false
  dst    : Nat := 0xFFFF
  tried  : List Nat := []
  outcome : Option Nat := none
  work   : Option Nat := none
  ix     : Nat := 0
  locate : Bool := false
  find   : Bool := false
  atomic : Option AtomOp := none
  noticed : Bool := false
  since  : Nat := 0
  dpa    : Nat := 0
  binding : Nat := 0
  sentTo : Nat := noDev
  busyAt : Option Nat := none
  deriving DecidableEq, Repr

/-- A global persistent flush phase 2 that waits (R106). -/
structure Gpf where
  port : Nat
  nums : List Nat
  deriving DecidableEq, Repr

/-- Host ports, logical devices, sessions and the requests in hand (R84 to R125). -/
structure HostSt where
  mode     : Nat := 0
  bifur    : Nat := 0
  ports    : List (Nat × HPort) := []
  lds      : List (Nat × LDev) := []
  sess     : List (Nat × Sess) := []
  reqs     : List EReq := []
  held     : List EReq := []
  gpf      : List Gpf := []
  nextNum  : Nat := 0
  creditsOpen : Bool := false
  withhold : List Nat := []
  deriving DecidableEq, Repr

/-! ### Work rings -/

/-- A fetched descriptor (R133): its ring index and its 64 bytes. `bad`: its Check failed or its fetch was poisoned, and of its bytes only the tag is
kept (R134 step 1); `binds`: the sessions it names, each with the number of the binding in force at the fetch (R134). -/
structure Desc where
  idx   : Nat
  bytes : Bytes
  bad   : Bool := false
  binds : List (Nat × Nat) := []
  deriving DecidableEq, Repr

/-- Line requests of a ring. `kind`: 0 a piece on its way (R145 to R148), 1 the gathering of a whole operation's input, 2 the results of a
volume ring's ATOMIC, 3 a completion entry of a volume ring, 4 a descriptor read from a volume (R152), 5 the finding of an ATOMIC batch's
homes. `state`: 0 its vault is being found, 1 it may read, 2 its reads are out, 3 its input is in, 4 its writes are out, 5 done. `from_`: the
peer that sent it, or none for a ring of this device; `dev`, `ring`, `idx`: where its descriptor is. `marks`: the ranges of its input that came
poisoned over the bus. `desc` carries pool addresses in place of its addresses. `todo`: the lines not yet issued, in address order, each with its offset in the
run and its pool address; `last`: the line issued last, until it is applied (R146); `upto`: the offset in the extent up to which a former active device
mirrored its lines (R148). -/
structure Work where
  id     : Nat
  from_  : Origin := .none
  dev    : Nat := 0
  ring   : Nat := 0
  idx    : Nat := 0
  kind   : Nat := 0
  desc   : Bytes
  off    : Nat
  len    : Nat
  state  : Nat := 0
  outs   : List (Nat × Nat) := []
  got    : List (Nat × Line × Bool) := []
  bytes  : Bytes := []
  bad    : List (Nat × Nat) := []
  marks  : List (Nat × Nat) := []
  grans  : List (Nat × Nat) := []
  prog   : Nat := 0
  status : Nat := 0
  result : Nat := 0
  cls    : Nat := 1
  sess   : Nat := 0xFFFF
  sessB  : Nat := 0xFFFF
  port   : Nat := noPort
  todo   : List (Nat × Nat × Line × BitVec 64 × Bool) := []
  last   : Option Nat := none
  upto   : Nat := 0
  deriving DecidableEq, Repr

/-- A descriptor started and not completed. `stage`: 0 it gathers its input, 1 its pieces run, 2 the cipher engine runs over its
input, 3 it waits for a persist point, 4 its results are being written to a volume. `homes`: the home vault of each element of its batch, or
65,536 and the extent key where the extent has none (R145).
`off`: the offset its next piece starts at; `work`: the piece in hand; `buf`: its input or output; `poisonAt`: the first 16-byte
block of the input that holds a poisoned byte, `badLine`: the pool address of that byte's line. `marks`: the poisoned stretches of its output (R445). -/
structure Flight where
  idx    : Nat
  bytes  : Bytes
  stage  : Nat := 1
  off    : Nat := 0
  len    : Nat := 0
  work   : Option Nat := none
  status : Nat := 0
  result : Nat := 0
  buf    : Bytes := []
  poisonAt : Option Nat := none
  crc    : Nat := 0
  waitBus : Bool := false
  stopping : Bool := false
  homes  : List Nat := []
  badLine : Nat := 0
  marks  : List (Nat × Nat) := []
  deriving DecidableEq, Repr

/-- A completion entry that waits to be written (R126, R154): tag, ring index, status, result, IRQ; `halts`: the ring halted at it; `blocks`: of a
descriptor that later ones wait for (R150). -/
structure HeldCompletion where
  tag    : Nat
  idx    : Nat
  status : Nat
  result : Nat
  irq    : Bool
  halts  : Bool
  blocks : Bool := false
  deriving DecidableEq, Repr

/-- A work ring (R126 to R131). `fetching`: a descriptor's read is out. -/
structure Ring where
  state   : Nat := 0
  halt    : Nat := 0
  port    : Nat := 0
  host    : Nat := 0
  vector  : Nat := 0xFFFF
  limit   : Nat := 1
  modN    : Nat := 1
  modT    : Nat := 0
  dbase   : Nat := 0
  cbase   : Nat := 0
  dents   : Nat := 16
  cents   : Nat := 16
  mem     : Nat := 0xFFFF
  bell    : Nat := 0
  tail    : Nat := 0
  head    : Nat := 0
  chead   : Nat := 0
  cwrit   : Nat := 0
  fetching : Bool := false
  fetched : List Desc := []
  flight  : List Flight := []
  held    : List HeldCompletion := []
  unsig   : Nat := 0
  unsigAt : Nat := 0
  notOk   : Nat := 0
  deriving DecidableEq, Repr

/-- All work rings, the pieces that run here, and their statistics (R130). -/
structure Rings where
  rings     : List (Nat × Ring) := []
  works     : List Work := []
  nextWork  : Nat := 0
  completed : Nat := 0
  notOk     : Nat := 0
  bytes     : Nat := 0
  deriving DecidableEq, Repr

/-! ### Placement -/

/-- A directory entry or affinity-group record (R173) with what R169 to R174 keep beside it. `dst`, `since`: the vault asked, or that the extent
moves or is copied to, and when; `waiting`: the writes that wait, each with its device, origin tag and time of arrival; `skip`: the vaults that
refused; `unheld`: the section had no room, so the waits stand beside it. -/
structure DirEnt where
  state   : Nat := 0
  attract : Nat := 0xFFFF
  pinned  : Bool := false
  noCopies : Bool := false
  group   : Nat := 0
  gen     : Nat := 0
  home    : Nat := 0xFFFF
  slot    : Nat := 0
  copies  : List Nat := []
  cooling : Bool := false
  coolEnd : Nat := 0
  prev    : Nat := 0xFFFF
  dst     : Nat := 0xFFFF
  since   : Nat := 0
  waiting : List (Nat × Nat × Nat × Nat) := []
  pendRelease : Bool := false
  skip    : List Nat := []
  unheld  : Bool := false
  deriving DecidableEq, Repr

/-- A translation cache entry (R175). -/
structure TEnt where
  key   : Nat
  vault : Nat
  slot  : Nat
  gen   : Nat
  copy  : Bool := false
  used  : Bool := true
  deriving DecidableEq, Repr

/-- A migration or relocation out of a slot (R179 to R184). `phase`: 0 requested, 1 granted and reserving, 2 copying, 3 freeze,
5 in the freeze with its commit record and tombstone written, 4 committed. `cseq`: the mirror sequence of that record. -/
structure Mig where
  key    : Nat
  slot   : Nat
  dst    : Nat
  dslot  : Nat := 0
  phase  : Nat := 0
  pass   : Nat := 0
  unacked : Nat := 0
  moved  : List Nat := []
  since  : Nat := 0
  frozen : Nat := 0
  ackDst : Bool := false
  ackDir : Bool := false
  evac   : Bool := false
  gen    : Nat := 0
  cseq   : Nat := 0
  heat   : Heat := {}
  copies : List (Nat × Nat) := []
  deriving DecidableEq, Repr

/-- A migration into this vault (R179, R183). -/
structure MigIn where
  key  : Nat
  slot : Nat
  src  : Nat
  sslot : Nat
  since : Nat := 0
  held : List HReq := []
  deriving DecidableEq, Repr

/-- A read copy held here (R186, R187). `valid`: bit a line; `age`: the epoch ends it has been held over (R165, R189). -/
structure CopyIn where
  slot  : Nat
  key   : Nat
  home  : Nat
  valid : Nat := 0
  lease : Nat := 0
  serving : Bool := false
  age   : Nat := 0
  deriving DecidableEq, Repr

/-- A read copy of an extent homed here (R186, R188). `phase`: 0 asked of the directory, 1 asked of the copy vault, 2 its chunks
are out, 3 registered; `live`: told to serve; `dropping`: its vault is told to drop it (R189). -/
structure CopyOut where
  key   : Nat
  vault : Nat
  slot  : Nat
  lease : Nat := 0
  live  : Bool := false
  phase : Nat := 0
  unacked : Nat := 0
  heat  : Nat := 0
  dropping : Bool := false
  deriving DecidableEq, Repr

/-- An invalidation not yet acknowledged (R188). -/
structure Inval where
  token : Nat
  key   : Nat
  line  : Nat
  vault : Nat
  write : Nat
  since : Nat
  deriving DecidableEq, Repr

/-- A vault's figures in the room table (R170). -/
structure Room where
  p : Nat
  h : Nat
  state : Nat
  deriving DecidableEq, Repr

/-- A PIECE held while its extent is frozen or reserved here (R176). -/
structure HeldPiece where
  peer  : Nat
  q     : ReqSub
  desc  : Bytes
  off   : Nat
  len   : Nat
  since : Nat
  deriving DecidableEq, Repr

/-- A directory entry that is being rebuilt (R178): requests for its key wait. -/
structure Rebuild where
  key   : Nat
  since : Nat
  deriving DecidableEq, Repr

/-- Placement (R158 to R200). `spare`: the slots that hold extents displaced by retirement (R35, R397). `hints`: of the extents homed here, the
hints and cooldown as their directory vaults last told; `anchors`: the anchors learned in this epoch; `asked`: candidates that wait for one (log entry
110). `refused`: slots whose move was refused in this epoch (R168). `dropLate`: drop notices refused with BUSY, sent again at the next epoch end
(R174). `heatCache`: the slots whose heat entries are in the on-die cache, latest first (R161). `epochAt`: the pool time from which the next epoch end
is looked for (R166). -/
structure Place where
  heat     : List (Nat × Heat) := []
  cand     : List Nat := []
  qMoves   : List (Nat × Nat × Nat) := []
  qCopies  : List (Nat × Nat × Nat) := []
  started  : Nat := 0
  dir      : List (Nat × DirEnt) := []
  cooling  : List Nat := []
  tcache   : List (Nat × List TEnt) := []
  tombs    : List Tomb := []
  slots    : List (Nat × SlotUse) := []
  spare    : List Nat := []
  migs     : List Mig := []
  migIns   : List MigIn := []
  copyIns  : List CopyIn := []
  copyOuts : List CopyOut := []
  invals   : List Inval := []
  nextTok  : Nat := 0
  frozenReqs : List HReq := []
  room     : List (Nat × Room) := []
  roomEpoch : Nat := 0
  epoch    : Nat := 0
  shift    : Nat := 4
  halfLife : Nat := 10000000000
  samples  : Nat := 0
  epochAt  : Nat := 0
  chunkAcks : List (Nat × Nat × ChunkSub) := []
  overFull : Bool := false
  drained  : Bool := false
  mapHeld  : List (Nat × Nat × Nat × Nat × Bool) := []
  hints    : List (Nat × MapEnt) := []
  anchors  : List (Nat × Nat) := []
  asked    : List Nat := []
  refused  : List Nat := []
  dropLate : List (Nat × Nat) := []
  heldPieces : List HeldPiece := []
  rebuilds : List Rebuild := []
  heatCache : List Nat := []
  deriving DecidableEq, Repr

/-! ### Persistence -/

/-- A mirror record sent and not acknowledged (R206, R208). -/
structure MRec where
  seq    : Nat
  stream : Nat
  run    : Run
  since  : Nat
  sync   : Bool := false
  deriving DecidableEq, Repr

/-- A write applied at this home and not completed (R203 step 7). `cls`: the class it asked for; `needHome`: it is served as class 2, or turned
home-safe. -/
structure HWrite where
  id      : Nat
  seq     : Nat
  gran    : Nat
  cls     : Nat
  origin  : Origin
  needHome : Bool := false
  homeOk  : Bool := false
  waitSeal : Bool := false
  deriving DecidableEq, Repr

/-- A home write in flight (R219, R222): the granule, the drives still to answer, its retry, the sequence it was read after and the bytes read. -/
structure HomeW where
  id     : Nat
  gran   : Nat
  drives : List Nat
  tries  : List Nat := []
  seq    : Nat
  flush  : Bool := false
  since  : Nat := 0
  data   : Bytes := []
  deriving DecidableEq, Repr

/-- A home drive (R211, R247). `state`: 0 out, 1 rebuilding, 2 in service, 3 rejected; `rebuild`: the granules a rebuild has still to
write, those below `marked` marked dirty already (R220). -/
structure Drive where
  state  : Nat := 0
  lbas   : Nat := 0
  fails  : Nat := 0
  link   : Bool := false
  key    : Nat := 0
  rebuild : List Nat := []
  marked : Nat := 0
  deriving DecidableEq, Repr

/-- A pool persist point as this vault runs it (R244, R245). -/
structure Point where
  number : Nat
  op     : Nat
  latch  : Nat
  grans  : List (Nat × Nat)
  failed : Bool := false
  deriving DecidableEq, Repr

/-- Persistence (R201 to R249). Granules are named by their home LBA (R213). `restoreTries`: the drives that have failed a granule's restore read
once (R545); `oldHome`: the granules whose home location still holds a released extent's data, which is not read again (R26). -/
structure Persist where
  seq     : Nat := 0
  acked   : List Nat := [0, 0]
  horizon : Nat := 0
  unacked : List MRec := []
  applied : List Nat := [0, 0]
  parts   : List Run := []
  ports   : Nat := 3
  mirroring : Bool := false
  dirty   : List Nat := []
  fresh   : List Nat := []
  lastSeq : List (Nat × Nat) := []
  shadow  : List Nat := []
  writes  : List HWrite := []
  nextId  : Nat := 0
  home    : List HomeW := []
  urgent  : List Nat := []
  waitAdmit : List HReq := []
  drives  : List (Nat × Drive) := []
  header  : Header := {}
  poisonTab : List (Nat × Nat × Nat) := []
  failed  : Bool := false
  throttled : Bool := false
  throttledAt : Nat := 0
  peersThrottled : List Nat := []
  state   : Nat := 0
  committedAt : Nat := 0
  snap    : Option (List Nat) := none
  flushLost : List Nat := []
  mapOut  : Option DirtyMap := none
  mapArea : Nat := 0
  flushTotal : Nat := 0
  maps    : List DirtyMap := [{}, {}]
  sealRec : Option (Nat × Nat) := none
  standbyFlush : Bool := false
  restoreCase : Nat := 0
  restoring : List Nat := []
  restoreWait : List (Nat × Nat) := []
  remoteReads : List (Nat × Nat × Nat × Nat) := []
  restored : Nat := 0
  restoreTries : List (Nat × Nat) := []
  restoreHold : List HReq := []
  oldHome : List Nat := []
  suspects : List Nat := []
  arrivals : List Arrival := []
  point    : Option Point := none
  pointNo  : Nat := 0
  pointStatus : Nat := 0
  pointLatch : Nat := 0
  pointMissed : Nat := 0
  opened   : Bool := false
  deriving DecidableEq, Repr

/-! ### Twin -/

/-- Twin operation (R250 to R282). `vals`, `told`: values of 0x2100 committed here, and told by the twin, that take effect at the next heartbeat frame
(R280). `tags`: an origin tag, its time, and the offset in its extent behind the last line applied under it (R148, R266); `atoms`: an origin tag,
the element applied under it and its time (R148). `resyncAll`: this device's own resync marks do not go back to its twin's last in-sync moment, so the next
resync is full (R273). -/
structure Twin where
  state    : Nat := 0
  claim    : Nat := 0
  claims   : List (Nat × Nat) := []
  latch    : Bool := false
  cause    : Nat := 0
  withdrawn : Bool := false
  watchdog : Nat := 0
  hearing  : Bool := false
  lastLife : Nat := 0
  lastFrame : Nat := 0
  frameSilent : Bool := true
  beat     : BeatClass := BeatClass.openPath
  beatAt   : Nat := 0
  shortAt  : Option Nat := none
  edges    : List Nat := []
  sentAt   : Option Nat := none
  syncSeq  : List (Nat × Nat) := []
  recs     : List (Nat × Nat) := []
  idleSince : Option Nat := none
  absent   : Bool := false
  signal   : Nat := 0
  peer     : Option Beat := none
  frameSeq : List (Nat × Nat) := []
  echo     : List (Nat × Nat) := []
  inSync   : Bool := false
  lastRec  : Nat := 0
  handover : Bool := false
  handAt   : Nat := 0
  handStatus : Nat := 0
  trigger  : Nat := 0
  claimNew : Nat := 0
  claimAt  : Nat := 0
  recorded : Bool := false
  drivesHeld : List Nat := []
  drivesTold : List Nat := []
  resync   : List Nat := []
  resyncMode : Nat := 0
  resyncSent : Nat := 0
  resyncOn : Bool := false
  resyncLast : Nat := 0
  resyncAt : Nat := 0
  resyncAll : Bool := false
  tags     : List (Nat × Nat × Nat × Nat) := []
  atoms    : List (Nat × Nat × Nat × Nat) := []
  reclaimed : Bool := false
  stale    : List Nat := []
  keptDram : Bool := false
  claimDoneAt : Nat := 0
  vals     : List (Nat × Nat) := []
  told     : List (Nat × Nat) := []
  deriving DecidableEq, Repr

/-! ### Hinge -/

/-- One direction pair of one virtual channel of a connection (R300, R305, R308). `given`, `told`: the credits granted to the peer, and those
of them it has been told of; `usedUp`: it has used those up (R305); `accAt`: when the first frame not yet acknowledged was accepted. -/
structure ChanSt where
  nextTx  : Nat := 0
  nextRx  : Nat := 0
  unacked : List Frame := []
  waiting : List FBody := []
  granted : Nat := 0
  given   : Nat := 0
  sent    : Nat := 0
  retries : Nat := 0
  sinceAck : Nat := 0
  oldest  : Nat := 0
  nakAt   : Option Nat := none
  usedUp  : Bool := false
  accAt   : Nat := 0
  told    : Nat := 0
  deriving DecidableEq, Repr

/-- A Hinge connection (R300, R303). `state`: 0 Closed, 1 Connecting, 2 Open; `rport`: the peer's port; `epochRx`: the peer's epoch; `room`: closed until another connection
makes room for it. -/
structure Conn where
  peer   : Nat
  port   : Nat
  rport  : Nat := port
  room   : Bool := false
  state  : Nat := 0
  epoch  : Nat := 0
  epochRx : Nat := 0
  keyGen : Nat := 0
  enc    : Bool := false
  init   : Nat := 0
  initRx : Nat := 0
  tries  : Nat := 0
  lastUse : Nat := 0
  retx   : Nat := 0
  tagFails : List Nat := []
  chans  : List ChanSt := [{}, {}, {}, {}]
  deriving DecidableEq, Repr

/-- A Hinge port (R283, R320). `paused`: priority, since when its pause is not yet counted, and its end (R311); `unsent`: frames that wait for the MAC
address of a next hop (R289); `headerCnt`: failures since source 114+4p was last raised (R294, R314); `tight`: of each channel, whether less
than a quarter of its buffer is free (R309). -/
structure XPort where
  link  : Nat := 0
  mode  : Nat := 0
  lanes : Nat := 0
  badLanes : List Nat := []
  paused : List (Nat × Nat × Nat) := []
  nd    : List (Nat × Nat × Nat) := []
  unsent : List (Nat × Frame) := []
  headerEvt : Option Nat := none
  headerCnt : Nat := 0
  tight : List Bool := [false, false, false, false]
  carriage : Nat := 0
  deriving DecidableEq, Repr

/-- The Hinge transport and the PTP port (R283 to R322). `unreach`: peer and port of connections that answered no CONNECT; `base`: pool
time less the clock; `syncAt`: the last Sync measured; `syncSent`, `annSent`, `reqSent`: the last Sync, Announce and Delay_Req sent; `wrapped`: the
epoch counter has come round under the present Hinge key generation (R313); `ether`, `udp`: EtherType and UDP port since the cold reset. -/
structure Hinge where
  roles  : Nat := 0
  ports  : List (Nat × XPort) := []
  conns  : List Conn := []
  epoch  : Nat := 0
  wrapped : Bool := false
  ether  : Nat := 0x88B5
  udp    : Nat := 49832
  unreach : List (Nat × Nat) := []
  ptpPort : Nat := 2
  ptpState : Nat := 1
  ptpOffset : Int := 0
  ptpDelay : Nat := 0
  ptpMaster : Nat := 0
  ptpPrio : Nat := 0xFF
  ptpQuality : Nat := 0xFFFFFFFF
  ptpPrio2 : Nat := 0xFF
  ptpAcc  : Nat := 0
  syncAt  : Nat := 0
  syncSent : Option Nat := none
  annSent : Option Nat := none
  reqSent : Option Nat := none
  base    : Int := 0
  freq    : Int := 0
  steps   : Nat := 0
  deriving DecidableEq, Repr

/-! ### The pool -/

/-- A volume record (R28). -/
structure Volume where
  state  : Nat := 0
  size   : Nat := 0
  newSize : Nat := 0
  cls    : Nat := 1
  label  : Nat := 0
  number : Nat := 0
  status : Nat := 0
  dev    : Nat := 0xFFFF
  deriving DecidableEq, Repr

/-- A latch operation this device holds (R338). `cast`: broadcast, its candidates having answered; `covered`, `missed`, `firstMissed`: what
its DONE says of the vaults below this device (R330, R340). -/
structure LatchOp where
  op    : Nat
  act   : Action
  latch : Nat
  late  : Bool := false
  cast  : Bool := false
  done  : Bool := false
  dones : List Nat := []
  status : Nat := 0
  covered : Nat := 0
  missed : Nat := 0
  firstMissed : Nat := 0xFFFF
  dev   : Nat := 0xFFFF
  deriving DecidableEq, Repr

/-- A release of a volume's range kept with the pool state (R543): generation, volume, its creation number, first extent. -/
structure Release where
  gen    : Nat
  volume : Nat
  number : Nat
  fromExt : Nat
  deriving DecidableEq, Repr

/-- Pool membership, the tree and global operations (R15 to R42, R323 to R349). `census`: what each device last counted for the pool's
totals (R28, R39); `low`: the pool's free capacity has fallen below 1/64 (R42). -/
structure Pool where
  id       : Nat := 0
  gen      : Nat := 0
  manGen   : Nat := 0
  entries  : List MEntry := []
  dirMap   : List (Nat × Nat) := []
  number   : Nat := noDev
  manStatus : Nat := 0
  root     : Nat := noDev
  term     : Nat := 0
  seen     : Nat := 0
  isRoot   : Bool := false
  authority : Bool := false
  parent   : Nat := noDev
  adopted  : List Nat := []
  present  : List Nat := []
  wave     : Nat := 0
  segments : List (Nat × List Nat) := []
  gather   : Nat := 0
  gathered : List (Nat × Bool) := []
  report   : List (Nat × Bool) := []
  waveOwed : Bool := false
  gatherAt : Nat := 0
  gatherSent : Nat := 0
  waveAt   : Nat := 0
  lastTick : Nat := 0
  candHeld : List (Nat × Bool) := []
  opNo     : Nat := 0
  ops      : List LatchOp := []
  queue    : List (Action × Nat) := []
  asked    : List (Action × Option (Nat × Nat)) := []
  results  : List (Nat × Nat) := []
  pointWait : List Nat := []
  pointFor : List Nat := []
  pointOp  : Nat × Nat := (0, 0)
  lastOp   : Nat := 0
  lastLatch : Nat := 0
  opStatus : Nat := 0
  opNumber : Nat := 0
  barrier  : Option (Nat × Nat × Nat) := none
  barrierAt : Nat := 0
  arrived  : List Nat := []
  joinState : Nat := 0
  transfers : List (Nat × Nat × Nat) := []
  mapWait  : List (Nat × Nat) := []
  vols     : List (Nat × Volume) := []
  lastNumber : Nat := 0
  releases : List Release := []
  appliedGen : Nat := 0
  shareStatus : Nat := 0
  shares   : List (Nat × (Nat × Nat × Nat)) := []
  resetDue : Option (Bool × Nat) := none
  census   : List (Nat × Census) := []
  low      : Bool := false
  deriving DecidableEq, Repr

/-! ### The lattice -/

/-- A request waiting at an arbiter (R365, R366). -/
structure LReq where
  src   : Nat
  cls   : Nat
  stamp : Nat
  units : Nat := 1
  lockLen : Nat := 0
  sat   : Bool := false
  deriving DecidableEq, Repr

/-- One arbiter (R356 to R371). Tables are 64 entries of cls + 8*lend, none being the default table (R360); `lock`: requester, units left and end;
`borrow`: the class of a borrowed grant; `satEvt`: the last event of a requester; `held`: requests held at their sources while the queue of their class
is full (R365). -/
structure Arb where
  active : List Nat := []
  gen    : Nat := 0
  swapAt : Nat := 0
  pending : Option (List Nat) := none
  queue  : List LReq := []
  held   : List LReq := []
  lock   : Option (Nat × Nat × Nat) := none
  borrow : Option Nat := none
  ptr    : Nat := 0
  grants : List Nat := [0, 0, 0, 0, 0, 0, 0, 0]
  borrowed : Nat := 0
  idle   : Nat := 0
  locks  : Nat := 0
  bound  : Nat := 0
  longest : Nat := 0
  sats   : Nat := 0
  satEvt : List (Nat × Nat) := []
  lockEvt : Option Nat := none
  deriving DecidableEq, Repr

/-- The lattice (R355 to R373). `senior`: the seniority entries in force, none being the defaults (R368); `origin`: the pool time slot 0 is
counted from (R354); `ovfAt`: the slot boundary the flush override works from (R364). -/
structure Lattice where
  arbs    : List (Nat × Arb) := []
  senior  : List Nat := []
  pendSenior : Option (List Nat × Nat) := none
  ovf : Bool := false
  ovfAt   : Nat := 0
  swapStatus : Nat := 0
  origin  : Nat := 0
  deriving DecidableEq, Repr

/-! ### DRAM and error correction -/

/-- A rank of a channel (R382, R396). `state`: 0 Absent, 1 In service, 2 Retiring, 3 Retired. -/
structure Rank where
  state : Nat := 0
  owed  : Nat := 0
  doubled : Bool := false
  hotAt : Option Nat := none
  serial : Nat := 0
  deriving DecidableEq, Repr

/-- A DRAM channel (R385 to R402). `state`: 0 Empty, 1 Training, 2 In service, 3 Retraining, 4 Self-refresh, 5 Frozen, 6 Offline;
`spd`: what its DIMMs' SPDs give, eight numbers each (R376); `driftAt`: its last drift check (R386); `status`, `trainTime`: of its last training; `since`: when the training in hand began; `alert`: its subchannels that stopped issuing;
`captured`: the command history captured, a free value; `leaving`: what a handover was started for (R392): 1 a retrain, 2 offline, 3 a return. -/
structure Chan where
  state  : Nat := 0
  ranks  : List (Nat × Rank) := []
  spd    : List Nat := []
  status : Nat := 0
  trainTime : Nat := 0
  since  : Nat := 0
  temp   : Int := 0
  alert  : List Nat := []
  episodes : Nat := 0
  failRun : Nat := 0
  fails  : Nat := 0
  captured : Option Nat := none
  lastUse : Nat := 0
  leaving : Nat := 0
  selfSince : Nat := 0
  driftAt : Nat := 0
  deriving DecidableEq, Repr

/-- DRAM as a whole (R374 to R403). `theirs`: the rank states of each channel as the twin told them, in the form of 0x3510+n:04 (R18, R396). -/
structure Dram where
  pop    : Nat := 0
  speed  : Nat := 0
  perChan : Nat := 0
  colBits : Nat := 7
  rowBits : Nat := 16
  chipBits : Nat := 0
  ranks2 : Nat := 0
  dimms2 : Nat := 0
  width  : Nat := 0
  masks  : List Nat := [0, 0x4080000, 0x8100000, 0x90000000, 0x120000000, 0x240000000]
  chans  : List (Nat × Chan) := []
  theirs : List (Nat × Nat) := []
  frozen : Nat := 0xFF
  readAddr : Nat := 0
  readData : Bytes := []
  reading : Option Nat := none
  waiting : List HReq := []
  deriving DecidableEq, Repr

/-- A twin repair in flight (R420). -/
structure Repair where
  line  : Nat
  since : Nat
  sent  : Bool := false
  metaArea : Bool := false
  waiters : List HReq := []
  deriving DecidableEq, Repr

/-- Error records of a channel (R412, R429). -/
structure EccChan where
  erased : List (Nat × Nat) := []
  counts : List (Nat × Nat) := []
  countsAt : Nat := 0
  corrected : Nat := 0
  uncorr : Nat := 0
  window : Nat := 0
  windowN : Nat := 0
  scrub  : Nat := 0
  scrubAt : Nat := 0
  passLines : Nat := 0
  passCorr : Nat := 0
  passUnc : Nat := 0
  passAllListed : Bool := true
  x8Evt : Option Nat := none
  deriving DecidableEq, Repr

/-- Data protection (R407 to R431). `poisoned`: poisoned line addresses. -/
structure Ecc where
  poisoned : List Nat := []
  list     : List PoisonEnt := []
  overflow : Bool := false
  repairs  : List Repair := []
  merge    : List Nat := []
  chans    : List (Nat × EccChan) := []
  selfTest : Nat := 0
  passEnd  : Nat := 0
  scrubbed : Nat := 0
  badDimm  : List (Nat × Nat × Nat) := []
  resend   : List (Nat × Nat × Nat) := []
  deadObjs : List Nat := []
  deriving DecidableEq, Repr

/-! ### The cipher engine -/

/-- A key slot (R437, R439). `state`: 0 Empty, 1 Loaded, 2 Erased, 3 Damaged. -/
structure KeySlot where
  state : Nat := 0
  kind  : Nat := 0
  gen   : Nat := 0
  kcv   : Nat := 0
  key   : Nat := 0
  ever  : Bool := false
  deriving DecidableEq, Repr

/-- A cipher context in use (R434). -/
structure CCtx where
  user  : CipherUser
  slot  : Nat
  gen   : Nat
  kind  : Nat := 0
  key   : Nat
  mode  : Nat
  ring  : Nat := 0
  idx   : Nat := 0
  hold  : Nat := 0
  len   : Nat := 0
  released : Nat := 0
  retried : Bool := false
  deriving DecidableEq, Repr

/-- The cipher engine (R432 to R451). `lost`: Hinge frames whose computation failed, not yet dropped: 0 sent or 1 received, port, sequence (R446). -/
structure Cipher where
  pipes   : BitVec 16 := BitVec.allOnes 16
  testFail : BitVec 16 := 0
  pipeFaults : List (Nat × List Nat) := []
  ctxs    : List (Nat × CCtx) := []
  slots   : List (Nat × KeySlot) := []
  faults  : Nat := 0
  reminded : List (Nat × Nat) := []
  waiting : List (Nat × Nat × Nat) := []
  outAt   : List (Nat × Nat) := []
  lost    : List (Nat × Nat × Nat) := []
  deriving DecidableEq, Repr

/-! ### Steward engines -/

/-- An engine (R454, R470). `state`: 0 running, 1 idle, 2 halted, 3 trapped, 4 loading. -/
structure Engine where
  state : Nat := 0
  cause : Nat := 0
  traps : Nat := 0
  recent : List Nat := []
  deriving DecidableEq, Repr

/-- One way of one set of a cluster cache (R462, R466). -/
structure CWay where
  tag   : Nat
  valid : Bool
  age   : Nat
  data  : Line
  poison : Bool := false
  prefetched : Bool := false
  deriving DecidableEq, Repr

/-- A fill in flight (R465, R468). `kind`: 0 demand, 1 prefetch, 2 streaming, 3 streaming prefetch, 4 lock-fill; `waiters`: the engines
its line goes to. -/
structure CFill where
  line   : Nat
  kind   : Nat
  way    : Nat := 0
  install : Bool := true
  waiters : List Nat := []
  deriving DecidableEq, Repr

/-- A merging-buffer entry (R464). -/
structure MEnt where
  line  : Nat
  data  : Line
  mask  : BitVec 64
  since : Nat
  poison : Bool := false
  deriving DecidableEq, Repr

/-- A cluster of eight engines with its cache (R452 to R469). `state`: 0 serving, 1 handing off, 2 updating, 3 Failed; `lockPend`: ways to
be locked once the fills on their way to them are in (R468). -/
structure Cluster where
  state  : Nat := 0
  locked : BitVec 16 := 0
  sets   : List (Nat × List (Nat × CWay)) := []
  fills  : List CFill := []
  merge  : List MEnt := []
  lockPend : List Nat := []
  updatedAt : Nat := 0
  image  : Nat := 0
  deriving DecidableEq, Repr

/-- An image slot (R456). `state`: 0 Invalid, 1 Valid, 2 running, 3 loading; `factory`: it holds the image of manufacture. -/
structure Image where
  state   : Nat := 0
  active  : Bool := false
  factory : Bool := false
  version : Nat := 0
  iface   : Nat := 0
  size    : Nat := 0
  deriving DecidableEq, Repr

/-- The steward engines (R452 to R472). `rollBack`: the cluster that ended the roll, while clusters reload the old image (R461). -/
structure Steward where
  engines  : List (Nat × Engine) := []
  clusters : List (Nat × Cluster) := []
  running  : Nat := 0
  images   : List Image := [{ state := 2, active := true, factory := true }, {}]
  actStatus : Nat := 0
  updating : Nat := 0xFF
  rollBack : Option Nat := none
  rollStop : Bool := false
  deriving DecidableEq, Repr

/-! ### The strongbox -/

/-- A physical sector (R473, R481): its programmed pages, its flag cell, and what its frame record counts of it. -/
structure Sector where
  pages : List (Nat × Bytes) := []
  pending : Bool := false
  erases : Nat := 0
  weak : Nat := 0
  progFails : Nat := 0
  due : Bool := false
  deriving DecidableEq, Repr

/-- A descriptor that waits or runs (R477). `op`: the opcode, or 7 for the erase of a gap frame; `bad`: the pages whose words do not
read clean; `phys`: the physical sector of a gap frame's erase; `retired`: a spare has taken the sector's place. -/
structure SbEntry where
  op   : Nat
  d    : SbDesc
  bad  : List Nat := []
  phys : Option Nat := none
  retired : Bool := false
  deriving DecidableEq, Repr

/-- A page program in hand: the pages done, the pulses of the page, the most pulses of any. -/
structure SbProg where
  entry  : SbEntry
  done   : Nat := 0
  pulses : Nat := 0
  most   : Nat := 0
  weak   : Bool := false
  deriving DecidableEq, Repr

/-- The work in hand at one plane (R482). `state`: 0 Idle, 1 Flagging, 2 Erasing, 3 Clearing, 4 Suspended, 5 Held; `flag`: pulses
of the flag cell; `forPrio`: priority or critical work has run, or will run, in the suspension. -/
structure Plane where
  state  : Nat := 0
  phys   : Nat := 0
  entry  : Option SbEntry := none
  pulses : Nat := 0
  flag   : Nat := 0
  since  : Nat := 0
  suspAt : Nat := 0
  forPrio : Bool := false
  prog   : Option SbProg := none
  deriving DecidableEq, Repr

/-- The strongbox array (R473 to R492). `since`: erases since the last gap move, `bootSince`: as the boot record last saved them;
`remap`: frames served by spares; `mapErased`: sectors of a written map area erased since. -/
structure Strongbox where
  sectors : List (Nat × Sector) := []
  planes  : List (Nat × Plane) := []
  queue   : List SbEntry := []
  gap     : Nat := 1999
  start   : Nat := 0
  since   : Nat := 0
  moveDue : Bool := false
  remap   : List (Nat × Nat) := []
  spares  : Nat := 0
  badFrames : List Nat := []
  total   : Nat := 0
  warned  : List Nat := []
  flushHold : Bool := false
  bootSeq : Nat := 0
  bootSince : Nat := 0
  buffers : List (Req × Bytes) := []
  lastDone : List (Req × Bytes) := []
  mapErased : List Nat := []
  deriving DecidableEq, Repr

/-! ### Events, recorder and counters -/

/-- The running part of an event source record (R494, R513). -/
structure Src where
  count  : Nat := 0
  last   : Nat := 0
  withheld : Nat := 0
  pending : Bool := false
  deriving DecidableEq, Repr

/-- A record (R498); `detail`: its bytes from 20 on (the continuation holds bytes 8 to 27 of it). -/
structure Rec where
  seq    : Nat
  source : Nat
  sev    : Nat := 0
  summary : Bool := false
  unlocked : Bool := false
  more   : Bool := false
  cont   : Bool := false
  time   : Nat := 0
  cause  : Nat := 0
  rep    : Nat := 0
  detail : Bytes := []
  deriving DecidableEq, Repr

/-- An open repeat window, or a token bucket, of one event code (R503). -/
structure Window where
  code   : Nat
  since  : Nat
  len    : Nat := 0
  bucket : Bool := false
  count  : Nat := 0
  tokens : Nat := 0
  time   : Nat := 0
  detail : Bytes := []
  deriving DecidableEq, Repr

/-- The running part of a counter record (R505 to R514). -/
structure Ctr where
  value : Nat := 0
  ovf : Bool := false
  page  : Nat := 0
  toSample : Nat := 0
  deriving DecidableEq, Repr

/-- A sample entry (R511). -/
structure Sample where
  counter : Nat
  skid    : Nat
  cls     : Nat
  src     : Nat
  sess    : Nat
  time    : Nat
  addr    : Nat
  latency : Nat := 0
  deriving DecidableEq, Repr

/-- The event recorder and the performance counters (R493 to R515). `handed`: source, cause and detail of the occurrence last passed to the steward
firmware (R494). `irq`: the first source of each path's next management interrupt (R497), keyed 0 and 1 for the I3C ports and 3 + p for host
port p. -/
structure Recorder where
  srcs    : List (Nat × Src) := []
  handed  : Option (Nat × Nat × Bytes) := none
  mode    : Nat := 0
  next    : Nat := 0
  buf     : List Rec := []
  circ    : List Rec := []
  circTail : List Rec := []
  first   : List Rec := []
  firstPend : List Rec := []
  firstTail : List Rec := []
  firstFull : Bool := false
  tailClean : Bool := false
  lost    : Nat := 0
  lostLow : Option Nat := none
  lostNow : Nat := 0
  windows : List Window := []
  irq     : List (Nat × Nat) := []
  irqAt   : List (Nat × Nat) := []
  alertBoot : Bool := false
  ctrs    : List (Nat × Ctr) := []
  localMask : BitVec 32 := 0
  latchMask : BitVec 32 := 0
  samples : List Sample := []
  sWritten : Nat := 0
  sRead   : Nat := 0
  sLost   : Nat := 0
  sLostAt : Option Nat := none
  sLostCtr : Nat := 0
  deriving DecidableEq, Repr

/-! ### Power -/

/-- Power, resets and the start order (R516 to R540, R331). -/
structure Power where
  state   : Nat := 1
  vaux    : Bool := true
  vauxMv  : Nat := 3300
  good    : Bool := false
  vmainMv : Nat := 0
  watts   : Nat := 0
  limiting : Bool := false
  throttling : Bool := false
  tempV   : Int := 0
  tempS   : Int := 0
  temp    : Int := 0
  highest : Int := 0
  hotSince : Option Nat := none
  coolSince : Option Nat := none
  evac    : Bool := false
  tripped : Bool := false
  pfail   : Nat := 1
  asserts : Nat := 0
  recent  : List Nat := []
  deassertAt : Option Nat := none
  highAt  : Option Nat := none
  reminded : Option Nat := none
  inReset : Bool := false
  warmReset : Bool := false
  cause   : Nat := 1
  warm    : Nat := 0
  deferred : Option (Bool × Nat) := none
  phase   : Nat := 0
  failStep : Nat := 0
  blocked : Bool := false
  coldAt  : Nat := 0
  resetAt : Nat := 0
  regFault : Bool := false
  ucie    : List Nat := [0, 1]
  ucieLanes : List (Nat × Nat) := []
  pllLost : Bool := false
  deriving DecidableEq, Repr

/-! ### The whole device -/

/-- The state of the device, and the queue of commands that wait for it. -/
structure State where
  pending  : List Instr
  now      : Nat
  fresh    : Nat
  out      : List Output
  mem      : List Host.Cell
  settings : List (Nat × Nat)
  dict     : Dict
  pace     : Pace
  host     : HostSt
  rings    : Rings
  place    : Place
  persist  : Persist
  twin     : Twin
  hinge    : Hinge
  pool     : Pool
  lattice  : Lattice
  dram     : Dram
  ecc      : Ecc
  cipher   : Cipher
  steward  : Steward
  sbox     : Strongbox
  rec_     : Recorder
  power    : Power
  deriving DecidableEq, Repr

/-- The device right after the cold reset that VAUX rising causes (R521, R525 cause 1): every object at its default,
nothing in DRAM, no manifest, no host served. -/
def State.reset : State where
  pending := []
  now := 0
  fresh := 0
  out := []
  mem := []
  settings := []
  dict := {}
  pace := {}
  host := {}
  rings := {}
  place := {}
  persist := {}
  twin := {}
  hinge := {}
  pool := {}
  lattice := {}
  dram := {}
  ecc := {}
  cipher := {}
  steward := {}
  sbox := {}
  rec_ := {}
  power := { inReset := true }

end Sys2Proof.Machine
end

