-- ==== Sys2Proof/Machine/Basics.lean ====
section
/-! DEFINITION. Maps and sets as sorted lists, byte strings, the CRC-32C, and the byte memory: what every other file of the
machine is built from. -/

namespace Sys2Proof.Machine

/-! ### Maps and sets -/

/-- The value a map holds under a key. -/
def assoc {α : Type} (m : List (Nat × α)) (k : Nat) : Option α :=
  match m with
  | [] => none
  | (k', v) :: m => if k = k' then some v else assoc m k

/-- The value under a key, or a default. -/
def getD {α : Type} (m : List (Nat × α)) (k : Nat) (d : α) : α := (assoc m k).getD d

/-- A map with a key set; keys stay rising. -/
def insertKey {α : Type} (k : Nat) (v : α) (m : List (Nat × α)) : List (Nat × α) :=
  match m with
  | [] => [(k, v)]
  | (k', v') :: m =>
    if k < k' then (k, v) :: (k', v') :: m
    else if k = k' then (k, v) :: m
    else (k', v') :: insertKey k v m

/-- A map without a key. -/
def eraseKey {α : Type} (k : Nat) (m : List (Nat × α)) : List (Nat × α) :=
  match m with
  | [] => []
  | (k', v') :: m => if k = k' then m else (k', v') :: eraseKey k m

/-- A map that lists no default entry, with a key set. -/
def putD {α : Type} [DecidableEq α] (m : List (Nat × α)) (k : Nat) (d v : α) : List (Nat × α) :=
  if v = d then eraseKey k m else insertKey k v m

/-- The entry under a key changed by a function, an absent one counting as the default. -/
def modD {α : Type} (m : List (Nat × α)) (k : Nat) (d : α) (f : α → α) : List (Nat × α) :=
  insertKey k (f (getD m k d)) m

/-- A sorted set with one more member. -/
def addSet (k : Nat) (l : List Nat) : List Nat :=
  match l with
  | [] => [k]
  | x :: l => if k < x then k :: x :: l else if k = x then x :: l else x :: addSet k l

/-- A set without a member. -/
def delSet (k : Nat) (l : List Nat) : List Nat := l.filter (· != k)

/-- The element at a place of a list, or a default. -/
def nth {α : Type} (l : List α) (i : Nat) (d : α) : α := (l[i]?).getD d

/-- A list with the element at a place changed. -/
def modNth {α : Type} (l : List α) (i : Nat) (f : α → α) : List α :=
  match l, i with
  | [], _ => []
  | x :: l, 0 => f x :: l
  | x :: l, i + 1 => x :: modNth l i f

/-- A list with the element at a place set. -/
def setNth {α : Type} (l : List α) (i : Nat) (v : α) : List α := modNth l i (fun _ => v)

/-- The least element of a list of numbers, or a default. -/
def minOf (l : List Nat) (d : Nat) : Nat := l.foldl min d

/-- The greatest element of a list of numbers, or a default. -/
def maxOf (l : List Nat) (d : Nat) : Nat := l.foldl max d

/-- Ceiling division. -/
def ceilDiv (a b : Nat) : Nat := (a + b - 1) / b

/-- An addition that stays at the field's largest value. -/
def satAdd (a b most : Nat) : Nat := min (a + b) most

/-! ### Bytes -/

/-- The `n` low bytes of a number, least significant first (R4). -/
def leBytes (n v : Nat) : Bytes :=
  match n with
  | 0 => []
  | n + 1 => BitVec.ofNat 8 v :: leBytes n (v / 256)

/-- The number a little-endian byte string holds (R4). -/
def fromLe (b : Bytes) : Nat :=
  match b with
  | [] => 0
  | x :: b => x.toNat + 256 * fromLe b

/-- The number in `n` bytes of a string from a place on. -/
def field (b : Bytes) (off n : Nat) : Nat := fromLe ((b.drop off).take n)

/-- Bits `[hi:lo]` of a number. -/
def bits (v hi lo : Nat) : Nat := v / 2 ^ lo % 2 ^ (hi + 1 - lo)

/-- Bit `i` of a number. -/
def bit (v i : Nat) : Bool := v.testBit i

/-- A truth value as a number. -/
def b2n (b : Bool) : Nat := if b then 1 else 0

/-- A two's complement number of `w` bits. -/
def ofInt (w : Nat) (i : Int) : Nat := (i % (2 ^ w : Nat)).toNat

/-- The integer a two's complement number of `w` bits stands for. -/
def toInt (w v : Nat) : Int := if v < 2 ^ (w - 1) then v else (v : Int) - (2 ^ w : Nat)

/-- One bit of the CRC-32C (R67): reflected polynomial 0x82F63B78. -/
def crcBit (c : Nat) : Nat := if c % 2 = 1 then (c / 2) ^^^ 0x82F63B78 else c / 2

/-- One byte of the CRC-32C. -/
def crcByte (c : Nat) (b : Byte) : Nat :=
  let x := c ^^^ b.toNat
  crcBit (crcBit (crcBit (crcBit (crcBit (crcBit (crcBit (crcBit x)))))))

/-- A running CRC-32C over a byte string. -/
def crcRun (c : Nat) (b : Bytes) : Nat := b.foldl crcByte c

/-- The CRC-32C of a byte string, all ones first and complemented last. -/
def crc32cOf (b : Bytes) : Nat := (crcRun 0xFFFFFFFF b) ^^^ 0xFFFFFFFF

/-- The 512-bit mask of a line's byte enables. -/
def beMask (be : BitVec 64) : Line :=
  (List.range 64).foldl (fun m i => if be.getLsbD i then m ||| ((0xFF : Line) <<< (8 * i)) else m) 0

/-- A line with the enabled bytes taken from another. -/
def mergeLine (old new : Line) (be : BitVec 64) : Line :=
  if be = BitVec.allOnes 64 then new else (new &&& beMask be) ||| (old &&& ~~~ beMask be)

/-- The bytes of a line. -/
def lineToBytes (l : Line) : Bytes := leBytes 64 l.toNat

/-- A line from its bytes. -/
def bytesToLine (b : Bytes) : Line := BitVec.ofNat 512 (fromLe (b.take 64))

/-! ### Memory -/

/-- The canonical form of memory: addresses strictly rise and no listed byte is zero, what an unlisted address reads as. -/
def Memory.wf (m : List Host.Cell) : Bool :=
  match m with
  | [] => true
  | [(_, v)] => v != 0
  | (k, v) :: (k', v') :: m => decide (k < k') && v != 0 && Memory.wf ((k', v') :: m)

/-- One byte. An address nothing has written reads as zero: DESIGN CHOICE beyond R25 and R26, log entry 3. -/
def Memory.read (m : List Host.Cell) (a : Nat) : Byte := getD m a 0

/-- A byte stored; storing zero removes the entry, so that equal memories are equal data. -/
def Memory.write (m : List Host.Cell) (a : Nat) (v : Byte) : List Host.Cell := putD m a 0 v

/-- A byte string from an address on. -/
def Memory.readBytes (m : List Host.Cell) (a n : Nat) : Bytes :=
  match n with
  | 0 => []
  | n + 1 => Memory.read m a :: Memory.readBytes m (a + 1) n

/-- A byte string stored from an address on. -/
def Memory.writeBytes (m : List Host.Cell) (a : Nat) (b : Bytes) : List Host.Cell :=
  match b with
  | [] => m
  | x :: b => Memory.writeBytes (Memory.write m a x) (a + 1) b

/-- The line at a line number. -/
def Memory.line (m : List Host.Cell) (ln : Nat) : Line := bytesToLine (Memory.readBytes m (64 * ln) 64)

/-- A line stored at a line number. -/
def Memory.setLine (m : List Host.Cell) (ln : Nat) (v : Line) : List Host.Cell := Memory.writeBytes m (64 * ln) (lineToBytes v)

/-- A range of bytes made zero. -/
def Memory.clear (m : List Host.Cell) (a n : Nat) : List Host.Cell := m.filter (fun c => c.1 < a || a + n ≤ c.1)

/-- The listed bytes of a range, moved by the difference of two addresses. -/
def Memory.shifted (m : List Host.Cell) (src dst n : Nat) : List Host.Cell :=
  (m.filter (fun c => src ≤ c.1 && c.1 < src + n)).map (fun c => (c.1 - src + dst, c.2))

/-- A range copied onto another range. -/
def Memory.copy (m : List Host.Cell) (src dst n : Nat) : List Host.Cell :=
  (Memory.shifted m src dst n).foldl (fun m c => Memory.write m c.1 c.2) (Memory.clear m dst n)

end Sys2Proof.Machine
end

