-- ==== Sys2Proof/Machine/Aes.lean ====
section
/-! DEFINITION. The AES block cipher (R432, FIPS 197), on blocks and keys held as little-endian numbers: byte 0 of a block or key is the
number's lowest byte. -/

namespace Sys2Proof.Machine

/-- The substitution of SubBytes (FIPS 197), 32 bytes a row: byte x is byte x mod 32 of row x div 32. -/
def aesSbox : List Nat := [
    0xC072A49CAFA2D4ADF04759FA7DC982CA76ABD7FE2B670130C56F6BF27B777C63,
    0x75B227EBE28012079A059618C323C7041531D871F1E5A534CCF73F362693FDB7,
    0xCF584C4A39BECB6A5BB1FC20ED00D153842FE329B3D63B52A05A6E1B1A2C8309,
    0xD2F3FF1021DAB6BCF5389D928F40A351A89F3C507F02F94585334D43FBAAEFD0,
    0xDB0B5EDE14B8EE4688902A22DC4F816073195D643D7EA7C41744975FEC130CCD,
    0x08AE7A65EAF4566CA94ED58D6D37C8E779E4959162ACD3C25C2406490A3A32E0,
    0x9E1DC186B95735610EF6034866B53E708A8BBD4B1F74DDE8C6B4A61C2E2578BA,
    0x16BB54B00F2D99416842E6BF0D89A18CDF2855CEE9871E9B948ED9691198F8E1]

/-- The substitution of the inverse cipher. -/
def aesInvSbox : List Nat := [
    0xCBE9DEC444438E3487FF2F9B8239E37CFBD7F3819EA340BF38A53630D56A0952,
    0x25D18B6D49A25B76B224D92866A12E084EC3FA420B954CEE3D23C2A632947B54,
    0x849D8DA75746155EDAB9EDFD5048706C92B6655DCC5CA4D41698688664F6F872,
    0x6B8A130103BDAFC1020F3FCA8F1E2CD00645B3B80558E4F70AD3BC8C00ABD890,
    0x6EDF751CE837F9E28535ADE72274AC9673E6B4F0CECFF297EADC674F4111913A,
    0xF45ACD78FEC0DB9A2079D2C64B3E56FC1BBE18AA0E62B76F89C5291D711AF147,
    0xEF9CC9939F7AE52D0D4AB519A97F51605FEC8027591012B131C7078833A8DD1F,
    0x7D0C2155631469E126D677BA7E042B17619953833CBBEBC8B0F52AAE4D3BE0A0]

/-- A byte looked up in a substitution. -/
def aesSub (t : List Nat) (x : Nat) : Nat := nth t (x / 32) 0 / 2 ^ (8 * (x % 32)) % 256

/-- A byte times x in the field of FIPS 197. -/
def aesX (a : Nat) : Nat := if a < 128 then 2 * a else (2 * a % 256) ^^^ 0x1B

/-- A byte times a constant below 16. -/
def aesMul (c a : Nat) : Nat :=
  (if c.testBit 0 then a else 0) ^^^ (if c.testBit 1 then aesX a else 0) ^^^ (if c.testBit 2 then aesX (aesX a) else 0) ^^^
    (if c.testBit 3 then aesX (aesX (aesX a)) else 0)

/-- The bytes of a number, lowest first. -/
def aesBytesOf (n v : Nat) : List Nat :=
  match n with
  | 0 => []
  | n + 1 => v % 256 :: aesBytesOf n (v / 256)

/-- The number of a list of bytes, lowest first. -/
def aesNum (l : List Nat) : Nat :=
  match l with
  | [] => 0
  | b :: l => b + 256 * aesNum l

/-- Each column times a circulant of constants: row r of a column takes c0 of itself and c1, c2, c3 of the rows after it. -/
def aesColumns (c0 c1 c2 c3 : Nat) (s : List Nat) : List Nat :=
  (List.range 16).map (fun i =>
    let at_ := fun k => nth s (i / 4 * 4 + (i + k) % 4) 0
    aesMul c0 (at_ 0) ^^^ aesMul c1 (at_ 1) ^^^ aesMul c2 (at_ 2) ^^^ aesMul c3 (at_ 3))

/-- ShiftRows: row r of column c comes from column c + r. -/
def aesShift (s : List Nat) : List Nat := (List.range 16).map (fun i => nth s ((i / 4 + i % 4) % 4 * 4 + i % 4) 0)

/-- The inverse of ShiftRows. -/
def aesUnshift (s : List Nat) : List Nat := (List.range 16).map (fun i => nth s ((i / 4 + 4 - i % 4) % 4 * 4 + i % 4) 0)

/-- Bytes combined by exclusive or. -/
def aesXor (a b : List Nat) : List Nat := List.zipWith (· ^^^ ·) a b

/-- Key expansion: `n` words after the words `w`, latest first, `nk` words in the key, `i` words there and `rcon` the next constant. -/
def aesExpand (nk i rcon : Nat) (w : List (List Nat)) (n : Nat) : List (List Nat) :=
  match n with
  | 0 => w
  | n + 1 =>
    let t := nth w 0 []
    let f := if i % nk = 0 then aesXor ((t.drop 1 ++ t.take 1).map (aesSub aesSbox)) [rcon, 0, 0, 0]
      else if 6 < nk ∧ i % nk = 4 then t.map (aesSub aesSbox) else t
    aesExpand nk (i + 1) (if i % nk = 0 then aesX rcon else rcon) (aesXor (nth w (nk - 1) []) f :: w) n

/-- The round keys of a key of `kb` bytes, 16 or 32, first to last: 11 or 15. -/
def aesRoundKeys (kb key : Nat) : List (List Nat) :=
  let nk := kb / 4
  let first := (List.range nk).map (fun i => aesBytesOf 4 (key / 2 ^ (32 * i)))
  let w := (aesExpand nk nk 1 first.reverse (4 * (nk + 7) - nk)).reverse
  (List.range (nk + 7)).map (fun r => ((w.drop (4 * r)).take 4).flatten)

/-- AES with a key of `kb` bytes on one 16-byte block (R432). -/
def aesEnc (kb key blk : Nat) : Nat :=
  match aesRoundKeys kb key with
  | [] => 0
  | k0 :: ks =>
    let s := ks.dropLast.foldl (fun s k => aesXor (aesColumns 2 3 1 1 (aesShift (s.map (aesSub aesSbox)))) k) (aesXor (aesBytesOf 16 blk) k0)
    aesNum (aesXor (aesShift (s.map (aesSub aesSbox))) (ks.getLastD []))

/-- The inverse cipher (R432). -/
def aesDec (kb key blk : Nat) : Nat :=
  match (aesRoundKeys kb key).reverse with
  | [] => 0
  | k0 :: ks =>
    let s := ks.dropLast.foldl (fun s k => aesColumns 14 11 13 9 (aesXor ((aesUnshift s).map (aesSub aesInvSbox)) k)) (aesXor (aesBytesOf 16 blk) k0)
    aesNum (aesXor ((aesUnshift s).map (aesSub aesInvSbox)) (ks.getLastD []))

/-! ### XTS-AES (R216, SP 800-38E) -/

/-- A tweak times the primitive element of the field of XTS. -/
def xtsNext (t : Nat) : Nat := if t < 2 ^ 127 then 2 * t else (2 * t % 2 ^ 128) ^^^ 0x87

/-- The blocks of a data unit under XTS, from the tweak `t` on, `n` of them. -/
def xtsRun (enc : Bool) (kb key : Nat) (b : Bytes) (t n : Nat) : Bytes :=
  match n with
  | 0 => []
  | n + 1 =>
    let x := field b 0 16 ^^^ t
    leBytes 16 ((if enc then aesEnc kb key x else aesDec kb key x) ^^^ t) ++ xtsRun enc kb key (b.drop 16) (xtsNext t) n

/-- A granule under XTS-AES (R216): `key` holds both keys of `kb` bytes, and its home LBA is the tweak. -/
def xtsGranule (enc : Bool) (kb key lba : Nat) (b : Bytes) : Bytes :=
  xtsRun enc kb (key % 2 ^ (8 * kb)) b (aesEnc kb (key / 2 ^ (8 * kb)) lba) 256

/-! ### Modes (R432, R433) -/

/-- Bytes of key material of a kind (R437). -/
def kindBytes (kind : Nat) : Nat := if kind = 1 then 16 else if kind = 4 then 64 else 32

/-- Bytes of an AES key of a kind: an XTS kind holds two. -/
def aesBytes (kind : Nat) : Nat := if kind = 1 ∨ kind = 3 then 16 else 32

/-- A 16-byte block of a byte string from a place on; a short one is filled with zeros. -/
def block (b : Bytes) (off : Nat) : Nat := field b off 16

/-- A block's 16 bytes as a number, most significant byte first. -/
def beOf (v : Nat) : Nat := fromLe (leBytes 16 v).reverse

/-- A counter block moved on by `k` as a 128-bit big-endian integer (R433). -/
def ctrPlus (c k : Nat) : Nat := beOf ((beOf c + k) % 2 ^ 128)

/-- A GCM counter block moved on by `k` in its last 32 bits (R433). -/
def gcmPlus (c k : Nat) : Nat := beOf (beOf c / 2 ^ 32 * 2 ^ 32 + (beOf c + k) % 2 ^ 32)

/-- The output blocks of an operation over `n` input blocks from block `i` on, `prev` the chained block: modes 1 CBC, 2 CTR,
3 CFB-128, 4 GCM (R142). -/
def modeRun (mode kb key : Nat) (enc : Bool) (iv prev : Nat) (b : Bytes) (i n : Nat) : Bytes :=
  match n with
  | 0 => []
  | n + 1 =>
    let x := block b (16 * i)
    let y :=
      if mode = 1 then (if enc then aesEnc kb key (x ^^^ prev) else aesDec kb key x ^^^ prev)
      else if mode = 3 then x ^^^ aesEnc kb key prev
      else if mode = 4 then x ^^^ aesEnc kb key (gcmPlus iv (i + 1))
      else x ^^^ aesEnc kb key (ctrPlus iv i)
    leBytes 16 y ++ modeRun mode kb key enc iv (if enc then y else x) b (i + 1) n

/-- The output of an operation over the first `len` bytes of its input. -/
def cipherOut (mode kb key : Nat) (enc : Bool) (iv : Nat) (b : Bytes) (len : Nat) : Bytes :=
  (modeRun mode kb key enc iv iv (b.take len) 0 (ceilDiv len 16)).take len

/-- Multiplication in the field of GHASH: `x`, `y` with their first bit most significant; bits of `x` from `k` - 1 down. -/
def ghashMul (x y z : Nat) (k : Nat) : Nat :=
  match k with
  | 0 => z
  | k + 1 =>
    ghashMul x (if y % 2 = 1 then (y / 2) ^^^ (0xE1 * 2 ^ 120) else y / 2) (if x.testBit k then z ^^^ y else z) k

/-- GHASH over the blocks of a byte string, from block `i` on. -/
def ghash (h : Nat) (b : Bytes) (acc i n : Nat) : Nat :=
  match n with
  | 0 => acc
  | n + 1 => ghash h b (ghashMul (acc ^^^ beOf (block b (16 * i))) h 0 128) (i + 1) n

/-- The GCM tag of a ciphertext with additional data (R433, SP 800-38D). -/
def gcmTagOf (kb key iv : Nat) (a c : Bytes) : Bytes :=
  let h := beOf (aesEnc kb key 0)
  let s := ghash h a 0 0 (ceilDiv a.length 16)
  let s := ghash h c s 0 (ceilDiv c.length 16)
  let s := ghashMul (s ^^^ (8 * a.length * 2 ^ 64 + 8 * c.length)) h 0 128
  leBytes 16 (beOf s ^^^ aesEnc kb key iv)

/-- The GCM tag of a ciphertext without additional data (R433). -/
def gcmTag (kb key iv : Nat) (c : Bytes) : Bytes := gcmTagOf kb key iv [] c

end Sys2Proof.Machine
end

