-- ==== Sys2Proof/Machine/Ops.lean ====
section
/-! DEFINITION. The named operations every meaning is built from: one updater a component of the state, the memory
operations, what the device shows the outside, and the clock. -/

namespace Sys2Proof.Machine

/-- The state with `out` changed. -/
def State.modOut (s : State) (f : List Output → List Output) : State := { s with out := f s.out }
/-- The state with `mem` changed. -/
def State.modMem (s : State) (f : List Host.Cell → List Host.Cell) : State := { s with mem := f s.mem }
/-- The state with `settings` changed. -/
def State.modSettings (s : State) (f : List (Nat × Nat) → List (Nat × Nat)) : State := { s with settings := f s.settings }
/-- The state with `dict` changed. -/
def State.modDict (s : State) (f : Dict → Dict) : State := { s with dict := f s.dict }
/-- The state with `pace` changed. -/
def State.modPace (s : State) (f : Pace → Pace) : State := { s with pace := f s.pace }
/-- The state with `host` changed. -/
def State.modHost (s : State) (f : HostSt → HostSt) : State := { s with host := f s.host }
/-- The state with `rings` changed. -/
def State.modRings (s : State) (f : Rings → Rings) : State := { s with rings := f s.rings }
/-- The state with `place` changed. -/
def State.modPlace (s : State) (f : Place → Place) : State := { s with place := f s.place }
/-- The state with `persist` changed. -/
def State.modPersist (s : State) (f : Persist → Persist) : State := { s with persist := f s.persist }
/-- The state with `twin` changed. -/
def State.modTwin (s : State) (f : Twin → Twin) : State := { s with twin := f s.twin }
/-- The state with `hinge` changed. -/
def State.modHinge (s : State) (f : Hinge → Hinge) : State := { s with hinge := f s.hinge }
/-- The state with `pool` changed. -/
def State.modPool (s : State) (f : Pool → Pool) : State := { s with pool := f s.pool }
/-- The state with `lattice` changed. -/
def State.modLattice (s : State) (f : Lattice → Lattice) : State := { s with lattice := f s.lattice }
/-- The state with `dram` changed. -/
def State.modDram (s : State) (f : Dram → Dram) : State := { s with dram := f s.dram }
/-- The state with `ecc` changed. -/
def State.modEcc (s : State) (f : Ecc → Ecc) : State := { s with ecc := f s.ecc }
/-- The state with `cipher` changed. -/
def State.modCipher (s : State) (f : Cipher → Cipher) : State := { s with cipher := f s.cipher }
/-- The state with `steward` changed. -/
def State.modSteward (s : State) (f : Steward → Steward) : State := { s with steward := f s.steward }
/-- The state with `sbox` changed. -/
def State.modSbox (s : State) (f : Strongbox → Strongbox) : State := { s with sbox := f s.sbox }
/-- The state with `rec_` changed. -/
def State.modRec (s : State) (f : Recorder → Recorder) : State := { s with rec_ := f s.rec_ }
/-- The state with `power` changed. -/
def State.modPower (s : State) (f : Power → Power) : State := { s with power := f s.power }

/-- The outcome of a command that goes on. -/
abbrev done (s : State) : Host.Outcome State Fault Refusal := .next s

/-- The outside sees one more thing. -/
def State.emit (s : State) (o : Output) : State := s.modOut (· ++ [o])

/-- The outside sees several more things. -/
def State.emits (s : State) (os : List Output) : State := s.modOut (· ++ os)

/-- The free number of this moment: a value the spec leaves open; no proof can see it. -/
def State.free (s : State) : Nat := Config.freeNat s.fresh

/-- The free line of this moment. -/
def State.freeLine (s : State) : Line := Config.freeLine s.fresh

/-- The next free value comes next. -/
def State.tick (s : State) : State := { s with fresh := s.fresh + 1 }

/-- The time base in ns of pool time (R354, R321). -/
def State.poolTime (s : State) : Nat := ((s.now : Int) + s.hinge.base).toNat

/-- Whether a length of time has passed since an instant. -/
def State.elapsed (s : State) (since len : Nat) : Bool := since + len ≤ s.now

/-! ### Lines of local memory -/

/-- The line number of a granule's first line: a granule is named by its place among all granules (64 lines each). -/
def granLine (g : Nat) : Nat := 64 * g

/-- The granule of a line. -/
def lineGran (ln : Nat) : Nat := ln / 64

/-- The local extent slot of a line (32,768 lines each, R33). -/
def lineSlot (ln : Nat) : Nat := ln / 32768

/-- The granule at a place in a slot (512 each). -/
def slotGran (slot g : Nat) : Nat := 512 * slot + g

/-- The line at a byte offset of a slot (R33). -/
def slotLine (slot off : Nat) : Nat := 32768 * slot + off / 64

/-- A line as DRAM holds it. -/
def State.line (s : State) (ln : Nat) : Line := Memory.line s.mem ln

/-- Whether a line is poisoned. -/
def State.linePoison (s : State) (ln : Nat) : Bool := s.ecc.poisoned.contains ln

/-- A line's poison set or cleared. -/
def State.setPoison (s : State) (ln : Nat) (p : Bool) : State :=
  s.modEcc (fun e => { e with poisoned := if p then addSet ln e.poisoned else delSet ln e.poisoned })

/-- A line written whole, with its poison. -/
def State.putLine (s : State) (ln : Nat) (v : Line) (p : Bool) : State :=
  (s.modMem (Memory.setLine · ln v)).setPoison ln p

/-- The poisoned lines of a range of lines. -/
def State.poisonIn (s : State) (ln n : Nat) : List Nat := s.ecc.poisoned.filter (fun x => ln ≤ x && x < ln + n)

/-- A slot zero-filled (R26): bytes and poison. -/
def State.zeroSlot (s : State) (slot : Nat) : State :=
  (s.modMem (Memory.clear · (extentBytes * slot) extentBytes)).modEcc
    (fun e => { e with poisoned := e.poisoned.filter (fun x => lineSlot x != slot) })

/-- A slot copied onto another, poison with it. -/
def State.copySlot (s : State) (src dst : Nat) : State :=
  (s.modMem (Memory.copy · (extentBytes * src) (extentBytes * dst) extentBytes)).modEcc
    (fun e =>
      let kept := e.poisoned.filter (fun x => lineSlot x != dst)
      let moved := (e.poisoned.filter (fun x => lineSlot x = src)).map (fun x => x - 32768 * src + 32768 * dst)
      { e with poisoned := moved.foldl (fun l x => addSet x l) kept })

end Sys2Proof.Machine
end

