-- ==== Sys2Proof/Machine/Objects.lean ====
section
/-! DEFINITION. The tables of objects, as the owning chapters give them (R43, R83): one row an object or a run of objects,
with its indices, subindices, type, access kind, read and write level, default, and the pieces of its range. -/

namespace Sys2Proof.Machine

/-- The types of R45 that objects have. -/
inductive Ty where
  | bool | u8 | u16 | u32 | u64 | i32 | i64 | time
  | bytes (n : Nat)
  | str (n : Nat)
  deriving DecidableEq, Repr

/-- The access kinds of R47, in the order R69 codes them. -/
inductive Acc where
  | ro | rw | rwc | rws | wo
  deriving DecidableEq, Repr

/-- A row of an object table. -/
structure Obj where
  lo  : Nat
  hi  : Nat
  s1  : Nat
  s2  : Nat
  ty  : Ty
  acc : Acc
  rl  : Nat
  wl  : Nat
  df  : Nat
  rng : List (Nat × Nat)
  deriving DecidableEq, Repr

/-- Objects of index 0x1000 on. -/
def objs10 : List Obj := [
  ⟨0x1000, 0x1000, 0x1, 0x1, (.str 16), .ro, 0, 255, 0, []⟩,
  ⟨0x1000, 0x1000, 0x2, 0x2, (.str 16), .ro, 0, 255, 0, []⟩,
  ⟨0x1000, 0x1000, 0x3, 0x3, (.str 16), .ro, 0, 255, 0, []⟩,
  ⟨0x1000, 0x1000, 0x4, 0x4, (.str 4), .ro, 0, 255, 0, []⟩,
  ⟨0x1000, 0x1000, 0x5, 0x5, (.bytes 16), .ro, 0, 255, 0, []⟩,
  ⟨0x1000, 0x1000, 0x6, 0x6, (.str 16), .ro, 0, 255, 0, []⟩,
  ⟨0x1000, 0x1000, 0x7, 0x7, .u16, .ro, 0, 255, 256, [(0, 65535)]⟩,
  ⟨0x1000, 0x1000, 0x8, 0x8, .u32, .ro, 0, 255, 116645, [(0, 4294967295)]⟩,
  ⟨0x1001, 0x1001, 0x1, 0x1, .time, .ro, 0, 255, 0, [(0, 18446744073709551615)]⟩,
  ⟨0x1001, 0x1001, 0x2, 0x2, .time, .ro, 0, 255, 0, [(0, 18446744073709551615)]⟩,
  ⟨0x1010, 0x1010, 0x1, 0x1, .u16, .ro, 1, 255, 0, [(650, 1300)]⟩,
  ⟨0x1010, 0x1010, 0x2, 0x2, .u16, .rws, 1, 1, 1000, [(800, 1150)]⟩,
  ⟨0x1010, 0x1010, 0x3, 0x3, .u16, .ro, 1, 255, 0, [(620, 880)]⟩,
  ⟨0x1010, 0x1010, 0x4, 0x4, .u16, .ro, 1, 255, 0, [(650, 1300)]⟩,
  ⟨0x1010, 0x1010, 0x5, 0x5, .u16, .ro, 1, 255, 0, [(650, 1300)]⟩,
  ⟨0x1010, 0x1010, 0x6, 0x6, .bool, .ro, 1, 255, 1, [(0, 1)]⟩,
  ⟨0x1010, 0x1010, 0x7, 0x7, .u16, .rws, 1, 1, 50, [(10, 200)]⟩]

/-- Objects of index 0x1F00 on. -/
def objs1F : List Obj := [
  ⟨0x1F00, 0x1F00, 0x1, 0x1, .u8, .wo, 255, 0, 0, [(1, 2)]⟩,
  ⟨0x1F00, 0x1F00, 0x2, 0x2, .u8, .wo, 255, 1, 0, [(1, 1)]⟩,
  ⟨0x1F00, 0x1F00, 0x3, 0x3, .u8, .wo, 255, 2, 0, [(1, 1)]⟩,
  ⟨0x1F00, 0x1F00, 0x4, 0x4, .u8, .wo, 255, 1, 0, [(1, 2)]⟩,
  ⟨0x1F00, 0x1F00, 0x5, 0x5, .u8, .ro, 0, 255, 0, [(0, 255)]⟩,
  ⟨0x1F00, 0x1F00, 0x6, 0x6, .u32, .ro, 0, 255, 0, [(0, 4294967295)]⟩,
  ⟨0x1F00, 0x1F00, 0x7, 0x7, .time, .rws, 1, 1, 60000000000, [(1000000000, 3600000000000)]⟩,
  ⟨0x1F00, 0x1F00, 0x8, 0x8, .u16, .ro, 0, 255, 0, [(0, 256)]⟩,
  ⟨0x1F00, 0x1F00, 0x9, 0x9, .u32, .ro, 1, 255, 0, [(0, 4294967295)]⟩,
  ⟨0x1F00, 0x1F00, 0xA, 0xA, .u8, .ro, 1, 255, 0, [(0, 255)]⟩,
  ⟨0x1F01, 0x1F01, 0x1, 0x1, .u8, .ro, 0, 255, 0, [(0, 3)]⟩,
  ⟨0x1F01, 0x1F01, 0x2, 0x2, .u8, .rws, 1, 2, 1, [(0, 1)]⟩,
  ⟨0x1F01, 0x1F01, 0x3, 0x3, .u8, .rws, 1, 2, 1, [(0, 1)]⟩,
  ⟨0x1F01, 0x1F01, 0x4, 0x4, .u8, .rws, 1, 2, 0, [(0, 1)]⟩,
  ⟨0x1F01, 0x1F01, 0x5, 0x5, .u8, .rws, 1, 2, 1, [(0, 1)]⟩,
  ⟨0x1F10, 0x1F10, 0x1, 0x1, (.bytes 32), .wo, 255, 0, 0, []⟩,
  ⟨0x1F10, 0x1F10, 0x2, 0x2, (.bytes 32), .wo, 255, 2, 0, []⟩,
  ⟨0x1F10, 0x1F10, 0x3, 0x3, .u8, .wo, 255, 0, 0, [(1, 1)]⟩,
  ⟨0x1F10, 0x1F10, 0x4, 0x4, .u8, .ro, 1, 255, 0, [(0, 1)]⟩,
  ⟨0x1F10, 0x1F10, 0x5, 0x5, .u16, .ro, 1, 255, 0, [(0, 65535)]⟩,
  ⟨0x1F10, 0x1F10, 0x6, 0x6, .time, .ro, 1, 255, 0, [(0, 1280000000000)]⟩,
  ⟨0x1F10, 0x1F10, 0x7, 0x7, .time, .rws, 1, 2, 300000000000, [(10000000000, 3600000000000)]⟩,
  ⟨0x1F20, 0x1F20, 0x1, 0x1, .time, .rws, 1, 1, 20000000, [(1000000, 1000000000)]⟩,
  ⟨0x1F20, 0x1F20, 0x2, 0x2, .time, .rws, 1, 1, 5000000000, [(100000000, 60000000000)]⟩,
  ⟨0x1F20, 0x1F20, 0x3, 0x3, .u8, .ro, 1, 255, 4, [(4, 4)]⟩,
  ⟨0x1F20, 0x1F20, 0x4, 0x4, .u8, .ro, 1, 255, 0, [(0, 8)]⟩,
  ⟨0x1F20, 0x1F20, 0x5, 0x5, .u32, .ro, 1, 255, 0, [(0, 4294967295)]⟩,
  ⟨0x1F20, 0x1F20, 0x6, 0x6, .u8, .ro, 1, 255, 0, [(0, 32)]⟩]

/-- Objects of index 0x2000 on, part 1. -/
def objs20a : List Obj := [
  ⟨0x2000, 0x2000, 0x1, 0x1, (.bytes 8), .ro, 1, 255, 0, []⟩,
  ⟨0x2000, 0x2000, 0x2, 0x2, .u64, .ro, 1, 255, 0, [(0, 18446744073709551615)]⟩,
  ⟨0x2000, 0x2000, 0x3, 0x3, .u32, .ro, 1, 255, 0, [(0, 4294967295)]⟩,
  ⟨0x2000, 0x2000, 0x4, 0x4, .u16, .ro, 1, 255, 65535, [(0, 65535), (65535, 65535)]⟩,
  ⟨0x2001, 0x2001, 0x1, 0x1, .u16, .rw, 1, 1, 0, [(0, 65535)]⟩,
  ⟨0x2001, 0x2001, 0x2, 0x2, (.bytes 128), .ro, 1, 255, 0, []⟩,
  ⟨0x2001, 0x2001, 0x3, 0x3, (.bytes 128), .rwc, 1, 2, 0, []⟩,
  ⟨0x2001, 0x2001, 0x4, 0x4, .u8, .rwc, 1, 2, 0, [(0, 3)]⟩,
  ⟨0x2001, 0x2001, 0x5, 0x5, .u8, .ro, 1, 255, 0, [(0, 255)]⟩,
  ⟨0x2002, 0x2002, 0x1, 0x1, (.bytes 8), .rws, 1, 1, 0, []⟩,
  ⟨0x2002, 0x2002, 0x2, 0x2, .u16, .rws, 1, 1, 65535, [(0, 65535)]⟩,
  ⟨0x2002, 0x2002, 0x3, 0x3, .u16, .rws, 1, 1, 65535, [(0, 65535)]⟩,
  ⟨0x2002, 0x2002, 0x4, 0x4, (.bytes 6), .rws, 1, 1, 0, []⟩,
  ⟨0x2002, 0x2002, 0x5, 0x5, (.bytes 16), .rws, 1, 1, 0, []⟩,
  ⟨0x2002, 0x2002, 0x6, 0x6, (.bytes 16), .rws, 1, 1, 0, []⟩,
  ⟨0x2002, 0x2002, 0x7, 0x7, .u8, .wo, 255, 1, 0, [(1, 1)]⟩,
  ⟨0x2002, 0x2002, 0x8, 0x8, (.bytes 6), .ro, 1, 255, 0, []⟩,
  ⟨0x2002, 0x2002, 0x9, 0x9, .u8, .ro, 1, 255, 0, [(0, 4)]⟩,
  ⟨0x2004, 0x2004, 0x1, 0x1, .u16, .rw, 1, 1, 0, [(0, 4095)]⟩,
  ⟨0x2004, 0x2004, 0x2, 0x2, .u16, .ro, 1, 255, 0, [(0, 32767)]⟩,
  ⟨0x2004, 0x2004, 0x3, 0x3, .u16, .rwc, 1, 2, 0, [(0, 65535)]⟩,
  ⟨0x2004, 0x2004, 0x4, 0x4, .u16, .ro, 1, 255, 0, [(0, 4096)]⟩,
  ⟨0x2008, 0x2008, 0x1, 0x1, .u16, .ro, 0, 255, 65535, [(0, 65535), (65535, 65535)]⟩,
  ⟨0x2008, 0x2008, 0x2, 0x2, .u16, .ro, 0, 255, 65535, [(0, 32767), (65535, 65535)]⟩,
  ⟨0x2008, 0x2008, 0x3, 0x3, .u16, .ro, 0, 255, 65535, [(0, 65535), (65535, 65535)]⟩,
  ⟨0x2008, 0x2008, 0x4, 0x4, .u32, .ro, 0, 255, 0, [(0, 65536)]⟩,
  ⟨0x2008, 0x2008, 0x5, 0x5, .u16, .ro, 0, 255, 0, [(0, 32768)]⟩,
  ⟨0x2008, 0x2008, 0x6, 0x6, .u32, .ro, 0, 255, 0, [(0, 65536)]⟩,
  ⟨0x2010, 0x2010, 0x1, 0x1, .u32, .ro, 1, 255, 0, [(0, 4194304)]⟩,
  ⟨0x2010, 0x2010, 0x2, 0x2, .u16, .rwc, 1, 1, 32, [(8, 64)]⟩]

/-- Objects of index 0x2000 on, part 2. -/
def objs20b : List Obj := [
  ⟨0x2010, 0x2010, 0x3, 0x3, .u32, .ro, 1, 255, 0, [(0, 4294967295)]⟩,
  ⟨0x2010, 0x2010, 0x4, 0x4, .u16, .rwc, 1, 1, 16, [(0, 64)]⟩,
  ⟨0x2010, 0x2010, 0x5, 0x5, .u32, .ro, 1, 255, 0, [(0, 4294967295)]⟩,
  ⟨0x2010, 0x2010, 0x6, 0x6, .u32, .ro, 1, 255, 0, [(0, 4294967295)]⟩,
  ⟨0x2010, 0x2010, 0x7, 0x7, .u32, .ro, 1, 255, 0, [(0, 4294967295)]⟩,
  ⟨0x2010, 0x2010, 0x8, 0x8, .u8, .rwc, 1, 1, 60, [(32, 63)]⟩,
  ⟨0x2010, 0x2010, 0x9, 0x9, .u32, .ro, 1, 255, 0, [(0, 4294967295)]⟩,
  ⟨0x2010, 0x2010, 0xA, 0xA, .u32, .ro, 1, 255, 0, [(0, 4294967295)]⟩,
  ⟨0x2010, 0x2010, 0xB, 0xB, .u32, .ro, 1, 255, 0, [(0, 4294967295)]⟩,
  ⟨0x2010, 0x2010, 0xC, 0xC, .u32, .ro, 1, 255, 0, [(0, 4294967295)]⟩,
  ⟨0x2010, 0x2010, 0xD, 0xD, .u32, .ro, 1, 255, 0, [(0, 4194304)]⟩,
  ⟨0x2010, 0x2010, 0xE, 0xE, .u8, .ro, 1, 255, 0, [(0, 255)]⟩,
  ⟨0x2011, 0x2011, 0x1, 0x1, .u64, .ro, 1, 255, 0, [(0, 18446744073709551615)]⟩,
  ⟨0x2011, 0x2011, 0x2, 0x2, .u64, .ro, 1, 255, 0, [(0, 18446744073709551615)]⟩,
  ⟨0x2011, 0x2011, 0x3, 0x3, .u64, .ro, 1, 255, 0, [(0, 18446744073709551615)]⟩,
  ⟨0x2011, 0x2011, 0x4, 0x4, .u64, .ro, 1, 255, 0, [(0, 18446744073709551615)]⟩,
  ⟨0x2020, 0x2020, 0x1, 0x1, .u16, .ro, 1, 255, 65535, [(0, 65535)]⟩,
  ⟨0x2020, 0x2020, 0x2, 0x2, .u32, .ro, 1, 255, 0, [(0, 4294967295)]⟩,
  ⟨0x2020, 0x2020, 0x3, 0x3, .u8, .ro, 1, 255, 0, [(0, 4)]⟩,
  ⟨0x2020, 0x2020, 0x4, 0x4, .u16, .ro, 1, 255, 65535, [(0, 65535)]⟩,
  ⟨0x2020, 0x2020, 0x5, 0x5, .u16, .ro, 1, 255, 0, [(0, 65535)]⟩,
  ⟨0x2020, 0x2020, 0x6, 0x6, .time, .rwc, 1, 1, 1000000000, [(100000000, 60000000000)]⟩,
  ⟨0x2020, 0x2020, 0x7, 0x7, .time, .rwc, 1, 1, 120000000000, [(10000000000, 3600000000000)]⟩,
  ⟨0x2020, 0x2020, 0x8, 0x8, .u8, .ro, 1, 255, 0, [(0, 2)]⟩,
  ⟨0x2020, 0x2020, 0x9, 0x9, .u8, .wo, 255, 1, 0, [(1, 1)]⟩,
  ⟨0x2020, 0x2020, 0xA, 0xA, .time, .rwc, 1, 1, 1000000000, [(100000000, 10000000000)]⟩,
  ⟨0x2020, 0x2020, 0xB, 0xB, .time, .rwc, 1, 1, 1000000000, [(100000000, 60000000000)]⟩,
  ⟨0x2020, 0x2020, 0xC, 0xC, .bool, .ro, 1, 255, 0, [(0, 1)]⟩,
  ⟨0x2020, 0x2020, 0xD, 0xD, .u64, .ro, 1, 255, 0, [(0, 18446744073709551615)]⟩]

/-- Objects of index 0x2000 on. -/
def objs20 : List Obj := objs20a ++ objs20b

/-- Objects of index 0x2100 on. -/
def objs21 : List Obj := [
  ⟨0x2100, 0x2100, 0x1, 0x1, .u8, .ro, 1, 255, 0, [(0, 9)]⟩,
  ⟨0x2100, 0x2100, 0x2, 0x2, .u64, .ro, 1, 255, 0, [(1, 18446744073709551615)]⟩,
  ⟨0x2100, 0x2100, 0x3, 0x3, .u64, .ro, 1, 255, 0, [(1, 18446744073709551615)]⟩,
  ⟨0x2100, 0x2100, 0x4, 0x4, .time, .rwc, 1, 1, 200000, [(50000, 10000000)]⟩,
  ⟨0x2100, 0x2100, 0x5, 0x5, .time, .rwc, 1, 1, 1000000, [(100000, 20000000)]⟩,
  ⟨0x2100, 0x2100, 0x6, 0x6, .time, .rwc, 1, 1, 1000000000, [(100000000, 60000000000)]⟩,
  ⟨0x2100, 0x2100, 0x7, 0x7, .time, .ro, 1, 255, 500000000, [(0, 18446744073709551615)]⟩,
  ⟨0x2100, 0x2100, 0x8, 0x8, .u8, .wo, 255, 1, 0, [(1, 1)]⟩,
  ⟨0x2100, 0x2100, 0x9, 0x9, .time, .rwc, 1, 1, 2000000, [(500000, 20000000)]⟩,
  ⟨0x2100, 0x2100, 0xA, 0xA, .u8, .ro, 1, 255, 0, [(0, 255)]⟩,
  ⟨0x2100, 0x2100, 0xB, 0xB, .bool, .ro, 1, 255, 0, [(0, 1)]⟩,
  ⟨0x2100, 0x2100, 0xC, 0xC, .u8, .ro, 1, 255, 0, [(0, 6)]⟩,
  ⟨0x2100, 0x2100, 0xD, 0xD, .time, .ro, 1, 255, 2000000, [(0, 18446744073709551615)]⟩,
  ⟨0x2110, 0x2110, 0x1, 0x1, .u8, .ro, 1, 255, 1, [(0, 1)]⟩,
  ⟨0x2110, 0x2110, 0x2, 0x2, .u8, .ro, 1, 255, 2, [(0, 4)]⟩,
  ⟨0x2110, 0x2110, 0x3, 0x3, .time, .ro, 1, 255, 0, [(0, 18446744073709551615)]⟩,
  ⟨0x2110, 0x2110, 0x4, 0x4, .u8, .ro, 1, 255, 0, [(0, 3)]⟩,
  ⟨0x2110, 0x2110, 0x5, 0x5, .time, .ro, 1, 255, 0, [(0, 18446744073709551615)]⟩,
  ⟨0x2120, 0x2120, 0x1, 0x1, .u8, .ro, 1, 255, 0, [(0, 2)]⟩,
  ⟨0x2120, 0x2120, 0x2, 0x2, .u64, .ro, 1, 255, 0, [(0, 18446744073709551615)]⟩,
  ⟨0x2120, 0x2120, 0x3, 0x3, .u64, .ro, 1, 255, 0, [(0, 18446744073709551615)]⟩,
  ⟨0x2120, 0x2120, 0x4, 0x4, .u8, .rwc, 1, 1, 0, [(0, 1)]⟩,
  ⟨0x2120, 0x2120, 0x5, 0x5, .u8, .wo, 255, 1, 0, [(1, 1)]⟩]

/-- Objects of index 0x2200 on, part 1. -/
def objs22a : List Obj := [
  ⟨0x2200, 0x2200, 0x1, 0x1, .u8, .rws, 1, 1, 0, [(0, 2)]⟩,
  ⟨0x2200, 0x2200, 0x2, 0x2, .u16, .rws, 1, 1, 34997, [(1536, 65535)]⟩,
  ⟨0x2200, 0x2200, 0x3, 0x3, .u16, .rws, 1, 1, 49832, [(1024, 65535)]⟩,
  ⟨0x2200, 0x2200, 0x4, 0x4, .u16, .ro, 1, 255, 0, [(0, 16384)]⟩,
  ⟨0x2200, 0x2200, 0x5, 0x5, .u16, .ro, 1, 255, 16384, [(0, 65535)]⟩,
  ⟨0x2200, 0x2200, 0x6, 0x6, .time, .rws, 1, 1, 10000000000, [(1000000, 600000000000)]⟩,
  ⟨0x2200, 0x2200, 0x7, 0x7, .u16, .rwc, 1, 2, 65535, [(0, 4095), (65535, 65535)]⟩,
  ⟨0x2200, 0x2200, 0x8, 0x8, .u16, .ro, 1, 255, 0, [(0, 65535)]⟩,
  ⟨0x2200, 0x2200, 0x9, 0x9, .u32, .ro, 1, 255, 0, [(0, 16777215)]⟩,
  ⟨0x2200, 0x2200, 0xA, 0xA, .time, .rws, 1, 1, 100000, [(10000, 10000000)]⟩,
  ⟨0x2210, 0x2213, 0x1, 0x1, .u8, .ro, 1, 255, 0, [(0, 4)]⟩,
  ⟨0x2210, 0x2213, 0x2, 0x2, .u16, .ro, 1, 255, 0, [(0, 0), (100, 100), (200, 200), (400, 400), (800, 800)]⟩,
  ⟨0x2210, 0x2213, 0x3, 0x3, .u16, .rws, 1, 1, 800, [(100, 100), (200, 200), (400, 400), (800, 800)]⟩,
  ⟨0x2210, 0x2213, 0x4, 0x4, .u8, .ro, 1, 255, 0, [(0, 255)]⟩,
  ⟨0x2210, 0x2213, 0x5, 0x5, .u8, .rws, 1, 1, 0, [(0, 1)]⟩,
  ⟨0x2210, 0x2213, 0x6, 0x6, .bool, .rws, 1, 1, 1, [(0, 1)]⟩,
  ⟨0x2210, 0x2213, 0x7, 0x7, .u8, .wo, 255, 1, 0, [(1, 1)]⟩,
  ⟨0x2210, 0x2213, 0x8, 0x8, .bool, .rwc, 1, 2, 0, [(0, 1)]⟩,
  ⟨0x2210, 0x2213, 0x9, 0x9, .u16, .rws, 1, 1, 0, [(0, 4094)]⟩,
  ⟨0x2210, 0x2213, 0xA, 0xA, .u16, .rws, 1, 1, 25906, [(0, 65535)]⟩,
  ⟨0x2210, 0x2213, 0xB, 0xB, .u32, .rws, 1, 1, 807933968, [(0, 4294967295)]⟩,
  ⟨0x2210, 0x2213, 0xC, 0xC, .bool, .rws, 1, 1, 0, [(0, 1)]⟩,
  ⟨0x2210, 0x2213, 0xD, 0xD, (.bytes 6), .ro, 1, 255, 0, []⟩,
  ⟨0x2210, 0x2213, 0xE, 0xE, (.bytes 16), .ro, 1, 255, 0, []⟩,
  ⟨0x2210, 0x2213, 0xF, 0xF, (.bytes 16), .rws, 1, 1, 0, []⟩,
  ⟨0x2210, 0x2213, 0x10, 0x10, .time, .rws, 1, 1, 0, [(5000, 10000000)]⟩,
  ⟨0x2210, 0x2213, 0x11, 0x11, .u8, .rws, 1, 1, 8, [(2, 32)]⟩,
  ⟨0x2210, 0x2213, 0x12, 0x12, .u64, .ro, 1, 255, 0, [(0, 18446744073709551615)]⟩,
  ⟨0x2210, 0x2213, 0x13, 0x13, .u64, .ro, 1, 255, 0, [(0, 18446744073709551615)]⟩,
  ⟨0x2210, 0x2213, 0x14, 0x14, .u8, .ro, 1, 255, 0, [(0, 2)]⟩]

/-- Objects of index 0x2200 on, part 2. -/
def objs22b : List Obj := [
  ⟨0x2230, 0x2230, 0x1, 0x1, .bool, .rws, 1, 1, 1, [(0, 1)]⟩,
  ⟨0x2230, 0x2230, 0x2, 0x2, .u8, .ro, 1, 255, 2, [(1, 3), (255, 255)]⟩,
  ⟨0x2230, 0x2230, 0x3, 0x3, .u8, .ro, 1, 255, 1, [(1, 9)]⟩,
  ⟨0x2230, 0x2230, 0x4, 0x4, .i64, .ro, 1, 255, 0, [(0, 18446744073709551615)]⟩,
  ⟨0x2230, 0x2230, 0x5, 0x5, .time, .ro, 1, 255, 0, [(0, 18446744073709551615)]⟩,
  ⟨0x2230, 0x2230, 0x6, 0x6, .u8, .rws, 1, 1, 250, [(0, 255)]⟩,
  ⟨0x2230, 0x2230, 0x7, 0x7, .u8, .rws, 1, 1, 250, [(0, 255)]⟩,
  ⟨0x2230, 0x2230, 0x8, 0x8, .u8, .rws, 1, 1, 0, [(0, 127)]⟩,
  ⟨0x2230, 0x2230, 0x9, 0x9, .i32, .rws, 1, 1, 4294967293, [(0, 0), (4294967289, 4294967295)]⟩,
  ⟨0x2230, 0x2230, 0xA, 0xA, .i32, .rws, 1, 1, 4294967293, [(0, 0), (4294967289, 4294967295)]⟩,
  ⟨0x2230, 0x2230, 0xB, 0xB, (.bytes 8), .ro, 1, 255, 0, []⟩,
  ⟨0x2230, 0x2230, 0xC, 0xC, .u8, .ro, 1, 255, 0, [(0, 3)]⟩,
  ⟨0x2230, 0x2230, 0xD, 0xD, .time, .rws, 1, 1, 50, [(10, 10000)]⟩,
  ⟨0x2240, 0x2240, 0x1, 0x1, .u16, .rw, 1, 1, 0, [(0, 65535)]⟩,
  ⟨0x2240, 0x2240, 0x2, 0x2, .u8, .rw, 1, 1, 0, [(0, 3)]⟩,
  ⟨0x2240, 0x2240, 0x3, 0x3, (.bytes 64), .ro, 1, 255, 0, []⟩]

/-- Objects of index 0x2200 on. -/
def objs22 : List Obj := objs22a ++ objs22b

/-- Objects of index 0x2300 on. -/
def objs23 : List Obj := [
  ⟨0x2300, 0x2300, 0x1, 0x1, .time, .ro, 1, 255, 8000, [(0, 18446744073709551615)]⟩,
  ⟨0x2300, 0x2300, 0x2, 0x2, .time, .rwc, 1, 1, 100000, [(50000, 1000000000)]⟩,
  ⟨0x2300, 0x2300, 0x3, 0x3, .time, .rwc, 1, 1, 100000000, [(1000000, 10000000000)]⟩,
  ⟨0x2300, 0x2300, 0x4, 0x4, .u64, .ro, 1, 255, 0, [(0, 18446744073709551615)]⟩,
  ⟨0x2300, 0x2300, 0x5, 0x5, .time, .ro, 1, 255, 0, [(0, 18446744073709551615)]⟩,
  ⟨0x2300, 0x2300, 0x6, 0x6, .time, .ro, 1, 255, 0, [(0, 18446744073709551615)]⟩,
  ⟨0x2310, 0x2310, 0x1, 0x1, .u8, .rwc, 1, 1, 0, [(0, 5)]⟩,
  ⟨0x2310, 0x2310, 0x2, 0x2, .u32, .rwc, 1, 1, 0, [(0, 4294967295)]⟩,
  ⟨0x2310, 0x2310, 0x3, 0x3, .u8, .ro, 1, 255, 0, [(0, 255)]⟩,
  ⟨0x2310, 0x2310, 0x4, 0x4, .u64, .ro, 1, 255, 0, [(0, 18446744073709551615)]⟩]

/-- Objects of index 0x3000 on. -/
def objs30 : List Obj := [
  ⟨0x3000, 0x3000, 0x1, 0x1, .u8, .rws, 1, 1, 0, [(0, 1)]⟩,
  ⟨0x3000, 0x3000, 0x2, 0x2, .u8, .rws, 1, 1, 0, [(0, 1)]⟩,
  ⟨0x3000, 0x3000, 0x3, 0x3, .u16, .ro, 1, 255, 0, [(0, 16384)]⟩,
  ⟨0x3000, 0x3000, 0x4, 0x4, .time, .rws, 1, 1, 500000, [(10000, 100000000)]⟩,
  ⟨0x3000, 0x3000, 0x5, 0x5, .time, .rws, 1, 1, 1000000, [(100000, 100000000)]⟩,
  ⟨0x3000, 0x3000, 0x6, 0x6, .bool, .rw, 1, 2, 0, [(0, 1)]⟩,
  ⟨0x3000, 0x3000, 0x7, 0x7, .time, .rws, 1, 1, 10000000000, [(1000000000, 600000000000)]⟩,
  ⟨0x3000, 0x3000, 0x8, 0x8, .u32, .ro, 1, 255, 0, [(0, 4294967295)]⟩,
  ⟨0x3010, 0x3017, 0x1, 0x1, .u8, .ro, 1, 255, 0, [(0, 4)]⟩,
  ⟨0x3010, 0x3017, 0x2, 0x2, .u8, .ro, 1, 255, 0, [(0, 0), (32, 32), (64, 64)]⟩,
  ⟨0x3010, 0x3017, 0x3, 0x3, .u8, .rws, 1, 1, 64, [(32, 32), (64, 64)]⟩,
  ⟨0x3010, 0x3017, 0x4, 0x4, .u8, .ro, 1, 255, 0, [(0, 0), (4, 4), (8, 8), (16, 16)]⟩,
  ⟨0x3010, 0x3017, 0x5, 0x5, .u8, .ro, 1, 255, 0, [(0, 0), (2, 2), (3, 3)]⟩,
  ⟨0x3010, 0x3017, 0x6, 0x6, .bool, .rws, 1, 1, 1, [(0, 1)]⟩,
  ⟨0x3010, 0x3017, 0x7, 0x7, .u8, .wo, 255, 1, 0, [(1, 1)]⟩,
  ⟨0x3010, 0x3017, 0x8, 0x8, .u8, .rws, 1, 1, 16, [(1, 16)]⟩,
  ⟨0x3010, 0x3017, 0x9, 0x9, .u16, .ro, 1, 255, 65535, [(0, 4094), (65535, 65535)]⟩,
  ⟨0x3010, 0x3017, 0xA, 0xA, .u32, .ro, 1, 255, 0, [(0, 4294967295)]⟩]

/-- Objects of index 0x3100 on. -/
def objs31 : List Obj := [
  ⟨0x3100, 0x3100, 0x1, 0x1, .u16, .ro, 1, 255, 0, [(0, 4096)]⟩,
  ⟨0x3100, 0x3100, 0x2, 0x2, .time, .rws, 1, 1, 10000000, [(1000000, 1000000000)]⟩,
  ⟨0x3100, 0x3100, 0x3, 0x3, .u64, .ro, 1, 255, 0, [(0, 18446744073709551615)]⟩,
  ⟨0x3100, 0x3100, 0x4, 0x4, .u64, .ro, 1, 255, 0, [(0, 18446744073709551615)]⟩,
  ⟨0x3100, 0x3100, 0x5, 0x5, .u64, .ro, 1, 255, 0, [(0, 18446744073709551615)]⟩,
  ⟨0x3100, 0x3100, 0x6, 0x6, .u16, .ro, 1, 255, 0, [(0, 1024)]⟩,
  ⟨0x3100, 0x3100, 0x7, 0x7, .u16, .rws, 1, 1, 1024, [(64, 1024)]⟩,
  ⟨0x3110, 0x3110, 0x1, 0x1, (.bytes 64), .wo, 255, 0, 0, []⟩,
  ⟨0x3110, 0x3110, 0x2, 0x2, .u16, .wo, 255, 0, 0, [(0, 4095)]⟩,
  ⟨0x3110, 0x3110, 0x3, 0x3, .u16, .wo, 255, 0, 0, [(0, 4095)]⟩,
  ⟨0x3111, 0x3111, 0x1, 0x1, (.bytes 65536), .ro, 0, 255, 0, []⟩]

/-- Objects of index 0x3200 on, part 1. -/
def objs32a : List Obj := [
  ⟨0x3200, 0x3200, 0x1, 0x1, .bool, .rws, 1, 1, 1, [(0, 1)]⟩,
  ⟨0x3200, 0x3200, 0x2, 0x2, .time, .rwc, 1, 1, 1000000000, [(100000000, 10000000000)]⟩,
  ⟨0x3200, 0x3200, 0x3, 0x3, .time, .rws, 1, 1, 10000000000, [(1000000000, 600000000000)]⟩,
  ⟨0x3200, 0x3200, 0x4, 0x4, .u16, .ro, 1, 255, 61147, [(1, 65535)]⟩,
  ⟨0x3200, 0x3200, 0x5, 0x5, .u8, .rws, 1, 1, 4, [(0, 10)]⟩,
  ⟨0x3200, 0x3200, 0x6, 0x6, .u16, .ro, 1, 255, 10, [(1, 6000)]⟩,
  ⟨0x3210, 0x3210, 0x1, 0x1, .u32, .rws, 1, 1, 2200, [(0, 100000)]⟩,
  ⟨0x3210, 0x3210, 0x2, 0x2, .u32, .rws, 1, 1, 2200, [(0, 100000)]⟩,
  ⟨0x3210, 0x3210, 0x3, 0x3, .u32, .rws, 1, 1, 2200, [(0, 100000)]⟩,
  ⟨0x3210, 0x3210, 0x4, 0x4, .u32, .rws, 1, 1, 64, [(1, 4294967295)]⟩,
  ⟨0x3210, 0x3210, 0x5, 0x5, .u32, .rws, 1, 1, 500000, [(0, 4294967295)]⟩,
  ⟨0x3210, 0x3210, 0x6, 0x6, .u8, .rws, 1, 1, 16, [(0, 63)]⟩,
  ⟨0x3210, 0x3210, 0x7, 0x7, .u8, .rws, 1, 1, 4, [(0, 64)]⟩,
  ⟨0x3210, 0x3210, 0x8, 0x8, .u32, .rws, 1, 1, 500000, [(0, 4294967295)]⟩,
  ⟨0x3210, 0x3210, 0x9, 0x9, .u32, .rws, 1, 1, 16, [(0, 4294967295)]⟩,
  ⟨0x3210, 0x3210, 0xA, 0xA, .u8, .rws, 1, 1, 4, [(0, 4)]⟩,
  ⟨0x3210, 0x3210, 0xB, 0xB, .time, .rws, 1, 1, 30000000000, [(1000000000, 3600000000000)]⟩,
  ⟨0x3210, 0x3210, 0xC, 0xC, .u32, .rws, 1, 1, 1000000, [(0, 4294967295)]⟩,
  ⟨0x3220, 0x3220, 0x1, 0x1, .u16, .rws, 1, 1, 256, [(0, 4096)]⟩,
  ⟨0x3220, 0x3220, 0x2, 0x2, .u8, .rws, 1, 1, 8, [(1, 32)]⟩,
  ⟨0x3220, 0x3220, 0x3, 0x3, .u8, .rws, 1, 1, 8, [(1, 32)]⟩,
  ⟨0x3220, 0x3220, 0x4, 0x4, .time, .rws, 1, 1, 20000, [(5000, 20000)]⟩,
  ⟨0x3220, 0x3220, 0x5, 0x5, .u16, .rws, 1, 1, 64, [(1, 512)]⟩,
  ⟨0x3220, 0x3220, 0x6, 0x6, .u8, .rws, 1, 1, 4, [(1, 8)]⟩,
  ⟨0x3220, 0x3220, 0x7, 0x7, .time, .rws, 1, 1, 1000000000, [(100000000, 10000000000)]⟩,
  ⟨0x3220, 0x3220, 0x8, 0x8, .u8, .rws, 1, 1, 48, [(16, 60)]⟩,
  ⟨0x3220, 0x3220, 0x9, 0x9, .u8, .rwc, 1, 1, 0, [(0, 2)]⟩,
  ⟨0x3220, 0x3220, 0xA, 0xA, .time, .rws, 1, 1, 1000000, [(100000, 100000000)]⟩,
  ⟨0x3220, 0x3220, 0xB, 0xB, .time, .ro, 1, 255, 1000, [(0, 18446744073709551615)]⟩,
  ⟨0x3220, 0x3220, 0xC, 0xC, .time, .rws, 1, 1, 10000000000, [(1000000000, 600000000000)]⟩]

/-- Objects of index 0x3200 on, part 2. -/
def objs32b : List Obj := [
  ⟨0x3230, 0x3230, 0x1, 0x1, .u8, .ro, 0, 255, 0, [(0, 32)]⟩,
  ⟨0x3230, 0x3230, 0x2, 0x2, .u8, .ro, 0, 255, 0, [(0, 32)]⟩,
  ⟨0x3230, 0x3230, 0x3, 0x3, .u16, .ro, 0, 255, 0, [(0, 4096)]⟩,
  ⟨0x3230, 0x3230, 0x4, 0x4, .u32, .ro, 0, 255, 0, [(0, 4294967295)]⟩,
  ⟨0x3230, 0x3230, 0x5, 0x5, .u32, .ro, 0, 255, 0, [(0, 4294967295)]⟩,
  ⟨0x3230, 0x3230, 0x6, 0x6, .u32, .ro, 0, 255, 0, [(0, 65536)]⟩,
  ⟨0x3230, 0x3230, 0x7, 0x7, .u32, .ro, 0, 255, 0, [(0, 524288)]⟩,
  ⟨0x3230, 0x3230, 0x8, 0x8, .u8, .wo, 255, 1, 0, [(1, 1)]⟩,
  ⟨0x3230, 0x3230, 0x9, 0x9, .u64, .ro, 1, 255, 0, [(0, 18446744073709551615)]⟩,
  ⟨0x3230, 0x3230, 0xA, 0xA, .u64, .ro, 1, 255, 0, [(0, 18446744073709551615)]⟩,
  ⟨0x3240, 0x3240, 0x1, 0x1, .u32, .rw, 1, 1, 0, [(0, 4194303)]⟩,
  ⟨0x3240, 0x3240, 0x2, 0x2, (.bytes 32), .ro, 1, 255, 0, []⟩,
  ⟨0x3240, 0x3240, 0x3, 0x3, .u64, .rw, 1, 1, 0, [(0, 549755813887)]⟩,
  ⟨0x3240, 0x3240, 0x4, 0x4, (.bytes 32), .ro, 1, 255, 0, []⟩]

/-- Objects of index 0x3200 on. -/
def objs32 : List Obj := objs32a ++ objs32b

/-- Objects of index 0x3300 on, part 1. -/
def objs33a : List Obj := [
  ⟨0x3300, 0x3300, 0x1, 0x1, .time, .rwc, 1, 1, 4000000000, [(100000000, 60000000000)]⟩,
  ⟨0x3300, 0x3300, 0x2, 0x2, .time, .rwc, 1, 1, 200000000, [(50000000, 2000000000)]⟩,
  ⟨0x3300, 0x3300, 0x3, 0x3, .u8, .rwc, 1, 1, 48, [(16, 60)]⟩,
  ⟨0x3300, 0x3300, 0x4, 0x4, .u32, .ro, 1, 255, 0, [(0, 240000)]⟩,
  ⟨0x3300, 0x3300, 0x5, 0x5, .u64, .ro, 0, 255, 0, [(0, 18446744073709551615)]⟩,
  ⟨0x3300, 0x3300, 0x6, 0x6, .u64, .ro, 0, 255, 0, [(0, 18446744073709551615)]⟩,
  ⟨0x3300, 0x3300, 0x7, 0x7, .u32, .rwc, 1, 1, 65536, [(4096, 1048576)]⟩,
  ⟨0x3300, 0x3300, 0x8, 0x8, .bool, .ro, 1, 255, 0, [(0, 1)]⟩,
  ⟨0x3300, 0x3300, 0x9, 0x9, .u8, .ro, 1, 255, 0, [(0, 4)]⟩,
  ⟨0x3300, 0x3300, 0xA, 0xA, .time, .rwc, 1, 1, 1000000000, [(100000000, 60000000000)]⟩,
  ⟨0x3300, 0x3300, 0xB, 0xB, .u8, .rwc, 1, 1, 0, [(0, 1)]⟩,
  ⟨0x3300, 0x3300, 0xC, 0xC, .u8, .rwc, 1, 1, 0, [(0, 1)]⟩,
  ⟨0x3300, 0x3300, 0xD, 0xD, .u32, .ro, 1, 255, 0, [(0, 4294967295)]⟩,
  ⟨0x3300, 0x3300, 0xE, 0xE, .u32, .ro, 1, 255, 0, [(0, 4294967295)]⟩,
  ⟨0x3300, 0x3300, 0xF, 0xF, .u8, .rwc, 1, 1, 0, [(0, 1)]⟩,
  ⟨0x3300, 0x3300, 0x10, 0x10, .time, .rwc, 1, 1, 10000000000, [(1000000000, 600000000000)]⟩,
  ⟨0x3310, 0x3310, 0x1, 0x1, .u8, .rwc, 1, 1, 0, [(0, 16)]⟩,
  ⟨0x3310, 0x3310, 0x2, 0x2, .u8, .rwc, 1, 1, 0, [(0, 1)]⟩,
  ⟨0x3310, 0x3310, 0x3, 0x3, .u32, .rwc, 1, 1, 1, [(1, 4294967294)]⟩,
  ⟨0x3310, 0x3310, 0x4, 0x4, .u16, .rwc, 1, 2, 65535, [(0, 4095), (65535, 65535)]⟩,
  ⟨0x3310, 0x3310, 0x5, 0x5, .u16, .ro, 1, 255, 0, [(0, 65535)]⟩,
  ⟨0x3310, 0x3310, 0x6, 0x6, .u32, .ro, 1, 255, 0, [(0, 4294967295)]⟩,
  ⟨0x3310, 0x3310, 0x7, 0x7, .u8, .ro, 1, 255, 0, [(0, 4)]⟩,
  ⟨0x3310, 0x3310, 0x8, 0x8, .time, .rwc, 1, 1, 100000000, [(1000000, 10000000000)]⟩,
  ⟨0x3320, 0x3320, 0x1, 0x1, .bool, .rwc, 1, 1, 1, [(0, 1)]⟩,
  ⟨0x3320, 0x3320, 0x2, 0x2, .u8, .rwc, 1, 1, 16, [(0, 63)]⟩,
  ⟨0x3320, 0x3320, 0x3, 0x3, .u16, .rwc, 1, 1, 64, [(1, 1024)]⟩,
  ⟨0x3330, 0x3330, 0x1, 0x1, .time, .rwc, 1, 1, 0, [(0, 0), (1000000000, 3600000000000)]⟩,
  ⟨0x3330, 0x3330, 0x2, 0x2, .u64, .ro, 0, 255, 0, [(0, 18446744073709551615)]⟩,
  ⟨0x3330, 0x3330, 0x3, 0x3, .u8, .ro, 0, 255, 0, [(0, 255)]⟩]

/-- Objects of index 0x3300 on, part 2. -/
def objs33b : List Obj := [
  ⟨0x3330, 0x3330, 0x4, 0x4, .time, .ro, 0, 255, 0, [(0, 18446744073709551615)]⟩,
  ⟨0x3330, 0x3330, 0x5, 0x5, .time, .rwc, 1, 1, 10000000000, [(1000000000, 600000000000)]⟩,
  ⟨0x3330, 0x3330, 0x6, 0x6, .u32, .ro, 1, 255, 0, [(0, 32768)]⟩,
  ⟨0x3340, 0x334F, 0x1, 0x1, .u8, .rw, 1, 1, 0, [(0, 3)]⟩,
  ⟨0x3340, 0x334F, 0x2, 0x2, .u32, .rwc, 1, 1, 2000, [(100, 15000)]⟩,
  ⟨0x3340, 0x334F, 0x3, 0x3, .u64, .ro, 1, 255, 0, [(0, 18446744073709551615)]⟩,
  ⟨0x3340, 0x334F, 0x4, 0x4, .u32, .ro, 1, 255, 0, [(0, 4294967295)]⟩,
  ⟨0x3340, 0x334F, 0x5, 0x5, .u32, .ro, 1, 255, 0, [(0, 8257536)]⟩,
  ⟨0x3340, 0x334F, 0x6, 0x6, .bool, .rwc, 1, 1, 0, [(0, 1)]⟩,
  ⟨0x3350, 0x3350, 0x1, 0x1, .u64, .ro, 1, 255, 0, [(0, 18446744073709551615)]⟩,
  ⟨0x3350, 0x3350, 0x2, 0x2, .u64, .ro, 1, 255, 0, [(0, 18446744073709551615)]⟩,
  ⟨0x3350, 0x3350, 0x3, 0x3, .u8, .ro, 1, 255, 3, [(0, 3)]⟩]

/-- Objects of index 0x3300 on. -/
def objs33 : List Obj := objs33a ++ objs33b

/-- Objects of index 0x3400 on. -/
def objs34 : List Obj := [
  ⟨0x3400, 0x3400, 0x1, 0x1, .time, .ro, 1, 255, 8000, [(0, 18446744073709551615)]⟩,
  ⟨0x3400, 0x3400, 0x2, 0x2, .time, .ro, 1, 255, 125, [(0, 18446744073709551615)]⟩,
  ⟨0x3400, 0x3400, 0x3, 0x3, .u8, .ro, 1, 255, 16, [(0, 255)]⟩,
  ⟨0x3400, 0x3400, 0x4, 0x4, .time, .ro, 1, 255, 2000, [(0, 18446744073709551615)]⟩,
  ⟨0x3400, 0x3400, 0x5, 0x5, .time, .ro, 1, 255, 524288, [(0, 18446744073709551615)]⟩,
  ⟨0x3400, 0x3400, 0x6, 0x6, .u8, .ro, 1, 255, 0, [(0, 255)]⟩,
  ⟨0x3400, 0x3400, 0x7, 0x7, .u32, .ro, 1, 255, 0, [(0, 4294967295)]⟩,
  ⟨0x3400, 0x3400, 0x8, 0x8, .u8, .rws, 1, 1, 74, [(0, 255)]⟩,
  ⟨0x3400, 0x3400, 0x9, 0x9, .bool, .ro, 1, 255, 0, [(0, 1)]⟩,
  ⟨0x3410, 0x3429, 0x1, 0x1, (.bytes 64), .ro, 1, 255, 0, []⟩,
  ⟨0x3410, 0x3429, 0x2, 0x2, (.bytes 64), .rwc, 1, 1, 0, []⟩,
  ⟨0x3410, 0x3429, 0x3, 0x3, .u32, .ro, 1, 255, 0, [(0, 4294967295)]⟩,
  ⟨0x3410, 0x3429, 0x4, 0x4, .time, .ro, 1, 255, 0, [(0, 18446744073709551615)]⟩,
  ⟨0x3410, 0x3429, 0x5, 0x5, (.bytes 64), .ro, 1, 255, 0, []⟩,
  ⟨0x3430, 0x3430, 0x1, 0x10, .u32, .rwc, 1, 1, 0, [(0, 4294967295)]⟩,
  ⟨0x3440, 0x3459, 0x1, 0x8, .u64, .ro, 1, 255, 0, [(0, 18446744073709551615)]⟩,
  ⟨0x3440, 0x3459, 0x9, 0x9, .u64, .ro, 1, 255, 0, [(0, 18446744073709551615)]⟩,
  ⟨0x3440, 0x3459, 0xA, 0xA, .u64, .ro, 1, 255, 0, [(0, 18446744073709551615)]⟩,
  ⟨0x3440, 0x3459, 0xB, 0xB, .u64, .ro, 1, 255, 0, [(0, 18446744073709551615)]⟩,
  ⟨0x3440, 0x3459, 0xC, 0xC, .u64, .ro, 1, 255, 0, [(0, 18446744073709551615)]⟩,
  ⟨0x3440, 0x3459, 0xD, 0xD, .time, .ro, 1, 255, 0, [(0, 524288)]⟩,
  ⟨0x3440, 0x3459, 0xE, 0xE, .u64, .ro, 1, 255, 0, [(0, 18446744073709551615)]⟩,
  ⟨0x3440, 0x3459, 0xF, 0xF, .u8, .wo, 255, 1, 0, [(1, 1)]⟩,
  ⟨0x3460, 0x3460, 0x1, 0x1, .u8, .ro, 1, 255, 0, [(0, 2)]⟩,
  ⟨0x3460, 0x3460, 0x2, 0x2, .i32, .ro, 1, 255, 0, [(0, 200000), (4294767296, 4294967295)]⟩,
  ⟨0x3460, 0x3460, 0x3, 0x3, .u32, .ro, 1, 255, 0, [(0, 4294967295)]⟩,
  ⟨0x3470, 0x3470, 0x1, 0x1, .u16, .ro, 1, 255, 0, [(650, 1300)]⟩,
  ⟨0x3470, 0x3470, 0x2, 0x2, .u16, .ro, 1, 255, 0, [(650, 1300)]⟩]

/-- Objects of index 0x3500 on, part 1. -/
def objs35a : List Obj := [
  ⟨0x3500, 0x3500, 0x1, 0x1, .u16, .rws, 1, 1, 6400, [(4800, 4800), (5600, 5600), (6400, 6400)]⟩,
  ⟨0x3500, 0x3500, 0x2, 0x2, .u16, .ro, 1, 255, 0, [(0, 0), (4800, 4800), (5600, 5600), (6400, 6400)]⟩,
  ⟨0x3500, 0x3500, 0x3, 0x3, .u8, .ro, 1, 255, 0, [(0, 2)]⟩,
  ⟨0x3500, 0x3500, 0x4, 0x4, .u32, .ro, 1, 255, 0, [(0, 4294967295)]⟩,
  ⟨0x3500, 0x3500, 0x5, 0x5, .u8, .ro, 1, 255, 0, [(0, 3)]⟩,
  ⟨0x3500, 0x3500, 0x6, 0x6, .u64, .rws, 1, 1, 0, [(0, 18446744073709551615)]⟩,
  ⟨0x3500, 0x3500, 0x7, 0x7, .u64, .rws, 1, 1, 67633152, [(0, 18446744073709551615)]⟩,
  ⟨0x3500, 0x3500, 0x8, 0x8, .u64, .rws, 1, 1, 135266304, [(0, 18446744073709551615)]⟩,
  ⟨0x3500, 0x3500, 0x9, 0x9, .u64, .rws, 1, 1, 2415919104, [(0, 18446744073709551615)]⟩,
  ⟨0x3500, 0x3500, 0xA, 0xA, .u64, .rws, 1, 1, 4831838208, [(0, 18446744073709551615)]⟩,
  ⟨0x3500, 0x3500, 0xB, 0xB, .u64, .rws, 1, 1, 9663676416, [(0, 18446744073709551615)]⟩,
  ⟨0x3500, 0x3500, 0xC, 0xC, .u8, .rws, 1, 1, 1, [(0, 1)]⟩,
  ⟨0x3500, 0x3500, 0xD, 0xD, .u8, .rws, 1, 1, 4, [(2, 4)]⟩,
  ⟨0x3500, 0x3500, 0xE, 0xE, .u8, .rws, 1, 1, 3, [(1, 8)]⟩,
  ⟨0x3500, 0x3500, 0xF, 0xF, .time, .rws, 1, 1, 0, [(0, 0), (100000, 1000000000)]⟩,
  ⟨0x3500, 0x3500, 0x10, 0x10, .time, .rws, 1, 1, 100, [(0, 1000)]⟩,
  ⟨0x3500, 0x3500, 0x11, 0x11, .time, .rws, 1, 1, 100000000, [(10000000, 1000000000)]⟩,
  ⟨0x3500, 0x3500, 0x12, 0x12, .u8, .rws, 1, 1, 8, [(1, 32)]⟩,
  ⟨0x3500, 0x3500, 0x13, 0x13, .bool, .rws, 1, 2, 0, [(0, 1)]⟩,
  ⟨0x3500, 0x3500, 0x14, 0x14, .u8, .rws, 1, 2, 3, [(0, 15)]⟩,
  ⟨0x3500, 0x3500, 0x15, 0x15, .u64, .rw, 1, 1, 0, [(0, 18446744073709551615)]⟩,
  ⟨0x3500, 0x3500, 0x16, 0x16, (.bytes 80), .ro, 1, 255, 0, []⟩,
  ⟨0x3500, 0x3500, 0x17, 0x17, .u8, .rw, 1, 1, 255, [(0, 15)]⟩,
  ⟨0x3510, 0x351F, 0x1, 0x1, .u8, .ro, 1, 255, 0, [(0, 6)]⟩,
  ⟨0x3510, 0x351F, 0x2, 0x2, (.bytes 16), .ro, 1, 255, 0, []⟩,
  ⟨0x3510, 0x351F, 0x3, 0x3, (.bytes 16), .ro, 1, 255, 0, []⟩,
  ⟨0x3510, 0x351F, 0x4, 0x4, .u8, .ro, 1, 255, 0, [(0, 255)]⟩,
  ⟨0x3510, 0x351F, 0x5, 0x5, .u8, .wo, 255, 1, 0, [(0, 3)]⟩,
  ⟨0x3510, 0x351F, 0x6, 0x6, .u32, .ro, 1, 255, 0, [(0, 4294967295)]⟩,
  ⟨0x3510, 0x351F, 0x7, 0x7, .u8, .wo, 255, 1, 0, [(1, 2)]⟩]

/-- Objects of index 0x3500 on, part 2. -/
def objs35b : List Obj := [
  ⟨0x3510, 0x351F, 0x8, 0x8, .u8, .wo, 255, 1, 0, [(1, 1)]⟩,
  ⟨0x3510, 0x351F, 0x9, 0x9, .u8, .ro, 1, 255, 0, [(0, 255)]⟩,
  ⟨0x3510, 0x351F, 0xA, 0xA, .time, .ro, 1, 255, 0, [(0, 18446744073709551615)]⟩,
  ⟨0x3510, 0x351F, 0xB, 0xB, .u8, .ro, 1, 255, 0, [(0, 4)]⟩,
  ⟨0x3510, 0x351F, 0xC, 0xC, .i32, .ro, 1, 255, 0, [(0, 4294967295)]⟩,
  ⟨0x3510, 0x351F, 0xD, 0xD, .u32, .ro, 1, 255, 0, [(0, 4294967295)]⟩,
  ⟨0x3510, 0x351F, 0xE, 0xE, .u32, .ro, 1, 255, 0, [(0, 4294967295)]⟩,
  ⟨0x3510, 0x351F, 0xF, 0xF, (.bytes 512), .ro, 1, 255, 0, []⟩]

/-- Objects of index 0x3500 on. -/
def objs35 : List Obj := objs35a ++ objs35b

/-- Objects of index 0x3600 on. -/
def objs36 : List Obj := [
  ⟨0x3600, 0x3600, 0x1, 0x1, .u8, .rws, 1, 1, 0, [(0, 1)]⟩,
  ⟨0x3600, 0x3600, 0x2, 0x2, .u16, .ro, 1, 255, 0, [(0, 1024)]⟩,
  ⟨0x3600, 0x3600, 0x3, 0x3, .bool, .rws, 1, 1, 1, [(0, 1)]⟩,
  ⟨0x3600, 0x3600, 0x4, 0x4, .time, .rws, 1, 1, 86400000000000, [(3600000000000, 604800000000000)]⟩,
  ⟨0x3600, 0x3600, 0x5, 0x5, .u32, .ro, 1, 255, 0, [(0, 4294967295)]⟩,
  ⟨0x3600, 0x3600, 0x6, 0x6, .time, .ro, 1, 255, 0, [(0, 18446744073709551615)]⟩,
  ⟨0x3600, 0x3600, 0x7, 0x7, .time, .rws, 1, 1, 20000, [(5000, 1000000)]⟩,
  ⟨0x3600, 0x3600, 0x8, 0x8, .u8, .ro, 1, 255, 0, [(0, 64)]⟩,
  ⟨0x3600, 0x3600, 0x9, 0x9, .u16, .rws, 1, 1, 16, [(1, 1024)]⟩,
  ⟨0x3600, 0x3600, 0xA, 0xA, .time, .rws, 1, 1, 86400000000000, [(1000000000, 604800000000000)]⟩,
  ⟨0x3600, 0x3600, 0xB, 0xB, .u16, .rws, 1, 1, 64, [(1, 65535)]⟩,
  ⟨0x3600, 0x3600, 0xC, 0xC, .u32, .ro, 1, 255, 0, [(0, 4294967295)]⟩,
  ⟨0x3600, 0x3600, 0xD, 0xD, .u32, .ro, 1, 255, 0, [(0, 65536)]⟩,
  ⟨0x3600, 0x3600, 0xE, 0xE, .bool, .ro, 1, 255, 0, [(0, 1)]⟩,
  ⟨0x3600, 0x3600, 0xF, 0xF, .u16, .rw, 1, 1, 0, [(0, 65535)]⟩,
  ⟨0x3600, 0x3600, 0x10, 0x10, (.bytes 16), .ro, 1, 255, 0, []⟩,
  ⟨0x3620, 0x362F, 0x1, 0x1, .u32, .ro, 1, 255, 4294967295, [(0, 4294967295)]⟩,
  ⟨0x3620, 0x362F, 0x2, 0x2, .u64, .ro, 1, 255, 0, [(0, 18446744073709551615)]⟩,
  ⟨0x3620, 0x362F, 0x3, 0x3, .u64, .ro, 1, 255, 0, [(0, 18446744073709551615)]⟩,
  ⟨0x3620, 0x362F, 0x4, 0x4, .u16, .wo, 255, 1, 0, [(0, 65535)]⟩,
  ⟨0x3620, 0x362F, 0x5, 0x5, .u8, .wo, 255, 1, 0, [(0, 7)]⟩,
  ⟨0x3620, 0x362F, 0x6, 0x6, (.bytes 80), .ro, 1, 255, 0, []⟩]

/-- Objects of index 0x3700 on. -/
def objs37 : List Obj := [
  ⟨0x3700, 0x3700, 0x1, 0x1, .u8, .ro, 1, 255, 16, [(0, 16)]⟩,
  ⟨0x3700, 0x3700, 0x2, 0x2, .u16, .ro, 1, 255, 65535, [(0, 65535)]⟩,
  ⟨0x3700, 0x3700, 0x3, 0x3, .u8, .ro, 1, 255, 0, [(0, 64)]⟩,
  ⟨0x3700, 0x3700, 0x4, 0x4, .u32, .ro, 1, 255, 0, [(0, 33554432)]⟩,
  ⟨0x3700, 0x3700, 0x5, 0x5, .u32, .ro, 1, 255, 1048576, [(0, 4294967295)]⟩,
  ⟨0x3700, 0x3700, 0x6, 0x6, .u32, .ro, 1, 255, 33554432, [(0, 4294967295)]⟩,
  ⟨0x3700, 0x3700, 0x7, 0x7, .u16, .ro, 1, 255, 0, [(0, 65535)]⟩,
  ⟨0x3700, 0x3700, 0x8, 0x8, .u8, .wo, 255, 1, 0, [(1, 1)]⟩,
  ⟨0x3700, 0x3700, 0x9, 0x9, .u32, .ro, 1, 255, 0, [(0, 4294967295)]⟩,
  ⟨0x3710, 0x3710, 0x1, 0x1, .u16, .rw, 1, 1, 0, [(0, 4095)]⟩,
  ⟨0x3710, 0x3710, 0x2, 0x2, (.bytes 16), .ro, 0, 255, 0, []⟩,
  ⟨0x3710, 0x3710, 0x3, 0x3, .u16, .ro, 1, 255, 0, [(0, 4096)]⟩]

/-- Objects of index 0x3800 on. -/
def objs38 : List Obj := [
  ⟨0x3800, 0x3800, 0x1, 0x1, .u8, .ro, 1, 255, 48, [(0, 48)]⟩,
  ⟨0x3800, 0x3800, 0x2, 0x2, .u8, .ro, 1, 255, 0, [(0, 1)]⟩,
  ⟨0x3800, 0x3800, 0x3, 0x3, .u32, .ro, 1, 255, 0, [(0, 4294967295)]⟩,
  ⟨0x3800, 0x3800, 0x4, 0x4, .time, .rws, 1, 1, 10000000, [(1000000, 1000000000)]⟩,
  ⟨0x3810, 0x3815, 0x1, 0x1, .u8, .ro, 1, 255, 0, [(0, 3)]⟩,
  ⟨0x3810, 0x3815, 0x2, 0x2, .bool, .rws, 1, 1, 1, [(0, 1)]⟩,
  ⟨0x3810, 0x3815, 0x3, 0x3, .bool, .rws, 1, 1, 1, [(0, 1)]⟩,
  ⟨0x3810, 0x3815, 0x4, 0x4, .u16, .ro, 1, 255, 0, [(0, 65535)]⟩,
  ⟨0x3810, 0x3815, 0x5, 0x5, .u8, .ro, 1, 255, 0, [(0, 32)]⟩,
  ⟨0x3810, 0x3815, 0x6, 0x6, (.bytes 8), .wo, 255, 3, 0, []⟩,
  ⟨0x3810, 0x3815, 0x7, 0x7, .u16, .ro, 1, 255, 0, [(0, 65535)]⟩,
  ⟨0x3820, 0x3820, 0x1, 0x1, (.bytes 8388608), .wo, 255, 2, 0, []⟩,
  ⟨0x3820, 0x3820, 0x2, 0x2, (.bytes 16), .ro, 1, 255, 0, []⟩,
  ⟨0x3820, 0x3820, 0x3, 0x3, (.bytes 16), .ro, 1, 255, 0, []⟩,
  ⟨0x3820, 0x3820, 0x4, 0x4, .u8, .wo, 255, 2, 0, [(1, 3)]⟩,
  ⟨0x3820, 0x3820, 0x5, 0x5, .u8, .ro, 1, 255, 0, [(0, 255)]⟩,
  ⟨0x3820, 0x3820, 0x6, 0x6, .u8, .ro, 1, 255, 255, [(0, 5), (255, 255)]⟩,
  ⟨0x3830, 0x385F, 0x1, 0x1, .u8, .ro, 1, 255, 0, [(0, 4)]⟩,
  ⟨0x3830, 0x385F, 0x2, 0x2, .u8, .ro, 1, 255, 0, [(0, 4)]⟩,
  ⟨0x3830, 0x385F, 0x3, 0x3, .u32, .ro, 1, 255, 0, [(0, 4294967295)]⟩]

/-- Objects of index 0x3900 on. -/
def objs39 : List Obj := [
  ⟨0x3900, 0x3900, 0x1, 0x1, .u16, .ro, 1, 255, 2048, [(0, 65535)]⟩,
  ⟨0x3900, 0x3900, 0x2, 0x2, .u8, .ro, 1, 255, 32, [(0, 32)]⟩,
  ⟨0x3900, 0x3900, 0x3, 0x3, .u16, .ro, 1, 255, 0, [(0, 2000)]⟩,
  ⟨0x3900, 0x3900, 0x4, 0x4, .u16, .ro, 1, 255, 1999, [(0, 1999)]⟩,
  ⟨0x3900, 0x3900, 0x5, 0x5, .u16, .ro, 1, 255, 0, [(0, 1998)]⟩,
  ⟨0x3900, 0x3900, 0x6, 0x6, .u8, .ro, 1, 255, 0, [(0, 63)]⟩,
  ⟨0x3900, 0x3900, 0x7, 0x7, .u64, .ro, 1, 255, 0, [(0, 18446744073709551615)]⟩,
  ⟨0x3900, 0x3900, 0x8, 0x8, .u32, .ro, 1, 255, 0, [(0, 4294967295)]⟩,
  ⟨0x3900, 0x3900, 0x9, 0x9, .time, .rws, 1, 1, 10000000, [(1000000, 100000000)]⟩,
  ⟨0x3900, 0x3900, 0xA, 0xA, .time, .ro, 1, 255, 500000, [(0, 18446744073709551615)]⟩,
  ⟨0x3900, 0x3900, 0xB, 0xB, .bool, .ro, 1, 255, 0, [(0, 1)]⟩,
  ⟨0x3910, 0x3910, 0x1, 0xB, (.bytes 16), .ro, 1, 255, 0, []⟩,
  ⟨0x3920, 0x3920, 0x1, 0x1, (.bytes 32), .wo, 255, 1, 0, []⟩,
  ⟨0x3920, 0x3920, 0x2, 0x2, (.bytes 16), .ro, 1, 255, 0, []⟩,
  ⟨0x3920, 0x3920, 0x3, 0x3, (.bytes 65536), .rw, 1, 1, 0, []⟩,
  ⟨0x3930, 0x3930, 0x1, 0x1, .u16, .rws, 1, 2, 2047, [(0, 2047)]⟩,
  ⟨0x3940, 0x3940, 0x1, 0x1, .u16, .rw, 1, 1, 0, [(0, 1999)]⟩,
  ⟨0x3940, 0x3940, 0x2, 0x2, (.bytes 16), .ro, 1, 255, 0, []⟩]

/-- Objects of index 0x3A00 on. -/
def objs3A : List Obj := [
  ⟨0x3A00, 0x3A00, 0x1, 0x1, .u8, .ro, 1, 255, 0, [(0, 3)]⟩,
  ⟨0x3A00, 0x3A00, 0x2, 0x2, .u64, .ro, 1, 255, 0, [(0, 281474976710655)]⟩,
  ⟨0x3A00, 0x3A00, 0x3, 0x3, .u64, .ro, 1, 255, 0, [(0, 18446744073709551615)]⟩,
  ⟨0x3A00, 0x3A00, 0x4, 0x4, .u16, .ro, 1, 255, 0, [(0, 1024)]⟩,
  ⟨0x3A00, 0x3A00, 0x5, 0x5, .u8, .wo, 255, 2, 0, [(1, 1)]⟩,
  ⟨0x3A00, 0x3A00, 0x6, 0x6, .u8, .wo, 255, 1, 0, [(1, 1)]⟩,
  ⟨0x3A00, 0x3A00, 0x7, 0x7, .u16, .ro, 1, 255, 0, [(0, 4096)]⟩,
  ⟨0x3A00, 0x3A00, 0x8, 0x8, .u64, .ro, 1, 255, 0, [(0, 18446744073709551615)]⟩,
  ⟨0x3A00, 0x3A00, 0x9, 0x9, .time, .rws, 1, 1, 1000000000, [(100000000, 60000000000)]⟩,
  ⟨0x3A00, 0x3A00, 0xA, 0xA, .u16, .rws, 1, 1, 10, [(1, 1000)]⟩,
  ⟨0x3A00, 0x3A00, 0xB, 0xB, .u16, .rws, 1, 1, 20, [(1, 1000)]⟩,
  ⟨0x3A00, 0x3A00, 0xC, 0xC, .u16, .ro, 1, 255, 0, [(0, 320)]⟩,
  ⟨0x3A00, 0x3A00, 0xD, 0xD, .u8, .wo, 255, 1, 0, [(1, 1)]⟩,
  ⟨0x3A10, 0x3A10, 0x1, 0x1, .u64, .rw, 1, 1, 0, [(0, 18446744073709551615)]⟩,
  ⟨0x3A10, 0x3A10, 0x2, 0x2, (.bytes 1024), .ro, 1, 255, 0, []⟩,
  ⟨0x3A10, 0x3A10, 0x3, 0x3, .u8, .rw, 1, 1, 0, [(0, 1)]⟩]

/-- Objects of index 0x3B00 on. -/
def objs3B : List Obj := [
  ⟨0x3B00, 0x3B00, 0x1, 0x1, .u32, .rw, 1, 1, 0, [(0, 4294967295)]⟩,
  ⟨0x3B00, 0x3B00, 0x2, 0x2, .u32, .ro, 1, 255, 0, [(0, 4294967295)]⟩,
  ⟨0x3B00, 0x3B00, 0x3, 0x3, .time, .ro, 1, 255, 10000, [(0, 18446744073709551615)]⟩,
  ⟨0x3B00, 0x3B00, 0x4, 0x4, .u16, .ro, 1, 255, 0, [(0, 4096)]⟩,
  ⟨0x3B00, 0x3B00, 0x5, 0x5, .u32, .ro, 1, 255, 0, [(0, 4294967295)]⟩,
  ⟨0x3B10, 0x3B10, 0x1, 0x1, .u32, .ro, 1, 255, 0, [(0, 4294967295)]⟩,
  ⟨0x3B10, 0x3B10, 0x2, 0x2, .u32, .rw, 1, 1, 0, [(0, 4294967295)]⟩,
  ⟨0x3B10, 0x3B10, 0x3, 0x3, .u32, .rw, 1, 1, 0, [(0, 4294967295)]⟩,
  ⟨0x3B10, 0x3B10, 0x4, 0x4, (.bytes 1024), .ro, 1, 255, 0, []⟩]

/-- Objects of index 0x3C00 on. -/
def objs3C : List Obj := [
  ⟨0x3C00, 0x3C00, 0x1, 0x1, .u8, .ro, 1, 255, 0, [(1, 3)]⟩,
  ⟨0x3C00, 0x3C00, 0x2, 0x2, .bool, .rws, 1, 1, 1, [(0, 1)]⟩,
  ⟨0x3C00, 0x3C00, 0x3, 0x3, .u16, .rws, 1, 1, 165, [(100, 165)]⟩,
  ⟨0x3C00, 0x3C00, 0x4, 0x4, .u16, .ro, 1, 255, 0, [(0, 200)]⟩,
  ⟨0x3C00, 0x3C00, 0x5, 0x5, .u16, .ro, 1, 255, 0, [(0, 65535)]⟩,
  ⟨0x3C00, 0x3C00, 0x6, 0x6, .u16, .ro, 1, 255, 0, [(0, 65535)]⟩,
  ⟨0x3C10, 0x3C10, 0x1, 0x1, .time, .rws, 1, 1, 1000, [(100, 100000)]⟩,
  ⟨0x3C10, 0x3C10, 0x2, 0x2, .u8, .ro, 1, 255, 0, [(0, 2)]⟩,
  ⟨0x3C10, 0x3C10, 0x3, 0x3, .time, .rws, 1, 1, 10000000000, [(1000000000, 600000000000)]⟩,
  ⟨0x3C10, 0x3C10, 0x4, 0x4, .u32, .ro, 1, 255, 0, [(0, 4294967295)]⟩,
  ⟨0x3C10, 0x3C10, 0x5, 0x5, .bool, .ro, 1, 255, 0, [(0, 1)]⟩,
  ⟨0x3C20, 0x3C20, 0x1, 0x1, .u8, .ro, 1, 255, 0, [(1, 10)]⟩,
  ⟨0x3C20, 0x3C20, 0x2, 0x2, .u32, .ro, 1, 255, 0, [(0, 4294967295)]⟩,
  ⟨0x3C20, 0x3C20, 0x3, 0x3, .bool, .ro, 1, 255, 0, [(0, 1)]⟩,
  ⟨0x3C30, 0x3C30, 0x1, 0x1, .i32, .ro, 1, 255, 0, [(0, 4294967295)]⟩,
  ⟨0x3C30, 0x3C30, 0x2, 0x2, .i32, .ro, 1, 255, 0, [(0, 4294967295)]⟩,
  ⟨0x3C30, 0x3C30, 0x3, 0x3, .i32, .ro, 1, 255, 0, [(0, 4294967295)]⟩,
  ⟨0x3C30, 0x3C30, 0x4, 0x4, .i32, .rws, 1, 1, 100000, [(85000, 105000)]⟩,
  ⟨0x3C30, 0x3C30, 0x5, 0x5, .i32, .ro, 1, 255, 110000, [(0, 4294967295)]⟩,
  ⟨0x3C30, 0x3C30, 0x6, 0x6, .i32, .ro, 1, 255, 120000, [(0, 4294967295)]⟩,
  ⟨0x3C30, 0x3C30, 0x7, 0x7, .i32, .ro, 1, 255, 0, [(0, 4294967295)]⟩]

/-- Objects of index 0x4000 on. -/
def objs40 : List Obj := [
  ⟨0x4000, 0x7FFF, 0x1, 0x1, .u8, .ro, 0, 255, 0, [(0, 3)]⟩,
  ⟨0x4000, 0x7FFF, 0x2, 0x2, .bool, .rwc, 0, 1, 0, [(0, 1)]⟩,
  ⟨0x4000, 0x7FFF, 0x3, 0x3, .u8, .rwc, 0, 1, 0, [(0, 7)]⟩,
  ⟨0x4000, 0x7FFF, 0x4, 0x4, .u16, .rwc, 0, 1, 0, [(0, 4094)]⟩,
  ⟨0x4000, 0x7FFF, 0x5, 0x5, .u64, .rwc, 0, 1, 0, [(0, 18446744073709551615)]⟩,
  ⟨0x4000, 0x7FFF, 0x6, 0x6, .u64, .rwc, 0, 1, 0, [(2097152, 281474976710656)]⟩,
  ⟨0x4000, 0x7FFF, 0x7, 0x7, .u16, .rwc, 0, 1, 0, [(0, 4095)]⟩,
  ⟨0x4000, 0x7FFF, 0x8, 0x8, .u64, .rwc, 0, 1, 0, [(0, 18446744073709551615)]⟩,
  ⟨0x4000, 0x7FFF, 0x9, 0x9, .u8, .rwc, 0, 1, 0, [(0, 2)]⟩,
  ⟨0x4000, 0x7FFF, 0xA, 0xA, .u16, .rwc, 0, 1, 65535, [(0, 4095), (65535, 65535)]⟩,
  ⟨0x4000, 0x7FFF, 0xB, 0xB, .u8, .rwc, 0, 1, 0, [(0, 2)]⟩,
  ⟨0x4000, 0x7FFF, 0xC, 0xC, .u8, .ro, 0, 255, 0, [(1, 2)]⟩,
  ⟨0x4000, 0x7FFF, 0xD, 0xD, .u32, .rwc, 0, 1, 0, [(0, 4294967295)]⟩,
  ⟨0x4000, 0x7FFF, 0xE, 0xE, .u8, .rwc, 0, 1, 255, [(0, 7), (255, 255)]⟩,
  ⟨0x4000, 0x7FFF, 0xF, 0xF, .u64, .ro, 0, 255, 0, [(0, 18446744073709551615)]⟩,
  ⟨0x4000, 0x7FFF, 0x10, 0x10, .u64, .ro, 0, 255, 0, [(0, 18446744073709551615)]⟩,
  ⟨0x4000, 0x7FFF, 0x11, 0x11, .u64, .ro, 0, 255, 0, [(0, 18446744073709551615)]⟩,
  ⟨0x4000, 0x7FFF, 0x12, 0x12, .u32, .ro, 0, 255, 0, [(0, 4294967295)]⟩,
  ⟨0x4000, 0x7FFF, 0x13, 0x13, .u32, .ro, 0, 255, 0, [(0, 4294967295)]⟩]

/-- Objects of index 0x8000 on. -/
def objs80 : List Obj := [
  ⟨0x8000, 0x8FFF, 0x1, 0x1, (.bytes 72), .wo, 255, 2, 0, []⟩,
  ⟨0x8000, 0x8FFF, 0x2, 0x2, .u8, .wo, 255, 2, 0, [(1, 1)]⟩]

/-- Objects of index 0x9000 on. -/
def objs90 : List Obj := [
  ⟨0x9000, 0x9FFF, 0x1, 0x1, .u8, .ro, 0, 255, 0, [(0, 4)]⟩,
  ⟨0x9000, 0x9FFF, 0x2, 0x2, .u8, .rwc, 0, 1, 0, [(0, 3)]⟩,
  ⟨0x9000, 0x9FFF, 0x3, 0x3, .u32, .rwc, 0, 1, 0, [(1, 134217728)]⟩,
  ⟨0x9000, 0x9FFF, 0x4, 0x4, .u8, .rwc, 0, 1, 1, [(1, 2)]⟩,
  ⟨0x9000, 0x9FFF, 0x5, 0x5, (.str 32), .rwc, 0, 1, 0, []⟩,
  ⟨0x9000, 0x9FFF, 0x6, 0x6, .u32, .ro, 0, 255, 0, [(0, 134217728)]⟩,
  ⟨0x9000, 0x9FFF, 0x7, 0x7, .u16, .ro, 0, 255, 0, [(0, 16384)]⟩,
  ⟨0x9000, 0x9FFF, 0x8, 0x8, .u32, .ro, 0, 255, 0, [(1, 4294967295), (0, 0)]⟩,
  ⟨0x9000, 0x9FFF, 0x9, 0x9, .u8, .ro, 0, 255, 0, [(0, 255)]⟩,
  ⟨0x9000, 0x9FFF, 0xA, 0xA, .u16, .ro, 0, 255, 65535, [(0, 65535)]⟩]

/-- Objects of index 0xA000 on. -/
def objsA0 : List Obj := [
  ⟨0xA000, 0xA13F, 0x1, 0x1, (.str 24), .ro, 1, 255, 0, []⟩,
  ⟨0xA000, 0xA13F, 0x2, 0x2, .u8, .rws, 1, 1, 0, [(0, 4)]⟩,
  ⟨0xA000, 0xA13F, 0x3, 0x3, .bool, .rws, 1, 1, 1, [(0, 1)]⟩,
  ⟨0xA000, 0xA13F, 0x4, 0x4, .bool, .rws, 1, 1, 0, [(0, 1)]⟩,
  ⟨0xA000, 0xA13F, 0x5, 0x5, .bool, .rws, 1, 1, 0, [(0, 1)]⟩,
  ⟨0xA000, 0xA13F, 0x6, 0x6, .u64, .ro, 1, 255, 0, [(0, 18446744073709551615)]⟩,
  ⟨0xA000, 0xA13F, 0x7, 0x7, .time, .ro, 1, 255, 0, [(0, 18446744073709551615)]⟩,
  ⟨0xA000, 0xA13F, 0x8, 0x8, .u32, .ro, 1, 255, 0, [(0, 4294967295)]⟩,
  ⟨0xA000, 0xA13F, 0x9, 0x9, .bool, .rw, 1, 1, 0, [(0, 0)]⟩]

/-- Objects of index 0xB000 on. -/
def objsB0 : List Obj := [
  ⟨0xB000, 0xB3FF, 0x1, 0x1, .u64, .ro, 0, 255, 0, [(0, 281474976710655)]⟩,
  ⟨0xB000, 0xB3FF, 0x2, 0x2, .u16, .rws, 1, 1, 0, [(0, 319), (1024, 1919)]⟩,
  ⟨0xB000, 0xB3FF, 0x3, 0x3, .bool, .rws, 1, 1, 0, [(0, 1)]⟩,
  ⟨0xB000, 0xB3FF, 0x4, 0x4, .bool, .rw, 1, 1, 0, [(0, 0)]⟩,
  ⟨0xB000, 0xB3FF, 0x5, 0x5, .bool, .rws, 1, 1, 0, [(0, 1)]⟩,
  ⟨0xB000, 0xB3FF, 0x6, 0x6, .u32, .rws, 1, 1, 0, [(0, 0), (1, 4294967295)]⟩,
  ⟨0xB000, 0xB3FF, 0x7, 0x7, .u64, .wo, 255, 1, 0, [(0, 281474976710655)]⟩,
  ⟨0xB000, 0xB3FF, 0x8, 0x8, .bool, .ro, 1, 255, 0, [(0, 1)]⟩]

/-- The rows that an index can stand in (R83). -/
def objsOf (idx : Nat) : List Obj :=
  match idx / 256 with
  | 0x10 => objs10
  | 0x1F => objs1F
  | 0x20 => objs20
  | 0x21 => objs21
  | 0x22 => objs22
  | 0x23 => objs23
  | 0x30 => objs30
  | 0x31 => objs31
  | 0x32 => objs32
  | 0x33 => objs33
  | 0x34 => objs34
  | 0x35 => objs35
  | 0x36 => objs36
  | 0x37 => objs37
  | 0x38 => objs38
  | 0x39 => objs39
  | 0x3A => objs3A
  | 0x3B => objs3B
  | 0x3C => objs3C
  | n =>
    if 0x40 ≤ n ∧ n < 0x80 then objs40 else if 0x80 ≤ n ∧ n < 0x90 then objs80 else if 0x90 ≤ n ∧ n < 0xA0 then objs90
    else if 0xA0 ≤ n ∧ n < 0xA2 then objsA0 else if 0xB0 ≤ n ∧ n < 0xB4 then objsB0 else []

/-- The row of an object, where it exists (R43, R44). -/
def objFind (idx sub : Nat) : Option Obj :=
  (objsOf idx).find? (fun o => o.lo ≤ idx && idx ≤ o.hi && o.s1 ≤ sub && sub ≤ o.s2)

/-- Whether an index exists (R83). -/
def idxExists (idx : Nat) : Bool := (objsOf idx).any (fun o => o.lo ≤ idx && idx ≤ o.hi)

/-- The highest subindex of an index: what its subindex 00 reads (R44). -/
def idxTop (idx : Nat) : Nat :=
  maxOf (((objsOf idx).filter (fun o => o.lo ≤ idx && idx ≤ o.hi)).map Obj.s2) 0

/-- The lowest read level among an index's members, the level of its subindex 00 (R44). -/
def idxLevel (idx : Nat) : Nat :=
  minOf (((objsOf idx).filter (fun o => o.lo ≤ idx && idx ≤ o.hi)).map Obj.rl) 255

/-- An object's key: index and subindex in one number, as 0x1F00:06 holds them. -/
abbrev okey (idx sub : Nat) : Nat := idx * 256 + sub

end Sys2Proof.Machine
end

