-- ==== Sys2Proof/Machine/Operands.lean ====
section
/-! DEFINITION. The operand forms: status codes, the encodings of dictionary values and their ranges, the present value of
an object that can be written, and the access level and reach of a requester. -/

namespace Sys2Proof.Machine

/-! ### Status codes (R9) -/

abbrev St.ok : Nat := 0x00
abbrev St.partialDone : Nat := 0x01
abbrev St.busy : Nat := 0x02
abbrev St.moved : Nat := 0x03
abbrev St.badDescriptor : Nat := 0x10
abbrev St.badRange : Nat := 0x11
abbrev St.noAccess : Nat := 0x12
abbrev St.noSuchObject : Nat := 0x13
abbrev St.typeMismatch : Nat := 0x14
abbrev St.readOnly : Nat := 0x15
abbrev St.prot : Nat := 0x16
abbrev St.poisonHalt : Nat := 0x20
abbrev St.uncorrectable : Nat := 0x21
abbrev St.tagMismatch : Nat := 0x22
abbrev St.keyErased : Nat := 0x23
abbrev St.cipherFault : Nat := 0x24
abbrev St.channelHalted : Nat := 0x25
abbrev St.fenced : Nat := 0x30
abbrev St.twinLost : Nat := 0x31
abbrev St.homeFailed : Nat := 0x32
abbrev St.throttled : Nat := 0x33
abbrev St.programFail : Nat := 0x40
abbrev St.eraseFail : Nat := 0x41
abbrev St.suspendRefused : Nat := 0x42
abbrev St.timeout : Nat := 0x50
abbrev St.aborted : Nat := 0x51
abbrev St.internal : Nat := 0xFF

/-- The lowest of the codes of failed checks, OK where there is none (R9). -/
def lowest (codes : List Nat) : Nat :=
  match codes with
  | [] => St.ok
  | c :: cs => minOf cs c

/-- A check: the code where the condition fails. -/
def fails (bad : Bool) (code : Nat) : List Nat := if bad then [code] else []

/-- Whether a status code is one of the table of R7. -/
def stListed (c : Nat) : Bool :=
  [0x00, 0x01, 0x02, 0x03, 0x20, 0x21, 0x22, 0x23, 0x24, 0x25, 0x30, 0x31, 0x32, 0x33, 0x40, 0x41, 0x42, 0x50, 0x51, 0xFF].contains c
    || decide (0x10 ≤ c ∧ c ≤ 0x16)

/-- A status code as a receiver takes it: one that the table does not list is INTERNAL (R8). -/
def recvSt (c : Nat) : Nat := if stListed c then c else St.internal

/-! ### Types and ranges (R45, R46) -/

/-- The type code a message carries (R45). -/
def Ty.code : Ty → Nat
  | .bool => 1 | .u8 => 2 | .u16 => 3 | .u32 => 4 | .u64 => 5 | .i32 => 6 | .i64 => 7 | .time => 8
  | .bytes _ => 9 | .str _ => 10

/-- The length of a value, for STR its greatest length (R45). -/
def Ty.len : Ty → Nat
  | .bool => 1 | .u8 => 1 | .u16 => 2 | .u32 => 4 | .u64 => 8 | .i32 => 4 | .i64 => 8 | .time => 8
  | .bytes n => n | .str n => n

/-- Whether a length is one the type has (R46). -/
def Ty.lenOk (t : Ty) (n : Nat) : Bool :=
  match t with
  | .str m => decide (n ≤ m)
  | t => n == t.len

/-- The access kind's code (R69). -/
def Acc.code : Acc → Nat
  | .ro => 0 | .rw => 1 | .rwc => 2 | .rws => 3 | .wo => 4

/-- Whether a byte string is well-formed UTF-8 (R46): `k` continuation bytes still due, the next one between `lo` and `hi`. -/
def utf8Run (b : Bytes) (k lo hi : Nat) : Bool :=
  match b with
  | [] => k == 0
  | x :: b =>
    let v := x.toNat
    if k = 0 then
      if v < 0x80 then utf8Run b 0 0x80 0xBF
      else if 0xC2 ≤ v ∧ v ≤ 0xDF then utf8Run b 1 0x80 0xBF
      else if v = 0xE0 then utf8Run b 2 0xA0 0xBF
      else if v = 0xED then utf8Run b 2 0x80 0x9F
      else if 0xE1 ≤ v ∧ v ≤ 0xEF then utf8Run b 2 0x80 0xBF
      else if v = 0xF0 then utf8Run b 3 0x90 0xBF
      else if v = 0xF4 then utf8Run b 3 0x80 0x8F
      else if 0xF1 ≤ v ∧ v ≤ 0xF3 then utf8Run b 3 0x80 0xBF
      else false
    else if lo ≤ v ∧ v ≤ hi then utf8Run b (k - 1) 0x80 0xBF
    else false

/-- Whether a byte string is well-formed UTF-8. -/
def utf8Ok (b : Bytes) : Bool := utf8Run b 0 0x80 0xBF

/-- A string kept as a number: its bytes with a closing 1, so that its length is kept; 0 is the empty string. -/
def strEnc (b : Bytes) : Nat := if b = [] then 0 else fromLe (b ++ [1])

/-- The bytes of a string kept as a number (`n` is the greatest length). -/
def strDec (n v : Nat) : Bytes :=
  match (List.range (n + 1)).find? (fun k => v / 256 ^ k == 1) with
  | some k => leBytes k v
  | none => []

/-- A written value as the settings keep it. -/
def valEnc (t : Ty) (b : Bytes) : Nat :=
  match t with
  | .str _ => strEnc b
  | _ => fromLe b

/-- A kept value as a message carries it. -/
def valDec (t : Ty) (v : Nat) : Bytes :=
  match t with
  | .str n => strDec n v
  | t => leBytes t.len v

/-- Whether a value lies in a range made of pieces. -/
def inPieces (v : Nat) (ps : List (Nat × Nat)) : Bool := ps.any (fun p => p.1 ≤ v && v ≤ p.2)

/-- The range an object's owner gives in steps beside its bounds: multiples of 2 MiB (R94), power-of-two and field forms. -/
def stepOk (idx sub v : Nat) : Bool :=
  if 0x4000 ≤ idx ∧ idx < 0x8000 ∧ (sub = 5 ∨ sub = 6 ∨ sub = 8) then v % extentBytes == 0
  else if 0x2210 ≤ idx ∧ idx ≤ 0x2213 ∧ sub = 0x0A then
    (List.range 4).all (fun i => decide (v / 16 ^ i % 16 ≤ 7))
  else if 0x2210 ≤ idx ∧ idx ≤ 0x2213 ∧ sub = 0x0B then
    (List.range 4).all (fun i => decide (v / 256 ^ i % 256 ≤ 63))
  else true

/-- Whether a value of the right type lies in the object's range (R46). -/
def rangeOk (o : Obj) (idx sub : Nat) (b : Bytes) : Bool :=
  match o.ty with
  | .bytes _ => true
  | .str _ => utf8Ok b
  | _ => inPieces (fromLe b) o.rng && stepOk idx sub (fromLe b)

/-- The bounds of a signed object of `w` bits, as 64-bit numbers: those of the type where no bound is given (R69). -/
def signedBounds (w : Nat) (ps : List (Nat × Nat)) : Nat × Nat :=
  if ps.any (fun p => p.1 == 0 && p.2 == 2 ^ w - 1) then (2 ^ 64 - 2 ^ (w - 1), 2 ^ (w - 1) - 1)
  else
    let ends := ps.flatMap (fun p => [toInt w p.1, toInt w p.2])
    (ofInt 64 (ends.foldl min (ends.headD 0)), ofInt 64 (ends.foldl max (ends.headD 0)))

/-- The bounds DESCRIBE gives, as numbers of 64 bits (R69). -/
def rangeBounds (o : Obj) : Nat × Nat :=
  match o.ty with
  | .bytes _ => (0, 0)
  | .str _ => (0, 0)
  | .bool => (0, 1)
  | .i32 => signedBounds 32 o.rng
  | .i64 => signedBounds 64 o.rng
  | _ => (minOf (o.rng.map Prod.fst) ((o.rng.map Prod.fst).headD 0), maxOf (o.rng.map Prod.snd) 0)

/-! ### The value of an object that can be written -/

/-- The default severity of a source (R493, R495). -/
def defSeverity (n : Nat) : Nat :=
  if [80, 214, 280].contains n then 4
  else if [84, 99, 109, 162, 167, 171, 174, 274].contains n then 3
  else if n < 16 then 2 else if n < 48 then 1 else if n < 112 then 2 else if n < 144 then 1
  else if n < 160 then 0 else if n < 192 then 2 else if n < 208 then 1 else if n < 288 then 2
  else if n < 295 then 1 else if n < 302 then 2 else if n < 304 then 1 else 2

/-- The slot owners of a default lattice table (R360); `twin`: a Hinge port of twin role. -/
def defaultOwners (r : Nat) (twin : Bool) : List Nat :=
  let rep := fun (n : Nat) (l : List Nat) => (List.range n).flatMap (fun _ => l)
  if r < 16 then rep 2 [0,1,0,1,0,3,2,4, 0,1,0,3,0,5,2,6, 0,1,0,1,0,4,2,6, 0,1,0,3,0,5,2,7]
  else if r < 20 ∧ twin then
    rep 2 [1,1,1,1,1,1,6,7, 1,1,1,1,1,1,6,0, 1,1,1,1,1,1,6,7, 1,1,1,1,1,1,6,2]
  else if r < 20 then
    [0,2,4,0,2,5,1,0, 0,2,4,0,2,5,1,2, 0,2,4,0,2,5,1,3, 0,2,4,0,2,5,1,7, 0,2,4,0,2,5,1,0, 0,2,4,0,2,5,1,2, 0,2,4,0,2,5,3,6, 0,2,4,0,2,5,6,7]
  else if r < 24 then rep 4 [3,3,6,3,3,0,3,3, 6,3,3,7,3,3,6,3]
  else if r = 24 then rep 4 [5,4,2,5,3,6,5,4, 7,5,2,3,5,6,4,5]
  else rep 2 [1,0,5,4,1,2,3,5, 1,0,5,6,1,2,3,4, 1,0,5,5,1,2,3,7, 1,0,5,4,1,2,3,6]

/-- A default lattice table: every slot may be lent (R360). -/
def defaultTable (r : Nat) (twin : Bool) : List Nat := (defaultOwners r twin).map (8 + ·)

/-- The default of an object (R43): its row's, or what its chapter computes. -/
def objDefault (idx sub : Nat) : Nat :=
  if 0xA000 ≤ idx ∧ idx < 0xA140 ∧ sub = 2 then defSeverity (idx - 0xA000)
  else if 0xA000 ≤ idx ∧ idx < 0xA140 ∧ sub = 4 then b2n (decide (3 ≤ defSeverity (idx - 0xA000)))
  else if 0xA000 ≤ idx ∧ idx < 0xA140 ∧ sub = 3 then 1
  else if 0xA000 ≤ idx ∧ idx < 0xA140 then 0
  else if 0xB000 ≤ idx ∧ idx < 0xB400 ∧ sub = 2 then (if idx < 0xB380 then 0x400 + (idx - 0xB000) else 0)
  else if 0xB000 ≤ idx ∧ idx < 0xB400 then 0
  else if idx = 0x3430 ∧ sub = 1 then 0x00FAFF0C
  else if idx = 0x3430 ∧ sub = 2 then 0x007DFF0E
  else match objFind idx sub with
    | some o => o.df
    | none => 0

/-- The effective value of an object kept in the settings (R48). The retransmit timeout's default follows the port's role:
ports 0 and 1 are the twin ports unless the role object says otherwise (R285). -/
def State.setting (s : State) (idx sub : Nat) : Nat :=
  match assoc s.settings (okey idx sub) with
  | some v => v
  | none =>
    if 0x2210 ≤ idx ∧ idx ≤ 0x2213 ∧ sub = 0x10 then
      (if s.hinge.roles < 2 ∧ idx - 0x2210 + s.hinge.roles < 2 then 20000 else 50000)
    else if 0x3410 ≤ idx ∧ idx ≤ 0x3429 ∧ sub = 2 then
      fromLe ((defaultTable (idx - 0x3410) (decide (16 ≤ idx - 0x3410 ∧ s.hinge.roles < 2 ∧ idx - 0x3420 + s.hinge.roles < 2))).map (BitVec.ofNat 8))
    else objDefault idx sub

/-- Whether a Boolean object is true. -/
def State.flag (s : State) (idx sub : Nat) : Bool := s.setting idx sub == 1

/-- The effective value of an object set. -/
def State.setSetting (s : State) (idx sub v : Nat) : State := s.modSettings (insertKey (okey idx sub) v)

/-! ### Requesters (R50, R59 to R61) -/

/-- A path's number in the tables of endpoint IDs and management interrupts. -/
def pathNum : Path → Nat
  | .i3c0 => 0
  | .i3c1 => 1
  | .jtag => 2
  | .cxl p ld => 16 + 16 * p + ld

/-- A forwarded requester's number. -/
def fwdKey (dev slot : Nat) : Nat := dev * 65536 + slot

/-- The slot a requester holds in the requester table (R50). -/
def State.slotOf (s : State) (rq : Req) : Option Nat :=
  (s.dict.slots.find? (fun e => e.2.rq == rq)).map Prod.fst

/-- The requester table's entry of a requester. -/
def State.requester (s : State) (rq : Req) : Option Requester :=
  (s.dict.slots.find? (fun e => e.2.rq == rq)).map Prod.snd

/-- Whether a requester holds an owner grant here (R62). -/
def State.granted (s : State) (rq : Req) : Bool :=
  match s.requester rq with
  | some r => r.grant
  | none => false

/-- A requester's level (R59): 0 host, 1 operator, 2 owner, 3 factory. -/
def State.level (s : State) (rq : Req) : Nat :=
  match rq with
  | .mctp .jtag _ => if s.dict.jtag then 3 else 0
  | .mctp .i3c0 _ => if s.granted rq then 2 else s.setting 0x1F01 2
  | .mctp .i3c1 _ => if s.granted rq then 2 else s.setting 0x1F01 3
  | .mctp (.cxl _ _) _ => if s.granted rq then 2 else s.setting 0x1F01 4
  | .ld _ _ => if s.granted rq then 2 else s.setting 0x1F01 4
  | .fwd dev slot =>
    if s.granted rq then 2 else min (min (getD s.dict.fwdLevel (fwdKey dev slot) 0) 1) (s.setting 0x1F01 5)

/-- The codes of a level that does not suffice (R61). -/
def levelFails (need have_ : Nat) : List Nat :=
  if need ≤ have_ then [] else if need = 2 then [St.prot] else [St.noAccess]

/-- Whether a session's record is at 0x4000+n, and whether it is bound (R94). -/
def State.sessBound (s : State) (n : Nat) : Bool := (getD s.host.sess n {}).state != 0

/-- The logical device a requester speaks for, where it has one (R60, R118). -/
def reqLd : Req → Option (Nat × Nat)
  | .ld p l => some (p, l)
  | .mctp (.cxl p l) _ => some (p, l)
  | _ => none

/-- The sessions bound to a requester's own logical device (R60). In global fabric-attached memory mode a session names a PBR ID and no
logical device (R92), so none is a requester's own. -/
def State.ownSessions (s : State) (rq : Req) : List Nat :=
  match (reqLd rq) with
  | none => []
  | some (p, l) =>
    if s.host.mode = 1 then [] else
    (s.host.sess.filter (fun e => e.2.state != 0 && s.setting (0x4000 + e.1) 3 == p && s.setting (0x4000 + e.1) 4 == l)).map
      Prod.fst

/-- Whether an object with host read level lies inside what a host-level requester reaches (R60, R514). The pool position objects 0x2008
are reached without a session too, by a requester on I3C or through forwarding: R22 opens them "from any session" and R60 lists them by name;
DESIGN CHOICE, log entry 100. -/
def State.hostReach (s : State) (rq : Req) (idx sub : Nat) : Bool :=
  if 0x4000 ≤ idx ∧ idx < 0x8000 then (s.ownSessions rq).contains (idx - 0x4000)
  else if 0x9000 ≤ idx ∧ idx < 0xA000 then
    (s.ownSessions rq).any (fun n => s.setting (0x4000 + n) 7 == idx - 0x9000)
  else if 0xB000 ≤ idx ∧ idx < 0xB400 ∧ sub = 1 then
    (s.ownSessions rq).any (fun n => (s.setting (0x4000 + n) 0x0D).testBit ((idx - 0xB000) / 32))
  else if idx = 0x3110 ∨ idx = 0x3111 then (reqLd rq).isSome && s.host.mode == 0
  else true

/-- The failed checks of a read (R43, R60, R61). -/
def State.readFails (s : State) (rq : Req) (idx sub : Nat) : List Nat :=
  let lvl := s.level rq
  if sub = 0 then
    if idxExists idx then levelFails (min (idxLevel idx) 1) lvl ++ fails (lvl == 0 && !s.hostReach rq idx 0) St.noAccess else [St.noSuchObject]
  else match objFind idx sub with
    | none => [St.noSuchObject]
    | some o =>
      if o.acc = .wo then [St.noAccess]
      else if o.rl ≤ lvl then fails (lvl == 0 && !s.hostReach rq idx sub) St.noAccess else levelFails o.rl lvl

/-- Whether a source number is reserved (R493): no chapter defines it. -/
def reservedSource (n : Nat) : Bool :=
  [12, 15, 95, 139, 143, 175, 196, 302, 303].contains n || decide (154 ≤ n ∧ n < 160) || decide (200 ≤ n ∧ n < 208) || decide (215 ≤ n ∧ n < 224) ||
  decide (283 ≤ n ∧ n < 288) || decide (309 ≤ n ∧ n < 312) || decide (315 ≤ n)

/-- The failed checks of a write that its object, its access kind and the requester decide, of a value of a type code and a length (R43,
R46, R47, R61, R513); subindex 00 of an index is a read-only U8 (R44). -/
def State.accessFails (s : State) (rq : Req) (idx sub ty len : Nat) : List Nat :=
  let reach := fails (s.level rq == 0 && !s.hostReach rq idx sub) St.noAccess
  if sub = 0 then
    if idxExists idx then [St.readOnly] ++ reach ++ fails (ty != 2 || len != 1) St.typeMismatch else [St.noSuchObject]
  else if 0xA000 ≤ idx ∧ idx < 0xA140 ∧ reservedSource (idx - 0xA000) then [St.noSuchObject]
  else match objFind idx sub with
    | none => [St.noSuchObject]
    | some o =>
      (if o.acc = .ro then [St.readOnly] else levelFails o.wl (s.level rq)) ++ reach
        ++ fails (ty != o.ty.code || !o.ty.lenOk len) St.typeMismatch

/-- The failed checks of a write of a value under a type code (R43, R46, R47, R61, R513): those of its access, and the range of a value
of the right type. -/
def State.writeFails (s : State) (rq : Req) (idx sub ty : Nat) (b : Bytes) : List Nat :=
  s.accessFails rq idx sub ty b.length ++
    match objFind idx sub with
    | none => []
    | some o => fails (ty == o.ty.code && o.ty.lenOk b.length && !rangeOk o idx sub b) St.badRange

end Sys2Proof.Machine
end

