-- ==== Sys2Proof/Machine/Flags.lean ====
section
/-! DEFINITION. Every flag and count the device keeps of what happens: the occurrence of an event source, the recorder and
its withholding, ALERT_N, the performance counters with freezing, chaining and sampling (R493 to R515, R541). -/

namespace Sys2Proof.Machine

/-! ### The recorder mode (R503) -/

/-- The recorder mode that the state calls for: 0 Start-up, 1 Service, 2 Test, 3 Recovery. Where several hold, the first in
the order of the rule: DEDUCED, log entry 20. -/
def State.modeNow (s : State) : Nat :=
  if !s.host.creditsOpen then 0
  else if s.dict.jtag then 2
  else if s.persist.state == 1 || s.persist.state == 3 || s.twin.state == 5 || s.twin.state == 6 || s.twin.state == 8
      || s.dram.chans.any (fun c => c.2.state == 3 || c.2.ranks.any (fun r => r.2.state == 2)) then 3
  else 1

/-! ### Records (R498 to R502) -/

/-- Records the volatile buffer holds (R499). -/
abbrev recBufMost : Nat := 4096
/-- Records of the first area (R499). -/
abbrev firstMost : Nat := 1024
/-- Records of one sector of the circulating area: 256 pages of 8 (R499). -/
abbrev recSector : Nat := 2048

/-- The circulating area with more pages programmed: the oldest sector is erased when its ring of 9 is full (R499). -/
def circAppend (old new : List Rec) : List Rec :=
  let l := old ++ new
  if 9 * recSector < l.length then l.drop (recSector * ceilDiv (l.length - 9 * recSector) recSector) else l

/-- A flush (R500): every complete page is programmed, and each area's tail is written to the journal with its clean flag. -/
def recFlush (r : Recorder) : Recorder :=
  let n := r.buf.length / 8 * 8
  let k := r.firstPend.length / 8 * 8
  { r with
    circ := circAppend r.circ (r.buf.take n)
    buf := r.buf.drop n
    circTail := r.buf.drop n
    first := r.first ++ r.firstPend.take k
    firstPend := r.firstPend.drop k
    firstTail := r.firstPend.drop k
    tailClean := true }

/-- The recorder with one record appended to its volatile buffer and to what the first area still takes (R499). -/
def recAppend (r : Recorder) (x : Rec) : Recorder :=
  { r with
    buf := r.buf ++ [x]
    next := r.next + 1
    tailClean := false
    firstPend := if r.firstFull then r.firstPend else r.firstPend ++ [x]
    firstFull := r.firstFull || decide (firstMost ≤ r.first.length + r.firstPend.length + 1) }

/-- The recorder without its unflushed record of the lowest severity, the oldest of those (R502). -/
def dropLowest (r : Recorder) : Recorder :=
  let low := minOf (r.buf.map Rec.sev) 5
  match r.buf.find? (fun x => x.sev == low) with
  | some x => { r with buf := r.buf.filter (fun y => y.seq != x.seq), firstPend := r.firstPend.filter (fun y => y.seq != x.seq) }
  | none => r

/-- Records made of one occurrence: the record, and its continuation where the detail exceeds 8 bytes (R498). -/
def recMade (seq : Nat) (x : Rec) : List Rec :=
  if 8 < x.detail.length then
    [{ x with seq := seq, more := true, detail := x.detail.take 8 },
     { seq := seq + 1, source := x.source, sev := x.sev, cont := true, detail := (x.detail.drop 8).take 20 }]
  else [{ x with seq := seq }]

/-- The recorder makes a record, or loses it when the buffer is full (R502). -/
def recMake (r : Recorder) (x : Rec) : Recorder :=
  let n := (recMade r.next x).length
  if recBufMost < r.buf.length + n ∧ x.sev ≤ 2 then
    { r with lost := r.lost + n, lostNow := r.lostNow + n, lostLow := some (r.lostLow.getD r.next), next := r.next + n }
  else
    let r := if recBufMost < r.buf.length + n then dropLowest (if n = 2 ∧ r.buf.length = recBufMost then dropLowest r else r) else r
    (recMade r.next x).foldl recAppend r

/-- The record of an occurrence made now. -/
def State.recOf (s : State) (src cause : Nat) (detail : Bytes) : Rec :=
  { seq := 0, source := src, sev := s.setting (0xA000 + src) 2, unlocked := s.hinge.ptpAcc != 1, time := s.poolTime
    cause := cause, detail := detail }

/-- A Summary record of withheld occurrences (R502, R503). -/
def State.summaryOf (s : State) (w : Window) : Rec :=
  { seq := 0, source := w.code / 256, sev := s.setting (0xA000 + w.code / 256) 2, summary := true
    unlocked := s.hinge.ptpAcc != 1, time := w.time, cause := w.code % 256, rep := min w.count 65535, detail := w.detail }

/-- The paths that management interrupts go out on now (R497): the I3C ports that have a dynamic address, and the host ports whose link is up, by
their FM-owned logical device or their one endpoint. -/
def State.irqPaths (s : State) : List Nat :=
  [0, 1].filter (fun k => (assoc s.dict.i3c k).isSome) ++ ((List.range 8).filter (fun p => (getD s.host.ports p {}).link == 2)).map (3 + ·)

/-- A management interrupt for a record of a source is due on some paths (R497): the payload names the first source. -/
def irqAdd (r : Recorder) (paths : List Nat) (src : Nat) : Recorder :=
  { r with irq := paths.foldl (fun l p => if (assoc l p).isSome then l else insertKey p src l) r.irq }

/-- The recorder makes a record, raises the management interrupt where it is enabled (R497), and flushes on severity 3 and 4
(R500), but not while a flush holds the strongbox (R483). -/
def State.record (s : State) (x : Rec) : State :=
  s.modRec (fun r =>
    let r' := recMake r x
    let r' := if s.flag (0xA000 + x.source) 5 && r'.next != r.next && r'.lost == r.lost then irqAdd r' s.irqPaths x.source else r'
    if 3 ≤ x.sev && !s.sbox.flushHold then recFlush r' else r')

/-! ### Withholding (R503) -/

/-- The window or bucket of an event code. -/
def State.windowOf (s : State) (code : Nat) : Option Window := s.rec_.windows.find? (fun w => w.code == code)

/-- The window or bucket of an event code set. -/
def setWindow (w : Window) (l : List Window) : List Window := w :: l.filter (fun x => x.code != w.code)

/-- One more occurrence withheld: counted in the window and in 0xA000+n:08 (R503). -/
def State.withhold (s : State) (w : Window) (src : Nat) (detail : Bytes) : State :=
  s.modRec (fun r => { r with
    windows := setWindow { w with count := w.count + 1, time := s.poolTime, detail := detail } r.windows
    srcs := modD r.srcs src {} (fun x => { x with withheld := satAdd x.withheld 1 0xFFFFFFFF }) })

/-- Every open window and every count closes with its Summary record, and every bucket starts full (R503). -/
def State.closeWindows (s : State) : State :=
  let ws := s.rec_.windows.filter (fun w => 0 < w.count)
  let s := s.modRec (fun r => { r with windows := [] })
  ws.foldl (fun s w => s.record (s.summaryOf w)) s

/-- The recorder mode follows the state (R503). -/
def State.syncMode (s : State) : State :=
  let m := s.modeNow
  if m = s.rec_.mode then s else s.closeWindows.modRec (fun r => { r with mode := m })

/-- A bucket brought up to now (R503): whole tokens at the rate of 0x3A00:0A a second, up to the burst of 0x3A00:0B; `since` moves on by the time of the
tokens it has gained. A bucket that is full again makes its Summary record, which takes no token. -/
def State.refillBucket (s : State) (w : Window) : State × Window :=
  let rate := s.setting 0x3A00 0x0A
  let gain := (s.now - w.since) * rate / 1000000000
  if w.tokens + gain < s.setting 0x3A00 0x0B then (s, { w with tokens := w.tokens + gain, since := w.since + gain * 1000000000 / rate })
  else (if 0 < w.count then s.record (s.summaryOf w) else s, { w with tokens := s.setting 0x3A00 0x0B, since := s.now, count := 0 })

/-- A repeat window that has ended with occurrences withheld makes its Summary record and opens a new window (R503). -/
def State.settleWindow (s : State) (code : Nat) : State :=
  match s.windowOf code with
  | some w =>
    if w.bucket ∨ w.count = 0 ∨ s.now < w.since + w.len then s
    else (s.record (s.summaryOf w)).modRec (fun r => { r with
      windows := setWindow { code := code, since := w.since + w.len, len := s.setting 0x3A00 9 } r.windows })
  | none => s

/-- The recorder is offered an occurrence (R499, R503): severity 4 is never withheld. -/
def State.offer (s : State) (src cause : Nat) (detail : Bytes) : State :=
  let s := s.syncMode
  let x := s.recOf src cause detail
  let code := src * 256 + cause
  if x.sev = 4 then s.record x
  else if s.rec_.mode = 1 then
    let s := s.settleWindow code
    match s.windowOf code with
    | some w =>
      if s.now < w.since + w.len then s.withhold w src detail
      else (s.record x).modRec (fun r => { r with
        windows := setWindow { code := code, since := s.now, len := s.setting 0x3A00 9 } r.windows })
    | none => (s.record x).modRec (fun r => { r with
        windows := setWindow { code := code, since := s.now, len := s.setting 0x3A00 9 } r.windows })
  else
    let (s, w) := s.refillBucket ((s.windowOf code).getD { code := code, since := s.now, bucket := true, tokens := s.setting 0x3A00 0x0B })
    if 0 < w.tokens then
      (s.record x).modRec (fun r => { r with windows := setWindow { w with tokens := w.tokens - 1 } r.windows })
    else s.withhold w src detail

/-! ### Counters (R505 to R511) -/

/-- The source numbers a request carries into a sample: class, requester, session and pool address (R511). -/
structure ReqTag where
  cls  : Nat := 0
  src  : Nat := 0
  sess : Nat := 0xFFFF
  addr : Nat := 0
  deriving DecidableEq, Repr

/-- Whether a counter is frozen: its group's bit is set in either mask (R510). -/
def State.frozen (s : State) (n : Nat) : Bool := (s.rec_.localMask ||| s.rec_.latchMask).getLsbD (n / 32)

/-- Whether a counter counts requests, lines, frames or grants, and so accepts a sample period (R511). The rest count time, episodes,
bytes, commands or granules: DEDUCED from the names of the counters, log entry 21. -/
def samples (n : Nat) : Bool :=
  if n < 128 then [0, 1, 3].contains (n % 8)
  else if n < 192 then n % 8 < 7
  else if n < 224 then [0, 1, 4, 5].contains (n % 8)
  else if n < 352 then n % 8 < 3
  else if n < 512 then [352, 353, 361, 391, 392, 393, 394, 421, 426, 428, 480, 481, 484, 485, 488, 489, 495, 501, 502].contains n
  else decide (n < 896) && decide (2 ≤ n % 8 ∧ n % 8 < 7)

/-- An armed sample is captured: the request that made the count (skid 0), or the arming is lost (R511). The latency, which DRAM and host
ports measure, is a free value. -/
def State.capture (s : State) (n : Nat) (t : ReqTag) : State :=
  let timed := decide (n < 192)
  let latency := if timed then s.free % 2 ^ 32 else 0
  let s := if timed then s.tick else s
  s.modRec (fun r =>
    if r.sWritten - r.sRead < 4096 then
      let e : Sample := { counter := n, skid := 0, cls := t.cls, src := t.src, sess := t.sess, time := s.poolTime, addr := t.addr, latency := latency }
      { r with samples := (r.samples ++ [e]).drop ((r.samples.length + 1) - 4096), sWritten := r.sWritten + 1 }
    else { r with sLost := satAdd r.sLost 1 0xFFFFFFFF, sLostAt := some (r.sLostAt.getD s.now), sLostCtr := n })

/-- A counter's own value moved on by `k`, with the number of times it wraps (R505). -/
def ctrAdd (c : Ctr) (k : Nat) : Ctr × Nat := ({ c with value := (c.value + k) % 2 ^ 48 }, (c.value + k) / 2 ^ 48)

/-- Counter `n` moves on by `k` and carries its wraps into chained successors of its group of 8, `fuel` of them at most;
without a successor a wrap sets the overflow flag (R507). The counters that wrapped with their overflow event enabled come back. -/
def State.advance (s : State) (n k fuel : Nat) : State × List Nat :=
  if s.frozen n || k == 0 then (s, [])
  else
    let (c, w) := ctrAdd (getD s.rec_.ctrs n {}) k
    let s1 := s.modRec (fun r => { r with ctrs := insertKey n c r.ctrs })
    if w = 0 then (s1, [])
    else match fuel with
      | 0 => (s1.modRec (fun r => { r with ctrs := insertKey n { c with ovf := true } r.ctrs }),
              if s.flag (0xB000 + n) 5 then [n] else [])
      | fuel + 1 =>
        if (n + 1) % 8 ≠ 0 ∧ s.flag (0xB000 + (n + 1)) 3 then s1.advance (n + 1) w fuel
        else (s1.modRec (fun r => { r with ctrs := insertKey n { c with ovf := true } r.ctrs }),
              if s.flag (0xB000 + n) 5 then [n] else [])

/-- One counter counts `k` events of its own: not where it is chained (R507); a sample is armed at every P-th count (R511). -/
def State.bump (s : State) (n k : Nat) (t : ReqTag) : State × List Nat :=
  if s.flag (0xB000 + n) 3 then (s, [])
  else
    let (s1, w) := s.advance n k 7
    let p := s.setting (0xB000 + n) 6
    if p = 0 ∨ s.frozen n then (s1, w)
    else
      let g := (getD s.rec_.ctrs n {}).toSample + k
      let s2 := s1.modRec (fun r => { r with ctrs := modD r.ctrs n {} (fun c => { c with toSample := g % p }) })
      ((List.range (g / p)).foldl (fun s _ => s.capture n t) s2, w)

/-- The general-purpose counters that a select value drives (R506). -/
def State.gpOf (s : State) (sel : Nat) : List Nat :=
  ((s.settings.filter (fun e => e.1 % 256 = 2 && 0xB380 ≤ e.1 / 256 && e.1 / 256 < 0xB400 && e.2 == sel)).map
    (fun e => e.1 / 256 - 0xB000)) ++
  (if sel = 0 then ((List.range 128).map (· + 896)).filter (fun n => (assoc s.settings (okey (0xB000 + n) 2)).isNone) else [])

/-- Several counters count, their wraps gathered. -/
def State.bumps (s : State) (ns : List Nat) (k : Nat) (t : ReqTag) : State × List Nat :=
  ns.foldl (fun (a : State × List Nat) n => let (s', w) := a.1.bump n k t; (s', a.2 ++ w)) (s, [])

/-! ### Occurrences (R494) -/

/-- One occurrence of a source, without the wraps of counters that follow it (R494): the count and time, the firmware told, the pending flag, the
offer to the recorder; the general-purpose counters that select the source count it (R506). -/
def State.occur (s : State) (src cause : Nat) (detail : Bytes) : State × List Nat :=
  let s := s.modRec (fun r => { r with
    srcs := modD r.srcs src {} (fun x => { x with count := (x.count + 1) % 2 ^ 64, last := s.poolTime, pending := true })
    handed := some (src, cause, detail) })
  let (s, w) := s.bumps (s.gpOf src) 1 {}
  (if s.flag (0xA000 + src) 3 then s.offer src cause detail else s, w)

/-- Source 290 for the counters that wrapped with their overflow event enabled (R507), and what follows from it once. -/
def State.wraps (s : State) (ns : List Nat) : State :=
  ns.foldl (fun s n => (s.occur 290 0 (leBytes 2 n)).1) s

/-- What the recorder reports of itself after an occurrence: the first area filled (292), and losses once there is room (289). -/
def State.selfReport (s : State) (before : Recorder) : State :=
  let s := if !before.firstFull && s.rec_.firstFull then (s.occur 292 0 (leBytes 6 (s.rec_.next - 1))).1 else s
  if 0 < s.rec_.lostNow ∧ s.rec_.buf.length < recBufMost then
    let d := leBytes 4 (min s.rec_.lostNow 0xFFFFFFFF) ++ leBytes 6 (s.rec_.lostLow.getD 0)
    let n := s.rec_.lostNow
    let s := s.modRec (fun r => { r with
      lostNow := 0
      lostLow := none
      srcs := modD r.srcs 289 {} (fun x => { x with count := (x.count + 1) % 2 ^ 64, last := s.poolTime, pending := true }) })
    s.record { s.recOf 289 0 d with summary := true, rep := min n 65535 }
  else s

/-- An event source is raised (R494): its occurrence and all that follows at once. -/
def State.raise (s : State) (src cause : Nat) (detail : Bytes) : State :=
  let before := s.rec_
  let (s, w) := s.occur src cause detail
  (s.wraps w).selfReport before

/-- A counter counts `k` of its events for a request (R505, R506, R511). -/
def State.countFor (s : State) (n k : Nat) (t : ReqTag) : State :=
  let (s1, w1) := s.bump n k t
  let (s2, w2) := s1.bumps (s1.gpOf (0x400 + n)) k t
  s2.wraps (w1 ++ w2)

/-- A counter counts `k` of its events. -/
def State.count (s : State) (n k : Nat) : State := s.countFor n k {}

/-- ALERT_N is asserted (R496). -/
def State.alert (s : State) : Bool :=
  s.rec_.alertBoot || s.rec_.srcs.any (fun e => e.2.pending && s.flag (0xA000 + e.1) 4)

/-- The pool address of an extent key and an offset. -/
def poolAddr (key off : Nat) : Nat := key * extentBytes + off

end Sys2Proof.Machine
end

