-- ==== Sys2Proof/Machine/Wire.lean ====
section
/-! DEFINITION. A Hinge frame as bytes: its header and check, its sub-header and data area, and its encryption (R67, R253, R291 to R299,
R313, R330). -/

/-- A line of the metadata area as MIRROR and META frames carry it: the spec gives neither its place nor its bytes (log entry 12). -/
opaque Sys2Proof.Config.metaLine : Sys2Proof.MetaUpd → BitVec 512

/-- The header check of a frame whose sub-header holds a record of an open layout: an action record, an announcement's arguments, a census, a segment
of the pool state, or the entries of a map transfer (log entries 24, 125). -/
opaque Sys2Proof.Config.openCheck : Sys2Proof.Hdr → Sys2Proof.Machine.FBody → Nat

namespace Sys2Proof.Machine

/-! ### Manifest entries (R323) -/

/-- A MAC or IPv6 address as its bytes, first byte first. -/
def addrBytes (n a : Nat) : Bytes := (leBytes n a).reverse

/-- The address that a byte string holds. -/
def addrOf (b : Bytes) : Nat := fromLe b.reverse

/-- The 124 bytes of a manifest entry that its check covers (R323). -/
def entryHead (e : MEntry) : Bytes :=
  leBytes 2 e.dev ++ leBytes 1 (b2n e.noRoot) ++ leBytes 1 0 ++ leBytes 16 e.ident
    ++ (List.range 4).flatMap (fun p => addrBytes 6 (nth e.macs p 0)) ++ (List.range 4).flatMap (fun p => addrBytes 16 (nth e.ips p 0))
    ++ leBytes 4 e.extents ++ leBytes 8 0 ++ leBytes 4 e.gen

/-- A manifest entry's 128 bytes (R323). -/
def entryBytes (e : MEntry) : Bytes := entryHead e ++ leBytes 4 e.check

/-- Whether a manifest entry passes its check (R323). -/
def entryOk (e : MEntry) : Bool := e.check == crc32cOf (entryHead e)

/-- A manifest entry with its check (R323). -/
def sealEntry (e : MEntry) : MEntry := { e with check := crc32cOf (entryHead e) }

/-- The manifest entry 128 bytes hold (R323). -/
def entryOfBytes (b : Bytes) : MEntry where
  dev := field b 0 2
  noRoot := bit (field b 2 1) 0
  ident := field b 4 16
  macs := (List.range 4).map (fun p => addrOf ((b.drop (20 + 6 * p)).take 6))
  ips := (List.range 4).map (fun p => addrOf ((b.drop (44 + 16 * p)).take 16))
  extents := field b 108 4
  gen := field b 120 4
  check := field b 124 4

/-! ### Messages as bytes (R67) -/

/-- The 20 header bytes of a message (R67). -/
def headerBytes (byte1 byte0 tag idx sub flags target status ty off total : Nat) : Bytes :=
  leBytes 1 byte0 ++ leBytes 1 byte1 ++ leBytes 2 tag ++ leBytes 2 idx ++ leBytes 1 sub ++ leBytes 1 flags ++ leBytes 2 target ++
    leBytes 1 status ++ leBytes 1 ty ++ leBytes 4 off ++ leBytes 4 total

/-- The header of a request. -/
def headBytes (m : DictMsg) : Bytes :=
  headerBytes m.opcode (m.version * 16 + m.rsv0) m.tag m.index m.sub (b2n m.fwd + 2 * b2n m.more + 4 * b2n m.staged + 8 * m.rsv7) m.target 0
    m.type m.offset m.total

/-- Whether a request carries the CRC-32C of its header and value (R67). -/
def crcPasses (m : DictMsg) : Bool := m.crc == crc32cOf (headBytes m ++ m.value)

/-- A request with the CRC-32C its sender gives it (R67). -/
def sealMsg (m : DictMsg) : DictMsg := { m with crc := crc32cOf (headBytes m ++ m.value) }

/-- The header of a response: version 1, the response bit set, FWD clear, no target. -/
def respHead (r : DictResp) : Bytes := headerBytes (128 + r.opcode) 16 r.tag r.index r.sub (2 * b2n r.more) 0xFFFF r.status r.type r.offset r.total

/-- A response with its CRC-32C (R67). -/
def sealResp (r : DictResp) : DictResp := { r with crc := crc32cOf (respHead r ++ r.value) }

/-- A heat entry's 32 bytes (R161). -/
def heatBytes (h : Heat) : Bytes :=
  leBytes 4 h.rd ++ leBytes 4 h.wr ++ leBytes 2 h.rdS ++ leBytes 2 h.wrS ++ leBytes 2 h.age
    ++ leBytes 1 (b2n h.homed + 2 * b2n h.copy + 4 * b2n h.queued) ++ leBytes 1 0
    ++ (List.range 4).flatMap (fun i => match nth h.acc i none with
      | some a => leBytes 4 (a.vault + 2 ^ 15 + 2 ^ 16 * a.cnt)
      | none => leBytes 4 0)

/-- A directory entry or group record as its 32 bytes (R173). -/
def mapEntBytes (e : MapEnt) : Bytes :=
  leBytes 5 e.key ++ leBytes 1 e.state
    ++ leBytes 1 (b2n (e.attract != 0xFFFF) + 2 * b2n e.pinned + 4 * b2n e.noCopies + 8 * b2n (e.group != 0) + 16 * e.copies.length
        + 128 * b2n e.cooling)
    ++ leBytes 1 e.gen ++ leBytes 2 e.home ++ leBytes 3 e.slot ++ leBytes 1 0 ++ leBytes 2 e.attract ++ leBytes 4 e.group
    ++ (List.range 4).flatMap (fun i => leBytes 2 (nth e.copies i 0xFFFF)) ++ leBytes 2 e.coolEnd ++ leBytes 2 e.prev

/-! ### The data area (R293) -/

/-- The lines of a frame's data area, in order. -/
def bodyData : FBody → List Line
  | .write _ l _ => l
  | .data _ l _ => l
  | .mirror _ rs => rs.flatMap (fun r => r.lines ++ r.upd.toList.map Config.metaLine)
  | .chunk _ l _ => l
  | .metaArea _ _ l u => l ++ u.map Config.metaLine
  | _ => []

/-- Which lines of a frame's data area are poisoned. -/
def bodyPoison : FBody → List Bool
  | .write _ _ p => p
  | .data _ _ p => p
  | .mirror _ rs => rs.flatMap (fun r => (List.range r.lines.length).map (fun i => nth r.poison i false) ++ r.upd.toList.map (fun _ => false))
  | .chunk _ _ p => p
  | _ => []

/-- The lines a frame's data area holds (R293). -/
def bodyLines : FBody → Nat
  | .write _ l _ => l.length
  | .data _ l _ => l.length
  | .mirror _ rs => (rs.map (fun r => r.lines.length + (if r.upd.isSome then 1 else 0))).foldl (· + ·) 0
  | .chunk _ l _ => l.length
  | .metaArea _ _ l u => l.length + u.length
  | _ => 0

/-- Bits as a number, the first lowest. -/
def bitsNum (l : List Bool) : Nat := l.foldr (fun b n => b2n b + 2 * n) 0

/-- A number whose named bits are set. -/
def bitsAt (l : List Nat) : Nat := l.foldl (fun n i => n ||| 2 ^ i) 0

/-! ### Types and sub-headers (R295 to R299, R330) -/

/-- A frame's virtual channel and whether it is sequenced (R295). -/
def bodyVc : FBody → Nat × Bool
  | .heartbeat _ => (3, false) | .ack _ _ => (3, false) | .nak _ _ => (3, false) | .connect _ => (3, false)
  | .accept _ => (3, false) | .close _ => (3, false)
  | .claim _ _ => (3, true) | .notice _ _ _ => (3, true) | .mgmtReq _ _ => (3, true) | .mgmtResp _ _ => (3, true)
  | .tree _ _ => (3, true) | .placement _ _ => (3, true) | .mapEntries _ _ _ => (3, true)
  | .read _ => (0, true) | .write _ _ _ => (0, true) | .lookup _ _ => (0, true) | .piece _ _ _ _ => (0, true)
  | .data _ _ _ => (1, true) | .status _ => (1, true)
  | .mirror _ _ => (2, true) | .mirrorAck _ _ => (2, true) | .clean _ _ => (2, true) | .chunk _ _ _ => (2, true)
  | .chunkAck _ => (2, true) | .inval _ _ _ _ _ => (2, true) | .invalAck _ => (2, true) | .metaArea _ _ _ _ => (2, true)

/-- A frame's type code (R295). The entries of a map transfer travel as PLACEMENT frames: the table has no type of their own (log entry 24). -/
def bodyType : FBody → Nat
  | .heartbeat _ => 0x01 | .ack _ _ => 0x02 | .nak _ _ => 0x03 | .connect _ => 0x04 | .accept _ => 0x05 | .close _ => 0x06
  | .claim _ _ => 0x08 | .notice _ _ _ => 0x09 | .mgmtReq _ _ => 0x0A | .mgmtResp _ _ => 0x0A | .tree _ _ => 0x0B
  | .placement _ _ => 0x0C | .mapEntries _ _ _ => 0x0C
  | .read _ => 0x20 | .write _ _ _ => 0x21 | .lookup _ _ => 0x22 | .piece _ _ _ _ => 0x23 | .data _ _ _ => 0x40 | .status _ => 0x41
  | .mirror _ _ => 0x60 | .mirrorAck _ _ => 0x61 | .clean _ _ => 0x62 | .chunk _ _ _ => 0x63 | .chunkAck _ => 0x64
  | .inval _ _ _ _ _ => 0x65 | .invalAck _ => 0x66 | .metaArea _ _ _ _ => 0x67

/-- An origin tag (R266): the entry device above the request number. -/
def tagBytes (entry num : Nat) : Bytes := leBytes 8 (num % 2 ^ 48 + entry * 2 ^ 48)

/-- The request sub-header (R296). `tagOnly`: a LOOKUP sets the origin tag and the key only. -/
def reqSubBytes (q : ReqSub) (write tagOnly : Bool) (lines : Nat) : Bytes :=
  if tagOnly then tagBytes q.entry q.num ++ leBytes 5 q.key ++ leBytes 19 0
  else tagBytes q.entry q.num ++ leBytes 5 q.key ++ leBytes 1 q.gen ++ leBytes 3 q.slot
    ++ leBytes 1 ((if write then q.cls else 0) + 4 * b2n q.copyOk + 8 * b2n q.part + 16 * b2n q.homeStore)
    ++ leBytes 3 q.off ++ leBytes 3 (if write then 64 * lines else q.len) ++ leBytes 8 (if q.part then q.be.toNat else 0)

/-- The response sub-header (R296). -/
def respSubBytes (r : RespSub) : Bytes :=
  tagBytes r.entry r.num ++ leBytes 1 r.status ++ leBytes 1 r.gen ++ leBytes 2 r.vault ++ leBytes 3 r.slot ++ leBytes 1 (b2n r.last)
    ++ leBytes 4 r.off ++ leBytes 4 r.result

/-- A heartbeat's payload (R253). -/
def beatBytes (sender : Nat) (b : Beat) : Bytes :=
  leBytes 2 sender ++ leBytes 1 b.state
    ++ leBytes 1 (b2n b.hearing + 2 * b2n b.fenced + 4 * b2n b.withdrawn + 8 * b2n b.inSync + 16 * b2n b.handover)
    ++ leBytes 4 b.seq ++ leBytes 4 b.echo ++ leBytes 8 b.claim ++ leBytes 8 b.horizon ++ leBytes 8 b.assigned ++ leBytes 4 0

/-- The payload of CONNECT and ACCEPT (R295). -/
def connectBytes (b : ConnBody) : Bytes :=
  leBytes 4 b.seq ++ leBytes 4 b.epoch ++ (List.range 4).flatMap (fun i => leBytes 2 (nth b.credits i 0)) ++ leBytes 1 (b2n b.enc) ++ leBytes 1 0
    ++ leBytes 2 b.keyGen

/-- A forwarding prefix (R75). -/
def fwdBytes (p : FwdPrefix) : Bytes := leBytes 2 p.dev ++ leBytes 2 p.slot ++ leBytes 1 p.level ++ leBytes 3 0

/-- A TREE message's kind (R330). -/
def treeKind : TBody → Nat
  | .gather _ _ => 1 | .ready _ _ => 2 | .tick => 3 | .arrive _ _ => 4 | .release _ => 5 | .broadcast _ _ => 6 | .announce _ _ => 7
  | .done _ _ _ _ => 8 | .action _ _ => 9 | .result _ => 10 | .join _ _ => 11 | .state _ => 12

/-- A TREE message's body (R330). -/
def treeBody (b : TBody) : Bytes :=
  match b with
  | .gather gen ranks => leBytes 8 gen ++ leBytes 2 ranks.length ++ ranks.flatMap (fun r => leBytes 4 (r.1 + 65536 * b2n r.2))
  | .ready segment present => leBytes 1 segment ++ leBytes 2048 (bitsAt (present.map (fun r => r - 16384 * segment)))
  | .tick => []
  | .arrive arrived absent => leBytes 4 arrived ++ leBytes 4 absent
  | .release st => leBytes 1 st
  | .done st covered missed first => leBytes 1 st ++ leBytes 4 covered ++ leBytes 4 missed ++ leBytes 2 first
  | .result st => leBytes 1 st
  | .join ident number => leBytes 16 ident ++ leBytes 2 number
  | .broadcast payload _ => payload.flatMap (leBytes 1)
  | _ => []

/-- Whether a frame's sub-header holds a record whose layout the spec leaves open (log entry 125). -/
def bodyOpen : FBody → Bool
  | .tree _ (.announce _ _) => true
  | .tree _ (.action _ _) => true
  | .tree _ (.state _) => true
  | .tree _ (.broadcast _ census) => census != []
  | .mapEntries _ _ _ => true
  | _ => false

/-- The TREE sub-header and body (R330). -/
def treeBytes (t : TreeHdr) (b : TBody) : Bytes :=
  leBytes 1 (treeKind b) ++ leBytes 1 (b2n t.more + 2 * b2n t.late) ++ leBytes 2 t.root ++ leBytes 4 t.term ++ leBytes 8 t.pool ++ leBytes 8 t.op
    ++ leBytes 8 t.latch ++ treeBody b

/-- A placement message (R297): its body's numbers take 8 bytes each, a copy vault or slot offset of a report 2 and a read heat 4 (DESIGN CHOICE, log entry 24). -/
def placeBytes (code : Nat) (m : PMsg) : Bytes :=
  leBytes 1 code ++ leBytes 1 m.status ++ leBytes 5 m.key ++ leBytes 1 0 ++ leBytes 2 m.vault ++ leBytes 3 m.slot ++ leBytes 1 m.gen ++ leBytes 2 0
    ++ (if code = 5 then heatBytes m.heat ++ (List.range 4).flatMap (fun i => leBytes 2 ((nth m.list i (0xFFFF, 0)).1))
        else leBytes 8 m.a ++ leBytes 8 m.b ++
          m.list.flatMap (fun x => if code = 12 then leBytes 2 x.1 ++ leBytes 4 x.2 else leBytes 8 x.1 ++ leBytes 8 x.2))

/-- One run of a MIRROR frame: its descriptor and extensions (R299). -/
def runBytes (r : Run) : Bytes :=
  leBytes 8 r.first ++ leBytes 3 r.slot ++ leBytes 2 r.line ++ leBytes 1 (r.lines.length + r.upd.toList.length)
    ++ leBytes 1 (b2n r.oneSeq + 2 * b2n r.cont + 4 * b2n r.be.isSome + 8 * b2n r.origin.isSome + 16 * b2n r.atomic.isSome) ++ leBytes 1 0
    ++ (match r.be with | some be => leBytes 8 be.toNat | none => [])
    ++ (match r.origin with | some o => tagBytes o.1 o.2 | none => [])
    ++ (match r.atomic with | some a => leBytes 2 a.1 ++ leBytes 2 a.2.1 ++ leBytes 1 a.2.2 ++ leBytes 3 0 | none => [])

/-- The sub-header of CHUNK and CHUNK_ACK (R295). -/
def chunkBytes (c : ChunkSub) : Bytes :=
  leBytes 5 c.key ++ leBytes 1 c.kind ++ leBytes 3 c.slot ++ leBytes 2 c.line ++ leBytes 1 c.count ++ leBytes 4 c.pass

/-- Everything of a frame between its header and its data area: what the header check covers beside the header (R291). `sender`: the device of
the header's source field. -/
def bodySub (sender : Nat) : FBody → Bytes
  | .heartbeat b => beatBytes sender b
  | .ack next credits => (List.range 4).flatMap (fun v => leBytes 4 (nth next v 0) ++ leBytes 2 (nth credits v 0))
  | .nak vc next => leBytes 4 vc ++ leBytes 4 next
  | .connect b => connectBytes b
  | .accept b => connectBytes b
  | .close why => leBytes 4 why
  | .claim v c => leBytes 8 v ++ leBytes 8 c
  | .notice kind v dirty => leBytes 2 kind ++ leBytes 6 v ++ leBytes 8 dirty
  | .mgmtReq p m => fwdBytes p ++ headBytes m ++ m.value ++ leBytes 4 m.crc
  | .mgmtResp p r => fwdBytes p ++ respHead r ++ r.value ++ leBytes 4 r.crc
  | .tree t b => treeBytes t b
  | .placement code m => placeBytes code m
  | .mapEntries i es last => leBytes 2 i ++ leBytes 2 (b2n last) ++ leBytes 4 es.length ++ es.flatMap mapEntBytes
  | .read q => reqSubBytes q false false 0
  | .write q l _ => reqSubBytes q true false l.length
  | .lookup q _ => reqSubBytes q false true 0
  | .piece q desc off len => reqSubBytes q false false 0 ++ desc.take 64 ++ leBytes 8 off ++ leBytes 4 len
  | .data r _ _ => respSubBytes r
  | .status r => respSubBytes r
  | .mirror stream rs => leBytes 1 rs.length ++ leBytes 1 stream ++ leBytes 6 0 ++ rs.flatMap runBytes
  | .mirrorAck stream seq => leBytes 8 stream ++ leBytes 8 seq
  | .clean stream es => leBytes 1 stream ++ leBytes 1 es.length ++ es.flatMap (fun e => leBytes 4 (e.1 + 2 ^ 22 * e.2))
  | .chunk c _ _ => chunkBytes c
  | .chunkAck c => chunkBytes c
  | .inval key slot line count token => leBytes 5 key ++ leBytes 1 0 ++ leBytes 3 slot ++ leBytes 2 line ++ leBytes 1 count ++ leBytes 4 token
  | .invalAck token => leBytes 12 0 ++ leBytes 4 token
  | .metaArea part off _ _ => leBytes 4 part ++ leBytes 4 off

/-- The bytes of a TREE message's body (R330); a record of an open layout counts 16, a census 8 and a manifest entry 128 (log entry 24). -/
def treeLen : TBody → Nat
  | .gather _ r => 10 + 4 * r.length
  | .ready _ _ => 2049
  | .tick => 0
  | .arrive _ _ => 8
  | .release _ => 1
  | .broadcast p c => p.length + 8 * c.length
  | .announce _ _ => 17
  | .done _ _ _ _ => 11
  | .action _ _ => 16
  | .result _ => 1
  | .join _ _ => 18
  | .state i => 4 + 128 * i.entries.length

/-- The length of a frame's sub-header and of what else precedes its data area (R295 to R299, R330). -/
def bodyHead : FBody → Nat
  | .heartbeat _ => 40 | .ack _ _ => 24 | .nak _ _ => 8 | .connect _ => 20 | .accept _ => 20 | .close _ => 4
  | .claim _ _ => 16 | .notice _ _ _ => 16
  | .mgmtReq _ m => 32 + m.value.length | .mgmtResp _ r => 32 + r.value.length
  | .tree _ b => 32 + treeLen b
  | .placement c m => if c = 5 then 56 else 32 + (if c = 12 then 6 else 16) * m.list.length
  | .mapEntries _ k _ => 8 + 32 * k.length
  | .read _ => 32 | .write _ _ _ => 32 | .lookup _ _ => 32 | .piece _ _ _ _ => 108
  | .data _ _ _ => 24 | .status _ => 24
  | .mirror _ rs => 8 + (rs.map (fun r => 16 + (if r.be.isSome then 8 else 0) + (if r.origin.isSome then 8 else 0)
      + (if r.atomic.isSome then 8 else 0))).foldl (· + ·) 0
  | .mirrorAck _ _ => 16 | .clean _ e => 2 + 4 * e.length | .chunk _ _ _ => 16 | .chunkAck _ => 16
  | .inval _ _ _ _ _ => 16 | .invalAck _ => 16 | .metaArea _ _ _ _ => 8

/-- The bytes of a frame from its first header byte (R290, R291), without a tag. -/
def bodyBytes (b : FBody) : Nat := 32 + bodyHead b + 64 * bodyLines b

/-! ### The header (R291) -/

/-- Bytes 0 to 27 of the header of a frame with a given body (R291). Under ENC the payload length counts the 16-byte tag (R313). -/
def headOf (h : Hdr) (b : FBody) : Bytes :=
  leBytes 1 (2 * b2n h.retx + 4 * b2n h.enc + 8 * (bodyVc b).1 + 32) ++ leBytes 1 (bodyType b) ++ leBytes 2 h.src ++ leBytes 2 h.dst
    ++ leBytes 2 (h.sport % 4 + 4 * (h.dport % 4) + 16 * (bodyBytes b - 32 + (if h.enc then 16 else 0)))
    ++ leBytes 4 h.seq ++ leBytes 4 h.ack ++ leBytes 8 h.claim ++ leBytes 4 h.poison

/-- The header check (R291): CRC-32C over bytes 0 to 27 and the sub-header. -/
def headCheck (h : Hdr) (b : FBody) : Nat := if bodyOpen b then Config.openCheck h b else crc32cOf (headOf h b ++ bodySub h.src b)

/-- Whether a received header passes step 3 of R294: no poison bit stands above its last line (R293) and its check is as computed; `hdrOk` tells of the version, the reserved bits and the payload length, and
of the check of an open record (log entry 125). -/
def headPasses (h : Hdr) (b : FBody) : Bool :=
  h.hdrOk && decide (h.poison < 2 ^ bodyLines b) && (bodyOpen b || h.check == headCheck h b)

/-- A header with the check its sender gives it. -/
def sealHdr (h : Hdr) (b : FBody) : Hdr := { h with check := headCheck h b }

/-! ### Encryption (R313) -/

/-- The IV of a frame (R313), its fields in order from byte 0 on, and the first of two-bit fields lowest (DESIGN CHOICE, log entry 125: the spec
gives no byte order inside the IV). -/
def frameIv (h : Hdr) (vc epoch : Nat) : Nat :=
  fromLe (leBytes 2 h.src ++ leBytes 2 h.dst ++ leBytes 1 (h.sport % 4 + 4 * (h.dport % 4) + 16 * vc) ++ leBytes 3 epoch ++ leBytes 4 h.seq) + 2 ^ 120

/-- A data area's ciphertext (R313), and its plaintext from the ciphertext: the lines under the key stream of a key of `kb` bytes. -/
def gcmLines (kb key iv : Nat) (ls : List Line) : List Line :=
  (List.range ls.length).map (fun i =>
    nth ls i 0 ^^^ BitVec.ofNat 512 (fromLe ((List.range 4).flatMap (fun j => leBytes 16 (aesEnc kb key (gcmPlus iv (4 * i + j + 1)))))))

/-- The tag of a frame: header bytes 0 to 27 and the sub-header as additional data, and the ciphertext (R313). -/
def frameTag (kb key iv : Nat) (h : Hdr) (b : FBody) (ls : List Line) : Nat :=
  fromLe (gcmTagOf kb key iv (headOf h b ++ bodySub h.src b) (ls.flatMap lineToBytes))

end Sys2Proof.Machine
end

