-- ==== Sys2Proof/Machine/Frames.lean ====
section
/-! DEFINITION. Sending over Hinge: who a peer is, which port reaches it, connections with their sequences and credits,
and what happens when a connection fails (R283 to R316). -/

namespace Sys2Proof.Machine

/-! ### The device and its peers (R15, R16) -/

/-- The device's vault number; for a device without a number one beyond the 32,768 vaults (R22). -/
def State.vault (s : State) : Nat := s.pool.number / 2

/-- The twin's device number (R16). -/
def State.twinDev (s : State) : Nat := s.pool.number ^^^ 1

/-- The manifest's entry of a device. -/
def State.entryOf (s : State) (d : Nat) : Option MEntry := s.pool.entries.find? (fun e => e.dev == d)

/-- Whether the manifest lists a device (R15). -/
def State.listed (s : State) (d : Nat) : Bool := s.pool.entries.any (fun e => e.dev == d)

/-- Whether the device has a number (R15). -/
def State.numbered (s : State) : Bool := s.pool.number != noDev

/-- Whether the manifest lists the device's twin (R19, R276). -/
def State.twinListed (s : State) : Bool := s.numbered && s.listed s.twinDev

/-! ### Ports (R285, R306) -/

/-- A port's role: 0 twin, 1 pool (R285, 0x2210+p:14). -/
def State.portRole (s : State) (p : Nat) : Nat := if s.hinge.roles < 2 ∧ p + s.hinge.roles < 2 then 0 else 1

/-- A Hinge port. -/
def State.xport (s : State) (p : Nat) : XPort := getD s.hinge.ports p {}

/-- A Hinge port changed. -/
def State.modXport (s : State) (p : Nat) (f : XPort → XPort) : State :=
  s.modHinge (fun h => { h with ports := modD h.ports p {} f })

/-- Whether a Hinge port is in service, at full or reduced width. -/
def State.portUp (s : State) (p : Nat) : Bool := (s.xport p).link == 2 || (s.xport p).link == 3

/-- The ports of a role that are in service. -/
def State.upPorts (s : State) (role : Nat) : List Nat :=
  (List.range 4).filter (fun p => s.portRole p == role && s.portUp p)

/-- The port that reaches another device (R306, R287). -/
def State.portFor (s : State) (d : Nat) : Option Nat :=
  let pool := s.upPorts 1
  let viaPool :=
    if pool = [] then none
    else if s.hinge.roles = 0 then
      let want := 2 + (s.pool.number + d) % 2
      if pool.contains want then some want else pool.head?
    else pool[(s.pool.number + d) % pool.length]?
  if s.twinListed ∧ d = s.twinDev then (match (s.upPorts 0).head? with | some p => some p | none => viaPool)
  else viaPool

/-! ### Frames -/

/-- Whether a frame belongs to a mirror stream (R206, R210). -/
def onStream : FBody → Bool
  | .mirror _ _ => true
  | .clean _ _ => true
  | _ => false

/-- The class a frame is sent under (R304). A piece's LOOKUP goes under the class of its other requests (DEDUCED, log entry 125: the table names LOOKUP
for host demand and for placement). -/
def bodyClass : FBody → Nat
  | .read q => if q.homeStore then 3 else if q.bulk then 5 else 0
  | .write q _ _ => if q.bulk then 5 else 0
  | .lookup q _ => if q.bulk then 5 else 0
  | .mirror _ rs => if rs.all Run.sync then 6 else 1
  | .mirrorAck _ _ => 1 | .clean _ _ => 1 | .inval _ _ _ _ _ => 1 | .invalAck _ => 1
  | .data _ _ _ => 2 | .status _ => 2
  | .chunk _ _ _ => 4 | .chunkAck _ => 4 | .placement _ _ => 4 | .mapEntries _ _ _ => 4
  | .piece _ _ _ _ => 5
  | .metaArea _ _ _ _ => 6
  | _ => 7

/-- An access to a channel: it wakes the channel from self-refresh unless the device is parked (R389, R521), and the idle time
starts again. -/
def State.touchChan (s : State) (n : Nat) : State :=
  match assoc s.dram.chans n with
  | none => s
  | some c =>
    if c.state = 4 ∧ s.power.state ≠ 3 then
      (s.modDram (fun d => { d with chans := insertKey n { c with state := 2, lastUse := s.now } d.chans })).count (8 * n + 7) ((s.now - c.selfSince) / 125)
    else s.modDram (fun d => { d with chans := insertKey n { c with lastUse := s.now } d.chans })

/-- A request joins the queue of its class, or is held at its source while that holds 64 requests or others wait there before it (R365). -/
def Arb.join (a : Arb) (q : LReq) : Arb :=
  if 64 ≤ (a.queue.filter (fun x => x.cls == q.cls)).length || a.held.any (fun x => x.cls == q.cls) then { a with held := a.held ++ [q] }
  else { a with queue := a.queue ++ [q] }

/-- A request waits at an arbiter from now on (R365, R366): resource, requester, class and grant units. Mirror runs, write-back and
maintenance of more than one unit ask for a lock of their whole length (R369). -/
def State.ask (s : State) (r src cls units : Nat) : State :=
  (if r < 16 then s.touchChan r else s).modLattice (fun l => { l with
    arbs := modD l.arbs r {} (fun a => a.join
      { src := src, cls := cls, stamp := s.poolTime % 2 ^ 20, units := units, lockLen := if [1, 3, 6].contains cls && decide (1 < units) then units else 0 }) })

/-! ### Connections (R300 to R305) -/

/-- A channel of a connection. -/
def Conn.chan (c : Conn) (vc : Nat) : ChanSt := nth c.chans vc {}

/-- A channel of a connection changed. -/
def Conn.modChan (c : Conn) (vc : Nat) (f : ChanSt → ChanSt) : Conn := { c with chans := modNth c.chans vc f }

/-- The connection with a peer on a port. -/
def State.conn (s : State) (peer port : Nat) : Option Conn :=
  s.hinge.conns.find? (fun c => c.peer == peer && c.port == port)

/-- A connection stored, in place of the one of the same identity. -/
def State.putConn (s : State) (c : Conn) : State :=
  s.modHinge (fun h => { h with
    conns := if h.conns.any (fun x => x.peer == c.peer && x.port == c.port)
      then h.conns.map (fun x => if x.peer == c.peer && x.port == c.port then c else x) else h.conns ++ [c] })

/-- A connection's state discarded. -/
def State.dropConn (s : State) (peer port : Nat) : State :=
  s.modHinge (fun h => { h with conns := h.conns.filter (fun x => !(x.peer == peer && x.port == port)) })

/-- The credits offered at opening (R305). -/
def State.offered (s : State) (port : Nat) : List Nat := if s.portRole port = 0 then [64, 128, 1024, 16] else [4, 4, 4, 2]

/-- Credits a sender holds: the granted total less the frames sent, modulo 2^16 (R308). -/
def ChanSt.credits (c : ChanSt) : Nat := (c.granted + 65536 - c.sent % 65536) % 65536

/-- The Hinge key slot's record (R313). -/
def State.hingeKey (s : State) : KeySlot := getD s.cipher.slots (s.setting 0x2200 7) {}

/-- Whether connections on a port are encrypted (R313). -/
def State.encrypts (s : State) (port : Nat) : Bool := s.flag (0x2210 + port) 8

/-- Whether the epoch counter is exhausted for encrypted connections (R313): the next value would wrap, or it has wrapped since the key's
generation last changed. -/
def State.epochEnd (s : State) : Bool := s.hinge.wrapped || decide (2 ^ 24 ≤ s.hinge.epoch + 1)

/-- Whether an encrypted connection may open: a loaded key, and an epoch left (R313, R315). -/
def State.mayEncrypt (s : State) : Bool := s.hingeKey.state == 1 && !s.epochEnd

/-- The next epoch taken for a connection (R313). -/
def State.nextEpoch (s : State) : State :=
  s.modHinge (fun h => { h with epoch := (h.epoch + 1) % 2 ^ 24, wrapped := h.wrapped || decide (2 ^ 24 ≤ h.epoch + 1) })

/-! ### What a frame carries (R288 to R293, R304, R313) -/

/-- The claim table's entry of a vault; 1 at commissioning (R17, R268). -/
def State.claimOf (s : State) (v : Nat) : Nat := getD s.twin.claims v 1

/-- The Claim field of a frame (R292): the device's own claim record's number in the states Active, Active twin lost, Alone, Claiming and Handing
over, and otherwise its claim table's entry for its own vault. -/
def State.claimField (s : State) : Nat := if [1, 2, 3, 6, 9].contains s.twin.state then s.twin.claim else s.claimOf s.vault

/-- A frame's source and destination device numbers (R291): a joiner has none, and sends as 0xFFFF. -/
def State.srcDev (s : State) : Nat := min s.pool.number 0xFFFF

/-- The connection a frame belongs to. -/
def State.connOf (s : State) (f : Frame) : Option Conn := s.hinge.conns.find? (fun c => c.peer == f.peer && c.port == f.port)

/-- The header of a frame that leaves (R291). -/
def Frame.hdr (f : Frame) (src : Nat) : Hdr :=
  { src := src, dst := min f.peer 0xFFFF, sport := f.port, dport := f.rport, seq := f.seq, ack := f.ack, claim := f.claim, poison := f.poison,
    enc := f.enc.isSome, retx := f.retx }

/-- A frame with its header filled in (R291 to R293), and encrypted where its connection is and it has a data area (R313). -/
def State.dress (s : State) (f : Frame) : Frame :=
  let c := s.connOf f
  let k := s.hingeKey
  let f := { f with
    rport := (c.map Conn.rport).getD f.port
    ack := (c.map (fun (c : Conn) => (nth c.chans f.vc {}).nextRx)).getD 0
    claim := s.claimField
    poison := bitsNum (bodyPoison f.body) }
  let f := match c with
    | some c =>
      if c.enc && 0 < bodyLines f.body then
        let f := { f with enc := some (0, [], 0) }
        let kb := aesBytes k.kind
        let iv := frameIv (f.hdr s.srcDev) f.vc c.epoch
        let ct := gcmLines kb k.key iv (bodyData f.body)
        { f with enc := some (iv, ct, frameTag kb k.key iv (f.hdr s.srcDev) f.body ct) }
      else f
    | none => f
  { f with check := headCheck (f.hdr s.srcDev) f.body }

/-- A port's MAC and IPv6 address as the manifest gives them (R289). -/
def State.portAddr (s : State) (d p : Nat) : Nat × Nat := ((s.entryOf d).map (fun e => (nth e.macs p 0, nth e.ips p 0))).getD (0, 0)

/-- The carry of a one's complement sum folded back. -/
def fold16 (n fuel : Nat) : Nat :=
  match fuel with
  | 0 => n
  | fuel + 1 => if n < 65536 then n else fold16 (n % 65536 + n / 65536) fuel

/-- The sum of a byte string as 16-bit words, most significant byte first. -/
def sumWords (b : Bytes) (fuel : Nat) : Nat :=
  match fuel with
  | 0 => 0
  | fuel + 1 => match b with
    | [] => 0
    | [x] => 256 * x.toNat
    | x :: y :: b => 256 * x.toNat + y.toNat + sumWords b fuel

/-- A UDP checksum over the IPv6 pseudo-header, the UDP header and the payload (R288, RFC 8200): never zero. -/
def udpCheck (src dst sport dport : Nat) (payload : Bytes) : Nat :=
  let n := payload.length + 8
  let words := leBytes 16 src ++ leBytes 16 dst
  let c := fold16 (sumWords words 17 + 2 * n + 17 + sport + dport + sumWords payload (payload.length + 1)) 8
  if c = 65535 then 65535 else 65535 - c

/-- The bytes of a frame from its first header byte (R291, R313). -/
def Frame.bytes (f : Frame) (src : Nat) : Bytes :=
  headOf (f.hdr src) f.body ++ leBytes 4 f.check ++ bodySub src f.body
    ++ (match f.enc with
      | some (_, ct, tag) => ct.flatMap lineToBytes ++ leBytes 16 tag
      | none => (bodyData f.body).flatMap lineToBytes)

/-- The length of a frame, with its tag (R291, R313). -/
def Frame.size (f : Frame) : Nat := bodyBytes f.body + (if f.enc.isSome then 16 else 0)

/-- The next hop of a datagram (R289): the destination itself, or the port's gateway. -/
def State.nextHop (s : State) (f : Frame) : Nat :=
  if s.setting (0x2210 + f.port) 0x0F = 0 then (s.portAddr f.peer f.rport).2 else s.setting (0x2210 + f.port) 0x0F

/-- The MAC address a frame goes to, where it is known (R289): the manifest's in direct carriage, and Neighbor Discovery's for the next hop in IPv6
carriage. -/
def State.macFor (s : State) (f : Frame) : Option Nat :=
  let x := s.xport f.port
  if x.carriage = 0 then some (s.portAddr f.peer f.rport).1
  else (x.nd.find? (fun e => e.1 == s.nextHop f)).map (fun e => e.2.1)

/-- A frame under its Ethernet header (R288, R289, R304). The four identifiers of the source port and flow label are source and destination device
and port in the header's order and widths (DESIGN CHOICE, log entry 125). -/
def State.framed (s : State) (f : Frame) (mac : Nat) : Frame :=
  let p := f.port
  let own := s.portAddr s.pool.number p
  let four := crc32cOf (leBytes 2 s.srcDev ++ leBytes 2 (min f.peer 0xFFFF) ++ leBytes 1 p ++ leBytes 1 f.rport)
  { f with ether := {
      srcMac := own.1
      dstMac := mac
      vlan := s.setting (0x2210 + p) 9
      prio := s.setting (0x2210 + p) 0x0A / 16 ^ f.vc % 16
      type := if (s.xport p).carriage = 0 then s.hinge.ether else 0x86DD
      udp := if (s.xport p).carriage = 0 then none else
        let dst := (s.portAddr f.peer f.rport).2
        let sport := 0xC000 ||| four % 2 ^ 14
        some {
          src := own.2
          dst := dst
          flow := four % 2 ^ 20
          dscp := s.setting (0x2210 + p) 0x0B / 256 ^ f.vc % 256
          sport := sport
          dport := s.hinge.udp
          check := udpCheck own.2 dst sport s.hinge.udp (f.bytes s.srcDev) } } }

/-- A frame with its header leaves its port: shown outside, counted (R322), and entered at the port's arbiter when its type goes through the
lattice (R304, R365; resource 16+p, requester 0x19). A frame whose next hop is not resolved waits for the answer to a solicitation (R289). -/
def State.putDressed (s : State) (f : Frame) : State :=
  match s.macFor f with
  | none => (s.modXport f.port (fun x => { x with unsent := x.unsent ++ [(s.nextHop f, f)] })).emit (.neighborAsk f.port (s.nextHop f))
  | some mac =>
    let s := (s.emit (.frame (s.framed f mac))).countFor (192 + 8 * f.port) 1 { cls := bodyClass f.body, src := 0x19 }
    let s := s.count (194 + 8 * f.port) f.size
    let s := if f.enc.isSome then s.count 448 (64 * bodyLines f.body) else s
    if (bodyVc f.body).2 then s.ask (16 + f.port) 25 (bodyClass f.body) 1 else s

/-- A frame made and sent. -/
def State.putFrame (s : State) (f : Frame) : State := s.putDressed (s.dress f)

/-- A sequenced frame sent for the first time; one whose encryption failed twice is not sent and stays unacknowledged (R446). -/
def State.firstSent (s : State) (f : Frame) : State :=
  let at_ := (0, f.port, f.seq)
  if s.cipher.lost.contains at_ then s.modCipher (fun c => { c with lost := c.lost.filter (· != at_) }) else s.putFrame f

/-- Whether a port's pause holds the priority of a virtual channel now (R304, R311). -/
def State.pausedNow (s : State) (port vc : Nat) : Bool :=
  (s.xport port).paused.any (fun x => x.1 == s.setting (0x2210 + port) 0x0A / 16 ^ vc % 16 && decide (s.now < x.2.2))

/-- Frames of a channel go out while the connection is open, credits last and the fence latch leaves the channel open (R261,
R305): at most `fuel` of them. -/
def State.pump (s : State) (peer port vc fuel : Nat) : State :=
  match fuel with
  | 0 => s
  | fuel + 1 =>
    match s.conn peer port with
    | none => s
    | some c =>
      match (c.chan vc).waiting with
      | [] => s
      | b :: rest =>
        if c.state ≠ 2 ∨ (s.twin.latch ∧ s.twin.state ≠ 8 ∧ vc ≠ 3) then s
        else if (c.chan vc).credits = 0 ∨ s.pausedNow port vc then s
        else
          let f : Frame := { peer := peer, port := port, vc := vc, seq := (c.chan vc).nextTx, body := b }
          let c := c.modChan vc (fun k => { k with
            waiting := rest
            nextTx := (k.nextTx + 1) % 2 ^ 32
            sent := k.sent + 1
            sinceAck := 0
            unacked := k.unacked ++ [f]
            oldest := if k.unacked = [] then s.now else k.oldest })
          (((s.putConn { c with lastUse := s.now }).firstSent f)).pump peer port vc fuel

/-- Every frame that waits on a channel goes out as far as it may. -/
def State.pumpAll (s : State) (peer port vc : Nat) : State :=
  s.pump peer port vc (match s.conn peer port with | some c => (c.chan vc).waiting.length | none => 0)

/-- The body of this side's CONNECT or ACCEPT. -/
def State.connBody (s : State) (port : Nat) : ConnBody where
  seq := s.poolTime % 2 ^ 32
  epoch := s.hinge.epoch
  credits := s.offered port
  enc := s.encrypts port
  keyGen := if s.encrypts port then s.hingeKey.gen else 0

/-- Whether a connection has nothing unacknowledged and nothing to send. -/
def Conn.idle (c : Conn) : Bool := c.chans.all (fun k => k.unacked == [] && k.waiting == [])

/-- Room is made for one more connection (R303): the longest idle with nothing unacknowledged is closed. The answer is false where there is none. -/
def State.roomForConn (s : State) : State × Bool :=
  let open_ := s.hinge.conns.filter (fun c => c.state != 0)
  if open_.length < 16384 then (s, true)
  else
    let idle := open_.filter Conn.idle
    match idle.find? (fun c => c.lastUse == minOf (idle.map Conn.lastUse) (s.now + 1)) with
    | some c => ((s.putFrame { peer := c.peer, port := c.port, vc := 3, body := .close 0 }).dropConn c.peer c.port, true)
    | none => (s, false)

/-- A closed connection opens (R303): initial sequence, the next epoch (R313), CONNECT. Frames already waiting stay with it. Without a key an encrypted
port opens none (R315); an epoch counter at its end raises source 114+4p (R313); at the connection limit it waits for room (R303). -/
def State.openConn (s : State) (peer port : Nat) (waiting : List (List FBody)) : State :=
  let fresh : Conn := { peer := peer, port := port, chans := waiting.map (fun w => { waiting := w }), lastUse := s.now }
  if s.encrypts port && !s.mayEncrypt then
    let s := s.putConn fresh
    if s.epochEnd then s.raise (114 + 4 * port) 2 (leBytes 2 peer ++ leBytes 1 4 ++ leBytes 4 1) else s
  else
    let (s, room) := s.roomForConn
    if !room then s.putConn { fresh with room := true }
    else
      let s := s.nextEpoch
      let b := s.connBody port
      s.putConn { fresh with
        state := 1
        epoch := b.epoch
        enc := b.enc
        keyGen := b.keyGen
        init := b.seq
        tries := 1
        chans := (List.range 4).map (fun vc =>
          { nth fresh.chans vc {} with given := nth b.credits vc 0, told := nth b.credits vc 0, nextTx := b.seq, oldest := s.now }) }
        |>.putFrame { peer := peer, port := port, vc := 3, body := .connect b }

/-- The connections that wait for room open as far as there is room (R303). -/
def State.openHeld (s : State) : State :=
  (s.hinge.conns.filter Conn.room).foldl (fun s c => s.openConn c.peer c.port (c.chans.map ChanSt.waiting)) s

/-- One sequenced frame handed to a connection on a port, which opens when it is closed (R303). -/
def State.queueOn (s : State) (peer port : Nat) (b : FBody) : State :=
  let vc := (bodyVc b).1
  match s.conn peer port with
  | some c =>
    let s := s.putConn (c.modChan vc (fun k => { k with waiting := k.waiting ++ [b] }))
    if c.state = 0 ∧ c.room then s
    else if c.state = 0 then
      s.openConn peer port ((List.range 4).map (fun v => ((c.modChan vc (fun k => { k with waiting := k.waiting ++ [b] })).chan v).waiting))
    else s.pumpAll peer port vc
  | none => s.openConn peer port ((List.range 4).map (fun v => if v = vc then [b] else []))

/-- A frame sent on a given port: an unsequenced one at once, a sequenced one through its connection. -/
def State.sendOn (s : State) (peer port : Nat) (b : FBody) : State :=
  if (bodyVc b).2 then s.queueOn peer port b else s.putFrame { peer := peer, port := port, vc := 3, body := b }

/-- A frame sent to a device on the port of R306; with no port in service nothing is sent: the request stays with its
requester, whose own time limit ends it (R301). -/
def State.send (s : State) (peer : Nat) (b : FBody) : State :=
  match s.portFor peer with
  | some p => s.sendOn peer p b
  | none => s

/-- A frame sent to several devices. -/
def State.sendAll (s : State) (peers : List Nat) (b : FBody) : State := peers.foldl (fun s d => s.send d b) s

/-- The frames a failed connection leaves, a channel at a time: those not acknowledged in sequence order, then those not sent. -/
def Conn.leftovers (c : Conn) : List (List FBody) := c.chans.map (fun k => k.unacked.map Frame.body ++ k.waiting)

/-- A connection's state goes, and its frames move to another port of the role, to any other port that reaches the peer (R287), or
stay with their requesters (R301). Mirror records and clean notices move as R208 gives, so they are not moved here. -/
def State.moveConn (s : State) (c : Conn) : State :=
  let s := s.dropConn c.peer c.port
  let left := c.leftovers
  let left := if s.portRole c.port = 0 then modNth left 2 (fun l => l.filter (fun b => !onStream b)) else left
  if left.all (· == []) then s
  else
    let target := match (s.upPorts (s.portRole c.port)).find? (fun p => p != c.port && !s.hinge.unreach.contains (c.peer, p)) with
      | some p => some p
      | none => s.portFor c.peer
    match target with
    | none => s
    | some p =>
      match s.conn c.peer p with
      | none => s.openConn c.peer p left
      | some k =>
        let k := { k with chans := (List.range 4).map (fun v =>
          { k.chan v with waiting := nth left v [] ++ (k.chan v).waiting }) }
        let s := s.putConn k
        (List.range 4).foldl (fun s v => s.pumpAll c.peer p v) s

/-- A connection fails (R301): source 113+4p, its frames move. A peer that did not answer the most recent ready wave is absent, and
its retries' end raises nothing (R312). Causes (log entry 36): 0 retry limit, 1 port out of service, 2 CONNECT from the peer, 3 tag
failures, 5 key generation. -/
def State.failConn (s : State) (c : Conn) (cause vc : Nat) : State :=
  let s := if cause = 0 ∧ !s.pool.present.contains c.peer then s
    else s.raise (113 + 4 * c.port) cause (leBytes 2 c.peer ++ leBytes 1 c.port ++ leBytes 1 vc ++ leBytes 1 cause)
  s.moveConn c

/-- An ACK frame of a connection: next expected and credits given per channel (R308). -/
def State.sendAck (s : State) (peer port : Nat) : State :=
  match s.conn peer port with
  | none => s
  | some c =>
    let s := s.putConn { c with chans := c.chans.map (fun k => { k with sinceAck := 0, told := k.given }) }
    s.putFrame { peer := peer, port := port, vc := 3, body := .ack (c.chans.map ChanSt.nextRx) (c.chans.map (fun k => k.given % 65536)) }

/-- The devices of the most recent ready wave other than this one (0x2008:06). -/
def State.others (s : State) : List Nat := s.pool.present.filter (· != s.pool.number)

end Sys2Proof.Machine
end

