-- ==== Sys2Proof/Machine/Stream.lean ====
section
/-! DEFINITION. The mirror stream to the twin (R203 to R208). -/

namespace Sys2Proof.Machine

/-! ### The mirror stream (R203 to R208) -/

/-- The twin port that carries a stream (R205, R208, R285): its own, or the other while its own is out of service. -/
def State.streamPort (s : State) (stream : Nat) : Option Nat :=
  let up := s.upPorts 0
  if up.contains stream then some stream else up.head?

/-- A mirror record sent on its stream: a run of more than 32 lines goes in two frames, the second its continuation (R299). -/
def State.sendMirror (s : State) (stream : Nat) (r : Run) : State :=
  match s.streamPort stream with
  | some p =>
    if r.lines.length ≤ 32 then s.sendOn s.twinDev p (.mirror stream [r])
    else
      let a := { r with cont := true, lines := r.lines.take 32, poison := r.poison.take 32 }
      let b := { r with line := r.line + 32, lines := r.lines.drop 32, poison := r.poison.drop 32 }
      (s.sendOn s.twinDev p (.mirror stream [a])).sendOn s.twinDev p (.mirror stream [b])
  | none => s

/-- The streams whose connection was on a twin port move or go on elsewhere (R208): every record of them that is not acknowledged is
sent again, in sequence order, before any newer one. -/
def State.resendStreams (s : State) (port : Nat) : State :=
  if s.portRole port ≠ 0 ∨ !s.persist.mirroring then s
  else
    let rs := s.persist.unacked.filter (fun r => r.stream == port || !s.portUp r.stream)
    rs.foldl (fun s r => s.sendMirror r.stream r.run) s

/-- A connection fails (R301), and the mirror streams it carried go on (R208). -/
def State.connFails (s : State) (c : Conn) (cause vc : Nat) : State := (s.failConn c cause vc).resendStreams c.port

/-- Whether a sequence number is twin-safe: its record is acknowledged (R201), or no stream is open (R207). -/
def State.twinSafe (s : State) (seq : Nat) : Bool := !s.persist.unacked.any (fun r => decide (r.run.first ≤ seq ∧ seq ≤ r.seq))

/-- The horizon as the unacknowledged records leave it (R207). -/
def State.syncHorizon (s : State) : State :=
  let h := match s.persist.unacked with
    | [] => s.persist.seq
    | r :: rs => minOf (rs.map (fun (x : MRec) => x.run.first)) r.run.first - 1
  s.modPersist (fun p => { p with horizon := h })

/-- A mirror record of one run, kept until it is acknowledged. -/
def State.mirrorRun (s : State) (slot seq : Nat) (r : Run) (sync : Bool) : State :=
  if !s.persist.mirroring then s
  else
    let r := { r with sync := sync }
    let s := s.modPersist (fun p => { p with
      unacked := p.unacked ++ [{ seq := seq, stream := slot % 2, run := r, since := s.now, sync := sync }] })
    ((s.sendMirror (slot % 2) r).count 416 1).count 417 (bodyBytes (.mirror (slot % 2) [r]))

end Sys2Proof.Machine
end

