-- ==== Sys2Proof/Machine/Vault.lean ====
section
/-! DEFINITION. The vault as the rest of the machine sees it: DRAM geometry and slots, capacity figures, claims and who
serves, the extent hash and the directory vault, heat sampling, and the choice of a home (R15 to R38, R160 to R173, R250 to
R252, R377 to R379). -/

namespace Sys2Proof.Machine

/-! ### Geometry and slots (R377 to R379) -/

/-- The first slot bit above the rows: slot bits [3:0] are the channel, then chip ID and row bits (R377). -/
def State.rankShift (s : State) : Nat := 4 + s.dram.chipBits + s.dram.rowBits - (9 - s.dram.colBits)

/-- The channel of a slot (R379). -/
def slotChan (slot : Nat) : Nat := slot % 16

/-- Lines of a slot's channel read for this device's own traffic: asked of its arbiter and counted (R365, R406). -/
def State.askRead (s : State) (slot src cls n : Nat) : State := (s.ask (slotChan slot) src cls n).countFor (8 * slotChan slot) n { cls := cls, src := src }

/-- Lines of a slot's channel written for this device's own traffic: asked of its arbiter and counted (R365, R406). -/
def State.askWrite (s : State) (slot src cls n : Nat) : State := (s.ask (slotChan slot) src cls n).countFor (8 * slotChan slot + 1) n { cls := cls, src := src }

/-- The rank 2d + p of a slot on its channel (R379). -/
def State.slotRank (s : State) (slot : Nat) : Nat :=
  let b := slot / 2 ^ s.rankShift
  2 * (b / 2 ^ s.dram.ranks2 % 2 ^ s.dram.dimms2) + b % 2 ^ s.dram.ranks2

/-- The exclusive-or of the bits of a number below bit 43. -/
def parityOf (v : Nat) : Bool := ((List.range 43).filter v.testBit).length % 2 == 1

/-- A hashed bit of a device-local address (R378): its base bit and the bits its mask selects, together by exclusive-or. -/
def State.hashBit (s : State) (addr base k : Nat) : Nat := (addr / 2 ^ base % 2 + b2n (parityOf (addr &&& nth s.dram.masks k 0))) % 2

/-- The DRAM cell of a device-local address (R377, R378). -/
def State.cellOf (s : State) (addr : Nat) : Cell :=
  let c := s.dram.colBits
  let h := s.dram.chipBits
  let low := 9 - c
  let r := s.slotRank (addr / extentBytes)
  { chan := slotChan (addr / extentBytes)
    dimm := r / 2
    rank := r % 2
    chip := addr / 2 ^ 25 % 2 ^ h
    sub := s.hashBit addr 6 0
    group := s.hashBit addr 7 1 + 2 * s.hashBit addr 8 2 + 4 * s.hashBit addr 9 3
    bank := s.hashBit addr (10 + c) 4 + 2 * s.hashBit addr (11 + c) 5
    row := addr / 2 ^ (12 + c) % 2 ^ low + 2 ^ low * (addr / 2 ^ (25 + h) % 2 ^ (s.dram.rowBits - low))
    column := 16 * (addr / 2 ^ 10 % 2 ^ c) }

/-- A DRAM channel. -/
def State.chan (s : State) (n : Nat) : Chan := getD s.dram.chans n {}

/-- A DRAM channel changed. -/
def State.modChan (s : State) (n : Nat) (f : Chan → Chan) : State :=
  s.modDram (fun d => { d with chans := modD d.chans n {} f })

/-- A rank of a channel. -/
def State.rankOf (s : State) (n r : Nat) : Rank := getD (s.chan n).ranks r {}

/-- The state of the same rank at the twin, as it last told (R18, R396). -/
def State.twinRank (s : State) (n r : Nat) : Nat := getD s.dram.theirs n 0 / 4 ^ r % 4

/-- Whether a slot's rank is in service here and retires nowhere in the vault, so that the slot may be assigned (R18, R169, R179, R396). -/
def State.slotUsable (s : State) (slot : Nat) : Bool :=
  let n := slotChan slot
  let r := s.slotRank slot
  (s.rankOf n r).state == 1 && decide (s.twinRank n r < 2)

/-- A channel's rank states as one byte (0x3510+n:04). -/
def State.rankStates (s : State) (n : Nat) : Nat := ((List.range 4).map (fun r => (s.rankOf n r).state * 4 ^ r)).foldl (· + ·) 0

/-- Whether a slot's channel can serve accesses now: in service, or in self-refresh, which an access ends (R389, R402). -/
def State.chanServes (s : State) (n : Nat) : Bool := (s.chan n).state == 2 || (s.chan n).state == 4

/-- This device's own installed extents (R377, 0x2010:0D): none before the population is accepted. -/
def State.ownExtents (s : State) : Nat :=
  if s.dram.pop = 1 then 2 ^ (s.rankShift + s.dram.ranks2 + s.dram.dimms2) else 0

/-- The vault's installed extents (R19, 0x2010:01): the lesser of its two devices'. -/
def State.extents (s : State) : Nat :=
  match (if s.twinListed then s.entryOf s.twinDev else none) with
  | some e => min s.ownExtents e.extents
  | none => s.ownExtents

/-! ### Claims and service (R250 to R252, R268) -/

/-- The active device of a vault by its claim (R252); where the manifest lists one device only, that device. -/
def State.activeOf (s : State) (v : Nat) : Nat :=
  if s.listed (2 * v) && !s.listed (2 * v + 1) then 2 * v
  else if s.listed (2 * v + 1) && !s.listed (2 * v) then 2 * v + 1
  else if s.claimOf v % 2 = 1 then 2 * v else 2 * v + 1

/-- Whether the device serves its vault's data from its own DRAM (R250, R261). -/
def State.serves (s : State) : Bool := (s.twin.state == 1 || s.twin.state == 2 || s.twin.state == 3) && !s.twin.latch

/-- Whether the device is its vault's active device, in a handover too. -/
def State.isActive (s : State) : Bool := s.serves || (s.twin.state == 9 && !s.twin.latch)

/-- Whether the device admits host requests: not in states 0, 6, 7 and 9, nor behind the fence latch (R250, R261); a deposed
device reopens its credits (R269). -/
def State.admits (s : State) : Bool :=
  s.twin.state == 4 || s.twin.state == 5 || s.twin.state == 8 || s.serves

/-- Whether a vault has a device that answered the last ready wave (R169). -/
def State.vaultPresent (s : State) (v : Nat) : Bool := s.pool.present.contains (2 * v) || s.pool.present.contains (2 * v + 1)

/-! ### Capacity (R34 to R37) -/

/-- The spare reserve of a vault with `i` extents and spare share `sp` (R34). -/
def spareReserve (i sp : Nat) : Nat := ceilDiv (i * sp) 512
/-- The copy space (R34). -/
def copySpace (i c : Nat) : Nat := ceilDiv (i * c) 512
/-- The metadata area (R34). -/
def metaExtents (i : Nat) : Nat := ceilDiv i 512
/-- The homeable figure (R34). -/
def homeableOf (i sp c : Nat) : Nat := i - spareReserve i sp - copySpace i c - metaExtents i
/-- The placeable figure (R34). -/
def placeableOf (i sp c f : Nat) : Nat := homeableOf i sp c * f / 64

/-- This vault's homeable figure (0x2010:07). -/
def State.homeable (s : State) : Nat := homeableOf s.extents (s.setting 0x2010 2) (s.setting 0x2010 4)
/-- This vault's placeable figure (0x2010:09). -/
def State.placeable (s : State) : Nat := placeableOf s.extents (s.setting 0x2010 2) (s.setting 0x2010 4) (s.setting 0x2010 8)
/-- This vault's copy space (0x2010:05). -/
def State.copyRoom (s : State) : Nat := copySpace s.extents (s.setting 0x2010 4)

/-! ### The metadata area (R34, R173, R177, R178, R274) -/

/-- Where in the metadata area an entry stands: its structure and its number there. The spec places neither (DESIGN CHOICE, log entry 12). -/
def metaPlace (u : MetaUpd) : Nat × Nat :=
  match u with
  | .slot n _ _ => (0, n / 1024)
  | .dir e => (1, e.key / 128)
  | .dirGone k => (1, k / 128)
  | .tomb t => (2, t.key / 256)
  | .tombGone k => (2, k / 256)
  | .migIn r => (3, r.slot)
  | .migInGone k => (3, k)
  | .move r => (4, r.slot)
  | .moveGone k => (4, k)
  | .copy r => (5, r.key / 128)
  | .copyGone k _ => (5, k / 128)
  | .hints e => (6, e.key / 128)
  | .hintsGone k => (6, k / 128)
  | .arrival a => (7, a.slot)
  | .arrivalGone n => (7, n)
  | .poison e => (8, e.line / 512)
  | .poisonGone n _ => (8, n / 512)
  | .dirty l => (9, (l.headD 0) / 32768)

/-- The granule of the metadata area that a change writes. -/
def State.metaGran (s : State) (u : MetaUpd) : Nat :=
  let m := metaExtents s.extents
  512 * (s.extents - m) + (61 * (metaPlace u).1 + (metaPlace u).2) % (512 * m)

/-- A change of the metadata area (R173): it takes the next sequence number, its granule is dirty and, while the twin is lost, to be sent in the
resync, and it is mirrored on stream 0, like any other data. -/
def State.metaSend (s : State) (u : MetaUpd) : State :=
  if s.extents = 0 ∨ !s.isActive then s
  else
    let seq := s.persist.seq + 1
    let g := s.metaGran u
    let s := s.modPersist (fun p => { p with
      seq := seq, dirty := addSet g p.dirty, fresh := addSet g p.fresh, lastSeq := insertKey g seq p.lastSeq })
    let s := if s.twin.state = 2 ∧ s.twinListed then s.modTwin (fun t => { t with resync := addSet g t.resync }) else s
    (s.mirrorRun 0 seq { first := seq, slot := g / 512, line := g % 512 * 64, lines := [], upd := some u } false).syncHorizon

/-- An entry of the reverse slot map set, or erased (R178); `spare`: its slot holds an extent displaced by a retirement (R35). -/
def State.setUse (s : State) (slot : Nat) (u : Option SlotUse) : State :=
  let s := s.modPlace (fun p => { p with slots := match u with | some u => insertKey slot u p.slots | none => eraseKey slot p.slots })
  s.metaSend (.slot slot u (s.place.spare.contains slot))

/-- A tombstone written; it takes the place of an older one of its key (R177). -/
def State.putTomb (s : State) (t : Tomb) : State :=
  (s.modPlace (fun p => { p with tombs := t :: p.tombs.filter (fun x => x.key != t.key) })).metaSend (.tomb t)

/-- A tombstone that has ended (R177). -/
def State.dropTomb (s : State) (key : Nat) : State :=
  (s.modPlace (fun p => { p with tombs := p.tombs.filter (fun x => x.key != key) })).metaSend (.tombGone key)

/-- An arrival record written or changed (R223). -/
def State.putArrival (s : State) (a : Arrival) : State :=
  (s.modPersist (fun p => { p with arrivals := a :: p.arrivals.filter (fun x => x.slot != a.slot) })).metaSend (.arrival a)

/-- An arrival record that has ended (R223). -/
def State.dropArrival (s : State) (slot : Nat) : State :=
  (s.modPersist (fun p => { p with arrivals := p.arrivals.filter (fun x => x.slot != slot) })).metaSend (.arrivalGone slot)

/-! ### Slots in use (R33 to R36, R178) -/

/-- What a slot is used for. -/
def State.slotUse (s : State) (slot : Nat) : Option SlotUse := assoc s.place.slots slot

/-- Whether a slot homes a key. -/
def homesKey (u : SlotUse) (key : Nat) : Bool := u == .home key

/-- The extents homed in the vault (0x2010:0A). -/
def State.homed (s : State) : Nat := (s.place.slots.filter (fun e => match e.2 with | .home _ => true | _ => false)).length

/-- The extents of copy space in use (0x2010:0C, R36). -/
def State.copyUsed (s : State) : Nat :=
  (s.place.slots.filter (fun e => match e.2 with
    | .copy _ => true
    | .dest _ => s.place.migIns.any (fun m => m.slot == e.1)
    | _ => false)).length

/-- The slot that homes a key here, by the reverse slot map (R178). -/
def State.homeSlot (s : State) (key : Nat) : Option Nat := (s.place.slots.find? (fun e => homesKey e.2 key)).map Prod.fst

/-- The lowest slot from `k` on, within `fuel`, that nothing uses and whose rank is in service. -/
def State.freeFrom (s : State) (fuel k : Nat) : Option Nat :=
  match fuel with
  | 0 => none
  | fuel + 1 => if (s.slotUse k).isNone && s.slotUsable k then some k else s.freeFrom fuel (k + 1)

/-- The slot an assignment takes: the lowest free one below the metadata area, which is the last of the installed extents
(DESIGN CHOICE, log entry 22: the spec fixes neither which free slot nor where the metadata area stands). -/
def State.freeSlot (s : State) : Option Nat := s.freeFrom (s.extents - metaExtents s.extents) 0

/-- Source 142 when the vault's homed extents come to exceed its placeable figure (R42), and source 150 when a draining vault comes to home
nothing (R192), raised where the vault is served. -/
def State.overCheck (s : State) : State :=
  let full := decide (s.placeable < s.homed)
  let empty := s.setting 0x3220 9 == 2 && s.homed == 0
  let was := s.place
  let s := if full = was.overFull ∧ empty = was.drained then s else s.modPlace (fun p => { p with overFull := full, drained := empty })
  let s := if full && !was.overFull && s.serves then s.raise 142 0 (leBytes 2 s.vault ++ leBytes 4 s.homed ++ leBytes 4 s.placeable) else s
  if empty && !was.drained && s.serves then s.raise 150 1 (leBytes 2 s.vault ++ leBytes 1 2 ++ leBytes 4 0) else s

/-- A slot taken for a use, at both devices of the vault (R18). -/
def State.takeSlot (s : State) (slot : Nat) (u : SlotUse) : State := (s.setUse slot (some u)).overCheck

/-- What a device keeps beside a slot goes with the slot: heat, poison list and granule bits (R26, R418). Its home location is not read again before it
is written anew, and while the twin is lost its zeros are owed to the twin (R273). -/
def State.forgetSlot (s : State) (slot : Nat) : State :=
  let gs := (List.range 512).map (slotGran slot)
  let s := s.modPlace (fun p => { p with heat := eraseKey slot p.heat, heatCache := delSet slot p.heatCache, spare := delSet slot p.spare })
  let s := s.modEcc (fun e => { e with
    list := e.list.filter (fun x => lineSlot x.line != slot)
    merge := e.merge.filter (fun x => lineSlot x != slot) })
  let s := s.modPersist (fun p => { p with
    dirty := p.dirty.filter (fun g => g / 512 != slot)
    fresh := p.fresh.filter (fun g => g / 512 != slot)
    lastSeq := p.lastSeq.filter (fun e => e.1 / 512 != slot)
    shadow := p.shadow.filter (fun g => g / 512 != slot)
    urgent := p.urgent.filter (fun g => g / 512 != slot)
    oldHome := if s.setting 0x3310 1 = 0 then p.oldHome else p.oldHome.filter (fun g => g / 512 != slot) ++ gs })
  let s := if s.twin.state = 2 ∧ s.twinListed then s.modTwin (fun t => { t with resync := gs.foldl (fun l g => addSet g l) t.resync }) else s
  s.zeroSlot slot

/-- A slot released (R26): what goes with it goes, it is zero-filled under maintenance traffic (class TC6 at its channel and at the mover pool) and free for
another use, and the change mirrored to the twin releases and zero-fills the slot there. The fill is one step with the release, so
that no later use can come before it: DESIGN CHOICE, log entry 98. -/
def State.releaseSlot (s : State) (slot : Nat) : State :=
  ((((s.forgetSlot slot).askWrite slot 0x18 6 32768).ask 24 0x18 6 512).setUse slot none).overCheck

/-! ### The extent hash and the directory (R172, R173) -/

/-- The hash of an extent key or group number (R172). -/
def keyHash (key : Nat) : Nat := crc32cOf (leBytes 5 key)

/-- The directory map index of a key. -/
def mapIndex (key : Nat) : Nat := keyHash key % 4096

/-- The translation cache set of a key. -/
def cacheSet (key : Nat) : Nat := keyHash key / 4096 % 32768

/-- The directory vault of a key (R32): the map entry at its index. -/
def State.dirVault (s : State) (key : Nat) : Nat := getD s.pool.dirMap (mapIndex key) 0

/-- The key of an affinity group's record (R172). -/
def groupKey (g : Nat) : Nat := g + 2 ^ 39

/-- A directory entry as held here; absent reads Unhomed and without hints. -/
def State.dirEnt (s : State) (key : Nat) : DirEnt := getD s.place.dir key {}

/-- The 32 bytes of a directory entry (R173), without the waits of R174 that are this device's own. -/
def DirEnt.image (d : DirEnt) (key : Nat) : MapEnt where
  key := key
  state := d.state
  attract := d.attract
  pinned := d.pinned
  noCopies := d.noCopies
  group := d.group
  gen := d.gen
  home := d.home
  slot := d.slot
  copies := d.copies
  cooling := d.cooling
  coolEnd := d.coolEnd
  prev := d.prev

/-- A directory entry as an image gives it; the waits stay. -/
def DirEnt.take (d : DirEnt) (e : MapEnt) : DirEnt :=
  { d with
    state := e.state, attract := e.attract, pinned := e.pinned, noCopies := e.noCopies, group := e.group, gen := e.gen, home := e.home,
    slot := e.slot, copies := e.copies, cooling := e.cooling, coolEnd := e.coolEnd, prev := e.prev }

/-- A directory entry changed; an entry with neither home nor hint is not kept. A change of the entry's bytes is mirrored to the twin
(R173). -/
def State.modDir (s : State) (key : Nat) (f : DirEnt → DirEnt) : State :=
  let old := getD s.place.dir key {}
  let new := f old
  let s := s.modPlace (fun p => { p with dir := putD p.dir key {} new })
  if new.unheld || new.image key == old.image key then s
  else s.metaSend (if new = {} then .dirGone key else .dir (new.image key))

/-- Whether the directory section has room for one more entry (R173). -/
def State.dirRoom (s : State) : Bool := decide ((s.place.dir.filter (fun e => !e.2.unheld)).length < 64 * s.extents)

/-- Whether a move cooldown is running (R544). -/
def State.coolingNow (s : State) (d : DirEnt) : Bool :=
  d.cooling && (let r := (d.coolEnd + 65536 - s.poolTime / 1000000000 % 65536) % 65536; decide (1 ≤ r ∧ r ≤ 3600))

/-! ### The room table and choose_home (R169, R170) -/

/-- A vault's figures in the room table. -/
def State.roomOf (s : State) (v : Nat) : Room := getD s.place.room v { p := 0, h := 0, state := 1 }

/-- Whether a vault may take a new home (R169): open, and present. This vault's own state is at hand (R192); another's is in the room table. -/
def State.usable (s : State) (v : Nat) : Bool :=
  (if v = s.vault then s.setting 0x3220 9 == 0 else (s.roomOf v).state == 0) && s.vaultPresent v

/-- Up to 16 usable vaults with the greatest room, lower number first on a tie (R169). -/
def State.roomiest (s : State) (room : Room → Nat) (skip : List Nat) (n : Nat) : List Nat :=
  match n with
  | 0 => []
  | n + 1 =>
    let c := (s.place.room.map Prod.fst).filter (fun v => s.usable v && decide (0 < room (s.roomOf v)) && !skip.contains v)
    let best := maxOf (c.map (fun v => room (s.roomOf v))) 0
    match c.find? (fun v => room (s.roomOf v) == best) with
    | some v => v :: s.roomiest room (v :: skip) n
    | none => []

/-- One of a list of vaults by the key's hash (R169). -/
def pickByHash (key : Nat) (l : List Nat) : Option Nat := l[keyHash key % l.length]?

/-- The home chosen for a key first written at a vault, with whether it is above placeable (R169); `d` and `anchor` are the key's hints and the
anchor of its group, `skip` vaults that refused. -/
def State.chooseHome (s : State) (key entry : Nat) (d : DirEnt) (anchor : Nat) (skip : List Nat) : Option (Nat × Bool) :=
  let ok := fun (v : Nat) => s.usable v && !skip.contains v
  if d.group ≠ 0 ∧ ok anchor ∧ 0 < (s.roomOf anchor).p then some (anchor, false)
  else if d.attract ≠ 0xFFFF ∧ ok d.attract ∧ 0 < (s.roomOf d.attract).p then some (d.attract, false)
  else if ok entry ∧ 0 < (s.roomOf entry).p then some (entry, false)
  else match pickByHash key (s.roomiest Room.p skip 16) with
    | some v => some (v, false)
    | none =>
      if ok entry ∧ 0 < (s.roomOf entry).h then some (entry, true)
      else (pickByHash key (s.roomiest Room.h skip 16)).map (fun v => (v, true))

/-- A vault's rooms one lower, for a reservation made (R170). -/
def State.lowerRoom (s : State) (v : Nat) : State :=
  s.modPlace (fun p => { p with room := p.room.map (fun e =>
    if e.1 = v then (v, { e.2 with p := e.2.p - 1, h := e.2.h - 1 }) else e) })

/-! ### Heat (R160 to R163) -/

/-- An accessor counted (R162). -/
def countAcc (acc : List (Option Accessor)) (v : Nat) : List (Option Accessor) :=
  if acc.any (fun a => (a.map Accessor.vault) == some v) then
    acc.map (fun a => a.map (fun x => if x.vault = v then { x with cnt := satAdd x.cnt 1 65535 } else x))
  else match acc.findIdx? (·.isNone) with
    | some i => setNth acc i (some { vault := v, cnt := 1 })
    | none =>
      let least := minOf (acc.map (fun a => (a.map Accessor.cnt).getD 0)) 65535
      match acc.findIdx? (fun a => (a.map Accessor.cnt) == some least) with
      | some i => setNth acc i (some { vault := v, cnt := satAdd least 1 65535 })
      | none => acc

/-- One sample of a heat entry (R162). -/
def sampleHeat (e : Heat) (v : Nat) (write : Bool) : Heat :=
  { e with
    rdS := if write then e.rdS else satAdd e.rdS 1 65535
    wrS := if write then satAdd e.wrS 1 65535 else e.wrS
    acc := countAcc e.acc v }

/-- The samples of one epoch that stand for the candidate heat (R162). -/
def State.candSamples (s : State) : Nat := s.setting 0x3210 4 * s.setting 0x3200 2 / 1000000000 / 2 ^ s.place.shift

/-- A slot's heat entry brought into the on-die cache, over the one used longest ago of 8,192 (R161). -/
def State.heatTouch (s : State) (slot : Nat) : State :=
  s.modPlace (fun p => { p with heatCache := (slot :: p.heatCache.filter (· != slot)).take 8192 })

/-- An access sampled, one in 2^k of host accesses and one in 2^(k+3) of lines of ring pieces (R160): every 2^k-th one
(DESIGN CHOICE, log entry 23: which one is left open). The slot whose samples rise past the candidate heat is queued (R162). -/
def State.sample (s : State) (slot v : Nat) (write ring : Bool) : State :=
  let n := s.place.samples + 1
  let s := s.modPlace (fun p => { p with samples := n })
  if n % 2 ^ (s.place.shift + (if ring then 3 else 0)) ≠ 0 then s
  else
    let e := sampleHeat (getD s.place.heat slot {}) v write
    let s := (s.heatTouch slot).modPlace (fun p => { p with heat := insertKey slot e p.heat })
    if !e.queued && (decide (s.candSamples < e.rdS) || decide (s.candSamples < e.wrS)) then
      if s.place.cand.length < 4096 then
        s.modPlace (fun p => { p with cand := p.cand ++ [slot], heat := insertKey slot { e with queued := true } p.heat })
      else s.raise 152 0 (leBytes 3 slot)
    else s

end Sys2Proof.Machine
end

