-- ==== Sys2Proof/Machine/WritePath.lean ====
section
/-! DEFINITION. The write path at the home vault: the home store's layout and the dirty ceiling, applying a write with its
mirror record and invalidations, home writes, and the completion of writes (R201 to R226). -/

namespace Sys2Proof.Machine

/-! ### The home store (R211, R213, R219, R224) -/

/-- The home drives configured (0x3310:01). -/
def State.driveCount (s : State) : Nat := s.setting 0x3310 1

/-- Whether the layout is mirrored pairs (0x3310:02). -/
def State.paired (s : State) : Bool := s.setting 0x3310 2 == 1

/-- A home drive. -/
def State.drive (s : State) (d : Nat) : Drive := getD s.persist.drives d {}

/-- A home drive changed. -/
def State.modDrive (s : State) (d : Nat) (f : Drive → Drive) : State :=
  s.modPersist (fun p => { p with drives := modD p.drives d {} f })

/-- Whether a drive is in service, or being rebuilt and so written (R220). -/
def State.driveUp (s : State) (d : Nat) : Bool := (s.drive d).state == 2 || (s.drive d).state == 1

/-- The drives that hold a granule (R213). -/
def State.drivesOf (s : State) (g : Nat) : List Nat :=
  let n := s.driveCount
  if n = 0 then []
  else if s.paired then [2 * (g / 16 % (n / 2)), 2 * (g / 16 % (n / 2)) + 1]
  else [g / 16 % n]

/-- The drive LBA of a granule (R213). -/
def State.driveLba (s : State) (g : Nat) : Nat :=
  let n := if s.paired then s.driveCount / 2 else s.driveCount
  16384 + g / 16 / n * 16 + g % 16

/-- Whether the home store is Failed: a striped drive, or both drives of a pair, out of service (R219), or the home key gone
(R217). -/
def State.homeFailed (s : State) : Bool := s.persist.failed

/-- Whether some configured drive is out of service. -/
def State.driveOut (s : State) : Bool := (List.range s.driveCount).any (fun d => (s.drive d).state != 2)

/-- Whether the drives out of service make the home Failed (R219). -/
def State.drivesFail (s : State) : Bool :=
  if s.paired then
    (List.range (s.driveCount / 2)).any (fun p => !s.driveUp (2 * p) && !s.driveUp (2 * p + 1))
  else (List.range s.driveCount).any (fun d => !s.driveUp d)

/-- The home state (0x3310:07): 0 none, 1 Sealed, 2 Open, 3 Degraded, 4 Failed. -/
def State.homeState (s : State) : Nat :=
  if s.driveCount = 0 ∨ !s.persist.header.valid then 0
  else if s.homeFailed then 4
  else if s.driveOut then 3
  else if s.persist.header.state = 1 then 2 else 1

/-- Whether a home write can be made: a home store that is not Failed (R211, R219). -/
def State.hasHome (s : State) : Bool := decide (0 < s.driveCount) && !s.homeFailed

/-- The flush rate in MB/s (0x3300:04, R224). -/
def State.flushRate (s : State) : Nat :=
  let r := ((List.range s.driveCount).filter (fun d => (s.drive d).state == 2)).foldl (fun a d => a + s.setting (0x3340 + d) 2) 0
  if s.paired then r / 2 else r

/-- The dirty ceiling in granules (R224, 0x3300:05). -/
def State.ceiling (s : State) : Nat :=
  (s.setting 0x3300 1 - s.setting 0x3300 2) * (1000000 * s.flushRate) * s.setting 0x3300 3 / 64 / 4096 / 1000000000

/-- Whether the ceiling is enforced (R224). -/
def State.enforced (s : State) : Bool := s.hasHome

/-- The dirty set (R225): dirty granules and those reserved for migrations in. -/
def State.dirtySet (s : State) : Nat := s.persist.dirty.length + 512 * s.place.migIns.length

/-- A throttle notice to every present device (R226): kind 1 throttle, 2 release. -/
def State.throttleNotice (s : State) (kind : Nat) : State := s.sendAll s.others (.notice kind s.vault s.dirtySet)

/-- The vault enters or leaves the Throttled state as its dirty set stands (R226, R227); counter 420 takes the time it lasted. -/
def State.throttleCheck (s : State) : State :=
  let c := s.ceiling
  let h := s.setting 0x3300 7
  if !s.persist.throttled && s.enforced && decide (c - h ≤ s.dirtySet) then
    ((s.modPersist (fun p => { p with throttled := true, throttledAt := s.now })).throttleNotice 1).raise 165 0 (leBytes 8 s.dirtySet ++ leBytes 8 c)
  else if s.persist.throttled && (!s.enforced || decide (s.dirtySet < c - 2 * h)) then
    ((s.modPersist (fun p => { p with throttled := false })).count 420 ((s.now - s.persist.throttledAt) / 125)).throttleNotice 2
  else s

/-- What follows a change of the ceiling, which was `old` (R227): source 165 again where it falls below the dirty set of a vault that is Throttled. -/
def State.ceilingCheck (s : State) (old : Nat) : State :=
  let was := s.persist.throttled
  let s := s.throttleCheck
  if was && s.persist.throttled && decide (s.ceiling < s.dirtySet ∧ s.dirtySet ≤ old) then
    s.raise 165 1 (leBytes 8 s.dirtySet ++ leBytes 8 s.ceiling)
  else s

/-- The poisoned lines of a granule. -/
def State.granPoison (s : State) (g : Nat) : List Nat := s.poisonIn (granLine g) 64

/-! ### The poison list (R418) -/

/-- The lines an entry's span covers (R418): 0 one line, 1 a granule, 2 an extent. -/
def spanLines (span : Nat) : Nat := if span = 0 then 1 else if span = 1 then 64 else 32768

/-- Whether a poison list entry covers a line. -/
def poisonCovers (e : PoisonEnt) (ln : Nat) : Bool := decide (e.line ≤ ln ∧ ln < e.line + spanLines e.span)

/-- A poisoning of the lines of a span entered in the poison list with its cause, where no entry covers it yet and there is room
(R418); the lines are counted (R431). The list lies in the metadata area and is mirrored with it. -/
def State.poisonEnterSpan (s : State) (ln cause span : Nat) : State :=
  let s := s.count 484 (spanLines span)
  if s.ecc.list.any (fun e => poisonCovers e ln && decide (span ≤ e.span)) then s
  else if s.ecc.list.length < 65536 then
    let e : PoisonEnt := { line := ln, cause := cause, span := span, time := s.poolTime }
    (s.modEcc (fun x => { x with list := x.list ++ [e] })).metaSend (.poison e)
  else (s.modEcc (fun e => { e with overflow := true })).raise 92 0 (leBytes 2 s.vault ++ leBytes 4 s.ecc.list.length)

/-- One line of a homed slot entered in the poison list (R418). -/
def State.poisonEnter (s : State) (ln cause : Nat) : State := s.poisonEnterSpan ln cause 0

/-- The entries among some whose spans hold no poisoned line any more leave the poison list, at both devices (R418). -/
def State.poisonDrop (s : State) (among : PoisonEnt → Bool) : State :=
  let gone := s.ecc.list.filter (fun x => among x && !s.ecc.poisoned.any (poisonCovers x))
  if gone = [] then s
  else
    let s := s.modEcc (fun e => { e with list := e.list.filter (fun x => !gone.contains x) })
    gone.foldl (fun s e => s.metaSend (.poisonGone e.line e.span)) s

/-- A full-line write without poison removes the entries whose last poisoned line it cleared (R418). -/
def State.poisonLeave (s : State) (ln : Nat) : State := s.poisonDrop (fun x => poisonCovers x ln)

/-- Consecutive lines poisoned (R240, R545). -/
def State.poisonLines (s : State) (ln n : Nat) : State :=
  s.modEcc (fun e => { e with
    poisoned := e.poisoned.filter (fun x => decide (x < ln)) ++ (List.range n).map (· + ln) ++ e.poisoned.filter (fun x => decide (ln + n ≤ x)) })

/-! ### Applying a write (R203 step 4) -/

/-- The bits an applied write sets: dirty, fresh, move-dirty while a migration copies (R180), resync while the twin is lost
(R273), with the granule's last sequence (R222). -/
def State.markGran (s : State) (g seq : Nat) : State :=
  let s := s.modPersist (fun p => { p with
    dirty := addSet g p.dirty
    fresh := addSet g p.fresh
    lastSeq := insertKey g seq p.lastSeq })
  let s := s.modPlace (fun p => { p with migs := p.migs.map (fun m =>
    if m.slot = g / 512 ∧ 2 ≤ m.phase ∧ m.phase ≤ 3 then { m with moved := addSet (g % 512) m.moved } else m) })
  if s.twin.state = 2 ∧ s.twinListed then s.modTwin (fun t => { t with resync := addSet g t.resync }) else s

/-- Invalidations of one line at every copy of its extent, from the directory's grant of a copy onwards (R186, R188); each waits for its
acknowledgement. -/
def State.invalidate (s : State) (key ln write : Nat) : State :=
  (s.place.copyOuts.filter (fun c => c.key == key && decide (1 ≤ c.phase))).foldl (fun s c =>
    let t := s.place.nextTok
    let s := s.modPlace (fun p => { p with
      invals := p.invals ++ [{ token := t, key := key, line := ln % 32768, vault := c.vault, write := write, since := s.now }]
      nextTok := (t + 1) % 2 ^ 32 })
    (s.send (s.activeOf c.vault) (.inval key c.slot (ln % 32768) 1 t)).count 391 1) s

/-- The merge buffer with a partial write's line filled, least recently used last and at most 1,024 lines (R416). -/
def mergeFill (l : List Nat) (ln : Nat) : List Nat := (ln :: l.filter (· != ln)).take 1024

/-- What a write to a line costs its channel (R416, R406): a partial write reads the line first unless the merge buffer holds it. -/
def State.lineCost (s : State) (ln : Nat) (full : Bool) (t : ReqTag) : State :=
  let n := slotChan (lineSlot ln)
  let s := s.countFor (8 * n + 1) 1 t
  if full || s.ecc.merge.contains ln then s else s.countFor (8 * n + 3) 1 t

/-- The merge buffer after a write to a line (R416): a line written whole, or a partial write in read-modify-write mode, leaves no entry;
another partial write fills one. -/
def State.mergeKeep (s : State) (ln : Nat) (full : Bool) : State :=
  s.modEcc (fun e => { e with merge := if full || s.setting 0x3600 1 == 1 then e.merge.filter (· != ln) else mergeFill e.merge ln })

/-- A line applied to DRAM at the active device with all that goes with it in one step (R203 step 4, R416, R111): the new
line value and poison, the next mirror sequence number, the granule's bits, the mirror record and the invalidations. -/
def State.applyLine (s : State) (slot key off : Nat) (line : Line) (be : BitVec 64) (poison : Bool)
    (tag : Option (Nat × Nat)) (atomic : Option (Nat × Nat × Nat)) (write cause : Nat) : State :=
  let ln := slotLine slot off
  let full := be == BitVec.allOnes 64
  let bad := poison || (!full && s.linePoison ln)
  let v := mergeLine (s.line ln) line be
  let seq := s.persist.seq + 1
  let s := s.mergeKeep ln full
  let s := (s.putLine ln v bad).modPersist (fun p => { p with seq := seq })
  let s := s.markGran (lineGran ln) seq
  let s := s.modEcc (fun e => { e with repairs := if full then e.repairs.filter (fun r => r.line != ln) else e.repairs })
  let r : Run := {
    first := seq
    slot := slot
    line := ln % 32768
    be := if full then none else some be
    origin := tag
    atomic := atomic
    lines := [line]
    poison := [poison] }
  let s := s.mirrorRun slot seq r false
  let s := if poison then s.poisonEnter ln cause else if full then s.poisonLeave ln else s
  (s.invalidate key ln write).syncHorizon

/-! ### Completions (R102, R203 steps 7 and 8) -/

/-- A piece that runs here, changed. -/
def State.modWork (s : State) (id : Nat) (f : Work → Work) : State :=
  s.modRings (fun r => { r with works := r.works.map (fun w => if w.id = id then f w else w) })

/-- A request of this device that is not finished, by its number. -/
def State.reqOf (s : State) (num : Nat) : Option EReq := s.host.reqs.find? (fun (e : EReq) => e.num == num)

/-- A request of this device leaves the list of requests. -/
def State.dropReq (s : State) (num : Nat) : State :=
  s.modHost (fun h => { h with reqs := h.reqs.filter (fun x => x.num != num) })

/-- A write of this entry device ends with a status: completed to its host; kept as the outcome of a mailbox write (R542); or
told to its piece (R146). A silent one answers nobody (R87). Status other than OK leaves a host write without completion
(R102), and a flush that waits for it waits on (R106). -/
def State.endWrite (s : State) (num status : Nat) : State :=
  match s.reqOf num with
  | none => s
  | some e =>
    match e.work, e.mailbox with
    | some w, _ =>
      (s.dropReq num).modWork w (fun x => { x with
        outs := x.outs.filter (fun o => o.1 != num)
        last := if x.last = some num then none else x.last
        bad := if status = St.ok then x.bad else x.bad ++ [(e.ix, status)] })
    | none, some _ => s.modHost (fun h => { h with reqs := h.reqs.map (fun x =>
        if x.num = num then { x with outcome := some (if status = St.ok then 0 else if status = St.fenced then 1 else 2) } else x) })
    | none, none =>
      let s := s.dropReq num
      let s := if status = St.ok then s.modHost (fun h => { h with
        gpf := h.gpf.map (fun g => { g with nums := g.nums.filter (· != num) }) }) else s
      if e.silent || status != St.ok then s else s.emit (.writeDone e.port e.host e.tag)

/-- The answer to a request that ended with a status, at its origin (R203 step 8, R296). -/
def State.answer (s : State) (o : Origin) (status : Nat) : State :=
  match o with
  | .host num => s.endWrite num status
  | .remote peer entry num => s.send peer (.status { entry := entry, num := num, status := status })
  | .ring num => s.endWrite num status
  | .none => s

/-! ### Home writes that are issued, and those that fail (R217 to R222) -/

/-- A granule that no drive takes (R218, R219): it stays dirty; class 2 writes of it end with HOME_FAILED and writes being turned
home-safe with TWIN_LOST, a PERSIST piece and a pool persist point at it with HOME_FAILED; a flush records its extent as lost. -/
def State.granFailed (s : State) (g : Nat) : State :=
  let gone := s.persist.writes.filter (fun w => w.gran == g && w.needHome && !w.homeOk)
  let s := s.modPersist (fun p => { p with
    dirty := addSet g p.dirty
    urgent := delSet g p.urgent
    writes := p.writes.filter (fun w => !(w.gran == g && w.needHome && !w.homeOk))
    snap := p.snap.map (delSet g)
    flushLost := if p.state = 3 ∧ (p.snap.getD []).contains g then addSet (g / 512) p.flushLost else p.flushLost
    point := p.point.map (fun x =>
      if x.grans.any (fun e => e.1 == g) then { x with grans := x.grans.filter (fun e => e.1 != g), failed := true } else x) })
  let s := (s.rings.works.filter (fun w => w.grans.any (fun e => e.1 == g))).foldl (fun s w => s.modWork w.id (fun x => { x with
    grans := x.grans.filter (fun e => e.1 != g)
    bad := x.bad ++ [(g % 512 * 4096 - (field w.desc 16 8 + w.off) % extentBytes, St.homeFailed)] })) s
  gone.foldl (fun s w => s.answer w.origin (if w.cls = 2 then St.homeFailed else St.twinLost)) s

/-- Entries of a drive's home poison table (R214, R218). -/
abbrev poisonTableMost : Nat := 8257536

/-- Whether the home key is as the header names it (R216, R217). -/
def State.homeKeyOk (s : State) : Bool :=
  s.persist.header.keySlot == 0xFFFF || (let k := getD s.cipher.slots s.persist.header.keySlot {}
    k.state == 1 && k.gen == s.persist.header.keyGen)

/-- Whether the home key's slot is Empty, so that the home store's users wait (R443). -/
def State.homeKeyEmpty (s : State) : Bool :=
  s.persist.header.valid && s.persist.header.keySlot != 0xFFFF && (getD s.cipher.slots s.persist.header.keySlot {}).state == 0

/-- The drives whose poison table has no room for the poisoned lines of a granule (R218). -/
def State.tableFull (s : State) (g : Nat) : List Nat :=
  ((s.drivesOf g).filter s.driveUp).filter (fun d =>
    let new := (s.granPoison g).filter (fun x => !s.persist.poisonTab.contains (d, g, x % 64))
    decide (poisonTableMost < (s.persist.poisonTab.filter (fun e => e.1 == d)).length + new.length))

/-- A granule's bytes as the home store holds them (R216): under XTS-AES where the header names a key slot, else as they are. -/
def State.homeCipher (s : State) (enc : Bool) (g : Nat) (b : Bytes) : Bytes :=
  let k := getD s.cipher.slots s.persist.header.keySlot {}
  if s.persist.header.keySlot = 0xFFFF then b else xtsGranule enc (if k.kind = 3 then 16 else 32) k.key g b

/-- A granule as it goes to the home store (R216, R218): every byte of a poisoned line is 0x00. -/
def State.homeBytes (s : State) (g : Nat) : Bytes :=
  s.homeCipher true g ((List.range 64).flatMap (fun i =>
    if s.linePoison (granLine g + i) then leBytes 64 0 else leBytes 64 (s.line (granLine g + i)).toNat))

/-- A home write of a granule is issued (R222 step 3): its dirty bit clears, and each drive of it in service gets the poison
entries of its poisoned lines first and then the granule (R218). -/
def State.sendHome (s : State) (g : Nat) (flush : Bool) : State :=
  let ds := (s.drivesOf g).filter s.driveUp
  let id := s.persist.nextId
  let lba := s.driveLba g
  let w : HomeW := { id := id, gran := g, drives := ds, seq := getD s.persist.lastSeq g 0, flush := flush, since := s.now, data := s.homeBytes g }
  let bad := s.granPoison g
  let s := s.count 428 bad.length
  let s := s.modPersist (fun p => { p with
    dirty := delSet g p.dirty
    urgent := delSet g p.urgent
    home := p.home ++ [w]
    nextId := id + 1
    poisonTab := ds.foldl (fun l d => bad.foldl (fun l x =>
      if l.contains (d, g, x % 64) then l else l ++ [(d, g, x % 64)]) l) p.poisonTab })
  let s := if s.persist.header.keySlot = 0xFFFF then s else s.count 448 granuleBytes
  ds.foldl (fun s d =>
    let s := bad.foldl (fun s x => s.emit (.drive d (.poisonEntry g (x % 64) true))) s
    let s := (s.askRead (g / 512) 0x0D 3 64).ask (20 + d / 4) 0x0D 3 8
    (((s.emit (.drive d (.write lba id w.data))).count (224 + 8 * d) 1).count (226 + 8 * d) 1).count (228 + 8 * d) granuleBytes) s

/-- A home write of a granule issued, or failed where no drive of it is in service, the home key is gone (source 174), or a
poison table is full (source 171). It waits while the key slot is Empty (R443), and none is issued behind the fence latch (R212, R261). -/
def State.issueHome (s : State) (g : Nat) (flush : Bool) : State :=
  if s.homeKeyEmpty || s.twin.latch then s
  else if !s.homeKeyOk then (s.granFailed g).raise 174 0 (leBytes 2 s.persist.header.keySlot ++ leBytes 2 s.persist.header.keyGen)
  else match s.tableFull g with
    | d :: _ => (s.granFailed g).raise 171 0 (leBytes 1 d)
    | [] => if (s.drivesOf g).any s.driveUp then s.sendHome g flush else s.granFailed g

/-- Whether a granule's home write is in flight. -/
def State.homeBusy (s : State) (g : Nat) : Bool := s.persist.home.any (fun w => w.gran == g)

/-- Whether every write applied to a granule is twin-safe (R213, R222 step 2). -/
def State.granSafe (s : State) (g : Nat) : Bool := decide (getD s.persist.lastSeq g 0 ≤ s.persist.horizon)

/-- The granules queued ahead of the sweep that may be written now (R203 step 7, R222). -/
def State.pumpUrgent (s : State) : State :=
  if !s.hasHome || s.twin.latch then s
  else (s.persist.urgent.filter (fun g => s.granSafe g && !s.homeBusy g)).foldl (fun s g => s.issueHome g false) s

/-- Whether an applied write meets its class now (R102, R203 step 7). -/
def State.writeMet (s : State) (w : HWrite) : Bool :=
  s.twinSafe w.seq && !s.place.invals.any (fun i => i.write == w.id) && (!w.needHome || w.homeOk) && !w.waitSeal

/-- Whether lines of a write of several lines are still to meet their class, or to be applied (R102, R296). -/
def State.holdsWrite (s : State) (o : Origin) : Bool :=
  match o with
  | .remote _ _ _ => s.persist.writes.any (fun w => w.origin == o) || s.persist.waitAdmit.any (fun h => h.origin == o)
      || s.persist.restoreHold.any (fun h => h.origin == o) || s.dram.waiting.any (fun h => h.origin == o)
      || s.place.frozenReqs.any (fun h => h.origin == o)
  | _ => false

/-- Every applied write that meets its class completes. -/
def State.completeWrites (s : State) : State :=
  if s.twin.latch then s
  else
    let ready := s.persist.writes.filter s.writeMet
    let s := s.modPersist (fun p => { p with writes := p.writes.filter (fun w => !s.writeMet w) })
    let s := s.count 421 (ready.filter HWrite.needHome).length
    (ready.map HWrite.origin).eraseDups.foldl (fun s o => if s.holdsWrite o then s else s.answer o St.ok) s

/-- A piece. -/
def State.workOf (s : State) (id : Nat) : Option Work := s.rings.works.find? (fun w => w.id == id)

/-- The piece a request belongs to. -/
def State.pieceOf (s : State) (o : Origin) : Option Nat :=
  match o with
  | .ring num => (s.reqOf num).bind EReq.work
  | _ => none

/-- The tag of a peer's request. -/
def originTag (o : Origin) : Option (Nat × Nat) :=
  match o with
  | .remote _ entry num => some (entry, num)
  | _ => none

/-- The tag a mirror record of this origin carries (R148, R266): of the request by which a write entered at another device, a PIECE for the lines
and elements of a piece. -/
def State.tagOf (s : State) (o : Origin) : Option (Nat × Nat) :=
  match (s.pieceOf o).bind s.workOf with
  | some w => originTag w.from_
  | none => originTag o

/-- A line of a piece that runs here has been applied: the next one may be issued (R146). -/
def State.lineApplied (s : State) (o : Origin) : State :=
  match s.pieceOf o with
  | some id => s.modWork id (fun w => { w with last := none })
  | none => s

/-- The class a write is served under (R40, R203): class 1 as class 2 while the twin is not in sync. -/
def State.servedClass (s : State) (cls : Nat) : Nat := if s.twin.state = 1 ∨ s.twin.state = 9 then cls else 2

/-- Whether a request is a line of a ring's piece, and so sampled at one eighth of the rate; an ATOMIC element is not (R160). -/
def HReq.ofPiece (h : HReq) : Bool :=
  match h.origin with
  | .ring _ => h.atomic.isNone
  | _ => h.bulk

/-- Class, requester, session and pool address of a request (R357, R365, R511): host demand TC0 by its port, a peer's request TC2 by the port it came
on, a line of a piece TC5, by a mover where the piece runs here. -/
def State.reqTag (s : State) (h : HReq) : ReqTag :=
  let t : ReqTag := { addr := poolAddr h.key h.off }
  let sess := fun (num : Nat) => ((s.reqOf num).map EReq.sess).getD 0xFFFF
  match h.origin with
  | .host num => { t with src := ((s.reqOf num).map EReq.port).getD 0, sess := sess num }
  | .remote peer _ _ => { t with cls := if h.bulk then 5 else 2, src := 8 + (s.portFor peer).getD 0 }
  | .ring num => { t with cls := 5, src := 0x40 + ((s.reqOf num).bind EReq.work).getD 0 % 64, sess := sess num }
  | .none => { t with cls := 6, src := 0x18 }

/-- A request's work joins the queue of its channel's arbiter (R357, R365). -/
def State.askDram (s : State) (h : HReq) (slot n : Nat) : State :=
  let t := s.reqTag h
  s.ask (slotChan slot) t.src t.cls n

/-- The active device keeps the origin tag of a write it applies for the replay window (R266, R302). -/
def State.keepOrigin (s : State) (o : Origin) : State :=
  match o with
  | .remote _ entry num => s.modTwin (fun t => { t with
      tags := t.tags.filter (fun e => s.now < e.2.2.1 + 2 * s.setting 0x2100 5) ++ [(entry, num, s.now, 0)] })
  | _ => s

/-- The new value of an ATOMIC element's word (R140): 1 ADD, 2 SWAP, 3 compare-and-swap. -/
def AtomOp.new (o : AtomOp) (old : Nat) : Nat :=
  if o.op = 1 then (old + o.a) % 2 ^ 64 else if o.op = 2 then o.a else if old = o.a then o.b else old

/-! ### Opening the home (R214, R226, R234, R239) -/

/-- The home drives in service. -/
def State.drivesUp (s : State) : List Nat := (List.range s.driveCount).filter s.driveUp

/-- The first bytes of a home header, "TZHOME01" (R214). -/
abbrev homeMagic : Nat := 0x3130454D4F485A54

/-- The 512 bytes of a drive's home header (R214). -/
def State.headerBytes (s : State) (h : Header) (d : Nat) : Bytes :=
  let b := leBytes 8 homeMagic ++ leBytes 4 h.seq ++ leBytes 2 s.vault ++ leBytes 2 d ++ leBytes 1 s.driveCount ++ leBytes 1 (b2n s.paired) ++ leBytes 2 0 ++
    leBytes 4 h.gen ++ leBytes 1 h.state ++ leBytes 1 0 ++ leBytes 2 h.keySlot ++ leBytes 2 h.keyGen ++ leBytes 2 0 ++ leBytes 8 s.pool.id ++
    leBytes 8 h.claim ++ leBytes 4 s.extents ++ leBytes 4 h.progress ++ leBytes 4 h.lost.length ++ leBytes 4 0 ++ leBytes 8 h.sealTime ++
    leBytes 8 h.horizon ++ leBytes 428 0
  b ++ leBytes 4 (crc32cOf b)

/-- The header a copy holds, where its magic and its check are right (R214). -/
def headerOf (b : Bytes) (lost : List Nat) : Option Header :=
  if field b 0 8 = homeMagic ∧ field b 508 4 = crc32cOf (b.take 508) then
    some {
      valid := true
      seq := field b 8 4
      gen := field b 20 4
      state := field b 24 1
      keySlot := field b 26 2
      keyGen := field b 28 2
      claim := field b 40 8
      progress := field b 52 4
      lost := lost.take (field b 56 4)
      sealTime := field b 64 8
      horizon := field b 72 8 }
  else none

/-- The later of two headers (R214, R237): of the higher generation, and of one generation the one written last. Of the drives' headers that is the
one in force: DESIGN CHOICE, log entry 119. -/
def laterHeader (a b : Option Header) : Option Header :=
  match a, b with
  | some x, some y => if x.gen < y.gen ∨ (x.gen = y.gen ∧ x.seq < y.seq) then some y else some x
  | some x, none => some x
  | none, y => y

/-- The home drive LBA of the copy that takes a header sequence: the two are written in turn (R214; which comes first: log entry 119). -/
def headerLba (seq : Nat) : Nat := if seq % 2 = 1 then 0 else 128

/-- A drive is given a header, its lost-extent list first (R214). -/
def State.driveHeader (s : State) (d : Nat) : State :=
  let h := s.persist.header
  let s := if h.lost = [] then s else ((s.emit (.drive d (.lost (headerLba h.seq + 2) h.lost))).count (224 + 8 * d) 1).count (226 + 8 * d) 1
  ((s.emit (.drive d (.header (headerLba h.seq) (s.headerBytes h d)))).count (224 + 8 * d) 1).count (226 + 8 * d) 1

/-- A header written to every drive in service, with the next header sequence and this device's claim (R214); none behind the fence latch (R212). -/
def State.writeHeader (s : State) (f : Header → Header) : State :=
  let h := f s.persist.header
  let h := { h with valid := true, seq := (h.seq + 1) % 2 ^ 32, claim := s.twin.claim }
  if s.twin.latch then s
  else s.drivesUp.foldl (fun s d => s.driveHeader d) (s.modPersist (fun p => { p with header := h }))

/-- Whether one of the two dirty map areas is erased and ready (R239). -/
def State.mapReady (s : State) : Bool := s.persist.maps.any (fun m => !m.valid)

/-- The home opened before the first write (R234): the next generation, a header in state 1, and the vault's throttle state told to every
present device (R226). A key slot or key generation committed anew is taken on by a home that holds no homed extent (R216). A vault without
a home store opens with no header (R236). -/
def State.openHome (s : State) : State :=
  let h := s.persist.header
  let anew := !h.valid || s.homed == 0
  let k := if anew then s.setting 0x3310 4 else h.keySlot
  let s := if s.driveCount = 0 then s else s.writeHeader (fun h => { h with
    gen := (h.gen + 1) % 2 ^ 32
    state := 1
    keySlot := k
    keyGen := if anew then (getD s.cipher.slots k {}).gen else h.keyGen
    progress := 0
    lost := [] })
  (s.modPersist (fun p => { p with state := 2, opened := true })).throttleNotice (if s.persist.throttled then 1 else 2)

/-- A write of a request applied at its home slot (R203): its line, its completion kept until its class is met. A write served as class 2
has its granule queued ahead of the sweep. With no home store to take it, it can meet no class: one that asked for class 2 ends with HOME_FAILED (R211,
R219), one served as class 2 for want of the twin with TWIN_LOST (R40, R209). -/
def State.applyPlain (s : State) (h : HReq) (slot : Nat) (tag : Option (Nat × Nat)) (atomic : Option (Nat × Nat × Nat)) : State :=
  let home := s.servedClass h.cls == 2
  let id := s.persist.nextId
  let g := slotGran slot (h.off / 4096)
  let seq := s.persist.seq + 1
  let s := s.modPersist (fun p => { p with nextId := id + 1 })
  let s := s.lineCost (slotLine slot h.off) (h.be == BitVec.allOnes 64) (s.reqTag h)
  let s := s.applyLine slot h.key h.off h.line h.be h.poison tag atomic id h.cause
  let s := s.sample slot h.vault true h.ofPiece
  let s := s.askDram h slot 1
  let s := (s.keepOrigin h.origin).lineApplied h.origin
  let s := s.throttleCheck
  if home && !s.hasHome then s.answer h.origin (if h.cls = 2 then St.homeFailed else St.twinLost)
  else
    let s := s.modPersist (fun p => { p with
      writes := p.writes ++ [{
        id := id
        seq := seq
        gran := g
        cls := h.cls
        origin := h.origin
        needHome := home
        waitSeal := home && p.state == 3 }]
      urgent := if home then addSet g p.urgent else p.urgent })
    s.pumpUrgent.completeWrites

/-- An ATOMIC element at its word (R140, R148): a poisoned word is left and answered UNCORRECTABLE; an element that the former
active device applied is not evaluated again, and its old value is not known here; otherwise the word is written, and
mirrored with its place in the batch, and the old value goes to the piece. -/
def State.applyAtomic (s : State) (h : HReq) (o : AtomOp) (slot : Nat) : State :=
  let ln := slotLine slot h.off
  let keep := fun (s : State) (v : Line) =>
    match h.origin with
    | .ring num =>
      match s.reqOf num with
      | some e => (match e.work with | some w => s.modWork w (fun x => { x with got := insertKey e.ix (v, false) x.got }) | none => s)
      | none => s
    | _ => s
  if s.linePoison ln then s.answer h.origin St.uncorrectable
  else if s.twin.atoms.any (fun a => s.tagOf h.origin == some (a.1, a.2.1) && a.2.2.1 == o.elem) then ((keep s s.freeLine).tick).answer h.origin St.ok
  else
    let at_ := 8 * (h.off % 64)
    let old := (s.line ln).toNat / 2 ^ at_ % 2 ^ 64
    let s := keep s (BitVec.ofNat 512 old)
    s.applyPlain { h with
      line := BitVec.ofNat 512 (o.new old * 2 ^ at_)
      be := 0xFF#64 <<< (h.off % 64)
      poison := false } slot (s.tagOf h.origin) (some (o.ring, o.idx, o.elem))

/-- A write applied at its home slot; the first one after a claim opens the home (R234, R277). -/
def State.applyWrite (s : State) (h : HReq) (slot : Nat) : State :=
  let s := if s.persist.opened then s else s.openHome
  match h.atomic with
  | some o => s.applyAtomic h o slot
  | none => s.applyPlain h slot (s.tagOf h.origin) none

/-- Whether a write must wait at the ceiling (R225): it would make a clean granule dirty while the dirty set equals C; or the
home failure action holds writes (R219); or the vault's persistence state admits no write (R228, R235); or the fence latch is set (R261). -/
def State.mustWait (s : State) (g : Nat) : Bool :=
  (s.enforced && !s.persist.dirty.contains g && decide (s.ceiling ≤ s.dirtySet)) ||
  (decide (0 < s.driveCount) && s.homeFailed && s.setting 0x3300 0x0F == 1) || s.persist.state != 2 || s.twin.latch

/-- A write at its home slot: applied, or it waits at the home vault in arrival order (R225); a line of a piece also waits behind
the earlier lines of its piece (R146). -/
def State.writeHere (s : State) (h : HReq) (slot : Nat) : State :=
  if s.mustWait (slotGran slot (h.off / 4096)) || s.persist.waitAdmit.any (fun x =>
      (x.key == h.key && x.off / 4096 == h.off / 4096) || ((s.pieceOf h.origin).isSome && s.pieceOf x.origin == s.pieceOf h.origin)) then
    s.modPersist (fun p => { p with waitAdmit := p.waitAdmit ++ [{ h with slot := slot, since := s.now, limit := s.setting 0x3100 2 }] })
  else s.applyWrite h slot

end Sys2Proof.Machine
end

