-- ==== Sys2Proof/Machine/EntryPath.lean ====
section
/-! DEFINITION. A request from the device it entered at to its home: the translation cache, the answers of a home vault
(R176), the directory's answer to a lookup with the allocation of a new home (R169, R174), and the reads a home serves
(R99 to R103, R171 to R178). -/

namespace Sys2Proof.Machine

/-! ### The translation cache (R175) -/

/-- The entry a translation cache holds for a key. -/
def State.tcacheFind (s : State) (key : Nat) : Option TEnt :=
  (getD s.place.tcache (cacheSet key) []).find? (fun t => t.key == key)

/-- The use bits of a set, all cleared when every one of its ways is marked (R175). -/
def setUsed (l : List TEnt) : List TEnt :=
  if 16 ≤ l.length ∧ l.all TEnt.used then l.map (fun x => { x with used := false }) else l

/-- One set of the cache with an entry filled: over the same key, into a free way, or over the first way not recently used (R175). -/
def setFill (l : List TEnt) (t : TEnt) : List TEnt :=
  setUsed (
    if l.any (fun x => x.key == t.key) then l.map (fun x => if x.key = t.key then t else x)
    else if l.length < 16 then l ++ [t]
    else match l.findIdx? (fun x => !x.used) with
      | some i => setNth l i t
      | none => setNth l 0 t)

/-- A way of the cache marked used by a hit (R175). -/
def State.tcacheHit (s : State) (key : Nat) : State :=
  s.modPlace (fun p => { p with tcache := modD p.tcache (cacheSet key) [] (fun l =>
    setUsed (l.map (fun x => if x.key = key then { x with used := true } else x))) })

/-- The slot of a read copy that this vault holds of a key (R175): the active device knows whether it serves; the standby has the slot map. -/
def State.copyHeld (s : State) (key : Nat) : Option Nat :=
  if s.serves then (s.place.copyIns.find? (fun c => c.key == key && c.serving)).map CopyIn.slot
  else (s.place.slots.find? (fun e => e.2 == .copy key)).map Prod.fst

/-- The cache filled with a translation; where this vault holds a read copy the entry holds the copy's slot instead of the home's (R175). -/
def State.tcacheFill (s : State) (key vault slot gen : Nat) : State :=
  let t : TEnt := match s.copyHeld key with
    | some c => { key := key, vault := vault, slot := c, gen := gen, copy := true }
    | none => { key := key, vault := vault, slot := slot, gen := gen }
  s.modPlace (fun p => { p with tcache := modD p.tcache (cacheSet key) [] (fun l => setFill l t) })

/-- A translation dropped. -/
def State.tcacheDrop (s : State) (key : Nat) : State :=
  s.modPlace (fun p => { p with tcache := putD p.tcache (cacheSet key) [] ((getD p.tcache (cacheSet key) []).filter (fun t => t.key != key)) })

/-- The translation a request finds in the cache. An entry with a copy's slot leads a read of the standby to its own vault's active device, and
tells nothing of the home's slot, for which the directory is asked (R175; DEDUCED, log entry 110). -/
def State.cached (s : State) (e : EReq) : Option TEnt :=
  match s.tcacheFind e.key with
  | none => none
  | some t =>
    if !t.copy then some t
    else if e.write || e.locate || s.serves then none
    else some { t with vault := s.vault }

/-! ### What a home answers (R176) -/

/-- The answer of a vault to a request that arrives at it (R176). -/
inductive HomeAnswer where
  | serve (slot : Nat)
  | holdDest
  | holdFrozen
  | moved (vault slot gen : Nat)
  | unknown
  deriving DecidableEq, Repr

/-- Whether a key is frozen here (R182). -/
def State.keyFrozen (s : State) (key : Nat) : Bool := s.place.migs.any (fun m => m.key == key && (m.phase == 3 || m.phase == 5))

/-- The first of the five rules of R176 that holds. -/
def State.classify (s : State) (key slot : Nat) : HomeAnswer :=
  if s.slotUse slot = some (.home key) ∧ !s.keyFrozen key then .serve slot
  else if s.slotUse slot = some (.dest key) ∧ s.place.migIns.any (fun m => m.key == key && m.slot == slot) then .holdDest
  else if s.keyFrozen key then .holdFrozen
  else match s.place.tombs.find? (fun t => t.key == key) with
    | some t => .moved t.vault t.slot t.gen
    | none => .unknown

/-! ### Serving (R103, R110) -/

/-- Lines of a read at a slot. -/
def State.readLines (s : State) (slot off n : Nat) : List Line := (List.range n).map (fun i => s.line (slotLine slot off + i))

/-- The poison of the lines of a read. -/
def State.readPoison (s : State) (slot off n : Nat) : List Bool :=
  (List.range n).map (fun i => s.linePoison (slotLine slot off + i))

/-- One more record in the event log of a logical device (R100, R110, R115): at most 64 records. Kinds: 0 General Media, 1 DRAM, 3 and 4 dynamic
capacity added and released. -/
def logAdd (d : LDev) (kind a len : Nat) : LDev :=
  if d.log.length < 64 then { d with log := d.log ++ [(d.logNext, kind, a, len)], logNext := d.logNext % 65535 + 1 } else d

/-- The logical device a host stands for: its LD-ID, or the port's one endpoint in global fabric-attached memory mode (R92). -/
def State.hostLd (s : State) (host : Nat) : Nat := if s.host.mode = 0 then host else 0

/-- The number of a logical device: 16 a port, the FM-owned logical device 0xFFFF beside them. -/
def ldKey (p l : Nat) : Nat := if l < 16 then 16 * p + l else 256 + p

/-- A logical device. -/
def State.ldev (s : State) (p l : Nat) : LDev := getD s.host.lds (ldKey p l) {}

/-- A logical device changed. -/
def State.modLdev (s : State) (p l : Nat) (f : LDev → LDev) : State :=
  s.modHost (fun h => { h with lds := modD h.lds (ldKey p l) {} f })

/-- A port in service. -/
def State.hostPort (s : State) (p : Nat) : HPort := getD s.host.ports p {}

/-- An MSI-X vector of a logical device is signalled: pending while it is masked (R122, R151). -/
def State.msix (s : State) (p l v : Nat) : State :=
  if (s.ldev p l).vecMask.getLsbD v then s.modLdev p l (fun d => { d with vecPend := d.vecPend ||| (1#64 <<< v) })
  else s.emit (.msix p l v)

/-- A record in the event log of a logical device, with vector 0 signalled where the event interrupt policy says so (R117, R122). The policy has a
byte for each log of the standard and the device one log: dynamic capacity records go by its fifth byte and every other by its first, the
low two bits of each; DESIGN CHOICE, log entry 106. -/
def State.logOnly (s : State) (p l kind a len : Nat) : State :=
  let s := s.modLdev p l (fun d => logAdd d kind a len)
  if (s.ldev p l).policy / 256 ^ (if 3 ≤ kind then 4 else 0) % 4 = 1 then s.msix p l 0 else s

/-- A General Media or DRAM record of one line, with vector `v` signalled beside vector 0 (R117, R122). -/
def State.logEvent (s : State) (p l kind a v : Nat) : State := (s.logOnly p l kind a 64).msix p l v

/-- A session's record changed. -/
def State.modSess (s : State) (n : Nat) (f : Sess → Sess) : State :=
  s.modHost (fun h => { h with sess := modD h.sess n {} f })

/-- One of a port's eight counters (R125) for a request; a request of no port counts at none. -/
def State.countPort (s : State) (e : EReq) (i n : Nat) : State :=
  if e.port < noPort then s.countFor (128 + 8 * e.port + i) n { src := e.port, sess := e.sess, addr := poolAddr e.key e.off } else s

/-- A host read ends with its line (R110): poison is answered with the poison bit and undefined bytes, and counted in the session while the
binding that its lookup found is in force (R96). -/
def State.finishHostRead (s : State) (e : EReq) (line : Line) (poison : Bool) : State :=
  let s := s.dropReq e.num
  if e.silent then s
  else if poison then
    let s := s.modSess e.sess (fun x => if x.binding = e.binding then { x with poisons := satAdd x.poisons 1 0xFFFFFFFF } else x)
    let s := (s.countPort e 4 1).raise (18 + 4 * e.port) 0
      (leBytes 2 e.sess ++ leBytes 8 e.dpa ++ leBytes 8 (poolAddr e.key e.off))
    let s := s.logEvent e.port (s.hostLd e.host) 1 e.dpa 1
    (s.emit (.readDone e.port e.host e.tag s.freeLine true)).tick
  else s.emit (.readDone e.port e.host e.tag line false)

/-- A read of this device ends with its line: told to its piece, or to its host. -/
def State.finishRead (s : State) (e : EReq) (line : Line) (poison : Bool) : State :=
  match e.work with
  | some w => (s.dropReq e.num).modWork w (fun x => { x with
      outs := x.outs.filter (fun o => o.1 != e.num)
      got := insertKey e.ix (line, poison) x.got })
  | none => s.finishHostRead e line poison

/-- A piece whose vault is this one runs here (R147). -/
def State.pieceHere (s : State) (e : EReq) : State :=
  match e.work with
  | some w => (s.dropReq e.num).modWork w (fun x => { x with state := 1, outs := [] })
  | none => s.dropReq e.num

/-- The DATA frames that answer a READ: up to 32 lines each, in offset order, Last on the final one (R296). -/
def dataFrames (entry num off : Nat) (ls : List Line) (ps : List Bool) (fuel : Nat) : List FBody :=
  match fuel with
  | 0 => []
  | fuel + 1 =>
    if ls.length ≤ 32 then [.data { entry := entry, num := num, off := off, last := true } ls ps]
    else .data { entry := entry, num := num, off := off, last := false } (ls.take 32) (ps.take 32)
      :: dataFrames entry num (off + 2048) (ls.drop 32) (ps.drop 32) fuel

/-- Several frames sent to one device in order. -/
def State.sendList (s : State) (d : Nat) (bs : List FBody) : State := bs.foldl (fun s b => s.send d b) s

/-- A read served at its home slot: each line is counted, sampled and asked of its channel; the answer goes to the origin. -/
def State.readHere (s : State) (h : HReq) (slot : Nat) : State :=
  let n := h.len / 64
  let s := s.countFor (8 * slotChan slot) n (s.reqTag h)
  let s := s.sample slot h.vault false h.ofPiece
  let s := s.askDram h slot n
  let own := fun (num : Nat) =>
    match s.reqOf num with
    | some e => s.finishRead e (s.line (slotLine slot h.off)) (s.linePoison (slotLine slot h.off))
    | none => s
  match h.origin with
  | .host num => own num
  | .ring num => own num
  | .remote peer entry num =>
    s.sendList peer (dataFrames entry num 0 (s.readLines slot h.off n) (s.readPoison slot h.off n) (n / 32 + 1))
  | .none => s

/-- The lines of a request. -/
def HReq.covers (h : HReq) (slot ln : Nat) : Bool := decide (slotLine slot h.off ≤ ln ∧ ln < slotLine slot h.off + h.len / 64)

/-- A write at its home slot; a full-line write that ends a repair lets the accesses that waited for it go on (R426 rule 1). -/
def State.writeOver (s : State) (h : HReq) (slot : Nat) : State :=
  let locked := s.ecc.repairs.filter (fun r => h.covers slot r.line)
  let s := s.writeHere h slot
  if s.ecc.repairs.any (fun r => h.covers slot r.line) then s
  else (locked.flatMap Repair.waiters).foldl (fun s w => if w.write then s.writeHere w w.slot else s.readHere w w.slot) s

/-- A request served at its home slot once nothing holds it: a channel that cannot serve now (R395, R402), a line under
repair (R420, R426: a full-line write ends the repair), or a granule not yet restored (R238). A read of a line with a write still at the
ceiling goes behind it, since requests to one line are applied in the order they arrive (R103). -/
def State.serveReq (s : State) (h : HReq) (slot : Nat) : State :=
  let h := { h with slot := slot }
  if !s.chanServes (slotChan slot) then s.modDram (fun d => { d with waiting := d.waiting ++ [h] })
  else if s.persist.restoring.contains (slotGran slot (h.off / 4096)) then
    (s.modPersist (fun p => { p with restoreHold := p.restoreHold ++ [h] })).count 426 1
  else if s.ecc.repairs.any (fun r => h.covers slot r.line) && !(h.write && h.be == BitVec.allOnes 64) then
    s.modEcc (fun e => { e with repairs := e.repairs.map (fun r =>
      if h.covers slot r.line then { r with waiters := r.waiters ++ [h] } else r) })
  else if h.write then s.writeOver h slot
  else if s.persist.waitAdmit.any (fun x => x.write && x.slot == slot && h.covers slot (slotLine slot x.off)) then
    s.modPersist (fun p => { p with waitAdmit := p.waitAdmit ++ [{ h with since := s.now }] })
  else s.readHere h slot

/-- The writes that waited at the ceiling are applied in arrival order, as far as the dirty set allows, and the reads behind them answered: `fuel`
at most. -/
def State.admitWaiting (s : State) (fuel : Nat) : State :=
  match fuel with
  | 0 => s
  | fuel + 1 =>
    match s.persist.waitAdmit with
    | [] => s
    | h :: rest =>
      if !h.write then ((s.modPersist (fun p => { p with waitAdmit := rest })).readHere h h.slot).admitWaiting fuel
      else if s.mustWait (slotGran h.slot (h.off / 4096)) then s
      else ((s.modPersist (fun p => { p with waitAdmit := rest })).applyWrite h h.slot).admitWaiting fuel

/-- What follows from a lower dirty set: waiting writes, and the Throttled state (R225, R226). -/
def State.afterClean (s : State) : State := (s.admitWaiting s.persist.waitAdmit.length).throttleCheck

/-- A MOVED answer to a peer (R176, R296); vault 0xFFFF names no home. -/
def State.answerMoved (s : State) (peer entry num vault slot gen : Nat) : State :=
  (s.send peer (.status { entry := entry, num := num, status := St.moved, gen := gen, vault := vault, slot := slot })).count 392 1

/-- A request that arrives at its vault from a peer (R176). -/
def State.arriveRemote (s : State) (h : HReq) (peer entry num : Nat) : State :=
  match s.classify h.key h.slot with
  | .serve slot => s.serveReq h slot
  | .holdDest =>
    (s.modPlace (fun p => { p with migIns := p.migIns.map (fun m =>
      if m.key = h.key then { m with held := m.held ++ [{ h with since := s.now }] } else m) })).count 393 1
  | .holdFrozen => (s.modPlace (fun p => { p with frozenReqs := p.frozenReqs ++ [{ h with since := s.now }] })).count 393 1
  | .moved v slot gen => s.answerMoved peer entry num v slot gen
  | .unknown => s.answerMoved peer entry num 0xFFFF 0 0

/-! ### The directory (R169 to R174, R191) -/

/-- A directory's answer to a lookup. -/
inductive DirAns where
  | home (vault slot gen : Nat)
  | notHomed
  | waits
  deriving DecidableEq, Repr

/-- A placement message to the active device of a vault (R297). -/
def State.tell (s : State) (v code : Nat) (m : PMsg) : State := s.send (s.activeOf v) (.placement code m)

/-- Whether this device runs the directory of a key now (R159, R261). -/
def State.ownDir (s : State) (key : Nat) : Bool := s.dirVault key == s.vault && s.serves

/-- The message that tells a home, or a directory that rebuilds, the hints of a key and its cooldown (R178, R297). -/
def hintMsg (key vault : Nat) (d : DirEnt) : PMsg where
  key := key
  vault := vault
  slot := d.slot
  gen := d.gen
  a := d.attract
  b := b2n d.pinned + 2 * b2n d.noCopies + 4 * b2n d.cooling
  list := [(d.group, d.coolEnd)]

/-- The hints of a message put into an entry. -/
def DirEnt.hinted (d : DirEnt) (m : PMsg) : DirEnt :=
  { d with
    attract := m.a
    pinned := m.b % 2 == 1
    noCopies := m.b / 2 % 2 == 1
    cooling := m.b / 4 % 2 == 1
    group := (m.list.headD (0, 0)).1
    coolEnd := (m.list.headD (0, 0)).2 }

/-- The home of a key is told its hints and cooldown, which its agent decides by (R167, R190); DESIGN CHOICE, log entry 110: the spec names no
message for this, and the model has that of code 14, whose body is the hints. -/
def State.tellHome (s : State) (key : Nat) : State :=
  let d := s.dirEnt key
  if d.state < 2 ∨ d.home = s.vault ∨ d.home = 0xFFFF then s else s.tell d.home 14 (hintMsg key d.home d)

/-- A member of a group is homed at a vault (R191), at the directory vault of the group: it sets the anchor where there is none, or where the anchor
is closed, draining or absent; a member elsewhere while the anchor stands raises 151. -/
def State.groupHomed (s : State) (g v : Nat) : State :=
  let a := (s.dirEnt (groupKey g)).home
  if a = 0xFFFF ∨ !s.usable a then s.modDir (groupKey g) (fun d => { d with home := v })
  else if a ≠ v then s.raise 151 0 (leBytes 4 g ++ leBytes 2 a ++ leBytes 2 v)
  else s

/-- An entry becomes Homed (R174): home and slot recorded; the home is told the hints, and the directory vault of the group its new member
(R191). -/
def State.homeEntry (s : State) (key v slot : Nat) : State :=
  let s := s.modDir key (fun d => { d with state := 2, home := v, slot := slot, dst := 0xFFFF, skip := [] })
  let s := (s.count 395 1).tellHome key
  let g := (s.dirEnt key).group
  if g = 0 then s
  else if s.dirVault (groupKey g) = s.vault then s.groupHomed g v
  else s.tell (s.dirVault (groupKey g)) 14 { key := groupKey g, vault := v, b := 4 }

/-- A home slot reserved at this vault for a new extent (R169): only while the vault is open and homed extents and reservations are below
homeable. The slot homes the key from now on. `above`: the directory chose the vault above placeable, which raises 145. -/
def State.reserveHome (s : State) (key : Nat) (above : Bool) : Option (State × Nat) :=
  if s.setting 0x3220 9 = 0 ∧ s.homed + s.place.migIns.length < s.homeable then
    match s.freeSlot with
    | some slot =>
      let s := (s.takeSlot slot (.home key)).modPlace (fun p => { p with heat := insertKey slot { homed := true } p.heat })
      some (if above then (s.count 396 1).raise 145 0 (leBytes 5 key ++ leBytes 2 s.vault ++ leBytes 4 s.homed ++ leBytes 4 s.placeable) else s, slot)
    | none => none
  else none

/-- The vault at which the first of an entry's waiting writes entered the pool. -/
def State.entryVault (s : State) (d : DirEnt) : Nat := match d.waiting with | w :: _ => w.2.1 / 2 | [] => s.vault

/-- The directory allocates a home for a key, with the anchor of its group at hand (R169): at this vault at once, at another by a
reservation request; a vault that refuses is passed over. NONE leaves the entry Allocating, to be retried (R171). -/
def State.allocWith (s : State) (key anchor fuel : Nat) : State :=
  let rest := s.modDir key (fun d => { d with state := 1, dst := 0xFFFF, skip := [] })
  match fuel with
  | 0 => rest
  | fuel + 1 =>
    let d := s.dirEnt key
    match s.chooseHome key (s.entryVault d) d anchor d.skip with
    | none => rest
    | some (v, above) =>
      if v = s.vault then
        match s.reserveHome key above with
        | none => (s.modDir key (fun d => { d with skip := v :: d.skip })).allocWith key anchor fuel
        | some (s1, slot) => (s1.lowerRoom v).homeEntry key v slot
      else
        let s1 := (s.lowerRoom v).modDir key (fun d => { d with state := 1, dst := v, since := s.now })
        s1.tell v 3 { key := key, vault := 0xFFFF, a := 0xFFFF, b := b2n above }

/-- A home is chosen for a key whose entry is Allocating (R169): its group's anchor is asked first where another vault's directory holds the group's
record (R172; log entry 110). -/
def State.allocate (s : State) (key : Nat) : State :=
  let g := (s.dirEnt key).group
  if g = 0 then s.allocWith key 0xFFFF 32
  else if s.dirVault (groupKey g) = s.vault then s.allocWith key (s.dirEnt (groupKey g)).home 32
  else s.tell (s.dirVault (groupKey g)) 14 { key := groupKey g, vault := 0xFFFF }

/-- Waiting writes past their translation time limit leave their entry (R171, R174), and an entry that is Allocating with none left is Unhomed
again. The directory counts the limit from the arrival at it, by its own 0x3000:05 (DEDUCED, log entry 110: no frame tells it the requester's). -/
def State.dropLateWaits (s : State) (key : Nat) : State :=
  let d := s.dirEnt key
  let left := d.waiting.filter (fun w => !s.elapsed w.2.2.2 (s.setting 0x3000 5))
  if d.state ≠ 1 ∨ left = d.waiting then s
  else if left = [] then s.modDir key (fun d => { d with state := 0, dst := 0xFFFF, waiting := [], skip := [], unheld := false })
  else s.modDir key (fun d => { d with waiting := left })

/-- A lookup at the directory vault (R174): `peer`, `entry`, `num` name the request that would wait. A first write that finds the directory section
full waits, and source 148 is raised (R173). -/
def State.dirLookup (s : State) (key : Nat) (forWrite : Bool) (w : Nat × Nat × Nat) : State × DirAns :=
  let s := (s.count 394 1).dropLateWaits key
  let d := s.dirEnt key
  let wait := d.waiting ++ [(w.1, w.2.1, w.2.2, s.now)]
  if 2 ≤ d.state then (s, .home d.home d.slot d.gen)
  else if !forWrite then (s, .notHomed)
  else if d.state = 1 then (s.modDir key (fun d => { d with waiting := wait }), .waits)
  else if d = {} ∧ !s.dirRoom then
    ((s.modDir key (fun d => { d with state := 1, unheld := true, waiting := wait })).raise 148 0 (leBytes 5 key ++ leBytes 1 0), .waits)
  else
    let s := (s.modDir key (fun d => { d with state := 1, dst := 0xFFFF, waiting := wait })).allocate key
    let d := s.dirEnt key
    if d.state = 2 then (s.modDir key (fun d => { d with waiting := [] }), .home d.home d.slot d.gen) else (s, .waits)

/-- Whether lookups of a key wait: its map entry's transfer has not come whole (R346), or its directory entry is being rebuilt (R178). -/
def State.lookupWaits (s : State) (key : Nat) : Bool :=
  s.pool.mapWait.any (fun m => m.1 == mapIndex key) || s.place.rebuilds.any (fun r => r.key == key)

/-- A peer's lookup answered, or held. -/
def State.serveLookup (s : State) (key peer entry num : Nat) (forWrite : Bool) : State :=
  if s.lookupWaits key then s.modPlace (fun p => { p with mapHeld := p.mapHeld ++ [(key, peer, entry, num, forWrite)] })
  else match s.dirLookup key forWrite (peer, entry, num) with
    | (s, .home v slot gen) => s.send peer (.status { entry := entry, num := num, gen := gen, vault := v, slot := slot })
    | (s, .notHomed) => s.send peer (.status { entry := entry, num := num, vault := 0xFFFF })
    | (s, .waits) => s

/-! ### The entry device (R99 to R101) -/

/-- The ring and descriptor a request is a line of. -/
def State.ringOf (s : State) (e : EReq) : Option (Nat × Nat) := (e.work.bind s.workOf).map (fun w => (w.ring, w.idx))

/-- The request of an entry as its home takes it. -/
def State.homeReq (s : State) (e : EReq) (slot gen : Nat) : HReq where
  write := e.write
  origin := if e.work.isSome then .ring e.num else .host e.num
  atomic := e.atomic
  vault := s.vault
  key := e.key
  slot := slot
  gen := gen
  off := e.off
  line := e.line
  be := e.be
  poison := e.poison
  cls := e.cls
  cause := if e.mailbox.isSome ∧ e.poison then 7 else 2
  bulk := e.work.isSome && e.atomic.isNone
  piece := s.ringOf e
  since := s.now

/-- The frame that carries a request to its home (R296). -/
def State.reqFrame (s : State) (e : EReq) (slot gen : Nat) : FBody :=
  let p := (s.ringOf e).getD (0, 0)
  let q : ReqSub := {
    entry := s.pool.number, num := e.num, key := e.key, gen := gen, slot := slot, off := e.off / 64 * 64,
    bulk := e.work.isSome, ring := p.1, idx := p.2, eff := e.cls }
  if e.locate then
    match e.work.bind s.workOf with
    | some w => .piece q (w.desc ++ w.bytes) w.off w.len
    | none => .piece q [] 0 0
  else if e.write then .write { q with cls := e.cls, part := e.be != BitVec.allOnes 64, be := e.be } [e.line] [e.poison]
  else .read { q with copyOk := true }

/-- An entry request changed. -/
def State.modReq (s : State) (num : Nat) (f : EReq → EReq) : State :=
  s.modHost (fun h => { h with reqs := h.reqs.map (fun e => if e.num = num then f e else e) })

/-- Whether a read copy held here serves a line: held at the active device, serving, its lease running, the line valid
(R187, R188). -/
def State.copyServes (s : State) (key off : Nat) : Option Nat :=
  if !s.serves then none
  else (s.place.copyIns.find? (fun c => c.key == key && c.serving && decide (s.poolTime < c.lease) && c.valid.testBit (off / 64))).map CopyIn.slot

/-- A request goes to the vault its translation names: served here, or sent to the vault's active device (R97, R101). -/
def State.forwardReq (s : State) (e : EReq) (v slot gen : Nat) : State :=
  let s := s.modReq e.num (fun x => { x with dst := v, lookup := false, tried := if x.tried.contains v then x.tried else x.tried ++ [v] })
  let d := s.activeOf v
  if d = s.pool.number then s
  else (s.modReq e.num (fun x => { x with sentTo := if (s.portFor d).isSome then d else noDev })).send d (s.reqFrame e slot gen)

/-- A request that meets a migration is held (R176 rules 2 and 3). -/
def State.holdForMove (s : State) (h : HReq) (dest : Bool) : State :=
  let h := { h with since := s.now }
  (s.modPlace (fun p => if dest then
      { p with migIns := p.migIns.map (fun m => if m.key = h.key then { m with held := m.held ++ [h] } else m) }
    else { p with frozenReqs := p.frozenReqs ++ [h] })).count 393 1

/-- A piece's search for a home ends (R145): at a vault, or at 65,536 and the key of an extent without a home. -/
def State.foundHome (s : State) (e : EReq) (home : Nat) : State :=
  match e.work with
  | some w => (s.dropReq e.num).modWork w (fun x => { x with
      outs := x.outs.filter (fun o => o.1 != e.num)
      got := insertKey e.ix (BitVec.ofNat 512 home, false) x.got })
  | none => s.dropReq e.num

/-- Whether a request is a line or element that its piece writes at the home it runs at (R147): COPY, FILL and ATOMIC. Where the home has moved the
piece ends there, and its remainder is sent to the new home (R148). -/
def State.atHome (s : State) (e : EReq) : Bool :=
  e.write && !e.locate && !e.find && ((e.work.bind s.workOf).any (fun w => w.kind == 0 && [1, 2, 7].contains (field w.desc 0 1)))

/-- What a request other than a write finds at an extent without a home: a piece starts here, a read gives zeros (R25, R99). -/
def State.unhomed (s : State) (e : EReq) : State :=
  if e.find then s.foundHome e (65536 + e.key) else if e.locate then s.pieceHere e else s.finishRead e 0 false

/-- A request followed on (R99, R101, R176), at most `fuel` steps inside this device: a copy here; the translation given; the cache; the
directory. A request that nothing answers yet stays, up to its translation time limit. -/
def State.follow (s : State) (num : Nat) (t : Option TEnt) (fuel : Nat) : State :=
  match fuel with
  | 0 => s
  | fuel + 1 =>
    match s.reqOf num with
    | none => s
    | some e =>
      match (if e.write || e.locate || e.find then none else s.copyServes e.key e.off), t with
      | some slot, _ =>
        (((s.countFor (8 * slotChan slot) 1 (s.reqTag (s.homeReq e slot 0))).askDram (s.homeReq e slot 0) slot 1).sample slot s.vault false
          (e.work.isSome && e.atomic.isNone)).finishRead e (s.line (slotLine slot e.off)) (s.linePoison (slotLine slot e.off))
      | none, some t =>
        if e.find then s.foundHome e t.vault
        else if t.vault = s.vault ∧ s.serves then
          let s := s.modReq num (fun x => { x with dst := t.vault, lookup := false })
          match s.classify e.key t.slot with
          | .serve slot => if e.locate then s.pieceHere e else s.serveReq (s.homeReq e slot t.gen) slot
          | .holdDest => s.holdForMove (s.homeReq e t.slot t.gen) true
          | .holdFrozen => s.holdForMove (s.homeReq e t.slot t.gen) false
          | .moved v slot gen =>
            let s := (s.tcacheFill e.key v slot gen).count 392 1
            if s.atHome e then s.endWrite num St.moved
            else s.follow num (some { key := e.key, vault := v, slot := slot, gen := gen }) fuel
          | .unknown =>
            let s := (s.tcacheDrop e.key).count 392 1
            if s.atHome e then s.endWrite num St.moved else s.follow num none fuel
        else if s.atHome e then s.endWrite num St.moved
        else s.forwardReq e t.vault t.slot t.gen
      | none, none =>
        match s.cached e with
        | some t => (s.tcacheHit e.key).follow num (some t) fuel
        | none =>
          let s := if e.lookup then s else s.countPort e 5 1
          let d := s.dirVault e.key
          if d = s.vault ∧ s.serves then
            if s.lookupWaits e.key then s.modReq num (fun x => { x with lookup := true })
            else match s.dirLookup e.key e.write (s.pool.number, s.pool.number, num) with
              | (s, .home v slot gen) => (s.tcacheFill e.key v slot gen).follow num (some { key := e.key, vault := v, slot := slot, gen := gen }) fuel
              | (s, .notHomed) => s.unhomed e
              | (s, .waits) => s.modReq num (fun x => { x with lookup := true })
          else
            let s := s.modReq num (fun x => { x with lookup := true })
            if s.activeOf d = s.pool.number then s
            else s.send (s.activeOf d) (.lookup { entry := s.pool.number, num := num, key := e.key } e.write)

/-- A request goes on from what its device knows by now; `fuel` bounds the steps inside this device. -/
def State.route (s : State) (num fuel : Nat) : State := s.follow num none (2 * fuel)

/-- A request goes on from a translation that an answer gave (R101, R175). -/
def State.routeTo (s : State) (num key vault slot gen : Nat) : State :=
  (s.tcacheFill key vault slot gen).follow num (some { key := key, vault := vault, slot := slot, gen := gen }) 16

/-- A request that entered here, on its way. -/
def State.startReq (s : State) (e : EReq) : State :=
  (s.modHost (fun h => { h with reqs := h.reqs ++ [e] })).route e.num 8

/-- The answers that a directory entry's waits get once it is homed (R174): this device's own requests go on, others are told. -/
def State.releaseWaits (s : State) (key : Nat) : State :=
  let d := s.dirEnt key
  let s := s.modDir key (fun d => { d with waiting := [] })
  d.waiting.foldl (fun s w =>
    if w.1 = s.pool.number then s.routeTo w.2.2.1 key d.home d.slot d.gen
    else s.send w.1 (.status { entry := w.2.1, num := w.2.2.1, gen := d.gen, vault := d.home, slot := d.slot })) s

/-- The lookups held for some keys go on (R178, R346): those of peers, and those of this device's own requests. -/
def State.resumeLookups (s : State) (keys : Nat → Bool) : State :=
  let ws := s.place.mapHeld.filter (fun w => keys w.1)
  let s := s.modPlace (fun p => { p with mapHeld := p.mapHeld.filter (fun w => !keys w.1) })
  let s := ws.foldl (fun s w => s.serveLookup w.1 w.2.1 w.2.2.1 w.2.2.2.1 w.2.2.2.2) s
  (s.host.reqs.filter (fun (e : EReq) => e.lookup && keys e.key)).foldl (fun s (e : EReq) => s.route e.num 8) s

/-- Requests that were held go on: those of this device from their translation, those of peers from R176. -/
def State.resume (s : State) (hs : List HReq) : State :=
  hs.foldl (fun s h =>
    match h.origin with
    | .host num => s.route num 8
    | .ring num => s.route num 8
    | .remote peer entry num => s.arriveRemote h peer entry num
    | .none => s.serveReq h h.slot) s

/-! ### Pieces of other devices (R147, R176) -/

/-- A new piece of this device's ring. -/
def State.newWork (s : State) (w : Work) : State × Nat :=
  let id := s.rings.nextWork
  (s.modRings (fun r => { r with works := r.works ++ [{ w with id := id }], nextWork := id + 1 }), id)

/-- A PIECE starts at its vault (R147, R302); a former active device may have applied a part of it (R148). -/
def State.startPiece (s : State) (x : HeldPiece) : State :=
  (s.newWork {
    id := 0
    upto := ((s.twin.tags.filter (fun t => t.1 == x.q.entry && t.2.1 == x.q.num)).map (fun t => t.2.2.2)).foldl max 0
    from_ := .remote x.peer x.q.entry x.q.num
    dev := x.q.entry
    ring := x.q.ring
    idx := x.q.idx
    desc := x.desc.take 64
    off := x.off
    len := x.len
    bytes := x.desc.drop 64
    state := 1
    cls := x.q.eff }).1

/-- A PIECE as its vault answers it (R176): it starts where the extent is homed, and waits out a migration. -/
def State.arrivePiece (s : State) (x : HeldPiece) : State :=
  match s.classify x.q.key x.q.slot with
  | .serve _ => s.startPiece x
  | .moved v slot gen => s.answerMoved x.peer x.q.entry x.q.num v slot gen
  | .unknown => s.answerMoved x.peer x.q.entry x.q.num 0xFFFF 0 0
  | _ => (s.modPlace (fun p => { p with heldPieces := p.heldPieces ++ [{ x with since := s.now }] })).count 393 1

/-- The pieces that a migration of a key held are answered anew. -/
def State.resumePieces (s : State) (key : Nat) : State :=
  let xs := s.place.heldPieces.filter (fun x => x.q.key == key)
  let s := s.modPlace (fun p => { p with heldPieces := p.heldPieces.filter (fun x => x.q.key != key) })
  xs.foldl (fun s x => s.arrivePiece x) s

/-- Pieces that a destination held learn of the source (R176 rule 2, R184). -/
def State.piecesBack (s : State) (m : MigIn) (xs : List HeldPiece) : State :=
  xs.foldl (fun s x => s.answerMoved x.peer x.q.entry x.q.num m.src m.sslot x.q.gen)
    (s.modPlace (fun p => { p with heldPieces := p.heldPieces.filter (fun x => !xs.contains x) }))

end Sys2Proof.Machine
end

