-- ==== Sys2Proof/Machine/TwinOps.lean ====
section
/-! DEFINITION. The twin unit's shared operations: the fence latch, the claim table and what a higher claim does, twin loss,
and the steps of a claim (R250 to R269, R209, R266). -/

namespace Sys2Proof.Machine

/-! ### What the twin is told (R18, R38; log entry 9) -/

/-- The slot number of a request that a device makes for itself, no requester's (log entry 9). -/
abbrev ownSlot : Nat := 0xFFFF

/-- A vault's value goes to the twin as a write of the object in a management frame of the device's own: no frame of the spec carries it;
DESIGN CHOICE, log entry 9. -/
def State.tellTwin (s : State) (k v : Nat) : State :=
  match objFind (k / 256) (k % 256) with
  | none => s
  | some o =>
    if !s.twinListed then s
    else
      let b := valDec o.ty v
      s.send s.twinDev (.mgmtReq { dev := s.pool.number, slot := ownSlot, level := 1 } (sealMsg { opcode := 2, index := k / 256, sub := k % 256, fwd := true, target := s.twinDev, type := o.ty.code, total := b.length, value := b }))

/-- The rank states of a channel go to the twin, where the slots of its retiring and retired ranks are retired as well (R18, R396). -/
def State.tellRanks (s : State) (n : Nat) : State := s.tellTwin (okey (0x3510 + n) 4) (s.rankStates n)

/-! ### Silence and fencing -/

/-- Silence: the time since the last sign of life on either path (R257). -/
def State.silence (s : State) : Nat := s.now - s.twin.lastLife

/-- Whether both paths are silent (R257). -/
def State.bothSilent (s : State) : Bool := s.twin.frameSilent && s.twin.beat != .toggling

/-- A flush in progress stops at a self-fence (R232): the persistence state closes and source 162 tells how far it came. -/
def State.stopFlush (s : State) : State :=
  if s.persist.state = 3 then
    let left := (s.persist.snap.getD []).length
    (s.modPersist (fun p => { p with state := 0, snap := none, home := p.home.filter (fun w => !w.flush) })).raise 162 0
      (leBytes 4 s.persist.header.progress ++ leBytes 4 left)
  else s

/-- The fence latch is set (R259, R261): the device is Fenced, its repairs are abandoned (R421) and a flush stops. Setting it
again changes nothing. -/
def State.fence (s : State) (cause : Nat) : State :=
  if s.twin.latch then s.modTwin (fun t => { t with state := 7 })
  else
    let s := s.modTwin (fun t => { t with latch := true, cause := cause, state := 7 })
    let s := s.modEcc (fun e => { e with repairs := [] })
    let s := (s.raise 99 cause (leBytes 1 cause ++ leBytes 8 s.silence ++ leBytes 8 s.twin.claim)).count 493 1
    s.stopFlush

/-- The latch is cleared: on entry to Resyncing, Standby, Active, Active twin lost or Alone only (R261). -/
def State.unfence (s : State) (state : Nat) : State :=
  s.modTwin (fun t => { t with latch := false, cause := 0, state := state })

/-- A fenced device that learns of a higher claim of its vault is Deposed (R269): its accepted and uncompleted writes to its
own vault go to the new active device in acceptance order, with their tags. -/
def State.depose (s : State) : State :=
  let mine := s.host.reqs.filter (fun e => e.write && e.dst == s.vault)
  let s := s.modTwin (fun t => { t with state := 8 })
  let s := s.modPersist (fun p => { p with writes := [], waitAdmit := [] })
  let s := s.raise 106 0 (leBytes 8 (s.claimOf s.vault) ++ leBytes 4 mine.length)
  (s.host.reqs.filter (fun e => e.dst == s.vault)).foldl (fun s e => s.route e.num 8) s

/-- Source 48+2n (R405): step, rank, state, cause and poisoned granules. Causes (log entry 39): 0 population, 1 training, 2 a check after
reset, 3 retrained, 4 asked for, 5 retry failure, 6 drift, 7 freeze. -/
def State.chanEvent (s : State) (n cause step rank poisoned : Nat) : State :=
  s.raise (48 + 2 * n) cause (leBytes 1 step ++ leBytes 1 rank ++ leBytes 1 (s.chan n).state ++ leBytes 1 cause ++ leBytes 4 poisoned)

/-- A rank begins retiring (R396): source 49+2n with the extents on it. -/
def State.retireRank (s : State) (n r : Nat) : State :=
  if (s.rankOf n r).state ≠ 1 then s
  else
    let ext := (s.place.slots.filter (fun e => slotChan e.1 == n && s.slotRank e.1 == r)).length
    ((s.modChan n (fun c => { c with ranks := modD c.ranks r {} (fun x => { x with state := 2 }) })).raise (49 + 2 * n) 1
      (leBytes 4 (s.chan n).episodes ++ leBytes 1 r ++ leBytes 4 (ofInt 32 (s.chan n).temp) ++ leBytes 4 ext)).tellRanks n

/-- The granules of homed slots on a channel that are dirty or not yet home-safe (R395). -/
def State.dirtyOn (s : State) (n : Nat) : Nat :=
  (s.persist.dirty.filter (fun g => slotChan (g / 512) == n)).length
    + (s.persist.home.filter (fun w => slotChan (w.gran / 512) == n && !s.persist.dirty.contains w.gran)).length

/-- A channel goes Offline (R395, R398, R402): its ranks retire, source 48+2n. -/
def State.goOffline (s : State) (n cause step rank : Nat) : State :=
  let s := (s.modChan n (fun c => { c with state := 6, leaving := 0, alert := [] })).modDram (fun d => { d with frozen := if d.frozen = n then 0xFF else d.frozen })
  let s := s.chanEvent n cause step rank (if s.serves then s.dirtyOn n else 0)
  (s.chan n).ranks.foldl (fun s r => s.retireRank n r.1) s

/-- A channel runs a full retrain (R388, R392, R402): refreshes owed are issued first (R383). -/
def State.goRetrain (s : State) (n cause : Nat) : State :=
  let owed := ((s.chan n).ranks.map (fun r => r.2.owed)).foldl (· + ·) 0
  let s := (s.count (8 * n + 4) owed).modChan n (fun c => { c with
    state := 3
    leaving := 0
    since := s.now
    alert := []
    ranks := c.ranks.map (fun r => (r.1, { r.2 with owed := 0 })) })
  (s.modDram (fun d => { d with frozen := if d.frozen = n then 0xFF else d.frozen })).chanEvent n cause 0 0 0

/-- A device that is not active leaves in sync while a channel of it cannot serve (R394). -/
def State.leaveSync (s : State) : State :=
  if s.twin.state = 4 ∨ s.twin.state = 5 then s.modTwin (fun t => { t with state := 5, inSync := false }) else s

/-- A channel leaves service at a device that is not active (R392, R394): 1 a retrain, 2 offline, 3 a return. -/
def State.chanLeave (s : State) (n what : Nat) : State :=
  (if what = 2 then s.goOffline n 4 0 0 else s.goRetrain n 4).leaveSync

/-- The former active device of a handover is the standby (R271): its DRAM is its twin's, and a channel it was started for leaves service
(R392). -/
def State.becomeStandby (s : State) : State :=
  let s := (s.unfence 4).modTwin (fun x => { x with handover := false, handStatus := St.ok, inSync := true, lastRec := s.now, recs := [] })
  let s := s.modPersist (fun p => { p with
    applied := [p.seq, p.seq]
    shadow := p.dirty
    unacked := []
    mirroring := false
    state := 0 })
  (s.dram.chans.filter (fun c => c.2.leaving != 0)).foldl (fun s c => s.chanLeave c.1 c.2.leaving) s

/-- What a claim above this device's own does to it (R269, R271, R278). -/
def State.higherClaim (s : State) : State :=
  if s.twin.state = 9 then
    let t := s.now - s.twin.handAt
    s.becomeStandby.raise 105 0 (leBytes 1 St.ok ++ leBytes 8 t)
  else if s.twin.state = 1 ∨ s.twin.state = 2 ∨ s.twin.state = 3 then (s.fence 4).depose
  else if s.twin.state = 6 then
    ((s.raise 101 1 (leBytes 8 s.twin.claimNew ++ leBytes 1 s.twin.drivesHeld.length ++ leBytes 1 1)).fence 6).depose
  else if s.twin.state = 7 then s.depose
  else s

/-- The claim table takes a claim for a vault (R268): the greater stands; credits withheld for the vault are no longer (R226);
outstanding requests to it are resent to the active device the new claim names. -/
def State.learnClaim (s : State) (v c : Nat) : State :=
  if c ≤ s.claimOf v then s
  else
    let s := s.modTwin (fun t => { t with claims := insertKey v c t.claims })
    let s := s.modPersist (fun p => { p with peersThrottled := delSet v p.peersThrottled })
    if s.numbered && v == s.vault then
      (if s.twin.claim < c then s.higherClaim else s)
    else (s.host.reqs.filter (fun e => e.dst == v)).foldl (fun s e => s.route e.num 8) s

/-! ### Twin loss (R209, R263, R264) -/

/-- Writes applied and not yet twin-safe are turned home-safe (R209): their granules are queued ahead of the sweep; with no
home store to take them a host write never completes and a piece ends with TWIN_LOST. -/
def State.convertWrites (s : State) : State :=
  let open_ := s.persist.writes.filter (fun w => !s.twinSafe w.seq)
  if open_ = [] then s
  else
    let s := (s.count 430 open_.length).raise 170 0 (leBytes 4 open_.length ++ leBytes 8 s.persist.horizon)
    let ids := open_.map HWrite.id
    if s.hasHome then
      s.modPersist (fun p => { p with
        writes := p.writes.map (fun w => if ids.contains w.id then { w with needHome := true, waitSeal := p.state == 3 } else w)
        urgent := open_.foldl (fun u w => addSet w.gran u) p.urgent })
    else
      let s := s.modPersist (fun p => { p with writes := p.writes.filter (fun w => !ids.contains w.id) })
      open_.foldl (fun s w => s.answer w.origin St.twinLost) s

/-- The active device declares its twin lost (R263): state Active twin lost, source 102, the streams close, resync marks every
granule that holds a write not twin-safe (R273), and R209 applies. -/
def State.declareLost (s : State) (cause : Nat) : State :=
  if s.twin.state ≠ 1 ∨ s.twin.latch then s
  else
    let s := s.raise 102 cause (leBytes 1 cause ++ leBytes 8 s.persist.horizon ++ leBytes 8 s.persist.seq)
    let s := s.convertWrites
    let grans := s.persist.unacked.map (fun r => slotGran r.run.slot (r.run.line / 64))
    let s := s.modTwin (fun t => { t with
      state := 2
      inSync := false
      resync := grans.foldl (fun l g => addSet g l) t.resync
      resyncOn := false })
    let s := s.modPersist (fun p => { p with unacked := [], mirroring := false, horizon := p.seq })
    s.pumpUrgent.completeWrites

/-! ### The claim (R265, R266, R251) -/

/-- The number a claim takes (R251): the smallest of the device's parity above every number it has seen for its vault: its
claim record, the vault claim, its twin's frames and the reservation keys on the drives. Even devices hold odd numbers. -/
def State.nextClaim (s : State) : Nat :=
  let seen := max (max s.twin.claim (s.claimOf s.vault)) (maxOf (s.persist.drives.map (fun d => d.2.key))
    ((s.twin.peer.map Beat.claim).getD 0))
  let par := if s.pool.number % 2 = 0 then 1 else 0
  if (seen + 1) % 2 = par then seen + 1 else seen + 2

/-- A claim starts (R265 step 1): state Claiming, the number chosen, source 100. -/
def State.claimBegin (s : State) (trigger : Nat) : State :=
  let k := s.nextClaim
  (s.modTwin (fun t => { t with
    state := 6
    claimNew := k
    claimAt := s.now
    trigger := trigger
    recorded := false
    drivesHeld := []
    drivesTold := [] })).raise 100 trigger (leBytes 8 k ++ leBytes 1 trigger)

/-- A claim is lost (R265 step 3): source 101, the latch set, Fenced. -/
def State.claimLost (s : State) : State :=
  (s.raise 101 1 (leBytes 8 s.twin.claimNew ++ leBytes 1 s.twin.drivesHeld.length ++ leBytes 1 1)).fence 6

/-- A drive out of service (R219): sources 166 and 176+d, the home Degraded or Failed (167), the ceiling recomputed (R224). -/
def State.driveLost (s : State) (d status lba : Nat) : State :=
  let old := s.ceiling
  let s := (s.modDrive d (fun x => { x with state := 0 })).raise 166 0 (leBytes 1 d ++ leBytes 2 status ++ leBytes 4 lba)
  let s := s.raise (176 + d) 0 (leBytes 1 (b2n (s.drive d).link) ++ leBytes 1 0)
  let s := s.modPersist (fun p => { p with home := p.home.map (fun w => { w with drives := w.drives.filter (· != d) }) })
  if s.drivesFail && !s.persist.failed then
    let outs := ((List.range s.driveCount).filter (fun d => !s.driveUp d)).length
    let s := (s.modPersist (fun p => { p with failed := true })).raise 167 0 (leBytes 4 outs ++ leBytes 1 (s.setting 0x3300 0x0F))
    s.afterClean
  else s.ceilingCheck old

end Sys2Proof.Machine
end

