-- ==== Sys2Proof/Machine/Receive.lean ====
section
/-! DEFINITION. Receiving over Hinge: the checks of R294 in their order, acknowledgements and credits (R300, R305, R308), and
the claim check (R268, R292). -/

namespace Sys2Proof.Machine

/-- Whether sequence `a` lies before `b`, in the 2^31 values below it (R300). -/
def seqBefore (a b : Nat) : Bool := decide (1 ≤ (b + 2 ^ 32 - a % 2 ^ 32) % 2 ^ 32 ∧ (b + 2 ^ 32 - a % 2 ^ 32) % 2 ^ 32 ≤ 2 ^ 31)

/-- A channel whose frames before `next` are acknowledged (R300). -/
def ChanSt.acked (k : ChanSt) (next now : Nat) : ChanSt :=
  let left := k.unacked.filter (fun f => !seqBefore f.seq next)
  if left.length < k.unacked.length then { k with unacked := left, retries := 0, oldest := now } else k

/-- Source 114+4p, at most once a second, with the failures since it was last raised (R294, R314, R321). -/
def State.headerEvent (s : State) (p cause peer type : Nat) : State :=
  let x := s.xport p
  let due := match x.headerEvt with | some t => decide (t + 1000000000 ≤ s.now) | none => true
  if due then
    (s.modXport p (fun x => { x with headerEvt := some s.now, headerCnt := 0 })).raise (114 + 4 * p) cause
      (leBytes 2 peer ++ leBytes 1 type ++ leBytes 4 (x.headerCnt + 1))
  else s.modXport p (fun x => { x with headerCnt := x.headerCnt + 1 })

/-- A GCM tag failure on a connection (R314): after 16 within 1 ms the connection is closed with ABORTED and opened anew. -/
def State.tagFailure (s : State) (peer p type : Nat) : State :=
  let s := ((s.count 451 1).count (198 + 8 * p) 1).headerEvent p 1 peer type
  match s.conn peer p with
  | none => s
  | some c =>
    let recent := c.tagFails.filter (fun t => s.now < t + 1000000) ++ [s.now]
    if 16 ≤ recent.length then
      (s.putFrame { peer := peer, port := p, vc := 3, body := .close St.aborted }).connFails c 3 0
    else s.putConn { c with tagFails := recent }

/-- The connection a received frame belongs to (R300): both devices and both ports name it. -/
def State.connFor (s : State) (h : Hdr) : Option Conn := (s.conn h.src h.dport).filter (fun c => c.rport == h.sport)

/-- The IV of a frame received under a connection (R313): the peer's epoch. -/
def Conn.ivOf (c : Conn) (h : Hdr) (vc : Nat) : Nat := frameIv h vc c.epochRx

/-- Whether a frame with ENC set passes its tag (R313, R314): on an open encrypted connection, under the Hinge key. -/
def State.tagPasses (s : State) (h : Hdr) (b : FBody) : Bool :=
  match s.connFor h with
  | some c =>
    c.state == 2 && c.enc && s.hingeKey.state == 1 &&
      h.tag == frameTag (aesBytes s.hingeKey.kind) s.hingeKey.key (c.ivOf h (bodyVc b).1) h b (bodyData b)
  | none => false

/-- The lines of a received data area: decrypted where ENC is set (R313). -/
def State.clear (s : State) (h : Hdr) (vc : Nat) (ls : List Line) : List Line :=
  if h.enc then
    match s.connFor h with
    | some c => gcmLines (aesBytes s.hingeKey.kind) s.hingeKey.key (c.ivOf h vc) ls
    | none => ls
  else ls

/-- The runs of a MIRROR frame given its lines in order and its poison bitmap from their place on (R293). -/
def fillRuns (rs : List Run) (ls : List Line) (poison : Nat) : List Run :=
  match rs with
  | [] => []
  | r :: rs =>
    let n := r.lines.length + r.upd.toList.length
    { r with lines := ls.take r.lines.length, poison := (List.range r.lines.length).map (fun i => poison.testBit i) } ::
      fillRuns rs (ls.drop n) (poison / 2 ^ n)

/-- The runs of a received MIRROR frame: their lines decrypted where ENC is set (R313), and their poison from the header (R293). -/
def State.clearRuns (s : State) (h : Hdr) (rs : List Run) : List Run :=
  fillRuns rs (if h.enc then s.clear h 2 (bodyData (.mirror 0 rs)) else rs.flatMap (fun r => r.lines ++ r.upd.toList.map (fun _ => 0))) h.poison

/-- Whether a sequenced frame is the next that its connection expects (R300). -/
def State.seqFits (s : State) (h : Hdr) (vc : Nat) : Bool := (s.connFor h).any (fun c => c.state == 2 && h.seq == (c.chan vc).nextRx)

/-- A sequenced frame that is not the next expected (R294, R300): a duplicate is acknowledged again, and one out of order is answered with a NAK
at most once per 2 µs. -/
def State.seqMiss (s : State) (h : Hdr) (vc : Nat) : State :=
  let s := s.count (197 + 8 * h.dport) 1
  match s.connFor h with
  | none => s
  | some c =>
    let k := c.chan vc
    if c.state ≠ 2 then s
    else if seqBefore h.seq k.nextRx then s.sendAck h.src h.dport
    else
      let due := match k.nakAt with | some t => decide (t + 2000 ≤ s.now) | none => true
      if due then
        (s.putConn (c.modChan vc (fun k => { k with nakAt := some s.now }))).putFrame { peer := h.src, port := h.dport, vc := 3, body := .nak vc k.nextRx }
      else s

/-- The credits a peer holds on a channel, in hand or on the way. -/
def Conn.level (c : Conn) (vc : Nat) : Nat := (c.chan vc).given - ((c.chan vc).nextRx + 2 ^ 32 - c.initRx) % 2 ^ 32

/-- Whether a frame that a channel accepts gives its credit back at once (R305, R309): on a pool port whose buffer runs short, only as far as it keeps
the connection at its initial credits. -/
def State.refills (s : State) (c : Conn) (vc : Nat) : Bool :=
  s.portRole c.port == 0 || !nth (s.xport c.port).tight vc false || decide (c.level vc ≤ nth (s.offered c.port) vc 0)

/-- The next frame of a channel is accepted, and the frames it acknowledges go (R300, R305). -/
def State.seqTake (s : State) (h : Hdr) (vc : Nat) : State :=
  match s.connFor h with
  | none => s
  | some c =>
    let c := c.modChan vc (fun k => { k.acked h.ack s.now with
      nextRx := (k.nextRx + 1) % 2 ^ 32
      sinceAck := k.sinceAck + 1
      accAt := if k.sinceAck = 0 then s.now else k.accAt
      usedUp := k.usedUp || decide (k.told ≤ (k.nextRx + 1 + 2 ^ 32 - c.initRx) % 2 ^ 32)
      given := k.given + b2n (s.refills c vc) })
    let s := s.putConn { c with lastUse := s.now }
    let s := if 16 ≤ (c.chan vc).sinceAck then s.sendAck h.src h.dport else s
    s.pumpAll h.src h.dport vc

/-- The claim step of R294 (R292, R268): the table takes the header's claim; a request, response or mirror frame below it is
refused, source 107, and answered with a CLAIM frame that carries the table's entry. -/
def State.claimStep (s : State) (h : Hdr) (vc : Nat) : State × Bool :=
  if h.src = 0xFFFF then (s, true)
  else
    let v := h.src / 2
    let s := s.learnClaim v h.claim
    if vc < 3 ∧ h.claim < s.claimOf v then
      let s := (s.raise 107 0 (leBytes 2 h.src ++ leBytes 8 h.claim ++ leBytes 8 (s.claimOf v))).count 495 1
      (s.send h.src (.claim v (s.claimOf v)), false)
    else (s, true)

/-- The receive checks of R294 in their order, for a frame of a body; `join` allows the device numbers of the join procedure (R343). The frame is
delivered where the answer is true; one refused at a step is not acknowledged. -/
def State.rx (s : State) (h : Hdr) (b : FBody) (join : Bool) : State × Bool :=
  let p := h.dport
  let vc := (bodyVc b).1
  if !h.fcsOk then (s.count (197 + 8 * p) 1, false)
  else if !h.addrOk then (s, false)
  else if !headPasses h b then ((s.count (197 + 8 * p) 1).headerEvent p 0 h.src (bodyType b), false)
  else if !join && !(s.numbered && h.dst == s.pool.number && s.listed h.src) then (s, false)
  else if h.enc && !s.tagPasses h b then (s.tagFailure h.src p (bodyType b), false)
  else if h.enc && s.cipher.lost.contains (1, p, h.seq) then
    (s.modCipher (fun c => { c with lost := c.lost.filter (· != (1, p, h.seq)) }), false)
  else if (bodyVc b).2 && !s.seqFits h vc then (s.seqMiss h vc, false)
  else
    match s.claimStep h vc with
    | (s, false) => (s, false)
    | (s, true) =>
      let s := if h.enc then (s.count 450 1).count 449 (64 * bodyLines b) else s
      let s := (s.countFor (193 + 8 * p) 1 { cls := bodyClass b, src := 8 + p }).count (195 + 8 * p) (bodyBytes b + (if h.enc then 16 else 0))
      (if (bodyVc b).2 then s.seqTake h vc else s, true)

/-- What a delivered frame does, behind the receive checks. -/
def State.onFrame (s : State) (h : Hdr) (b : FBody) (f : State → State) : State :=
  let (s, ok) := s.rx h b false
  if ok then f s else s

end Sys2Proof.Machine
end

