-- ==== Sys2Proof/Machine/DictOps.lean ====
section
/-! DEFINITION. What every dictionary command shares: the requester table (R50, R51), the answer to a requester (R51, R75), the
checks before a target is touched (R70), and a write of one object under those checks. -/

namespace Sys2Proof.Machine

/-! ### Requesters (R50) -/

/-- The forwarded requests of a slot that are not answered (R74). -/
def State.outstanding (s : State) (slot : Nat) : Nat := (s.dict.fwds.filter (fun f => f.slot == slot)).length

/-- The commits of a requester that wait for sessions to be free (R98), each counted once however many sessions it waits for. -/
def State.waitsFor (s : State) (rq : Req) : Nat :=
  (((s.host.sess.flatMap (fun e => e.2.waiter)).filter (fun w => w.1 == rq)).foldl (fun l w => addSet w.2 l) []).length

/-- The requests a requester has outstanding at the device (R51). -/
def State.outstandingOf (s : State) (rq : Req) : Nat :=
  (match s.slotOf rq with | some n => s.outstanding n | none => 0) + s.waitsFor rq

/-- Whether a slot is in use (R50): a staged set, an owner grant, or a request outstanding. -/
def State.slotInUse (s : State) (n : Nat) (r : Requester) : Bool :=
  r.staged != [] || r.grant || decide (0 < s.outstanding n) || decide (0 < s.waitsFor r.rq)

/-- A slot of the requester table changed. -/
def State.modSlot (s : State) (n : Nat) (f : Requester → Requester) : State :=
  s.modDict (fun d => { d with slots := d.slots.map (fun e => if e.1 = n then (n, f e.2) else e) })

/-- A slot is given up (R50): for each device it forwarded a staging write or a password presentation to, a discard and a Lock
go out in its name first. -/
def State.freeSlotOf (s : State) (n : Nat) : State :=
  match assoc s.dict.slots n with
  | none => s
  | some r =>
    let s := r.targets.foldl (fun s d =>
      let pre : FwdPrefix := { dev := s.pool.number, slot := n, level := min (s.level r.rq) 1 }
      let m := fun (idx sub v : Nat) => ({ opcode := 2, index := idx, sub := sub, fwd := true, target := d, type := 2, total := 1, value := leBytes 1 v } : DictMsg)
      (s.send d (.mgmtReq pre (sealMsg (m 0x1F00 1 2)))).send d (.mgmtReq pre (sealMsg (m 0x1F10 3 1)))) s
    s.modDict (fun d => { d with slots := d.slots.filter (fun e => e.1 != n) })

/-- A slot taken for a requester (R50): its own, a free one, or the one not in use whose last request is oldest. -/
def State.takeReqSlot (s : State) (rq : Req) : Option (State × Nat) :=
  match s.slotOf rq with
  | some n => some (s, n)
  | none =>
    match (List.range 32).find? (fun n => (assoc s.dict.slots n).isNone) with
    | some n => some (s.modDict (fun d => { d with slots := insertKey n { rq := rq, lastUse := s.now } d.slots }), n)
    | none =>
      let idle := s.dict.slots.filter (fun e => !s.slotInUse e.1 e.2)
      match idle.find? (fun e => e.2.lastUse == minOf (idle.map (fun e => e.2.lastUse)) (s.now + 1)) with
      | some e => some ((s.freeSlotOf e.1).modDict (fun d => { d with slots := insertKey e.1 { rq := rq, lastUse := s.now } d.slots }), e.1)
      | none => none

/-- A request from a requester: its slot's time of last request (R50, R62). -/
def State.touch (s : State) (rq : Req) : State :=
  match s.slotOf rq with
  | some n => s.modSlot n (fun r => { r with lastUse := s.now })
  | none => s

/-! ### Answers (R51, R75) -/

/-- A response as a mailbox's output payload shows it (R118). -/
def respWords (r : DictResp) : List Nat :=
  [r.opcode, r.tag, r.index, r.sub, r.status, r.type, b2n r.more, r.offset, r.total] ++ r.value.map (fun x => x.toNat)

/-- The answer to a write whose value came in segments names that opcode (R67, R68). -/
def State.segResp (s : State) (rq : Req) (r : DictResp) : State × DictResp :=
  if r.opcode = 2 ∧ s.dict.segTags.contains (rq, r.tag) then
    (s.modDict (fun d => { d with segTags := d.segTags.filter (· != (rq, r.tag)) }), { r with opcode := 4 })
  else (s, r)

/-- A response goes, with its CRC-32C (R67), to the requester that sent the request: shown on its path, after an in-band interrupt where that
is I3C (R65), given to its mailbox with vector 0 signalled (R118, R122), or carried over Hinge to the entry device. -/
def State.respond (s : State) (rq : Req) (r : DictResp) : State :=
  let a := s.segResp rq r
  let s := a.1
  let r := sealResp a.2
  match rq with
  | .ld p l => (s.emit (.mailbox p l 0xC5A0 0 (respWords r))).msix p l 0
  | .fwd dev slot => s.send dev (.mgmtResp { dev := dev, slot := slot, level := 0 } r)
  | .mctp .i3c0 e => (s.emit (.inBand .i3c0)).emit (.dict (.mctp .i3c0 e) r)
  | .mctp .i3c1 e => (s.emit (.inBand .i3c1)).emit (.dict (.mctp .i3c1 e) r)
  | rq => s.emit (.dict rq r)

/-- The response to a write of one object. -/
def writeResp (tag idx sub status : Nat) : DictResp := { opcode := 2, tag := tag, index := idx, sub := sub, status := status }

/-! ### Checks (R70) -/

/-- A requester's number in an event record. -/
def reqBytes (rq : Req) : Bytes :=
  match rq with
  | .mctp p eid => leBytes 1 (pathNum p) ++ leBytes 1 eid
  | .ld p l => leBytes 1 (16 + 16 * p + l) ++ leBytes 1 0
  | .fwd dev slot => leBytes 2 dev ++ leBytes 1 slot

/-- The path a message came by and its endpoint or entry device, as source 5 records them (R82); Hinge is path 3. -/
def pathBytes (rq : Req) : Bytes :=
  match rq with
  | .mctp p eid => leBytes 1 (pathNum p) ++ leBytes 1 eid
  | .ld p l => leBytes 1 (16 + 16 * p + l) ++ leBytes 1 0
  | .fwd dev _ => leBytes 1 3 ++ leBytes 2 dev

/-- A message discarded without a response (R66, R67): counted in 0x1F20:05, source 5. -/
def State.discardMsg (s : State) (rq : Req) (m : DictMsg) : State :=
  (s.modDict (fun d => { d with discarded := satAdd d.discarded 1 0xFFFFFFFF })).raise 5 0 (pathBytes rq ++ (headBytes m).take 8)

/-- Whether a message passes its CRC-32C and its MCTP checks (R66, R67). -/
def msgWhole (rq : Req) (m : DictMsg) : Bool :=
  crcPasses m && (match rq with | .mctp _ _ => !m.icBit && m.iana == 0x0001C7A5 | _ => true)

/-- Whether version, opcode and reserved fields are as R67 and R68 give. -/
def msgForm (m : DictMsg) : Bool :=
  m.version == 1 && m.rsv0 == 0 && m.rsv7 == 0 && decide (1 ≤ m.opcode ∧ m.opcode ≤ 7)

/-- The response that refuses a message. -/
def refuse (m : DictMsg) (status : Nat) : DictResp :=
  { opcode := m.opcode, tag := m.tag, index := m.index, sub := m.sub, status := status }

/-- Whether a request is a staging write or a password presentation (R50): what a slot that forwarded it must undo when it is given up. -/
def leavesState (m : DictMsg) : Bool :=
  (m.opcode == 2 || m.opcode == 4) &&
    (okey m.index m.sub == okey 0x1F10 1 || ((objFind m.index m.sub).map Obj.acc) == some .rwc)

/-- A request forwarded by this entry device (R74): refused when the target is not listed or this device has no number, or when
no slot can be taken; otherwise sent unchanged in a Hinge management frame, its answer awaited. -/
def State.forward (s : State) (rq : Req) (m : DictMsg) : State :=
  if !(s.numbered && s.listed m.target) then s.respond rq (refuse m St.badRange)
  else match s.takeReqSlot rq with
    | none => s.respond rq (refuse m St.busy)
    | some (s, n) =>
      let s := s.modSlot n (fun r => { r with
        lastUse := s.now
        targets := if leavesState m then addSet m.target r.targets else r.targets })
      let s := s.modDict (fun d => { d with fwds := d.fwds ++ [{ slot := n, tag := m.tag, target := m.target, msg := m, since := s.now }] })
      s.send m.target (.mgmtReq { dev := s.pool.number, slot := n, level := min (s.level rq) 1 } m)

/-- Whether the device answers dictionary messages on a path (R65): JTAG with VAUX present (R520), the I3C ports then too but where the boot code found no
image (R458, R529), a trained CXL port, in multi-logical-device mode for each
logical device it presents and the fabric manager's (R91), else as its one endpoint. -/
def State.pathAnswers (s : State) : Path → Bool
  | .i3c0 => s.power.vaux && !s.rec_.alertBoot
  | .i3c1 => s.power.vaux && !s.rec_.alertBoot
  | .jtag => s.power.vaux
  | .cxl p ld => (s.hostPort p).link == 2 && (if s.host.mode = 1 then ld == 0 else decide (ld < (s.hostPort p).lds ∨ ld = 16))

/-- Whether the device answers a requester on its path (R65). -/
def State.answers (s : State) : Req → Bool
  | .mctp p _ => s.pathAnswers p
  | .ld _ _ => true
  | .fwd _ _ => true

/-- A presentation failed or was refused (R63): source 6. -/
def State.failedPresentation (s : State) (rq : Req) : State := s.raise 6 0 (reqBytes rq ++ leBytes 2 s.dict.fails)

/-- Whether a request presents the owner password (R62). -/
def presents (m : DictMsg) : Bool := (m.opcode == 2 || m.opcode == 4) && m.index == 0x1F10 && m.sub == 1

/-- What the device does with a dictionary message before it looks at the object (R65 to R67, R70, R74): discards it, refuses
it, forwards it, or serves it by `f`. A fifth outstanding request is refused with BUSY (R51) before the checks of R9 that follow, whatever
those would find: R51 and R70 give no order between them; DESIGN CHOICE, log entry 101. A presentation refused so raises source 6 (R63). -/
def State.onMsg (s : State) (rq : Req) (m : DictMsg) (f : State → State) : State :=
  if !s.answers rq then s
  else if !msgWhole rq m then s.discardMsg rq m
  else
    let s := s.touch rq
    if !msgForm m then s.respond rq (refuse m St.badDescriptor)
    else if 4 ≤ s.outstandingOf rq then
      (if presents m && !m.fwd then s.failedPresentation rq else s).respond rq (refuse m St.busy)
    else if m.fwd && m.target != 0xFFFF && m.target != s.pool.number then s.forward rq m
    else f s

/-- The type code of an object. -/
def tyCode (idx sub : Nat) : Nat := match objFind idx sub with | some o => o.ty.code | none => 0

/-- Whether a value is of an object's type and length. -/
def typedAs (idx sub ty : Nat) (b : Bytes) : Bool :=
  match objFind idx sub with
  | some o => ty == o.ty.code && o.ty.lenOk b.length
  | none => false

/-- The code that refuses a write which fails the checks of its access: the lowest of them and of those that the object's own rule adds (R9). -/
def refusal (bad st : Nat) (typed : Bool) : Nat := if typed && decide (0x10 ≤ st ∧ st ≤ 0x16) then min bad st else bad

/-- A write of one object by a requester (R46, R47, R70): the checks first; what passes them acts, and the answer carries the
act's status. A fifth outstanding request is BUSY before them, as at `onMsg` (log entry 101). -/
def State.writeObj (s : State) (rq : Req) (tag idx sub ty : Nat) (b : Bytes) (act : State → State × Nat) : State :=
  let s := s.touch rq
  let bad := lowest (s.writeFails rq idx sub ty b)
  if 4 ≤ s.outstandingOf rq then s.respond rq (writeResp tag idx sub St.busy)
  else
    let (t, st) := act s
    if bad = St.ok then t.respond rq (writeResp tag idx sub st)
    else s.respond rq (writeResp tag idx sub (refusal bad st (typedAs idx sub ty b)))

/-- A write of the number `v` to an object of `n` bytes. -/
def State.writeNum (s : State) (rq : Req) (tag idx sub n v : Nat) (act : State → State × Nat) : State :=
  s.writeObj rq tag idx sub (tyCode idx sub) (leBytes n v) act

/-! ### Staging (R52) -/

/-- The slot that holds an object staged. -/
def State.stager (s : State) (key : Nat) : Option Nat :=
  (s.dict.slots.find? (fun e => e.2.staged.any (fun x => x.1 == key))).map Prod.fst

/-- A value placed in a requester's staged set (R52 rules 1 to 3), with the status of the write. -/
def State.stage (s : State) (rq : Req) (key : Nat) (b : Bytes) : State × Nat :=
  match s.takeReqSlot rq with
  | none => (s, St.busy)
  | some (s1, n) =>
    match s1.stager key with
    | some k =>
      if k ≠ n then (s, St.busy)
      else (s1.modSlot n (fun r => { r with staged := insertKey key b r.staged, stageAt := s.now }), St.ok)
    | none =>
      if 256 ≤ (((assoc s1.dict.slots n).map (fun r => r.staged.length)).getD 0) then (s, St.busy)
      else (s1.modSlot n (fun r => { r with staged := insertKey key b r.staged, stageAt := s.now }), St.ok)

end Sys2Proof.Machine
end

