-- ==== Sys2Proof/Machine/Cache.lean ====
section
/-! DEFINITION. The steward clusters' caches and merging buffers, with their commands (R462 to R469). -/

namespace Sys2Proof.Machine

/-! ### Clusters and sets (R452, R462) -/

/-- A cluster. -/
def State.cluster (s : State) (c : Nat) : Cluster := getD s.steward.clusters c {}

/-- A cluster changed. -/
def State.modCluster (s : State) (c : Nat) (f : Cluster → Cluster) : State :=
  s.modSteward (fun w => { w with clusters := modD w.clusters c {} f })

/-- Whether a cluster's cache is enabled (0x3810+c:02). -/
def State.cacheOn (s : State) (c : Nat) : Bool := s.flag (0x3810 + c) 2

/-- The set of a line: address bits [17:6] (R462). -/
def lineSet (ln : Nat) : Nat := ln % 4096
/-- The tag of a line. -/
def lineTag (ln : Nat) : Nat := ln / 4096

/-- A set's ways. -/
def Cluster.set (k : Cluster) (i : Nat) : List (Nat × CWay) := getD k.sets i []

/-- The way that holds a line. -/
def Cluster.find (k : Cluster) (ln : Nat) : Option (Nat × CWay) :=
  (k.set (lineSet ln)).find? (fun e => e.2.valid && e.2.tag == lineTag ln)

/-- A way of a set stored. -/
def Cluster.putWay (k : Cluster) (i w : Nat) (x : CWay) : Cluster := { k with sets := modD k.sets i [] (fun l => insertKey w x l) }

/-- The ways of every set changed. -/
def Cluster.mapWays (k : Cluster) (f : Nat → CWay → CWay) : Cluster :=
  { k with sets := k.sets.map (fun e => (e.1, e.2.map (fun x => (x.1, f x.1 x.2)))) }

/-- A line invalid in whichever way holds it. -/
def Cluster.dropLine (k : Cluster) (ln : Nat) : Cluster :=
  match k.find ln with
  | some (w, x) => k.putWay (lineSet ln) w { x with valid := false }
  | none => k

/-- Whether a fill of a set is on its way to a way. -/
def Cluster.filling (k : Cluster) (i w : Nat) : Bool := k.fills.any (fun f => f.install && lineSet f.line == i && f.way == w)

/-- The victim of a set and the set as ageing leaves it (R466); a way that waits to be locked takes no new fill (R468). It is chosen as the fill is issued, and a way a fill is on its way to is
passed over: DESIGN CHOICE, log entry 42. -/
def Cluster.victim (k : Cluster) (i : Nat) : Cluster × Option Nat :=
  let free := (List.range 16).filter (fun w => !k.locked.getLsbD w && !k.lockPend.contains w && !k.filling i w)
  let valid := fun (w : Nat) => match assoc (k.set i) w with | some x => x.valid | none => false
  match free.find? (fun w => !valid w) with
  | some w => (k, some w)
  | none =>
    let age := fun (l : List (Nat × CWay)) (w : Nat) => ((assoc l w).map CWay.age).getD 0
    let m := maxOf (free.map (age (k.set i))) 0
    let k := if m < 3 then { k with sets := modD k.sets i [] (fun l => l.map (fun e =>
        if free.contains e.1 then (e.1, { e.2 with age := e.2.age + (3 - m) }) else e)) } else k
    (k, free.find? (fun w => age (k.set i) w == 3))

/-! ### The merging buffer (R464) -/

/-- Whether a line that an engine names lies in the vault's DRAM, where its address is device-local (R377; DEDUCED, log entry 133). -/
def State.inDram (s : State) (ln : Nat) : Bool := decide (lineSlot ln < s.ownExtents)

/-- An entry leaves for memory, in class TC7 as requester 0x12 + c (R452): its bytes are merged into the line, which an uncorrectable word of the entry
poisons (R464). -/
def State.drainEntry (s : State) (c : Nat) (e : MEnt) : State :=
  let s := s.emit (.clusterStore c (64 * e.line) e.data e.mask e.poison)
  if s.inDram e.line then
    (s.askWrite (lineSlot e.line) (0x12 + c) 7 1).putLine e.line (mergeLine (s.line e.line) e.data e.mask)
      (e.poison || (e.mask != BitVec.allOnes 64 && s.linePoison e.line))
  else s

/-- The `n` oldest entries drain, in the order of their first store. -/
def State.drainFirst (s : State) (c n : Nat) : State :=
  let l := (s.cluster c).merge.take n
  l.foldl (fun s e => s.drainEntry c e) (s.modCluster c (fun k => { k with merge := k.merge.drop n }))

/-- Every entry drains. -/
def State.drainAll (s : State) (c : Nat) : State := s.drainFirst c (s.cluster c).merge.length

/-- A line with the bytes of the open entries of its cluster (R464). -/
def Cluster.overlay (k : Cluster) (ln : Nat) (v : Line) : Line :=
  (k.merge.filter (fun e => e.line == ln)).foldl (fun v e => mergeLine v e.data e.mask) v

/-! ### Fills (R464 to R466) -/

/-- A fetch of a line goes to the vault die, in class TC7 as requester 0x12 + c (R452). -/
def State.fetchLine (s : State) (c ln : Nat) : State :=
  (if s.inDram ln then s.askRead (lineSlot ln) (0x12 + c) 7 1 else s).emit (.clusterFetch c (64 * ln))

/-- A fill into the victim way of its set is issued. -/
def State.issueFill (s : State) (c ln kind : Nat) (waiters : List Nat) : State :=
  let (k, w) := (s.cluster c).victim (lineSet ln)
  (s.modCluster c (fun _ => { k with fills := k.fills ++ [{
    line := ln
    kind := kind
    way := w.getD 0
    install := w.isSome
    waiters := waiters }] })).fetchLine c ln

/-- The prefetch that a demand miss issues (R465). -/
def State.prefetchNext (s : State) (c ln : Nat) (streaming : Bool) : State :=
  let k := s.cluster c
  if s.flag (0x3810 + c) 3 && (ln + 1) / 64 == ln / 64 && (k.find (ln + 1)).isNone && !k.fills.any (fun f => f.line == ln + 1) then
    s.issueFill c (ln + 1) (if streaming then 3 else 1) []
  else s

/-- The state of an engine (R470): those of clusters 1 to 4 are halted while the device is parked (R453). -/
def State.engineState (s : State) (e : Nat) : Nat :=
  if s.power.state = 3 ∧ 1 ≤ e / 8 ∧ e / 8 ≤ 4 then 2 else (getD s.steward.engines e {}).state

/-- Whether an engine runs (R454, R470). -/
def State.engineRuns (s : State) (e : Nat) : Bool := decide (s.engineState e < 2)

/-- A demand load that the cache does not hold: it joins the fill of its line that is in flight, or issues one and its prefetch. -/
def State.missLoad (s : State) (c e ln : Nat) (streaming : Bool) : State :=
  let s := s.count (512 + 8 * e + 3) 1
  if (s.cluster c).fills.any (fun f => f.line == ln && f.install) then
    (s.modCluster c (fun k => { k with fills := k.fills.map (fun f => if f.line = ln ∧ f.install then { f with waiters := f.waiters ++ [e] } else f) })).prefetchNext c ln streaming
  else (s.issueFill c ln (if streaming then 2 else 0) [e]).prefetchNext c ln streaming

/-- The number of a way's line among a cluster's word memories (log entry 48). -/
def cacheWord (c set way : Nat) : Nat := 96 + 65536 * c + 16 * set + way

/-- CACHE_LOAD (R462 to R466). `wordOk`: no word of the line in the cache is uncorrectable (R463). -/
def execCacheLoad (e addr : Nat) (attr : CacheAttr) (wordOk : Bool) (s : State) : Host.Outcome State Fault Refusal :=
  let c := e / 8
  let ln := addr / 64
  done (
    if !s.engineRuns e then s
    else if attr = .uncached ∨ !s.cacheOn c then
      ((s.count (512 + 8 * e + 6) 1).modCluster c (fun k => { k with fills := k.fills ++ [{ line := ln, kind := 0, install := false, waiters := [e] }] })).fetchLine c ln
    else match (s.cluster c).find ln with
      | some (w, x) =>
        if wordOk then
          let s := (s.count (512 + 8 * e + 2) 1).count (512 + 8 * e + 4) (b2n x.prefetched)
          (s.modCluster c (fun k => k.putWay (lineSet ln) w { x with age := 0, prefetched := false })).emit
            (.clusterLoad c e ((s.cluster c).overlay ln x.data) x.poison)
        else (((s.count 487 1).raise 91 0 (leBytes 1 7 ++ leBytes 4 (cacheWord c (lineSet ln) w))).modCluster c (fun k => k.dropLine ln)).missLoad c e ln (attr == .streaming)
      | none => s.missLoad c e ln (attr == .streaming))

/-- CACHE_STORE (R464): a present line is updated; the store enters the merging buffer. -/
def execCacheStore (e addr : Nat) (line : Line) (be : BitVec 64) (attr : CacheAttr) (s : State) : Host.Outcome State Fault Refusal :=
  let c := e / 8
  let ln := addr / 64
  done (
    if !s.engineRuns e then s
    else
      let s := if attr = .uncached ∨ !s.cacheOn c then s.count (512 + 8 * e + 6) 1 else s
      let s := if s.cacheOn c then s.modCluster c (fun k => match k.find ln with
          | some (w, x) => k.putWay (lineSet ln) w { x with data := mergeLine x.data line be }
          | none => k) else s
      match (s.cluster c).merge.findIdx? (fun x => x.line == ln) with
      | some i =>
        let s := (s.count (512 + 8 * e + 5) 1).modCluster c (fun k => { k with merge := modNth k.merge i (fun x =>
          { x with data := mergeLine x.data line be, mask := x.mask ||| be }) })
        if (nth (s.cluster c).merge i { line := 0, data := 0, mask := 0, since := 0 }).mask = BitVec.allOnes 64 then s.drainFirst c (i + 1) else s
      | none =>
        let s := s.modCluster c (fun k => { k with merge := k.merge ++ [{ line := ln, data := line, mask := be, since := s.now }] })
        if be = BitVec.allOnes 64 then s.drainAll c
        else if 24 ≤ (s.cluster c).merge.length then s.drainFirst c 1
        else s)

/-- MERGE_ENTRY_TIMEOUT (R464): entries whose first store is 1 µs old. -/
def execMergeEntryTimeout (c : Nat) (s : State) : Host.Outcome State Fault Refusal :=
  done (s.drainFirst c ((s.cluster c).merge.filter (fun e => s.elapsed e.since 1000)).length)

/-- The age a fill enters at (R466). -/
def fillAge (kind : Nat) : Nat := if kind = 1 then 2 else if kind = 2 ∨ kind = 3 then 3 else 0

/-- Locks that waited for fills to their way take effect (R468). -/
def Cluster.settleLocks (k : Cluster) : Cluster :=
  let ready := k.lockPend.filter (fun w => !k.fills.any (fun f => f.install && f.kind != 4 && f.way == w))
  { k with
    locked := ready.foldl (fun m w => m ||| (1#16 <<< w)) k.locked
    lockPend := k.lockPend.filter (fun w => !ready.contains w) }

/-- CACHE_FILL_COMPLETE (R465, R466, R468): the line goes to the engines that wait for it, and into its way unless it was invalidated on
the way or the cache is disabled. An engine that waited for a fill hits it. A line of the vault's DRAM is as memory holds it now; `line` and
`poison` stand for one that lies elsewhere. -/
def execCacheFillComplete (c addr : Nat) (line : Line) (poison : Bool) (s : State) : Host.Outcome State Fault Refusal :=
  let ln := addr / 64
  done (match (s.cluster c).fills.find? (fun f => f.line == ln) with
    | none => s
    | some f =>
      let (line, poison) := if s.inDram ln then (s.line ln, s.linePoison ln) else (line, poison)
      let v := (s.cluster c).overlay ln line
      let s := s.modCluster c (fun k => { k with fills := k.fills.eraseP (fun x => x.line == ln) })
      let age := if f.waiters != [] && f.kind == 1 then 0 else fillAge f.kind
      let s := if f.install && s.cacheOn c then
          s.modCluster c (fun k => k.putWay (lineSet ln) f.way { tag := lineTag ln, valid := true, age := age, data := v, poison := poison, prefetched := (f.kind == 1 || f.kind == 3) && f.waiters == [] })
        else s
      (s.modCluster c Cluster.settleLocks).emits (f.waiters.map (fun e => .clusterLoad c e v poison)))

/-! ### Maintenance and locking (R467, R468) -/

/-- Fills in flight that are not to be installed. -/
def Cluster.stopFills (k : Cluster) (p : CFill → Bool) : Cluster :=
  { k with fills := k.fills.map (fun f => if p f then { f with install := false } else f) }

/-- INVALIDATE_LINE (R468). -/
def execInvalidateLine (c addr : Nat) (s : State) : Host.Outcome State Fault Refusal :=
  done (s.modCluster c (fun k => ((k.dropLine (addr / 64)).stopFills (fun f => f.line == addr / 64)).settleLocks))

/-- INVALIDATE_ALL (R468): every unlocked way. -/
def execInvalidateAll (c : Nat) (s : State) : Host.Outcome State Fault Refusal :=
  done (s.modCluster c (fun k =>
    ((k.mapWays (fun w x => if k.locked.getLsbD w then x else { x with valid := false })).stopFills (fun _ => true)).settleLocks))

/-- INVALIDATE_ALL_LOCKED (R468): every way; locks stay. -/
def execInvalidateAllLocked (c : Nat) (s : State) : Host.Outcome State Fault Refusal :=
  done (s.modCluster c (fun k => ((k.mapWays (fun _ x => { x with valid := false })).stopFills (fun _ => true)).settleLocks))

/-- DRAIN (R468, R464). -/
def execDrain (c : Nat) (s : State) : Host.Outcome State Fault Refusal := done (s.drainAll c)

/-- LOCK_FILL (R468): a line fetched into a locked way; a fill of it in flight becomes the lock-fill. Into a way that is not locked it
does nothing: DESIGN CHOICE, log entry 42. -/
def execLockFill (c way addr : Nat) (s : State) : Host.Outcome State Fault Refusal :=
  let ln := addr / 64
  let k := s.cluster c
  done (
    if !k.locked.getLsbD way || !s.cacheOn c then s
    else
      let s := match k.find ln with
        | some (w, _) => if k.locked.getLsbD w then s else s.modCluster c (fun k => k.dropLine ln)
        | none => s
      if (s.cluster c).fills.any (fun f => f.line == ln) then
        s.modCluster c (fun k => ({ k with fills := k.fills.map (fun f => if f.line = ln then { f with kind := 4, way := way, install := true } else f) } : Cluster).settleLocks)
      else
        (s.modCluster c (fun k => { k with fills := k.fills ++ [{ line := ln, kind := 4, way := way }] })).fetchLine c ln)

/-- LOCK_WAY (R467, R468): refused where fewer than 4 ways would stay unlocked; after the fills on their way to it. -/
def execLockWay (c way : Nat) (s : State) : Host.Outcome State Fault Refusal :=
  let k := s.cluster c
  let held := ((List.range 16).filter (fun w => k.locked.getLsbD w || k.lockPend.contains w || w == way)).length
  done (if 12 < held ∨ k.locked.getLsbD way then s
    else s.modCluster c (fun k => ({ k with lockPend := addSet way k.lockPend } : Cluster).settleLocks))

/-- UNLOCK_WAY (R467, R468): its lines enter replacement at age 3. -/
def execUnlockWay (c way : Nat) (s : State) : Host.Outcome State Fault Refusal :=
  done (s.modCluster c (fun k =>
    let was := k.locked.getLsbD way
    let k : Cluster := { k with locked := k.locked &&& ~~~ (1#16 <<< way), lockPend := delSet way k.lockPend }
    if was then k.mapWays (fun w x => if w = way then { x with age := 3 } else x) else k))

/-! ### Disabling the cache (R469) -/

/-- CACHE_DISABLE (R469): fills stop, the merging buffer drains, and every access is served uncached. -/
def execCacheDisable (rq : Req) (tag c : Nat) (s : State) : Host.Outcome State Fault Refusal :=
  done (s.writeNum rq tag (0x3810 + c) 2 1 0 (fun s => ((s.setSetting (0x3810 + c) 2 0).drainAll c, St.ok)))

/-- CACHE_ENABLE (R469): every way is invalidated and every lock cleared, and only then the cache serves. -/
def execCacheEnable (rq : Req) (tag c : Nat) (s : State) : Host.Outcome State Fault Refusal :=
  done (s.writeNum rq tag (0x3810 + c) 2 1 1 (fun s =>
    ((s.modCluster c (fun k => ({ k with sets := [], locked := 0, lockPend := [] } : Cluster).stopFills (fun _ => true))).setSetting (0x3810 + c) 2 1, St.ok)))

end Sys2Proof.Machine
end

