-- ==== Sys2Proof/Machine/PlaceOps.lean ====
section
/-! DEFINITION. Placement's shared operations: the directory entry's state machine (R174), hints and groups (R190, R191), a
migration at its source and its destination (R179 to R185), read copies (R186 to R189), the decision rule (R163, R167) and the
start of queued actions (R168, R193). -/

namespace Sys2Proof.Machine

/-- The heat entry of a slot. -/
def State.heatOf (s : State) (slot : Nat) : Heat := getD s.place.heat slot {}

/-- The heat entry of a slot changed. -/
def State.modHeat (s : State) (slot : Nat) (f : Heat → Heat) : State :=
  (s.heatTouch slot).modPlace (fun p => { p with heat := modD p.heat slot {} f })

/-! ### The directory entry (R174, R544) -/

/-- A move request at the directory (R174): granted where the entry is Homed, not pinned and past its cooldown, or an evacuation;
no move names an absent vault (R197). The answer is its status and the entry's generation. -/
def State.dirMove (s : State) (key src dst : Nat) (evac : Bool) : State × Nat × Nat :=
  let d := s.dirEnt key
  if d.state = 3 ∧ d.dst = dst then (s, St.ok, d.gen)
  else if d.state = 2 ∧ d.home = src ∧ (evac ∨ (!d.pinned ∧ !s.coolingNow d)) ∧ s.vaultPresent dst then
    (s.modDir key (fun d => { d with state := 3, dst := dst, since := s.now }), St.ok, d.gen)
  else (s, St.busy, d.gen)

/-- A release at the directory (R174): the entry goes, its hints stay; while it is Allocating, Moving or Copying it waits. -/
def State.dirRelease (s : State) (key : Nat) : State :=
  let d := s.dirEnt key
  if d.state = 0 then s
  else if d.state = 2 then
    s.modDir key (fun d => { attract := d.attract, pinned := d.pinned, noCopies := d.noCopies, group := d.group })
  else s.modDir key (fun d => { d with pendRelease := true })

/-- What waited for the entry to be Homed: its release (R174), or its waiting requests. -/
def State.dirHomed (s : State) (key : Nat) : State :=
  if (s.dirEnt key).pendRelease then (s.modDir key (fun d => { d with pendRelease := false })).dirRelease key
  else s.releaseWaits key

/-- The cooldown end of a commit now (R544): whole seconds of pool time, rounded up, modulo 65,536. -/
def State.coolEndNow (s : State) : Nat := ceilDiv (s.poolTime + s.setting 0x3210 0x0B) 1000000000 % 65536

/-- A commit at the directory (R174, R544), of the destination it granted; an entry that came by a map transfer names none (R346). Home, slot, previous home, the next generation, the cooldown. -/
def State.dirCommit (s : State) (key v slot gen src : Nat) : State :=
  let d := s.dirEnt key
  if d.state = 3 ∧ (d.dst = v ∨ d.dst = 0xFFFF) then
    let s := s.modDir key (fun d => { d with
      state := 2
      home := v
      slot := slot
      gen := gen
      prev := src
      cooling := true
      coolEnd := s.coolEndNow
      dst := 0xFFFF
      copies := d.copies.filter (· != v) })
    let s := s.modPlace (fun p => { p with cooling := addSet key p.cooling })
    (s.tellHome key).dirHomed key
  else s

/-- An abort at the directory (R174): of a move or of a copy. -/
def State.dirAbort (s : State) (key : Nat) : State :=
  if (s.dirEnt key).state = 3 ∨ (s.dirEnt key).state = 4 then
    (s.modDir key (fun d => { d with state := 2, dst := 0xFFFF })).dirHomed key
  else s

/-- A copy request at the directory (R174): granted where the entry is Homed, copies are not forbidden and fewer than the most;
no copy names an absent vault (R197). -/
def State.dirCopy (s : State) (key c : Nat) : State × Nat :=
  let d := s.dirEnt key
  if d.state = 4 ∧ d.dst = c then (s, St.ok)
  else if d.state = 2 ∧ !d.noCopies ∧ d.copies.length < s.setting 0x3210 0x0A ∧ !d.copies.contains c ∧ s.vaultPresent c then
    (s.modDir key (fun d => { d with state := 4, dst := c, since := s.now }), St.ok)
  else (s, St.busy)

/-- A copy registered at the directory (R174). -/
def State.dirCopyDone (s : State) (key c : Nat) : State :=
  if (s.dirEnt key).state = 4 ∧ ((s.dirEnt key).dst = c ∨ (s.dirEnt key).dst = 0xFFFF) then
    (s.modDir key (fun d => { d with state := 2, dst := 0xFFFF, copies := addSet c d.copies })).dirHomed key
  else s

/-- A copy dropped at the directory (R174), while the entry is Homed; in another state the notice is refused with BUSY. -/
def State.dirCopyDrop (s : State) (key c : Nat) : State × Nat :=
  let d := s.dirEnt key
  if !d.copies.contains c then (s, St.ok)
  else if d.state = 2 then (s.modDir key (fun d => { d with copies := d.copies.filter (· != c) }), St.ok)
  else (s, St.busy)

/-- The directory vault told that a vault holds no copy of a key any more (R189). At the directory the home is told too, since the copy's vault may not
know where the extent has moved to. A notice refused is sent again at the next epoch end (R174). -/
def State.noteDrop (s : State) (key c : Nat) : State :=
  if s.ownDir key then
    match s.dirCopyDrop key c with
    | (s, st) =>
      if st ≠ St.ok then s.modPlace (fun p => { p with dropLate := p.dropLate.filter (· != (key, c)) ++ [(key, c)] })
      else if (s.dirEnt key).home = s.vault ∨ (s.dirEnt key).home = 0xFFFF then s
      else s.tell (s.dirEnt key).home 11 { key := key, vault := c }
  else s.tell (s.dirVault key) 11 { key := key, vault := c }

/-- Cooling cleared in every listed entry that the test holds for (R544); the homes are told. -/
def State.endCooling (s : State) (test : DirEnt → Bool) : State :=
  let gone := s.place.cooling.filter (fun k => test (s.dirEnt k))
  let s := gone.foldl (fun s k => (s.modDir k (fun d => { d with cooling := false, coolEnd := 0 })).tellHome k) s
  s.modPlace (fun p => { p with cooling := p.cooling.filter (fun k => !gone.contains k) })

/-- Cooling cleared in every listed entry whose cooldown is over (R544). -/
def State.clearCooling (s : State) : State := s.endCooling (fun d => !s.coolingNow d)

/-! ### Read copies (R186, R188, R189) -/

/-- A copy of an extent homed here as the metadata area keeps it. -/
def CopyOut.rec_ (c : CopyOut) : CopyRec := { key := c.key, vault := c.vault, slot := c.slot, live := c.live }

/-- A copy of an extent homed here changed. -/
def State.modCopyOut (s : State) (key v : Nat) (f : CopyOut → CopyOut) : State :=
  let s := s.modPlace (fun p => { p with copyOuts := p.copyOuts.map (fun c => if c.key = key ∧ c.vault = v then f c else c) })
  match s.place.copyOuts.find? (fun c => c.key == key && c.vault == v) with
  | some c => s.metaSend (.copy c.rec_)
  | none => s

/-- A copy that its home holds no longer in its list (R189): its invalidations are owed no more, and the writes that waited for them complete. -/
def State.loseCopyOut (s : State) (key v : Nat) : State :=
  if s.place.copyOuts.any (fun c => c.key == key && c.vault == v) then
    (s.modPlace (fun p => { p with
      copyOuts := p.copyOuts.filter (fun c => !(c.key == key && c.vault == v))
      invals := p.invals.filter (fun i => !(i.key == key && i.vault == v)) })).metaSend (.copyGone key v)
  else s

/-- A copy's creation ends before it serves (R186): source 144, and the directory and the copy vault are told. -/
def State.abortCopy (s : State) (c : CopyOut) (cause : Nat) : State :=
  let s := (s.loseCopyOut c.key c.vault).raise 144 1 (leBytes 5 c.key ++ leBytes 2 s.vault ++ leBytes 2 c.vault ++ leBytes 1 c.phase ++ leBytes 1 cause)
  let s := if 1 ≤ c.phase then s.tell c.vault 7 { key := c.key, vault := c.vault, slot := c.slot, a := c.phase, b := cause } else s
  let s := if s.ownDir c.key then s.dirAbort c.key else s.tell (s.dirVault c.key) 7 { key := c.key, vault := c.vault, a := c.phase, b := cause }
  s.completeWrites

/-- The home drops the copies of a key (R189): each vault is told, and stays on the list with its invalidations owed until its drop notice comes
or its lease and guard have passed (R188); a copy not yet served ends with its creation. -/
def State.dropCopiesOf (s : State) (key : Nat) : State :=
  (s.place.copyOuts.filter (fun c => c.key == key && !c.dropping)).foldl (fun s c =>
    if c.phase < 3 then s.abortCopy c 5
    else (s.modCopyOut key c.vault (fun c => { c with dropping := true })).tell c.vault 11 { key := key, vault := c.vault, slot := c.slot }) s

/-- A copy held here dropped (R189): it stops serving, its slot is released, and its home and the directory are told. -/
def State.dropCopyHere (s : State) (c : CopyIn) : State :=
  let s := s.modPlace (fun p => { p with copyIns := p.copyIns.filter (fun x => x.slot != c.slot) })
  let s := (s.releaseSlot c.slot).count 390 1
  (s.tell c.home 11 { key := c.key, vault := s.vault, slot := c.slot }).noteDrop c.key s.vault

/-- The read copy held here with the lowest read heat (R179). -/
def State.coldestCopy (s : State) : Option CopyIn :=
  let h := fun (c : CopyIn) => (s.heatOf c.slot).rd
  s.place.copyIns.find? (fun c => h c == minOf (s.place.copyIns.map h) (h c))

/-- Copy space made for one more extent: read copies go, lowest read heat first (R36, R179); `fuel` at most. -/
def State.makeCopyRoom (s : State) (fuel : Nat) : State :=
  match fuel with
  | 0 => s
  | fuel + 1 =>
    if s.copyUsed < s.copyRoom then s
    else match s.coldestCopy with
      | some c => (s.dropCopyHere c).makeCopyRoom fuel
      | none => s

/-! ### Hints and groups (R190, R191) -/

/-- The hints of an extent homed here as its directory vault told them. -/
def State.keepHints (s : State) (key : Nat) (m : PMsg) : State :=
  let e : MapEnt := { (({} : DirEnt).hinted m).image key with gen := m.gen }
  (s.modPlace (fun p => { p with hints := insertKey key e p.hints })).metaSend (.hints e)

/-- The hints of an extent that is homed here no longer. -/
def State.loseHints (s : State) (key : Nat) : State :=
  if (assoc s.place.hints key).isSome then (s.modPlace (fun p => { p with hints := eraseKey key p.hints })).metaSend (.hintsGone key) else s

/-- The fields of a key's entry that a home decides by (R167): the directory's own where this vault is the key's directory vault, else those it was
told. -/
def State.homeFields (s : State) (key : Nat) : DirEnt :=
  if s.dirVault key = s.vault then s.dirEnt key
  else match assoc s.place.hints key with
    | some e => ({} : DirEnt).take e
    | none => {}

/-- The anchor of a group where it is to hand: in its record, or learned in this epoch (log entry 110). Group 0 has none. -/
def State.anchorOf (s : State) (g : Nat) : Option Nat :=
  if g = 0 then some 0xFFFF
  else if s.dirVault (groupKey g) = s.vault then some (s.dirEnt (groupKey g)).home
  else assoc s.place.anchors g

/-- A member leaves a group, at the directory vault of the group. -/
def State.groupLeave (s : State) (g : Nat) : State := s.modDir (groupKey g) (fun d => { d with slot := d.slot - 1 })

/-- A member joins a group, at the directory vault of the group (R191): an extent already homed sets the anchor where there is none. The status is
BUSY where the record is new and the section full (R173). -/
def State.groupJoin (s : State) (g home : Nat) : State × Nat :=
  let d := s.dirEnt (groupKey g)
  if d = {} ∧ !s.dirRoom then (s.raise 148 0 (leBytes 5 (groupKey g) ++ leBytes 1 St.busy), St.busy)
  else (s.modDir (groupKey g) (fun d => { d with slot := d.slot + 1, home := if d.home = 0xFFFF then home else d.home }), St.ok)

/-- The group an extent belongs to, left (R190). -/
def State.leaveGroup (s : State) (key : Nat) : State :=
  let g := (s.dirEnt key).group
  if g = 0 then s
  else
    let s := s.modDir key (fun d => { d with group := 0 })
    if s.dirVault (groupKey g) = s.vault then s.groupLeave g else s.tell (s.dirVault (groupKey g)) 14 { key := groupKey g, vault := 0xFFFF, b := 3 }

/-- A group hint recorded once its group has taken the member. -/
def State.joined (s : State) (key g : Nat) : State := ((s.leaveGroup key).modDir key (fun d => { d with group := g })).tellHome key

/-- The number under which a PLACE piece waits for its group's answer. -/
def joinNum (key : Nat) : Nat := 2 ^ 48 + key

/-- One hint of PLACE at the directory vault of its extent (R144, R190), with its status: BUSY where the entry is new and the
section is full (R173), none while the group's directory vault is asked to take the member (log entry 110). `dev`: the vault of the ring's device. -/
def State.placeHint (s : State) (key kind group dev : Nat) : State × Option Nat :=
  let d := s.dirEnt key
  let set := fun (f : DirEnt → DirEnt) => ((s.modDir key f).tellHome key, some St.ok)
  if kind ≠ 0 ∧ d = {} ∧ !s.dirRoom then (s.raise 148 0 (leBytes 5 key ++ leBytes 1 St.busy), some St.busy)
  else if kind = 0 then
    (((s.leaveGroup key).modDir key (fun d => { d with attract := 0xFFFF, pinned := false, noCopies := false })).tellHome key, some St.ok)
  else if kind = 1 then set (fun d => { d with attract := dev })
  else if kind = 2 then set (fun d => { d with pinned := true })
  else if kind = 3 then
    let s := (s.modDir key (fun d => { d with noCopies := true })).tellHome key
    if 2 ≤ d.state ∧ d.home = s.vault then (s.dropCopiesOf key, some St.ok)
    else if 2 ≤ d.state ∧ d.copies ≠ [] then (s.tell d.home 11 { key := key, vault := 0xFFFF }, some St.ok)
    else (s, some St.ok)
  else if group = 0 then ((s.leaveGroup key).tellHome key, some St.ok)
  else if group = d.group then (s, some St.ok)
  else
    let home := if 2 ≤ d.state then d.home else 0xFFFF
    if s.dirVault (groupKey group) = s.vault then
      match s.groupJoin group home with
      | (s, st) => (if st = St.ok then s.joined key group else s, some st)
    else (s.tell (s.dirVault (groupKey group)) 14 { key := groupKey group, vault := home, b := 2, list := [(key, 0)] }, none)

/-- A granule sent whole under one sequence number on its stream (R274, R422). -/
def State.sendGranule (s : State) (g : Nat) (sync : Bool) : State :=
  let slot := g / 512
  let seq := s.persist.seq + 1
  let off := g % 512 * granuleBytes
  let s := s.modPersist (fun p => { p with seq := seq })
  let r : Run := { first := seq, slot := slot, line := g % 512 * 64, oneSeq := true, lines := s.readLines slot off 64, poison := s.readPoison slot off 64 }
  ((s.askRead slot 0x10 6 64).mirrorRun slot seq r sync).syncHorizon

/-! ### A migration at its source (R179 to R184) -/

/-- A migration out changed. -/
def State.modMig (s : State) (key : Nat) (f : Mig → Mig) : State :=
  s.modPlace (fun p => { p with migs := p.migs.map (fun m => if m.key = key then f m else m) })

/-- The migration out of a key. -/
def State.migOf (s : State) (key : Nat) : Option Mig := s.place.migs.find? (fun m => m.key == key)

/-- A migration out as the metadata area keeps it. -/
def Mig.rec_ (m : Mig) : MoveRec where
  key := m.key
  slot := m.slot
  dst := m.dst
  dslot := m.dslot
  gen := m.gen
  phase := m.phase
  evac := m.evac
  heat := m.heat
  copies := m.copies

/-- The twin told how far a migration has come (R181, R194). -/
def State.mirrorMig (s : State) (key : Nat) : State :=
  match s.migOf key with
  | some m => s.metaSend (.move m.rec_)
  | none => s

/-- A migration out that is over. -/
def State.endMig (s : State) (key : Nat) : State :=
  (s.modPlace (fun p => { p with migs := p.migs.filter (fun x => x.key != key) })).metaSend (.moveGone key)

/-- A CHUNK frame of 32 lines of a slot (R180, R186). -/
def State.chunkBody (s : State) (key kind src dslot line pass : Nat) : FBody :=
  .chunk { key := key, kind := kind, slot := dslot, line := line, count := 32, pass := pass }
    (s.readLines src (64 * line) 32) (s.readPoison src (64 * line) 32)

/-- The CHUNK frames of granules of a slot, two a granule, in address order. -/
def State.chunkGrans (s : State) (key kind src dslot pass : Nat) (gs : List Nat) : List FBody :=
  gs.flatMap (fun g => [s.chunkBody key kind src dslot (64 * g) pass, s.chunkBody key kind src dslot (64 * g + 32) pass])

/-- A granule of DRAM copied onto another, poison with it. -/
def State.copyGran (s : State) (src dst : Nat) : State :=
  let bad := (s.granPoison src).map (fun x => x - granLine src + granLine dst)
  (s.modMem (Memory.copy · (granuleBytes * src) (granuleBytes * dst) granuleBytes)).modEcc (fun e =>
    { e with poisoned := bad.foldl (fun l x => addSet x l) (e.poisoned.filter (fun x => lineGran x != dst)) })

/-- Whether a migration is a relocation within the vault (R397). -/
def State.isReloc (s : State) (m : Mig) : Bool := m.dst == s.vault

/-- Whether every granule of a migration is where it goes: its chunks are acknowledged (R181), or the standby holds the mirror records of
a relocation (R397). -/
def State.granOver (s : State) (m : Mig) : Bool :=
  if s.isReloc m then !s.persist.unacked.any (fun r => r.run.slot == m.dslot) else m.unacked == 0

/-- Granules of a migrating extent sent (R180): their move-dirty bits clear as they are read. A relocation copies them within DRAM and
mirrors each under one sequence number (R397). -/
def State.sendGrans (s : State) (m : Mig) (gs : List Nat) : State :=
  let s := s.modMig m.key (fun x => { x with
    moved := x.moved.filter (fun g => !gs.contains g)
    unacked := x.unacked + (if s.isReloc m then 0 else 64 * gs.length)
    pass := x.pass + (if m.phase = 2 then 1 else 0) })
  if s.isReloc m then gs.foldl (fun s g =>
    (((s.askRead m.slot 0x18 6 64).askWrite m.dslot 0x18 6 64).copyGran (slotGran m.slot g) (slotGran m.dslot g)).sendGranule (slotGran m.dslot g) false) s
  else
  let s := (s.askRead m.slot 0x18 4 (64 * gs.length)).ask 24 0x18 4 gs.length
  (s.sendList (s.activeOf m.dst) (s.chunkGrans m.key 0 m.slot m.dslot (m.pass + 1) gs)).count 387 gs.length

/-- Requests held by a freeze are let go: to the new home after a commit, or served here after an abort (R181, R184). Any other request of the key that
waits here, for its channel, for a restore, at the ceiling or for a repair, is answered by R176 anew. -/
def State.releaseFrozen (s : State) (key : Nat) : State :=
  let mine := fun (h : HReq) => h.key == key
  let hs := s.persist.waitAdmit.filter mine ++ s.persist.restoreHold.filter mine ++ s.dram.waiting.filter mine ++
    (s.ecc.repairs.flatMap Repair.waiters).filter mine ++ s.place.frozenReqs.filter mine
  let s := s.modPersist (fun p => { p with waitAdmit := p.waitAdmit.filter (fun h => !mine h), restoreHold := p.restoreHold.filter (fun h => !mine h) })
  let s := s.modDram (fun d => { d with waiting := d.waiting.filter (fun h => !mine h) })
  let s := s.modEcc (fun e => { e with repairs := e.repairs.map (fun r => { r with waiters := r.waiters.filter (fun h => !mine h) }) })
  ((s.modPlace (fun p => { p with frozenReqs := p.frozenReqs.filter (fun h => !mine h) })).resume hs).resumePieces key

/-- A migration aborted before its commit (R184): the freeze ends, held requests are served, destination and directory are
told, source 144. A commit record that the twin did not acknowledge in time goes with its tombstone (R182). -/
def State.abortMig (s : State) (m : Mig) (cause : Nat) : State :=
  let s := s.endMig m.key
  let s := if m.phase = 5 then s.dropTomb m.key else s
  let s := (s.count 386 1).raise 144 0 (leBytes 5 m.key ++ leBytes 2 s.vault ++ leBytes 2 m.dst ++ leBytes 1 m.phase ++ leBytes 1 cause)
  let s := if m.phase = 3 ∨ m.phase = 5 then s.count 388 ((s.now - m.frozen) / 125) else s
  let msg : PMsg := { key := m.key, vault := m.dst, slot := m.dslot, gen := m.gen, a := m.phase, b := cause }
  let s := if m.phase = 0 then s else if s.isReloc m then s.releaseSlot m.dslot else s.tell m.dst 7 msg
  let s := if s.ownDir m.key then s.dirAbort m.key
    else if s.dirVault m.key = m.dst ∧ m.phase ≠ 0 then s else s.tell (s.dirVault m.key) 7 msg
  s.releaseFrozen m.key

/-- A tombstone's place (R177): the table has room, or its acknowledged tombstone nearest its expiry goes, source 149. -/
def State.tombRoom (s : State) : Option State :=
  if s.place.tombs.length < 65536 then some s
  else
    let acked := s.place.tombs.filter Tomb.acked
    match acked.find? (fun t => t.expires == minOf (acked.map Tomb.expires) t.expires) with
    | some t => some ((s.dropTomb t.key).raise 149 0 (leBytes 5 t.key ++ leBytes 8 (s.now + s.setting 0x3220 0x0C - t.expires)))
    | none => none

/-- A source slot whose move the directory has acknowledged (R183, R185): released, but its home-store granules are kept until
the destination's vault has written the extent. -/
def State.keepSource (s : State) (key slot : Nat) : State :=
  let s := s.releaseSlot slot
  if s.driveCount = 0 then s else s.takeSlot slot (.kept key)

/-- The granules kept for an extent are free once its new home has written them all (R185). -/
def State.freeKept (s : State) (key : Nat) : State :=
  ((s.place.slots.filter (fun e => e.2 == .kept key)).map Prod.fst).foldl (fun s k => s.setUse k none) s

/-- The commit of a move acknowledged by the destination or the directory (R177, R181, R183): at the directory's the tombstone's
life starts, as long as 0x3220:0C says then, and the source slot is released; with both the move is over. -/
def State.commitAcked (s : State) (key : Nat) (dst dir : Bool) : State :=
  match s.migOf key with
  | none => s
  | some m =>
    if m.phase ≠ 4 then s
    else
      let s := if dir ∧ !m.ackDir then
          let s := s.place.tombs.foldl (fun s (t : Tomb) =>
            if t.key = key then s.putTomb { t with acked := true, expires := s.now + s.setting 0x3220 0x0C } else s) s
          s.keepSource key m.slot
        else s
      let s := s.modMig key (fun x => { x with ackDst := x.ackDst || dst, ackDir := x.ackDir || dir })
      match s.migOf key with
      | some m => if m.ackDst && m.ackDir then s.endMig key else s
      | none => s

/-- The commit as destination and directory are sent it (R181). -/
def commitMsg (m : Mig) : PMsg :=
  { key := m.key, vault := m.dst, slot := m.dslot, gen := (m.gen + 1) % 256, a := m.slot, heat := m.heat, list := m.copies }

/-- The commit sent to each of destination and directory vault that has not acknowledged it (R181). It is sent again at every epoch end and when
a claim changes either vault's active device (DESIGN CHOICE, log entry 111: the rule gives no interval). -/
def State.sendCommit (s : State) (m : Mig) : State :=
  let s := if m.ackDst then s else s.tell m.dst 5 (commitMsg m)
  if m.ackDir then s
  else if s.ownDir m.key then (s.dirCommit m.key m.dst m.dslot ((m.gen + 1) % 256) s.vault).commitAcked m.key false true
  else if s.dirVault m.key = m.dst ∧ m.dst ≠ s.vault then s
  else s.tell (s.dirVault m.key) 5 (commitMsg m)

/-- Step 4 of the freeze (R181): the commit record and the tombstone are written and go to the twin. -/
def State.writeCommit (s : State) (m : Mig) : State :=
  match s.tombRoom with
  | none => s
  | some s =>
    let copies := (s.place.copyOuts.filter (fun c => c.key == m.key && c.live && !c.dropping && c.vault != m.dst)).map (fun c => (c.vault, c.slot))
    let s := s.putTomb { key := m.key, vault := m.dst, slot := m.dslot, gen := (m.gen + 1) % 256 }
    let s := s.modMig m.key (fun x => { x with phase := 5, heat := { s.heatOf m.slot with queued := false }, copies := copies })
    let s := s.metaSend (.move { { m with heat := s.heatOf m.slot, copies := copies }.rec_ with phase := 4 })
    s.modMig m.key (fun x => { x with cseq := s.persist.seq })

/-- What leaves the source with the commit (R183): the slot homes nothing, and its heat, dirty bits, copies and merge entries go. -/
def State.leaveSlot (s : State) (m : Mig) : State :=
  let s := s.modPlace (fun p => { p with heat := eraseKey m.slot p.heat, heatCache := delSet m.slot p.heatCache, cand := p.cand.filter (· != m.slot) })
  let s := s.modPersist (fun p => { p with
    dirty := p.dirty.filter (fun g => g / 512 != m.slot)
    fresh := p.fresh.filter (fun g => g / 512 != m.slot) })
  let s := s.modEcc (fun e => { e with merge := e.merge.filter (fun x => lineSlot x != m.slot) })
  s.takeSlot m.slot .filling

/-- The commit of a migration, once its record is held at both devices (R181 step 5, R183): the freeze ends, the commit goes out, and requests
learn of the new home. -/
def State.commitMig (s : State) (m : Mig) : State :=
  let gen := (m.gen + 1) % 256
  let s := s.leaveSlot m
  let s := (s.place.copyOuts.filter (fun c => c.key == m.key)).foldl (fun s c => s.metaSend (.copyGone m.key c.vault)) s
  let s := (s.modPlace (fun p => { p with copyOuts := p.copyOuts.filter (fun c => c.key != m.key) })).loseHints m.key
  let s := s.modMig m.key (fun x => { x with phase := 4 })
  let s := ((s.count 384 1).count 388 ((s.now - m.frozen) / 125)).tcacheFill m.key m.dst m.dslot gen
  ((s.sendCommit { m with phase := 4 }).releaseFrozen m.key).afterClean

/-- The commit of a relocation (R397, R181): as a migration's, with the extent served at its new slot from now on. Its poison list
entries and the writes that wait for its home write move with it; its granules are dirty, and its arrival record names the old slot. -/
def State.commitReloc (s : State) (m : Mig) : State :=
  let gen := (m.gen + 1) % 256
  let grans := (List.range 512).map (slotGran m.dslot)
  let there := fun (g : Nat) => if g / 512 = m.slot then slotGran m.dslot (g % 512) else g
  let urgent := s.persist.urgent
  let s := (s.leaveSlot m).takeSlot m.dslot (.home m.key)
  let s := s.modPlace (fun p => { p with heat := insertKey m.dslot m.heat p.heat })
  let s := s.modMig m.key (fun x => { x with phase := 4, ackDst := true })
  let s := s.modPersist (fun p => { p with
    dirty := grans.foldl (fun l g => addSet g l) p.dirty
    lastSeq := grans.foldl (fun l g => insertKey g p.seq l) p.lastSeq
    writes := p.writes.map (fun w => { w with gran := there w.gran })
    urgent := urgent.foldl (fun l g => addSet (there g) l) [] })
  let s := s.putArrival { slot := m.dslot, key := m.key, src := s.vault, sslot := m.slot }
  let s := (s.ecc.list.filter (fun x => lineSlot x.line == m.slot)).foldl (fun s x =>
    ((s.modEcc (fun e => { e with list := e.list.map (fun y => if y = x then { x with line := slotLine m.dslot 0 + x.line % 32768 } else y) })).metaSend
      (.poisonGone x.line x.span)).metaSend (.poison { x with line := slotLine m.dslot 0 + x.line % 32768 })) s
  let s := (((s.count 384 1).count 385 1).count 388 ((s.now - m.frozen) / 125)).tcacheFill m.key s.vault m.dslot gen
  ((s.sendCommit { m with phase := 4, ackDst := true }).releaseFrozen m.key).throttleCheck

/-- Whether requests that this home has accepted for a slot are still to be applied, or not yet twin-safe (R181 step 2). -/
def State.slotUnsettled (s : State) (slot key : Nat) : Bool :=
  let mine := fun (h : HReq) => h.write && h.key == key && h.slot == slot
  s.persist.writes.any (fun w => w.gran / 512 == slot && !s.twinSafe w.seq) || s.persist.waitAdmit.any mine || s.persist.restoreHold.any mine ||
    s.dram.waiting.any mine || s.ecc.repairs.any (fun r => r.waiters.any mine)

/-- The freeze of a migration as far as it comes (R181): once every accepted write is twin-safe the last granules go; once
they are acknowledged the commit record is written, and once the twin holds it the move is committed. -/
def State.freezeStep (s : State) (m : Mig) : State :=
  let commit := fun (s : State) (m : Mig) => if !s.twinSafe m.cseq then s else if s.isReloc m then s.commitReloc m else s.commitMig m
  if m.phase = 5 then commit s m
  else if s.slotUnsettled m.slot m.key then s
  else if m.moved ≠ [] then s.sendGrans m m.moved
  else if !s.granOver m then s
  else
    let s := s.writeCommit m
    match s.migOf m.key with
    | some m => if m.phase = 5 then commit s m else s
    | none => s

/-- Whether class 2 writes of a slot wait for a home write. They complete before the freeze, since the commit drops the dirty bits that their home
writes clear (R158 item 1, R183; DEDUCED, log entry 112). -/
def State.homeWaits (s : State) (slot : Nat) : Bool := s.persist.writes.any (fun w => w.gran / 512 == slot && w.needHome && !w.homeOk)

/-- The copy passes of a migration as far as they come (R180, R181): a further pass, the freeze, or an abort once the passes
have run out. A pool persist point keeps a migration out of its freeze (R196), and so does a table of tombstones with none to
expire (R177). -/
def State.migStep (s : State) (key : Nat) : State :=
  match s.migOf key with
  | none => s
  | some m =>
    if m.phase = 3 ∨ m.phase = 5 then s.freezeStep m
    else if m.phase ≠ 2 ∨ !s.granOver m then s
    else if m.moved.length ≤ s.setting 0x3220 5 ∧ s.persist.point.isSome then s
    else if m.moved.length ≤ s.setting 0x3220 5 ∧ s.tombRoom.isSome ∧ !s.homeWaits m.slot then
      let s := (s.modMig key (fun x => { x with phase := 3, frozen := s.now })).mirrorMig key
      match s.migOf key with
      | some m => s.freezeStep m
      | none => s
    else if s.setting 0x3220 6 ≤ m.pass then s.abortMig m 1
    else if m.moved = [] then s
    else s.sendGrans m m.moved

/-- The copy passes after a point has ended here (R196): a migration with nothing to send sends one granule more, whose acknowledgement tells that
the point has ended at the destination too (DESIGN CHOICE, log entry 114). -/
def State.passesAfterPoint (s : State) : State :=
  (s.place.migs.filter (fun m => m.phase == 2)).foldl (fun s m =>
    if s.granOver m && m.moved == [] && !s.isReloc m then s.sendGrans { m with phase := 6 } [0] else s.migStep m.key) s

/-- Every migration out goes on as far as it comes. -/
def State.pumpMigs (s : State) : State := (s.place.migs.filter (fun m => m.phase != 4)).foldl (fun s m => s.migStep m.key) s

/-- A pass with no granule to send ends with the epoch (R177, R180). -/
def State.emptyPasses (s : State) : State :=
  (s.modPlace (fun p => { p with migs := p.migs.map (fun m =>
    if m.phase = 2 ∧ s.granOver m ∧ m.moved = [] then { m with pass := m.pass + 1 } else m) })).pumpMigs

/-- Whether a slot's channel is Offline (R395, R398). -/
def State.slotOffline (s : State) (slot : Nat) : Bool := (s.chan (slotChan slot)).state == 6

/-- The first reads of a relocation from an Offline channel (R395, R398): every line's source is the home store. Granules that were
dirty or not yet home-safe, or that no home store holds, are poisoned; the others are restored into their new slot. -/
def State.relocHome (s : State) (m : Mig) : State :=
  let bad := (List.range 512).filter (fun g => !s.hasHome || s.persist.dirty.contains (slotGran m.slot g) || s.homeBusy (slotGran m.slot g))
  let s := bad.foldl (fun s g => (s.poisonLines (granLine (slotGran m.dslot g)) 64).poisonEnterSpan (granLine (slotGran m.dslot g)) 6 1) s
  let good := ((List.range 512).filter (fun g => !bad.contains g)).map (slotGran m.dslot)
  s.modPersist (fun p => { p with restoring := good.foldl (fun l g => addSet g l) p.restoring })

/-- The arrival record by which a granule does not yet stand in its own home location (R223, R241). -/
def State.arrivalOf (s : State) (g : Nat) : Option Arrival := s.persist.arrivals.find? (fun a => a.slot == g / 512 && !a.written.testBit (g % 512))

/-- The granule of this vault's home store that holds a granule's bytes: of its old slot while a relocation has not written it (R213, R397). -/
def State.homeGran (s : State) (g : Nat) : Nat :=
  match s.arrivalOf g with
  | some a => if a.src = s.vault then slotGran a.sslot (g % 512) else g
  | none => g

/-- Whether this device may read its home store now: its key is there (R217, R443) and its fence latch is clear (R261). -/
def State.mayReadHome (s : State) : Bool := !s.homeKeyEmpty && s.homeKeyOk && !s.twin.latch

/-- A granule read from a home drive in service, with its counters. -/
def State.readHome (s : State) (g : Nat) : State :=
  match (if s.mayReadHome then (s.drivesOf g).find? s.driveUp else none) with
  | some d => ((((s.ask (20 + d / 4) 0x0E 6 8).emit (.drive d (.read (s.driveLba g)))).count (224 + 8 * d) 1).count (225 + 8 * d) 1).count (227 + 8 * d) granuleBytes
  | none => s

/-- The home drives or the previous home asked for a granule (R213, R241): a granule of a moved extent that its own home store does
not yet hold comes from the previous home. -/
def State.askGranule (s : State) (g : Nat) : State :=
  match (s.arrivalOf g).filter (fun a => a.src != s.vault) with
  | some a =>
    let s := s.modPersist (fun p => { p with restoreWait := p.restoreWait ++ [(g, s.now)] })
    s.send (s.activeOf a.src) (.read { entry := s.pool.number, num := 2 ^ 46 + g, key := a.key, slot := a.sslot, homeStore := true, off := g % 512 * granuleBytes, len := granuleBytes })
  | none => s.readHome (s.homeGran g)

/-- A relocation granted (R397): a free slot on no retiring rank, while the spare reserve has room; copied, or read back from the home
store where its channel is Offline. -/
def State.relocStart (s : State) (key gen : Nat) : State :=
  match s.migOf key, (if s.place.spare.length < spareReserve s.extents (s.setting 0x2010 2) then s.freeSlot else none) with
  | some m, some slot =>
    let s := (s.modPlace (fun p => { p with spare := addSet slot p.spare })).takeSlot slot (.dest key)
    let s := (s.modMig key (fun x => { x with
      phase := if s.slotOffline m.slot then 3 else 2, gen := gen, dslot := slot, moved := [], frozen := s.now, heat := s.heatOf m.slot })).mirrorMig key
    match s.migOf key with
    | some m =>
      if s.slotOffline m.slot then
        let s := (s.relocHome m).commitReloc { m with heat := { m.heat with queued := false } }
        (s.persist.restoring.filter (fun g => g / 512 == slot)).foldl (fun s g => s.askGranule g) s
      else (s.sendGrans m (List.range 512)).migStep key
    | none => s
  | some m, none => s.abortMig m 3
  | none, _ => s

/-- The directory's answer to a move request (R179): a reservation is asked of the destination, or the move is refused and
counted (R168). -/
def State.moveAnswered (s : State) (key status gen : Nat) : State :=
  match s.migOf key with
  | none => s
  | some m =>
    if m.phase ≠ 0 then s
    else if status = St.ok ∧ s.isReloc m then s.relocStart key gen
    else if status = St.ok then
      let s := (s.modMig key (fun x => { x with phase := 1, gen := gen })).mirrorMig key
      s.tell m.dst 3 { key := key, vault := m.dst, gen := gen, a := m.slot, b := m.moved.length }
    else ((s.endMig key).modPlace (fun p => { p with refused := addSet m.slot p.refused })).count 399 1

/-- A move of a homed slot starts (R168, R174): the directory is asked. -/
def State.startMove (s : State) (slot dst : Nat) (evac : Bool) : State :=
  match s.slotUse slot with
  | some (.home key) =>
    if (s.migOf key).isSome then s
    else
      let s := s.modPlace (fun p => { p with
        migs := p.migs ++ [{ key := key, slot := slot, dst := dst, evac := evac, since := s.now }]
        started := p.started + (if dst = s.vault then 0 else 1) })
      let s := s.mirrorMig key
      if s.ownDir key then
        match s.dirMove key s.vault dst evac with
        | (s, st, gen) => s.moveAnswered key st gen
      else s.tell (s.dirVault key) 1 { key := key, vault := s.vault, slot := slot, a := dst, b := b2n evac }
  | _ => s

/-! ### Retirement (R395 to R398) -/

/-- The homed slots on ranks that retire at either device (R396, 0x3510+n:06). -/
def State.displaced (s : State) : List Nat :=
  (s.place.slots.filter (fun e => (match e.2 with | .home _ => true | _ => false) &&
    ((s.rankOf (slotChan e.1) (s.slotRank e.1)).state == 2 || s.twinRank (slotChan e.1) (s.slotRank e.1) == 2))).map Prod.fst

/-- A retiring rank on which no homed slot, copy slot or destination remains is Retired (R396): source 49+2n. -/
def State.rankGone (s : State) (n r : Nat) : State :=
  let left := s.place.slots.any (fun e => slotChan e.1 == n && s.slotRank e.1 == r && (match e.2 with | .kept _ => false | _ => true))
  if (s.rankOf n r).state = 2 ∧ !left then
    ((s.modChan n (fun c => { c with ranks := modD c.ranks r {} (fun x => { x with state := 3 }) })).raise (49 + 2 * n) 2
      (leBytes 4 (s.chan n).episodes ++ leBytes 1 r ++ leBytes 4 (ofInt 32 (s.chan n).temp) ++ leBytes 4 0)).tellRanks n
  else s

/-- Every retiring rank with nothing left is Retired (R396). -/
def State.ranksGone (s : State) : State :=
  (s.dram.chans.flatMap (fun c => c.2.ranks.map (fun r => (c.1, r.1)))).foldl (fun s x => s.rankGone x.1 x.2) s

/-- Relocations of the displaced extents start in ascending order, with 0x3500:12 in progress at most and while the spare reserve has
room; ranks with nothing left are retired (R396, R397). -/
def State.pumpRetire (s : State) : State :=
  let s := if !s.serves then s
    else (s.displaced.filter (fun x => !s.place.migs.any (fun m => m.slot == x))).foldl (fun s x =>
      if (s.place.migs.filter (fun m => s.isReloc m && m.phase != 4)).length < s.setting 0x3500 0x12
          ∧ s.place.spare.length < spareReserve s.extents (s.setting 0x2010 2) then s.startMove x s.vault true
      else s) s
  s.ranksGone

/-! ### A migration at its destination (R179, R183, R184) -/

/-- Whether the dirty admission test refuses a migration (R179). -/
def State.dirtyFull (s : State) : Bool := s.enforced && decide (s.ceiling * s.setting 0x3220 8 / 64 < s.dirtySet)

/-- A slot reserved in copy space for a migration in (R179), or BUSY. -/
def State.reserveDest (s : State) (key src sslot : Nat) : State × Nat × Nat :=
  match s.place.migIns.find? (fun m => m.key == key) with
  | some m => (s, St.ok, m.slot)
  | none =>
    if s.setting 0x3220 3 ≤ s.place.migIns.length ∨ s.setting 0x3220 9 ≠ 0 ∨ s.dirtyFull then (s, St.busy, 0)
    else
      let s := match s.place.copyIns.find? (fun c => c.key == key) with | some c => s.dropCopyHere c | none => s
      let s := s.makeCopyRoom s.place.copyIns.length
      match (if s.copyUsed < s.copyRoom then s.freeSlot else none) with
      | none => (s, St.busy, 0)
      | some slot =>
        let s := (s.takeSlot slot (.dest key)).modPlace (fun p => { p with
          migIns := p.migIns ++ [{ key := key, slot := slot, src := src, sslot := sslot, since := s.now }] })
        ((s.metaSend (.migIn { key := key, slot := slot, src := src, sslot := sslot })).throttleCheck, St.ok, slot)

/-- Requests that a destination held learn of the source (R176 rule 2, R184). -/
def State.movedBack (s : State) (m : MigIn) (hs : List HReq) : State :=
  hs.foldl (fun s h =>
    match h.origin with
    | .remote peer entry num => s.answerMoved peer entry num m.src m.sslot h.gen
    | .host num => (s.count 392 1).routeTo num m.key m.src m.sslot h.gen
    | .ring num => (s.count 392 1).routeTo num m.key m.src m.sslot h.gen
    | .none => s) s

/-- A reservation given up (R184): the slot is released and the requests it held learn of the source. -/
def State.abortIn (s : State) (m : MigIn) : State :=
  let s := s.modPlace (fun p => { p with migIns := p.migIns.filter (fun x => x.key != m.key) })
  let s := (s.releaseSlot m.slot).metaSend (.migInGone m.key)
  (((s.movedBack m m.held).piecesBack m (s.place.heldPieces.filter (fun x => x.q.key == m.key))).loseHints m.key).afterClean

/-- A commit at the destination (R183): the extent is served from now on; its 512 granules are dirty; its arrival record
starts (R223). -/
def State.commitIn (s : State) (m : MigIn) (msg : PMsg) : State :=
  let grans := (List.range 512).map (slotGran m.slot)
  let s := s.modPlace (fun p => { p with
    migIns := p.migIns.filter (fun x => x.key != m.key)
    heat := insertKey m.slot { msg.heat with homed := true, copy := false, queued := false } p.heat })
  let s := (s.takeSlot m.slot (.home m.key)).metaSend (.migInGone m.key)
  let s := if s.place.tombs.any (fun t => t.key == m.key) then s.dropTomb m.key else s
  let lease := s.poolTime + s.setting 0x3220 0x0A
  let s := msg.list.foldl (fun s c =>
    let c : CopyOut := { key := m.key, vault := c.1, slot := c.2, live := true, phase := 3, lease := lease }
    (s.modPlace (fun p => { p with copyOuts := p.copyOuts ++ [c] })).metaSend (.copy c.rec_)) s
  let s := s.modPersist (fun p => { p with
    dirty := grans.foldl (fun l g => addSet g l) p.dirty
    lastSeq := grans.foldl (fun l g => insertKey g p.seq l) p.lastSeq })
  let s := s.putArrival { slot := m.slot, key := m.key, src := m.src, sslot := m.sslot }
  let s := (s.count 385 1).tcacheFill m.key s.vault m.slot msg.gen
  ((s.resume m.held).resumePieces m.key).throttleCheck

/-- Lines written at the standby's side of a chunk: applied to DRAM with the next sequence numbers, mirrored as one record. -/
def State.putChunk (s : State) (slot line : Nat) (ls : List Line) (ps : List Bool) : State :=
  let first := s.persist.seq + 1
  let s := s.askWrite slot 0x18 4 ls.length
  let s := ((List.range ls.length).foldl (fun s i => s.putLine (slotLine slot (64 * (line + i))) (nth ls i 0) (nth ps i false)) s)
  let s := s.modPersist (fun p => { p with seq := p.seq + ls.length })
  let s := s.mirrorRun slot (first + ls.length - 1) { first := first, slot := slot, line := line, lines := ls, poison := ps } false
  ((List.range ls.length).foldl (fun s i =>
    if nth ps i false then s.poisonEnter (slotLine slot (64 * (line + i))) 3 else s.poisonLeave (slotLine slot (64 * (line + i)))) s).syncHorizon

/-- Chunks whose lines the standby holds are acknowledged to their source (R180). A persist point that is not complete here holds the
acknowledgements back, so that no migration into the vault enters its freeze (R196; DESIGN CHOICE, log entry 114). -/
def State.ackChunks (s : State) : State :=
  if s.persist.point.isSome then s else
  let ready := s.place.chunkAcks.filter (fun a => s.twinSafe a.1)
  let s := s.modPlace (fun p => { p with chunkAcks := p.chunkAcks.filter (fun a => !s.twinSafe a.1) })
  ready.foldl (fun s a => s.send a.2.1 (.chunkAck a.2.2)) s

/-! ### Read copies created (R186) -/

/-- The copy creations towards a vault that has failed over, or left, end (R186). -/
def State.copyFailures (s : State) (v : Nat) : State :=
  (s.place.copyOuts.filter (fun c => c.vault == v && decide (c.phase < 3))).foldl (fun s c => s.abortCopy c 4) s

/-- The directory's answer to a copy request: the copy vault is asked for a slot (R186 step 2), or the copy is refused. -/
def State.copyAnswered (s : State) (key v status : Nat) : State :=
  match s.place.copyOuts.find? (fun c => c.key == key && c.vault == v && c.phase == 0) with
  | none => s
  | some _ =>
    if status = St.ok then
      (s.modCopyOut key v (fun c => { c with phase := 1 })).tell v 8 { key := key, vault := v, a := s.vault }
    else ((s.loseCopyOut key v).completeWrites).count 399 1

/-- A read copy's creation starts (R168, R186). -/
def State.startCopy (s : State) (slot v : Nat) : State :=
  match s.slotUse slot with
  | some (.home key) =>
    if s.place.copyOuts.any (fun c => c.key == key && c.vault == v) then s
    else
      let s := s.modPlace (fun p => { p with
        copyOuts := p.copyOuts ++ [{ key := key, vault := v, slot := 0 }]
        started := p.started + 1 })
      let s := s.metaSend (.copy { key := key, vault := v })
      if s.ownDir key then
        match s.dirCopy key v with
        | (s, st) => s.copyAnswered key v st
      else s.tell (s.dirVault key) 8 { key := key, vault := s.vault, a := v }
  | _ => s

/-- A slot for a read copy at this vault (R186 step 2): only while the vault is open and copy space is free. -/
def State.reserveCopy (s : State) (key home : Nat) : State × Nat × Nat :=
  match s.place.copyIns.find? (fun c => c.key == key) with
  | some c => (s, St.ok, c.slot)
  | none =>
    if s.setting 0x3220 9 ≠ 0 then (s, St.busy, 0)
    else match (if s.copyUsed < s.copyRoom then s.freeSlot else none) with
      | none => (s, St.busy, 0)
      | some slot =>
        ((s.takeSlot slot (.copy key)).modPlace (fun p => { p with
          copyIns := p.copyIns ++ [{ slot := slot, key := key, home := home }]
          heat := insertKey slot { copy := true } p.heat }), St.ok, slot)

/-! ### Heat and the decision (R163, R167) -/

/-- 2 to the power of minus 2 to the power of minus k, for k from 1, in units of 2^-128. -/
def rootTable : List Nat :=
  [0xB504F333F9DE6484597D89B3754ABE9F, 0xD744FCCAD69D6AF439A68BB9902D3FDE, 0xEAC0C6E7DD24392ED02D75B3706E54FA,
   0xF5257D152486CC2C7B9D0C7AED980FC3, 0xFA83B2DB722A033A7C25BB14315D7FCC, 0xFD3E0C0CF486C174853F3A5931E0EE03,
   0xFE9E115C7B8F884BADD25995E79D2F09, 0xFF4ECB59511EC8A5301BA217EF18DD7C, 0xFFA756521C8DAED19F3A1B48FB94C589,
   0xFFD3A751C0F7E10BD3B9F8AE012FBE06, 0xFFE9D2B2F7DB2755DDF1D28A378A438C, 0xFFF4E91BFF1B8C3D88338E0EBF284A4D,
   0xFFFA747EA0040664238F92F792405805, 0xFFFD3A3B7814EB53CD7629D70FEA116A, 0xFFFE9D1CC60DDAB126DE1AEC4A87E7B8,
   0xFFFF4E8E25879BFA09EA263360240C1A] ++
  [0xFFFFA7470363F4515426D76C762B6B61, 0xFFFFD3A37DDA03133BDE87A8379C8932, 0xFFFFE9D1BDF703AEF21EA4DCFB0682D8,
   0xFFFFF4E8DEBE025E24128A3D460731F1, 0xFFFFFA746F4FA1506788FBC89750BF71, 0xFFFFFD3A37A3F8B07E7C4871DC00D76E,
   0xFFFFFE9D1BD1065A50971275792F1C83, 0xFFFFFF4E8DE845ADAC77243CD0914B37, 0xFFFFFFA746F41376F74124CD483186D4,
   0xFFFFFFD3A37A05E383E14C90273C94F5, 0xFFFFFFE9D1BD01FBC400BF822DC936B5, 0xFFFFFFF4E8DE80C062846365949B61AF,
   0xFFFFFFFA746F4050D1633246A8A0E09A, 0xFFFFFFFD3A37A02490B9D93DA3C1EBCF, 0xFFFFFFFE9D1BD011525EFCA410B8EAB7,
   0xFFFFFFFF4E8DE8086BB002532D71E54D] ++
  [0xFFFFFFFFA746F40426782229DAAA3CFA, 0xFFFFFFFFD3A37A020F641954FDA6EEDD, 0xFFFFFFFFE9D1BD0106BC0EBA82D29B40,
   0xFFFFFFFFF4E8DE80832087E142666C8B, 0xFFFFFFFFFA746F404180E411A17228BF, 0xFFFFFFFFFD3A37A020BC9A1110C8C656,
   0xFFFFFFFFFE9D1BD0105D570A98684E53, 0xFFFFFFFFFF4E8DE8082E6E05D03521C9, 0xFFFFFFFFFFA746F4041727A3091ACF87,
   0xFFFFFFFFFFD3A37A020B8FF98CCD776B, 0xFFFFFFFFFFE9D1BD0105C706C876BF9F, 0xFFFFFFFFFFF4E8DE8082E345E4BF60CA,
   0xFFFFFFFFFFFA746F404171939280B0A3, 0xFFFFFFFFFFFD3A37A020B8C5F1489861, 0xFFFFFFFFFFFE9D1BD0105C6202A65C34,
   0xFFFFFFFFFFFF4E8DE8082E30C3D3B21B] ++
  [0xFFFFFFFFFFFFA746F40417185289FA0D, 0xFFFFFFFFFFFFD3A37A020B8C256D0547, 0xFFFFFFFFFFFFE9D1BD0105C611C084B3,
   0xFFFFFFFFFFFFF4E8DE8082E308A2C2DD, 0xFFFFFFFFFFFFFA746F4041718442018F, 0xFFFFFFFFFFFFFD3A37A020B8C21D28D0,
   0xFFFFFFFFFFFFFE9D1BD0105C610D9E6A, 0xFFFFFFFFFFFFFF4E8DE8082E308691B5, 0xFFFFFFFFFFFFFFA746F404171843397A,
   0xFFFFFFFFFFFFFFD3A37A020B8C2198E5, 0xFFFFFFFFFFFFFFE9D1BD0105C610CB7C, 0xFFFFFFFFFFFFFFF4E8DE8082E3086580,
   0xFFFFFFFFFFFFFFFA746F4041718432B1, 0xFFFFFFFFFFFFFFFD3A37A020B8C21954, 0xFFFFFFFFFFFFFFFE9D1BD0105C610CA9,
   0xFFFFFFFFFFFFFFFF4E8DE8082E308654] ++
  [0xFFFFFFFFFFFFFFFFA746F4041718432A, 0xFFFFFFFFFFFFFFFFD3A37A020B8C2195, 0xFFFFFFFFFFFFFFFFE9D1BD0105C610CA,
   0xFFFFFFFFFFFFFFFFF4E8DE8082E30865, 0xFFFFFFFFFFFFFFFFFA746F4041718432, 0xFFFFFFFFFFFFFFFFFD3A37A020B8C219,
   0xFFFFFFFFFFFFFFFFFE9D1BD0105C610C, 0xFFFFFFFFFFFFFFFFFF4E8DE8082E3086, 0xFFFFFFFFFFFFFFFFFFA746F404171843,
   0xFFFFFFFFFFFFFFFFFFD3A37A020B8C21, 0xFFFFFFFFFFFFFFFFFFE9D1BD0105C610, 0xFFFFFFFFFFFFFFFFFFF4E8DE8082E308,
   0xFFFFFFFFFFFFFFFFFFFA746F40417184, 0xFFFFFFFFFFFFFFFFFFFD3A37A020B8C2, 0xFFFFFFFFFFFFFFFFFFFE9D1BD0105C61,
   0xFFFFFFFFFFFFFFFFFFFF4E8DE8082E30]

/-- The decay factor (R163): round(65,536 × 2^(−epoch ÷ half-life)), from 80 binary places of the exponent. -/
def decayFactor (epoch half : Nat) : Nat :=
  let x := epoch * 2 ^ 80 / half
  let f := (List.range 80).foldl (fun a i => if x.testBit (79 - i) then a * nth rootTable i 0 / 2 ^ 128 else a) (2 ^ 128)
  (f / 2 ^ (x / 2 ^ 80) + 2 ^ 111) / 2 ^ 112

/-- One accessor decayed (R163). -/
def decayAcc (f : Nat) (a : Option Accessor) : Option Accessor :=
  match a with
  | some x => if x.cnt * f / 65536 = 0 then none else some { x with cnt := x.cnt * f / 65536 }
  | none => none

/-- A heat entry at an epoch's end (R163). -/
def decayHeat (e : Heat) (f shift epoch : Nat) : Heat :=
  let idle := e.rd == 0 && e.wr == 0 && e.rdS == 0 && e.wrS == 0 && e.acc.all (fun a => ((a.map Accessor.cnt).getD 0) == 0)
  if idle then e
  else
    let rr := e.rdS * 2 ^ shift * 1000000000 / epoch
    let wr := e.wrS * 2 ^ shift * 1000000000 / epoch
    { e with
      rd := (e.rd * f + rr * (65536 - f)) / 65536
      wr := (e.wr * f + wr * (65536 - f)) / 65536
      acc := e.acc.map (decayAcc f)
      rdS := 0
      wrS := 0
      age := satAdd e.age 1 65535 }

/-- What the decision rule finds for a slot. -/
inductive Choice where
  | nothing
  | move (v gain : Nat)
  | copy (v gain : Nat)
  deriving DecidableEq, Repr

/-- The rates a vault draws an extent with (R167): r, and the rate of the attract hint beside it. -/
def State.drawOf (s : State) (e : Heat) (d : DirEnt) (v : Nat) : Nat :=
  let t := e.rd + e.wr
  let n := (e.acc.map (fun a => (a.map Accessor.cnt).getD 0)).foldl (· + ·) 0
  let own := (e.acc.map (fun a => match a with | some x => if x.vault = v ∧ 0 < n then t * x.cnt / n else 0 | none => 0)).foldl (· + ·) 0
  own + (if d.attract = v then s.setting 0x3210 0x0C else 0)

/-- Insertion into a list that falls in its second number; equal ones keep the lower first number first. -/
def insertFall (x : Nat × Nat) (l : List (Nat × Nat)) : List (Nat × Nat) :=
  match l with
  | [] => [x]
  | y :: l => if y.2 < x.2 ∨ (y.2 = x.2 ∧ x.1 < y.1) then x :: y :: l else y :: insertFall x l

/-- The decision rule for a candidate slot (R167); `anchor` is its group's. -/
def State.choose (s : State) (slot key anchor : Nat) : Choice :=
  let e := s.heatOf slot
  let d := s.homeFields key
  let h := s.vault
  let t := e.rd + e.wr
  if !s.flag 0x3200 1 || decide (e.age < ceilDiv s.place.halfLife (s.setting 0x3200 2)) || decide (t < s.setting 0x3210 4) then .nothing
  else
    let p := (e.rd * s.setting 0x3210 1 + e.wr * s.setting 0x3210 2) / t
    let vs := (e.acc.filterMap (fun a => a.map Accessor.vault)) ++ (if d.attract = 0xFFFF then [] else [d.attract])
    let vs := vs.foldl (fun l v => addSet v l) []
    let r := fun (v : Nat) => s.drawOf e d v
    let all := (vs.map r).foldl (· + ·) 0
    let cost := fun (v : Nat) => p * (all - r v)
    let open_ := fun (v : Nat) => s.usable v && decide (0 < (s.roomOf v).p)
    let set := (if d.group ≠ 0 then [anchor] else vs.filter (fun v => decide (0 < r v))).filter
      (fun v => v != h && open_ v)
    let best := set.find? (fun v => cost v == minOf (set.map cost) (cost v))
    let mv : Choice :=
      if d.pinned || s.coolingNow d then .nothing
      else match best with
        | some b =>
          if s.setting 0x3210 5 ≤ cost h - cost b ∧ cost b ≤ cost h ∧ cost b * 64 ≤ cost h * (64 - s.setting 0x3210 6) then .move b (cost h - cost b)
          else .nothing
        | none => .nothing
    if mv ≠ .nothing then mv
    else if d.noCopies || decide (s.setting 0x3210 7 * t < e.wr * 256) then .nothing
    else
      let held := (s.place.copyOuts.filter (fun c => c.key == key)).map CopyOut.vault
      let order := (vs.filter (fun v => v != h && decide (0 < r v) && !held.contains v)).foldl (fun l v => insertFall (v, r v) l) []
      let win := fun (v : Nat) => r v * e.rd / t * s.setting 0x3210 1
      let loss := if held = [] then e.wr * s.setting 0x3210 3 else 0
      match order.find? (fun x => decide (held.length < s.setting 0x3210 0x0A ∧ s.setting 0x3210 8 + loss ≤ win x.1) && s.usable x.1) with
      | some x => .copy x.1 (win x.1 - loss)
      | none => .nothing

/-! ### Starting actions (R168, R193) -/

/-- The moves out of the vault and copy creations in progress (R168); relocations are none of them (R158 item 2). -/
def State.inProgress (s : State) : Nat :=
  (s.place.migs.filter (fun m => !s.isReloc m)).length + (s.place.copyOuts.filter (fun c => decide (c.phase < 3))).length

/-- Whether a further move or copy may start in this epoch (R168, R193): both limits count moves and copy creations together (DEDUCED, log entry
113). -/
def State.mayStartMove (s : State) : Bool := decide (s.place.started < s.setting 0x3220 1) && decide (s.inProgress < s.setting 0x3220 2)

/-- The homed slots, coldest first. -/
def State.coldest (s : State) : List Nat :=
  let l := s.place.slots.filterMap (fun e => match e.2 with | .home _ => some (e.1, (s.heatOf e.1).rd + (s.heatOf e.1).wr) | _ => none)
  ((l.foldl (fun a x => insertFall x a) []).map Prod.fst).reverse

/-- Extents that must leave: all of a draining vault, the excess above homeable, and displaced extents beyond the free spare reserve
(R35, R193). -/
def State.evacExcess (s : State) : Nat :=
  if s.setting 0x3220 9 = 2 then s.homed
  else (s.homed - s.homeable) + (s.displaced.length - (spareReserve s.extents (s.setting 0x2010 2) - s.place.spare.length))

/-- Whether an extent is busy with an action, or was refused one in this epoch (R168). -/
def State.slotBusy (s : State) (slot key : Nat) : Bool :=
  (s.migOf key).isSome || s.place.copyOuts.any (fun c => c.key == key && decide (c.phase < 3)) || s.place.refused.contains slot

/-- Moves of the coldest extents to destinations chosen by R169, `n` at most, out of `l`; a grouped extent waits for its anchor. Fill moves obey
pins and the cooldown (R193). -/
def State.startFill (s : State) (evac : Bool) (n : Nat) (l : List Nat) : State :=
  match l with
  | [] => s
  | slot :: l =>
    if n = 0 ∨ !s.mayStartMove then s
    else match s.slotUse slot with
      | some (.home key) =>
        let d := s.homeFields key
        if s.slotBusy slot key || (!evac && (d.pinned || s.coolingNow d)) then s.startFill evac n l
        else match (s.anchorOf d.group).bind (fun a => s.chooseHome key s.vault d a [s.vault]) with
          | some (v, _) => (s.startMove slot v evac).startFill evac (n - 1) l
          | none => s.startFill evac n l
      | _ => s.startFill evac n l

/-- Queued heat moves start, greatest gain first, then queued copies, while placement is enabled (R168, R198). -/
def State.startQueued (s : State) (fuel : Nat) : State :=
  match fuel with
  | 0 => s
  | fuel + 1 =>
    if !s.mayStartMove || !s.flag 0x3200 1 then s
    else match s.place.qMoves with
      | (slot, v, _) :: rest => ((s.modPlace (fun p => { p with qMoves := rest })).startMove slot v false).startQueued fuel
      | [] =>
        match s.place.qCopies with
        | (slot, v, _) :: rest => ((s.modPlace (fun p => { p with qCopies := rest })).startCopy slot v).startQueued fuel
        | [] => s

/-- Actions start as the limits allow, at an epoch's end and whenever one in progress ends: evacuation, fill, heat moves, copies (R168, R193). -/
def State.startActions (s : State) : State :=
  if !s.serves then s
  else
    let evac := s.evacExcess - (s.place.migs.filter (fun m => m.evac && !s.isReloc m)).length
    let s := if evac = 0 then s else s.startFill true evac s.coldest
    let fill := s.homed - s.placeable - (s.place.migs.filter (fun m => !s.isReloc m)).length
    let s := if fill = 0 then s else s.startFill false fill s.coldest
    s.startQueued (s.place.qMoves.length + s.place.qCopies.length)

end Sys2Proof.Machine
end

