-- ==== Sys2Proof/Machine/PoolOps.lean ====
section
/-! DEFINITION. The pool's shared operations: ranks and the tree (R324 to R328), tree messages (R330), gather and ready waves
(R332, R333), latch operations (R338 to R340), and the pool-state actions at the root and at their latch time (R325, R27 to
R29, R38, R343 to R346, R543). -/

namespace Sys2Proof.Machine

/-! ### The tree (R324, R326) -/

/-- The rank of a device number: the listed devices below it (R324). -/
def State.rankAt (s : State) (d : Nat) : Nat := (s.pool.entries.filter (fun e => decide (e.dev < d))).length

/-- The listed devices, in rising order. -/
def State.devices (s : State) : List Nat := s.pool.entries.map MEntry.dev

/-- The device at a rank. -/
def State.devAt (s : State) (r : Nat) : Nat := nth s.devices r noDev

/-- How many devices the manifest lists. -/
def State.listedCount (s : State) : Nat := s.pool.entries.length

/-- The tree position of a device (R326). -/
def State.position (s : State) (d : Nat) : Nat :=
  (s.rankAt d + s.listedCount - s.rankAt s.pool.root) % s.listedCount

/-- The device at a tree position. -/
def State.atPosition (s : State) (p : Nat) : Nat := s.devAt ((p + s.rankAt s.pool.root) % s.listedCount)

/-- The parent of a device in the fixed tree; none for the root (R326). -/
def State.parentOf (s : State) (d : Nat) : Nat :=
  if s.position d = 0 then noDev else s.atPosition ((s.position d - 1) / 16)

/-- The children of a device in the fixed tree (R326). -/
def State.childrenOf (s : State) (d : Nat) : List Nat :=
  ((List.range 16).map (fun i => 16 * s.position d + 1 + i)).filterMap
    (fun p => if p < s.listedCount then some (s.atPosition p) else none)

/-- This device's children, adopted ones among them (R327); none while it knows no root or has no number. -/
def State.children (s : State) : List Nat :=
  if s.pool.root = noDev ∨ !s.numbered then []
  else s.childrenOf s.pool.number ++ s.pool.adopted.filter (fun d => !(s.childrenOf s.pool.number).contains d)

/-- The children that answered the last ready wave. -/
def State.presentChildren (s : State) : List Nat := s.children.filter s.pool.present.contains

/-- The ports in service that reach a device (R287, R306): the twin ports for the twin while one is up, else the pool ports. -/
def State.portsTo (s : State) (d : Nat) : List Nat :=
  if s.twinListed ∧ d = s.twinDev ∧ s.upPorts 0 ≠ [] then s.upPorts 0 else s.upPorts 1

/-- Whether a peer is unreachable (R301, R312, R333): no port in service reaches it, or it answered no CONNECT on any of them. -/
def State.unreachable (s : State) (d : Nat) : Bool := (s.portsTo d).all (fun p => s.hinge.unreach.contains (d, p))

/-- The smallest depth that holds `n` devices, from `d` on (R326). -/
def depthFrom (n d fuel : Nat) : Nat :=
  match fuel with
  | 0 => d
  | fuel + 1 => if n ≤ (16 ^ (d + 1) - 1) / 15 then d else depthFrom n (d + 1) fuel

/-- The depth of the tree (R326). -/
def State.depth (s : State) : Nat := depthFrom s.listedCount 0 5

/-- The root candidates: the 16 lowest-ranked listed devices that are not excluded (R328). -/
def State.candidates (s : State) : List Nat := ((s.pool.entries.filter (fun e => !e.noRoot)).map MEntry.dev).take 16

/-! ### Tree messages (R330) -/

/-- The sub-header of a TREE message of this device. -/
def State.treeHdr (s : State) (op latch : Nat) (late : Bool) : TreeHdr where
  late := late
  root := min s.pool.root 0xFFFF
  term := if s.pool.root = noDev then 0 else s.pool.term
  pool := s.pool.id
  op := op
  latch := latch

/-- A TREE message sent to one device (counter 501). -/
def State.tree (s : State) (d op latch : Nat) (late : Bool) (b : TBody) : State :=
  (s.send d (.tree (s.treeHdr op latch late) b)).count 501 1

/-- A TREE message sent to every child. -/
def State.treeDown (s : State) (op latch : Nat) (b : TBody) : State :=
  s.children.foldl (fun s d => s.tree d op latch false b) s

/-- Whether a downward message's term is not below this device's (R330): the term of the root it follows or followed last, and 0 from a reset until it
has followed one (DEDUCED, log entry 129: it sends 0 then). -/
def State.termOk (s : State) (t : TreeHdr) : Bool := decide (s.pool.term ≤ t.term)

/-- Whether the root a downward message names is one to follow (R328): the higher term, on equal terms the lower-ranked root. -/
def State.treeFollows (s : State) (t : TreeHdr) : Bool :=
  s.pool.root == noDev || decide (s.pool.term < t.term) || (t.term == s.pool.term && (t.root == s.pool.root || decide (s.rankAt t.root < s.rankAt s.pool.root)))

/-- The held actions go to the root that is now known, each for the device it came from (R53). -/
def State.sendHeld (s : State) : State :=
  if s.pool.root = noDev ∨ s.pool.root = s.pool.number then s
  else
    let l := s.dict.held
    l.foldl (fun s a => s.tree s.pool.root 0 0 false (.action a.1 a.2)) (s.modDict (fun d => { d with held := [] }))

/-- Reports of ranks taken together, the later one of a rank standing (R332). -/
def mergeRanks (l new : List (Nat × Bool)) : List (Nat × Bool) := new.foldl (fun l e => insertKey e.1 e.2 l) l

/-- The root and term of a downward message taken (R328, R330): the higher term, on equal terms the lower-ranked root. -/
def State.takeTerm (s : State) (t : TreeHdr) : State :=
  if s.pool.root ≠ t.root ∨ s.pool.term ≠ t.term then
    let waiting := s.pool.queue
    let s := s.modPool (fun p => { p with
      root := t.root
      term := t.term
      seen := max p.seen t.term
      isRoot := t.root == p.number
      candHeld := []
      adopted := []
      queue := []
      report := mergeRanks p.gathered [(s.rankAt p.number, true)] })
    let s := (s.modPool (fun p => { p with parent := s.parentOf s.pool.number, authority := false })).modDict (fun d => { d with held := d.held ++ waiting })
    s.sendHeld
  else s

/-- The receive checks of a TREE frame (R294 step 3, R330): the pool's identity, and for downward kinds the term. A downward frame
of a root that is not to be followed on equal terms is accepted and not acted on (R328). -/
def State.rxTree (s : State) (h : Hdr) (t : TreeHdr) (down : Bool) (b : TBody) : State × Bool :=
  let h := { h with hdrOk := h.hdrOk && t.pool == s.pool.id && (!down || s.termOk t) }
  let (s, ok) := s.rx h (.tree t b) false
  if ok then
    let s := (s.count 502 1).modPool (fun p => { p with seen := max p.seen t.term })
    if !down then (s, true)
    else if s.treeFollows t then (s.takeTerm t, true)
    else (s, false)
  else (s, false)

/-! ### Gather and ready waves (R332, R333, R329) -/

/-- The pool-state objects outside the pool's own tables: the gather, tick and latch settings, the
epoch, and the period and limit of pool persist points (R347, R198, R247). -/
def poolObject (k : Nat) : Bool :=
  [okey 0x2020 6, okey 0x2020 7, okey 0x2020 0x0A, okey 0x2020 0x0B, okey 0x2300 2, okey 0x2300 3, okey 0x3200 2, okey 0x3330 1, okey 0x3330 5].contains k

/-- The pool state as this device holds it (R344). -/
def State.poolImage (s : State) : PoolImage where
  id := s.pool.id
  gen := s.pool.gen
  manGen := s.pool.manGen
  entries := s.pool.entries
  dirMap := s.pool.dirMap
  vols := s.pool.vols.map (fun e => {
    n := e.1, state := e.2.state, size := e.2.size, cls := e.2.cls, label := e.2.label, number := e.2.number, status := e.2.status, dev := e.2.dev })
  lastNumber := s.pool.lastNumber
  releases := s.pool.releases.map (fun r => (r.gen, r.volume, r.number, r.fromExt))
  shares := s.pool.shares
  claims := s.twin.claims
  salt := s.dict.pwSalt
  hash := s.dict.pwHash
  pwSet := s.dict.pwSet
  objects := s.settings.filter (fun e => poolObject e.1)

/-- Manifest entries that fail their check count as absent, each with source 135 (R323). -/
def State.checkManifest (s : State) : State :=
  let bad := s.pool.entries.filter (fun e => !entryOk e)
  let s := s.modPool (fun p => { p with entries := p.entries.filter entryOk })
  bad.foldl (fun s e => s.raise 135 0 (leBytes 2 e.dev ++ leBytes 1 0 ++ leBytes 4 e.gen)) s

/-- The pool state of an image taken over (R344). -/
def State.takeImage (s : State) (i : PoolImage) : State :=
  let s := s.modPool (fun p => { p with
    id := i.id
    gen := i.gen
    manGen := i.manGen
    entries := i.entries
    dirMap := i.dirMap
    vols := i.vols.map (fun v => (v.n, { getD p.vols v.n {} with
      state := v.state, size := v.size, cls := v.cls, label := v.label, number := v.number, status := v.status, dev := v.dev }))
    lastNumber := i.lastNumber
    releases := i.releases.map (fun r => { gen := r.1, volume := r.2.1, number := r.2.2.1, fromExt := r.2.2.2 })
    shares := i.shares })
  let s := s.checkManifest
  let s := s.modDict (fun d => { d with pwSalt := i.salt, pwHash := i.hash, pwSet := i.pwSet })
  let s := s.modSettings (fun l => i.objects.foldl (fun l e => insertKey e.1 e.2 l) l)
  i.claims.foldl (fun s c => s.learnClaim c.1 c.2) s

/-- The generation below the root's makes a parent send the whole pool state (R344). -/
def State.sendState (s : State) (d : Nat) : State :=
  ((s.tree d 0 0 false (.state s.poolImage)).count 503 1).raise 136 0 (leBytes 2 d ++ leBytes 8 s.pool.gen)

/-- Whether a present count gives the root authority (R329): more than half, or half with the rank-0 device. -/
def State.hasMajority (s : State) (present : List Nat) : Bool :=
  decide (s.listedCount < 2 * present.length) || (2 * present.length == s.listedCount && present.contains (s.devAt 0))

/-- Vaults that a wave names absent: no move or copy goes on towards them before its commit (R186, R197). -/
def State.vaultsGone (s : State) (before : List Nat) : State :=
  let vs := ((before.map (· / 2)).eraseDups).filter (fun v => !s.vaultPresent v)
  let s := vs.foldl (fun s v => s.copyFailures v) s
  (s.place.migs.filter (fun m => vs.contains m.dst && decide (m.phase < 3))).foldl (fun s m => s.abortMig m 4) s

/-- A ready wave as a device takes it (R333): each change of a device between present and absent is recorded (source 130); a
vault whose active device is named absent no longer makes this device withhold credits (R226); children whose absence is known
are not waited for. -/
def State.applyWave (s : State) (wave : Nat) (present : List Nat) : State :=
  let before := s.pool.present
  let changed := s.devices.filter (fun d => before.contains d != present.contains d)
  let s := changed.foldl (fun s d => s.raise 130 (b2n (present.contains d)) (leBytes 2 d ++ leBytes 8 wave)) s
  let s := s.modPool (fun p => { p with present := present, wave := wave, gather := 2, segments := [] })
  let s := s.modPersist (fun p => { p with peersThrottled := p.peersThrottled.filter (fun v => present.contains (s.activeOf v)) })
  (s.vaultsGone before).count 496 1

/-- The present bits of one segment: ranks from 16,384 times its number on. -/
def State.segmentOf (s : State) (present : List Nat) (k : Nat) : List Nat :=
  (present.map s.rankAt).filter (fun r => r / 16384 == k)

/-- A ready wave sent by the root (R333): four segments; the root's authority follows its count (R329, source 131). -/
def State.readyWave (s : State) : State :=
  let present := (s.pool.gathered.filter (fun e => e.2 && decide (e.1 < s.listedCount))).map (fun e => s.devAt e.1)
  let wave := s.pool.wave + 1
  let s := s.applyWave wave present
  let s := (List.range 4).foldl (fun s k => s.treeDown wave 0 (.ready k (s.segmentOf present k))) s
  let auth := s.hasMajority present
  let s := if auth ≠ s.pool.authority then
      s.raise 131 (b2n auth) (leBytes 4 present.length ++ leBytes 4 s.listedCount) else s
  s.modPool (fun p => { p with authority := auth, waveAt := s.now, waveOwed := false })

/-- The root closes its gather (R332): source 129 where listed devices are absent; the ready wave follows. -/
def State.closeGatherNow (s : State) (cause : Nat) : State :=
  let n := (s.pool.gathered.filter (fun e => e.2)).length
  let s := if n < s.listedCount then s.raise 129 cause (leBytes 4 n ++ leBytes 4 s.listedCount) else s
  s.readyWave

/-- Whether every listed device is reported present. -/
def State.allGathered (s : State) : Bool :=
  (List.range s.listedCount).all (fun r => s.pool.gathered.any (fun e => e.1 == r && e.2))

/-- This device takes the root (R328): the term above every one it has seen, its own report, the reports held as a candidate,
its held announcements issued again, source 128. -/
def State.takeRoot (s : State) (cause : Nat) : State :=
  let s := s.modPool (fun p => { p with
    root := p.number
    term := (p.seen + 1) % 2 ^ 32
    seen := (p.seen + 1) % 2 ^ 32
    isRoot := true
    parent := noDev
    adopted := []
    gather := 1
    gatherAt := s.now
    gathered := mergeRanks [(s.rankAt p.number, true)] p.candHeld
    report := []
    candHeld := []
    lastTick := s.now })
  let s := s.raise 128 cause (leBytes 2 s.pool.root ++ leBytes 4 s.pool.term ++ leBytes 1 cause)
  let s := (s.pool.ops.filter (fun o => !o.done)).foldl (fun s o => s.treeDown o.op o.latch (.announce o.act o.dev)) s
  let s := s.modPool (fun p => { p with ops := p.ops.map (fun o => { o with cast := true }) })
  if s.allGathered then s.closeGatherNow 0 else s

/-! ### Capacity (R34, R38, R39) -/

/-- The shares of a vault (R38): this vault's own objects, or what the pool state holds. -/
def State.sharesOf (s : State) (v : Nat) : Nat × Nat × Nat :=
  if s.numbered && v == s.vault then (s.setting 0x2010 2, s.setting 0x2010 4, s.setting 0x2010 8) else getD s.pool.shares v (32, 16, 60)

/-- The installed extents of a vault as the manifest holds them (R19, R21). -/
def State.vaultExtents (s : State) (v : Nat) : Nat :=
  if s.numbered && v == s.vault then s.extents
  else match s.entryOf (2 * v), s.entryOf (2 * v + 1) with
    | some a, some b => min a.extents b.extents
    | some a, none => a.extents
    | none, some b => b.extents
    | none, none => 0

/-- The vaults with a listed device. -/
def State.vaults (s : State) : List Nat := s.devices.foldl (fun l d => addSet (d / 2) l) []

/-- The placeable figure of a vault under given shares (R34). -/
def State.placeableAs (s : State) (v : Nat) (sh : Nat × Nat × Nat) : Nat := placeableOf (s.vaultExtents v) sh.1 sh.2.1 sh.2.2

/-- Pool placeable (0x2011:01). -/
def State.poolPlaceable (s : State) : Nat := (s.vaults.map (fun v => s.placeableAs v (s.sharesOf v))).foldl (· + ·) 0

/-- What a volume counts in the reservation (0x2011:02): its new size while Resizing. -/
def Volume.reserved (v : Volume) : Nat := if v.state = 0 then 0 else if v.state = 3 then v.newSize else v.size

/-- Pool reserved (0x2011:02). -/
def State.poolReserved (s : State) : Nat := (s.pool.vols.map (fun e => e.2.reserved)).foldl (· + ·) 0

/-- What a device last counted for the pool's totals. -/
def State.censusOf (s : State) (d : Nat) : Census := getD s.pool.census d {}

/-- The homed extents of a vault (0x2010:0A): this vault's own, or what its active device last counted. -/
def State.homedAt (s : State) (v : Nat) : Nat :=
  if s.numbered && v == s.vault then s.homed else (s.censusOf (s.activeOf v)).homed

/-- Pool homed (0x2011:03): the sum over the manifested vaults (R39). -/
def State.poolHomed (s : State) : Nat := (s.vaults.map s.homedAt).foldl (· + ·) 0

/-- Source 141 when pool free for volumes falls below 1/64 of pool placeable (R42). -/
def State.freeCheck (s : State) : State :=
  let low := decide (64 * (s.poolPlaceable - s.poolReserved) < s.poolPlaceable)
  if low = s.pool.low then s
  else
    let s := s.modPool (fun p => { p with low := low })
    if low then s.raise 141 0 (leBytes 8 s.poolPlaceable ++ leBytes 8 s.poolReserved) else s

/-! ### Volumes (R28, R29, R543) -/

/-- A volume's record. -/
def State.vol (s : State) (n : Nat) : Volume := getD s.pool.vols n {}

/-- A volume's record changed. -/
def State.modVol (s : State) (n : Nat) (f : Volume → Volume) : State :=
  s.modPool (fun p => { p with vols := modD p.vols n {} f })

/-- Whether an extent key lies in a volume at or beyond an extent. -/
def keyBeyond (key vol from_ : Nat) : Bool := key / 2 ^ 27 == vol && decide (from_ ≤ key % 2 ^ 27)

/-- The sessions of this device bound to a volume. -/
def State.boundTo (s : State) (n : Nat) : List Nat :=
  (s.host.sess.filter (fun e => e.2.state != 0 && s.setting (0x4000 + e.1) 7 == n)).map Prod.fst

/-- The end of what a bound session of this device maps of its volume. -/
def State.mapEnd (s : State) (k : Nat) : Nat := s.setting (0x4000 + k) 8 + max (getD s.host.sess k {}).acc (s.setting (0x4000 + k) 6)

/-- The censuses of the listed devices other than this one. -/
def State.otherCensus (s : State) : List Census := (s.devices.filter (· != s.pool.number)).map s.censusOf

/-- Whether some bound session of the pool maps a volume at or beyond an extent (R27). -/
def State.mapsBeyond (s : State) (n from_ : Nat) : Bool :=
  (s.boundTo n).any (fun k => decide (from_ * extentBytes < s.mapEnd k)) ||
  s.otherCensus.any (fun c => c.sess.any (fun e => e.1 == n && decide (from_ * extentBytes < e.2.2)))

/-- The sessions that map a volume pool-wide (0x9000+n:07). -/
def State.boundCount (s : State) (n : Nat) : Nat :=
  s.otherCensus.foldl (fun k c => k + (getD c.sess n (0, 0)).1) (s.boundTo n).length

/-- Whether a slot homes an extent of a volume. -/
def inVolume (u : SlotUse) (n : Nat) : Bool := match u with | .home k => k / 2 ^ 27 == n | _ => false

/-- The extents of a volume homed in this vault. -/
def State.homedHere (s : State) (n : Nat) : Nat := (s.place.slots.filter (fun e => inVolume e.2 n)).length

/-- The homed extents of a volume pool-wide (0x9000+n:06): this vault's own, and what the active device of every other vault last
counted. -/
def State.volHomed (s : State) (n : Nat) : Nat :=
  (s.vaults.filter (· != s.vault)).foldl (fun k v => k + getD (s.censusOf (s.activeOf v)).vols n 0) (s.homedHere n)

/-- What this device counts for the pool's totals now (log entry 96). -/
def State.ownCensus (s : State) : Census where
  homed := if s.serves then s.homed else 0
  vols := if s.serves then (s.pool.vols.map (fun e => (e.1, s.homedHere e.1))).filter (fun e => e.2 != 0) else []
  sess := (s.pool.vols.map (fun e => (e.1, (s.boundTo e.1).length, maxOf ((s.boundTo e.1).map s.mapEnd) 0))).filter (fun e => e.2.1 != 0)

/-- A device's count taken. -/
def State.takeCensus (s : State) (d : Nat) (c : Census) : State := s.modPool (fun p => { p with census := insertKey d c p.census })

/-- The key a slot use names. -/
def slotKey (u : SlotUse) : Option Nat :=
  match u with
  | .home k => some k
  | .copy k => some k
  | .dest k => some k
  | .kept k => some k
  | .filling => none

/-- Whether a slot use is of an extent of a volume at or beyond an extent. -/
def useBeyond (u : SlotUse) (vol from_ : Nat) : Bool := match slotKey u with | some k => keyBeyond k vol from_ | none => false

/-- The twin told of the moves, copies and hints that a released range takes with it. -/
def State.goneBeyond (s : State) (old : Place) (vol from_ : Nat) : State :=
  let us := (old.migs.filter (fun m => keyBeyond m.key vol from_)).map (fun m => MetaUpd.moveGone m.key) ++
    (old.migIns.filter (fun m => keyBeyond m.key vol from_)).map (fun m => .migInGone m.key) ++
    (old.copyOuts.filter (fun c => keyBeyond c.key vol from_)).map (fun c => .copyGone c.key c.vault)
  let s := us.foldl (fun s u => s.metaSend u) s
  ((old.hints.map Prod.fst).filter (fun k => keyBeyond k vol from_)).foldl (fun s k => s.loseHints k) s

/-- The released range of a volume leaves this device (R26, R543): home slots, copies and slots of moves are released, directory
entries and tombstones go, hints stay. Every vault does the same at the latch time, so no copy vault is told and no write waits for an
invalidation of the range any more. -/
def State.releaseRange (s : State) (vol from_ : Nat) : State :=
  let slots := (s.place.slots.filter (fun e => useBeyond e.2 vol from_)).map Prod.fst
  let tombs := (s.place.tombs.filter (fun t => keyBeyond t.key vol from_)).map Tomb.key
  let old := s.place
  let s := s.modPlace (fun p => { p with
    copyOuts := p.copyOuts.filter (fun c => !keyBeyond c.key vol from_)
    copyIns := p.copyIns.filter (fun c => !keyBeyond c.key vol from_)
    migs := p.migs.filter (fun m => !keyBeyond m.key vol from_)
    migIns := p.migIns.filter (fun m => !keyBeyond m.key vol from_)
    invals := p.invals.filter (fun i => !keyBeyond i.key vol from_) })
  let s := s.goneBeyond old vol from_
  let s := tombs.foldl (fun s k => s.dropTomb k) s
  let s := slots.foldl (fun s k => s.releaseSlot k) s
  let keys := (s.place.dir.map Prod.fst).filter (fun k => keyBeyond k vol from_)
  (keys.foldl (fun s k => s.dirRelease k) s).completeWrites.afterClean

/-! ### Actions at the root (R325, R329) -/

/-- This device's count goes to the pool when it has changed (log entry 96): to the root as an ACTION, and from the root to every
device as a BROADCAST. -/
def State.sendCensus (s : State) : State :=
  let c := s.ownCensus
  if !s.numbered ∨ c = s.censusOf s.pool.number then s
  else
    let s := s.takeCensus s.pool.number c
    if s.pool.isRoot then s.treeDown s.pool.opNo 0 (.broadcast [] [(s.pool.number, c)])
    else if s.pool.root = noDev then s
    else s.tree s.pool.root 0 0 false (.action (.census c) s.pool.number)

/-- Whether an action changes pool state, and so needs the root's authority (R329); a pool reset needs it as well (R341). -/
def needsAuthority : Action → Bool
  | .point _ => false
  | .freeze _ => false
  | .release _ => false
  | .room _ _ _ _ => false
  | .census _ => false
  | .volCreate _ _ _ _ => true
  | .volResize _ _ => true
  | .volDelete _ => true
  | .volAttr _ _ _ => true
  | .share _ _ _ _ => true
  | .manAdd _ => true
  | .manAddr _ => true
  | .manRemove _ => true
  | .manExtents _ _ => true
  | .mapEntry _ _ => true
  | .password _ _ _ => true
  | .setting _ _ => true
  | .poolReset _ => true
  | .outcome _ _ _ _ => true

/-- Whether an action waits its turn behind another in progress (R325). -/
def isOrdered : Action → Bool
  | .point _ => false
  | .freeze _ => false
  | .release _ => false
  | .room _ _ _ _ => false
  | .census _ => false
  | .poolReset _ => false
  | _ => true

/-- The latch time the root chooses (R338): announcement plus latch lead, rounded up to a whole microsecond. -/
def State.latchTime (s : State) : Nat := ceilDiv (s.poolTime + s.setting 0x2300 2) 1000 * 1000

/-- The number of a pool persist point, kept with its operation's number (R244). -/
def State.notePoint (s : State) (op : Nat) (a : Action) : State :=
  match a with
  | .point n => s.modPool (fun p => { p with pointOp := (op, n) })
  | _ => s

/-- Whether a frame body is the announcement of a latch operation. -/
def isAnnounce (b : FBody) (op : Nat) : Bool :=
  match b with
  | .tree t (.announce _ _) => t.op == op
  | _ => false

/-- The present candidates other than this device. -/
def State.otherCandidates (s : State) : List Nat := s.candidates.filter (fun d => d != s.pool.number && s.pool.present.contains d)

/-- Whether a candidate has not acknowledged its announcement of an operation yet: a connection to it still holds the frame. -/
def State.announcing (s : State) (op : Nat) : Bool :=
  s.hinge.conns.any (fun c => s.otherCandidates.contains c.peer &&
    ((c.chan 3).unacked.any (fun f => isAnnounce f.body op) || (c.chan 3).waiting.any (fun b => isAnnounce b op)))

/-- An announcement that every present candidate has acknowledged is broadcast (R338). -/
def State.castOp (s : State) (o : LatchOp) : State :=
  if o.cast || s.announcing o.op then s
  else (s.modPool (fun p => { p with ops := p.ops.map (fun x => if x.op = o.op then { x with cast := true } else x) })).treeDown
    o.op o.latch (.announce o.act o.dev)

/-- The root broadcasts the announcements whose candidates have answered (R338). -/
def State.castOps (s : State) : State := if s.pool.isRoot then s.pool.ops.foldl (fun s o => s.castOp o) s else s

/-- The root issues a latch operation (R338): it holds it itself, sends it to the present candidates, and broadcasts it once they have
acknowledged. -/
def State.issueOp (s : State) (a : Action) (dev : Nat) : State :=
  let op := s.pool.opNo + 1
  let l := s.latchTime
  let s := s.modPool (fun p => { p with
    opNo := op
    ops := p.ops ++ [{ op := op, act := a, latch := l, dev := dev }]
    lastOp := op
    lastLatch := l })
  let s := s.notePoint op a
  let s := s.otherCandidates.foldl (fun s d => s.tree d op l false (.announce a dev)) s
  s.castOps

/-- The answer to the requester of a root operation (R340), where it has one: a RESULT, or at the root itself kept until its own request takes it. -/
def State.rootResult (s : State) (dev op st : Nat) : State :=
  if dev = noDev then s
  else if dev = s.pool.number then s.modPool (fun p => { p with results := p.results ++ [(op, st)] })
  else s.tree dev op 0 false (.result st)

/-- A refusal whose status every present device shows (R27, R325). -/
def State.refuseAction (s : State) (kind n act st dev : Nat) : State := s.issueOp (.outcome kind n act st) dev

/-- Whether the growth of a reservation fits (R29). -/
def State.fits (s : State) (more : Nat) : Bool := decide (s.poolReserved + more ≤ s.poolPlaceable)

/-- Whether a size is one a volume may have (R23). -/
def sizeOk (n : Nat) : Bool := decide (1 ≤ n ∧ n ≤ 134217728)

/-- A volume create at the root (R27, R29). -/
def State.rootCreate (s : State) (n size cls label dev : Nat) : State :=
  let v := s.vol n
  if v.state ≠ 0 then s.refuseAction 0 n 1 St.busy dev
  else if !sizeOk size || !s.fits size then s.refuseAction 0 n 1 St.badRange dev
  else
    let s := s.modVol n (fun v => { v with state := 1, size := size, number := s.pool.lastNumber + 1, dev := dev })
    (s.freeCheck).issueOp (.volCreate n size cls label) dev

/-- A volume resize at the root (R27, R29). -/
def State.rootResize (s : State) (n size dev : Nat) : State :=
  let v := s.vol n
  if v.state = 0 then s.refuseAction 0 n 2 St.noSuchObject dev
  else if v.state ≠ 2 then s.refuseAction 0 n 2 St.busy dev
  else if !sizeOk size then s.refuseAction 0 n 2 St.badRange dev
  else if v.size < size ∧ !s.fits (size - v.size) then s.refuseAction 0 n 2 St.badRange dev
  else if size < v.size ∧ s.mapsBeyond n size then s.refuseAction 0 n 2 St.busy dev
  else
    let s := if size = v.size then s else s.modVol n (fun v => { v with state := 3, newSize := size, dev := dev })
    (s.freeCheck).issueOp (.volResize n size) dev

/-- A volume delete at the root (R27, R29). -/
def State.rootDelete (s : State) (n dev : Nat) : State :=
  let v := s.vol n
  if v.state = 0 then s.refuseAction 0 n 3 St.noSuchObject dev
  else if v.state ≠ 2 ∨ 0 < s.boundCount n then s.refuseAction 0 n 3 St.busy dev
  else (s.modVol n (fun v => { v with state := 4, dev := dev })).issueOp (.volDelete n) dev

/-- A change of a vault's shares at the root (R38): refused where pool placeable would fall below the reservation. -/
def State.rootShare (s : State) (v sp c f dev : Nat) : State :=
  let before := s.placeableAs v (s.sharesOf v)
  if s.poolPlaceable - before + s.placeableAs v (sp, c, f) < s.poolReserved then s.refuseAction 2 v 0 St.badRange dev
  else s.issueOp (.share v sp c f) dev

/-- A manifest entry added at the root (R343): number and identity not listed, addresses the part's own (port p is base + p). -/
def State.rootManAdd (s : State) (e : MEntry) (dev : Nat) : State :=
  let b := nth e.macs 0 0
  if s.listed e.dev || s.pool.entries.any (fun x => x.ident == e.ident) || e.macs != [b, b + 1, b + 2, b + 3] || !entryOk e then
    s.refuseAction 1 e.dev 1 St.badRange dev
  else s.issueOp (.manAdd e) dev

/-- A manifest entry's addresses changed at the root (R325): the number must be listed. -/
def State.rootManAddr (s : State) (e : MEntry) (dev : Nat) : State :=
  if !s.listed e.dev || !entryOk e then s.refuseAction 1 e.dev 2 St.badRange dev else s.issueOp (.manAddr e) dev

/-- A manifest entry removed at the root (R345). -/
def State.rootManRemove (s : State) (d dev : Nat) : State :=
  if !s.listed d then s.refuseAction 1 d 3 St.badRange dev
  else
    let v := d / 2
    let used := decide (0 < s.homedAt v) || s.pool.dirMap.any (fun e => e.2 == v) || (v == 0 && decide (s.pool.dirMap.length < 4096))
    if (used && !s.listed (d ^^^ 1)) || s.activeOf v == d then s.refuseAction 1 d 3 St.busy dev
    else s.issueOp (.manRemove d) dev

/-- A directory map entry changed at the root (R346): the vault must have a listed device. -/
def State.rootMap (s : State) (i v dev : Nat) : State :=
  if s.listed (2 * v) || s.listed (2 * v + 1) then s.issueOp (.mapEntry i v) dev else s.rootResult dev 0 St.badRange

/-- The next pool persist point (R245): points run one at a time, and requests that came meanwhile join the next one. -/
def State.pointNext (s : State) : State :=
  if s.pool.pointWait = [] ∨ s.pool.pointFor ≠ [] then s
  else
    let n := s.persist.pointNo + 1
    let s := s.modPool (fun p => { p with pointFor := p.pointWait, pointWait := [] })
    (s.modPersist (fun p => { p with pointNo := n })).issueOp (.point n) noDev

/-- An action refused for want of authority (R329): BUSY in its status object. -/
def State.refuseBusy (s : State) (a : Action) (dev : Nat) : State :=
  match a with
  | .volCreate n _ _ _ => s.refuseAction 0 n 1 St.busy dev
  | .volResize n _ => s.refuseAction 0 n 2 St.busy dev
  | .volDelete n => s.refuseAction 0 n 3 St.busy dev
  | .share v _ _ _ => s.refuseAction 2 v 0 St.busy dev
  | .manAdd e => s.refuseAction 1 e.dev 1 St.busy dev
  | .manAddr e => s.refuseAction 1 e.dev 2 St.busy dev
  | .manRemove d => s.refuseAction 1 d 3 St.busy dev
  | _ => s.rootResult dev 0 St.busy

/-- An action that the root handles (R27, R325, R329, R340). -/
def State.rootAct (s : State) (a : Action) (dev : Nat) : State :=
  if needsAuthority a && !s.pool.authority then s.refuseBusy a dev
  else match a with
    | .point _ => (s.modPool (fun p => { p with pointWait := p.pointWait ++ [dev] })).pointNext
    | .volCreate n size cls label => s.rootCreate n size cls label dev
    | .volResize n size => s.rootResize n size dev
    | .volDelete n => s.rootDelete n dev
    | .share v sp c f => s.rootShare v sp c f dev
    | .manAdd e => s.rootManAdd e dev
    | .manAddr e => s.rootManAddr e dev
    | .manRemove d => s.rootManRemove d dev
    | .mapEntry i v => s.rootMap i v dev
    | .room v p h st => s.modPlace (fun x => { x with room := insertKey v { p := p, h := h, state := st } x.room })
    | .census c => (s.takeCensus dev c).treeDown s.pool.opNo 0 (.broadcast [] [(dev, c)])
    | a => s.issueOp a dev

/-- Whether an ordered action is in progress at the root (R27, R325). -/
def State.rootBusy (s : State) : Bool := s.pool.ops.any (fun o => !o.done && isOrdered o.act)

/-- Actions that waited their turn at the root: `fuel` at most. -/
def State.rootQueue (s : State) (fuel : Nat) : State :=
  match fuel with
  | 0 => s
  | fuel + 1 =>
    match s.pool.queue with
    | [] => s
    | (a, dev) :: rest =>
      if s.rootBusy then s else ((s.modPool (fun p => { p with queue := rest })).rootAct a dev).rootQueue fuel

/-- An action at the device it has reached (R53, R325): the root handles it in arrival order; another device sends it on to the
root it follows, or holds it while it knows none. -/
def State.action (s : State) (a : Action) (dev : Nat) : State :=
  if s.pool.isRoot then
    if isOrdered a && s.rootBusy then s.modPool (fun p => { p with queue := p.queue ++ [(a, dev)] }) else s.rootAct a dev
  else if s.pool.root = noDev then s.modDict (fun d => { d with held := d.held ++ [(a, dev)] })
  else s.tree s.pool.root 0 0 false (.action a dev)

/-- The actions a device held while it knew no root, once it is the root itself (R53): handled in the order they came. -/
def State.ownHeld (s : State) : State :=
  let l := s.dict.held
  if s.pool.isRoot then l.foldl (fun s a => s.action a.1 a.2) (s.modDict (fun d => { d with held := [] })) else s

/-- An action of this device handed to the root (R53), its answer awaited; `ring`: the ring descriptor that waits for it. -/
def State.handToRoot (s : State) (a : Action) (ring : Option (Nat × Nat)) : State :=
  (s.modPool (fun p => { p with asked := p.asked ++ [(a, ring)] })).action a s.pool.number

/-! ### Actions at their latch time (R325, R340) -/

/-- The outcome of a volume action shown, with source 140 at the device that asked (R42). -/
def State.volOutcome (s : State) (n act st dev : Nat) : State :=
  let s := s.modVol n (fun v => { v with status := st, dev := dev })
  if dev = s.pool.number then s.raise 140 0 (leBytes 2 n ++ leBytes 1 act ++ leBytes 1 st ++ leBytes 2 dev) else s

/-- Entries in rising device number. -/
def insertEntry (e : MEntry) (l : List MEntry) : List MEntry :=
  match l with
  | [] => [e]
  | x :: l => if e.dev < x.dev then e :: x :: l else if e.dev = x.dev then e :: l else x :: insertEntry e l

/-- The manifest with an entry changed: its generation rises, source 135 (R323, R325). -/
def State.manifestChanged (s : State) (d act : Nat) : State :=
  let s := s.modPool (fun p => { p with manGen := p.manGen + 1, manStatus := St.ok })
  let s := s.modPool (fun p => { p with entries := p.entries.map (fun e => if e.dev = d then sealEntry { e with gen := s.pool.manGen } else e) })
  s.raise 135 act (leBytes 2 d ++ leBytes 1 act ++ leBytes 4 s.pool.manGen)

/-- The manifest comes to list the twin of a device in state Alone (R276): it is then Active, twin lost, and its twin joins by full resync, except
under setting 2 of the port roles (R286; DEDUCED, log entry 128: R278 lists no such row). -/
def State.twinJoins (s : State) (d : Nat) : State :=
  if s.numbered ∧ d = s.twinDev ∧ s.twin.state = 3 ∧ s.hinge.roles ≠ 2 then s.modTwin (fun t => { t with state := 2, resyncAll := true }) else s

/-- The manifest no longer lists the twin of an active device (R276, R345): the twin is lost, and the vault runs in state Alone. -/
def State.twinLeaves (s : State) (d : Nat) : State :=
  if s.numbered ∧ d = s.twinDev ∧ (s.twin.state = 1 ∨ s.twin.state = 2) then
    let s := s.declareLost 1
    let s := s.modPersist (fun p => { p with unacked := [], mirroring := false, horizon := p.seq })
    s.modTwin (fun t => { t with state := 3, resyncOn := false, resync := [], resyncMode := 0 })
  else s

/-- This device leaves the pool (R15, R345): it has no number, serves no host and has no role. -/
def State.leavePool (s : State) : State :=
  let s := s.modPool (fun p => { p with number := noDev, root := noDev, isRoot := false, authority := false, parent := noDev, present := [] })
  (s.modHost (fun h => { h with creditsOpen := false })).modTwin (fun t => { t with state := 0 })

/-- The directory entries and group records of a map index as a transfer carries them. -/
def State.mapEnts (s : State) (i : Nat) : List MapEnt :=
  (s.place.dir.filter (fun e => mapIndex e.1 == i && !e.2.unheld)).map (fun e => { e.2.image e.1 with state := if e.2.state = 1 then 0 else e.2.state })

/-- The entries of a map index sent to their new directory vault, 64 a frame, the last one marked (R346): `fuel` frames at most. -/
def State.sendEnts (s : State) (d i fuel : Nat) (l : List MapEnt) : State :=
  match fuel with
  | 0 => s
  | fuel + 1 =>
    if l.length ≤ 64 then s.send d (.mapEntries i l true)
    else (s.send d (.mapEntries i (l.take 64) false)).sendEnts d i fuel (l.drop 64)

/-- The map entry of an index changes (R346): the old directory vault sends its entries, the new one waits for them; this device's own requests
ask the new one. -/
def State.mapChanged (s : State) (i v : Nat) : State :=
  let a := getD s.pool.dirMap i 0
  let s := s.modPool (fun p => { p with dirMap := insertKey i v p.dirMap })
  if a = v then s
  else
    let mine := s.numbered && s.vault == a && s.serves
    let s :=
      if mine then
        let ents := s.mapEnts i
        let s := s.raise 137 0 (leBytes 2 i ++ leBytes 2 a ++ leBytes 2 v)
        let s := s.modPool (fun p => { p with transfers := p.transfers ++ [(i, a, v)] })
        let s := s.sendEnts (s.activeOf v) i (ents.length + 1) ents
        let s := s.modPlace (fun p => { p with dir := p.dir.filter (fun e => mapIndex e.1 != i), cooling := p.cooling.filter (fun k => mapIndex k != i) })
        let s := ents.foldl (fun s e => s.metaSend (.dirGone e.key)) s
        (s.modPool (fun p => { p with transfers := p.transfers.filter (fun t => t.1 != i) })).raise 137 1 (leBytes 2 i ++ leBytes 2 a ++ leBytes 2 v)
      else s
    let s := if s.numbered && s.vault == v && s.serves then
      (s.modPool (fun p => { p with mapWait := insertKey i a p.mapWait, transfers := p.transfers ++ [(i, a, v)] })).raise 137 0
        (leBytes 2 i ++ leBytes 2 a ++ leBytes 2 v)
      else s
    (s.host.reqs.filter (fun (e : EReq) => e.lookup && mapIndex e.key == i)).foldl (fun s (e : EReq) => s.route e.num 8) s

/-- Every owner grant ends (R64). -/
def State.endGrants (s : State) : State :=
  s.modDict (fun d => { d with slots := d.slots.map (fun e => (e.1, { e.2 with grant := false })) })

/-- What a pool-state action does at its latch time (R325): the generation rises; a refusal only shows its status. -/
def State.doAction (s : State) (a : Action) (dev : Nat) : State :=
  let next := fun (s : State) => s.modPool (fun p => { p with gen := p.gen + 1 })
  match a with
  | .volCreate n size cls label =>
    let num := s.pool.lastNumber + 1
    let s := (next s).modPool (fun p => { p with lastNumber := num })
    (s.modVol n (fun v => { v with state := 2, size := size, cls := cls, label := label, number := num })).volOutcome n 1 St.ok dev
  | .volResize n size =>
    let s := next s
    let v := s.vol n
    let s := if size < v.size then
        (s.modPool (fun p => { p with
          releases := p.releases ++ [{ gen := p.gen, volume := n, number := v.number, fromExt := size }]
          appliedGen := p.gen })).releaseRange n size
      else s
    (s.modVol n (fun v => { v with state := 2, size := size, newSize := 0 })).volOutcome n 2 St.ok dev
  | .volDelete n =>
    let s := next s
    let v := s.vol n
    let s := (s.modPool (fun p => { p with
        releases := p.releases ++ [{ gen := p.gen, volume := n, number := v.number, fromExt := 0 }]
        appliedGen := p.gen })).releaseRange n 0
    s.modVol n (fun v => { v with state := 4, dev := dev })
  | .volAttr n cls label =>
    if (s.vol n).state = 0 then s else (next s).modVol n (fun v => { v with cls := cls, label := label })
  | .share v sp c f =>
    let s := (next s).modPool (fun p => { p with shares := insertKey v (sp, c, f) p.shares })
    if s.numbered && v == s.vault then
      ((((s.setSetting 0x2010 2 sp).setSetting 0x2010 4 c).setSetting 0x2010 8 f).modPool (fun p => { p with shareStatus := St.ok })).overCheck
    else s
  | .manExtents d n =>
    (next s).modPool (fun p => { p with
      manGen := p.manGen + 1
      entries := p.entries.map (fun x => if x.dev = d then sealEntry { x with extents := n, gen := p.manGen + 1 } else x) })
  | .manAdd e =>
    let s := s.twinJoins e.dev
    let s := ((next s).modPool (fun p => { p with entries := insertEntry e p.entries })).manifestChanged e.dev 1
    if s.numbered && e.dev == s.twinDev && s.hinge.roles == 2 then s.raise 112 4 (leBytes 2 0 ++ leBytes 1 0 ++ leBytes 1 4) else s
  | .manAddr e =>
    ((next s).modPool (fun p => { p with entries := p.entries.map (fun x =>
      if x.dev = e.dev then { x with macs := e.macs, ips := e.ips, noRoot := e.noRoot } else x) })).manifestChanged e.dev 2
  | .manRemove d =>
    let s := s.twinLeaves d
    let s := ((next s).modPool (fun p => { p with
      entries := p.entries.filter (fun x => x.dev != d)
      present := delSet d p.present
      root := if p.root = d then noDev else p.root })).manifestChanged d 3
    let s := s.modPool (fun p => { p with parent := if s.pool.root = noDev then noDev else s.parentOf s.pool.number })
    if d = s.pool.number then s.leavePool else s
  | .mapEntry i v => (next s).mapChanged i v
  | .password salt hash zero =>
    ((next s).modDict (fun d => { d with pwSalt := salt, pwHash := hash, pwSet := !zero })).endGrants
  | .setting k v => (next s).modSettings (insertKey k v)
  | .outcome kind n act st =>
    if kind = 0 then s.volOutcome n act st dev
    else if kind = 1 then s.modPool (fun p => { p with manStatus := st })
    else if s.numbered && n == s.vault then s.modPool (fun p => { p with shareStatus := st })
    else s
  | _ => s

/-- A pool-state action applied at its latch time (R325), with the pool's free capacity looked at again (R42). -/
def State.applyAction (s : State) (a : Action) (dev : Nat) : State := (s.doAction a dev).freeCheck

/-- A volume action as its announcement shows it until its latch time (R29): Creating with its size and number, Resizing, Deleting. -/
def State.announceVol (s : State) (a : Action) (dev : Nat) : State :=
  match a with
  | .volCreate n size cls label => s.modVol n (fun v => { v with
      state := 1, size := size, cls := cls, label := label, number := s.pool.lastNumber + 1, dev := dev })
  | .volResize n size => if size = (s.vol n).size then s else s.modVol n (fun v => { v with state := 3, newSize := size, dev := dev })
  | .volDelete n => s.modVol n (fun v => { v with state := 4, dev := dev })
  | _ => s

/-- The releases that a device missed while it was absent, in the order of their generations, before it serves (R543). -/
def State.applyMissed (s : State) : State :=
  let missed := s.pool.releases.filter (fun r => decide (s.pool.appliedGen < r.gen))
  let s := missed.foldl (fun s r => s.releaseRange r.volume r.fromExt) s
  s.modPool (fun p => { p with appliedGen := p.gen })

/-! ### Barriers (R337) -/

/-- The barrier's end at the root (R337): RELEASE to every device, and source 133 for every status but OK. -/
def State.barrierEnd (s : State) (op st absent : Nat) : State :=
  let s := (s.modPool (fun p => { p with barrier := none, arrived := [] })).treeDown op 0 (.release st)
  let s := s.count 498 1
  if st = St.ok then s else s.raise 133 st (leBytes 8 op ++ leBytes 4 absent)

/-- The barrier in hand once every present child has arrived or become absent (R337): the subtree's arrival goes to the parent, or the
root releases the barrier. A child that has become absent meanwhile counts as absent. -/
def State.barrierCheck (s : State) : State :=
  match s.pool.barrier with
  | none => s
  | some (op, n, k) =>
    if !(s.presentChildren.filter (fun d => !s.unreachable d)).all s.pool.arrived.contains then s
    else
      let k := k + (s.presentChildren.filter (fun d => s.unreachable d && !s.pool.arrived.contains d)).length
      if s.pool.isRoot then s.barrierEnd op (if k = 0 then St.ok else St.partialDone) k
      else (s.modPool (fun p => { p with barrier := none, arrived := [] })).tree s.pool.parent op 0 false (.arrive n k)

/-! ### Completion of latch operations (R340) -/

/-- A latch operation changed. -/
def State.modOp (s : State) (op : Nat) (f : LatchOp → LatchOp) : State :=
  s.modPool (fun p => { p with ops := p.ops.map (fun o => if o.op = op then f o else o) })

/-- The latch operation of a number. -/
def State.opOf (s : State) (op : Nat) : Option LatchOp := s.pool.ops.find? (fun o => o.op == op)

/-- The vaults of the manifest with no device in the last ready wave. -/
def State.absentVaults (s : State) : List Nat := s.vaults.filter (fun v => !s.vaultPresent v)

/-- A pool persist point completes at the root (R245): OK only when every vault reported success; source 169 for each vault that
is absent, and the answer to every request that joined it; the next point follows. -/
def State.pointEnds (s : State) (n op status missed : Nat) : State :=
  let gone := s.absentVaults
  let st := if status = St.ok ∧ missed = 0 ∧ gone = [] then St.ok else St.homeFailed
  let s := gone.foldl (fun s v => s.raise 169 2 (leBytes 4 n ++ leBytes 2 v ++ leBytes 1 2)) s
  let devs := s.pool.pointFor
  let s := s.modPersist (fun p => { p with pointStatus := st, pointMissed := missed + gone.length })
  let s := s.modPool (fun p => { p with pointFor := [] })
  (devs.foldl (fun s d => s.rootResult d op st) s).pointNext

/-- A latch operation's end at this device once its own part and that of every present child in reach is done (R340): DONE to the parent, or at
the root the answer to the requester and the next action. -/
def State.opCheck (s : State) (op : Nat) : State :=
  match s.opOf op with
  | none => s
  | some o =>
    if !o.done || !(s.presentChildren.filter (fun d => !s.unreachable d)).all o.dones.contains then s
    else
      let s := s.modPool (fun p => { p with ops := p.ops.filter (fun x => x.op != op) })
      if s.pool.isRoot then
        match o.act with
        | .point n => (s.pointEnds n op o.status o.missed).rootQueue s.pool.queue.length
        | _ => (s.rootResult o.dev op o.status).rootQueue s.pool.queue.length
      else s.tree s.pool.parent op o.latch o.late (.done o.status o.covered o.missed o.firstMissed)

/-- Each latch operation in hand looked at again, where a child has become absent. -/
def State.opChecks (s : State) : State := s.pool.ops.foldl (fun s o => s.opCheck o.op) s

/-- A device saves its installed extents in its manifest entry, by a pool-state action, when they differ from the value last saved (R21;
the spec does not say how a value comes to be saved: DESIGN CHOICE, log entry 99). -/
def State.saveExtents (s : State) : State :=
  match s.entryOf s.pool.number with
  | some e => if s.numbered ∧ s.dram.pop = 1 ∧ e.extents ≠ s.ownExtents then s.action (.manExtents e.dev s.ownExtents) noDev else s
  | none => s

/-- A vault that a ready wave shows for the first time enters the room table (R197), open, with the room its shares and the extents last
counted for it leave. -/
def State.enterRoom (s : State) : State :=
  let new := s.vaults.filter (fun v => s.vaultPresent v && (assoc s.place.room v).isNone)
  new.foldl (fun s v =>
    let sh := s.sharesOf v
    let p := s.placeableAs v sh - s.homedAt v
    let h := homeableOf (s.vaultExtents v) sh.1 sh.2.1 - s.homedAt v
    s.modPlace (fun x => { x with room := insertKey v { p := p, h := h, state := 0 } x.room })) s

/-- The vaults of a ready wave are asked for the keys whose directory entries are being rebuilt here (R178): one that joins may be the home. -/
def State.askRebuilds (s : State) : State :=
  if !s.serves then s
  else s.place.rebuilds.foldl (fun s r =>
    s.sendAll (s.others.filter (fun x => s.activeOf (x / 2) == x)) (.placement 14 { key := r.key, vault := 0xFFFF })) s

/-- What follows from a ready wave at a present device (R21, R28, R178, R197, R337). -/
def State.afterWave (s : State) : State := s.enterRoom.saveExtents.sendCensus.askRebuilds.barrierCheck.opChecks

/-- Whether a latch operation may act now (R339): its latch time has come, on this device's own pool time. -/
def State.opDue (s : State) (p : Action → Bool) : Option LatchOp :=
  s.pool.ops.find? (fun o => !o.done && p o.act && decide (o.latch ≤ s.poolTime))

/-- The lateness of an action counted and recorded (R339): acted on receipt after its latch time, or without locked time. -/
def State.opLate (s : State) (o : LatchOp) : State :=
  let s := s.count 499 1
  if o.late || s.hinge.ptpAcc != 1 then
    ((s.count 500 1).raise 132 0 (leBytes 8 o.op ++ leBytes 8 (s.poolTime - o.latch) ++ leBytes 1 s.hinge.ptpAcc)).modOp o.op (fun x => { x with late := true })
  else s

/-- A latch operation's own part done, with a status and the vaults it does not cover. -/
def State.opDone (s : State) (op st missed : Nat) : State :=
  (s.modOp op (fun o => { o with
    done := true
    status := max o.status st
    covered := o.covered + (if s.isActive && missed == 0 then 1 else 0)
    missed := o.missed + missed
    firstMissed := if 0 < missed then min o.firstMissed s.vault else o.firstMissed })).opCheck op

/-! ### The room table (R170, R171) -/

/-- This vault's figures for the room table. -/
def State.ownRoom (s : State) : Room where
  p := s.placeable - s.homed - s.place.migIns.length
  h := s.homeable - s.homed - s.place.migIns.length
  state := s.setting 0x3220 9

/-- An allocation that found no home is tried again (R171). One whose directory section was full needs room in it first; source 148 where there is
still none (R173). -/
def State.retryAllocation (s : State) (k : Nat) : State :=
  let s := s.dropLateWaits k
  let d := s.dirEnt k
  if d.state ≠ 1 ∨ d.dst ≠ 0xFFFF ∨ d.waiting = [] then s
  else if d.unheld && !s.dirRoom then s.raise 148 0 (leBytes 5 k ++ leBytes 1 0)
  else
    let s := (if d.unheld then s.modDir k (fun d => { d with unheld := false }) else s).allocate k
    if (s.dirEnt k).state = 2 then s.dirHomed k else s

/-- Allocations that found no home are tried again at every room table update (R171). -/
def State.retryAllocations (s : State) : State := (s.place.dir.map Prod.fst).foldl (fun s k => s.retryAllocation k) s

/-- The room figures published at an epoch's end (R170): the device that serves its vault sends its own towards the root, and the root, whether it
serves or not, broadcasts the table. -/
def State.publishRoom (s : State) : State :=
  let r := s.ownRoom
  let s := if s.serves then s.modPlace (fun p => { p with room := insertKey s.vault r p.room }) else s
  if s.pool.isRoot then
    let s := s.treeDown s.place.epoch 0 (.broadcast (s.place.room.flatMap (fun e => [e.1, e.2.p, e.2.h, e.2.state])) [])
    let s := s.modPlace (fun p => { p with roomEpoch := p.epoch })
    if s.serves then s.retryAllocations else s
  else if s.pool.root = noDev ∨ !s.serves then s
  else s.tree s.pool.root s.place.epoch 0 false (.action (.room s.vault r.p r.h r.state) s.pool.number)

/-! ### Vault values (R38) -/

/-- The objects that hold a vault's value and are no pool state (R38, R192, R247, R280, R428, 0x3500:12): a change at either device is
carried to the other. -/
def vaultValue (k : Nat) : Bool :=
  (decide (0x3300 ≤ k / 256 ∧ k / 256 ≤ 0x3330) && !poolObject k) || k / 256 == 0x2100 ||
    [okey 0x3500 0x12, okey 0x3600 1, okey 0x3600 7, okey 0x3220 9].contains k

/-- Source 150 where the vault's placement state is another than it was (R192, R199), raised where the vault is served; a draining vault that homes
nothing is drained at once. -/
def State.placeState (s : State) (was : Nat) : State :=
  let st := s.setting 0x3220 9
  let s := if st ≠ was ∧ s.serves then s.raise 150 0 (leBytes 2 s.vault ++ leBytes 1 st ++ leBytes 4 s.homed) else s
  s.overCheck

/-- A vault's value set here (R38); one of 0x2100 that the twin told waits for its heartbeat frame (R280). -/
def State.putVaultValue (s : State) (k v : Nat) : State :=
  if k / 256 = 0x2100 then s.modTwin (fun t => { t with told := insertKey k v t.told })
  else (((s.setSetting (k / 256) (k % 256) v).placeState (s.setting 0x3220 9)).ceilingCheck s.ceiling).afterClean

/-- The values of 0x2100 committed here take effect with the heartbeat frame about to go out, which the twin's share goes before (R280). -/
def State.sendVals (s : State) : State :=
  (s.twin.vals.foldl (fun s e => (s.tellTwin e.1 e.2).setSetting (e.1 / 256) (e.1 % 256) e.2) s).modTwin (fun t => { t with vals := [] })

/-- The values of 0x2100 the twin told take effect with its heartbeat frame (R280). -/
def State.takeVals (s : State) : State :=
  (s.twin.told.foldl (fun s e => s.setSetting (e.1 / 256) (e.1 % 256) e.2) s).modTwin (fun t => { t with told := [] })

end Sys2Proof.Machine
end

