-- ==== Sys2Proof/Machine/RingOps.lean ====
section
/-! DEFINITION. Work rings: descriptor checks (R133, R134, R137), completions (R135, R136, R150, R151), and the pieces that move
and compute (R139 to R149), each piece a `Work` whose line requests take the way of any other request. -/

namespace Sys2Proof.Machine

/-! ### Sessions and volume bytes -/

/-- A session's running part. -/
def State.sess (s : State) (n : Nat) : Sess := getD s.host.sess n {}

/-- The pool address of a host address in a session (R31). -/
def State.poolAt (s : State) (n hpa : Nat) : Nat :=
  s.setting (0x4000 + n) 7 * 2 ^ 48 + (s.setting (0x4000 + n) 8 + hpa - s.setting (0x4000 + n) 5)

/-- Whether a host range lies inside a session's window in force (R115). -/
def State.inWindow (s : State) (n hpa len : Nat) : Bool :=
  decide (s.setting (0x4000 + n) 5 ≤ hpa ∧ hpa + len ≤ s.setting (0x4000 + n) 5 + (s.sess n).acc)

/-- A run of bytes at a pool address cut into lines: address, line, byte enables, poison; `fuel` lines at most. -/
def cutLines (pa : Nat) (b : List (Byte × Bool)) (fuel : Nat) : List (Nat × Line × BitVec 64 × Bool) :=
  match fuel with
  | 0 => []
  | fuel + 1 =>
    if b = [] then []
    else
      let k := pa % 64
      let part := b.take (64 - k)
      (pa, BitVec.ofNat 512 (fromLe (part.map Prod.fst) * 2 ^ (8 * k)), BitVec.ofNat 64 ((2 ^ part.length - 1) * 2 ^ k),
        part.any Prod.snd) :: cutLines (pa + part.length) (b.drop part.length) fuel

/-- Bytes without poison. -/
def clean (b : Bytes) : List (Byte × Bool) := b.map (fun x => (x, false))

/-- A request that this device makes of a volume for itself, silent to every host. -/
def State.ownReq (s : State) (e : EReq) : State :=
  let n := s.host.nextNum
  (s.modHost (fun h => { h with nextNum := (n + 1) % 2 ^ 48 })).startReq { e with num := n, silent := true, since := s.now }

/-- Bytes written into a session's window by the device itself for a ring of a port (R152). -/
def State.volWrite (s : State) (port sess hpa : Nat) (b : Bytes) : State :=
  (cutLines (s.poolAt sess hpa) (clean b) (b.length + 1)).foldl (fun s l =>
    s.ownReq { num := 0, write := true, port := port, host := 0, tag := 0, sess := sess, key := l.1 / extentBytes, off := l.1 % extentBytes / 64 * 64,
               line := l.2.1, be := l.2.2.1, cls := (s.sess sess).eff }) s

/-! ### Rings -/

/-- A ring. -/
def State.ring (s : State) (r : Nat) : Ring := getD s.rings.rings r {}

/-- A ring changed. -/
def State.modRing (s : State) (r : Nat) (f : Ring → Ring) : State :=
  s.modRings (fun x => { x with rings := modD x.rings r {} f })

/-- Whether a ring's memory may be reached for it now: its port is in service (R154), and in multi-logical-device mode Bus Master Enable is set
(R126). -/
def State.busOk (s : State) (r : Ring) : Bool :=
  (s.hostPort r.port).link == 2 && (r.mem != 0xFFFF || (s.ldev r.port r.host).busMaster)

/-- Whether rings run at all: the device serves hosts (R155) and no pool reset has latched (R341). -/
def State.ringsRun (s : State) : Bool := s.host.creditsOpen && s.admits && !s.host.withhold.contains 2

/-- The state word of R131 and the descriptor head, published in a volume ring's line (R152). -/
def State.publish (s : State) (n : Nat) : State :=
  let r := s.ring n
  if r.mem = 0xFFFF then s else s.volWrite r.port r.mem (r.bell + 64) (leBytes 4 r.head ++ leBytes 2 (r.state + 256 * r.halt) ++ [0, 0])

/-- A ring's vector signalled (R151). -/
def State.signal (s : State) (n : Nat) : State :=
  let r := s.ring n
  let s := s.modRing n (fun r => { r with unsig := 0 })
  if r.vector = 0xFFFF then s else s.msix r.port r.host r.vector

/-- A descriptor's read that is out is given up. -/
def State.dropFetch (s : State) (n : Nat) : State :=
  (s.modRing n (fun r => { r with fetching := false })).modRings (fun x => { x with works := x.works.filter (fun w => !(w.kind == 4 && w.ring == n)) })

/-- A ring halts (R153): source 313, and its vector where `tell`; a halted, stopping or free ring stays as it is. -/
def State.haltWith (s : State) (n status : Nat) (tell : Bool) : State :=
  let r := s.ring n
  if r.state ≠ 1 then s
  else
    let s := (s.dropFetch n).modRing n (fun r => { r with state := 2, halt := status })
    let s := s.raise 313 status (leBytes 2 n ++ leBytes 1 status ++ leBytes 4 r.head)
    (if tell then s.signal n else s).publish n

/-- A ring halts, and its vector is signalled at once (R151). -/
def State.haltRing (s : State) (n status : Nat) : State := s.haltWith n status true

/-! ### Descriptor fields (R133) -/

/-- Opcode. -/
def dOp (b : Bytes) : Nat := field b 0 1
/-- Signal at completion. -/
def dIrq (b : Bytes) : Bool := bit (field b 1 1) 0
/-- Halt unless OK. -/
def dHalt (b : Bytes) : Bool := bit (field b 1 1) 1
/-- Session A. -/
def dSessA (b : Bytes) : Nat := field b 2 2
/-- Session B. -/
def dSessB (b : Bytes) : Nat := field b 4 2
/-- Aux. -/
def dAux (b : Bytes) : Nat := field b 6 2
/-- Tag. -/
def dTag (b : Bytes) : Nat := field b 8 4
/-- Address A. -/
def dA (b : Bytes) : Nat := field b 16 8
/-- Address B. -/
def dB (b : Bytes) : Nat := field b 24 8
/-- Length. -/
def dLen (b : Bytes) : Nat := field b 32 8
/-- Operand bytes from `off` (40 to 59), `n` of them. -/
def dOpnd (b : Bytes) (off n : Nat) : Nat := field b off n

/-- Whether an opcode names session A. -/
def usesA (op : Nat) : Bool := [1, 2, 3, 5, 6, 7, 8, 9, 10, 11, 12].contains op
/-- Whether an opcode names session B; ATOMIC in a volume ring (R152). -/
def usesB (op : Nat) (vol : Bool) : Bool := [1, 4, 8, 10, 11].contains op || (op == 7 && vol)
/-- Whether an opcode's session A must be read-write. -/
def writesA (b : Bytes) : Bool := [1, 2, 3, 7, 10, 11, 12].contains (dOp b) || (dOp b == 6 && decide (2 ≤ dOpnd b 40 1))
/-- Whether an opcode takes a length. -/
def usesLen (op : Nat) : Bool := [1, 2, 3, 4, 5, 6, 8, 9, 10, 11].contains op
/-- Whether an opcode uses Address A. -/
def usesAddrA (op : Nat) : Bool := [1, 2, 3, 4, 5, 6, 7, 8, 9, 10, 11].contains op
/-- Whether an opcode uses Address B. -/
def usesAddrB (op : Nat) : Bool := [1, 3, 4, 7, 8, 10, 11].contains op
/-- Whether an opcode uses Aux. -/
def usesAux (op : Nat) : Bool := [7, 10, 11].contains op

/-- The operand bytes an opcode leaves unused, as pairs of offset and length (R137). -/
def unusedOperands (op : Nat) : List (Nat × Nat) :=
  if op = 2 then [(48, 12)]
  else if op = 6 then [(41, 3), (48, 12)]
  else if op = 9 then [(44, 16)]
  else if op = 10 ∨ op = 11 then [(41, 1)]
  else [(40, 20)]

/-- The bytes of the range of A that an opcode names: a GCM ENCRYPT has its tag behind it (R142). -/
def lenA (b : Bytes) : Nat := dLen b + (if dOp b = 10 ∧ dOpnd b 40 1 = 4 then 16 else 0)
/-- The bytes of the range of B that an opcode names: a GCM DECRYPT has its tag behind it; a volume ring's ATOMIC its batch. -/
def lenB (b : Bytes) : Nat := if dOp b = 7 then 32 * dAux b else dLen b + (if dOp b = 11 ∧ dOpnd b 40 1 = 4 then 16 else 0)

/-- Whether an opcode's length is in its range (R137, R142). -/
def lenInRange (b : Bytes) : Bool :=
  let op := dOp b
  let n := dLen b
  let mode := dOpnd b 40 1
  if [1, 2, 3, 4, 8, 9].contains op then decide (1 ≤ n ∧ n ≤ 2 ^ 30)
  else if op = 5 then decide (1 ≤ n ∧ n ≤ 2 ^ 48)
  else if op = 6 then decide (extentBytes ≤ n ∧ n ≤ 2 ^ 48) && n % extentBytes == 0
  else if op = 10 ∨ op = 11 then
    if mode = 1 ∨ mode = 3 then n % 16 == 0 && decide (16 ≤ n ∧ n ≤ 2 ^ 26)
    else if mode = 4 ∧ op = 11 then decide (1 ≤ n ∧ n ≤ 2 ^ 20)
    else decide (1 ≤ n ∧ n ≤ 2 ^ 26)
  else true

/-- Whether two ranges of pool addresses share a byte. -/
def overlaps (a b n : Nat) : Bool := decide (a < b + n ∧ b < a + n)

/-- The sessions a descriptor names. -/
def descSessions (b : Bytes) (vol : Bool) : List Nat :=
  (if usesA (dOp b) then [dSessA b] else []) ++ (if usesB (dOp b) vol then [dSessB b] else [])

/-! ### Checks (R134) -/

/-- Whether a session is bound to a ring's logical device or PBR ID (R134 step 4). -/
def State.sessOfRing (s : State) (r : Ring) (n : Nat) : Bool :=
  s.setting (0x4000 + n) 4 == r.host && (s.host.mode == 1 || s.setting (0x4000 + n) 3 == r.port)

/-- Steps 3 to 6 of R134 for one session: `w` where it must be read-write, `binds` the bindings in force at the fetch. -/
def State.sessFails (s : State) (r : Ring) (binds : List (Nat × Nat)) (n hpa len : Nat) (w addr : Bool) : List Nat :=
  if 16383 < n then [St.badRange]
  else
    let x := s.sess n
    if x.state = 0 then [St.noSuchObject]
    else
      fails (addr && !s.inWindow n hpa len) St.badRange
        ++ fails (!s.sessOfRing r n || s.setting (0x4000 + n) 9 == 0 || x.state == 3 || x.dead
            || binds.any (fun e => e.1 == n && e.2 != x.binding)) St.noAccess
        ++ fails (w && s.setting (0x4000 + n) 9 == 1) St.readOnly

/-- The failed checks of a descriptor in the order of R134. -/
def State.descFails (s : State) (r : Ring) (d : Desc) : List Nat :=
  let b := d.bytes
  let op := dOp b
  let vol := r.mem != 0xFFFF
  if d.bad then [St.badDescriptor]
  else
    let form :=
      op == 0 || decide (14 < op) || field b 1 1 / 4 != 0 || field b 12 4 != 0
      || (!usesA op && dSessA b != 0xFFFF) || (!usesB op vol && dSessB b != 0xFFFF)
      || (!usesAux op && dAux b != 0) || (!usesAddrA op && op != 12 && dA b != 0) || (!usesAddrB op && dB b != 0)
      || (!usesLen op && op != 7 && op != 12 && op != 13 && op != 14 && dLen b != 0)
      || (unusedOperands op).any (fun u => field b u.1 u.2 != 0)
      || (vol && (op == 3 || op == 4))
      || (op == 6 && decide (4 < dOpnd b 40 1))
      || ((op == 10 || op == 11) && (dOpnd b 40 1 == 0 || decide (4 < dOpnd b 40 1) || (dOpnd b 40 1 == 4 && dOpnd b 56 4 != 0)))
    let range :=
      !lenInRange b || (decide (12 ≤ op ∨ op = 7) && dLen b != 0) || (op == 12 && dA b != 0)
      || (op == 7 && (dAux b == 0 || decide (256 < dAux b)))
    let sessA := if usesA op then s.sessFails r d.binds (dSessA b) (dA b) (lenA b) (writesA b) (op != 7 && op != 12) else []
    let sessB := if usesB op vol then s.sessFails r d.binds (dSessB b) (dB b) (lenB b) (op == 7) true else []
    let pa := s.poolAt (dSessA b) (dA b)
    let pb := s.poolAt (dSessB b) (dB b)
    let both := usesA op && usesB op vol && decide (dSessA b ≤ 16383 ∧ dSessB b ≤ 16383)
    let lap := both && ((op == 1 && overlaps pa pb (dLen b)) || ((op == 10 || op == 11) && pa != pb && overlaps pa pb (dLen b)))
    let whole := op == 6 && decide (dSessA b ≤ 16383) && pa % extentBytes != 0
    let key := (op == 10 || op == 11) && decide (dSessA b ≤ 16383)
    fails form St.badDescriptor ++ fails (range || lap || whole) St.badRange ++ sessA ++ sessB
      ++ fails (key && dAux b != s.setting (0x4000 + dSessA b) 0x0A) St.noAccess
      ++ fails (key && decide (4095 < dAux b)) St.noSuchObject

/-! ### Line requests of rings and their pieces -/

/-- The session in whose name a piece's requests are made. -/
def Work.who (w : Work) : Nat := if w.sess = 0xFFFF then w.sessB else w.sess

/-- The translation a line of a piece starts with: an extent homed here needs none from the cache. -/
def State.lineHome (s : State) (key : Nat) : Option TEnt :=
  if s.serves then (s.homeSlot key).map (fun slot => { key := key, vault := s.vault, slot := slot, gen := 0 }) else none

/-- A request of a piece, on its way. -/
def State.workReq (s : State) (w : Work) (e : EReq) : State :=
  let n := s.host.nextNum
  let s := (s.modHost (fun h => { h with
    nextNum := (n + 1) % 2 ^ 48
    reqs := h.reqs ++ [{ e with num := n, work := some w.id, port := w.port, sess := w.who, cls := w.cls, since := s.now }] })).modWork w.id (fun w => { w with
      outs := w.outs ++ [(n, e.ix)] })
  s.follow n (s.lineHome e.key) 16

/-- The fields of a piece's request for the byte at a pool address. -/
def lineReq (write : Bool) (pa ix : Nat) : EReq where
  num := 0
  write := write
  port := noPort
  host := 0
  tag := 0
  sess := 0xFFFF
  key := pa / extentBytes
  off := pa % extentBytes / 64 * 64
  ix := ix

/-- A piece ends. -/
def State.workEnd (s : State) (id status prog result : Nat) : State :=
  s.modWork id (fun w => { w with state := 5, status := status, prog := prog, result := result })

/-- The piece's vault is found (R147): a request on its way like any other, for the extent at the piece's start; it is a write
where the piece homes the extent. -/
def State.locate (s : State) (w : Work) (pa : Nat) (write : Bool) : State :=
  s.workReq w { lineReq write pa 0 with off := pa % extentBytes, locate := true }

/-- The lines that a range of pool addresses meets. -/
def rangeLines (pa len : Nat) : Nat := (pa + len + 63) / 64 - pa / 64

/-- Reads of the lines that hold a range of pool addresses, numbered from `base`. -/
def State.readRange (s : State) (w : Work) (base pa len : Nat) : State :=
  (List.range (rangeLines pa len)).foldl (fun s k => s.workReq w (lineReq false (64 * (pa / 64 + k)) (base + k))) s

/-- The bytes a piece has read of a range, each with the poison of its line. -/
def Work.read (w : Work) (base pa len : Nat) : List (Byte × Bool) :=
  ((((List.range (rangeLines pa len)).flatMap (fun k =>
    let x := getD w.got (base + k) (0, false)
    (lineToBytes x.1).map (fun b => (b, x.2)))).drop (pa % 64)).take len)

/-- The lines of a run of bytes at a pool address, in address order, each with its offset in the run and its own pool address. -/
def runLines (pa : Nat) (b : List (Byte × Bool)) : List (Nat × Nat × Line × BitVec 64 × Bool) :=
  (cutLines pa b (b.length + 1)).map (fun l => (l.1 - pa, l))

/-- The next line of a piece goes to its home (R146). -/
def State.issueLine (s : State) (w : Work) : State :=
  match w.todo with
  | [] => s
  | (ix, pa, line, be, poison) :: rest =>
    (s.modWork w.id (fun x => { x with todo := rest, last := some s.host.nextNum })).workReq w
      { lineReq true pa ix with line := line, be := be, poison := poison }

/-- Where the next descriptor of a volume ring lies in the pool (R152). -/
def State.descAt (s : State) (r : Ring) : Nat := s.poolAt r.mem (r.dbase + 64 * (r.head % r.dents))

/-- The read of the next descriptor goes out (R126, R133), to host memory or to the volume that holds the ring (R152). -/
def State.askFetch (s : State) (n : Nat) : State :=
  let r := s.ring n
  if r.state = 1 ∧ !r.fetching ∧ r.head ≠ r.tail ∧ s.busOk r ∧ s.ringsRun then
    let s := s.modRing n (fun r => { r with fetching := true })
    if r.mem = 0xFFFF then s.emit (.busRead r.port r.host (r.dbase + 64 * (r.head % r.dents)) 64)
    else
      let (s, id) := s.newWork { id := 0, kind := 4, ring := n, idx := r.head, desc := [], off := 0, len := 64, state := 2, sess := r.mem, port := r.port }
      match s.workOf id with
      | some w => s.readRange w 0 (s.descAt r) 64
      | none => s
  else s

/-! ### Completions (R135, R136, R150, R151) -/

/-- The ones of a number's bits below `n`. -/
def ones (v n : Nat) : Nat := ((List.range n).filter v.testBit).length

/-- A completion entry (R135). -/
def completionEntry (tag idx status result phase : Nat) (halted : Bool) : Bytes :=
  let v := tag + idx % 65536 * 2 ^ 32 + status * 2 ^ 48 + (phase + 2 * b2n halted) * 2 ^ 56 + result % 2 ^ 64 * 2 ^ 64
  leBytes 16 (if ones v 128 % 2 = 1 then v + 2 ^ 63 else v)

/-- An entry put into the memory of a volume ring (R152): one line, which meets the class of the ring's session. -/
def State.volEntry (s : State) (n idx hpa : Nat) (e : Bytes) : State :=
  let r := s.ring n
  let (s, id) := s.newWork {
    id := 0, kind := 3, ring := n, idx := idx, desc := [], off := 0, len := 16, state := 4, sess := r.mem, port := r.port, cls := (s.sess r.mem).eff
    todo := runLines (s.poolAt r.mem hpa) (clean e) }
  match s.workOf id with
  | some w => s.issueLine w
  | none => s

/-- A completion entry written, with the signals it gives rise to (R151). -/
def State.writeCompletion (s : State) (n : Nat) (c : HeldCompletion) : State :=
  let r := s.ring n
  let e := completionEntry c.tag c.idx c.status c.result (1 - r.cwrit / r.cents % 2) c.halts
  let at_ := r.cbase + 16 * (r.cwrit % r.cents)
  let s := if r.mem = 0xFFFF then s.emit (.busWrite r.port r.host at_ e) else s.volEntry n c.idx at_ e
  let s := s.modRing n (fun r => { r with
    cwrit := (r.cwrit + 1) % 2 ^ 32
    unsig := r.unsig + 1
    unsigAt := if r.unsig = 0 then s.now else r.unsigAt })
  if c.irq || c.halts || decide (r.modN ≤ r.unsig + 1) then s.signal n else s

/-- Whether a volume ring's last entry is still on its way, so that the next one waits for it. -/
def State.entryOut (s : State) (n : Nat) : Bool := s.rings.works.any (fun w => w.kind == 3 && w.ring == n && w.outs != [])

/-- Completions that waited for the bus, the port or service go out in order (R126, R154, R155): `fuel` at most. -/
def State.flushUpTo (s : State) (n fuel : Nat) : State :=
  match fuel with
  | 0 => s
  | fuel + 1 =>
    let r := s.ring n
    match r.held with
    | [] => s
    | c :: rest =>
      if s.busOk r && s.ringsRun && !s.entryOut n then ((s.modRing n (fun r => { r with held := rest })).writeCompletion n c).flushUpTo n fuel
      else s

/-- Every completion of a ring that can be written now. -/
def State.flushHeld (s : State) (n : Nat) : State := s.flushUpTo n (s.ring n).held.length

/-- A stopping ring with nothing left in flight is free (R129), which a volume ring shows in its memory (R152). -/
def State.freeRing (s : State) (n : Nat) : State :=
  let r := s.ring n
  if r.state = 3 ∧ r.flight = [] ∧ r.held = [] ∧ !s.entryOut n then
    ((s.modRing n (fun r => { r with state := 0, halt := 0 })).publish n).modRings (fun x => { x with rings := eraseKey n x.rings })
  else s

/-- A descriptor completes (R136): its cipher context is freed (R434), the statistics of R130, the halt of R150, the entry in the order of completion.
The halt's signal is the entry's own, so that it follows the entry (R151). A FENCE that halts the ring by its Result ends with OK, and the halt
status is 0x00: DESIGN CHOICE, log entry 109. -/
def State.ringComplete (s : State) (n idx : Nat) (b : Bytes) (status result : Nat) : State :=
  let bad := status != St.ok
  let halts := dHalt b && (bad || (dOp b == 13 && result != 0)) && (s.ring n).state == 1
  let s := s.modRings (fun x => { x with
    completed := (x.completed + 1) % 2 ^ 64
    notOk := (x.notOk + b2n bad) % 2 ^ 64
    works := x.works.filter (fun w => !(w.from_ == .none && w.kind != 3 && w.kind != 4 && w.ring == n && w.idx == idx)) })
  let s := s.modCipher (fun c => { c with ctxs := c.ctxs.filter (fun e => !(e.2.user == .ring && e.2.ring == n && e.2.idx == idx)) })
  let s := s.modRing n (fun r => { r with
    flight := r.flight.filter (fun f => f.idx != idx)
    notOk := if dOp b = 13 ∧ !bad then 0 else r.notOk + b2n bad
    held := r.held ++ [{ tag := dTag b, idx := idx, status := status, result := result, irq := dIrq b, halts := halts, blocks := dHalt b || dOp b == 13 }] })
  let s := s.flushHeld n
  let s := if halts then s.haltWith n (if bad then status else St.ok) false else s
  s.freeRing n

/-! ### Starting (R150) -/

/-- Whether the front descriptor of a ring may start now (R136, R150): the ring runs, the in-flight limit and the completion
ring have room, and no earlier FENCE or HALT descriptor is unfinished; a FENCE waits for all of them. -/
def State.mayStart (s : State) (r : Ring) : Bool :=
  match r.fetched with
  | [] => false
  | d :: _ =>
    r.state == 1 && s.ringsRun && decide (r.flight.length < r.limit)
    && decide ((r.cwrit + r.held.length + r.flight.length + 2 ^ 32 - r.chead) % 2 ^ 32 < r.cents)
    && !r.flight.any (fun f => dHalt f.bytes) && !r.held.any HeldCompletion.blocks
    && (dOp d.bytes != 13 || (r.flight == [] && r.held == []))

/-- Front descriptors that fail their checks complete with Result 0 as their turn comes (R134): `fuel` of them at most. -/
def State.completeFailing (s : State) (n fuel : Nat) : State :=
  match fuel with
  | 0 => s
  | fuel + 1 =>
    let r := s.ring n
    match r.fetched with
    | [] => s
    | d :: rest =>
      if !s.mayStart r then s
      else
        let c := lowest (s.descFails r d)
        if c = St.ok then s
        else ((s.modRing n (fun r => { r with fetched := rest })).ringComplete n d.idx d.bytes c 0).completeFailing n fuel

/-- What follows a change of a ring: failing descriptors complete, the next one is fetched. -/
def State.ringStep (s : State) (n : Nat) : State := (s.completeFailing n ((s.ring n).fetched.length)).askFetch n

/-- The front descriptor taken to start, where it has the opcode of the command and passes its checks; otherwise it completes
with its code, or nothing happens. -/
def State.startOp (s : State) (n op : Nat) (f : State → Desc → State) : State :=
  let r := s.ring n
  match r.fetched with
  | [] => s
  | d :: rest =>
    if !s.mayStart r then s
    else
      let c := lowest (s.descFails r d)
      if c ≠ St.ok then s.ringStep n
      else if dOp d.bytes ≠ op then s
      else (f (s.modRing n (fun r => { r with fetched := rest })) d).ringStep n

/-! ### Pieces (R145 to R149) -/

/-- A flight of a ring changed. -/
def State.modFlight (s : State) (n idx : Nat) (f : Flight → Flight) : State :=
  s.modRing n (fun r => { r with flight := r.flight.map (fun x => if x.idx = idx then f x else x) })

/-- A flight of a ring. -/
def State.flight (s : State) (n idx : Nat) : Option Flight := (s.ring n).flight.find? (fun f => f.idx == idx)

/-- The bytes of the next piece (R145): up to the next extent boundary of A, and of B where it has one, and to the end. -/
def pieceLen (va vb : Nat) (hasA hasB : Bool) (off len : Nat) : Nat :=
  let na := if hasA then extentBytes - (va + off) % extentBytes else len
  let nb := if hasB then extentBytes - (vb + off) % extentBytes else len
  min (min na nb) (len - off)

/-- A descriptor with pool addresses in place of its volume addresses, as a piece carries it. -/
def State.poolDesc (s : State) (b : Bytes) (vol : Bool) : Bytes :=
  let a := if usesA (dOp b) ∧ dOp b ≠ 12 then s.poolAt (dSessA b) (dA b) else dA b
  let c := if usesB (dOp b) vol then s.poolAt (dSessB b) (dB b) else dB b
  b.take 16 ++ leBytes 8 a ++ leBytes 8 c ++ b.drop 32

/-- Where a range of reads starts for B: behind every line of A. -/
abbrev baseB : Nat := 65536

/-- Source 314: a mover channel halted on poison (R157). -/
def State.moverHalt (s : State) (w : Work) (pa : Nat) : State :=
  s.raise 314 0 (leBytes 2 w.ring ++ leBytes 4 w.idx ++ leBytes 8 (pa / 64 * 64))

/-- What ends a COMPARE (R141). -/
inductive Stop where
  | poisonA
  | poisonB
  | differs
  deriving DecidableEq, Repr

/-- The first poisoned byte, or the first byte at which two runs differ. -/
def firstStop (a b : List (Byte × Bool)) : Option (Nat × Stop) :=
  match a, b with
  | x :: a, y :: b =>
    if x.2 then some (0, .poisonA)
    else if y.2 then some (0, .poisonB)
    else if x.1 ≠ y.1 then some (0, .differs)
    else (firstStop a b).map (fun r => (r.1 + 1, r.2))
  | _, _ => none

/-- The place of the first poisoned byte. -/
def firstPoison (a : List (Byte × Bool)) : Option Nat := a.findIdx? Prod.snd

/-- The pattern bytes of a FILL from a volume offset (R139). -/
def fillBytes (pattern at_ n : Nat) : Bytes :=
  (List.range n).map (fun i => BitVec.ofNat 8 (pattern / 256 ^ ((at_ + i) % 8)))

/-- Whether an ATOMIC element has a right form (R140). -/
def elemForm (e : Bytes) : Bool :=
  decide (1 ≤ field e 8 1 ∧ field e 8 1 ≤ 3) && field e 10 6 == 0 && (field e 8 1 == 3 || field e 24 8 == 0)

/-- Element `k` of a batch. -/
def elemAt (b : Bytes) (k : Nat) : Bytes := (b.drop (32 * k)).take 32

/-- A batch with an element's status and old value written back (R140). -/
def elemSet (b : Bytes) (k status old : Nat) : Bytes :=
  let e := elemAt b k
  b.take (32 * k) ++ (e.take 9 ++ leBytes 1 status ++ (e.drop 10).take 14 ++ leBytes 8 old) ++ b.drop (32 * k + 32)

/-- The granules of a piece's range that are not home-safe on its arrival (R243), each with the sequence its home write must
cover: those dirty, and those whose home write is out. -/
def State.unsafeGrans (s : State) (slot off len : Nat) : List (Nat × Nat) :=
  let gs := ((List.range 512).filter (fun g => decide (g * 4096 < off + len ∧ off < (g + 1) * 4096))).map (slotGran slot)
  (gs.filter (fun g => s.persist.dirty.contains g || s.homeBusy g)).map (fun g => (g, getD s.persist.lastSeq g 0))

/-- The granules of a range that are not home-safe go ahead of the sweep, and the piece waits for them (R148, R243); with no home store to take them
it ends at the first one (R143, R211). -/
def State.makeSafe (s : State) (w : Work) (slot off len : Nat) : State :=
  match s.unsafeGrans slot off len with
  | [] => s
  | (g, n) :: gs =>
    if !s.hasHome then s.modWork w.id (fun x => { x with bad := x.bad ++ [(g % 512 * 4096 - off, St.homeFailed)] })
    else
      let all := (g, n) :: gs
      let s := s.modPersist (fun p => { p with urgent := all.foldl (fun u x => if p.dirty.contains x.1 then addSet x.1 u else u) p.urgent })
      (s.modWork w.id (fun x => { x with grans := all })).pumpUrgent

/-- The lines of bytes at a pool address are to be written, one behind the other in address order (R146). Those that a former active device had
mirrored are here already, and only their class is still to be met (R148). -/
def State.writeRange (s : State) (w : Work) (pa : Nat) (b : List (Byte × Bool)) : State :=
  let ls := runLines pa b
  let old := ls.filter (fun l => decide (l.2.1 % extentBytes / 64 * 64 + 64 ≤ w.upto))
  let s := s.modWork w.id (fun x => { x with state := 4, todo := ls.drop old.length })
  match (if old = [] ∨ s.servedClass w.cls ≠ 2 then none else s.homeSlot (pa / extentBytes)) with
  | some slot => s.makeSafe w slot (pa % extentBytes) (64 * old.length)
  | none => s

/-- The steps of a piece that runs here go to the mover pool (R357): under the class of R147. -/
def State.askMover (s : State) (w : Work) : State :=
  let op := dOp w.desc
  if w.kind ≠ 0 then s
  else s.ask 24 (0x40 + w.id % 64) (if op = 5 then 3 else if op = 6 then 4 else 5) (if op = 5 ∨ op = 6 then 1 else if op = 7 then w.len else ceilDiv w.len 4096)

/-- The inputs of a piece asked for (R146, R147). -/
def State.workInputs (s : State) (w : Work) : State :=
  let s := s.askMover w
  let op := dOp w.desc
  let pa := dA w.desc + w.off
  let pb := dB w.desc + w.off
  let next := fun (s : State) (st : Nat) => s.modWork w.id (fun x => { x with state := st })
  if w.kind ≠ 0 then (next s 2).readRange w 0 (dB w.desc) w.len
  else if op = 1 then (next s 2).readRange w 0 pb w.len
  else if op = 4 then (next s 2).readRange w 0 pb w.len
  else if op = 8 then ((next s 2).readRange w 0 pa w.len).readRange w baseB pb w.len
  else if op = 9 then (next s 2).readRange w 0 pa w.len
  else next s 3

/-- Whether a piece waits with its output for host memory (R126). -/
def State.outWaits (s : State) (w : Work) : Bool := w.kind == 0 && dOp w.desc == 4 && !s.busOk (s.ring w.ring)

/-- The outputs of a piece whose input is in (R139 to R144). -/
def State.workOutputs (s : State) (w : Work) : State :=
  let op := dOp w.desc
  let pa := dA w.desc + w.off
  let pb := dB w.desc + w.off
  let key := pa / extentBytes
  let halt := fun (s : State) (at_ i : Nat) => (s.moverHalt w (at_ + i)).workEnd w.id St.poisonHalt i 0
  let busy := fun (s : State) => s.modWork w.id (fun x => { x with state := 4 })
  if w.kind ≠ 0 then s.workEnd w.id St.ok w.len 0
  else if op = 1 then s.writeRange w pa (w.read 0 pb w.len)
  else if op = 2 then
    let homed := (s.homeSlot key).isSome || (s.tcacheFind key).isSome
    if dOpnd w.desc 40 8 = 0 ∧ w.len = extentBytes ∧ !homed then s.workEnd w.id St.ok w.len 0
    else s.writeRange w pa (clean (fillBytes (dOpnd w.desc 40 8) (pa % 2 ^ 48) w.len))
  else if op = 4 then
    let b := w.read 0 pb w.len
    let r := s.ring w.ring
    match firstPoison b with
    | some i => halt (if i = 0 then s else s.emit (.busWrite r.port r.host pa ((b.take i).map Prod.fst))) pb i
    | none => (s.emit (.busWrite r.port r.host pa (b.map Prod.fst))).workEnd w.id St.ok w.len 0
  else if op = 8 then
    match firstStop (w.read 0 pa w.len) (w.read baseB pb w.len) with
    | some (i, .poisonA) => halt s pa i
    | some (i, .poisonB) => halt s pb i
    | some (i, .differs) => s.workEnd w.id St.ok i 1
    | none => s.workEnd w.id St.ok w.len 0
  else if op = 9 then
    let b := w.read 0 pa w.len
    match firstPoison b with
    | some i => halt s pa i
    | none => s.workEnd w.id St.ok w.len ((crcRun (dOpnd w.desc 40 4 ^^^ 0xFFFFFFFF) (b.map Prod.fst)) ^^^ 0xFFFFFFFF)
  else if op = 5 then
    match s.homeSlot key with
    | none => s.workEnd w.id St.ok w.len 0
    | some slot => if s.driveCount = 0 then s.workEnd w.id St.homeFailed 0 0 else (busy s).makeSafe w slot (pa % extentBytes) w.len
  else if op = 6 then
    match s.placeHint key (dOpnd w.desc 40 1) (dOpnd w.desc 44 4) (w.dev / 2) with
    | (s, some st) => s.workEnd w.id st (if st = St.ok then w.len else 0) 0
    | (s, none) => (busy s).modWork w.id (fun x => { x with outs := [(joinNum key, 0)] })
  else if op = 7 then busy s
  else s.writeRange w pa (w.bytes.zipIdx.map (fun x => (x.1, w.marks.any (fun m => decide (m.1 ≤ x.2 ∧ x.2 < m.1 + m.2)))))

/-- The next ATOMIC element of a piece goes to its word (R140); each waits for the one before. -/
def State.workElement (s : State) (w : Work) : State :=
  let k := w.prog
  let e := elemAt w.bytes k
  let t := field e 0 8
  s.workReq w { lineReq true t k with
    off := t % extentBytes
    atomic := some { op := field e 8 1, a := field e 16 8, b := field e 24 8, dev := w.dev, ring := w.ring, idx := w.idx, elem := w.off + k } }

/-- An ATOMIC piece whose element has been answered (R140): the element's status and old value are noted, and the next one goes out. -/
def State.elementDone (s : State) (w : Work) : State :=
  let w := if w.got = [] then w else { w with bytes := elemSet w.bytes w.prog St.ok (getD w.got w.prog (0, false)).1.toNat, prog := w.prog + 1, got := [] }
  let s := s.modWork w.id (fun _ => w)
  if w.prog = w.len then s.workEnd w.id St.ok w.len 0 else s.workElement w

/-- A piece whose writes have stopped or been answered ends (R146): where a line failed, at the first such line; an ATOMIC at the element, which
is marked where its word was poisoned (R140). -/
def State.writesDone (s : State) (w : Work) : State :=
  match w.bad with
  | [] => s.workEnd w.id St.ok w.len 0
  | (ix, st) :: rest =>
    let first := minOf (rest.map Prod.fst) ix
    let st := match w.bad.find? (fun b => b.1 == first) with | some b => b.2 | none => st
    if dOp w.desc ≠ 7 ∨ w.kind ≠ 0 then s.workEnd w.id st first 0
    else
      (if st = St.uncorrectable then s.modWork w.id (fun x => { x with bytes := elemSet x.bytes ix st (field (elemAt x.bytes ix) 24 8) }) else s).workEnd
        w.id st w.prog 0

/-- A piece with its requests answered, one stage on: `fuel` stages at most. -/
def State.workStep (s : State) (id fuel : Nat) : State :=
  match fuel with
  | 0 => s
  | fuel + 1 =>
    match s.workOf id with
    | none => s
    | some w =>
      if w.state = 1 then (s.workInputs w).workStep id fuel
      else if w.state = 2 ∧ w.outs = [] ∧ (w.kind ≠ 0 ∨ dOp w.desc ≠ 3) then
        match w.bad with
        | (_, st) :: _ => s.workEnd id st 0 0
        | [] => (s.modWork id (fun x => { x with state := 3 })).workStep id fuel
      else if w.state = 3 ∧ !s.outWaits w then (s.workOutputs w).workStep id fuel
      else if w.state ≠ 4 then s
      else if w.todo ≠ [] ∧ w.bad ≠ [] then (s.modWork id (fun x => { x with todo := [] })).workStep id fuel
      else if w.todo ≠ [] then (if w.last.isSome then s else (s.issueLine w).workStep id fuel)
      else if w.outs ≠ [] ∨ w.grans ≠ [] then s
      else if dOp w.desc = 7 ∧ w.kind = 0 ∧ w.bad = [] then (s.elementDone w).workStep id fuel
      else s.writesDone w

/-- Bytes packed into lines. -/
def packLines (b : Bytes) (n : Nat) : List Line := (List.range n).map (fun i => bytesToLine (b.drop (64 * i)))

/-- A piece of a peer's ring that is done is answered (R296): its status and progress; an ATOMIC with its elements. One whose extent has left names
the new home that the tombstone has (R148, R177). -/
def State.workAnswer (s : State) (w : Work) : State :=
  match w.from_ with
  | .remote peer entry num =>
    let s := s.modRings (fun r => { r with works := r.works.filter (fun x => x.id != w.id) })
    let key := (if dOp w.desc = 7 then field (elemAt w.bytes w.prog) 0 8 else dA w.desc + w.off) / extentBytes
    let r : RespSub := { entry := entry, num := num, status := w.status, result := if dOp w.desc = 9 ∧ w.status = St.ok then w.result else w.prog, vault := 0xFFFF }
    let r := match (if w.status = St.moved then s.place.tombs.find? (fun t => t.key == key) else none) with
      | some t => { r with vault := t.vault, slot := t.slot, gen := t.gen }
      | none => r
    if dOp w.desc = 7 then s.send peer (.data r (packLines w.bytes (ceilDiv w.bytes.length 64)) []) else s.send peer (.status r)
  | _ => s

/-- Every piece that runs here goes on as far as it can. -/
def State.stepWorks (s : State) : State :=
  let s := (s.rings.works.map (fun w => (w.id, w.len))).foldl (fun s x => s.workStep x.1 (600 + x.2 / 32)) s
  (s.rings.works.filter (fun w => w.state == 5)).foldl (fun s w => s.workAnswer w) s

/-! ### A descriptor's pieces (R145, R146, R149) -/

/-- Whether a pool address and 8 bytes from it lie inside a session's window in force (R140, R149). -/
def State.wordInWindow (s : State) (n pa : Nat) : Bool :=
  let base := s.setting (0x4000 + n) 7 * 2 ^ 48 + s.setting (0x4000 + n) 8
  decide (base ≤ pa ∧ pa + 8 ≤ base + (s.sess n).acc)

/-- Whether a session that a descriptor names has gone, or its window has shrunk below a piece (R149): `words` are the targets of an ATOMIC piece;
the tag behind a GCM output is no part of range B (R142). -/
def State.sessGone (s : State) (b : Bytes) (vol : Bool) (off len : Nat) (words : List Nat) : Bool :=
  let op := dOp b
  (descSessions b vol).any (fun n => (s.sess n).state == 3 || (s.sess n).state == 0)
  || (usesA op && op != 7 && op != 12 && !s.inWindow (dSessA b) (dA b + off) len)
  || (op == 7 && words.any (fun pa => !s.wordInWindow (dSessA b) pa))
  || (usesB op vol && (if op = 7 then !s.inWindow (dSessB b) (dB b) (lenB b) else !s.inWindow (dSessB b) (dB b + off) (min len (dLen b - off))))

/-- The result of a descriptor that ended with OK (R137). -/
def Flight.okResult (f : Flight) : Nat :=
  if dOp f.bytes = 9 then f.crc else if dOp f.bytes = 7 then f.off else min f.off (dLen f.bytes)

/-- The elements that follow element `k` at the same home vault (R145): `n` are counted so far. -/
def elemRun (homes : List Nat) (k n fuel : Nat) : Nat :=
  match fuel with
  | 0 => n
  | fuel + 1 => if k + n < homes.length ∧ nth homes (k + n) 0 = nth homes k 0 then elemRun homes k (n + 1) fuel else n

/-- What an ATOMIC batch gets written back (R140): the status of every element, and the old value of one that was applied, each with its place in
the batch. -/
def batchResults (buf : Bytes) : List (Nat × Bytes) :=
  (List.range (buf.length / 32)).flatMap (fun k =>
    let e := elemAt buf k
    (32 * k + 9, (e.drop 9).take 1) :: (if field e 9 1 = St.ok then [(32 * k + 24, e.drop 24)] else []))

/-- A descriptor's pieces are over: an ATOMIC's results are written to its batch first (R140), to host memory at once and to a volume under the class of
session B, which the completion waits for (R136, R152). -/
def State.flightEnds (s : State) (n : Nat) (f : Flight) (status result : Nat) : State :=
  let r := s.ring n
  let b := f.bytes
  if dOp b ≠ 7 then s.ringComplete n f.idx b status result
  else
    let out := batchResults f.buf
    if r.mem = 0xFFFF then
      (out.foldl (fun s x => s.emit (.busWrite r.port r.host (dB b + x.1) x.2)) s).ringComplete n f.idx b status result
    else
      let (s, id) := s.newWork {
        id := 0, kind := 2, ring := n, idx := f.idx, desc := [], off := 0, len := 2 * f.buf.length, state := 4, sess := dSessB b, port := r.port
        cls := (s.sess (dSessB b)).eff
        todo := out.flatMap (fun x => (runLines (s.poolAt (dSessB b) (dB b + x.1)) (clean x.2))) }
      s.modFlight n f.idx (fun f => { f with stage := 4, work := some id, status := status, result := result })

/-- The pieces of this device's rings in flight (0x3100:06). -/
def State.piecesOut (s : State) : Nat := (s.rings.works.filter (fun w => w.from_ == .none && w.kind == 0)).length

/-- A PLACE piece goes to the active device of its extent's directory vault (R147). -/
def State.sendPlace (s : State) (w : Work) (key : Nat) : State :=
  let num := s.host.nextNum
  let v := s.dirVault key
  let s := (s.modHost (fun h => { h with
    nextNum := (num + 1) % 2 ^ 48
    reqs := h.reqs ++ [{ lineReq false (key * extentBytes) 0 with num := num, port := w.port, sess := w.who, work := some w.id, locate := true, dst := v, since := s.now }] })).modWork w.id
      (fun w => { w with outs := [(num, 0)] })
  s.send (s.activeOf v) (.piece { entry := s.pool.number, num := num, key := key, ring := w.ring, idx := w.idx } w.desc w.off w.len)

/-- The next piece of a descriptor starts, or the descriptor ends (R145, R146, R149). What needs host memory waits for it (R126). -/
def State.nextPiece (s : State) (n idx : Nat) : State :=
  match s.flight n idx with
  | none => s
  | some f =>
    let r := s.ring n
    let b := f.bytes
    let op := dOp b
    let vol := r.mem != 0xFFFF
    if !s.busOk r ∧ !vol ∧ ((op = 7 ∧ f.stage = 1) ∨ ((op = 3 ∨ op = 4) ∧ !f.stopping)) then s
    else if f.stage ≠ 1 then s.ringComplete n idx b St.aborted 0
    else if f.status ≠ St.ok ∧ f.len ≤ f.off then s.flightEnds n f f.status f.result
    else if f.stopping then s.flightEnds n f St.aborted f.off
    else if f.len ≤ f.off then s.flightEnds n f St.ok f.okResult
    else if s.setting 0x3100 7 ≤ s.piecesOut then s
    else
      let d := s.poolDesc b vol
      let len := if op = 7 then elemRun f.homes f.off 1 256 else pieceLen (dA d) (dB d) (usesA op) (usesB op vol) f.off f.len
      let bytes := if op = 7 then (f.buf.drop (32 * f.off)).take (32 * len) else if op = 10 ∨ op = 11 then (f.buf.drop f.off).take len else []
      let words := if op = 7 then (List.range len).map (fun k => field (elemAt bytes k) 0 8) else []
      if s.sessGone b vol f.off len words then s.flightEnds n f St.partialDone f.off
      else
        let (s, id) := s.newWork {
          id := 0
          dev := s.pool.number
          ring := n
          idx := idx
          desc := if op = 9 then d.take 40 ++ leBytes 4 f.crc ++ d.drop 44 else d
          off := f.off
          len := len
          bytes := bytes
          marks := f.marks.filterMap (fun m => if m.1 < f.off ∨ f.off + len ≤ m.1 then none else some (m.1 - f.off, m.2))
          cls := if usesA op then (s.sess (dSessA b)).eff else 1
          sess := if usesA op then dSessA b else 0xFFFF
          sessB := if usesB op vol then dSessB b else 0xFFFF
          port := r.port }
        let s := s.modFlight n idx (fun f => { f with work := some id })
        match s.workOf id with
        | none => s
        | some w =>
          let pa := if op = 7 then words.headD 0 else dA d + f.off
          let here := fun (s : State) => s.modWork id (fun w => { w with state := 1 })
          let s :=
            if op = 3 then (s.modWork id (fun w => { w with state := 2 })).emit (.busRead r.port r.host (dB b + f.off) len)
            else if op = 4 ∨ op = 10 ∨ op = 11 then here s
            else if op = 6 then (if s.ownDir (pa / extentBytes) then here s else s.sendPlace w (pa / extentBytes))
            else s.locate w pa (op == 1 || op == 7 || (op == 2 && !(dOpnd b 40 8 == 0 && len == extentBytes)))
          s.stepWorks

/-- A piece of this device's ring that is done (R146): the descriptor's progress moves on; it ends where the piece stopped. A piece that met a move
goes on from there as a new one at the new home (R148). -/
def State.pieceDone (s : State) (n idx : Nat) : State :=
  match s.flight n idx with
  | none => s
  | some f =>
    match f.work.bind s.workOf with
    | none => s
    | some w =>
      if w.state ≠ 5 then s
      else
        let s := s.modRings (fun r => { r with
          works := r.works.filter (fun x => x.id != w.id)
          bytes := if [1, 2, 3, 10, 11].contains (dOp f.bytes) then (r.bytes + w.prog) % 2 ^ 64 else r.bytes })
        let s := s.modFlight n idx (fun f => { f with
          work := none
          off := f.off + w.prog
          crc := if dOp f.bytes = 9 ∧ w.status = St.ok then w.result else f.crc
          buf := if dOp f.bytes = 7 then f.buf.take (32 * f.off) ++ w.bytes ++ f.buf.drop (32 * f.off + w.bytes.length) else f.buf })
        let stop := (w.status != St.ok && w.status != St.moved) || (dOp f.bytes == 8 && w.status == St.ok && decide (w.prog < w.len))
        let s := if stop then s.modFlight n idx (fun f => { f with status := w.status, result := f.off, len := f.off }) else s
        s.nextPiece n idx

/-- The home vaults of a batch's extents are looked for (R145), one request an extent. -/
def State.findHomes (s : State) (n idx : Nat) (f : Flight) (buf : Bytes) (keys : List Nat) : State :=
  let r := s.ring n
  let (s, id) := s.newWork { id := 0, kind := 5, dev := s.pool.number, ring := n, idx := idx, desc := [], off := 0, len := 0, state := 2, sess := dSessA f.bytes, port := r.port }
  let s := s.modFlight n idx (fun f => { f with buf := buf, len := dAux f.bytes, off := 0, waitBus := false, stage := 1, work := some id })
  match s.workOf id with
  | some w => keys.zipIdx.foldl (fun s k => s.workReq w { lineReq false (k.1 * extentBytes) k.2 with find := true }) s
  | none => s

/-- The extents of a batch in pool addresses, each once. -/
def batchKeys (buf : Bytes) (k : Nat) : List Nat := ((List.range k).map (fun i => field (elemAt buf i) 0 8 / extentBytes)).eraseDups

/-- A batch that has come in is checked, every element before any is applied (R140), and put into pool addresses. -/
def State.batchIn (s : State) (n idx : Nat) (b : Bytes) : State :=
  match s.flight n idx with
  | none => s
  | some f =>
    let k := dAux f.bytes
    let a := dSessA f.bytes
    let es := (List.range k).map (elemAt b)
    let bad := fails (es.any (fun e => !elemForm e)) St.badDescriptor
      ++ fails (es.any (fun e => field e 0 8 % 8 != 0 || !s.inWindow a (field e 0 8) 8)) St.badRange
    let c := lowest bad
    if c ≠ St.ok then s.ringComplete n idx f.bytes c 0
    else
      let b' := es.flatMap (fun e => leBytes 8 (s.poolAt a (field e 0 8)) ++ (e.drop 8).take 1 ++ leBytes 1 St.aborted ++ e.drop 10)
      s.findHomes n idx f b' (batchKeys b' k)

/-- The read of an ATOMIC batch in host memory goes out, once host memory can be reached (R126, R140). -/
def State.askBatch (s : State) (n idx : Nat) : State :=
  let r := s.ring n
  match s.flight n idx with
  | some f =>
    if s.busOk r ∧ !f.waitBus then
      (s.modFlight n idx (fun f => { f with waitBus := true })).emit (.busRead r.port r.host (dB f.bytes) (32 * dAux f.bytes))
    else s
  | none => s

/-- A descriptor that moves or computes starts (R150). -/
def State.startFlight (s : State) (n : Nat) (d : Desc) : State :=
  let b := d.bytes
  let r := s.ring n
  let s := s.modRing n (fun r => { r with flight := r.flight ++ [{
    idx := d.idx
    bytes := b
    len := dLen b
    crc := dOpnd b 40 4
    stage := if [7, 10, 11].contains (dOp b) then 0 else 1 }] })
  if dOp b = 7 ∧ r.mem = 0xFFFF then s.askBatch n d.idx
  else if [7, 10, 11].contains (dOp b) then
    let (s, id) := s.newWork { id := 0, dev := s.pool.number, ring := n, idx := d.idx, kind := 1, desc := s.poolDesc b (r.mem != 0xFFFF), off := 0, len := lenB b, state := 1
                               sess := if dOp b = 7 then 0xFFFF else dSessA b, sessB := dSessB b, port := r.port }
    (s.modFlight n d.idx (fun f => { f with work := some id })).stepWorks
  else s.nextPiece n d.idx

/-- What the device's own line requests of a ring lead to once they are answered: an ATOMIC whose homes are found goes on (R145), one whose results are
in its volume completes (R136), and a completion entry that failed halts its ring (R138), while the next one goes out. -/
def State.finishWork (s : State) (w : Work) : State :=
  let s := s.modRings (fun r => { r with works := r.works.filter (fun x => x.id != w.id) })
  if w.kind = 3 then ((if w.status = St.ok then s else s.haltRing w.ring w.status).flushHeld w.ring).freeRing w.ring
  else match s.flight w.ring w.idx with
    | none => s
    | some f =>
      let s := s.modFlight w.ring w.idx (fun f => { f with work := none })
      if w.kind = 2 then s.ringComplete w.ring w.idx f.bytes (if f.status = St.ok then w.status else f.status) f.result
      else
        let keys := batchKeys f.buf f.len
        let homes := (List.range f.len).map (fun i =>
          let key := field (elemAt f.buf i) 0 8 / extentBytes
          (getD w.got (keys.findIdx (· == key)) (BitVec.ofNat 512 (65536 + key), false)).1.toNat)
        (s.modFlight w.ring w.idx (fun f => { f with homes := homes })).nextPiece w.ring w.idx

/-- Every piece that runs here goes on as far as it can, and so do the rings whose own line requests are answered. -/
def State.advanceWorks (s : State) : State :=
  let s := s.stepWorks
  ((s.rings.works.filter (fun w => w.state == 5 && [2, 3, 5].contains w.kind)).foldl (fun s w => s.finishWork w) s).stepWorks

/-- A port leaves service (R154): its rings halt with ABORTED. -/
def State.ringsPortLost (s : State) (p : Nat) : State :=
  ((s.rings.rings.filter (fun e => e.2.port == p)).map Prod.fst).foldl (fun s n => s.haltRing n St.aborted) s

/-- Whether a request of this device waits for a persist point. -/
def isPoint : Action → Bool
  | .point _ => true
  | _ => false

/-- The root's answer reaches the request it is for (R340, R143): a PERSIST_POINT completes with the point's number; a latch
operation's status and number are shown in 0x2310. -/
def State.answered (s : State) (op st : Nat) : State :=
  let point := s.pool.pointOp.1 == op && op != 0
  match s.pool.asked.findIdx? (fun a => isPoint a.1 == point) with
  | none => s
  | some i =>
    let ring := (nth s.pool.asked i (.point 0, none)).2
    let s := s.modPool (fun p => { p with asked := p.asked.eraseIdx i })
    match ring with
    | some (n, idx) =>
      (match s.flight n idx with
      | some f => (s.ringComplete n idx f.bytes st s.pool.pointOp.2).ringStep n
      | none => s)
    | none => s.modPool (fun p => { p with opStatus := st, opNumber := op })

/-- Answers the root gave to its own requests reach them: `fuel` at most. -/
def State.settle (s : State) (fuel : Nat) : State :=
  match fuel with
  | 0 => s
  | fuel + 1 =>
    match s.pool.results with
    | [] => s
    | (op, st) :: rest => ((s.modPool (fun p => { p with results := rest })).answered op st).settle fuel

/-- Every answer the root gave to its own requests so far. -/
def State.settled (s : State) : State := s.settle s.pool.results.length

/-- Flights with no piece in hand go on: those that waited for a piece below the limit (0x3100:07), or for host memory. -/
def State.kickFlights (s : State) : State :=
  let all := s.rings.rings.flatMap (fun e => e.2.flight.map (fun f => (e.1, f)))
  all.foldl (fun s x =>
    if x.2.work.isSome then s
    else if x.2.stage = 1 then s.nextPiece x.1 x.2.idx
    else if x.2.stage = 0 ∧ dOp x.2.bytes = 7 ∧ (s.ring x.1).mem = 0xFFFF then s.askBatch x.1 x.2.idx
    else s) s

end Sys2Proof.Machine
end

