-- ==== Sys2Proof/Machine/CipherOps.lean ====
section
/-! DEFINITION. The cipher engine's shared operations: AES modes over the block cipher (R432, R433), key slots (R438 to R443),
contexts (R434, R445), and a ring's ENCRYPT or DECRYPT from its start to the writing of its output (R142, R440 to R446). -/

namespace Sys2Proof.Machine

/-! ### Key slots (R437 to R443) -/

/-- A key slot. -/
def State.keySlot (s : State) (n : Nat) : KeySlot := getD s.cipher.slots n {}

/-- A key slot changed. -/
def State.modKey (s : State) (n : Nat) (f : KeySlot → KeySlot) : State :=
  s.modCipher (fun c => { c with slots := modD c.slots n {} f })

/-- The key check value (R438): the first 3 bytes of AES under the key, or its first half, of the zero block. -/
def keyCheck (kind key : Nat) : Nat := aesEnc (aesBytes kind) (key % 2 ^ (8 * aesBytes kind)) 0 % 2 ^ 24

/-- Whether the vault's home store uses a key slot (R216). -/
def State.homeKeySlot (s : State) (n : Nat) : Bool := decide (0 < s.driveCount) && s.setting 0x3310 4 == n

/-- Whether a port's connections use the Hinge key slot (R313). -/
def State.hingeKeyUsed (s : State) (n : Nat) : Bool :=
  s.setting 0x2200 7 == n && (List.range 4).any (fun p => s.encrypts p)

/-! ### Contexts (R434, R445) -/

/-- The contexts of a user's group (R434): first and count. -/
def ctxGroup (u : CipherUser) : Nat × Nat :=
  match u with
  | .hingeTx => (0, 12)
  | .hingeRx => (12, 12)
  | .home => (24, 8)
  | .ring => (32, 32)

/-- A free context of a user's group. -/
def State.freeCtx (s : State) (u : CipherUser) : Option Nat :=
  ((List.range (ctxGroup u).2).map (fun i => (ctxGroup u).1 + i)).find? (fun k => (assoc s.cipher.ctxs k).isNone)

/-- A length rounded up to 256 bytes. -/
def up256 (n : Nat) : Nat := ceilDiv n 256 * 256

/-- What a context holds of the hold memory (R445): a ring's reservation shrinks as its released output is written. -/
def State.holdOf (s : State) (c : CCtx) : Nat :=
  if c.hold = 0 then 0
  else match s.flight c.ring c.idx with
    | some f => if f.stage = 1 then min c.hold (up256 (f.len - f.off)) else c.hold
    | none => c.hold

/-- The hold memory in use (R445): the receive contexts' reservation and the rings'. -/
def State.holdUsed (s : State) : Nat := 12 * 2432 + (s.cipher.ctxs.map (fun e => s.holdOf e.2)).foldl (· + ·) 0

/-- The context of a ring descriptor. -/
def State.ringCtx (s : State) (n idx : Nat) : Option (Nat × CCtx) :=
  s.cipher.ctxs.find? (fun e => e.2.user == .ring && e.2.ring == n && e.2.idx == idx)

/-- A context changed. -/
def State.modCtx (s : State) (k : Nat) (f : CCtx → CCtx) : State :=
  s.modCipher (fun c => { c with ctxs := c.ctxs.map (fun e => if e.1 = k then (k, f e.2) else e) })

/-! ### A ring's ENCRYPT or DECRYPT (R142, R434, R440) -/

/-- The cipher mode of a descriptor. -/
def dMode (b : Bytes) : Nat := dOpnd b 40 1

/-- The IV block of a descriptor (R142, R433): for GCM the 96-bit IV followed by 0x00000001. -/
def dIv (b : Bytes) : Nat := if dMode b = 4 then dOpnd b 44 12 + 2 ^ 120 else dOpnd b 44 16

/-- The code a descriptor's key is refused with at its start (R440, R9). A slot emptied by a cold reset counts as erased:
DESIGN CHOICE, log entry 30. -/
def State.keyFails (s : State) (b : Bytes) : Nat :=
  let k := s.keySlot (dAux b)
  let g := dOpnd b 42 2
  if k.state = 0 ∧ !k.ever then St.noSuchObject
  else lowest (fails (k.state != 1 || decide (g < k.gen)) St.keyErased ++ fails (decide (k.gen < g ∨ 2 < k.kind)) St.badRange)

/-- The hold a descriptor reserves (R445). -/
def dHold (b : Bytes) : Nat := if dOp b = 11 ∧ dMode b = 4 then up256 (dLen b) else 0

/-- Descriptors that wait for a context, without those that cannot start now (R434). -/
def State.cipherQueue (s : State) : List (Nat × Nat × Nat) :=
  s.cipher.waiting.filter (fun w =>
    s.mayStart (s.ring w.1) && ((s.ring w.1).fetched.head?.map Desc.idx) == some w.2.1)

/-- The front descriptor of a ring, an ENCRYPT or DECRYPT, starts as far as it may (R434, R440, R445): its key is checked, a
context taken and its hold reserved; or it waits its turn among the device's rings. -/
def State.startCipher (s : State) (n op : Nat) : State :=
  let r := s.ring n
  match r.fetched with
  | [] => s
  | d :: rest =>
    if !s.mayStart r then s
    else if lowest (s.descFails r d) ≠ St.ok then s.ringStep n
    else if dOp d.bytes ≠ op then s
    else
      let pop := fun (s : State) => s.modRing n (fun r => { r with fetched := rest })
      let c := s.keyFails d.bytes
      if c ≠ St.ok then
        let s := if c = St.keyErased then s.count 455 1 else s
        let s := s.modCipher (fun x => { x with waiting := x.waiting.filter (fun w => !(w.1 == n && w.2.1 == d.idx)) })
        ((pop s).ringComplete n d.idx d.bytes c 0).ringStep n
      else
        let first := match s.cipherQueue with | [] => true | w :: _ => w.1 == n && w.2.1 == d.idx
        match (if first && decide (s.holdUsed + dHold d.bytes ≤ 33554432) then s.freeCtx .ring else none) with
        | some k =>
          let key := s.keySlot (dAux d.bytes)
          let s := match s.cipher.waiting.find? (fun w => w.1 == n && w.2.1 == d.idx) with
            | some w => s.count 456 ((s.now - w.2.2) / 125)
            | none => s
          let s := s.modCipher (fun x => { x with
            waiting := x.waiting.filter (fun w => !(w.1 == n && w.2.1 == d.idx))
            ctxs := insertKey k {
              user := .ring
              slot := dAux d.bytes
              gen := key.gen
              kind := key.kind
              key := key.key
              mode := dMode d.bytes
              ring := n
              idx := d.idx
              hold := dHold d.bytes
              len := dLen d.bytes } x.ctxs })
          (((pop s).ask 25 (0x40 + n % 64) 5 (ceilDiv (dLen d.bytes) 256)).startFlight n d).ringStep n
        | none =>
          if s.cipher.waiting.any (fun w => w.1 == n && w.2.1 == d.idx) then s
          else s.modCipher (fun x => { x with waiting := x.waiting ++ [(n, d.idx, s.now)] })

/-- The output of a descriptor, `len` bytes of it processed, is ready to be written, with the status and result the descriptor
ends with after that (R142, R146). -/
def State.cipherWrite (s : State) (n idx : Nat) (out : Bytes) (status result : Nat) : State :=
  (s.modFlight n idx (fun f => { f with
    stage := 1
    buf := out
    len := out.length
    off := 0
    status := status
    result := result })).nextPiece n idx

/-- A descriptor's engine part ends early (R142, R442, R446): what the modes without held output have released is written; a
GCM DECRYPT writes nothing, and a GCM operation that faulted has Result 0 and no tag. `at_`: the bytes released. -/
def State.cipherStop (s : State) (k : Nat) (c : CCtx) (f : Flight) (status at_ result : Nat) : State :=
  let enc := dOp f.bytes == 10
  let keep := if c.mode = 4 ∧ (!enc ∨ status = St.cipherFault) then 0 else at_
  let out := cipherOut c.mode (aesBytes c.kind) c.key enc (dIv f.bytes) f.buf keep
  (s.modCtx k (fun c => { c with hold := 0, released := c.len })).cipherWrite c.ring c.idx out status
    (if c.mode = 4 ∧ status ≠ St.poisonHalt ∧ (!enc ∨ status = St.cipherFault) then 0 else result)

/-- A descriptor whose blocks are all processed (R142, R444): an ENCRYPT under GCM adds its tag; a DECRYPT under GCM releases its
held output only where the tag verifies. -/
def State.cipherFinish (s : State) (k : Nat) (c : CCtx) (f : Flight) : State :=
  let enc := dOp f.bytes == 10
  let kb := aesBytes c.kind
  let iv := dIv f.bytes
  let out := cipherOut c.mode kb c.key enc iv f.buf c.len
  if c.mode = 4 ∧ !enc then
    let tag := gcmTag kb c.key iv (f.buf.take c.len)
    if tag = (f.buf.drop c.len).take 16 then (s.count 450 1).cipherWrite c.ring c.idx out St.ok 0
    else
      let s := (s.count 451 1).raise 209 0 (leBytes 2 c.ring ++ leBytes 4 c.idx ++ leBytes 2 c.slot)
      (s.modCtx k (fun c => { c with hold := 0 })).cipherWrite c.ring c.idx [] St.tagMismatch 0
  else if c.mode = 4 then s.cipherWrite c.ring c.idx (out ++ gcmTag kb c.key iv out) St.ok 0
  else s.cipherWrite c.ring c.idx out St.ok 0

/-- The whole input of a descriptor has been gathered (R140, R142, R152): an ATOMIC batch of a volume is checked; a cipher's input
goes to its context. -/
def State.gathered (s : State) (n idx : Nat) (f : Flight) (w : Work) : State :=
  let s := s.modRings (fun r => { r with works := r.works.filter (fun x => x.id != w.id) })
  let s := s.modFlight n idx (fun f => { f with work := none })
  let b := w.read 0 (dB w.desc) w.len
  if w.status ≠ St.ok then s.ringComplete n idx f.bytes w.status 0
  else if f.stopping then s.ringComplete n idx f.bytes St.aborted 0
  else if dOp f.bytes = 7 then
    match firstPoison b with
    | some _ => s.ringComplete n idx f.bytes St.poisonHalt 0
    | none => s.batchIn n idx (b.map Prod.fst)
  else s.modFlight n idx (fun f => { f with
    stage := 2
    buf := b.map Prod.fst
    poisonAt := (firstPoison b).map (fun i => i / 16 * 16)
    badLine := (dB w.desc + (firstPoison b).getD 0) / 64 * 64 })

/-- An erased slot ends every operation that uses it (R442): ring operations stop at the last whole 256 bytes processed; frames
in a context are dropped with their context. -/
def State.endUsers (s : State) (slot : Nat) : State :=
  let mine := s.cipher.ctxs.filter (fun e => e.2.slot == slot)
  let s := mine.foldl (fun s e =>
    if e.2.user = .ring then
      match s.flight e.2.ring e.2.idx with
      | some f =>
        if f.stage = 2 then (s.count 455 1).cipherStop e.1 e.2 f St.keyErased (e.2.released / 256 * 256) (e.2.released / 256 * 256)
        else if f.stage = 0 then (s.count 455 1).ringComplete e.2.ring e.2.idx f.bytes St.keyErased 0
        else s
      | none => s
    else s) s
  s.modCipher (fun c => { c with
    ctxs := (c.ctxs.filter (fun e => !(e.2.slot == slot && e.2.user != .ring))).map (fun e => if e.2.slot = slot then (e.1, { e.2 with key := 0 }) else e) })

end Sys2Proof.Machine
end

