-- ==== Sys2Proof/Machine/Placement.lean ====
section
/-! DEFINITION. Placement commands (R158 to R200, R297, R544): the epoch, lookups, chunks, freezes, tombstones, invalidations, the
leases of read copies, and the fourteen placement messages. -/

namespace Sys2Proof.Machine

/-! ### The epoch (R163 to R168, R189, R192, R544) -/

/-- Every heat entry decayed (R163), with a count of the entries whose samples saturated. -/
def State.decayAll (s : State) : State :=
  let f := decayFactor (s.setting 0x3200 2) s.place.halfLife
  let sat := (s.place.heat.filter (fun e => e.2.rdS == 65535 || e.2.wrS == 65535)).length
  (s.modPlace (fun p => { p with heat := p.heat.map (fun e => (e.1, decayHeat e.2 f p.shift (s.setting 0x3200 2))) })).count 397 sat

/-- A queue of actions that falls in its gain, with one more (R168). -/
def queueIn (x : Nat × Nat × Nat) (l : List (Nat × Nat × Nat)) : List (Nat × Nat × Nat) :=
  match l with
  | [] => [x]
  | y :: l => if y.2.2 < x.2.2 then x :: y :: l else y :: queueIn x l

/-- One candidate evaluated (R167, R168): an extent with an action under way is passed over, one whose group's anchor is not at hand waits for it. -/
def State.evaluate (s : State) (slot : Nat) : State :=
  let s := (s.count 398 1).modPlace (fun p => { p with heat := if (assoc p.heat slot).isSome then modD p.heat slot {} (fun e => { e with queued := false }) else p.heat })
  match s.slotUse slot with
  | some (.home key) =>
    if s.slotBusy slot key then s
    else match s.anchorOf (s.homeFields key).group with
    | none => s.modPlace (fun p => { p with asked := addSet slot p.asked })
    | some a => match s.choose slot key a with
      | .move v gain => s.modPlace (fun p => { p with qMoves := queueIn (slot, v, gain) p.qMoves })
      | .copy v gain => s.modPlace (fun p => { p with qCopies := queueIn (slot, v, gain) p.qCopies })
      | .nothing => s
  | _ => s

/-- The anchors of groups asked of their directory vaults (log entry 110). -/
def State.askAnchors (s : State) (gs : List Nat) : State :=
  ((gs.foldl (fun l g => addSet g l) []).filter (fun g => (s.anchorOf g).isNone)).foldl (fun s g =>
    s.tell (s.dirVault (groupKey g)) 14 { key := groupKey g, vault := 0xFFFF }) s

/-- The group of the extent that a slot homes. -/
def State.slotGroup (s : State) (slot : Nat) : Nat :=
  match s.slotUse slot with
  | some (.home key) => (s.homeFields key).group
  | _ => 0

/-- The candidates of the epoch evaluated (R167); actions still queued are discarded, counted where they are moves, and their slots evaluated
afresh (R168). The anchors of their groups are asked, and those of every group homed here while extents must leave. -/
def State.evaluateAll (s : State) : State :=
  let cs := (s.place.cand ++ s.place.qMoves.map Prod.fst ++ s.place.qCopies.map Prod.fst ++ s.place.asked).eraseDups
  let s := s.count 399 s.place.qMoves.length
  let s := s.modPlace (fun p => { p with cand := [], qMoves := [], qCopies := [], started := 0, refused := [], anchors := [], asked := [] })
  let s := s.askAnchors (cs.map s.slotGroup ++ (if 0 < s.evacExcess ∨ s.placeable < s.homed then s.place.slots.map (fun e => s.slotGroup e.1) else []))
  cs.foldl (fun s slot => s.evaluate slot) s

/-- Whether a home finds an extent no longer read-mostly (R189). -/
def State.tooWritten (s : State) (slot key : Nat) : Bool :=
  let e := s.heatOf slot
  let copies := ((s.place.copyOuts.filter (fun c => c.key == key)).map CopyOut.heat).foldl (· + ·) 0
  decide (2 * s.setting 0x3210 7 * (e.rd + e.wr + copies) < e.wr * 256)

/-- Read copies dropped at an epoch's end (R189, R192): those held here that are cold or whose vault drains, and those of extents
homed here that are written too much. A copy is judged once it has been held for the heat maturity (R165; DEDUCED, log entry 115). -/
def State.dropCopies (s : State) : State :=
  let mature := ceilDiv s.place.halfLife (s.setting 0x3200 2)
  let s := s.modPlace (fun p => { p with copyIns := p.copyIns.map (fun c => { c with age := c.age + 1 }) })
  let cold := s.place.copyIns.filter (fun c => s.setting 0x3220 9 == 2
    || (c.serving && decide (mature ≤ c.age) && decide ((s.heatOf c.slot).rd < s.setting 0x3210 9)))
  let s := cold.foldl (fun s c => s.dropCopyHere c) s
  let keys := (s.place.copyOuts.map CopyOut.key).foldl (fun l k => addSet k l) []
  let hot := keys.filter (fun k => match s.homeSlot k with | some slot => s.tooWritten slot k | none => false)
  hot.foldl (fun s k => s.dropCopiesOf k) s

/-- Heat reports to the home vaults of the copies held here (R164). -/
def State.sendReports (s : State) : State :=
  let homes := (s.place.copyIns.map CopyIn.home).foldl (fun l v => addSet v l) []
  homes.foldl (fun s v =>
    let l := (s.place.copyIns.filter (fun c => c.home == v)).map (fun c => (c.slot, (s.heatOf c.slot).rd))
    s.tell v 12 { key := 0, vault := s.vault, list := l }) s

/-- Source 146 for the keys whose writes wait for a home (R171); writes past their limit wait no longer. -/
def State.waitEvents (s : State) : State :=
  let s := (s.place.dir.map Prod.fst).foldl (fun s k => s.dropLateWaits k) s
  (s.place.dir.filter (fun e => e.2.state == 1 && e.2.waiting != [] && e.2.dst == 0xFFFF)).foldl
    (fun s e => s.raise 146 0 (leBytes 5 e.1 ++ leBytes 4 e.2.waiting.length)) s

/-- Drop notices refused with BUSY go again (R174). -/
def State.resendDrops (s : State) : State :=
  s.place.dropLate.foldl (fun s e => s.noteDrop e.1 e.2) (s.modPlace (fun p => { p with dropLate := [] }))

/-- A rebuild that no vault has answered for an epoch ends (R178): the key is Unhomed and its hints are lost, source 148, and the requests that
waited go on. How long a directory vault waits is not said: DESIGN CHOICE, log entry 116. -/
def State.endRebuilds (s : State) : State :=
  let over_ := (s.place.rebuilds.filter (fun r => s.elapsed r.since (s.setting 0x3200 2))).map Rebuild.key
  let s := s.modPlace (fun p => { p with rebuilds := p.rebuilds.filter (fun r => !over_.contains r.key) })
  over_.foldl (fun s k => (s.raise 148 0 (leBytes 5 k ++ leBytes 1 0)).resumeLookups (· == k)) s

/-- What the agent of an active device does at an epoch's end, behind the heat (R163 to R168, R181, R189). -/
def State.agentEpoch (s : State) : State :=
  let s := s.evaluateAll.dropCopies.sendReports.clearCooling.resendDrops.endRebuilds.emptyPasses
  let s := (s.place.migs.filter (fun m => m.phase == 4)).foldl (fun s m => s.sendCommit m) s
  s.startActions.waitEvents

/-- EPOCH_END (R166). It acts once pool time has passed a whole multiple of the epoch length. A new half-life counts from this end on, a new sampling
shift from the epoch that begins (R198). -/
def execEpochEnd (s : State) : Host.Outcome State Fault Refusal :=
  let len := s.setting 0x3200 2
  done (if s.poolTime / len ≤ s.place.epochAt / len then s
    else
      let s := s.modPlace (fun p => { p with epoch := p.epoch + 1, epochAt := s.poolTime, halfLife := s.setting 0x3200 3 })
      let s := if s.serves then s.decayAll else s
      let s := s.modPlace (fun p => { p with shift := s.setting 0x3200 5 })
      (if s.serves then s.agentEpoch else s).publishRoom.sendCensus.advanceWorks)

/-! ### Lookups (R174) -/

/-- LOOKUP (R174). Away from the key's directory vault it has no effect: its requester asks again by its own map (R346). -/
def execLookup (h : Hdr) (q : ReqSub) (forWrite : Bool) (s : State) : Host.Outcome State Fault Refusal :=
  done (s.onFrame h (.lookup q forWrite) (fun s =>
    if s.ownDir q.key then (s.serveLookup q.key h.src q.entry q.num forWrite).advanceWorks else s))

/-- The source's answer to a move lease that has passed (R174), as the directory acts on it. -/
def State.leaseAnswer (s : State) (key : Nat) : State :=
  match s.place.tombs.find? (fun t => t.key == key && (t.vault == (s.dirEnt key).dst || (s.dirEnt key).dst == 0xFFFF)) with
  | some t => s.dirCommit key t.vault t.slot t.gen s.vault
  | none => if (s.migOf key).isSome then s else s.dirAbort key

/-- MOVE_LEASE_EXPIRY (R174): the source's active device is asked, and the lease runs for another period. -/
def execMoveLeaseExpiry (key : Nat) (s : State) : Host.Outcome State Fault Refusal :=
  let d := s.dirEnt key
  done (if !(s.ownDir key && d.state == 3 && s.elapsed d.since (s.setting 0x3220 7)) then s
    else
      let s := s.modDir key (fun d => { d with since := s.now })
      if d.home = s.vault then s.leaseAnswer key else s.tell d.home 1 { key := key, vault := d.home, slot := d.slot, gen := d.gen, a := d.dst })

/-! ### Chunks (R180, R181, R186) -/

/-- The poison of a frame's lines from its header. -/
def framePoison (h : Hdr) (n : Nat) : List Bool := (List.range n).map (fun i => h.poison.testBit i)

/-- Lines of a read copy written at its vault, with their valid bits (R186). -/
def State.putCopy (s : State) (c : ChunkSub) (ls : List Line) (ps : List Bool) : State :=
  let s := s.askWrite c.slot 0x18 4 ls.length
  let s := (List.range ls.length).foldl (fun s i => s.putLine (slotLine c.slot (64 * (c.line + i))) (nth ls i 0) (nth ps i false)) s
  s.modPlace (fun p => { p with copyIns := p.copyIns.map (fun x =>
    if x.slot = c.slot ∧ x.key = c.key then { x with valid := x.valid ||| ((2 ^ ls.length - 1) * 2 ^ c.line) } else x) })

/-- CHUNK (R180, R186): lines of a migration are written, mirrored, and acknowledged once the standby holds them; lines of a copy
are acknowledged at once. -/
def execChunk (h : Hdr) (c : ChunkSub) (lines : List Line) (s : State) : Host.Outcome State Fault Refusal :=
  let (s, ok) := s.rx h (.chunk c lines []) false
  if !ok || !s.serves then done s
  else if s.extents ≤ c.slot then .fault .slotOutsideVault
  else
    let ps := framePoison h lines.length
    let lines := s.clear h 2 lines
    let ack := { c with count := lines.length }
    done (if c.kind = 0 then
        if s.place.migIns.any (fun m => m.key == c.key && m.slot == c.slot) then
          let s := s.putChunk c.slot c.line lines ps
          (s.modPlace (fun p => { p with chunkAcks := p.chunkAcks ++ [(s.persist.seq, h.src, ack)] })).ackChunks
        else s
      else if s.place.copyIns.any (fun x => x.slot == c.slot && x.key == c.key) then (s.putCopy c lines ps).send h.src (.chunkAck ack)
      else s)

/-- A copy whose chunks are all acknowledged is registered and told to serve under a lease (R186 step 4, R188). -/
def State.copyReady (s : State) (c : CopyOut) : State :=
  let lease := s.poolTime + s.setting 0x3220 0x0A
  let s := (s.modCopyOut c.key c.vault (fun c => { c with phase := 3, live := true, lease := lease })).count 389 1
  let m : PMsg := { key := c.key, vault := c.vault, slot := c.slot, a := lease }
  let s := if s.ownDir c.key then s.dirCopyDone c.key c.vault else s.tell (s.dirVault c.key) 9 m
  s.tell c.vault 9 m

/-- CHUNK_ACK (R181, R186). -/
def execChunkAck (h : Hdr) (c : ChunkSub) (s : State) : Host.Outcome State Fault Refusal :=
  done (s.onFrame h (.chunkAck c) (fun s =>
    if !s.serves then s
    else if c.kind = 0 then (s.modMig c.key (fun m => { m with unacked := m.unacked - c.count })).migStep c.key
    else match s.place.copyOuts.find? (fun x => x.key == c.key && x.vault == h.src / 2 && x.phase == 2) with
      | none => s
      | some x =>
        let s := s.modCopyOut c.key x.vault (fun x => { x with unacked := x.unacked - c.count })
        if x.unacked ≤ c.count then (s.copyReady x).startActions else s))

/-- Requests that a destination has held past the freeze limit are answered MOVED, naming the source (R176 rule 2). -/
def State.heldTooLong (s : State) (key : Nat) : State :=
  match s.place.migIns.find? (fun m => m.key == key) with
  | none => s
  | some m =>
    let late := m.held.filter (fun h => s.elapsed h.since (s.setting 0x3220 4))
    let s := s.modPlace (fun p => { p with migIns := p.migIns.map (fun x => if x.key = key then { x with held := x.held.filter (fun h => !late.contains h) } else x) })
    (s.movedBack m late).piecesBack m (s.place.heldPieces.filter (fun x => x.q.key == key && s.elapsed x.since (s.setting 0x3220 4)))

/-- FREEZE_LIMIT_EXPIRY (R182): the source aborts; a destination lets go what it held (R176). -/
def execFreezeLimitExpiry (key : Nat) (s : State) : Host.Outcome State Fault Refusal :=
  done (if !s.serves then s
    else
      let s := s.heldTooLong key
      (match s.migOf key with
      | some m => if (m.phase = 3 ∨ m.phase = 5) ∧ s.elapsed m.frozen (s.setting 0x3220 4) then (s.abortMig m 2).startActions else s
      | none => s).advanceWorks)

/-- TOMBSTONE_EXPIRY (R177): the life that 0x3220:0C gave it when the directory vault acknowledged the commit. -/
def execTombstoneExpiry (key : Nat) (s : State) : Host.Outcome State Fault Refusal :=
  done (if s.place.tombs.any (fun t => t.key == key && t.acked && decide (t.expires ≤ s.now)) then (s.dropTomb key).pumpMigs.advanceWorks else s)

/-- TRANSLATION_CACHE_FLUSH (R175). -/
def execTranslationCacheFlush (rq : Req) (tag : Nat) (s : State) : Host.Outcome State Fault Refusal :=
  done (s.writeNum rq tag 0x3230 8 1 1 (fun s => (s.modPlace (fun p => { p with tcache := [] }), St.ok)))

/-! ### Invalidations and leases (R187, R188) -/

/-- INVAL (R186, R188): the lines' valid bits clear; a read of one of them that is out does not refill its line (R187). -/
def execInval (h : Hdr) (key slot line count token : Nat) (s : State) : Host.Outcome State Fault Refusal :=
  done (s.onFrame h (.inval key slot line count token) (fun s =>
    let s := s.modPlace (fun p => { p with copyIns := p.copyIns.map (fun c =>
      if c.key = key then { c with valid := (List.range count).foldl (fun v i => if v.testBit (line + i) then v ^^^ (1 <<< (line + i)) else v) c.valid } else c) })
    let s := s.modHost (fun x => { x with reqs := x.reqs.map (fun (e : EReq) =>
      if !e.write && e.key == key && decide (64 * line ≤ e.off ∧ e.off < 64 * (line + count)) then { e with noticed := true } else e) })
    s.send h.src (.invalAck token)))

/-- INVAL_ACK (R188). -/
def execInvalAck (h : Hdr) (token : Nat) (s : State) : Host.Outcome State Fault Refusal :=
  done (s.onFrame h (.invalAck token) (fun s =>
    (s.modPlace (fun p => { p with invals := p.invals.filter (fun i => !(i.token == token && i.vault == h.src / 2)) })).completeWrites.advanceWorks))

/-- COPY_LEASE_EXPIRY (R188). -/
def execCopyLeaseExpiry (slot : Nat) (s : State) : Host.Outcome State Fault Refusal :=
  done (s.modPlace (fun p => { p with copyIns := p.copyIns.map (fun c =>
    if c.slot = slot ∧ c.lease ≤ s.poolTime then { c with serving := false } else c) }))

/-- COPY_LEASE_GUARD_EXPIRY (R188): the copy that did not acknowledge, or did not drop, is removed, and the writes that waited for it complete. -/
def execCopyLeaseGuardExpiry (key vault : Nat) (s : State) : Host.Outcome State Fault Refusal :=
  let waits := s.place.invals.filter (fun i => i.key == key && i.vault == vault)
  done (match s.place.copyOuts.find? (fun c => c.key == key && c.vault == vault) with
    | none => s
    | some c =>
      if (waits = [] ∧ !c.dropping) ∨ s.poolTime < c.lease + s.setting 0x3220 0x0B then s
      else
        let wait := s.now - minOf (waits.map Inval.since) s.now
        let s := (s.count 400 1).raise 147 0 (leBytes 5 key ++ leBytes 2 vault ++ leBytes 8 wait)
        let s := if c.phase < 3 then s.abortCopy c 6 else (s.loseCopyOut key vault).noteDrop key vault
        s.completeWrites.startActions.advanceWorks)

/-- COPY_LEASE_RENEW_TIMER (R188): leases granted a quarter of their length ago are renewed, but not those of a copy that owes an
acknowledgement or that is being dropped. -/
def execCopyLeaseRenewTimer (s : State) : Host.Outcome State Fault Refusal :=
  let len := s.setting 0x3220 0x0A
  let due := s.place.copyOuts.filter (fun c => c.live && !c.dropping && decide (c.lease ≤ s.poolTime + len - len / 4)
    && !s.place.invals.any (fun i => i.key == c.key && i.vault == c.vault))
  done (if !s.serves then s
    else due.foldl (fun s c =>
      (s.modCopyOut c.key c.vault (fun c => { c with lease := s.poolTime + len })).tell c.vault 10
        { key := c.key, vault := c.vault, slot := c.slot, a := s.poolTime + len }) s)

/-! ### Placement messages (R297) -/

/-- What a placement message does at a device that serves its vault, behind the receive checks. -/
def State.onPlace (s : State) (h : Hdr) (code : Nat) (m : PMsg) (f : State → State) : State :=
  s.onFrame h (.placement code m) (fun s => if s.serves then (f s).advanceWorks else s)

/-- MOVE_REQUEST (R174): at the directory a grant or a refusal; at the source the answer to a passed move lease. -/
def execMoveRequest (h : Hdr) (m : PMsg) (s : State) : Host.Outcome State Fault Refusal :=
  done (s.onPlace h 1 m (fun s =>
    if s.ownDir m.key then
      match s.dirMove m.key (h.src / 2) m.a (m.b == 1) with
      | (s, st, gen) => s.send h.src (.placement 2 { key := m.key, vault := m.a, status := st, gen := gen })
    else match s.place.tombs.find? (fun t => t.key == m.key && (t.vault == m.a || m.a == 0xFFFF)) with
      | some t => s.send h.src (.placement 5 { key := m.key, vault := t.vault, slot := t.slot, gen := t.gen })
      | none =>
        if (s.migOf m.key).isSome then s.send h.src (.placement 2 { key := m.key, vault := m.a, status := St.busy, gen := m.gen })
        else s.send h.src (.placement 7 { key := m.key, vault := m.a, gen := m.gen })))

/-- MOVE_ANSWER (R174, R179). -/
def execMoveAnswer (h : Hdr) (m : PMsg) (s : State) : Host.Outcome State Fault Refusal :=
  done (s.onPlace h 2 m (fun s => (s.moveAnswered m.key m.status m.gen).startActions))

/-- A home slot asked for by a directory (R169): an open vault reserves it; asked again, it gives the slot it gave. -/
def State.reserveAsked (s : State) (key : Nat) (above : Bool) : State × Nat × Nat :=
  match s.homeSlot key with
  | some slot => (s, St.ok, slot)
  | none => match s.reserveHome key above with
    | some (s, slot) => (s, St.ok, slot)
    | none => (s, St.busy, 0)

/-- RESERVE_REQUEST (R169, R179): of a home slot, where the message names no source slot, or of a migration's slot. -/
def execReserveRequest (h : Hdr) (m : PMsg) (s : State) : Host.Outcome State Fault Refusal :=
  done (s.onPlace h 3 m (fun s =>
    match (if m.a = 0xFFFF ∧ m.vault = 0xFFFF then s.reserveAsked m.key (m.b == 1) else s.reserveDest m.key (h.src / 2) m.a) with
    | (s, st, slot) => s.send h.src (.placement 4 { key := m.key, vault := s.vault, slot := slot, status := st, gen := m.gen })))

/-- A home slot answered to the directory (R169, R174): the entry is homed; a refusal tries the next vault; an acceptance that the entry does not
await gives the slot back. -/
def State.allocAnswer (s : State) (m : PMsg) : State :=
  let d := s.dirEnt m.key
  if d.state = 1 ∧ d.dst = m.vault then
    if m.status = St.ok then (s.homeEntry m.key m.vault m.slot).dirHomed m.key
    else
      let s := (s.modDir m.key (fun d => { d with dst := 0xFFFF, skip := m.vault :: d.skip })).allocate m.key
      if (s.dirEnt m.key).state = 2 then s.dirHomed m.key else s
  else if m.status = St.ok ∧ !(2 ≤ d.state ∧ d.home = m.vault ∧ d.slot = m.slot) then
    s.tell m.vault 7 { key := m.key, vault := m.vault, slot := m.slot, a := 0xFFFF }
  else s

/-- The first pass of a migration starts (R180). -/
def State.firstPass (s : State) (key slot : Nat) : State :=
  let s := (s.modMig key (fun m => { m with phase := 2, dslot := slot, moved := [] })).mirrorMig key
  match s.migOf key with
  | some m => s.sendGrans m (List.range 512)
  | none => s

/-- The chunks of a read copy go out (R186 step 3). -/
def State.copyPass (s : State) (key v slot : Nat) : State :=
  match s.homeSlot key with
  | none => s
  | some src =>
    let s := s.modCopyOut key v (fun c => { c with phase := 2, slot := slot, unacked := 32768 })
    let s := (s.askRead src 0x18 4 32768).ask 24 0x18 4 512
    (s.sendList (s.activeOf v) (s.chunkGrans key 1 src slot 1 (List.range 512))).count 387 512

/-- RESERVE_ANSWER (R169, R179, R186): for a migration, a read copy, or a new home. -/
def execReserveAnswer (h : Hdr) (m : PMsg) (s : State) : Host.Outcome State Fault Refusal :=
  done (s.onPlace h 4 m (fun s =>
    match s.place.migs.find? (fun x => x.key == m.key && x.dst == m.vault && x.phase == 1) with
    | some x =>
      if m.status = St.ok then s.firstPass m.key m.slot
      else (((s.abortMig x 3).count 399 1).modPlace (fun p => { p with refused := addSet x.slot p.refused })).startActions
    | none =>
      match s.place.copyOuts.find? (fun c => c.key == m.key && c.vault == m.vault && c.phase == 1) with
      | some c => if m.status = St.ok then s.copyPass m.key m.vault m.slot else (s.abortCopy c 3).startActions
      | none => if s.ownDir m.key then s.allocAnswer m else s))

/-- PLACEMENT_COMMIT (R183): the destination serves the extent, the directory records its home; each acknowledges, a repeat too. -/
def execPlacementCommit (h : Hdr) (m : PMsg) (s : State) : Host.Outcome State Fault Refusal :=
  done (s.onPlace h 5 m (fun s =>
    let s := match s.place.migIns.find? (fun x => x.key == m.key && x.slot == m.slot && s.vault == m.vault) with
      | some x => s.commitIn x m
      | none => s
    let s := if s.ownDir m.key then s.dirCommit m.key m.vault m.slot m.gen (h.src / 2) else s
    if s.vault = m.vault ∨ s.ownDir m.key then
      s.send h.src (.placement 6 { key := m.key, vault := s.vault, slot := m.slot, gen := m.gen })
    else s))

/-- COMMIT_ACKNOWLEDGEMENT (R177, R183). -/
def execCommitAcknowledgement (h : Hdr) (m : PMsg) (s : State) : Host.Outcome State Fault Refusal :=
  done (s.onPlace h 6 m (fun s =>
    match s.migOf m.key with
    | some x =>
      (s.commitAcked m.key (x.dst == h.src / 2) (s.dirVault m.key == h.src / 2)).pumpRetire.pumpMigs.startActions
    | none => s))

/-- PLACEMENT_ABORT (R184, R186, R174): a reserved slot is released, and the directory's entry goes back to Homed. -/
def execPlacementAbort (h : Hdr) (m : PMsg) (s : State) : Host.Outcome State Fault Refusal :=
  done (s.onPlace h 7 m (fun s =>
    let s : State := match s.place.migIns.find? (fun x => x.key == m.key && x.src == h.src / 2) with
      | some x => s.abortIn x
      | none => s
    let s : State := match s.place.copyIns.find? (fun c => c.key == m.key && c.slot == m.slot && c.home == h.src / 2 && !c.serving) with
      | some c => (s.modPlace (fun p => { p with copyIns := p.copyIns.filter (fun x => x.slot != c.slot) })).releaseSlot c.slot
      | none => s
    let s := if m.a = 0xFFFF ∧ s.slotUse m.slot = some (.home m.key) ∧ s.dirVault m.key = h.src / 2 then s.releaseSlot m.slot else s
    if s.ownDir m.key && (s.dirEnt m.key).home == h.src / 2 then s.dirAbort m.key else s))

/-- COPY_GRANT (R174, R186): the directory is asked for a copy, the copy vault for a slot, or the home gets the answer. -/
def execCopyGrant (h : Hdr) (m : PMsg) (s : State) : Host.Outcome State Fault Refusal :=
  done (s.onPlace h 8 m (fun s =>
    if s.ownDir m.key ∧ m.vault = h.src / 2 then
      match s.dirCopy m.key m.a with
      | (s, st) => s.send h.src (.placement 8 { key := m.key, vault := m.a, status := st, a := m.a })
    else if m.vault = s.vault then
      match s.reserveCopy m.key (h.src / 2) with
      | (s, st, slot) => s.send h.src (.placement 4 { key := m.key, vault := s.vault, slot := slot, status := st, gen := m.gen })
    else s.copyAnswered m.key m.vault m.status))

/-- A lease given to a read copy held here; the vault that gives it is the extent's home (R164, R188). -/
def State.giveLease (s : State) (home : Nat) (m : PMsg) : State :=
  s.modPlace (fun p => { p with copyIns := p.copyIns.map (fun c =>
    if c.key = m.key ∧ c.slot = m.slot then { c with lease := m.a, serving := true, home := home } else c) })

/-- COPY_REGISTER (R186 step 4). -/
def execCopyRegister (h : Hdr) (m : PMsg) (s : State) : Host.Outcome State Fault Refusal :=
  done (s.onPlace h 9 m (fun s =>
    let s := if s.ownDir m.key then s.dirCopyDone m.key m.vault else s
    if m.vault = s.vault then s.giveLease (h.src / 2) m else s))

/-- LEASE_RENEWAL (R188): a copy no longer held is answered with a drop notice (R189). -/
def execLeaseRenewal (h : Hdr) (m : PMsg) (s : State) : Host.Outcome State Fault Refusal :=
  done (s.onPlace h 10 m (fun s =>
    if s.place.copyIns.any (fun c => c.key == m.key && c.slot == m.slot) then s.giveLease (h.src / 2) m
    else s.send h.src (.placement 11 { key := m.key, vault := s.vault, slot := m.slot })))

/-- COPY_DROP_NOTICE (R174, R189, R190): at the vault that holds the copy, at the home, or at the directory. One with status BUSY comes back from a
directory that refused it; one that names no vault tells a home to drop every copy. -/
def execCopyDropNotice (h : Hdr) (m : PMsg) (s : State) : Host.Outcome State Fault Refusal :=
  done (s.onPlace h 11 m (fun s =>
    if m.status = St.busy then s.modPlace (fun p => { p with dropLate := p.dropLate.filter (· != (m.key, m.vault)) ++ [(m.key, m.vault)] })
    else if m.vault = 0xFFFF then s.dropCopiesOf m.key
    else if m.vault = s.vault then
      match s.place.copyIns.find? (fun c => c.key == m.key) with
      | some c => s.dropCopyHere c
      | none => s.send h.src (.placement 11 { key := m.key, vault := s.vault, slot := m.slot })
    else
      let s := (s.loseCopyOut m.key m.vault).completeWrites
      if !s.ownDir m.key then s
      else match s.dirCopyDrop m.key m.vault with
        | (s, st) =>
          let home := (s.dirEnt m.key).home
          if st ≠ St.ok then s.send h.src (.placement 11 { m with status := St.busy })
          else if home = s.vault ∨ home = h.src / 2 ∨ home = 0xFFFF then s
          else s.tell home 11 { key := m.key, vault := m.vault }))

/-- HEAT_REPORT (R164). -/
def execHeatReport (h : Hdr) (m : PMsg) (s : State) : Host.Outcome State Fault Refusal :=
  done (s.onPlace h 12 m (fun s => s.modPlace (fun p => { p with copyOuts := p.copyOuts.map (fun c =>
    if c.vault = h.src / 2 then { c with heat := getD m.list c.slot c.heat } else c) })))

/-- ARRIVAL_REPORT (R185): the directory clears the previous home; the source frees the granules it kept. -/
def execArrivalReport (h : Hdr) (m : PMsg) (s : State) : Host.Outcome State Fault Refusal :=
  done (s.onPlace h 13 m (fun s =>
    let s := if s.ownDir m.key && (s.dirEnt m.key).home == h.src / 2 then s.modDir m.key (fun d => { d with prev := 0xFFFF }) else s
    s.freeKept m.key))

/-- The anchor of a group as its directory vault answered (R169, R191): allocations and candidates that waited for it go on. -/
def State.anchorCame (s : State) (g anchor : Nat) : State :=
  let s := s.modPlace (fun p => { p with anchors := insertKey g anchor p.anchors })
  let keys := (s.place.dir.filter (fun e => e.2.state == 1 && e.2.dst == 0xFFFF && e.2.group == g && e.2.waiting != [] && !e.2.unheld)).map Prod.fst
  let s := keys.foldl (fun s k =>
    let s := s.allocWith k anchor 32
    if (s.dirEnt k).state = 2 then s.dirHomed k else s) s
  let cs := s.place.asked.filter (fun slot => s.slotGroup slot == g)
  let s := s.modPlace (fun p => { p with asked := p.asked.filter (fun slot => !cs.contains slot) })
  (cs.foldl (fun s slot => s.evaluate slot) s).startActions

/-- The answer to a join (R144, R190): the hint is recorded, or its PLACE piece ends with BUSY. -/
def State.joinAnswered (s : State) (key g st : Nat) : State :=
  let s := if st = St.ok then s.joined key g else s
  (s.rings.works.filter (fun w => w.outs.any (fun o => o.1 == joinNum key))).foldl (fun s w => s.modWork w.id (fun x => { x with
    outs := x.outs.filter (fun o => o.1 != joinNum key)
    bad := if st = St.ok then x.bad else x.bad ++ [(0, st)] })) s

/-- What a message about an affinity group does (R172, R190, R191; log entry 110). `b`: 0 asks the anchor, 1 answers; 2 a member joins, 5 the answer
with the member's key; 3 a member leaves; 4 a member is homed. -/
def State.groupMsg (s : State) (src g : Nat) (m : PMsg) : State :=
  if m.b = 1 then s.anchorCame g m.vault
  else if m.b = 5 then s.joinAnswered (m.list.headD (0, 0)).1 g m.status
  else if !s.ownDir m.key then s
  else if m.b = 0 then s.send src (.placement 14 { key := m.key, vault := (s.dirEnt m.key).home, b := 1 })
  else if m.b = 2 then
    match s.groupJoin g m.vault with
    | (s, st) => s.send src (.placement 14 { key := m.key, status := st, b := 5, list := m.list })
  else if m.b = 3 then s.groupLeave g
  else s.groupHomed g m.vault

/-- A directory entry rebuilt from its home's answer (R178): source 148, and the requests that waited go on. -/
def State.rebuilt (s : State) (m : PMsg) : State :=
  if !s.place.rebuilds.any (fun r => r.key == m.key) then s
  else
    let s := s.modPlace (fun p => { p with
      rebuilds := p.rebuilds.filter (fun r => r.key != m.key)
      cooling := if m.b / 4 % 2 = 1 then addSet m.key p.cooling else p.cooling })
    let s := s.modDir m.key (fun d => { (d.hinted m) with state := 2, home := m.vault, slot := m.slot, gen := m.gen, dst := 0xFFFF, copies := m.list.tail.map Prod.fst })
    ((s.raise 148 0 (leBytes 5 m.key ++ leBytes 1 1)).dirHomed m.key).resumeLookups (· == m.key)

/-- What the vault that homes a key answers to a rebuild: its slot, its hints and its copies (R178). -/
def State.rebuildAnswer (s : State) (key slot : Nat) : PMsg :=
  let m := hintMsg key s.vault (s.homeFields key)
  { m with slot := slot, list := m.list ++ ((s.place.copyOuts.filter (fun c => c.key == key && c.phase == 3)).map (fun c => (c.vault, c.slot))) }

/-- REBUILD_QUERY (R178): the vault that homes the key answers; at the directory the entry is rebuilt; at a home the hints its directory tells are
kept; or a group's record is asked or changed. -/
def execRebuildQuery (h : Hdr) (m : PMsg) (s : State) : Host.Outcome State Fault Refusal :=
  done (s.onPlace h 14 m (fun s =>
    if 2 ^ 39 ≤ m.key then s.groupMsg h.src (m.key - 2 ^ 39) m
    else if m.vault = 0xFFFF then
      match s.homeSlot m.key with
      | some slot => s.send h.src (.placement 14 (s.rebuildAnswer m.key slot))
      | none => s
    else if s.ownDir m.key then s.rebuilt m
    else if (s.homeSlot m.key).isSome || s.place.migIns.any (fun x => x.key == m.key) then s.keepHints m.key m
    else s))

end Sys2Proof.Machine
end

