-- ==== Sys2Proof/Machine/Ports.lean ====
section
/-! DEFINITION. A host port or a Hinge port leaves service (R87, R154, R301, R317), with the event sources of both. -/

namespace Sys2Proof.Machine

/-! ### Host ports -/

/-- A port changed. -/
def State.modPort (s : State) (p : Nat) (f : HPort → HPort) : State := s.modHost (fun h => { h with ports := modD h.ports p {} f })

/-- Source 16+4p (R124): causes 0 down, 1 retrained, 2 held out of service, 3 in service at reduced width. -/
def State.hostPortEvent (s : State) (p cause : Nat) : State :=
  let x := s.hostPort p
  s.raise (16 + 4 * p) cause (leBytes 1 x.speed ++ leBytes 1 x.width ++ leBytes 1 x.protocol ++ leBytes 1 cause)

/-- A port leaves service (R87, R154): requests not yet accepted are discarded, those accepted go on in silence, its rings halt. -/
def State.portGone (s : State) (p link : Nat) : State :=
  let s := s.modPort p (fun x => { x with link := link, speed := 0, width := 0, protocol := 0 })
  let s := s.modHost (fun h => { h with
    held := h.held.filter (fun e => e.port != p)
    reqs := h.reqs.map (fun e => if e.port = p ∧ e.work.isNone then { e with silent := true } else e)
    gpf := h.gpf.filter (fun g => g.port != p) })
  s.ringsPortLost p

/-! ### Hinge ports -/

/-- Source 112+4p (R321). Causes (log entry 36): 0 down, 1 up, 2 retrained, 3 reduced width, 4 twin listed without twin ports. -/
def State.portEvent (s : State) (p cause : Nat) : State :=
  let x := s.xport p
  s.raise (112 + 4 * p) cause (leBytes 2 x.mode ++ leBytes 1 x.lanes ++ leBytes 1 cause)

/-- The PTP port follows the ports in service (R317). -/
def State.placePtp (s : State) : State :=
  s.modHinge (fun h => { h with ptpPort := if s.portUp 2 then 2 else if s.portUp 3 then 3 else 2 })

/-- Source 115+4p on a change of the PTP port's state or accuracy (R318, R321). -/
def State.ptpEvent (s : State) (before : Hinge) : State :=
  if before.ptpState = s.hinge.ptpState ∧ before.ptpAcc = s.hinge.ptpAcc then s
  else s.raise (115 + 4 * s.hinge.ptpPort) 0 (leBytes 1 s.hinge.ptpState ++ leBytes 8 (ofInt 64 s.hinge.ptpOffset) ++ leBytes 8 s.hinge.ptpMaster)

/-- The port leaves SLAVE without becoming grandmaster (R318): holdover. -/
def holdOver (h : Hinge) : Hinge := { h with ptpState := 4, ptpMaster := 0, ptpPrio := 0xFF, ptpQuality := 0xFFFFFFFF, ptpPrio2 := 0xFF, ptpAcc := if h.ptpAcc = 0 then 0 else 2 }

/-- The PTP port leaves SLAVE as its Hinge port leaves service (R317, R318): holdover, and the other pool port from then on. -/
def State.ptpPortLost (s : State) (p : Nat) : State :=
  if p = s.hinge.ptpPort ∧ (s.hinge.ptpState = 8 ∨ s.hinge.ptpState = 9) then (s.modHinge holdOver).ptpEvent s.hinge else s

/-- Whether a twin port's receiver sees a signal (R256). -/
def State.portSignal (s : State) (p : Nat) (on : Bool) : State :=
  if s.portRole p ≠ 0 then s
  else s.modTwin (fun t =>
    let sig := if on then t.signal ||| 2 ^ p else t.signal &&& (3 - 2 ^ p)
    { t with signal := sig, absent := t.absent && sig == 0, idleSince := if sig = 0 ∧ t.beat = .quiet then some (t.idleSince.getD s.now) else none })

/-- A port leaves service (R301): its connections fail, its streams move (R208). -/
def State.portLost (s : State) (p link : Nat) : State :=
  let s := s.ptpPortLost p
  let s := ((s.modXport p (fun x => { x with link := link, mode := 0, lanes := 0, paused := [], unsent := [] })).placePtp).portSignal p false
  (s.hinge.conns.filter (fun c => c.port == p)).foldl (fun s c => if c.state = 0 then s.moveConn c else s.connFails c 1 0) s

end Sys2Proof.Machine
end

