-- ==== Sys2Proof/Machine/SboxOps.lean ====
section
/-! DEFINITION. The strongbox's shared operations: where a logical sector lies, the boot record, rotation and retirement, what a
descriptor does when its turn comes, suspension, and the flush hold (R473 to R490). -/

namespace Sys2Proof.Machine

/-! ### Addresses (R474, R475, R484) -/

/-- The value a list keyed by requesters holds. -/
def reqGet {α : Type} (l : List (Req × α)) (rq : Req) (d : α) : α := ((l.find? (fun e => e.1 == rq)).map Prod.snd).getD d

/-- A list keyed by requesters with one value set. -/
def reqPut {α : Type} (l : List (Req × α)) (rq : Req) (v : α) : List (Req × α) := (rq, v) :: l.filter (fun e => e.1 != rq)

/-- The frame of a logical sector (R484). -/
def Strongbox.frameOf (b : Strongbox) (l : Nat) : Nat :=
  let f := (l * 222 % 1999 + b.start) % 1999
  if b.gap ≤ f then f + 1 else f

/-- The physical sector of a frame (R484). -/
def Strongbox.physOf (b : Strongbox) (f : Nat) : Nat := match assoc b.remap f with | some i => 2016 + i | none => 16 + f

/-- The frame a physical sector serves. -/
def Strongbox.frameAt (b : Strongbox) (p : Nat) : Nat :=
  match b.remap.find? (fun e => 2016 + e.2 == p) with
  | some e => e.1
  | none => p - 16

/-- The logical sector of a frame; 0xFFFF for the gap. -/
def Strongbox.logicalOf (b : Strongbox) (f : Nat) : Nat := ((List.range 1999).find? (fun l => b.frameOf l == f)).getD 0xFFFF

/-- The first logical sector, the count and the kind of each region (R475): 0 image, 1 A/B, 2 journal, 3 ring. -/
def sbRegions : List (Nat × Nat × Nat) :=
  [(0, 128, 0), (128, 128, 0), (256, 160, 1), (416, 160, 1), (576, 64, 0), (640, 64, 0), (704, 16, 1), (720, 16, 1), (736, 1, 0),
   (737, 9, 3), (746, 16, 2)]

/-- The region of a logical sector; 11 where it is unassigned (R475). -/
def regionOf (l : Nat) : Nat := ((List.range 11).find? (fun k =>
  let r := nth sbRegions k (0, 0, 0)
  decide (r.1 ≤ l ∧ l < r.1 + r.2.1))).getD 11

/-- A physical sector. -/
def State.sector (s : State) (p : Nat) : Sector := getD s.sbox.sectors p {}

/-- A physical sector changed. -/
def State.modSector (s : State) (p : Nat) (f : Sector → Sector) : State :=
  s.modSbox (fun b => { b with sectors := modD b.sectors p {} f })

/-- A plane's work in hand. -/
def State.plane (s : State) (n : Nat) : Plane := getD s.sbox.planes n {}

/-- A plane's work changed. -/
def State.modPlane (s : State) (n : Nat) (f : Plane → Plane) : State := s.modSbox (fun b => { b with planes := modD b.planes n {} f })

/-- The physical sector a waiting descriptor names now. -/
def State.entryPhys (s : State) (e : SbEntry) : Nat :=
  match e.phys with
  | some p => p
  | none => s.sbox.physOf (s.sbox.frameOf e.d.sector)

/-- Some frames as a bitmap: bit i for frame `first` + i, of `n` bytes. -/
def frameBits (fs : List Nat) (first n : Nat) : Bytes :=
  leBytes n (((fs.filter (fun f => decide (first ≤ f ∧ f < first + 8 * n))).map (fun f => 2 ^ (f - first))).foldl (· + ·) 0)

/-- A page of the boot record: its bytes 0 to 251 under their CRC-32C. -/
def checkedPage (b : Bytes) : Bytes := b ++ leBytes 4 (crc32cOf b)

/-- The main page of a boot record pair (R485). -/
def Strongbox.bootMain (b : Strongbox) : Bytes :=
  checkedPage (leBytes 4 0x42535A54 ++ leBytes 4 b.bootSeq ++ leBytes 2 b.start ++ leBytes 2 b.gap ++ leBytes 1 b.since ++ leBytes 1 0 ++ leBytes 2 b.spares ++
    (List.range 32).flatMap (fun i => leBytes 2 (((b.remap.find? (fun e => e.2 == i)).map Prod.fst).getD 0xFFFF)) ++ leBytes 8 b.total ++
    frameBits b.badFrames 0 164)

/-- The bad-frame page of a boot record pair (R485), with the protection mask. -/
def Strongbox.bootBad (b : Strongbox) (mask : Nat) : Bytes :=
  checkedPage (leBytes 4 0x46425A54 ++ leBytes 4 b.bootSeq ++ leBytes 2 mask ++ frameBits b.badFrames 1312 86 ++ leBytes 156 0)

/-- A boot record pair is written (R485): the rotation state, the remap table, the bad frames and the protection mask stand. Pairs go to physical sectors
0 and 1, 128 to a sector, and the sector taken next is erased first. The pair of sequence 0 is that of manufacture, which no page is listed for.
Both pages are written in one step, so no start meets a pair cut short. -/
def State.bootRecord (s : State) : State :=
  let s := s.modSbox (fun b => { b with bootSeq := (b.bootSeq + 1) % 2 ^ 32, bootSince := b.since })
  let b := s.sbox
  let i := b.bootSeq % 128
  s.modSector (b.bootSeq / 128 % 2) (fun x =>
    let x := if i = 0 then { x with pages := [], erases := x.erases + 1 } else x
    { x with pages := x.pages ++ [(2 * i, b.bootMain), (2 * i + 1, b.bootBad (s.setting 0x3930 1))] })

/-- Whether a region has lost a sector to a frame left bad (R487). -/
def State.regionBad (s : State) (k : Nat) : Bool := s.sbox.badFrames.any (fun f => regionOf (s.sbox.logicalOf f) == k)

/-! ### Completions (R477) -/

/-- Descriptors of a submitter that are not complete. -/
def State.sbOut (s : State) (f : SbSrc → Bool) : Nat :=
  (s.sbox.queue.filter (fun e => e.op != 7 && f e.d.src)).length +
  (s.sbox.planes.filter (fun p => match p.2.entry with | some e => p.2.state != 0 && e.op != 7 && f e.d.src | none => false)).length +
  (s.sbox.planes.filter (fun p => match p.2.prog with | some x => f x.entry.d.src | none => false)).length

/-- Whether a submitter is the dictionary. -/
def srcIsDict : SbSrc → Bool
  | .dict _ => true
  | _ => false

/-- The completion of 16 bytes (R477). -/
def sbCompletion (tag status progress pulses : Nat) (retired weak : Bool) : Bytes :=
  let b := leBytes 2 tag ++ leBytes 1 status ++ leBytes 1 (b2n retired + 2 * b2n weak) ++ leBytes 4 progress ++ leBytes 1 pulses ++ leBytes 3 0
  b ++ leBytes 4 (crc32cOf b)

/-- A descriptor completes: shown to its submitter, for a dictionary requester its last completion, and bytes read in its buffer. -/
def State.sbComplete (s : State) (d : SbDesc) (status progress pulses : Nat) (retired weak : Bool) (data : Bytes) : State :=
  let s := s.emit (.sbDone d.src d.tag status progress pulses retired weak data)
  match d.src with
  | .dict rq => s.modSbox (fun b => { b with
      lastDone := reqPut b.lastDone rq (sbCompletion d.tag status progress pulses retired weak)
      buffers := if data = [] then b.buffers else reqPut b.buffers rq (data ++ (reqGet b.buffers rq []).drop data.length) })
  | _ => s

/-- The submitter in an event record: 0 the firmware, 1 critical work, 2 a dictionary requester and its number. -/
def sbSrcBytes (src : SbSrc) : Bytes :=
  match src with
  | .firmware => leBytes 1 0
  | .critical => leBytes 1 1
  | .dict rq => leBytes 1 2 ++ reqBytes rq

/-! ### Suspension (R482) -/

/-- Whether a descriptor is critical or Priority work. -/
def SbEntry.urgent (e : SbEntry) : Bool := e.d.prio || e.d.src == .critical

/-- An erase stops its present pulse. -/
def State.suspend (s : State) (n : Nat) (urgent : Bool) : State :=
  s.modPlane n (fun p => { p with state := 4, suspAt := s.now, forPrio := urgent })

/-- A suspended or held erase repeats its stopped pulse. -/
def State.resumeErase (s : State) (n : Nat) : State :=
  s.modPlane n (fun p => if p.state = 4 ∨ p.state = 5 then { p with state := if s.sbox.flushHold && p.state == 5 && !(s.persist.state == 4 && s.persist.mapOut.isNone) then 5 else 2, since := s.now, forPrio := false } else p)

/-- The minimum run time of an erase (R482). -/
abbrev minRunTime : Nat := 500000

/-- Whether a plane's erase has run its minimum time. -/
def State.ranLong (s : State) (n : Nat) : Bool := s.elapsed (s.plane n).since minRunTime

/-- A suspension made for priority or critical work ends once none of it remains for the plane (log entry 44). -/
def State.suspendCheck (s : State) (n : Nat) : State :=
  let p := s.plane n
  if p.state = 4 ∧ p.forPrio ∧ p.prog.isNone ∧ !s.sbox.queue.any (fun e => e.urgent && s.entryPhys e % 16 == n) then s.resumeErase n else s

/-! ### Retirement (R486, R487) -/

/-- A frame's physical sector is replaced by the lowest unused spare (R486): sources 273 and 274. -/
def State.takeSpare (s : State) (old : Nat) : State :=
  let f := s.sbox.frameAt old
  let new := 2016 + s.sbox.spares
  let s := (s.modSbox (fun b => { b with
    remap := insertKey f b.spares b.remap
    spares := b.spares + 1
    sectors := eraseKey old b.sectors })).bootRecord
  let s := s.raise 273 0 (leBytes 2 f ++ leBytes 2 old ++ leBytes 2 new)
  if 24 ≤ s.sbox.spares then s.raise 274 0 (leBytes 1 (32 - s.sbox.spares) ++ leBytes 2 f ++ leBytes 1 (regionOf (s.sbox.logicalOf f))) else s

/-- A frame is left bad with no spare (R487): the boot record says so, and gap moves stop. A copy of the saved set that loses a sector is no longer valid,
so that the other one is in force. -/
def State.frameBad (s : State) (old : Nat) : State :=
  let f := s.sbox.frameAt old
  let s := (s.modSbox (fun b => { b with badFrames := addSet f b.badFrames })).bootRecord
  let s := s.raise 273 0 (leBytes 2 f ++ leBytes 2 old ++ leBytes 2 old)
  let k := regionOf (s.sbox.logicalOf f)
  let s := if k = 6 then s.modDict (fun d => { d with savedA := { d.savedA with valid := false } })
    else if k = 7 then s.modDict (fun d => { d with savedB := { d.savedB with valid := false } }) else s
  s.raise 274 0 (leBytes 1 0 ++ leBytes 2 f ++ leBytes 1 (regionOf (s.sbox.logicalOf f)))

/-! ### Rotation (R484) -/

/-- Whether work in hand holds a physical sector. -/
def State.sectorBusy (s : State) (p : Nat) : Bool :=
  let x := s.plane (p % 16)
  s.sbox.planes.any (fun e => e.2.state != 0 && e.2.phys == p) || (match x.prog with | some g => s.entryPhys g.entry == p | none => false)

/-- A move of the gap by one frame, where one is due and nothing stops it: the source copied onto the gap, the boot record, and the
erase of the source frame. -/
def State.gapMove (s : State) : State :=
  let b := s.sbox
  let src := if b.gap = 0 then 1999 else b.gap - 1
  let sp := b.physOf src
  let gp := b.physOf b.gap
  if !b.moveDue || b.flushHold || b.badFrames != [] || s.sectorBusy sp || s.sectorBusy gp || b.queue.any (fun e => e.op == 7) then s
  else
    let s := s.modSector gp (fun x => { x with pages := (s.sector sp).pages })
    let s := (s.modSbox (fun b => { b with
      moveDue := false
      gap := if b.gap = 0 then 1999 else b.gap - 1
      start := if b.gap = 0 then (b.start + 1) % 1999 else b.start })).bootRecord
    s.modSbox (fun b => { b with queue := b.queue ++ [{ op := 7, d := { src := .firmware, sector := 0 }, phys := some sp }] })

/-- An erase requested through the queue is counted (R484). -/
def State.countErase (s : State) : State :=
  s.modSbox (fun b => if 64 ≤ b.since + 1 then { b with since := 0, moveDue := true } else { b with since := b.since + 1 })

/-! ### What a descriptor does in its turn -/

/-- The physical sector that holds the page `i` pages after the start of a logical sector; from 256 on the next sector's. -/
def State.pagePhys (s : State) (l i : Nat) : Nat := s.sbox.physOf (s.sbox.frameOf (l + i / 256))

/-- The bytes of a page from a logical sector on; a page that holds nothing reads as a free value (log entry 47). -/
def State.pageBytes (s : State) (l i : Nat) : Bytes :=
  match assoc (s.sector (s.pagePhys l i)).pages (i % 256) with
  | some b => b
  | none => leBytes 256 (Config.freeNat (s.fresh + i))

/-- A read (R478): up to the first page with a word that does not read clean; source 282 on a READ. -/
def State.sbReadNow (s : State) (e : SbEntry) : State :=
  let p := s.entryPhys e
  let first := e.d.off / 256
  let pages := (List.range ((e.d.off + e.d.len + 255) / 256 - first)).map (· + first)
  let all := pages.flatMap (s.pageBytes e.d.sector)
  let s := s.modPlane (p % 16) (fun x => { x with forPrio := x.forPrio || e.urgent })
  let s := { s with fresh := s.fresh + 512 }
  match pages.find? e.bad.contains with
  | none => (s.sbComplete e.d St.ok e.d.len 0 false false ((all.drop (e.d.off % 256)).take e.d.len)).suspendCheck (p % 16)
  | some i =>
    let n := 256 * i - e.d.off
    let s := if e.op = 1 then s.raise 282 0 (leBytes 2 (e.d.sector + i / 256) ++ leBytes 2 (i % 256)) else s
    (s.sbComplete e.d St.uncorrectable n 0 false false ((all.drop (e.d.off % 256)).take n)).suspendCheck (p % 16)

/-- A program starts (R478, R479, R487): refused on a page that is not blank, and on a frame left bad. -/
def State.sbProgramNow (s : State) (e : SbEntry) : State :=
  let p := s.entryPhys e
  let first := e.d.off / 256
  if (List.range (e.d.len / 256)).any (fun i => (assoc (s.sector p).pages (first + i)).isSome) then
    (s.sbComplete e.d St.badRange 0 0 false false []).suspendCheck (p % 16)
  else if s.sbox.badFrames.contains (s.sbox.frameAt p) then (s.sbComplete e.d St.eraseFail 0 0 false false []).suspendCheck (p % 16)
  else s.modPlane (p % 16) (fun x => { x with prog := some { entry := e }, forPrio := x.forPrio || e.urgent })

/-- An erase starts (R481, R486, R487): on the spare where the sector is due for retirement and one is left; refused on a frame left bad. -/
def State.sbEraseNow (s : State) (e : SbEntry) : State :=
  let p := s.entryPhys e
  if s.sbox.badFrames.contains (s.sbox.frameAt p) then (if e.op = 7 then s else (s.sbComplete e.d St.eraseFail 0 0 false false []).countErase)
  else
    let swap : Bool := (s.sector p).due && decide (s.sbox.spares < 32)
    let new := if swap then 2016 + s.sbox.spares else p
    let s := if swap then s.takeSpare p else s
    s.modPlane (p % 16) (fun x => { x with
      state := 1
      phys := new
      entry := some { e with phys := some new, retired := swap }
      pulses := 0
      flag := 0
      since := s.now })

/-- A SUSPEND (R482): an erase that runs stops once it has run its minimum time, else source 276; where nothing runs, OK. -/
def State.sbSuspendNow (s : State) (d : SbDesc) : State :=
  let n := s.entryPhys { op := 4, d := d } % 16
  let x := s.plane n
  if x.state = 2 ∧ (s.ranLong n ∨ d.src = .critical) then (s.suspend n false).sbComplete d St.ok 0 0 false false []
  else if x.state = 1 ∨ x.state = 2 ∨ x.state = 3 then
    (s.raise 276 0 (leBytes 1 n ++ leBytes 8 (s.now - x.since))).sbComplete d St.suspendRefused 0 0 false false []
  else s.sbComplete d St.ok 0 0 false false []

/-- A RESUME (R482). -/
def State.sbResumeNow (s : State) (d : SbDesc) : State :=
  (s.resumeErase (s.entryPhys { op := 5, d := d } % 16)).sbComplete d St.ok 0 0 false false []

/-- Whether a descriptor runs now (R473, R477, R478, R482, R483): nothing of its sector is ahead of it, and its plane is free or its erase
is suspended; during a flush only critical work, and the rest once the map is written. -/
def State.sbMay (s : State) (e : SbEntry) (ahead : List Nat) : Bool :=
  let p := s.entryPhys e
  let x := s.plane (p % 16)
  let flushOk : Bool := !s.sbox.flushHold || e.d.src == .critical || (s.persist.mapOut.isNone && s.persist.snap.isSome && e.op != 3 && e.op != 7)
  let next : Bool := (e.op == 1 || e.op == 6) && decide (65536 < e.d.off + e.d.len) && s.sectorBusy (s.pagePhys e.d.sector 256)
  flushOk && !ahead.contains p && !s.sectorBusy p && !next && x.prog.isNone &&
    (x.state == 0 || ((x.state == 4 || x.state == 5) && e.op != 3 && e.op != 7))

/-- An urgent descriptor that finds its plane erasing another sector suspends the erase (R482): critical work at once, Priority once
the minimum time has run. -/
def State.sbUrge (s : State) (e : SbEntry) : State :=
  let n := s.entryPhys e % 16
  let x := s.plane n
  if x.state = 2 ∧ x.phys ≠ s.entryPhys e ∧ e.op ≠ 3 ∧ e.op ≠ 7 ∧ (e.d.src = .critical ∨ (e.d.prio ∧ s.ranLong n)) then s.suspend n true else s

/-- A descriptor's turn. -/
def State.sbRun (s : State) (e : SbEntry) : State :=
  if e.op = 2 then s.sbProgramNow e
  else if e.op = 3 ∨ e.op = 7 then s.sbEraseNow e
  else s.sbReadNow e

/-- The queue is gone through once, in submission order: what may run runs, the rest waits. -/
def State.sbPump (s : State) : State :=
  let s := s.gapMove
  let q := s.sbox.queue
  (q.foldl (fun (a : State × List Nat) e =>
    let s := a.1.sbUrge e
    if s.sbMay e a.2 then (s.sbRun e, a.2)
    else (s.modSbox (fun b => { b with queue := b.queue ++ [e] }), a.2 ++ [s.entryPhys e]))
    (s.modSbox (fun b => { b with queue := [] }), [])).1

/-! ### The flush hold (R483) -/

/-- Flush commitment holds the strongbox: every erase that runs or is suspended is held. -/
def State.sbHold (s : State) : State :=
  (s.modSbox (fun b => { b with
    flushHold := true
    planes := b.planes.map (fun p => if p.2.state = 2 ∨ p.2.state = 4 then (p.1, { p.2 with state := 5 }) else p) }))

/-- Held erases go on once the map is written and the seal recorded, or once the hold is over. -/
def State.sbRelease (s : State) : State :=
  ((List.range 16).foldl (fun s n => if (s.plane n).state = 5 then s.resumeErase n else s) s).sbPump

/-- The hold is over. -/
def State.sbUnhold (s : State) : State := (s.modSbox (fun b => { b with flushHold := false })).sbRelease

end Sys2Proof.Machine
end

