-- ==== Sys2Proof/Machine/PersistOps.lean ====
section
/-! DEFINITION. Persistence's shared operations: home writes that complete or fail, the loss of a drive, the power-fail flush with
its maps, progress and seal, the resume, and restore (R210, R217 to R246, R545). -/

namespace Sys2Proof.Machine

/-! ### Arrival records (R223) and the rebuild of a drive (R220) -/

/-- A granule's home write sets its bit in its extent's arrival record; a whole record is reported to the directory vault and the
previous home, and goes (R185, R223). -/
def State.arrivalWritten (s : State) (g : Nat) : State :=
  match s.persist.arrivals.find? (fun a => a.slot == g / 512) with
  | none => s
  | some old =>
    let a := { old with written := old.written ||| 2 ^ (g % 512) }
    if a.written ≠ 2 ^ 512 - 1 then (if a = old then s else s.putArrival a)
    else
      let s := s.dropArrival a.slot
      let m : PMsg := { key := a.key, vault := s.vault, slot := a.slot }
      let s := if s.ownDir a.key then s.modDir a.key (fun d => { d with prev := 0xFFFF }) else s.tell (s.dirVault a.key) 13 m
      if a.src = s.vault then s.freeKept a.key
      else if s.dirVault a.key = a.src ∧ !s.ownDir a.key then s else s.tell a.src 13 m

/-- Whether a slot homes an extent. -/
def State.homesSlot (s : State) (slot : Nat) : Bool :=
  match s.slotUse slot with
  | some (.home _) => true
  | _ => false

/-- The granules of every homed slot that a drive holds (R220). -/
def State.gransOn (s : State) (d : Nat) : List Nat :=
  ((s.place.slots.filter (fun e => s.homesSlot e.1)).flatMap (fun e => (List.range 512).map (slotGran e.1))).filter
    (fun g => (s.drivesOf g).contains d)

/-- A rebuilding drive is in service once every granule on it is written (R220); the home state returns to Open with it. -/
def State.rebuildCheck (s : State) (d : Nat) : State :=
  let s := s.modDrive d (fun x => { x with rebuild := x.rebuild.filter (fun g => s.homesSlot (g / 512)) })
  if (s.drive d).state = 1 ∧ (s.drive d).rebuild = [] then
    let s := s.modDrive d (fun x => { x with state := 2 })
    (s.modPersist (fun p => { p with failed := p.failed && (List.range s.driveCount).any (fun k => (s.drive k).state != 2) })).throttleCheck
  else s

/-- A granule written on its drives leaves their rebuilds. -/
def State.rebuildWritten (s : State) (g : Nat) (ds : List Nat) : State :=
  (ds.filter (fun d => (s.drive d).state == 1)).foldl (fun s d =>
    (s.modDrive d (fun x => { x with rebuild := x.rebuild.filter (· != g) })).rebuildCheck d) s

/-! ### Pool persist points (R244, R246) -/

/-- A pool persist point at this vault ends once its granules are home-safe, and not during a flush (R244, R246): migrations held
out of their freeze go on, and chunks withheld are acknowledged (R196), and the root is told. -/
def State.pointCheck (s : State) : State :=
  match s.persist.point with
  | none => s
  | some x =>
    if x.grans ≠ [] ∨ s.persist.state = 3 then s
    else
      let s := s.modPersist (fun p => { p with point := none })
      let s := if x.failed then s.raise 169 0 (leBytes 4 x.number ++ leBytes 2 s.vault ++ leBytes 1 0) else s
      let s := s.passesAfterPoint.ackChunks
      (s.opDone x.op (if x.failed then St.homeFailed else St.ok) (b2n x.failed)).settled

/-! ### The flush (R228 to R232) -/

/-- The slots of a set of granules. -/
def slotsOf (gs : List Nat) : List Nat := gs.foldl (fun l g => addSet (g / 512) l) []

/-- The map area a flush writes: an erased one, else the one not written last (R231, R239; log entry 31). -/
def State.mapTarget (s : State) : Nat :=
  match (List.range 2).find? (fun i => !(nth s.persist.maps i {}).valid) with
  | some i => i
  | none => 1 - s.persist.mapArea

/-- Arrival records a power-fail dirty map holds (R231). -/
abbrev mapArrivals : Nat := 47000

/-- The writing of a power-fail dirty map of some slots starts (R231). -/
def State.startMap (s : State) (active : Bool) (slots : List Nat) : State :=
  let t := s.mapTarget
  s.modPersist (fun p => { p with
    mapArea := t
    maps := setNth p.maps t {}
    mapOut := some {
      valid := true
      gen := p.header.gen
      vault := s.vault
      dev := s.pool.number
      claim := s.twin.claim
      active := active
      horizon := p.horizon
      slots := slots
      arrivals := p.arrivals.take mapArrivals
      overflow := decide (mapArrivals < p.arrivals.length) } })

/-- Home writes out at a drive. -/
def State.driveOuts (s : State) (d : Nat) : Nat := (s.persist.home.filter (fun w => w.drives.contains d)).length

/-- Whether every drive of a granule has room in its queue (0x3320:03). -/
def State.queueRoom (s : State) (g : Nat) : Bool :=
  (s.drivesOf g).all (fun d => !s.driveUp d || decide (s.driveOuts d < s.setting 0x3320 3))

/-- The flush's granules go to their drives in ascending order, as far as the queues take them (R229). -/
def State.pumpFlush (s : State) : State :=
  (s.persist.snap.getD []).foldl (fun s g => if s.homeBusy g || !s.queueRoom g then s else s.issueHome g true) s

/-- The links of a device that parks (R520, R521): every SerDes but twin port 0's goes idle, so that each port there leaves service. -/
def State.idleLinks (s : State) : State :=
  let s := (List.range 8).foldl (fun s p =>
    if (s.hostPort p).link = 2 ∨ (s.hostPort p).link = 3 then (s.portGone p 0).hostPortEvent p 0
    else if (s.hostPort p).link = 1 then s.portGone p 0 else s) s
  let s := [1, 2, 3].foldl (fun s p => if s.portUp p then (s.portLost p 0).portEvent p 0 else s) s
  s.modPersist (fun p => { p with drives := p.drives.map (fun d => (d.1, { d.2 with link := false })) })

/-- A device that is parked after its seal (R521): its channels enter self-refresh and its links go idle; clusters 1 to 4 are halted while it is
parked. -/
def State.park (s : State) : State :=
  if s.power.state = 2 ∧ s.flag 0x3C00 2 then
    ((s.modPower (fun p => { p with state := 3 })).modDram (fun d => { d with
      chans := d.chans.map (fun c => if c.2.state = 2 then (c.1, { c.2 with state := 4, selfSince := s.now }) else c) })).idleLinks
  else s

/-- A parked device runs again (R521): its channels leave self-refresh, and its links train as their commands tell; those of the home drives are up
at once. -/
def State.unpark (s : State) : State :=
  if s.power.state = 3 then
    ((s.modPower (fun p => { p with state := 2 })).modDram (fun d => { d with
      chans := d.chans.map (fun c => if c.2.state = 4 then (c.1, { c.2 with state := 2, lastUse := s.now }) else c) })).modPersist (fun p => { p with
        drives := p.drives.map (fun d => (d.1, { d.2 with link := d.2.state == 1 || d.2.state == 2 })) })
  else s

/-- The VMAIN loads stop (R518, R521, R535): the device is in the Auxiliary state with no link, no role and no service; its channels keep
their contents in self-refresh where `keep`. A dirty map that is being written goes on: the strongbox is of the management island (R516). -/
def State.vmainStop (s : State) (keep : Bool) : State :=
  let s := s.modPower (fun p => { p with state := 1, phase := 0 })
  let s := s.modDram (fun d => { d with
    waiting := []
    reading := none
    chans := d.chans.map (fun c => (c.1, { c.2 with
      state := if keep then (if c.2.state = 2 ∨ c.2.state = 4 then 4 else c.2.state) else 0
      alert := []
      selfSince := s.now })) })
  let s := s.modHost (fun h => { h with ports := [], reqs := [], held := [], gpf := [], creditsOpen := false, withhold := [] })
  let s := s.modRings (fun r => { r with rings := [], works := [] })
  let s := s.modHinge (fun h => { h with ports := [], conns := [], unreach := [] })
  let s := s.modTwin (fun t => { t with state := 0, latch := false, inSync := false, handover := false, resyncOn := false, hearing := false, peer := none })
  let s := s.modPersist (fun p => { p with
    state := 0
    snap := none
    writes := []
    home := []
    unacked := []
    mirroring := false
    waitAdmit := []
    urgent := []
    restoring := []
    restoreHold := []
    standbyFlush := false })
  s.syncMode

/-- What follows a seal (R518, R521): without POWER_GOOD the VMAIN loads stop; else the device may park. -/
def State.afterSeal (s : State) : State := if s.power.good then s.park else s.vmainStop false

/-- Lost extents a header lists at most (R214, R230). -/
abbrev lostMost : Nat := 129024

/-- The seal (R230, R246): the header on every drive, sealed or sealed with losses, or open where the list overflows; the
strongbox record; SEALED to the twin; source 161. Writes, pieces and points that waited for their granules complete. -/
def State.seal (s : State) : State :=
  let behind := ((List.range s.driveCount).filter (fun d => (s.drive d).state == 1)).flatMap (fun d => slotsOf (s.drive d).rebuild)
  let lost := behind.foldl (fun l x => addSet x l) s.persist.flushLost
  let st := if lost = [] then 2 else if lostMost < lost.length then 1 else 3
  let s := if s.driveCount = 0 then s else s.writeHeader (fun h => { h with
    state := st
    progress := 0
    lost := lost
    sealTime := s.poolTime
    horizon := s.persist.horizon })
  let s := s.modPersist (fun p => { p with
    state := 4
    standbyFlush := false
    sealRec := some (p.header.gen, s.poolTime)
    writes := p.writes.map (fun w => { w with waitSeal := false })
    point := p.point.map (fun x => { x with grans := [] }) })
  let s := s.modRings (fun r => { r with works := r.works.map (fun w => { w with grans := [] }) })
  let s := if s.driveCount = 0 ∨ !s.twinListed then s else s.send s.twinDev (.notice 4 s.vault s.dirtySet)
  let s := s.raise 161 0 (leBytes 4 s.persist.header.gen ++ leBytes 1 st ++ leBytes 4 lost.length ++ leBytes 8 (s.now - s.persist.committedAt))
  s.pointCheck.afterSeal.sbRelease

/-- The seal follows once every granule of the snapshot is written or lost (R230). -/
def State.sealCheck (s : State) : State :=
  if s.persist.state = 3 ∧ s.persist.snap = some [] ∧ !s.persist.home.any HomeW.flush then s.seal else s

/-- A header with the flush progress after every 1,024 extents (R230): `left`: the extents that were left before. -/
def State.progressHeader (s : State) (left : Nat) : State :=
  match s.persist.snap with
  | some (g :: gs) =>
    let total := s.persist.flushTotal
    if s.persist.state = 3 ∧ (total - left) / 1024 < (total - (slotsOf (g :: gs)).length) / 1024 then
      s.writeHeader (fun h => { h with progress := g / 512 })
    else s
  | _ => s

/-- The extents of the snapshot that are not yet fully written. -/
def State.flushLeft (s : State) : Nat := (slotsOf (s.persist.snap.getD [])).length

/-- What follows once home writes have completed or failed: the queues, the seal, points, completions and waiting writes. -/
def State.afterHome (s : State) : State :=
  let s := s.pumpUrgent
  let s := if s.persist.state = 3 then s.pumpFlush.sealCheck else s
  s.pointCheck.completeWrites.afterClean.advanceWorks

/-! ### Home writes that complete or fail (R210, R218, R219) -/

/-- The clean notice of a granule, while its dirty bit is clear, on its stream (R210). -/
def State.cleanNotice (s : State) (g : Nat) : State :=
  if s.persist.dirty.contains g || !s.persist.mirroring then s
  else match s.streamPort (g / 512 % 2) with
    | some p => (s.sendOn s.twinDev p (.clean (g / 512 % 2) [(g / 512, g % 512)])).count 429 1
    | none => s

/-- The poison table entries of a granule's lines that are no longer poisoned are cleared on its drives (R218). -/
def State.clearTable (s : State) (g : Nat) (ds : List Nat) : State :=
  let old := s.persist.poisonTab.filter (fun e => ds.contains e.1 && e.2.1 == g && !s.linePoison (granLine g + e.2.2))
  let s := s.modPersist (fun p => { p with poisonTab := p.poisonTab.filter (fun e => !old.contains e) })
  s.emits (old.map (fun e => .drive e.1 (.poisonEntry g e.2.2 false)))

/-- A home write completed on every drive it still waits for (R222): the granule is home-safe for each write it was read after. -/
def State.homeWritten (s : State) (w : HomeW) : State :=
  let g := w.gran
  let flushing := s.persist.state == 3
  let covered := decide (getD s.persist.lastSeq g 0 ≤ w.seq)
  let left := s.flushLeft
  let wanted := s.rings.works.any (fun x => x.grans.any (fun e => e.1 == g))
  let s := s.modPersist (fun p => { p with
    home := p.home.filter (fun x => x.id != w.id)
    oldHome := delSet g p.oldHome
    writes := p.writes.map (fun x => if x.gran = g ∧ x.needHome ∧ x.seq ≤ w.seq then { x with homeOk := true } else x)
    point := p.point.map (fun x => { x with grans := x.grans.filter (fun e => flushing || !(e.1 == g && decide (e.2 ≤ w.seq))) })
    snap := if covered then p.snap.map (delSet g) else p.snap })
  let s := s.modRings (fun r => { r with works := r.works.map (fun x =>
    { x with grans := x.grans.filter (fun e => flushing || !(e.1 == g && decide (e.2 ≤ w.seq))) }) })
  let s := (s.count (if w.flush then 424 else 418) 1).count 419 (granuleBytes * w.drives.length)
  let s := if wanted then s.count 422 1 else s
  let s := ((s.clearTable g w.drives).cleanNotice g).arrivalWritten g
  ((s.rebuildWritten g w.drives).progressHeader left).afterHome

/-- In the Failed state every write, piece and point that needs the home store ends (R219); a flush goes on instead. -/
def State.endNeedsHome (s : State) : State :=
  if !s.homeFailed || s.persist.state == 3 then s
  else
    let gs := (s.persist.writes.filter (fun w => w.needHome && !w.homeOk)).map HWrite.gran
      ++ s.rings.works.flatMap (fun w => w.grans.map Prod.fst) ++ (match s.persist.point with | some x => x.grans.map Prod.fst | none => [])
    gs.foldl (fun s g => s.granFailed g) s

/-- A drive leaves service (R219): home writes with no drive left have failed. -/
def State.driveGone (s : State) (d status lba : Nat) : State :=
  let s := s.driveLost d status lba
  let dead := s.persist.home.filter (fun w => w.drives == [])
  let s := s.modPersist (fun p => { p with home := p.home.filter (fun w => w.drives != []) })
  (dead.foldl (fun s w => s.granFailed w.gran) s).endNeedsHome.afterHome

/-- A home write failed on a drive (R219): retried once there, then the drive leaves service and the granule stays dirty. Behind the fence latch
no command goes to a drive (R261). -/
def State.homeFail (s : State) (w : HomeW) (d status : Nat) : State :=
  if s.twin.latch then s
  else
    let s := ((s.count 427 1).count (229 + 8 * d) 1).modDrive d (fun x => { x with fails := satAdd x.fails 1 0xFFFFFFFF })
    let s := s.modPersist (fun p => { p with home := p.home.map (fun x => if x.id = w.id then { x with tries := d :: x.tries, since := s.now } else x) })
    if w.tries.contains d then
      let s := s.modPersist (fun p => { p with dirty := addSet w.gran p.dirty })
      s.driveGone d status (s.driveLba w.gran)
    else s.emit (.drive d (.write (s.driveLba w.gran) w.id w.data))

/-! ### Committing a flush (R228, R232, R236) -/

/-- The flush override of the lattice starts or ends (R364), from the next slot boundary on: source 197. -/
def State.setOverride (s : State) (on : Bool) : State :=
  if s.lattice.ovf = on then s
  else (s.modLattice (fun l => { l with ovf := on, ovfAt := l.origin + ((s.poolTime - l.origin) / 125 + 1) * 125 })).raise 197 (b2n on) (leBytes 1 (b2n on))

/-- The device commits to the flush at a qualified assertion of PFAIL_N (R228, R232, R235, R236), or stops a restore, or in the
Sealed state writes a new map and a new seal. A restore that stops keeps its list of granules, so that accesses to them still wait. -/
def State.commitFlush (s : State) : State :=
  if s.persist.state = 1 then s.modPersist (fun p => { p with state := 0, restoreWait := [] })
  else if s.persist.state = 2 ∧ s.isActive then
    let s := s.modPersist (fun p => { p with
      state := if s.driveCount = 0 then 4 else 3
      committedAt := s.now
      snap := none
      flushLost := []
      writes := p.writes.map (fun w => { w with waitSeal := w.needHome && !w.homeOk }) })
    let s := (s.modHost (fun h => { h with withhold := addSet 1 h.withhold })).sbHold
    let s := if s.twinListed then s.send s.twinDev (.notice 3 s.vault s.dirtySet) else s
    ((s.throttleNotice 1).setOverride true).raise 160 0 (leBytes 8 s.dirtySet ++ leBytes 8 s.ceiling ++ leBytes 4 s.flushRate)
  else if s.persist.state = 4 ∧ s.isActive then (s.startMap true []).seal
  else if (s.twin.state = 4 ∨ s.twin.state = 5) ∧ !s.persist.standbyFlush then
    let s := s.modPersist (fun p => { p with standbyFlush := true, committedAt := s.now })
    s.sbHold.startMap false (slotsOf s.persist.shadow)
  else s

/-- The snapshot of the dirty set (R229): the map and the flush's home writes start. Without a home store only the map is written,
and the seal is the strongbox's record (R236). Granules whose home write is out are in the snapshot with the dirty ones. -/
def State.flushSnapshot (s : State) : State :=
  let gs := (s.persist.home.map HomeW.gran).foldl (fun l g => addSet g l) s.persist.dirty
  let s := s.modPersist (fun p => { p with snap := some (if s.driveCount = 0 then [] else gs), flushTotal := (slotsOf gs).length })
  let s := s.startMap true (slotsOf gs)
  if s.persist.state = 4 then s.seal else s.pumpFlush.sealCheck

/-! ### Resume (R233) -/

/-- A sealed device resumes (R233): its home opens, nothing is dirty, credits are released, source 173. It waits for an erased map
area (R239). -/
def State.resumeService (s : State) : State :=
  if s.persist.state ≠ 4 ∨ !s.mapReady ∨ !s.isActive then s
  else
    let s := if s.persist.throttled then s.count 420 ((s.now - s.persist.throttledAt) / 125) else s
    let s := s.modPersist (fun p => { p with
      dirty := if s.driveCount = 0 then p.dirty else []
      fresh := if s.driveCount = 0 then p.fresh else []
      throttled := false
      snap := none
      mapOut := none })
    let s := (s.modHost (fun h => { h with withhold := delSet 1 h.withhold })).sbUnhold
    let s := (s.unpark.openHome.setOverride false).raise 173 0 (leBytes 4 s.persist.header.gen)
    s.afterHome

/-! ### Restore (R237 to R242, R545) -/

/-- The homed slots with their keys. -/
def State.homedSlots (s : State) : List (Nat × Nat) :=
  s.place.slots.filterMap (fun e => match e.2 with | .home k => some (e.1, k) | _ => none)

/-- A granule of a suspect extent poisoned whole under policy 0 (R240). -/
def State.poisonSuspect (s : State) (g : Nat) : State :=
  if s.persist.suspects.contains (g / 512) ∧ s.setting 0x3300 0x0B = 0 then s.poisonLines (granLine g) 64 else s

/-- An extent is suspect (R240): source 164. Under policy 0 its lines are poisoned, those of granules still to be restored as they
come, with one entry of cause 4 for the extent (R418). -/
def State.markSuspect (s : State) (slot : Nat) : State :=
  if s.persist.suspects.contains slot then s
  else
    let key := getD s.homedSlots slot 0
    let s := (s.modPersist (fun p => { p with suspects := addSet slot p.suspects })).raise 164 0
      (leBytes 3 slot ++ leBytes 5 key ++ leBytes 1 (s.setting 0x3300 0x0B))
    if s.setting 0x3300 0x0B ≠ 0 then s
    else
      let s := s.poisonEnterSpan (slotLine slot 0) 4 2
      (((List.range 512).map (slotGran slot)).filter (fun g => !s.persist.restoring.contains g)).foldl (fun s g => s.poisonSuspect g) s

/-- The vault opens as far as its restore allows (R235, R238, R239): in on-demand mode at once, in full mode once every granule is
restored, and only with a map area erased. -/
def State.restoreOpen (s : State) : State :=
  if s.persist.state = 1 ∧ s.isActive ∧ !s.homeKeyEmpty ∧ s.mapReady ∧ (s.setting 0x3300 0x0C = 0 ∨ s.persist.restoring = []) then s.openHome.afterClean else s

/-- The power-fail dirty maps a restore may use (R237): complete, and of the header's home generation. -/
def State.usableMaps (s : State) : List DirtyMap := s.persist.maps.filter (fun m => m.valid && m.gen == s.persist.header.gen && !m.incomplete)

/-- The restore case (R237): 1 retained, 2 sealed, 3 sealed with losses, 4 unsealed with a map, 5 unsealed without one, 6 new. -/
def State.caseOf (s : State) : Nat :=
  let h := s.persist.header
  if s.twin.keptDram ∧ s.twin.claim = s.claimOf s.vault then 1
  else if !h.valid then 6
  else if h.state = 2 then 2
  else if h.state = 3 then 3
  else if s.usableMaps != [] then 4
  else 5

/-- Whether a slot lies in the metadata area (R34; its place: log entry 22). -/
def State.inMeta (s : State) (slot : Nat) : Bool := decide (s.extents - metaExtents s.extents ≤ slot ∧ slot < s.extents)

/-- The slots whose home image is in doubt (R237): of a home sealed with losses those of its list, of an unsealed one those that a map holds at or above
the flush progress, or every one. -/
def State.inDoubt (s : State) (c slot : Nat) : Bool :=
  let h := s.persist.header
  if c = 3 then h.lost.contains slot
  else if c = 4 then decide (h.progress ≤ slot) && s.usableMaps.any (fun m => m.slots.contains slot)
  else c == 5

/-- The suspect extents of a restore case (R237). -/
def State.suspectsOf (s : State) (c : Nat) : List Nat := (s.homedSlots.map Prod.fst).filter (s.inDoubt c)

/-- A directory entry lost or in doubt is rebuilt (R178, R240): every home vault is asked for its key, this one by its own reverse slot map, and
requests for the key wait. -/
def State.rebuildDir (s : State) (key : Nat) : State :=
  let d := s.dirEnt key
  let mine := (s.homeSlot key).map (fun slot => s.rebuildAnswer key slot)
  let s := s.modDir key (fun _ => {})
  let s := s.modPlace (fun p => { p with
    rebuilds := p.rebuilds.filter (fun r => r.key != key) ++ [{ key := key, since := s.now }]
    cooling := delSet key p.cooling
    mapHeld := p.mapHeld ++ d.waiting.map (fun w => (key, w.1, w.2.1, w.2.2.1, true)) })
  let s := s.sendAll (s.others.filter (fun x => s.activeOf (x / 2) == x)) (.placement 14 { key := key, vault := 0xFFFF })
  match mine with
  | some m => s.rebuilt m
  | none => s

/-- Every directory entry this vault holds rebuilt (R236, R240). -/
def State.rebuildAll (s : State) : State :=
  ((s.place.dir.filter (fun e => decide (2 ≤ e.2.state))).map Prod.fst).foldl (fun s k => s.rebuildDir k) s

/-- The metadata area of a vault that nothing has kept (R236, R425): the reverse slot map from the directory entries that name the vault, which the
other vaults' directories still hold, its own directory entries by the rebuild of R178, and every other structure by its replacement. The
entries are taken over in one step: DESIGN CHOICE, log entry 120. -/
def State.rebuildMeta (s : State) : State :=
  let s := s.modPlace (fun p => { p with
    slots := p.slots.filter (fun e => match e.2 with | .home k => s.dirVault k != s.vault | _ => false)
    heat := []
    heatCache := []
    tombs := []
    hints := p.hints.filter (fun e => s.dirVault e.1 != s.vault)
    spare := [] })
  let s := s.modPersist (fun p => { p with arrivals := p.arrivals.map (fun a => { a with written := 0 }) })
  (s.modEcc (fun e => { e with list := [], overflow := true })).rebuildAll

/-- The arrival records a restore goes by (R237, R241): in the unsealed cases those of the maps, joined; an extent whose record no map holds takes every
granule from its previous home. -/
def State.restoreArrivals (s : State) (c : Nat) : State :=
  if c ≠ 4 ∧ c ≠ 5 then s
  else
    let told := s.usableMaps.flatMap DirtyMap.arrivals
    let bits := fun (a : Arrival) => (told.filter (fun x => x.slot == a.slot && x.key == a.key)).foldl (fun b x => b ||| x.written) 0
    let kept := s.persist.arrivals.map (fun a => { a with written := bits a })
    let new := told.foldl (fun l a => if kept.any (fun x => x.slot == a.slot) || l.any (fun x => x.slot == a.slot) then l else l ++ [{ a with written := bits a }]) []
    s.modPersist (fun p => { p with arrivals := kept ++ new })

/-- Source 163 (R242, R248). -/
def State.restoreEvent (s : State) (c : Nat) (extents : Nat) : State :=
  s.raise 163 c (leBytes 1 c ++ leBytes 1 (s.setting 0x3300 0x0C) ++ leBytes 4 extents)

/-- A granule restored, or poisoned in place of it: accesses that waited go on; the restore may be complete (R238, R242). -/
def State.granRestored (s : State) (g : Nat) : State :=
  let held := s.persist.restoreHold.filter (fun h => slotGran h.slot (h.off / 4096) == g)
  let s := s.modPersist (fun p => { p with
    restoring := p.restoring.filter (· != g)
    restoreWait := p.restoreWait.filter (fun e => e.1 != g)
    restoreTries := p.restoreTries.filter (fun e => e.1 != g)
    restoreHold := p.restoreHold.filter (fun h => slotGran h.slot (h.off / 4096) != g) })
  let s := s.count 425 1
  let whole := !s.persist.restoring.any (fun x => x / 512 == g / 512)
  let s := if whole then s.modPersist (fun p => { p with restored := p.restored + 1 }) else s
  let s := s.poisonSuspect g
  let s := if s.persist.restoring = [] ∧ !s.persist.arrivals.any (fun a => a.slot == g / 512 && a.src == s.vault) then
      s.restoreEvent s.persist.restoreCase s.persist.restored
    else s
  (s.resume held).restoreOpen.advanceWorks

/-- Whether a granule waits for its restore, and the restore has not stopped (R235). -/
def State.isRestoring (s : State) (g : Nat) : Bool := s.persist.restoring.contains g && !(s.isActive && s.persist.state == 0)

/-- The 64 lines of a granule put into DRAM as its home store gave them, poisoned where an entry of the poison table or the answer
says so (R218, R242). -/
def State.putGranule (s : State) (g : Nat) (b : Bytes) (bad : List Nat) : State :=
  let tab := (s.persist.poisonTab.filter (fun e => e.2.1 == s.homeGran g)).map (fun e => e.2.2)
  let s := s.askWrite (g / 512) 0x0E (if s.persist.restoreHold.any (fun h => decide (slotGran h.slot (h.off / granuleBytes) = g)) then 0 else 6) 64
  (List.range 64).foldl (fun s i =>
    let p := bad.contains i || tab.contains i
    let s := s.putLine (granLine g + i) (bytesToLine (b.drop (64 * i))) p
    if p then s.poisonEnter (granLine g + i) 5 else s) s

/-- A granule that no drive gives (R545): every line poisoned and entered with cause 1, dirty, source 164. At the standby it is in the shadow
set. -/
def State.granUnreadable (s : State) (g : Nat) : State :=
  let key := getD s.homedSlots (g / 512) 0
  let s := (s.poisonLines (granLine g) 64)
  let s := (List.range 64).foldl (fun s i => s.poisonEnter (granLine g + i) 1) s
  let s := s.modPersist (fun p => if s.isActive then { p with dirty := addSet g p.dirty } else { p with shadow := addSet g p.shadow })
  (s.raise 164 1 (leBytes 3 (g / 512) ++ leBytes 5 key ++ leBytes 1 1)).granRestored g

/-- Granules to be restored that nothing can give (R217, R545): no drive of theirs is in service, or the home key is erased or of another generation, for
which the home store fails with source 174. -/
def State.endUnreadable (s : State) : State :=
  if s.homeKeyEmpty then s
  else
    let keyBad := !s.homeKeyOk
    let s := if keyBad then (s.modPersist (fun p => { p with failed := true })).raise 174 0 (leBytes 2 s.persist.header.keySlot ++ leBytes 2 s.persist.header.keyGen) else s
    (s.persist.restoring.filter (fun g => s.isRestoring g && (assoc s.persist.restoreWait g).isNone && (keyBad || !(s.drivesOf (s.homeGran g)).any s.driveUp))).foldl
      (fun s g => s.granUnreadable g) s

/-- The reads of a restore (R238), at the active device and, from the same drives, at the standby. -/
def State.restoreReads (s : State) : State := (s.persist.restoring.foldl (fun s g => s.askGranule g) s).endUnreadable.restoreOpen

/-- The restore starts at this device (R235 to R238): its case, its suspects, its reads; sources 163 and 164. The standby restores its own DRAM
from the drives; its role and its vault's state are not changed by that. A vault without a home store opens without restore: retained, or with its
metadata rebuilt and every extent suspect (R236). Granules that the home store holds of a released extent alone are not read (R26; log entry 123). The metadata area's structures are at hand as the restore starts: DESIGN CHOICE, log entry 120. -/
def State.restoreStart (s : State) : State :=
  let c := s.caseOf
  let act := s.isActive
  let s := s.modPersist (fun p => { p with restoreCase := c, suspects := [], restoring := [], restoreWait := [], restoreTries := [], restored := 0 })
  if s.driveCount = 0 then
    if !act then s
    else if c = 1 then
      (s.modPersist (fun p => { p with dirty := [], fresh := [], restored := s.homedSlots.length })).openHome
    else
      let s := (s.modPersist (fun p => { p with dirty := [], fresh := [] })).rebuildMeta
      let homed := s.homedSlots.map Prod.fst
      let s := s.restoreEvent 5 homed.length
      (homed.foldl (fun s x => s.markSuspect x) s).openHome
  else
    let homed := s.homedSlots.map Prod.fst
    let s := s.restoreEvent c homed.length
    let s := if act then s.modPersist (fun p => { p with state := 1 }) else s
    if c = 1 ∨ c = 6 then (((s.modPersist (fun p => { p with restored := homed.length })).restoreEvent c homed.length)).restoreOpen
    else
      let gs := (homed.flatMap (fun x => (List.range 512).map (slotGran x))).filter (fun g =>
        !s.persist.oldHome.contains g || s.persist.arrivals.any (fun a => a.slot == g / 512))
      let s := s.modPersist (fun p => { p with restoring := gs, dirty := [], fresh := [] })
      let s := (s.restoreArrivals c).endCooling (fun _ => true)
      let s := (s.suspectsOf c).foldl (fun s x => s.markSuspect x) s
      let s := if act ∧ ((List.range (metaExtents s.extents)).any (fun i => s.inDoubt c (s.extents - 1 - i))) then s.rebuildAll else s
      let s := s.restoreReads
      if gs = [] then s.restoreEvent c 0 else s

/-- The restore that a start goes on to, once PFAIL_N allows it (R235, R524): at the active device, and once at a standby whose DRAM was not kept. -/
def State.startRestore (s : State) : State :=
  if s.persist.state = 0 ∧ s.power.pfail = 0 ∧ (s.power.reminded = none ∨ s.power.deassertAt = none) then
    if s.isActive then s.restoreStart.afterHome
    else if s.twin.state = 5 ∧ s.persist.restoreCase = 0 ∧ !s.twin.keptDram then s.restoreStart
    else s
  else s

end Sys2Proof.Machine
end

