-- ==== Sys2Proof/Machine/EccOps.lean ====
section
/-! DEFINITION. Twin repair and line poisoning: the repair of a line from the standby's copy, its failure, and the replacement of
metadata (R420, R421, R425, R426). -/

namespace Sys2Proof.Machine

/-- Repairs in flight at most (R426 rule 2). -/
abbrev repairsMost : Nat := 64

/-- The number a repair's READ carries; it stands above every request number this device gives. -/
def repairNum (ln : Nat) : Nat := 2 ^ 45 + ln

/-- Twin repairs whose granule is twin-safe are read from the standby over a twin port, at most 64 at a time (R420 steps 2 and 3,
R426 rule 2). -/
def State.pumpRepairs (s : State) : State :=
  let sent := (s.ecc.repairs.filter Repair.sent).length
  let ready := (s.ecc.repairs.filter (fun r => !r.sent && s.granSafe (lineGran r.line))).take (repairsMost - sent)
  let s := s.modEcc (fun e => { e with repairs := e.repairs.map (fun r => if ready.any (fun x => x.line == r.line) then { r with sent := true, since := s.now } else r) })
  ready.foldl (fun s r =>
    let slot := lineSlot r.line
    s.send s.twinDev (.read { entry := s.pool.number, num := repairNum r.line, key := getD s.homedSlots slot 0, slot := slot, off := r.line % 32768 * 64 })) s

/-- The accesses that waited for a repair go on. -/
def State.wakeRepair (s : State) (r : Repair) : State :=
  r.waiters.foldl (fun s h => s.serveReq h h.slot) s

/-- The number of a READ that asks the active device to send a whole granule again (R275, R394, R422; log entry 40). -/
def againNum (g : Nat) : Nat := 2 ^ 47 + g

/-- A standby asks its active device to send a granule again. -/
def State.askAgain (s : State) (g : Nat) : State :=
  s.send s.twinDev (.read { entry := s.pool.number, num := againNum g, key := 0, slot := g / 512, off := g % 512 * granuleBytes, len := granuleBytes })

/-- The poison list's entries lost (R425): the overflow flag stands for them, source 92. -/
def State.poisonLost (s : State) : State :=
  (s.modEcc (fun e => { e with list := [], overflow := true })).raise 92 1 (leBytes 2 s.vault ++ leBytes 4 0)

/-- A heat entry starts again at zero with age 0 (R415, R425); what the slot holds stays as it is. -/
def State.heatZero (s : State) (slot : Nat) : State :=
  match assoc s.place.heat slot with
  | some h => s.modHeat slot (fun _ => { homed := h.homed, copy := h.copy })
  | none => s

/-- The reverse slot map rebuilt from the directory entries that name this vault (R425). The entries held at other vaults' directories name the same
slots as the map did, so those slots keep what they hold (DESIGN CHOICE, log entry 32). -/
def State.rebuildSlots (s : State) : State :=
  let mine := s.place.dir.filter (fun e => decide (2 ≤ e.2.state) && e.2.home == s.vault)
  mine.foldl (fun s e => if s.slotUse e.2.slot = some (.home e.1) then s else s.setUse e.2.slot (some (.home e.1))) s

/-- An uncorrectable metadata line is replaced by its structure's rule (R425). Which structure and which of its entries a line
holds is not fixed by the spec: a free number names both (log entry 32). -/
def State.metaReplace (s : State) : State :=
  let k := s.free
  let i := k / 8
  let s := s.tick
  match k % 8 with
  | 0 =>
    match s.place.dir[i % s.place.dir.length]? with
    | some (key, _) => if key < 2 ^ 39 then s.rebuildDir key else s.modDir key (fun _ => {})
    | none => s
  | 1 =>
    match s.place.heat[i % s.place.heat.length]? with
    | some (slot, _) => s.heatZero slot
    | none => s
  | 2 =>
    match s.place.tombs[i % s.place.tombs.length]? with
    | some t => s.dropTomb t.key
    | none => s
  | 3 =>
    match s.homedSlots[i % s.homedSlots.length]? with
    | some (slot, _) =>
      let gs := (List.range 512).map (slotGran slot)
      s.modPersist (fun p => { p with dirty := gs.foldl (fun l g => addSet g l) p.dirty, fresh := gs.foldl (fun l g => addSet g l) p.fresh })
    | none => s
  | 4 =>
    if s.twin.state = 2 then
      let gs := s.homedSlots.flatMap (fun e => (List.range 512).map (slotGran e.1))
      s.modTwin (fun t => { t with resync := gs.foldl (fun l g => addSet g l) t.resync })
    else s
  | 5 =>
    match s.persist.arrivals[i % s.persist.arrivals.length]? with
    | some a => s.putArrival { a with written := 0 }
    | none => s
  | 6 => s.poisonLost
  | _ => s.rebuildSlots

/-- A repair that fails, or that is not attempted (R421): the line is written poisoned, mirrored and entered with cause 1, source 84;
a metadata line is replaced (R425). The accesses that waited are served. -/
def State.failRepair (s : State) (r : Repair) : State :=
  let slot := lineSlot r.line
  let s := (s.modEcc (fun e => { e with repairs := e.repairs.filter (fun x => x.line != r.line) })).count 483 1
  let s :=
    if r.metaArea then s.metaReplace
    else
      let id := s.persist.nextId
      let s := s.modPersist (fun p => { p with nextId := id + 1 })
      (((s.lineCost r.line true { cls := 6, src := 0x0F }).applyLine slot (getD s.homedSlots slot 0) (r.line % 32768 * 64) (s.line r.line) (BitVec.allOnes 64) true none none id 1).raise 84 0
        (leBytes 8 (64 * r.line) ++ leBytes 1 1)).throttleCheck
  s.wakeRepair r

/-- Every repair in flight ends (R426 rule 3). -/
def State.failRepairs (s : State) : State := s.ecc.repairs.foldl (fun s r => s.failRepair r) s

/-- An uncorrectable line at the active device (R420, R421): locked and repaired from an in-sync standby, or poisoned. -/
def State.startRepair (s : State) (ln : Nat) (waiters : List HReq) : State :=
  if s.ecc.repairs.any (fun r => r.line == ln) then s
  else
    let r : Repair := { line := ln, since := s.now, metaArea := s.inMeta (lineSlot ln), waiters := waiters }
    if s.twin.state = 1 ∧ !s.twin.latch then (s.modEcc (fun e => { e with repairs := e.repairs ++ [r] })).pumpRepairs
    else s.failRepair r

/-- A line rewritten in place as one read-modify-write unit (R420 step 5, R423), counted at its channel (R406). -/
def State.lineRewritten (s : State) (ln : Nat) : State :=
  (s.count (8 * slotChan (lineSlot ln) + 1) 1).count (8 * slotChan (lineSlot ln) + 3) 1

/-- The standby's answer to a repair (R420 step 5): the line is written and its accesses are served, source 83; a copy that is
poisoned leaves the line poisoned. -/
def State.repairAnswered (s : State) (ln : Nat) (v : Line) (poison : Bool) : State :=
  match s.ecc.repairs.find? (fun r => r.line == ln && r.sent) with
  | none => s
  | some r =>
    let s := s.modEcc (fun e => { e with repairs := e.repairs.filter (fun x => x.line != ln) })
    let s := (s.lineRewritten ln).putLine ln v poison
    let s := if poison then s.poisonEnter ln 1 else s
    let s := (s.count 482 1).raise 83 0 (leBytes 8 (64 * ln) ++ leBytes 8 (s.now - r.since))
    (s.wakeRepair r).pumpRepairs

end Sys2Proof.Machine
end

