-- ==== Sys2Proof/Machine/Persistence.lean ====
section
/-! DEFINITION. The commands of persistence: the mirror stream at both devices, write-back and home writes, home drives, the flush
and restore, and pool persist points (R206 to R246, R545). The commands of the PFAIL_N pin stand with power. -/

namespace Sys2Proof.Machine

/-! ### The mirror stream at the standby (R206, R208, R210, R298, R299) -/

/-- The last sequence of a run (R298): a run under one sequence counts as one record, and so does a change of the metadata area. -/
def runLast (r : Run) : Nat := if r.oneSeq || r.upd.isSome then r.first else r.first + r.lines.length - 1

/-- A run's poison, one entry a line. -/
def runPoison (r : Run) : List Bool := (List.range r.lines.length).map (fun i => nth r.poison i false)

/-- A run received, joined to the part of it that came before (R299). -/
def addRun (l : List Run) (r : Run) : List Run :=
  match l.findIdx? (fun q => q.cont && q.oneSeq && q.first == r.first && q.slot == r.slot) with
  | some i => modNth l i (fun q => { q with lines := q.lines ++ r.lines, poison := runPoison q ++ runPoison r, cont := r.cont })
  | none => l ++ [r]

/-- Whether the active device's frames show it in state Active, twin lost (R394). -/
def State.activeAlone (s : State) : Bool := (s.twin.peer.map Beat.state) == some 2

/-- Whether a run may be applied now: all its parts are here (R299), its granule is restored (R238), and its channel serves, or the
active device no longer counts on it (R394). -/
def State.runReady (s : State) (r : Run) : Bool :=
  r.upd.isSome || !(r.oneSeq && r.cont) && !s.persist.restoring.contains (slotGran r.slot (r.line / 64)) &&
  (s.chanServes (slotChan r.slot) || s.activeAlone)

/-- One line of a record applied at the standby (R206, R416): merged as at the active device, and the granule's shadow bit is set (R210). -/
def State.mirrorLine (s : State) (ln : Nat) (v : Line) (be : BitVec 64) (poison : Bool) : State :=
  let full := be == BitVec.allOnes 64
  let bad := poison || (!full && s.linePoison ln)
  let s := ((s.lineCost ln full { cls := 1, src := 0x0C }).mergeKeep ln full).putLine ln (mergeLine (s.line ln) v be) bad
  s.modPersist (fun p => { p with shadow := addSet (lineGran ln) p.shadow })

/-- The tags and ATOMIC elements a standby keeps of what it has applied (R148, R266): those of the replay window. With a tag goes the offset in its
extent behind the last line applied under it. -/
def State.keepTag (s : State) (r : Run) : State :=
  let live := fun (at_ : Nat) => decide (s.now < at_ + 2 * s.setting 0x2100 5)
  s.modTwin (fun t => { t with
    lastRec := s.now
    recs := t.recs ++ [(runLast r, s.now)]
    tags := (t.tags.filter (fun e => live e.2.2.1)) ++ (match r.origin with | some (e, n) => [(e, n, s.now, 64 * (r.line + r.lines.length))] | none => [])
    atoms := (t.atoms.filter (fun e => live e.2.2.2)) ++ (match r.origin, r.atomic with | some (e, n), some (_, _, c) => [(e, n, c, s.now)] | _, _ => []) })

/-- A list with an entry put in the place of those of its kind. -/
def putIn {α : Type} (l : List α) (same : α → Bool) (x : α) : List α := l.filter (fun y => !same y) ++ [x]

/-- A copy of an extent as its home's standby keeps it (R186): one that serves is registered; the creation of another is cut by a failover. -/
def keptCopy (r : CopyRec) : CopyOut := { key := r.key, vault := r.vault, slot := r.slot, live := r.live, phase := if r.live then 3 else 1 }

/-- A change of the metadata area applied at the standby (R18, R173, R177, R181, R186, R223, R274): its own structures follow those of the active
device. A slot released is zero-filled here as well (R26). -/
def State.applyUpd (s : State) (u : MetaUpd) : State :=
  match u with
  | .slot n u spare =>
    let s := if u.isNone then s.forgetSlot n else s
    s.modPlace (fun p => { p with
      slots := match u with | some u => insertKey n u p.slots | none => eraseKey n p.slots
      spare := if spare then addSet n p.spare else delSet n p.spare })
  | .dir e => s.modPlace (fun p => { p with
      dir := insertKey e.key ((getD p.dir e.key {}).take e) p.dir
      cooling := if e.cooling then addSet e.key p.cooling else delSet e.key p.cooling })
  | .dirGone k => s.modPlace (fun p => { p with dir := eraseKey k p.dir, cooling := delSet k p.cooling })
  | .tomb t => s.modPlace (fun p => { p with tombs := t :: p.tombs.filter (fun x => x.key != t.key) })
  | .tombGone k => s.modPlace (fun p => { p with tombs := p.tombs.filter (fun x => x.key != k) })
  | .migIn r => s.modPlace (fun p => { p with
      migIns := putIn p.migIns (fun m => m.key == r.key) { key := r.key, slot := r.slot, src := r.src, sslot := r.sslot, since := s.now } })
  | .migInGone k => s.modPlace (fun p => { p with migIns := p.migIns.filter (fun m => m.key != k) })
  | .move r => s.modPlace (fun p => { p with
      migs := putIn p.migs (fun m => m.key == r.key) {
        key := r.key, slot := r.slot, dst := r.dst, dslot := r.dslot, gen := r.gen, phase := r.phase, evac := r.evac, heat := r.heat, copies := r.copies,
        since := s.now } })
  | .moveGone k => s.modPlace (fun p => { p with migs := p.migs.filter (fun m => m.key != k) })
  | .copy r => s.modPlace (fun p => { p with copyOuts := putIn p.copyOuts (fun c => c.key == r.key && c.vault == r.vault) (keptCopy r) })
  | .copyGone k v => s.modPlace (fun p => { p with copyOuts := p.copyOuts.filter (fun c => !(c.key == k && c.vault == v)) })
  | .hints e => s.modPlace (fun p => { p with hints := insertKey e.key e p.hints })
  | .hintsGone k => s.modPlace (fun p => { p with hints := eraseKey k p.hints })
  | .arrival a => s.modPersist (fun p => { p with arrivals := a :: p.arrivals.filter (fun x => x.slot != a.slot) })
  | .arrivalGone n => s.modPersist (fun p => { p with arrivals := p.arrivals.filter (fun x => x.slot != n) })
  | .poison e => s.modEcc (fun x => { x with list := putIn x.list (fun y => y.line == e.line && y.span == e.span) e })
  | .poisonGone n span => s.modEcc (fun x => { x with list := x.list.filter (fun y => !(y.line == n && y.span == span)) })
  | .dirty l => s.modPersist (fun p => { p with shadow := l.foldl (fun x g => addSet g x) p.shadow })

/-- A run applied at the standby (R206, R298): the lines above the highest sequence applied on its stream. A run for a channel that
cannot serve leaves its granule stale (R394). A whole granule sent again ends its staleness and its resend (R275, R422). -/
def State.applyRun (s : State) (r : Run) : State :=
  let st := r.slot % 2
  let top := nth s.persist.applied st 0
  let last := runLast r
  if last ≤ top then s
  else
    let g := slotGran r.slot (r.line / 64)
    let s := s.ask (slotChan r.slot) (if r.sync then 0x10 else 0x0C) (if r.sync then 6 else 1) (max 1 r.lines.length)
    let s :=
      if let some u := r.upd then ((s.applyUpd u).ranksGone).modPersist (fun p => { p with shadow := addSet g p.shadow })
      else if !s.chanServes (slotChan r.slot) then s.modTwin (fun t => { t with stale := addSet g t.stale })
      else
        let s := (List.range r.lines.length).foldl (fun (s : State) i =>
          if r.oneSeq || decide (top < r.first + i) then
            s.mirrorLine (slotLine r.slot (64 * (r.line + i))) (nth r.lines i 0) (r.be.getD (BitVec.allOnes 64)) (nth r.poison i false)
          else s) s
        if r.oneSeq ∧ r.lines.length = 64 then
          (s.modTwin (fun t => { t with stale := delSet g t.stale })).modEcc (fun e => { e with resend := e.resend.filter (fun x => x.1 != g) })
        else s
    let s := s.modPersist (fun p => { p with applied := setNth p.applied st last, seq := max p.seq last })
    s.keepTag r

/-- The received runs of one stream applied in arrival order, as far as they may be: `fuel` at most. -/
def State.applyRuns (s : State) (st fuel : Nat) : State :=
  match fuel with
  | 0 => s
  | fuel + 1 =>
    match s.persist.parts.find? (fun r => r.slot % 2 == st) with
    | none => s
    | some r =>
      if s.runReady r then
        ((s.modPersist (fun p => { p with parts := p.parts.eraseP (fun x => x.slot % 2 == st) })).applyRun r).applyRuns st fuel
      else s

/-- The standby's cumulative acknowledgement of a stream (R206): not past a record of a granule it has asked for again (R422). -/
def State.ackStream (s : State) (st : Nat) : State :=
  let a := minOf ((s.ecc.resend.filter (fun e => e.1 / 512 % 2 == st && !(s.twin.stale.contains e.1 && s.activeAlone))).map (fun e => e.2.2)) (nth s.persist.applied st 0)
  match s.streamPort st with
  | some p => s.sendOn s.twinDev p (.mirrorAck st a)
  | none => s

/-- What waited at the standby goes on: both streams applied and acknowledged as far as they may be. -/
def State.standbyGoesOn (s : State) : State :=
  if s.persist.parts = [] then s
  else
    let s := (s.applyRuns 0 s.persist.parts.length).applyRuns 1 s.persist.parts.length
    (s.ackStream 0).ackStream 1

/-- MIRROR (R206, R298, R299): the records of one stream, applied in order and acknowledged; a slot beyond the vault's extents does
not exist. -/
def execMirror (h : Hdr) (stream : Nat) (runs : List Run) (s : State) : Host.Outcome State Fault Refusal :=
  let (s, ok) := s.rx h (.mirror stream runs) false
  if !ok || !(s.twin.state == 4 || s.twin.state == 5) then done s
  else if runs.any (fun r => decide (s.extents ≤ r.slot)) then .fault .slotOutsideVault
  else
    let runs := s.clearRuns h runs
    let s := s.modPersist (fun p => { p with parts := runs.foldl addRun p.parts })
    done ((s.applyRuns stream s.persist.parts.length).ackStream stream)

/-- The home poison table as the standby follows it (R218): of a granule that is home-safe, the lines that are poisoned here have an entry on
each of its drives (DEDUCED, log entry 121). -/
def State.followTable (s : State) (g : Nat) : State :=
  let new := (s.drivesOf g).flatMap (fun d => (s.granPoison g).map (fun x => (d, g, x % 64)))
  s.modPersist (fun p => { p with poisonTab := p.poisonTab.filter (fun e => e.2.1 != g) ++ new })

/-- CLEAN (R210): granule bits of the shadow set cleared. -/
def execClean (h : Hdr) (stream : Nat) (entries : List (Nat × Nat)) (s : State) : Host.Outcome State Fault Refusal :=
  done (s.onFrame h (.clean stream entries) (fun s =>
    if s.twin.state = 4 ∨ s.twin.state = 5 then
      let clean := fun (g : Nat) => entries.any (fun e => slotGran e.1 e.2 == g)
      let s := s.modPersist (fun p => { p with shadow := p.shadow.filter (fun g => !clean g), oldHome := p.oldHome.filter (fun g => !clean g) })
      entries.foldl (fun s e => s.followTable (slotGran e.1 e.2)) s
    else s))

/-! ### The mirror stream at the active device (R207, R275) -/

/-- Resync is complete (R275): every resync bit is clear and the horizon covers the last resync record. -/
def State.resyncCheck (s : State) : State :=
  if s.twin.state = 2 ∧ s.twin.resyncOn ∧ s.twin.resync = [] ∧ s.twin.resyncLast ≤ s.persist.horizon ∧ !s.persist.unacked.any MRec.sync then
    let n := s.twin.resyncSent
    let t := s.now - s.twin.resyncAt
    (s.modTwin (fun t => { t with state := 1, resyncOn := false, resyncAll := false, resyncMode := 0, syncSeq := t.frameSeq })).raise 104 0 (leBytes 8 n ++ leBytes 8 t)
  else s

/-- What a higher horizon lets go on: completions, chunks, freezes, home writes, repairs, pieces. -/
def State.afterHorizon (s : State) : State :=
  let s := s.syncHorizon.resyncCheck.completeWrites.ackChunks
  let s := if s.place.migs = [] then s else s.pumpMigs.pumpRetire
  s.pumpRepairs.pumpUrgent.advanceWorks

/-- MIRROR_ACK (R206, R207, R274): records acknowledged, the horizon moved on, resync bits cleared. -/
def execMirrorAck (h : Hdr) (stream seq : Nat) (s : State) : Host.Outcome State Fault Refusal :=
  done (s.onFrame h (.mirrorAck stream seq) (fun s =>
    if s.isActive then
      let acked := s.persist.unacked.filter (fun r => r.stream == stream && decide (r.seq ≤ seq))
      let s := s.modPersist (fun p => { p with
        acked := modNth p.acked stream (fun a => max a seq)
        unacked := p.unacked.filter (fun r => !(r.stream == stream && decide (r.seq ≤ seq))) })
      let grans := (acked.filter MRec.sync).map (fun r => slotGran r.run.slot (r.run.line / 64))
      (s.modTwin (fun t => { t with resync := t.resync.filter (fun g => !grans.contains g) })).afterHorizon
    else s))

/-! ### Write-back and home writes (R219, R222) -/

/-- WRITEBACK_VISIT (R222): the sweep at a dirty granule, in service and before a handover stops it (R271). -/
def execWritebackVisit (slot granule : Nat) (s : State) : Host.Outcome State Fault Refusal :=
  let g := slotGran slot granule
  done (
    if !s.serves || s.persist.state != 2 || s.driveCount == 0 || !s.persist.dirty.contains g || s.homeBusy g then s
    else if s.flag 0x3320 1 && s.persist.fresh.contains g && decide (s.dirtySet < s.ceiling * s.setting 0x3320 2 / 64) then
      s.modPersist (fun p => { p with fresh := delSet g p.fresh })
    else if s.isRestoring g || !s.granSafe g || !(s.drivesOf g).any s.driveUp || !s.queueRoom g then s
    else ((s.modPersist (fun p => { p with fresh := delSet g p.fresh })).issueHome g false).afterHome)

/-- HOME_WRITE_COMPLETE (R222): the write has completed on every drive it went to. -/
def execHomeWriteComplete (id : Nat) (s : State) : Host.Outcome State Fault Refusal :=
  done (match s.persist.home.find? (fun w => w.id == id) with
    | some w => if s.twin.latch then s.modPersist (fun p => { p with home := p.home.filter (fun x => x.id != id) }) else s.homeWritten w
    | none => s)

/-- HOME_WRITE_FAILED (R219, R267): a Reservation Conflict is proof of a higher claim and sets the fence latch, source 108. -/
def execHomeWriteFailed (id drive : Nat) (conflict : Bool) (s : State) : Host.Outcome State Fault Refusal :=
  done (match s.persist.home.find? (fun w => w.id == id && w.drives.contains drive) with
    | some w =>
      if conflict then
        let s := (s.count (230 + 8 * drive) 1).modPersist (fun p => { p with
          home := p.home.filter (fun x => x.id != id)
          dirty := addSet w.gran p.dirty })
        (s.raise 108 0 (leBytes 1 drive ++ leBytes 8 (s.drive drive).key)).fence 3
      else s.homeFail w drive 1
    | none => s)

/-- DRIVE_TIMEOUT (R219): a home write not complete within the drive timeout has failed. -/
def execDriveTimeout (id drive : Nat) (s : State) : Host.Outcome State Fault Refusal :=
  done (match s.persist.home.find? (fun w => w.id == id && w.drives.contains drive) with
    | some w => if s.elapsed w.since (s.setting 0x3310 8) then s.homeFail w drive 2 else s
    | none => s)

/-! ### Home drives (R211, R220) -/

/-- DRIVE_OUT_OF_SERVICE (R220 step 1). -/
def execDriveOutOfService (rq : Req) (tag d : Nat) (s : State) : Host.Outcome State Fault Refusal :=
  done (s.writeNum rq tag (0x3340 + d) 1 1 0 (fun s => (if s.driveUp d then s.driveGone d 0 0 else s, St.ok)))

/-- The drive LBAs a home drive needs (R213). -/
def State.lbasNeeded (s : State) : Nat :=
  let n := if s.paired then s.driveCount / 2 else s.driveCount
  16384 + 16 * ceilDiv (s.extents * 32) n

/-- The first check of R211 that a drive fails, in the table's order; 0 where it passes them all. -/
def State.driveCheck (s : State) (d : Nat) (i : DriveInfo) : Nat :=
  if !i.versionOk then 1 else if !i.dualPort then 2 else if !i.reserv then 3 else if !i.lbaOk then 4 else if !i.atomicOk then 5
  else if i.volatileCache && !s.flag (0x3340 + d) 6 then 7 else if i.lbas < s.lbasNeeded then 8 else 0

/-- A drive that fails a check is not used (R211): sources 172 and 176+d. -/
def State.rejectDrive (s : State) (d check : Nat) : State :=
  ((s.modDrive d (fun x => { x with state := 3 })).raise 172 0 (leBytes 1 d ++ leBytes 1 check)).raise (176 + d) 0
    (leBytes 1 (b2n (s.drive d).link) ++ leBytes 1 0)

/-- A home drive is registered and reserved under this device's claim (R212, R267). -/
def State.holdDrive (s : State) (d : Nat) : State :=
  let k := s.twin.claim
  if (s.drive d).key = k then s
  else (s.emits [.drive d (.resvRegister k), .drive d (.resvPreempt k (s.drive d).key)]).modDrive d (fun x => { x with key := k })

/-- DRIVE_INSERT (R220 step 3): a new drive that passes the checks of R211 and holds an empty namespace is held under the active device's claim, gets its
header and starts its rebuild. A device that is not active takes it into service for its own reads alone, since it writes nothing to it
(R212). -/
def execDriveInsert (rq : Req) (tag d : Nat) (info : DriveInfo) (s : State) : Host.Outcome State Fault Refusal :=
  done (s.writeNum rq tag (0x3340 + d) 1 1 1 (fun s =>
    if s.driveUp d then (s, St.ok)
    else
      let s := s.modDrive d (fun x => { x with lbas := info.lbas, link := true })
      let c := s.driveCheck d info
      if c ≠ 0 ∨ !info.empty then (s.rejectDrive d (if c = 0 then 9 else c), St.ok)
      else
        let s := s.modPersist (fun p => { p with poisonTab := p.poisonTab.filter (fun e => e.1 != d) })
        if !s.isActive then (s.modDrive d (fun x => { x with state := 2, key := 0 }), St.ok)
        else
          let old := s.ceiling
          let s := s.modDrive d (fun x => { x with state := 1, rebuild := s.gransOn d, marked := 0, key := 0 })
          let s := (s.holdDrive d).driveHeader d
          ((s.rebuildCheck d).ceilingCheck old, St.ok)))

/-- REBUILD_BATCH (R220 step 3): the next 65,536 granules of a rebuilding drive are marked dirty, while the dirty set is below the
eager fraction of the ceiling. -/
def execRebuildBatch (d : Nat) (s : State) : Host.Outcome State Fault Refusal :=
  done (
    if (s.drive d).state = 1 ∧ s.serves ∧ s.dirtySet < s.ceiling * s.setting 0x3320 2 / 64 then
      let batch := ((s.drive d).rebuild.filter (fun g => decide ((s.drive d).marked ≤ g))).take 65536
      let s := s.modPersist (fun p => { p with dirty := batch.foldl (fun l g => addSet g l) p.dirty })
      let s := s.modDrive d (fun x => { x with marked := match batch.getLast? with | some g => g + 1 | none => x.marked })
      (s.rebuildCheck d).throttleCheck
    else s)

/-! ### The flush (R229, R231) -/

/-- FLUSH_SNAPSHOT (R229): once every accepted write is twin-safe or being turned home-safe. -/
def execFlushSnapshot (s : State) : Host.Outcome State Fault Refusal :=
  done (
    if s.isActive ∧ s.persist.snap = none ∧ (s.persist.state = 3 ∨ (s.persist.state = 4 ∧ s.driveCount = 0)) ∧
        s.persist.writes.all (fun w => s.twinSafe w.seq || w.needHome) then s.flushSnapshot.afterHome
    else s)

/-- DIRTY_MAP_WRITTEN (R231, R500): the map stands in its area with its flags; a remap or a flag raises source 168; the recorder's
buffer is flushed now. -/
def execDirtyMapWritten (incomplete overflow : Bool) (remapped : Nat) (s : State) : Host.Outcome State Fault Refusal :=
  done (match s.persist.mapOut with
    | none => s
    | some m =>
      let a := s.persist.mapArea
      let s := s.modPersist (fun p => { p with
        maps := setNth p.maps a { m with incomplete := incomplete, overflow := overflow || m.overflow }
        mapOut := none })
      let s := if incomplete ∨ overflow ∨ m.overflow ∨ 0 < remapped then
          s.raise 168 0 (leBytes 1 a ++ leBytes 2 remapped ++ leBytes 1 (b2n incomplete + 2 * b2n (overflow || m.overflow)))
        else s
      (s.modRec recFlush).sbRelease)

/-! ### Restore (R238 to R242, R545) -/

/-- The answer of a home drive's read for a peer that restores from this vault's home store (R241). -/
def State.answerRemote (s : State) (g : Nat) (b : Bytes) (bad : List Nat) : State :=
  let rs := s.persist.remoteReads.filter (fun r => r.1 == g)
  let s := s.modPersist (fun p => { p with remoteReads := p.remoteReads.filter (fun r => r.1 != g) })
  let tab := (s.persist.poisonTab.filter (fun e => e.2.1 == g)).map (fun e => e.2.2)
  let ls := (List.range 64).map (fun i => bytesToLine (b.drop (64 * i)))
  let ps := (List.range 64).map (fun i => bad.contains i || tab.contains i)
  rs.foldl (fun s r => s.sendList r.2.1 (dataFrames r.2.2.1 r.2.2.2 0 ls ps 3)) s

/-- RESTORE_READ_COMPLETE (R216, R238, R241): a granule's 4,096 bytes as the drive holds them; deciphered under the home key. A granule of the
metadata area goes to its place. -/
def execRestoreReadComplete (slot granule : Nat) (bytes : Bytes) (poisonLines : List Nat) (s : State) : Host.Outcome State Fault Refusal :=
  let g := slotGran slot granule
  let b := s.homeCipher false (s.homeGran g) bytes
  let s := if s.persist.header.keySlot = 0xFFFF then s else s.count 449 granuleBytes
  let s := if s.persist.remoteReads.any (fun r => r.1 == g) then s.answerRemote g b poisonLines else s
  done (
    if s.isRestoring g then ((s.putGranule g b poisonLines).granRestored g).standbyGoesOn
    else if s.inMeta slot ∧ s.persist.state = 1 then s.putGranule g b poisonLines
    else s)

/-- A granule of the home store that no drive gives (R425, R545): poisoned where it is being restored, refused where a peer asked for it, replaced where
it is metadata. -/
def State.homeLost (s : State) (slot g : Nat) : State :=
  let rs := s.persist.remoteReads.filter (fun r => r.1 == g)
  let s := s.modPersist (fun p => { p with remoteReads := p.remoteReads.filter (fun r => r.1 != g) })
  let s := rs.foldl (fun s r => s.send r.2.1 (.status { entry := r.2.2.1, num := r.2.2.2, status := St.homeFailed })) s
  if s.isRestoring g then (s.granUnreadable g).standbyGoesOn
  else if s.inMeta slot ∧ s.persist.state = 1 then s.metaReplace
  else s

/-- RESTORE_READ_FAILED (R219, R238, R545): read once more on the same drive; then the drive leaves service and the other drive of its pair is read;
then no drive gives the granule. -/
def execRestoreReadFailed (slot granule d : Nat) (s : State) : Host.Outcome State Fault Refusal :=
  let g := slotGran slot granule
  let at_ := s.homeGran g
  done (
    if !(s.isRestoring g || s.persist.remoteReads.any (fun r => r.1 == g) || (s.inMeta slot && s.persist.state == 1)) || !(s.drivesOf at_).contains d then s
    else
      let s := s.count (229 + 8 * d) 1
      if s.driveUp d ∧ !s.persist.restoreTries.contains (g, d) then
        let s := s.modPersist (fun p => { p with restoreTries := p.restoreTries ++ [(g, d)] })
        ((((s.ask (20 + d / 4) 0x0E 6 8).emit (.drive d (.read (s.driveLba at_)))).count (224 + 8 * d) 1).count (225 + 8 * d) 1).count (227 + 8 * d) granuleBytes
      else
        let s := if s.driveUp d then s.driveGone d 0 (s.driveLba at_) else s
        if (s.drivesOf at_).any s.driveUp then s.readHome at_ else s.homeLost slot g)

/-- RESTORE_SOURCE_WAIT_EXPIRY (R241): the granule is taken from the vault's own store, and its extent is suspect. -/
def execRestoreSourceWaitExpiry (slot granule : Nat) (s : State) : Host.Outcome State Fault Refusal :=
  let g := slotGran slot granule
  done (match assoc s.persist.restoreWait g with
    | some t =>
      if s.elapsed t (s.setting 0x3300 0x10) then
        let s := s.modPersist (fun p => { p with restoreWait := p.restoreWait.filter (fun e => e.1 != g) })
        let s := s.markSuspect slot
        if (s.drivesOf g).any s.driveUp then s.readHome g else s.homeLost slot g
      else s
    | none => s)

/-! ### Pool persist points (R244, R245) -/

/-- POINT_PERIOD (R245): at a whole multiple of the period in pool time the root asks for a point of its own. -/
def execPointPeriod (s : State) : Host.Outcome State Fault Refusal :=
  let t := s.setting 0x3330 1
  done (if s.pool.isRoot ∧ 0 < t ∧ s.poolTime % t = 0 then (s.action (.point 0) noDev).settled else s)

/-- POINT_TIMEOUT (R245): the root completes the point in hand with the vaults that have not reported. -/
def execPointTimeout (s : State) : Host.Outcome State Fault Refusal :=
  done (match s.pool.ops.find? (fun o => match o.act with | .point _ => true | _ => false) with
    | some o =>
      if s.pool.isRoot ∧ o.latch + s.setting 0x3330 5 ≤ s.poolTime then
        match o.act with
        | .point n =>
          let s := s.modPool (fun p => { p with ops := p.ops.filter (fun x => x.op != o.op) })
          let named := (if s.persist.point.isSome then [s.vault] else []) ++ (if o.firstMissed = 0xFFFF then [] else [o.firstMissed])
          let s := named.foldl (fun s v => s.raise 169 1 (leBytes 4 n ++ leBytes 2 v ++ leBytes 1 1)) s
          let left := (s.vaults.filter s.vaultPresent).length - o.covered - o.missed
          ((s.pointEnds n o.op St.homeFailed (o.missed + left)).rootQueue s.pool.queue.length).settled
        | _ => s
      else s
    | none => s)

/-- POOL_PERSIST_POINT (R244, R245): at the latch time the vault snapshots its dirty set and queues it ahead of the sweep; a vault
without a home store cannot be covered (R211). The standby's part is done at once. -/
def execPoolPersistPoint (s : State) : Host.Outcome State Fault Refusal :=
  done (match s.opDue (fun a => match a with | .point _ => true | _ => false) with
    | none => s
    | some o =>
      if s.persist.point.isSome then s
      else
        let n := match o.act with | .point n => n | _ => 0
        let s := (s.opLate o).modPersist (fun p => { p with pointNo := n, pointLatch := o.latch })
        let s := s.count 423 1
        if !s.isActive then (s.opDone o.op St.ok 0).settled
        else if !s.hasHome then ((s.raise 169 0 (leBytes 4 n ++ leBytes 2 s.vault ++ leBytes 1 0)).opDone o.op St.homeFailed 1).settled
        else
          let out := s.persist.home.map HomeW.gran
          let gs := out.foldl (fun l g => addSet g l) s.persist.dirty
          let s := s.modPersist (fun p => { p with
            point := some { number := n, op := o.op, latch := o.latch, grans := gs.map (fun g => (g, getD p.lastSeq g 0)) }
            urgent := p.dirty.foldl (fun u g => addSet g u) p.urgent })
          s.afterHome)

/-- NVME_LINK_CHANGE (R219, R248): source 176+d; a drive whose link goes down leaves service. -/
def execNvmeLinkChange (d : Nat) (up reserved : Bool) (s : State) : Host.Outcome State Fault Refusal :=
  let s := s.modDrive d (fun x => { x with link := up })
  done (if !up && s.driveUp d then s.driveGone d 0 0
    else s.raise (176 + d) 0 (leBytes 1 (b2n up) ++ leBytes 1 (b2n reserved)))

end Sys2Proof.Machine
end

