-- ==== Sys2Proof/Machine/Cipher.lean ====
section
/-! DEFINITION. The commands of the cipher engine: key slots, contexts, blocks, and pipelines in and out of service (R432 to R449). -/

namespace Sys2Proof.Machine

/-! ### Key slots (R437 to R443) -/

/-- The key load block (R437): kind, generation and material. -/
def loadKind (b : Bytes) : Nat := field b 0 1
/-- The generation of a key load block. -/
def loadGen (b : Bytes) : Nat := field b 2 2
/-- The key of a key load block. -/
def loadKey (b : Bytes) : Nat := field b 8 (kindBytes (loadKind b))

/-- The code a key load is refused with (R438), OK where it is accepted. An erase is one step, so no load meets a slot that is being erased. -/
def State.loadFails (s : State) (n : Nat) (b : Bytes) : Nat :=
  let k := s.keySlot n
  let kind := loadKind b
  let gen := loadGen b
  let half := kindBytes kind / 2
  let form := !(1 ≤ kind && kind ≤ 4) || field b 1 1 != 0 || field b 4 4 != 0 || field b (8 + kindBytes kind) (64 - kindBytes kind) != 0
    || (decide (3 ≤ kind) && loadKey b % 2 ^ (8 * half) == loadKey b / 2 ^ (8 * half))
  let age := gen == 0 || decide (gen < k.gen) || (gen == k.gen && (k.state != 0 || keyCheck kind (loadKey b) != k.kcv))
  if form || age then St.badRange else if s.homeKeySlot n && decide (k.gen < gen ∧ 0 < s.homed) then St.busy else St.ok

/-- Source 208: a key loaded, erased or refused. -/
def State.keyEvent (s : State) (n kind gen status : Nat) : State :=
  s.raise 208 0 (leBytes 2 n ++ leBytes 1 kind ++ leBytes 2 gen ++ leBytes 1 status)

/-- An encrypted connection ends and opens anew under the present key (R315); its frames go with it. -/
def State.rekeyConn (s : State) (c : Conn) : State :=
  let left := if s.portRole c.port = 0 then modNth c.leftovers 2 (fun l => l.filter (fun b => !onStream b)) else c.leftovers
  ((s.dropConn c.peer c.port).openConn c.peer c.port left).resendStreams c.port

/-- The home store has lost its key, or holds another (R217): it fails with source 174, and so do the restore's reads and those of peers. -/
def State.homeKeyFails (s : State) : State :=
  let rs := s.persist.remoteReads
  let s := s.modPersist (fun p => { p with remoteReads := [] })
  let s := rs.foldl (fun s r => s.send r.2.1 (.status { entry := r.2.2.1, num := r.2.2.2, status := St.homeFailed })) s
  s.endUnreadable.endNeedsHome.afterHome

/-- The Hinge key slot holds a new generation (R313, R315): the epochs may be used again, and the encrypted connections end and open anew. -/
def State.hingeKeyNew (s : State) (old : Nat) : State :=
  let s := if s.hingeKey.gen = old then s else s.modHinge (fun h => { h with wrapped := false, epoch := if 2 ^ 24 ≤ h.epoch + 1 then 0 else h.epoch })
  (s.hinge.conns.filter (fun c => c.enc || s.encrypts c.port)).foldl (fun s c => s.rekeyConn c) s

/-- What waited for a key goes on (R315, R443): connections of encrypted ports, the home store's reads and its writes; a home key of another generation
than the header's fails it (R217). `old`: the slot's generation before. -/
def State.keyArrived (s : State) (n old : Nat) : State :=
  let s := if s.setting 0x2200 7 = n then s.hingeKeyNew old else s
  if s.persist.header.valid ∧ s.persist.header.keySlot = n then
    if s.homeKeyOk then
      let grans := (s.persist.remoteReads.map Prod.fst).eraseDups
      (grans.foldl (fun s g => s.readHome g) s).restoreReads.afterHome
    else s.homeKeyFails
  else s

/-- KEY_LOAD (R438, R439, R441). -/
def execKeyLoad (rq : Req) (tag n : Nat) (block : Bytes) (s : State) : Host.Outcome State Fault Refusal :=
  done (s.writeObj rq tag (0x8000 + n) 1 9 block (fun s =>
    let c := s.loadFails n block
    if c ≠ St.ok then (s.keyEvent n (loadKind block) (loadGen block) c, c)
    else
      let old := (s.keySlot n).gen
      let s := s.modKey n (fun _ => {
        state := 1
        kind := loadKind block
        gen := loadGen block
        kcv := keyCheck (loadKind block) (loadKey block)
        key := loadKey block
        ever := true })
      (((s.count 453 1).keyEvent n (loadKind block) (loadGen block) St.ok).keyArrived n old, St.ok)))

/-- The Hinge key slot is erased (R442, R315): each encrypted connection is closed with KEY_ERASED. -/
def State.hingeKeyGone (s : State) (n : Nat) : State :=
  if s.setting 0x2200 7 ≠ n then s
  else (s.hinge.conns.filter (fun c => c.enc && c.state != 0)).foldl (fun s c =>
    (s.putFrame { peer := c.peer, port := c.port, vc := 3, body := .close St.keyErased }).dropConn c.peer c.port) s

/-- The home key slot is erased (R217): the home store fails, source 174. -/
def State.homeKeyGone (s : State) (n : Nat) : State :=
  if s.persist.header.valid ∧ s.persist.header.keySlot = n then
    s.homeKeyFails
  else s

/-- KEY_ERASE (R439, R442). -/
def execKeyErase (rq : Req) (tag n : Nat) (s : State) : Host.Outcome State Fault Refusal :=
  done (s.writeNum rq tag (0x8000 + n) 2 1 1 (fun s =>
    let k := s.keySlot n
    let s := s.modKey n (fun k => { k with state := 2, key := 0, ever := true })
    let s := ((s.count 454 1).keyEvent n k.kind k.gen St.ok).endUsers n
    ((s.hingeKeyGone n).homeKeyGone n, St.ok)))

/-- KEY_WAIT_REMINDER (R443): source 213 once a minute while a user waits on an Empty slot. -/
def execKeyWaitReminder (slot : Nat) (hinge : Bool) (s : State) : Host.Outcome State Fault Refusal :=
  let waits := (s.keySlot slot).state == 0 && (if hinge then s.hingeKeyUsed slot else s.homeKeyEmpty && s.persist.header.keySlot == slot)
  let due : Bool := match assoc s.cipher.reminded (2 * slot + b2n hinge) with | some t => s.elapsed t 60000000000 | none => true
  done (if waits && due then
      (s.modCipher (fun c => { c with reminded := insertKey (2 * slot + b2n hinge) s.now c.reminded })).raise 213 0 (leBytes 2 slot ++ leBytes 1 (b2n hinge))
    else s)

/-! ### Contexts and blocks (R434, R435, R444 to R448) -/

/-- The code of a user in the events of the engine. -/
def userCode : CipherUser → Nat
  | .hingeTx => 0 | .hingeRx => 1 | .home => 2 | .ring => 3

/-- Whether a slot's key may be used by a user (R440): Loaded, and of a kind that fits. -/
def State.keyFits (s : State) (u : CipherUser) (slot gen : Nat) : Bool :=
  let k := s.keySlot slot
  k.state == 1 && k.gen == gen && (if u = .home then decide (3 ≤ k.kind) else decide (k.kind ≤ 2))

/-- The lattice class of a context's work (R435): for a Hinge frame `ring` is eight times the port and the class of R304 (log entry 65). -/
def cipherClass (u : CipherUser) (ring : Nat) : Nat :=
  match u with
  | .ring => 5
  | .home => 3
  | _ => ring % 8

/-- The requester number of a context's work (R365). -/
def cipherRequester (u : CipherUser) (ring : Nat) : Nat :=
  match u with
  | .ring => 0x40 + ring % 64
  | .home => 0x0D
  | .hingeTx => 0x19
  | .hingeRx => 8 + ring / 8 % 4

/-- CONTEXT_ACQUIRED (R434, R440): a frame or a granule takes a free context of its group with a copy of the key, or waits; a ring's
descriptor starts as its turn comes. For a Hinge frame `idx` is its sequence (log entry 65). -/
def execContextAcquired (user : CipherUser) (slot mode gen ring idx len : Nat) (s : State) : Host.Outcome State Fault Refusal :=
  done (
    if user = .ring then
      match (s.ring ring).fetched with
      | d :: _ => if d.idx = idx ∧ (dOp d.bytes = 10 ∨ dOp d.bytes = 11) then (s.startCipher ring (dOp d.bytes)).kickFlights else s
      | [] => s
    else if !s.keyFits user slot gen then s
    else match s.freeCtx user with
      | none => s
      | some k =>
        let key := s.keySlot slot
        let s := s.modCipher (fun c => { c with ctxs := insertKey k { user := user, slot := slot, gen := key.gen, kind := key.kind, key := key.key, mode := mode, ring := ring, idx := idx, len := len } c.ctxs })
        s.ask 25 (cipherRequester user ring) (cipherClass user ring) (ceilDiv len 256))

/-- A context is freed (R434). -/
def State.freeContext (s : State) (k : Nat) : State := s.modCipher (fun c => { c with ctxs := eraseKey k c.ctxs })

/-- A pipeline's fault (R446, R448): counted, source 210, which records a stage that is a free value; the third within a second takes the pipeline out of service, source 211. -/
def State.pipeFault (s : State) (pipe : Nat) (u : CipherUser) : State :=
  let recent := (getD s.cipher.pipeFaults pipe []).filter (fun t => s.now < t + 1000000000) ++ [s.now]
  let s := (s.count 452 1).modCipher (fun c => { c with
    faults := satAdd c.faults 1 0xFFFFFFFF
    pipeFaults := insertKey pipe recent c.pipeFaults })
  let s := (s.raise 210 0 (leBytes 1 pipe ++ leBytes 1 s.free ++ leBytes 1 (userCode u))).tick
  if recent.length < 3 then s
  else
    (s.modCipher (fun c => { c with
      pipes := c.pipes &&& ~~~ (1#16 <<< pipe)
      outAt := insertKey pipe s.now c.outAt
      pipeFaults := eraseKey pipe c.pipeFaults })).raise 211 0 (leBytes 1 pipe ++ leBytes 1 recent.length)

/-- A Hinge frame whose computation failed is not sent, or is discarded unacknowledged on receipt (R446): noted until its turn at the port. -/
def State.loseFrame (s : State) (k : Nat) (c : CCtx) (received : Nat) : State :=
  (s.freeContext k).modCipher (fun x => { x with lost := x.lost ++ [(received, c.ring / 8 % 4, c.idx)] })

/-- What a fault does to the operation of a context (R446). -/
def State.cipherFault (s : State) (k : Nat) (c : CCtx) : State :=
  match c.user with
  | .ring =>
    match s.flight c.ring c.idx with
    | some f => s.cipherStop k c f St.cipherFault c.released c.released
    | none => s.freeContext k
  | .hingeTx => if c.retried then s.loseFrame k c 0 else s.modCtx k (fun c => { c with retried := true, released := 0 })
  | .hingeRx => s.loseFrame k c 1
  | .home => s.modCtx k (fun c => { c with released := 0 })

/-- A ring's block released (R142, R444, R146): the descriptor stops at its first poisoned block, with source 314, and finishes with its last. -/
def State.ringBlock (s : State) (k : Nat) (c : CCtx) (f : Flight) : State :=
  let next := c.released + 16
  let stop := fun (p : Nat) => (s.raise 314 0 (leBytes 2 c.ring ++ leBytes 4 c.idx ++ leBytes 8 f.badLine)).cipherStop k c f St.poisonHalt p p
  match f.poisonAt with
  | some p => if p < next ∨ c.len ≤ next then stop p
    else (s.count (if dOp f.bytes = 10 then 448 else 449) 16).modCtx k (fun c => { c with released := next })
  | none =>
    let s := (s.count (if dOp f.bytes = 10 then 448 else 449) 16).modCtx k (fun c => { c with released := next })
    if c.len ≤ next then s.cipherFinish k c f else s

/-- CIPHER_BLOCK_DONE (R446): a block released, or a fault where one of three checks fails: the parity of the pipeline stages, that of the key
schedule, and the comparison of the two GHASH multipliers. The context of a frame or granule is free behind its last block; its bytes and its
tag are computed and counted where the frame or granule goes out or comes in. -/
def execCipherBlockDone (ctx pipe : Nat) (stageOk keyOk hashOk : Bool) (s : State) : Host.Outcome State Fault Refusal :=
  done (match assoc s.cipher.ctxs ctx with
    | none => s
    | some c =>
      let flight := if c.user = .ring then s.flight c.ring c.idx else none
      let busy := c.user != .ring || (decide (c.released < c.len) && (flight.map Flight.stage) == some 2)
      if !s.cipher.pipes.getLsbD pipe || !busy then s
      else if !(stageOk && keyOk && hashOk) then ((s.pipeFault pipe c.user).cipherFault ctx c).kickFlights
      else match flight with
        | some f => (s.ringBlock ctx c f).kickFlights
        | none =>
          if c.len ≤ c.released + 16 then s.freeContext ctx else s.modCtx ctx (fun c => { c with released := c.released + 16 }))

/-- RETURN_PIPELINES (R448, R449): the self-test on every pipeline out of service; each that passes returns, source 211, and each that fails raises
source 214, with a test that is a free value. -/
def execReturnPipelines (rq : Req) (tag : Nat) (passed : BitVec 16) (s : State) : Host.Outcome State Fault Refusal :=
  done (s.writeNum rq tag 0x3700 8 1 1 (fun s =>
    let out := (List.range 16).filter (fun p => !s.cipher.pipes.getLsbD p)
    let back := out.filter passed.getLsbD
    let s := s.modCipher (fun c => { c with testFail := (c.testFail ||| ~~~ c.pipes) &&& ~~~ passed })
    let s := (out.filter (fun p => !passed.getLsbD p)).foldl (fun s p => (s.raise 214 0 (leBytes 1 p ++ leBytes 1 s.free)).tick) s
    (back.foldl (fun s p =>
      let s := s.count 457 ((s.now - getD s.cipher.outAt p s.now) / 125)
      (s.modCipher (fun c => { c with pipes := c.pipes ||| (1#16 <<< p), outAt := eraseKey p c.outAt })).raise 211 1 (leBytes 1 p ++ leBytes 1 0)) s, St.ok)))

end Sys2Proof.Machine
end

