-- ==== Sys2Proof/Machine/Rings.lean ====
section
/-! DEFINITION. Work ring commands (R126 to R157): doorbells, registration, the fetch of descriptors, the fourteen opcodes, the
progress of pieces, interrupts, and the bus-master traffic of a ring. -/

namespace Sys2Proof.Machine

/-! ### Doorbells (R131, R132, R152, R153) -/

/-- A ring whose doorbell was written goes on (R132): it halts with BAD_RANGE where the tail runs ahead of its entries. -/
def State.rung (s : State) (n : Nat) : State :=
  let r := s.ring n
  if r.dents < (r.tail + 2 ^ 32 - r.head) % 2 ^ 32 then s.haltRing n St.badRange else s.ringStep n

/-- The descriptor tail written. -/
def State.setTail (s : State) (n tail : Nat) : State := (s.modRing n (fun r => { r with tail := tail })).rung n

/-- The completion head written. -/
def State.setHead (s : State) (n head : Nat) : State := (s.modRing n (fun r => { r with chead := head })).rung n

/-- A halted ring resumes fetching at its descriptor head (R153); another stays as it is. -/
def State.restartRing (s : State) (n : Nat) : State :=
  if (s.ring n).state = 2 then ((s.modRing n (fun r => { r with state := 1, halt := 0 })).publish n).rung n else s

/-- Whether a ring is registered to a logical device whose doorbells lie in host memory (R131). -/
def State.ringOfLd (s : State) (p ld n : Nat) : Bool :=
  let r := s.ring n
  r.state != 0 && r.mem == 0xFFFF && r.port == p && r.host == ld && s.host.mode == 0

/-- A doorbell write to a ring that is not registered to the writing logical device is discarded (R120): source 17+4p with cause 1. -/
def State.strayBell (s : State) (p ld n : Nat) : State := s.raise (17 + 4 * p) 1 (leBytes 2 0xFFFF ++ leBytes 2 ld ++ leBytes 2 n)

/-- DOORBELL_TAIL_WRITE (R132): an aligned write of 4 bytes sets the tail, one of 8 bytes the tail and the completion head;
any other size is discarded. -/
def execDoorbellTailWrite (p ld ring tail size : Nat) (head : Option Nat) (s : State) : Host.Outcome State Fault Refusal :=
  done (if !s.ringOfLd p ld ring then s.strayBell p ld ring
    else if size = 4 then s.setTail ring tail
    else if size = 8 then
      match head with
      | some h => (s.modRing ring (fun r => { r with chead := h })).setTail ring tail
      | none => s
    else s)

/-- COMPLETION_HEAD_WRITE (R131, R132). -/
def execCompletionHeadWrite (p ld ring head size : Nat) (s : State) : Host.Outcome State Fault Refusal :=
  done (if !s.ringOfLd p ld ring then s.strayBell p ld ring else if size = 4 then s.setHead ring head else s)

/-- DOORBELL_RESTART (R153). -/
def execDoorbellRestart (p ld ring : Nat) (s : State) : Host.Outcome State Fault Refusal :=
  done (if s.ringOfLd p ld ring then s.restartRing ring else s.strayBell p ld ring)

/-- Whether the byte enables of a line cover `n` bytes from a place on. -/
def beCovers (be : BitVec 64) (off n : Nat) : Bool := (List.range n).all (fun i => be.getLsbD (off + i))

/-- What a write by a PBR ID to a doorbell line does to its ring (R152). -/
def State.lineRings (s : State) (pbr hpa : Nat) (line : Line) (be : BitVec 64) : State :=
  let b := lineToBytes line
  match s.rings.rings.find? (fun e => e.2.mem != 0xFFFF && e.2.host == pbr && e.2.bell == hpa) with
  | none => s
  | some (n, _) =>
    let s := if beCovers be 4 4 then s.modRing n (fun r => { r with chead := field b 4 4 }) else s
    let s := if beCovers be 0 4 then s.setTail n (field b 0 4) else if beCovers be 4 4 then s.rung n else s
    if beCovers be 12 4 && bit (field b 12 4) 31 then s.restartRing n else s

/-- DOORBELL_LINE_WRITE (R152): the ring acts on the line, which is also applied to the volume. -/
def execDoorbellLineWrite (pbr hpa : Nat) (line : Line) (be : BitVec 64) (s : State) : Host.Outcome State Fault Refusal :=
  done (match s.rings.rings.find? (fun e => e.2.mem != 0xFFFF && e.2.host == pbr && e.2.bell == hpa) with
    | none => s
    | some (_, r) =>
      let pa := s.poolAt r.mem hpa
      let s := s.ownReq {
        num := 0, write := true, port := r.port, host := pbr, tag := 0, sess := r.mem, key := pa / extentBytes, off := pa % extentBytes,
        line := line, be := be, cls := (s.sess r.mem).eff }
      s.lineRings pbr hpa line be)

/-! ### Registration (R127 to R129) -/

/-- Whether a number is a power of two from 16 to 65,536. -/
def ringSize (n : Nat) : Bool := (List.range 13).any (fun i => n == 2 ^ (4 + i))

/-- The fields of a registration block (R127), with the requester's own logical device where it has host level (R128). -/
def State.blockRing (s : State) (rq : Req) (b : Bytes) : Ring :=
  let own := if s.level rq = 0 then reqLd rq else none
  { state := 1
    port := match own with | some (p, _) => p | none => field b 50 1
    host := match own with | some (_, l) => l | none => field b 48 2
    vector := field b 2 2
    limit := field b 4 2
    modN := field b 6 2
    modT := field b 32 4
    dbase := field b 8 8
    cbase := field b 16 8
    dents := field b 24 4
    cents := field b 28 4
    mem := field b 36 2
    bell := field b 40 8 }

/-- Whether a range of host addresses meets the doorbell line or the line after it. -/
def meetsBell (bell at_ len : Nat) : Bool := decide (at_ < bell + 128 ∧ bell < at_ + len)

/-- Whether a ring in a volume is placed as R152 requires. -/
def State.volumeRingOk (s : State) (r : Ring) : Bool :=
  decide (r.mem ≤ 16383) && ((s.sess r.mem).state == 1 || (s.sess r.mem).state == 2) && s.setting (0x4000 + r.mem) 4 == r.host && s.setting (0x4000 + r.mem) 9 == 2
  && s.inWindow r.mem r.dbase (64 * r.dents) && s.inWindow r.mem r.cbase (16 * r.cents) && s.inWindow r.mem r.bell 128
  && !meetsBell r.bell r.dbase (64 * r.dents) && !meetsBell r.bell r.cbase (16 * r.cents)

/-- Whether a field of a registration block lies outside its range (R127, R128, R152). -/
def State.blockBad (s : State) (b : Bytes) (r : Ring) : Bool :=
  decide (4095 < field b 0 2) || !(r.vector == 0xFFFF || decide (2 ≤ r.vector ∧ r.vector ≤ 63))
  || !decide (1 ≤ r.limit ∧ r.limit ≤ 256) || !decide (1 ≤ r.modN ∧ r.modN ≤ 256) || decide (1000000 < r.modT)
  || r.dbase % 4096 != 0 || r.cbase % 4096 != 0 || !ringSize r.dents || !ringSize r.cents || decide (r.cents < r.dents)
  || field b 38 2 != 0 || (b.drop 51).any (· != 0) || decide (7 < r.port) || r.bell % 64 != 0
  || (if s.host.mode = 0 then r.mem != 0xFFFF || r.bell != 0 || decide (15 < r.host)
      else r.vector != 0xFFFF || decide (4095 < r.host) || !s.volumeRingOk r)

/-- A ring registered, or the code that refuses it (R127, R128): a host-level requester needs a logical device of its own, in multi-logical-device
mode. -/
def State.registerRing (s : State) (rq : Req) (b : Bytes) : State × Nat :=
  let n := field b 0 2
  let r := s.blockRing rq b
  let old := s.ring n
  let foreign := s.level rq = 0 ∧ (s.host.mode = 1 ∨ reqLd rq = none ∨ (old.state ≠ 0 ∧ (old.port ≠ r.port ∨ old.host ≠ r.host)))
  if s.blockBad b r then (s, St.badRange)
  else if foreign then (s, St.noAccess)
  else if old.state ≠ 0 then (s, St.busy)
  else ((s.modRings (fun x => { x with rings := insertKey n r x.rings })).publish n, St.ok)

/-- RING_REGISTER (R127, R128). -/
def execRingRegister (rq : Req) (tag : Nat) (block : Bytes) (s : State) : Host.Outcome State Fault Refusal :=
  done (s.writeObj rq tag 0x3110 1 9 block (fun s => s.registerRing rq block))

/-- Whether a requester reaches a ring (R128). -/
def State.reachesRing (s : State) (rq : Req) (n : Nat) : Bool :=
  let r := s.ring n
  s.level rq != 0 || r.state == 0 || reqLd rq == some (r.port, r.host)

/-- A ring unregistered (R129): no further descriptor starts; those in flight end at the end of their piece. -/
def State.unregisterRing (s : State) (n : Nat) : State :=
  let r := s.ring n
  if r.state = 0 then s
  else
    let s := (s.dropFetch n).modRing n (fun r => { r with state := 3, fetched := [], flight := r.flight.map (fun f => { f with stopping := true }) })
    let s := s.publish n
    let s := (r.flight.filter (fun f => f.work.isNone)).foldl (fun s f => s.nextPiece n f.idx) s
    s.freeRing n

/-- RING_UNREGISTER (R129). -/
def execRingUnregister (rq : Req) (tag ring : Nat) (s : State) : Host.Outcome State Fault Refusal :=
  done (s.writeNum rq tag 0x3110 2 2 ring (fun s => if s.reachesRing rq ring then (s.unregisterRing ring, St.ok) else (s, St.noAccess)))

/-- RING_RESTART (R153). -/
def execRingRestart (rq : Req) (tag ring : Nat) (s : State) : Host.Outcome State Fault Refusal :=
  done (s.writeNum rq tag 0x3110 3 2 ring (fun s => if s.reachesRing rq ring then (s.restartRing ring, St.ok) else (s, St.noAccess)))

/-! ### Fetching (R132 to R134) -/

/-- The 64 bytes of a descriptor of which only the tag counts (R134 step 1). -/
def tagOnly (b : Bytes) : Bytes := List.replicate 8 0 ++ (b.drop 8).take 4 ++ List.replicate 52 0

/-- The next descriptor has been read (R132, R134): it is copied, the head moves on, and source 312 tells of a failed check or
a poisoned fetch, of which only the tag is kept. -/
def State.fetchedDesc (s : State) (n : Nat) (bytes : Bytes) (poisoned : Bool) : State :=
  let r := s.ring n
  if r.state ≠ 1 ∨ !r.fetching then s
  else
    let bad := poisoned || crc32cOf (bytes.take 60) != field bytes 60 4
    let bound := (descSessions bytes (r.mem != 0xFFFF)).filter (fun k => (s.sess k).state != 0)
    let s := s.modRing n (fun r => { r with
      fetching := false
      fetched := r.fetched ++ [{
        idx := r.head
        bytes := if bad then tagOnly bytes else bytes
        bad := bad
        binds := if bad then [] else bound.map (fun k => (k, (s.sess k).binding)) }]
      head := (r.head + 1) % 2 ^ 32 })
    let s := if bad then s.raise 312 0 (leBytes 2 n ++ leBytes 4 r.head ++ leBytes 4 (dTag bytes)) else s
    (s.publish n).ringStep n

/-- A descriptor that a volume ring reads is there (R152): its bytes are what the reads of the volume brought; a read that failed halts the ring
(R138). -/
def State.fetchedVol (s : State) (n : Nat) : State :=
  let s := s.stepWorks
  match s.rings.works.find? (fun w => w.kind == 4 && w.ring == n && w.state == 5) with
  | none => s
  | some w =>
    let b := w.read 0 (s.descAt (s.ring n)) 64
    let s := s.modRings (fun x => { x with works := x.works.filter (fun y => y.id != w.id) })
    if w.status ≠ St.ok then s.haltRing n w.status else s.fetchedDesc n (b.map Prod.fst) (b.any Prod.snd)

/-- DESCRIPTOR_FETCH (R134): the bytes of the command are those of host memory; a volume ring has its own from its volume (R152). -/
def execDescriptorFetch (ring : Nat) (bytes : Bytes) (poisoned : Bool) (s : State) : Host.Outcome State Fault Refusal :=
  done (if (s.ring ring).mem = 0xFFFF then s.fetchedDesc ring bytes poisoned else s.fetchedVol ring).advanceWorks

/-! ### The opcodes (R137 to R144) -/

/-- COPY (R139). -/
def execCopy (ring : Nat) (s : State) : Host.Outcome State Fault Refusal := done (s.startOp ring 1 (fun s d => s.startFlight ring d))
/-- FILL (R139). -/
def execFill (ring : Nat) (s : State) : Host.Outcome State Fault Refusal := done (s.startOp ring 2 (fun s d => s.startFlight ring d))
/-- IMPORT (R139). -/
def execImportRange (ring : Nat) (s : State) : Host.Outcome State Fault Refusal := done (s.startOp ring 3 (fun s d => s.startFlight ring d))
/-- EXPORT (R139). -/
def execExportRange (ring : Nat) (s : State) : Host.Outcome State Fault Refusal := done (s.startOp ring 4 (fun s d => s.startFlight ring d))
/-- PERSIST (R143). -/
def execPersist (ring : Nat) (s : State) : Host.Outcome State Fault Refusal := done (s.startOp ring 5 (fun s d => s.startFlight ring d))
/-- PLACE (R144). -/
def execPlace (ring : Nat) (s : State) : Host.Outcome State Fault Refusal := done (s.startOp ring 6 (fun s d => s.startFlight ring d))
/-- ATOMIC (R140). -/
def execAtomic (ring : Nat) (s : State) : Host.Outcome State Fault Refusal :=
  done (s.startOp ring 7 (fun s d => s.startFlight ring d)).advanceWorks
/-- COMPARE (R141). -/
def execCompare (ring : Nat) (s : State) : Host.Outcome State Fault Refusal := done (s.startOp ring 8 (fun s d => s.startFlight ring d))
/-- CRC32C (R141). -/
def execCrc32c (ring : Nat) (s : State) : Host.Outcome State Fault Refusal := done (s.startOp ring 9 (fun s d => s.startFlight ring d))
/-- ENCRYPT (R142). -/
def execEncrypt (ring : Nat) (s : State) : Host.Outcome State Fault Refusal := done (s.startCipher ring 10)
/-- DECRYPT (R142). -/
def execDecrypt (ring : Nat) (s : State) : Host.Outcome State Fault Refusal := done (s.startCipher ring 11)

/-- PERSIST_POINT (R143): the root is asked for the next pool persist point; the descriptor completes with its number. -/
def execPersistPoint (ring : Nat) (s : State) : Host.Outcome State Fault Refusal :=
  done (s.startOp ring 12 (fun s d =>
    (s.modRing ring (fun r => { r with flight := r.flight ++ [{ idx := d.idx, bytes := d.bytes, stage := 3 }] })).handToRoot (.point 0)
      (some (ring, d.idx)))).settled

/-- FENCE (R144): it ends with OK and the count of earlier descriptors not OK since the last FENCE. -/
def execFence (ring : Nat) (s : State) : Host.Outcome State Fault Refusal :=
  done (s.startOp ring 13 (fun s d => s.ringComplete ring d.idx d.bytes St.ok (s.ring ring).notOk))

/-- NOP (R144). -/
def execNop (ring : Nat) (s : State) : Host.Outcome State Fault Refusal :=
  done (s.startOp ring 14 (fun s d => s.ringComplete ring d.idx d.bytes St.ok 0))

/-! ### Progress (R146, R149, R151) -/

/-- A descriptor whose piece or input is done goes on, and with it those that waited for a free piece. -/
def State.pieceEnds (s : State) (n idx off : Nat) : State :=
  let s := s.advanceWorks
  match s.flight n idx with
  | none => s
  | some f =>
    match f.work.bind s.workOf with
    | none => s
    | some w =>
      if w.state ≠ 5 then s
      else
        let s := if w.kind ≠ 0 then s.gathered n idx f w else if w.off = off then s.pieceDone n idx else s
        (s.kickFlights.ringStep n).advanceWorks

/-- PIECE_COMPLETE (R146). -/
def execPieceComplete (ring idx off : Nat) (s : State) : Host.Outcome State Fault Refusal := done (s.pieceEnds ring idx off)

/-- MODERATION_TIMER (R151). -/
def execModerationTimer (ring : Nat) (s : State) : Host.Outcome State Fault Refusal :=
  let r := s.ring ring
  done (if r.state ≠ 0 ∧ 0 < r.modT ∧ 0 < r.unsig ∧ s.elapsed r.unsigAt r.modT then s.signal ring else s)

/-- Whether a request is a line of a piece of some ring's descriptor at a range offset: the offset of a peer's line is not known here. -/
def State.lineOf (s : State) (ring idx off : Nat) (h : HReq) : Bool :=
  h.piece == some (ring, idx) && (match (s.pieceOf h.origin).bind s.workOf with | some w => w.off == off | none => true)

/-- The writes of a piece that wait at the dirty ceiling past the ring hold limit that was in force when they began to wait (R130, R149): those of a
piece that runs here, and those a peer's piece sent to this home. -/
def State.heldOf (s : State) (ring idx off : Nat) : List HReq :=
  s.persist.waitAdmit.filter (fun h => h.write && s.lineOf ring idx off h && s.elapsed h.since h.limit)

/-- A piece whose write was held too long ends with THROTTLED at that line, and its later lines with it (R149). -/
def State.throttlePiece (s : State) (ring idx off : Nat) : State :=
  if s.heldOf ring idx off = [] then s
  else
    let mine := s.persist.waitAdmit.filter (fun h => h.write && s.lineOf ring idx off h)
    let s := s.modPersist (fun p => { p with waitAdmit := p.waitAdmit.filter (fun h => !mine.contains h) })
    mine.foldl (fun s h => s.answer h.origin St.throttled) s

/-- RING_HOLD_LIMIT (R149). -/
def execRingHoldLimit (ring idx off : Nat) (s : State) : Host.Outcome State Fault Refusal :=
  done ((s.throttlePiece ring idx off).pieceEnds ring idx off)

/-! ### Bus-master traffic (R126, R138) -/

/-- The descriptor in flight that waits for a bus-master read at a range offset. -/
def State.busFlight (s : State) (n idx : Nat) : Option Flight :=
  match s.flight n idx with
  | some f =>
    if f.waitBus then some f
    else match f.work.bind s.workOf with
      | some w => if dOp f.bytes = 3 ∧ w.state = 2 then some f else none
      | none => none
  | none => none

/-- A bus-master read of a descriptor in flight fails (R138): the descriptor ends with the status. -/
def State.busFailed (s : State) (n idx : Nat) (f : Flight) (status : Nat) : State :=
  if f.waitBus then (s.ringComplete n idx f.bytes status 0).ringStep n
  else match f.work.bind s.workOf with
    | some w => (s.workEnd w.id status 0 0).pieceEnds n idx w.off
    | none => s

/-- A bus-master access fails while no read of a descriptor is out (R138): the ring halts with the status where a descriptor's fetch is out, or where it
has written a completion entry, whose write this is; DEDUCED, log entry 117. -/
def State.ringFailed (s : State) (n status : Nat) : State :=
  let r := s.ring n
  if r.fetching || r.cwrit != 0 then s.haltRing n status else s

/-- Bytes of a bus-master read arrive (R138 to R140): a batch, or a part of an IMPORT's input in order of its offset. A batch that arrives
poisoned ends the descriptor with POISON_HALT and Result 0: DESIGN CHOICE, log entry 108. -/
def State.busData (s : State) (n idx off : Nat) (f : Flight) (bytes : Bytes) (poison : Bool) : State :=
  if f.waitBus then
    if poison then (s.ringComplete n idx f.bytes St.poisonHalt 0).ringStep n
    else ((s.batchIn n idx bytes).ringStep n).advanceWorks
  else match f.work.bind s.workOf with
    | some w =>
      if off ≠ w.off + w.bytes.length ∨ w.len < w.bytes.length + bytes.length then s
      else
        let s := s.modWork w.id (fun x => { x with
          bytes := x.bytes ++ bytes
          marks := if poison then x.marks ++ [(x.bytes.length, bytes.length)] else x.marks
          state := if x.bytes.length + bytes.length = x.len then 3 else 2 })
        s.advanceWorks
    | none => s

/-- BUS_MASTER_READ_COMPLETION (R138): status 0 brings data, any other is Unsupported Request or Completer Abort. -/
def execBusMasterReadCompletion (ring idx off : Nat) (bytes : Bytes) (status : Nat) (poison : Bool) (s : State) :
    Host.Outcome State Fault Refusal :=
  done (match s.busFlight ring idx with
    | some f => if status = 0 then s.busData ring idx off f bytes poison else s.busFailed ring idx f St.aborted
    | none =>
      if status = 0 then s.fetchedDesc ring bytes poison else s.ringFailed ring St.aborted)

/-- BUS_MASTER_COMPLETION_TIMEOUT (R138). -/
def execBusMasterCompletionTimeout (ring idx : Nat) (s : State) : Host.Outcome State Fault Refusal :=
  done (match s.busFlight ring idx with
    | some f => s.busFailed ring idx f St.timeout
    | none => s.ringFailed ring St.timeout)

/-- Rings that waited for their memory go on (R126, R154): those of a logical device, and with the port those that lie in a volume. -/
def State.busBack (s : State) (p ld : Nat) : State :=
  let ns := (s.rings.rings.filter (fun e => e.2.port == p && (e.2.host == ld || e.2.mem != 0xFFFF))).map Prod.fst
  ((ns.foldl (fun s n => (((s.flushHeld n).freeRing n).ringStep n)) s).kickFlights).advanceWorks

/-- BUS_MASTER_ENABLE_WRITE (R126). -/
def execBusMasterEnableWrite (p ld : Nat) (on : Bool) (s : State) : Host.Outcome State Fault Refusal :=
  let s := s.modLdev p ld (fun d => { d with busMaster := on })
  done (if on then s.busBack p ld else s)

/-- MSIX_VECTOR_MASK_WRITE (R151): a vector unmasked while it is pending is sent. -/
def execMsixVectorMaskWrite (p ld v : Nat) (masked : Bool) (s : State) : Host.Outcome State Fault Refusal :=
  let d := s.ldev p ld
  let bitv := 1#64 <<< v
  done (if masked then s.modLdev p ld (fun d => { d with vecMask := d.vecMask ||| bitv })
    else
      let s := s.modLdev p ld (fun d => { d with vecMask := d.vecMask &&& ~~~ bitv, vecPend := d.vecPend &&& ~~~ bitv })
      if d.vecPend.getLsbD v then s.emit (.msix p ld v) else s)

end Sys2Proof.Machine
end

