-- ==== Sys2Proof/Machine/Twin.lean ====
section
/-! DEFINITION. The commands of twin operation: heartbeats and the beat line, the fence, claims, handover and resynchronisation
(R253 to R278). -/

namespace Sys2Proof.Machine

/-! ### Signs of life (R253 to R257) -/

/-- The code of a beat path class (0x2110:02). -/
def beatCode : BeatClass → Nat
  | .toggling => 0 | .stuck => 1 | .openPath => 2 | .quiet => 3 | .invalid => 4

/-- What follows once a path may have fallen silent (R257): source 98 where both are now and were not before. -/
def State.silenceCheck (s : State) (before : Bool) : State :=
  if !before && s.bothSilent then
    (s.count 491 1).raise 98 0 (leBytes 1 (beatCode s.twin.beat) ++ leBytes 1 (b2n s.twin.frameSilent) ++ leBytes 1 (b2n s.twin.absent))
  else s

/-- The beat path's class changed (R255): source 96 where it is another class. -/
def State.setBeat (s : State) (c : BeatClass) (interval : Nat) : State :=
  let old := s.twin.beat
  if old = c then s
  else
    let before := s.bothSilent
    let s := if c = .quiet then s else s.modTwin (fun t => { t with absent := false, idleSince := none })
    ((s.modTwin (fun t => { t with beat := c })).raise 96 0 (leBytes 1 (beatCode old) ++ leBytes 1 (beatCode c) ++ leBytes 8 interval)).silenceCheck before

/-- A sign of life from the twin (R255, R257). -/
def State.alive (s : State) : State := s.modTwin (fun t => { t with lastLife := s.now, hearing := true, absent := false })

/-- What BEAT_OUT does (R255, R276): 0 both pins low, in reset or without power; 1 steady, differential high; 2 it toggles at 1 MHz, while the twin is
heard. A device without a twin drives it steadily. -/
def State.beatOut (s : State) : Nat :=
  if s.power.inReset ∨ s.power.state < 2 then 0 else if s.twin.hearing && s.twinListed then 2 else 1

/-- The highest sequence a standby has applied (R253). -/
def State.appliedTop (s : State) : Nat := maxOf s.persist.applied 0

/-- This device's heartbeat payload for a twin port (R253). -/
def State.beatOf (s : State) (p : Nat) : Beat where
  state := s.twin.state
  hearing := s.twin.hearing
  fenced := s.twin.latch
  withdrawn := s.twin.withdrawn
  inSync := s.twin.inSync
  handover := s.twin.handover
  seq := (getD s.twin.frameSeq p 0 + 1) % 2 ^ 32
  echo := getD s.twin.echo p 0
  claim := s.twin.claim
  horizon := if s.isActive ∨ s.twin.handover then s.persist.horizon else s.appliedTop
  assigned := if s.isActive ∨ s.twin.handover then s.persist.seq else 0

/-- HEARTBEAT_SEND (R253): every 10 µs on every twin port in service; a vault without a twin sends none (R276). Values of 0x2100 committed
since the last take effect with it (R280). -/
def execHeartbeatSend (s : State) : Host.Outcome State Fault Refusal :=
  let due := match s.twin.sentAt with | some t => s.elapsed t 10000 | none => true
  done (if !due || !s.twinListed || s.power.inReset then s
    else
      let s := s.sendVals.modTwin (fun t => { t with sentAt := some s.now })
      (s.upPorts 0).foldl (fun s p =>
        let b := s.beatOf p
        (s.modTwin (fun t => { t with frameSeq := insertKey p b.seq t.frameSeq })).sendOn s.twinDev p (.heartbeat b)) s)

/-- Whether a frame of the twin was sent after the twin heard that resync is complete (R275; log entry 34). -/
def State.afterSync (s : State) (h : Hdr) (b : Beat) : Bool := decide (getD s.twin.syncSeq h.dport 0 < b.echo)

/-- A resync stops (R275): the streams close, the remaining bits stay set, and so do those of records not acknowledged. -/
def State.stopResync (s : State) : State :=
  if s.twin.state = 2 ∧ s.twin.resyncOn then
    let grans := s.persist.unacked.map (fun r => slotGran r.run.slot (r.run.line / 64))
    let s := s.modTwin (fun t => { t with resyncOn := false, resync := grans.foldl (fun l g => addSet g l) t.resync })
    (s.modPersist (fun p => { p with unacked := [], mirroring := false, horizon := p.seq })).afterHorizon
  else s

/-- The twin is declared lost (R263, R264), and what that lets go on: repairs fail (R426), freezes and completions proceed. -/
def State.loseTwin (s : State) (cause : Nat) : State :=
  if s.twin.state = 1 ∧ !s.twin.latch then (s.declareLost cause).failRepairs.afterHorizon else s

/-- What an active device reads from its twin's frame (R263, R275). -/
def State.activeHears (s : State) (h : Hdr) (b : Beat) : State :=
  if s.twin.state = 1 then
    if b.withdrawn then s.loseTwin 2 else if b.state = 0 ∨ (b.state = 5 ∧ s.afterSync h b) then s.loseTwin 1 else s
  else if s.twin.state = 2 ∧ (b.withdrawn ∨ b.state = 0) then s.stopResync
  else s

/-- What a standby reads from the active device's frame (R259, R271, R275, R394). -/
def State.standbyHears (s : State) (b : Beat) : State :=
  let s := s.modTwin (fun t => { t with recs := t.recs.filter (fun r => decide (b.horizon < r.1)) })
  let whole := (List.range 16).all (fun n => (s.chan n).ranks.isEmpty || s.chanServes n) && s.twin.stale == []
  if s.twin.state = 5 ∧ b.state = 1 ∧ whole ∧ s.persist.restoring = [] then
    s.modTwin (fun t => { t with state := 4, inSync := true, lastRec := s.now, recs := [] })
  else if s.twin.state = 4 ∧ s.twin.inSync ∧ !s.twin.withdrawn ∧ b.claim = s.claimOf s.vault then
    if b.handover ∧ b.fenced then (if s.appliedTop = b.horizon then s.claimBegin 3 else s)
    else if b.fenced ∨ b.withdrawn then s.claimBegin 2
    else s
  else s.standbyGoesOn

/-- HEARTBEAT (R254, R259, R263, R269, R275). -/
def execHeartbeat (h : Hdr) (b : Beat) (s : State) : Host.Outcome State Fault Refusal :=
  let (s, ok) := s.rx h (.heartbeat b) false
  done (
    if !ok || !s.twinListed || h.src != s.twinDev || (s.isActive && !b.hearing) then (if ok then s.count 489 1 else s)
    else
      let s := s.takeVals.count 488 1
      let s := s.modTwin (fun t => { t with peer := some b, echo := insertKey h.dport b.seq t.echo, lastFrame := s.now })
      let s := if s.twin.frameSilent then
          (s.modTwin (fun t => { t with frameSilent := false })).raise 97 1 (leBytes 1 s.twin.signal ++ leBytes 4 b.seq)
        else s
      let s := s.alive
      if s.isActive then s.activeHears h b
      else if s.twin.state = 4 ∨ s.twin.state = 5 then s.standbyHears b
      else if s.twin.state = 8 ∧ (b.state = 1 ∨ b.state = 2 ∨ b.state = 3) then
        (s.unfence 5).modPersist (fun p => { p with
          applied := [p.horizon, p.horizon]
          shadow := p.dirty
          unacked := []
          mirroring := false
          state := 0 })
      else s)

/-- BEAT_EDGE (R255): an edge of BEAT_IN, `interval` ns after the one before. One closer than 125 ns makes the path invalid for
8 µs; any other is a sign of life. -/
def execBeatEdge (interval : Nat) (s : State) : Host.Outcome State Fault Refusal :=
  let s := s.modTwin (fun t => { t with
    beatAt := s.now
    idleSince := none
    edges := (t.edges ++ [interval]).drop (t.edges.length + 1 - 64) })
  done (
    if interval < 125 then ((s.modTwin (fun t => { t with shortAt := some s.now })).count 490 1).setBeat .invalid interval
    else match s.twin.shortAt with
      | some t => if s.elapsed t 8000 then ((s.modTwin (fun t => { t with shortAt := none })).alive).setBeat .toggling interval else s
      | none => s.alive.setBeat .toggling interval)

/-- BEAT_PATH_TIMEOUT (R255): no edge for 8 µs; the level tells stuck, open or quiet. -/
def execBeatPathTimeout (cls : BeatClass) (s : State) : Host.Outcome State Fault Refusal :=
  done (
    if !s.elapsed s.twin.beatAt 8000 || cls == .toggling || cls == .invalid then s
    else
      let s := s.setBeat cls (s.now - s.twin.beatAt)
      s.modTwin (fun t => { t with idleSince := if cls = .quiet ∧ t.signal = 0 then some (t.idleSince.getD s.now) else none }))

/-- FRAME_PATH_SILENT (R254): no sign of life on any twin port for 25 µs. -/
def execFramePathSilent (s : State) : Host.Outcome State Fault Refusal :=
  done (if s.twin.frameSilent || !s.elapsed s.twin.lastFrame 25000 then s
    else
      let before := s.bothSilent
      ((s.modTwin (fun t => { t with frameSilent := true })).raise 97 0
        (leBytes 1 s.twin.signal ++ leBytes 4 (maxOf (s.twin.echo.map Prod.snd) 0))).silenceCheck before)

/-- HEARING_WINDOW_EXPIRY (R255): no sign of life for 12 µs; Hearing clears and BEAT_OUT stops toggling. -/
def execHearingWindowExpiry (s : State) : Host.Outcome State Fault Refusal :=
  done (if s.elapsed s.twin.lastLife 12000 then s.modTwin (fun t => { t with hearing := false }) else s)

/-- TWIN_ABSENT_DETECTED (R256): the beat path quiet and every twin port's receiver idle for 20 µs. -/
def execTwinAbsentDetected (s : State) : Host.Outcome State Fault Refusal :=
  done (match s.twin.idleSince with
    | some t => if s.twin.beat = .quiet ∧ s.twin.signal = 0 ∧ s.elapsed t 20000 then s.modTwin (fun t => { t with absent := true }) else s
    | none => s)

/-! ### Fence and claim (R258 to R269) -/

/-- The copies, moves and heat of a vault that failed over to this device (R189, R194). It holds none of the vault's read copies and reports them
dropped; a move whose commit record it holds is committed and its commit sent again; every other move out and every copy creation is aborted; copies that
were told to serve are kept for a whole lease; heat restarts at zero, source 153. -/
def State.placementTakeover (s : State) : State :=
  let mine := s.place.slots.filterMap (fun e => match e.2 with | .copy k => some (e.1, k) | _ => none)
  let s := mine.foldl (fun s c => ((s.releaseSlot c.1).count 390 1).noteDrop c.2 s.vault) s
  let s := s.modPlace (fun p => { p with
    heat := (p.slots.filter (fun e => match e.2 with | .home _ => true | _ => false)).map (fun e => (e.1, { homed := true }))
    heatCache := []
    copyIns := []
    copyOuts := p.copyOuts.map (fun c => { c with lease := s.poolTime + s.setting 0x3220 0x0A })
    migs := p.migs.map (fun m => { m with frozen := s.now })
    cand := []
    qMoves := []
    qCopies := [] })
  let s := s.raise 153 0 (leBytes 2 s.vault ++ leBytes 2 s.pool.number)
  let s := (s.place.copyOuts.filter (fun c => !c.live)).foldl (fun s c => s.abortCopy c 4) s
  s.place.migs.foldl (fun s m =>
    if m.phase < 4 then s.abortMig m 4
    else if s.homeSlot m.key != some m.slot then s.sendCommit m
    else if s.isReloc m then s.commitReloc m else s.commitMig m) s

/-- The claim completes (R265 steps 4 and 5, R266): the shadow set is the dirty set and the sequence goes on; the device is
Active, twin lost; forwarded requests it holds no record of are applied again; CLAIM goes to every device of a connection and
to the root, and its throttle state to every present device (R226). A device that claims at its start restores its vault first (R277). -/
def State.claimComplete (s : State) : State :=
  let held := s.twin.drivesHeld.length
  let start := s.twin.trigger == 5
  let s := s.unfence 2
  let s := s.modTwin (fun t => { t with
    inSync := false
    handover := false
    claims := insertKey s.vault (max t.claim (s.claimOf s.vault)) t.claims
    claimDoneAt := s.now
    resyncAll := start
    resyncOn := false })
  let top := maxOf s.persist.applied s.persist.seq
  let s := s.modPersist (fun p => { p with
    dirty := p.shadow
    fresh := p.shadow
    seq := top
    horizon := top
    unacked := []
    mirroring := false
    writes := []
    state := if start then 0 else if p.standbyFlush then 3 else 2
    snap := none
    opened := p.standbyFlush })
  let s := if s.persist.standbyFlush then s.modHost (fun h => { h with withhold := addSet 1 h.withhold }) else s
  let s := (s.raise 101 0 (leBytes 8 s.twin.claim ++ leBytes 1 held ++ leBytes 1 0)).count 492 1
  let s := s.placementTakeover
  let peers := (s.hinge.conns.map Conn.peer).foldl (fun l d => addSet d l) []
  let s := s.sendAll peers (.claim s.vault s.twin.claim)
  let s := if s.pool.root = noDev ∨ s.pool.root = s.pool.number ∨ peers.contains s.pool.root then s
    else s.send s.pool.root (.claim s.vault s.twin.claim)
  let s := s.throttleNotice (if s.persist.throttled then 1 else 2)
  let mine := s.host.reqs.filter (fun e => e.dst == s.vault)
  let s := mine.foldl (fun s e =>
    if e.write ∧ s.twin.tags.any (fun t => t.1 == s.pool.number && t.2.1 == e.num) then s.endWrite e.num St.ok
    else s.route e.num 8) s
  if start then s.startRestore else s

/-- A claim goes on when no drive in service is left to hold (R265). -/
def State.claimCheck (s : State) : State :=
  if s.twin.state = 6 ∧ s.twin.recorded ∧ s.drivesUp.all (fun d => s.twin.drivesHeld.contains d) then s.claimComplete else s

/-- SELF_FENCE (R259): both paths silent to T_dead/2 at an active device with a twin that is not absent. -/
def execSelfFence (s : State) : Host.Outcome State Fault Refusal :=
  done (if s.isActive && s.twin.state != 3 && s.bothSilent && !s.twin.absent && decide (s.setting 0x2100 4 / 2 ≤ s.silence) then s.fence 1
    else s)

/-- CLAIM_START (R259, R265): an in-sync standby that has heard nothing for T_dead claims. -/
def execClaimStart (s : State) : Host.Outcome State Fault Refusal :=
  done (if s.twin.state = 4 ∧ s.twin.inSync ∧ !s.twin.withdrawn ∧ s.bothSilent ∧ s.setting 0x2100 4 ≤ s.silence then s.claimBegin 1 else s)

/-- CLAIM_RECORD_WRITTEN (R252, R265 step 2): the claim record stands in the strongbox; every home drive in service is asked for
its reservation report. -/
def execClaimRecordWritten (s : State) : Host.Outcome State Fault Refusal :=
  done (if s.twin.state = 6 ∧ !s.twin.recorded then
      let s := s.modTwin (fun t => { t with recorded := true, claim := t.claimNew })
      let s := s.emits (s.drivesUp.map (fun d => .drive d .resvReport))
      s.claimCheck.advanceWorks
    else s)

/-- RESERVATION_COMPLETE (R265 steps 2 and 3, R267): a drive's report, and then its preempt. -/
def execReservationComplete (d holder : Nat) (r : ResvResult) (s : State) : Host.Outcome State Fault Refusal :=
  done (
    if !(s.twin.state == 6 && s.twin.recorded && s.driveUp d) then s
    else if r = .failed then (s.driveGone d 1 0).claimCheck.advanceWorks
    else if !s.twin.drivesTold.contains d then
      let s := s.modDrive d (fun x => { x with key := holder })
      if s.twin.claimNew < holder then s.claimLost
      else
        let s := s.modTwin (fun t => { t with drivesTold := addSet d t.drivesTold })
        s.emits [.drive d (.resvRegister s.twin.claimNew), .drive d (.resvPreempt s.twin.claimNew holder)]
    else if r = .conflict then (s.count (230 + 8 * d) 1).claimLost
    else
      let s := s.modDrive d (fun x => { x with key := s.twin.claimNew })
      (s.modTwin (fun t => { t with drivesHeld := addSet d t.drivesHeld })).claimCheck.advanceWorks)

/-- CLAIM_LIMIT_EXPIRY (R265): a claim not complete within half the re-claim delay is lost. -/
def execClaimLimitExpiry (s : State) : Host.Outcome State Fault Refusal :=
  done (if s.twin.state = 6 ∧ s.elapsed s.twin.claimAt (s.setting 0x2100 6 / 2) then s.claimLost else s)

/-- TWIN_LOST (R263, R264): a mirror record unacknowledged for T_lost, or an absent twin and silence to T_lost. -/
def execTwinLost (s : State) : Host.Outcome State Fault Refusal :=
  let t := s.setting 0x2100 5
  let late := s.persist.unacked.any (fun r => s.elapsed r.since t)
  done (
    if s.twin.state = 1 ∧ (late ∨ (s.bothSilent ∧ s.twin.absent ∧ t ≤ s.silence)) then s.loseTwin 0
    else if s.twin.state = 2 ∧ late then s.stopResync
    else s)

/-- IN_SYNC_TIMEOUT (R262): a standby that hears the active device without its records, or whose records its horizon does not
cover, leaves in sync. -/
def execInSyncTimeout (s : State) : Host.Outcome State Fault Refusal :=
  let t := s.setting 0x2100 5 / 2
  done (
    if s.twin.state = 4 ∧ s.twin.hearing ∧
        ((s.elapsed s.twin.lastRec t ∧ s.elapsed s.twin.lastFrame t) ∨ s.twin.recs.any (fun r => s.elapsed r.2 t)) then
      s.modTwin (fun x => { x with state := 5, inSync := false })
    else s)

/-- WATCHDOG_REFRESH (R258). -/
def execWatchdogRefresh (s : State) : Host.Outcome State Fault Refusal := done (s.modTwin (fun t => { t with watchdog := s.now }))

/-- WATCHDOG_EXPIRY (R258): T_dead/4 without a refresh: the latch is set, the device is Withdrawn and not in sync, source 109. -/
def execWatchdogExpiry (s : State) : Host.Outcome State Fault Refusal :=
  done (if s.twin.withdrawn || !s.elapsed s.twin.watchdog (s.setting 0x2100 4 / 4) then s
    else
      let s := s.modTwin (fun t => { t with withdrawn := true, inSync := false })
      (s.fence 2).raise 109 0 (leBytes 8 s.twin.watchdog))

/-- What a vault's new active device asks of this one's moves and copies (R181, R186): the creations towards it end, and a commit it may not have is
sent again. -/
def State.vaultClaimed (s : State) (v : Nat) : State :=
  if v = s.vault ∨ !s.serves then s
  else
    let s := s.copyFailures v
    (s.place.migs.filter (fun m => m.phase == 4 && (m.dst == v || s.dirVault m.key == v) && !s.isReloc m)).foldl (fun s m => s.sendCommit m) s

/-- CLAIM frame (R268): the claim table takes it, and outstanding requests, moves and copies follow it. -/
def execClaimFrame (h : Hdr) (vault claim : Nat) (s : State) : Host.Outcome State Fault Refusal :=
  let fresh := decide (s.claimOf vault < claim)
  done (s.onFrame h (.claim vault claim) (fun s =>
    let s := s.learnClaim vault claim
    (if fresh then s.vaultClaimed vault else s).advanceWorks))

/-- RECLAIM_DELAY_EXPIRY (R269, R277): a fenced device's one attempt to claim again, while its own key still holds every drive it
reaches; or a starting device's claim over an absent twin. -/
def execReclaimDelayExpiry (keysOwn : Bool) (s : State) : Host.Outcome State Fault Refusal :=
  done (
    if s.twin.withdrawn || s.twin.reclaimed then s
    else if s.twin.state = 7 ∧ keysOwn ∧ s.setting 0x2100 4 + s.setting 0x2100 6 ≤ s.silence then
      let s := s.modPersist (fun p => { p with shadow := p.dirty, applied := [p.seq, p.seq] })
      (s.modTwin (fun t => { t with reclaimed := true })).claimBegin 4
    else if s.twin.state = 5 ∧ s.twin.absent ∧ !keysOwn ∧ s.setting 0x2100 6 ≤ s.silence then
      (s.modTwin (fun t => { t with reclaimed := true })).claimBegin 5
    else s)

/-! ### Handover (R271) -/

/-- HANDOVER (R271): refused with BUSY unless the device is Active and its standby in sync. -/
def execHandover (rq : Req) (tag : Nat) (s : State) : Host.Outcome State Fault Refusal :=
  done (s.writeNum rq tag 0x2100 8 1 1 (fun s =>
    if s.twin.state = 1 ∧ (s.twin.peer.map Beat.inSync) = some true then
      (s.modTwin (fun t => { t with state := 9, handAt := s.now }), St.ok)
    else (s, St.busy)))

/-- HANDOVER_DRAINED (R271 steps 1 to 3): every accepted write is twin-safe and every home write done: the latch is set, and the
frames carry Handover. -/
def execHandoverDrained (s : State) : Host.Outcome State Fault Refusal :=
  done (if s.twin.state = 9 ∧ !s.twin.latch ∧ s.persist.writes = [] ∧ s.persist.waitAdmit = [] ∧ s.persist.home = [] ∧ s.persist.unacked = [] then
      let s := s.modTwin (fun t => { t with latch := true, cause := 5, handover := true })
      (s.raise 99 5 (leBytes 1 5 ++ leBytes 8 s.silence ++ leBytes 8 s.twin.claim)).count 493 1
    else s)

/-- HANDOVER_HOLD_EXPIRY (R271): a standby that has not reached the preempt abandons its claim; the former active device takes the
role back with a number above any it has seen, TIMEOUT. -/
def execHandoverHoldExpiry (s : State) : Host.Outcome State Fault Refusal :=
  let t := s.setting 0x2100 9
  done (
    if s.twin.state = 9 ∧ s.elapsed s.twin.handAt t then
      let k := s.nextClaim
      let s := (s.unfence 1).modTwin (fun x => { x with
        claim := k
        handover := false
        handStatus := St.timeout
        claims := insertKey s.vault (max k (s.claimOf s.vault)) x.claims })
      let s := s.emits (s.drivesUp.flatMap (fun d => [.drive d (.resvRegister k), .drive d (.resvPreempt k (s.drive d).key)]))
      let s := s.drivesUp.foldl (fun s d => s.modDrive d (fun x => { x with key := k })) s
      let peers := (s.hinge.conns.map Conn.peer).foldl (fun l d => addSet d l) []
      ((s.sendAll peers (.claim s.vault k)).raise 105 1 (leBytes 1 St.timeout ++ leBytes 8 (s.now - s.twin.handAt))).afterHorizon
    else if s.twin.state = 6 ∧ s.twin.trigger = 3 ∧ s.twin.drivesTold = [] ∧ s.elapsed s.twin.claimAt t then
      s.modTwin (fun x => { x with state := 4 })
    else s)

/-! ### Resynchronisation (R273 to R275) -/

/-- The vault's metadata area as it is sent to a returning device (R274), entry by entry, with the dirty bitmap. -/
def State.metaImage (s : State) : List MetaUpd :=
  let p := s.place
  p.slots.map (fun e => .slot e.1 (some e.2) (p.spare.contains e.1)) ++ (p.dir.filter (fun e => !e.2.unheld)).map (fun e => .dir (e.2.image e.1)) ++
    p.tombs.map .tomb ++ p.migIns.map (fun m => .migIn { key := m.key, slot := m.slot, src := m.src, sslot := m.sslot }) ++
    p.migs.map (fun m => .move { m.rec_ with phase := min m.phase 4 }) ++ p.copyOuts.map (fun c => .copy c.rec_) ++ p.hints.map (fun e => .hints e.2) ++
    s.persist.arrivals.map .arrival ++ s.ecc.list.map .poison ++
    (slotsOf s.persist.dirty).map (fun x => .dirty (s.persist.dirty.filter (fun g => g / 512 == x)))

/-- The META frames of a list of entries, 32 a frame, from entry `off` on. -/
def metaFrames (us : List MetaUpd) (off fuel : Nat) : List FBody :=
  match fuel with
  | 0 => []
  | fuel + 1 =>
    if us.length ≤ 32 then [.metaArea 0 off [] us] else .metaArea 0 off [] (us.take 32) :: metaFrames (us.drop 32) (off + 32) fuel

/-- Resync starts (R274): the streams reopen, the metadata area goes out, source 103. It is delta where the twin's frames show
that it kept what it had applied and this device's marks reach back to it, and full otherwise (R273; log entry 35). -/
def State.startResync (s : State) : State :=
  match s.twin.peer with
  | none => s
  | some b =>
    if s.twin.state ≠ 2 ∨ s.twin.latch ∨ s.twin.resyncOn ∨ b.state ≠ 5 then s
    else
      let full := b.horizon == 0 || s.twin.resyncAll
      let all := s.homedSlots.flatMap (fun e => (List.range 512).map (slotGran e.1))
      let s := s.modTwin (fun t => { t with
        resync := if full then all.foldl (fun l g => addSet g l) t.resync else t.resync
        resyncMode := if full then 2 else 1
        resyncSent := 0
        resyncOn := true
        resyncLast := s.persist.seq
        resyncAt := s.now })
      let s := s.modPersist (fun p => { p with mirroring := true })
      let s := s.raise 103 0 (leBytes 1 s.twin.resyncMode ++ leBytes 8 s.twin.resync.length)
      let us := s.metaImage
      (match s.streamPort 0 with
        | some p => (metaFrames us 0 (us.length + 1)).foldl (fun (s : State) b => s.sendOn s.twinDev p b) s
        | none => s).resyncCheck

/-- RESYNC_START (R274): automatic, under start policy 0. -/
def execResyncStart (s : State) : Host.Outcome State Fault Refusal :=
  done (if s.setting 0x2120 4 = 0 then s.startResync.afterHorizon else s)

/-- RESYNC_GRANULE_SEND (R274 step 3): one marked granule. -/
def execResyncGranuleSend (slot granule : Nat) (s : State) : Host.Outcome State Fault Refusal :=
  let g := slotGran slot granule
  done (
    if s.twin.state = 2 ∧ s.twin.resyncOn ∧ s.twin.resync.contains g ∧ s.chanServes (slotChan slot) ∧
        !s.persist.unacked.any (fun r => r.sync && slotGran r.run.slot (r.run.line / 64) == g) then
      let s := s.sendGranule g true
      (s.modTwin (fun t => { t with resyncSent := t.resyncSent + 1, resyncLast := s.persist.seq })).count 494 1
    else s)

/-- The metadata structures of a returning device, emptied before the active device's take their place (R274). -/
def State.emptyMeta (s : State) : State :=
  let s := s.modPlace (fun p => { p with
    slots := [], spare := [], dir := [], cooling := [], tombs := [], migIns := [], migs := [], copyOuts := [], copyIns := [], hints := [] })
  (s.modPersist (fun p => { p with arrivals := [], shadow := [] })).modEcc (fun e => { e with list := [] })

/-- META (R274 step 2): the metadata area of the active device, whose first frame empties the returning device's own; with it comes the dirty
bitmap, which is the shadow set from then on. A part that is no entry goes to its lines, and an offset beyond the area does not exist. `m`: its lines, and
its entries. Which part holds which structure is left open: log entry 33. -/
def execMetaFrame (h : Hdr) (part off : Nat) (m : List Line × List MetaUpd) (s : State) : Host.Outcome State Fault Refusal :=
  let (s, ok) := s.rx h (.metaArea part off m.1 m.2) false
  if !ok || s.twin.state != 5 then done s
  else if 32768 * metaExtents s.extents < off + m.1.length then .fault .slotOutsideVault
  else
    let base := 32768 * (s.extents - metaExtents s.extents) + off
    let lines := s.clear h 2 m.1
    let s := (List.range lines.length).foldl (fun s i => s.putLine (base + i) (nth lines i 0) (h.poison.testBit i)) s
    let s := if off = 0 ∧ lines = [] then s.emptyMeta else s
    done ((m.2.foldl (fun s u => s.applyUpd u) s).ranksGone)

end Sys2Proof.Machine
end

