-- ==== Sys2Proof/Machine/Host.lean ====
section
/-! DEFINITION. Host ports, sessions and the accesses of hosts (R84 to R116). -/

namespace Sys2Proof.Machine

/-! ### Ports (R84, R86, R87) -/

/-- Whether a port exists under the bifurcation in force (R84). -/
def State.portExists (s : State) (p : Nat) : Bool := decide (p < 8) && (s.host.bifur == 0 || p % 2 == 0)

/-- The lanes of a port (R84). -/
def State.portLanes (s : State) : Nat := if s.host.bifur = 0 then 8 else 16

/-- The sessions bound to a port (R88). -/
def State.portSessions (s : State) (p : Nat) : List Nat :=
  (s.host.sess.filter (fun e => e.2.state != 0 && s.setting (0x4000 + e.1) 3 == p)).map Prod.fst

/-- PORT_LINK_TRAINED (R86): in service at 64 GT/s as CXL 3.1 or at 32 GT/s as CXL 2.0, at half width or more; else held out. In global
fabric-attached memory mode the port then has the PBR ID that the fabric manager assigns it, a free value (R92, log entry 94). -/
def execPortLinkTrained (p speed width : Nat) (s : State) : Host.Outcome State Fault Refusal :=
  let was := (s.hostPort p).link
  done (
    if !s.portExists p ∨ was = 4 ∨ was = 2 ∨ s.power.state ≠ 2 ∨ s.power.inReset then s
    else
      let speed := min speed (s.setting (0x3010 + p) 3)
      let ok : Bool := (speed == 32 || speed == 64) && decide (s.portLanes ≤ 2 * width)
      if !ok then (s.modPort p (fun x => { x with link := 3 })).hostPortEvent p 2
      else
        let s := s.modPort p (fun x => { x with
          link := 2
          speed := speed
          width := width
          protocol := if speed = 64 then 3 else 2
          lds := s.setting (0x3010 + p) 8
          pbr := if s.host.mode = 1 then Config.pbrOf p % 0xFFF else 0xFFFF })
        let s := if width < s.portLanes then s.hostPortEvent p 3 else if was = 1 then s.hostPortEvent p 1 else s
        let lds := (List.range 16).foldl (fun s ld => s.busBack p ld) s
        lds.advanceWorks)

/-- PORT_LINK_DOWN (R87). -/
def execPortLinkDown (p : Nat) (s : State) : Host.Outcome State Fault Refusal :=
  done (if (s.hostPort p).link = 2 ∨ (s.hostPort p).link = 3 then (s.portGone p 0).hostPortEvent p 0 else s)

/-- PORT_RETRAIN (R123). -/
def execPortRetrain (rq : Req) (tag p : Nat) (s : State) : Host.Outcome State Fault Refusal :=
  done (s.writeNum rq tag (0x3010 + p) 7 1 1 (fun s =>
    if !s.portExists p then (s, St.badRange)
    else if (s.hostPort p).link = 4 then (s, St.ok)
    else ((s.portGone p 1).modPort p (fun x => { x with retrains := satAdd x.retrains 1 0xFFFFFFFF }), St.ok)))

/-- PORT_ENABLE_WRITE (R123): refused with BUSY while a session is bound to the port. -/
def execPortEnableWrite (rq : Req) (tag p : Nat) (on : Bool) (s : State) : Host.Outcome State Fault Refusal :=
  done (s.writeNum rq tag (0x3010 + p) 6 1 (b2n on) (fun s =>
    if !s.portExists p then (s, St.badRange)
    else if s.portSessions p ≠ [] then (s, St.busy)
    else
      let s := s.setSetting (0x3010 + p) 6 (b2n on)
      if on then (if (s.hostPort p).link = 4 then s.modPort p (fun x => { x with link := 0 }) else s, St.ok)
      else if (s.hostPort p).link = 2 ∨ (s.hostPort p).link = 3 then ((s.portGone p 4).hostPortEvent p 0, St.ok)
      else (s.portGone p 4, St.ok)))

/-- CXL_PERST (R531): only this port's link is reset; ignored while the device is not running. -/
def execCxlPerst (p : Nat) (s : State) : Host.Outcome State Fault Refusal :=
  done (if s.portExists p ∧ s.power.state = 2 ∧ (s.hostPort p).link ≠ 4 then
      let up := (s.hostPort p).link == 2 || (s.hostPort p).link == 3
      let s := s.portGone p 0
      if up then s.hostPortEvent p 0 else s
    else s)

/-! ### HDM decoders (R89, R93) -/

/-- HDM_DECODER_COMMIT (R93): ways 1, 2, 4, 8 or 16 and a granularity of 256 bytes to 16 KiB (R89); a decoder that is not committed claims
nothing. -/
def execHdmDecoderCommit (p ld i base size ways gran dpaBase : Nat) (commit : Bool) (s : State) : Host.Outcome State Fault Refusal :=
  let ok : Bool := [1, 2, 4, 8, 16].contains ways && [256, 512, 1024, 2048, 4096, 8192, 16384].contains gran && decide (0 < size)
  done (s.modLdev p ld (fun d => { d with
    decoders := if commit && ok then insertKey i { base := base, size := size, ways := ways, gran := gran, dpa := dpaBase } d.decoders else eraseKey i d.decoders }))

/-- The DPA an HDM decoder gives a host address: the device's share of each round of the interleave. -/
def Decoder.toDpa (d : Decoder) (hpa : Nat) : Nat :=
  let off := hpa - d.base
  d.dpa + off / (d.gran * d.ways) * d.gran + off % d.gran

/-- The address that session lookup sees (R93): the DPA, or the fabric address itself; none where no decoder claims it. -/
def State.claimed (s : State) (p host hpa : Nat) : Option Nat :=
  if s.host.mode = 1 then some hpa
  else ((s.ldev p host).decoders.find? (fun e => decide (e.2.base ≤ hpa ∧ hpa < e.2.base + e.2.size))).map (fun e => e.2.toDpa hpa)

/-! ### Session lookup (R99, R100) -/

/-- Whether a session is bound to a logical device, or to a PBR ID (R94). -/
def State.sessHost (s : State) (n p host : Nat) : Bool :=
  s.setting (0x4000 + n) 4 == host && (s.host.mode == 1 || s.setting (0x4000 + n) 3 == p)

/-- The bound session that maps an address of a host (R99). -/
def State.sessAt (s : State) (p host dpa : Nat) : Option Nat :=
  (s.host.sess.find? (fun e => e.2.state != 0 && s.sessHost e.1 p host && s.inWindow e.1 dpa 64)).map Prod.fst

/-- Whether a session grants an access (R100). -/
def State.sessGrants (s : State) (n : Nat) (write : Bool) : Bool :=
  (s.sess n).state != 3 && !(s.sess n).dead && decide ((if write then 2 else 1) ≤ s.setting (0x4000 + n) 9)

/-- What a host access carries into a sample (R511): its port, its session and its pool address. -/
def State.hostTag (s : State) (p dpa : Nat) (n : Option Nat) : ReqTag :=
  match n with
  | some k => { src := p, sess := k, addr := s.poolAt k dpa }
  | none => { src := p }

/-- An access is refused (R100): source 17+4p with cause 0, the counters, and a General Media record. -/
def State.accessRefused (s : State) (p host dpa : Nat) (n : Option Nat) : State :=
  let s := match n with | some n => s.modSess n (fun x => { x with refused := satAdd x.refused 1 0xFFFFFFFF }) | none => s
  let s := (s.countFor (131 + 8 * p) 1 (s.hostTag p dpa n)).raise (17 + 4 * p) 0 (leBytes 2 (n.getD 0xFFFF) ++ leBytes 2 host ++ leBytes 8 dpa)
  s.logEvent p (s.hostLd host) 0 dpa 1

/-- Whether a request reaches this device from a host port now: the link in service and the credits open. -/
def State.hostOpen (s : State) (p : Nat) : Bool := (s.hostPort p).link == 2 && s.host.creditsOpen && s.admits

/-- The next request number. -/
def State.nextNum (s : State) : Nat := s.host.nextNum

/-- A request accepted from a host port takes its number and goes on its way (R99). -/
def State.acceptReq (s : State) (e : EReq) : State :=
  let n := s.nextNum
  ((s.modHost (fun h => { h with nextNum := (n + 1) % 2 ^ 48 })).startReq { e with num := n }).advanceWorks

/-- HOST_READ (R99, R100, R107): a CXL.mem read. -/
def execHostRead (p host hpa tag : Nat) (s : State) : Host.Outcome State Fault Refusal :=
  done (
    if !s.hostOpen p then s
    else
      let at_ := s.claimed p host (hpa / 64 * 64)
      let s := s.countFor (128 + 8 * p) 1 (s.hostTag p (at_.getD 0) (at_.bind (s.sessAt p host)))
      match at_ with
      | none => (s.emit (.readDone p host tag s.freeLine false)).tick
      | some dpa =>
        let n := s.sessAt p host dpa
        match n with
        | some k =>
          if s.sessGrants k false then
            let pa := s.poolAt k dpa
            let s := s.modSess k (fun x => { x with reads := (x.reads + 1) % 2 ^ 64 })
            s.acceptReq { num := 0, write := false, port := p, host := host, tag := tag, sess := k, key := pa / extentBytes, off := pa % extentBytes, since := s.now, dpa := dpa, binding := (s.sess k).binding }
          else (s.accessRefused p host dpa n).emit (.readDone p host tag 0 true)
        | none => (s.accessRefused p host dpa n).emit (.readDone p host tag 0 true))

/-! ### Writes, and writes held (R108, R109) -/

/-- The vault whose dirty set a write at a DPA would raise, as far as this device knows: a home slot here, the translation cache, or the directory
where this vault holds the key's entry (log entry 68). -/
def State.writeVault (s : State) (p host dpa : Nat) : Option Nat :=
  match s.sessAt p host dpa with
  | some n =>
    let key := s.poolAt n dpa / extentBytes
    if (s.homeSlot key).isSome then some s.vault
    else match s.tcacheFind key with
      | some t => some t.vault
      | none => if s.dirVault key = s.vault ∧ s.serves ∧ 2 ≤ (s.dirEnt key).state then some (s.dirEnt key).home else none
  | none => none

/-- Whether request-with-data credits are withheld from a write (R108, R226, R228, R341). -/
def State.withheld (s : State) (p host dpa : Nat) : Bool :=
  s.host.withhold != [] || !s.host.creditsOpen || !s.admits ||
  (match s.writeVault p host dpa with
    | some v => if v = s.vault ∧ s.serves then s.persist.throttled else s.persist.peersThrottled.contains v
    | none => false)

/-- A write accepted (R100, R203): `e.off` is its DPA. Refused it is discarded and completed; a mailbox command's is refused by its command. -/
def State.acceptWrite (s : State) (e : EReq) : State :=
  let dpa := e.off
  let p := e.port
  let host := e.host
  let n := s.sessAt p host dpa
  let refused := fun (_ : Unit) =>
    match e.mailbox with
    | some _ => s.modHost (fun h => { h with nextNum := (h.nextNum + 1) % 2 ^ 48, reqs := h.reqs ++ [{ e with num := h.nextNum, outcome := some 1 }] })
    | none => (s.accessRefused p host dpa n).emit (.writeDone p host e.tag)
  match n with
  | some k =>
    if s.sessGrants k true then
      let pa := s.poolAt k dpa
      let s := s.modSess k (fun x => { x with writes := (x.writes + 1) % 2 ^ 64 })
      let s := if e.poison ∧ e.mailbox.isNone then
          s.raise (18 + 4 * p) 1 (leBytes 2 k ++ leBytes 8 dpa ++ leBytes 8 pa) else s
      let s := s.acceptReq { e with sess := k, key := pa / extentBytes, off := pa % extentBytes, cls := (s.sess k).eff, since := s.now, dpa := dpa, binding := (s.sess k).binding }
      if s.host.mode = 1 ∧ e.mailbox.isNone then (s.lineRings host dpa e.line e.be).advanceWorks else s
    else refused ()
  | none => refused ()

/-- A write that arrives: held in arrival order while credits are withheld from it or from a write ahead of it (R108). -/
def State.arriveWrite (s : State) (e : EReq) : State :=
  if s.withheld e.port e.host e.off ∨ s.host.held.any (fun x => x.port == e.port) then
    s.modHost (fun h => { h with held := h.held ++ [{ e with since := s.now }] })
  else s.acceptWrite e

/-- HOST_WRITE (R99, R100, R104, R111, R203). A write that no HDM decoder claims is completed and discarded, as a refused one is: R93 leaves it to
CXL; DESIGN CHOICE, log entry 69. -/
def execHostWrite (p host hpa : Nat) (line : Line) (be : BitVec 64) (poison : Bool) (tag : Nat) (s : State) : Host.Outcome State Fault Refusal :=
  done (
    if (s.hostPort p).link ≠ 2 then s
    else
      let at_ := s.claimed p host (hpa / 64 * 64)
      let t := s.hostTag p (at_.getD 0) (at_.bind (s.sessAt p host))
      let s := s.countFor (129 + 8 * p) 1 t
      let s := if be = BitVec.allOnes 64 then s else s.countFor (130 + 8 * p) 1 t
      match at_ with
      | none => s.emit (.writeDone p host tag)
      | some dpa =>
        s.arriveWrite { num := 0, write := true, port := p, host := host, tag := tag, sess := 0xFFFF, key := 0, off := dpa, line := line, be := be, poison := poison })

/-- HELD_WRITE_ADMITTED (R108): the write held longest at a port is admitted once nothing withholds its credits; a hold past the
threshold counts in 135+8p (R109). -/
def execHeldWriteAdmitted (p : Nat) (s : State) : Host.Outcome State Fault Refusal :=
  done (match s.host.held.find? (fun e => e.port == p) with
    | none => s
    | some e =>
      if s.withheld p e.host e.off then s
      else
        let s := s.modHost (fun h => { h with held := h.held.eraseP (fun x => x.port == p) })
        let s := if s.setting 0x3000 4 < s.now - e.since then s.count (135 + 8 * p) ((s.now - e.since) / 125) else s
        s.acceptWrite { e with noticed := false })

/-- WRITE_HOLD_THRESHOLD (R109): source 19+4p once a hold, with cause 0. -/
def execWriteHoldThreshold (p : Nat) (s : State) : Host.Outcome State Fault Refusal :=
  let late := s.host.held.filter (fun e => e.port == p && !e.noticed && decide (s.setting 0x3000 4 < s.now - e.since))
  let s1 := s.modHost (fun h => { h with held := h.held.map (fun e => if e.port = p ∧ s.setting 0x3000 4 < s.now - e.since then { e with noticed := true } else e) })
  done (late.foldl (fun s e =>
    let n := (s.sessAt p e.host e.off).getD 0xFFFF
    s.raise (19 + 4 * p) 0 (leBytes 2 n ++ leBytes 5 (if n = 0xFFFF then 0 else s.poolAt n e.off / extentBytes) ++ leBytes 8 (s.now - e.since))) s1)

/-- Whether a request's frame has reached the vault it was sent to, as far as this device can tell (R101): it was handed to a connection, and
none of the connections of that peer holds it unsent or unacknowledged. -/
def State.delivered (s : State) (e : EReq) : Bool :=
  e.sentTo != noDev && !s.hinge.conns.any (fun c => c.peer == e.sentTo && (c.leftovers.flatten.any (fun b =>
    match b with
    | .read q => q.entry == s.pool.number && q.num == e.num
    | .write q _ _ => q.entry == s.pool.number && q.num == e.num
    | .lookup q _ => q.entry == s.pool.number && q.num == e.num
    | .piece q _ _ _ => q.entry == s.pool.number && q.num == e.num
    | _ => false)))

/-- TRANSLATION_TIME_LIMIT (R101, R542): a request whose translation has not reached its home in time. A read completes with poison, a write is neither
applied nor completed, a mailbox write was not applied, and a piece ends with TIMEOUT. -/
def execTranslationTimeLimit (num : Nat) (s : State) : Host.Outcome State Fault Refusal :=
  done (match s.reqOf num with
    | none => s
    | some e =>
      let lost : Bool := e.lookup || (e.dst != 0xFFFF && !(e.dst == s.vault && s.serves) && (!s.vaultPresent e.dst || !s.delivered e))
      if !lost || !s.elapsed e.since (s.setting 0x3000 5) || e.outcome.isSome then s
      else
        let s := if e.port < noPort then s.raise (19 + 4 * e.port) 1 (leBytes 2 e.sess ++ leBytes 5 e.key ++ e.tried.flatMap (leBytes 2)) else s
        match e.work with
        | some w =>
          let s := s.dropReq num
          let s := if e.locate then s.workEnd w St.timeout 0 0 else s.modWork w (fun x => { x with
            outs := x.outs.filter (fun o => o.1 != num)
            bad := x.bad ++ [(e.ix, St.timeout)] })
          s.advanceWorks
        | none =>
          if e.mailbox.isSome then s.modReq num (fun x => { x with outcome := some 1, lookup := false })
          else if e.write then s.dropReq num
          else
            let s := s.dropReq num
            if e.silent then s else (s.emit (.readDone e.port e.host e.tag s.freeLine true)).tick)

/-! ### Global persistent flush (R106) -/

/-- GPF_PHASE1 (R106): answered at once. -/
def execGpfPhase1 (p : Nat) (s : State) : Host.Outcome State Fault Refusal :=
  done (if (s.hostPort p).link = 2 then s.emit (.gpfDone p 1) else s)

/-- GPF_PHASE2 (R106): it waits for every write accepted on the port so far. -/
def execGpfPhase2 (p : Nat) (s : State) : Host.Outcome State Fault Refusal :=
  done (if (s.hostPort p).link = 2 then
      let ns := (s.host.reqs.filter (fun e => e.write && e.port == p && e.work.isNone && e.mailbox.isNone && e.port != noPort)).map EReq.num
      s.modHost (fun h => { h with gpf := h.gpf ++ [{ port := p, nums := ns }] })
    else s)

/-- GPF_PHASE2_ANSWER (R106). -/
def execGpfPhase2Answer (p : Nat) (s : State) : Host.Outcome State Fault Refusal :=
  done (match s.host.gpf.find? (fun g => g.port == p) with
    | some g =>
      if g.nums = [] then (s.modHost (fun h => { h with gpf := h.gpf.eraseP (fun x => x.port == p) })).emit (.gpfDone p 2) else s
    | none => s)

/-! ### Binding and unbinding (R95 to R98) -/

/-- The effective class a binding resolves (R40). -/
def State.classOf (s : State) (n : Nat) : Nat :=
  let c := s.setting (0x4000 + n) 0x0B
  if c = 0 then (s.vol (s.setting (0x4000 + n) 7)).cls else c

/-- A session is bound (R95): its length in force, its class, its counts from zero. -/
def State.bindSession (s : State) (n : Nat) : State :=
  s.modSess n (fun x => { x with
    state := 1
    acc := s.setting (0x4000 + n) 6
    eff := s.classOf n
    reads := 0
    writes := 0
    refused := 0
    poisons := 0
    dead := false
    rebind := false
    release := none
    binding := x.binding + 1 })

/-- A session starts to unbind (R98): new accesses are refused; a mailbox write of it that has no home yet is not applied (R542). -/
def State.unbindSession (s : State) (n : Nat) (waiter : List (Req × Nat)) (rebind : Bool) : State :=
  let s := s.modSess n (fun x => { x with state := 3, waiter := x.waiter ++ waiter, rebind := rebind, release := none })
  s.modHost (fun h => { h with reqs := h.reqs.map (fun e =>
    if e.sess = n ∧ e.mailbox.isSome ∧ e.lookup then { e with outcome := some (e.outcome.getD 1), lookup := false } else e) })

/-- Whether a piece in progress uses a session, as its A or its B (R98, R149). -/
def State.sessPieces (s : State) (n : Nat) : Bool := s.rings.works.any (fun w => w.sess == n || w.sessB == n)

/-- Writes a session has accepted that have not completed (R98), its rings' pieces among them. -/
def State.sessWrites (s : State) (n : Nat) : Bool :=
  s.host.reqs.any (fun e => e.write && e.sess == n && e.outcome.isNone) || s.sessPieces n

/-- A commit that waited for sessions to unbind is answered once the last of them is free (R98). -/
def State.answerWaiter (s : State) (w : Req × Nat) : State :=
  if s.host.sess.any (fun e => e.2.waiter.contains w) then s else s.respond w.1 (writeResp w.2 0x1F00 1 St.ok)

/-- SESSION_UNBIND_DONE (R96, R98): every write the session accepted has completed; it is free, or bound anew. -/
def execSessionUnbindDone (n : Nat) (s : State) : Host.Outcome State Fault Refusal :=
  let x := s.sess n
  done (if x.state ≠ 3 ∨ s.sessWrites n then s
    else
      let s := if x.rebind then s.bindSession n else s.modSess n (fun y => { y with state := 0, acc := 0, eff := 0 })
      (x.waiter.foldl (fun s w => s.answerWaiter w) (s.modSess n (fun y => { y with waiter := [] }))).sendCensus)

/-! ### Dynamic capacity (R115, R116) -/

/-- An offer ends without being taken (R115): the length in force stays; source 17+4p with cause 2. -/
def State.offerEnds (s : State) (n : Nat) : State :=
  let x := s.sess n
  let s := (s.setSetting (0x4000 + n) 6 x.acc).modSess n (fun y => { y with state := 1 })
  s.raise (17 + 4 * s.setting (0x4000 + n) 3) 2 (leBytes 2 n ++ leBytes 2 (s.setting (0x4000 + n) 4) ++ leBytes 8 (s.setting (0x4000 + n) 5 + x.acc))

/-- CAPACITY_OFFER_TIMEOUT (R115). -/
def execCapacityOfferTimeout (n : Nat) (s : State) : Host.Outcome State Fault Refusal :=
  done (if (s.sess n).state = 2 ∧ (s.sess n).offerAt ≤ s.now then s.offerEnds n else s)

/-- Whether an accepted write of a session lies at or beyond a length of its window (R116). -/
def State.writesBeyond (s : State) (n len : Nat) : Bool :=
  s.host.reqs.any (fun e => e.write && e.sess == n && decide (s.setting (0x4000 + n) 5 + len ≤ e.dpa) && !e.silent) ||
  s.sessPieces n

/-- RELEASE_CAPACITY_DONE (R116): every accepted write in the range has completed; the window shrinks and the command is answered. -/
def execReleaseCapacityDone (n : Nat) (s : State) : Host.Outcome State Fault Refusal :=
  done (match (s.sess n).release with
    | none => s
    | some len =>
      if s.writesBeyond n len then s
      else
        let s := (s.setSetting (0x4000 + n) 6 len).modSess n (fun x => { x with acc := len, state := 1, release := none })
        let p := s.setting (0x4000 + n) 3
        let ld := s.setting (0x4000 + n) 4
        (s.emit (.mailbox p ld 0x4803 0 [])).msix p ld 0)

end Sys2Proof.Machine
end

