-- ==== Sys2Proof/Machine/Steward.lean ====
section
/-! DEFINITION. The steward engines: traps and restarts, firmware images, and the rolling update (R452 to R461). -/

namespace Sys2Proof.Machine

/-! ### Engines and clusters (R452 to R454) -/

/-- An engine. -/
def State.engine (s : State) (e : Nat) : Engine := getD s.steward.engines e {}

/-- An engine changed. -/
def State.modEngine (s : State) (e : Nat) (f : Engine → Engine) : State :=
  s.modSteward (fun w => { w with engines := modD w.engines e {} f })

/-- The engines of a cluster in a state. -/
def State.setEngines (s : State) (c st : Nat) : State :=
  (List.range 8).foldl (fun s i => s.modEngine (8 * c + i) (fun x => if x.state = 2 then x else { x with state := st })) s

/-- An image slot. -/
def State.image (s : State) (i : Nat) : Image := nth s.steward.images i {}

/-- An image's version: of the image of manufacture, the part's own (R456). -/
def Image.verNow (i : Image) : Nat := if i.factory then Config.imageFactory 0 else i.version

/-- An image's interface version. -/
def Image.ifaceNow (i : Image) : Nat := if i.factory then Config.imageFactory 1 else i.iface

/-- An image's size. -/
def Image.sizeNow (i : Image) : Nat := if i.factory then Config.imageFactory 2 else i.size

/-- An image slot changed. -/
def State.modImage (s : State) (i : Nat) (f : Image → Image) : State :=
  s.modSteward (fun w => { w with images := modNth w.images i f })

/-- The slot that does not run (R457, R459). -/
def State.otherSlot (s : State) : Nat := 1 - s.steward.running

/-- Source 295+c (R471): cluster, versions, status. -/
def State.clusterEvent (s : State) (c cause status : Nat) : State :=
  s.raise (295 + c) cause (leBytes 1 c ++ leBytes 4 (s.image s.steward.running).verNow ++ leBytes 4 (s.image s.otherSlot).verNow ++ leBytes 1 status)

/-- A cluster with fewer than 4 running engines is Failed (R454). -/
def State.clusterCheck (s : State) (c : Nat) : State :=
  let n := ((List.range 8).filter (fun i => s.engineRuns (8 * c + i))).length
  if n < 4 ∧ (s.cluster c).state = 0 then (s.modCluster c (fun k => { k with state := 3 })).clusterEvent c 0 St.internal else s

/-! ### The rolling update (R460, R461) -/

/-- A cluster's update up to its self-test (R460 steps 1 to 4), source 295+c: its roles leave it, its engines halt, its merging buffer drains, its
cache and locks are cleared, and it loads the image of a slot. -/
def State.updateCluster (s : State) (c image : Nat) : State :=
  let s := (s.modSteward (fun w => { w with updating := c })).clusterEvent c 1 St.busy
  let s := (s.setEngines c 4).drainAll c
  s.modCluster c (fun k => { k with
    state := 2
    sets := []
    locked := 0
    lockPend := []
    fills := k.fills.map (fun f => { f with install := false })
    image := image })

/-- A roll ends early (R461): cluster `c`, then every cluster updated before it in reverse order, reload the old image. -/
def State.rollBackFrom (s : State) (c bad : Nat) : State :=
  (s.modSteward (fun w => { w with rollBack := some bad })).updateCluster c s.steward.running

/-- The roll is over with a status. -/
def State.rollEnds (s : State) (status : Nat) : State :=
  s.modSteward (fun w => { w with updating := 0xFF, rollBack := none, rollStop := false, actStatus := status })

/-- A cluster serves again with its image (R460 step 6). -/
def State.clusterServes (s : State) (c : Nat) : State :=
  (s.setEngines c 0).modCluster c (fun k => { k with state := 0, updatedAt := s.now })

/-- ACTIVATE_ROLLING (R460): refused with BUSY as the rule lists, and with BAD_RANGE where the other slot is not Valid (log entry 43). -/
def execActivateRolling (rq : Req) (tag : Nat) (s : State) : Host.Outcome State Fault Refusal :=
  done (s.writeNum rq tag 0x3820 4 1 1 (fun s =>
    let new := s.image s.otherSlot
    let busy := s.steward.updating != 0xFF || new.ifaceNow != (s.image s.steward.running).ifaceNow || s.persist.state == 1 || s.persist.state == 3
      || s.twin.state == 6 || s.twin.state == 9 || (List.range 6).any (fun c => (s.cluster c).state != 0)
    if new.state ≠ 1 then (s, St.badRange)
    else if busy then (s, St.busy)
    else
      let s := s.modSteward (fun w => { w with actStatus := St.busy, rollStop := false })
      (s.updateCluster 0 s.otherSlot, St.ok)))

/-- ACTIVATE_AT_RESET (R459). -/
def execActivateAtReset (rq : Req) (tag : Nat) (s : State) : Host.Outcome State Fault Refusal :=
  done (s.writeNum rq tag 0x3820 4 1 2 (fun s =>
    if (s.image s.otherSlot).state ≠ 1 then (s, St.badRange)
    else if s.steward.updating ≠ 0xFF then (s, St.busy)
    else (((s.modImage s.otherSlot (fun i => { i with active := true })).modImage s.steward.running (fun i => { i with active := false })), St.ok)))

/-- ACTIVATE_ROLLBACK (R459): the slot that is not marked now is marked again, where it holds an image. -/
def execActivateRollback (rq : Req) (tag : Nat) (s : State) : Host.Outcome State Fault Refusal :=
  done (s.writeNum rq tag 0x3820 4 1 3 (fun s =>
    let prev := if (s.image 0).active then 1 else 0
    if s.steward.updating ≠ 0xFF then (s, St.busy)
    else if (s.image prev).state ≠ 1 ∧ (s.image prev).state ≠ 2 then (s, St.badRange)
    else (((s.modImage prev (fun i => { i with active := true })).modImage (1 - prev) (fun i => { i with active := false })), St.ok)))

/-- CLUSTER_UPDATE_DONE (R460, R461): the self-test's result. The roll goes on to the next cluster, completes after the last, stops
where PFAIL_N asked for it, or reloads the old image from this cluster back. -/
def execClusterUpdateDone (passed : Bool) (s : State) : Host.Outcome State Fault Refusal :=
  let c := s.steward.updating
  done (
    if c = 0xFF then s
    else match s.steward.rollBack with
      | some bad =>
        let s := if passed then (s.clusterServes c).clusterEvent c 3 St.ok else (s.modCluster c (fun k => { k with state := 3 })).clusterEvent c 0 St.internal
        if c = 0 then (s.rollEnds St.internal).clusterEvent bad 3 St.internal else s.updateCluster (c - 1) s.steward.running
      | none =>
        if !passed then s.rollBackFrom c c
        else
          let s := (s.clusterServes c).clusterEvent c 2 St.ok
          if s.steward.rollStop then s.rollEnds St.internal
          else if c < 5 then s.updateCluster (c + 1) s.otherSlot
          else
            let new := s.otherSlot
            let s := (s.modImage new (fun i => { i with state := 2, active := true })).modImage s.steward.running (fun i => { i with state := 1, active := false })
            (s.modSteward (fun w => { w with running := new })).rollEnds St.ok)

/-! ### Traps (R454, R461) -/

/-- An engine traps (R454): it stops and reloads; the fourth trap within 10 s halts it. A trap within 1 s of a cluster's roles returning
ends the roll in hand. -/
def State.trapEngine (s : State) (e cause addr : Nat) : State :=
  if !s.engineRuns e then s
  else
    let c := e / 8
    let recent := ((s.engine e).recent.filter (fun t => s.now < t + 10000000000)) ++ [s.now]
    let s := s.modEngine e (fun x => { x with
      state := if 4 ≤ recent.length then 2 else 3
      cause := cause
      traps := satAdd x.traps 1 0xFFFFFFFF
      recent := recent })
    let s := ((s.count (512 + 8 * e + 7) 1).raise (224 + e) cause (leBytes 1 cause ++ leBytes 6 addr)).clusterCheck c
    if s.steward.updating ≠ 0xFF ∧ s.steward.rollBack.isNone ∧ c < s.steward.updating ∧ s.now < (s.cluster c).updatedAt + 1000000000 then
      s.rollBackFrom s.steward.updating c
    else s

/-- ENGINE_TRAP (R454): causes 1 to 4. -/
def execEngineTrap (e cause addr : Nat) (s : State) : Host.Outcome State Fault Refusal := done (s.trapEngine e cause addr)

/-- ENGINE_WATCHDOG_EXPIRY (R454). -/
def execEngineWatchdogExpiry (e : Nat) (s : State) : Host.Outcome State Fault Refusal := done (s.trapEngine e 3 0)

/-- ENGINE_RESTART (R454): a trapped engine has reloaded from the running image. -/
def execEngineRestart (e : Nat) (s : State) : Host.Outcome State Fault Refusal :=
  done (if (s.engine e).state = 3 then s.modEngine e (fun x => { x with state := 0 }) else s)

/-! ### Images (R456, R457) -/

/-- The first segment of an image (R457): the slot that does not run is erased. It is refused while a roll is in progress, and fails in a region that has lost a sector (R487). -/
def State.imageBegin (s : State) : State × Nat :=
  if s.steward.updating ≠ 0xFF then (s, St.busy)
  else if s.regionBad s.otherSlot then (s, St.eraseFail)
  else (s.modImage s.otherSlot (fun i => { i with state := 3, factory := false, version := 0, iface := 0, size := 0 }), St.ok)

/-- A load ends (R457): Valid where every check passes; source 301. -/
def State.imageEnd (s : State) (checksOk programOk : Bool) (version interface size : Nat) : State × Nat :=
  let st := if !programOk then St.programFail else if checksOk then St.ok else St.badDescriptor
  let i := s.otherSlot
  let s := s.modImage i (fun x => if st = St.ok then { x with state := 1, version := version, iface := interface, size := size } else { x with state := 0 })
  (s.raise 301 0 (leBytes 1 i ++ leBytes 1 st), st)

/-- A load that is cut leaves its slot Invalid (R457). -/
def State.imageCut (s : State) : State :=
  if (s.image s.otherSlot).state = 3 then
    (s.modImage s.otherSlot (fun x => { x with state := 0 })).raise 301 0 (leBytes 1 s.otherSlot ++ leBytes 1 St.aborted)
  else s

/-- The roles a cluster holds (R453, 0x3810+c:07): bit k for role k. A role runs at its home while the home serves, else at its
fallback; role 3 runs at both; parked, each at the cluster of the last column. -/
def State.rolesOf (s : State) (c : Nat) : Nat :=
  let table : List (Nat × Nat × Nat × List Nat) :=
    [(1, 0, 5, [0]), (2, 1, 0, [0]), (3, 1, 4, [0, 5]), (4, 2, 3, [5]), (5, 3, 2, [5]), (6, 4, 1, [0]), (7, 3, 0, [0]), (8, 5, 0, [5])]
  let runs := fun (x : Nat × Nat × Nat × List Nat) =>
    if s.power.state = 3 then x.2.2.2.contains c
    else if x.1 = 3 then x.2.1 == c || x.2.2.1 == c
    else (if (s.cluster x.2.1).state = 0 then x.2.1 else x.2.2.1) == c
  ((table.filter runs).map (fun x => 2 ^ x.1)).foldl (· + ·) 0

end Sys2Proof.Machine
end

