-- ==== Sys2Proof/Machine/Mailbox.lean ====
section
/-! DEFINITION. The mailbox of each logical device, the FM API, and poison by command (R91, R117, R118, R419, R542). -/

namespace Sys2Proof.Machine

/-! ### Answers (R117, R122) -/

/-- CXL return codes (PRESUMED, log entry 49): Success. -/
abbrev Ret.ok : Nat := 0
/-- Invalid Input. -/
abbrev Ret.input : Nat := 2
/-- Unsupported. -/
abbrev Ret.unsupported : Nat := 3
/-- Internal Error. -/
abbrev Ret.internal : Nat := 4
/-- Retry Required. -/
abbrev Ret.retry : Nat := 5
/-- Invalid Handle. -/
abbrev Ret.handle : Nat := 0xE
/-- Invalid Physical Address. -/
abbrev Ret.address : Nat := 0xF

/-- Whether a logical device is there (R91, R92): its port in service, and an LD-ID the port presents or the FM-owned one (16). -/
def State.ldThere (s : State) (p ld : Nat) : Bool :=
  (s.hostPort p).link == 2 && (if s.host.mode = 0 then decide (ld < (s.hostPort p).lds) || ld == 16 else ld == 0)

/-- A command's answer, with vector 0 signalled. -/
def State.mbox (s : State) (p ld opcode ret : Nat) (out : List Nat) : State := (s.emit (.mailbox p ld opcode ret out)).msix p ld 0

/-- A command that a logical device answers at once; where there is none, nothing happens. -/
def State.onMbox (s : State) (p ld opcode : Nat) (f : State → State × Nat × List Nat) : State :=
  if s.ldThere p ld then
    let (s, ret, out) := f s
    s.mbox p ld opcode ret out
  else s

/-- The sessions bound to a logical device. -/
def State.ldSessions (s : State) (p ld : Nat) : List Nat :=
  (s.host.sess.filter (fun e => e.2.state != 0 && s.sessHost e.1 p ld)).map Prod.fst

/-- The sum of the lengths of a logical device's sessions (R91, R117). -/
def State.ldCapacity (s : State) (p ld : Nat) : Nat := ((s.ldSessions p ld).map (fun n => (s.sess n).acc)).foldl (· + ·) 0

/-- The capacity in units of 256 MiB (R117). -/
def State.ldUnits (s : State) (p ld : Nat) : Nat := ceilDiv (s.ldCapacity p ld) (2 ^ 28)

/-- IDENTIFY (R117): the fields are the standard's (log entry 50). -/
def execIdentify (p ld : Nat) (s : State) : Host.Outcome State Fault Refusal :=
  done (s.onMbox p ld 0x0001 (fun s => (s, Ret.ok, [Config.standardField 0x0001 0])))

/-- Event records of 128 bytes that a payload of 2,048 bytes holds beside its header of 32. -/
abbrev mboxRecords : Nat := 15

/-- GET_EVENT_RECORDS (R117): the logical device's event log, oldest first; its first word says that more remain. -/
def execGetEventRecords (p ld log : Nat) (s : State) : Host.Outcome State Fault Refusal :=
  done (s.onMbox p ld 0x0100 (fun s =>
    let l := (s.ldev p ld).log
    if 4 < log then (s, Ret.input, [])
    else (s, Ret.ok, [b2n (decide (mboxRecords < l.length)), min l.length mboxRecords] ++ (l.take mboxRecords).flatMap (fun r => [r.1, r.2.1, r.2.2.1, r.2.2.2]))))

/-- CLEAR_EVENT_RECORDS (R117). -/
def execClearEventRecords (p ld log : Nat) (all : Bool) (handles : List Nat) (s : State) : Host.Outcome State Fault Refusal :=
  done (s.onMbox p ld 0x0101 (fun s =>
    let l := (s.ldev p ld).log
    if 4 < log then (s, Ret.input, [])
    else if all then (s.modLdev p ld (fun d => { d with log := [] }), Ret.ok, [])
    else if handles.all (fun h => l.any (fun r => r.1 == h)) then
      (s.modLdev p ld (fun d => { d with log := d.log.filter (fun r => !handles.contains r.1) }), Ret.ok, [])
    else (s, Ret.handle, [])))

/-- GET_EVENT_INTERRUPT_POLICY (R117). -/
def execGetEventInterruptPolicy (p ld : Nat) (s : State) : Host.Outcome State Fault Refusal :=
  done (s.onMbox p ld 0x0102 (fun s => (s, Ret.ok, [(s.ldev p ld).policy])))

/-- SET_EVENT_INTERRUPT_POLICY (R117): no interrupt or MSI-X, and vector 0 only, in each byte. -/
def execSetEventInterruptPolicy (p ld policy : Nat) (s : State) : Host.Outcome State Fault Refusal :=
  done (s.onMbox p ld 0x0103 (fun s =>
    if (List.range 5).all (fun i => decide (policy / 256 ^ i % 256 ≤ 1)) ∧ policy < 256 ^ 5 then (s.modLdev p ld (fun d => { d with policy := policy }), Ret.ok, [])
    else (s, Ret.input, [])))

/-- GET_FW_INFO (R117): one slot with the running steward firmware, not activatable. -/
def execGetFwInfo (p ld : Nat) (s : State) : Host.Outcome State Fault Refusal :=
  done (s.onMbox p ld 0x0200 (fun s => (s, Ret.ok, [1, 1, 0, 0, (s.image s.steward.running).verNow])))

/-- GET_TIMESTAMP (R117). -/
def execGetTimestamp (p ld : Nat) (s : State) : Host.Outcome State Fault Refusal :=
  done (s.onMbox p ld 0x0300 (fun s => (s, Ret.ok, [s.poolTime])))

/-- SET_TIMESTAMP (R117): accepted and ignored. -/
def execSetTimestamp (p ld _t : Nat) (s : State) : Host.Outcome State Fault Refusal :=
  done (s.onMbox p ld 0x0301 (fun s => (s, Ret.ok, [])))

/-- The opcodes of the commands a mailbox answers, in the order of R117's table. -/
def mboxOpcodes : List Nat :=
  [0x0001, 0x0100, 0x0101, 0x0102, 0x0103, 0x0200, 0x0300, 0x0301, 0x0400, 0x0401, 0x4000, 0x4100, 0x4200, 0x4201, 0x4202, 0x4203, 0x4204,
   0x4300, 0x4301, 0x4302, 0x4800, 0x4801, 0x4802, 0x4803, 0xC5A0]

/-- The command effects log (R117): an entry of 4 bytes for each command, its opcode and the standard's word of effects (log entry 50). -/
def celLog : List Nat :=
  mboxOpcodes.flatMap (fun op => [op % 256, op / 256, Config.standardField 0x0401 op % 256, Config.standardField 0x0401 op / 256 % 256])

/-- Bytes of the command effects log: 4 for each of the 25 commands of R117. -/
abbrev celBytes : Nat := 100

/-- GET_SUPPORTED_LOGS (R117): the command effects log only. -/
def execGetSupportedLogs (p ld : Nat) (s : State) : Host.Outcome State Fault Refusal :=
  done (s.onMbox p ld 0x0400 (fun s => (s, Ret.ok, [1, Config.standardField 0x0400 0, celBytes])))

/-- GET_LOG (R117). -/
def execGetLog (p ld off len : Nat) (s : State) : Host.Outcome State Fault Refusal :=
  done (s.onMbox p ld 0x0401 (fun s =>
    if celBytes < off + len then (s, Ret.input, [])
    else (s, Ret.ok, (celLog.drop off).take len)))

/-- IDENTIFY_MEMORY_DEVICE (R117): total, volatile and persistent capacity in units of 256 MiB, and the poison list maximum. -/
def execIdentifyMemoryDevice (p ld : Nat) (s : State) : Host.Outcome State Fault Refusal :=
  done (s.onMbox p ld 0x4000 (fun s => (s, Ret.ok, [s.ldUnits p ld, 0, s.ldUnits p ld, 1024])))

/-- GET_PARTITION_INFO (R117): persistent only. -/
def execGetPartitionInfo (p ld : Nat) (s : State) : Host.Outcome State Fault Refusal :=
  done (s.onMbox p ld 0x4100 (fun s => (s, Ret.ok, [0, s.ldUnits p ld])))

/-- GET_HEALTH_INFO (R117): whether the device serves, and whether its twin is in sync. -/
def execGetHealthInfo (p ld : Nat) (s : State) : Host.Outcome State Fault Refusal :=
  done (s.onMbox p ld 0x4200 (fun s => (s, Ret.ok, [b2n s.admits, b2n (s.twin.state == 1 || s.twin.state == 4)])))

/-- GET_ALERT_CONFIGURATION (R117). -/
def execGetAlertConfiguration (p ld : Nat) (s : State) : Host.Outcome State Fault Refusal :=
  done (s.onMbox p ld 0x4201 (fun s => (s, Ret.ok, [(s.ldev p ld).alertCfg])))

/-- SET_ALERT_CONFIGURATION (R117). -/
def execSetAlertConfiguration (p ld cfg : Nat) (s : State) : Host.Outcome State Fault Refusal :=
  done (s.onMbox p ld 0x4202 (fun s => (s.modLdev p ld (fun d => { d with alertCfg := cfg }), Ret.ok, [])))

/-- GET_SHUTDOWN_STATE (R117). -/
def execGetShutdownState (p ld : Nat) (s : State) : Host.Outcome State Fault Refusal :=
  done (s.onMbox p ld 0x4203 (fun s => (s, Ret.ok, [(s.ldev p ld).shutdown])))

/-- SET_SHUTDOWN_STATE (R117): accepted, with no effect on persistence. -/
def execSetShutdownState (p ld v : Nat) (s : State) : Host.Outcome State Fault Refusal :=
  done (s.onMbox p ld 0x4204 (fun s => (s.modLdev p ld (fun d => { d with shutdown := v }), Ret.ok, [])))

/-- MAILBOX_UNSUPPORTED (R117): every other opcode. -/
def execMailboxUnsupported (p ld opcode : Nat) (s : State) : Host.Outcome State Fault Refusal :=
  done (s.onMbox p ld opcode (fun s => (s, Ret.unsupported, [])))

/-! ### Poison (R419, R542) -/

/-- The CXL error source of a poison list cause (R419): 1 External, 2 Internal, 3 Injected, 7 Vendor Specific (PRESUMED, log entry 49). -/
def errorSource (cause : Nat) : Nat := if cause = 2 then 1 else if cause = 7 then 3 else if cause = 4 then 7 else 2

/-- This vault's poison list by pool address: address, span, cause. -/
def State.ownPoison (s : State) : List (Nat × Nat × Nat) :=
  s.ecc.list.filterMap (fun e =>
    match s.slotUse (lineSlot e.line) with
    | some (.home key) => some (poolAddr key (64 * (e.line % 32768)), e.span, e.cause)
    | _ => none)

/-- The DPA of a pool address inside a logical device's sessions. -/
def State.dpaIn (s : State) (p ld pa : Nat) : Option Nat :=
  (s.ldSessions p ld).findSome? (fun n =>
    let base := s.setting (0x4000 + n) 7 * 2 ^ 48 + s.setting (0x4000 + n) 8
    if base ≤ pa ∧ pa < base + (s.sess n).acc then some (pa - base + s.setting (0x4000 + n) 5) else none)

/-- A sorted insertion by the first component. -/
def insertBy (x : Nat × Nat × Nat) (l : List (Nat × Nat × Nat)) : List (Nat × Nat × Nat) :=
  match l with
  | [] => [x]
  | y :: l => if x.1 ≤ y.1 then x :: y :: l else y :: insertBy x l

/-- GET_POISON_LIST (R419): entries of every vault (those of the others come over the tree) in ascending DPA from the start, 126 at most; its first
words say whether more follow and whether some are missing. -/
def execGetPoisonList (p ld start len : Nat) (others : List (Nat × Nat × Nat)) (overflow : Bool) (s : State) : Host.Outcome State Fault Refusal :=
  done (s.onMbox p ld 0x4300 (fun s =>
    let own := if s.serves then s.ownPoison else []
    let all := (own ++ others).filterMap (fun e => (s.dpaIn p ld e.1).map (fun d => (d, e.2.1, e.2.2)))
    let l := (all.filter (fun e => decide (start ≤ e.1 ∧ e.1 < start + len))).foldl (fun l e => insertBy e l) []
    let lost := overflow || s.ecc.overflow || s.absentVaults != []
    (s, Ret.ok, [b2n (decide (126 < l.length)), b2n lost, min l.length 126] ++
      (l.take 126).flatMap (fun e => [e.1, spanLines e.2.1, errorSource e.2.2]))))

/-- A full-line write by command (R542): through the session that maps the DPA, held at the ceiling like any other (R108); a session that is
unbinding takes none, which may be retried. -/
def State.mboxWrite (s : State) (p ld opcode dpa : Nat) (line : Line) (poison : Bool) : State :=
  if !s.ldThere p ld then s
  else
    let a := dpa / 64 * 64
    match s.sessAt p ld a with
    | some n =>
      if (s.sess n).state = 3 ∧ 2 ≤ s.setting (0x4000 + n) 9 then s.mbox p ld opcode Ret.retry []
      else if s.sessGrants n true then
        s.arriveWrite { num := 0, write := true, port := p, host := ld, tag := 0, sess := 0xFFFF, key := 0, off := a, line := line, poison := poison, mailbox := some (p, ld, opcode) }
      else s.mbox p ld opcode Ret.address []
    | none => s.mbox p ld opcode Ret.address []

/-- INJECT_POISON (R117, R418): only while 0x3000:06 is true. The bytes of the poisoned line are a free value (R110). -/
def execInjectPoison (p ld dpa : Nat) (s : State) : Host.Outcome State Fault Refusal :=
  done (if s.flag 0x3000 6 then (s.mboxWrite p ld 0x4301 dpa s.freeLine true).tick else s.onMbox p ld 0x4301 (fun s => (s, Ret.unsupported, [])))

/-- CLEAR_POISON (R117, R111): a full-line write of the supplied data. -/
def execClearPoison (p ld dpa : Nat) (line : Line) (s : State) : Host.Outcome State Fault Refusal :=
  done (s.mboxWrite p ld 0x4302 dpa line false)

/-- POISON_COMMAND_ANSWER (R542): the command answers once its write's outcome is known; on Internal Error a General Media record names the line. -/
def execPoisonCommandAnswer (num : Nat) (s : State) : Host.Outcome State Fault Refusal :=
  done (match s.reqOf num with
    | none => s
    | some e =>
      match e.mailbox, e.outcome with
      | some (p, ld, opcode), some o =>
        ((if 2 ≤ o then s.logOnly p ld 0 e.dpa 64 else s).dropReq num).mbox p ld opcode (if o = 0 then Ret.ok else if o = 1 then Ret.retry else Ret.internal) []
      | _, _ => s)

/-! ### Dynamic capacity (R114 to R116) -/

/-- The sessions of a logical device that back a dynamic-capacity region. -/
def State.dcSessions (s : State) (p ld : Nat) : List Nat :=
  if s.host.mode = 0 then (s.ldSessions p ld).filter (fun n => s.setting (0x4000 + n) 0x0E != 0xFF) else []

/-- GET_DYNAMIC_CAPACITY_CONFIGURATION (R114, R117): 8 regions, the block size, and each region in use with its base and its length. -/
def execGetDynamicCapacityConfiguration (p ld : Nat) (s : State) : Host.Outcome State Fault Refusal :=
  done (s.onMbox p ld 0x4800 (fun s => (s, Ret.ok, [8, extentBytes] ++
    (s.dcSessions p ld).flatMap (fun n => [s.setting (0x4000 + n) 0x0E, s.setting (0x4000 + n) 5, 2 ^ 48]))))

/-- GET_DYNAMIC_CAPACITY_EXTENT_LIST (R114, R117). -/
def execGetDynamicCapacityExtentList (p ld : Nat) (s : State) : Host.Outcome State Fault Refusal :=
  done (s.onMbox p ld 0x4801 (fun s =>
    let l := (s.dcSessions p ld).filter (fun n => 0 < (s.sess n).acc)
    (s, Ret.ok, [l.length] ++ l.flatMap (fun n => [s.setting (0x4000 + n) 5, (s.sess n).acc]))))

/-- ADD_DYNAMIC_CAPACITY_RESPONSE (R115): the whole extent offered, none of it, or anything else, which is refused with the offer left open. -/
def execAddDynamicCapacityResponse (p ld : Nat) (extents : List (Nat × Nat)) (s : State) : Host.Outcome State Fault Refusal :=
  done (s.onMbox p ld 0x4802 (fun s =>
    let open_ := (s.dcSessions p ld).filter (fun n => (s.sess n).state == 2)
    let whole := fun (n : Nat) => extents == [(s.setting (0x4000 + n) 5 + (s.sess n).acc, s.setting (0x4000 + n) 6 - (s.sess n).acc)]
    match (if extents = [] then open_.head? else open_.find? whole) with
    | none => (s, Ret.input, [])
    | some n =>
      if extents = [] then (s.offerEnds n, Ret.ok, [])
      else (s.modSess n (fun x => { x with acc := s.setting (0x4000 + n) 6, state := 1 }), Ret.ok, [])))

/-- RELEASE_DYNAMIC_CAPACITY (R116): a range that ends at the window's tail, an offer open or not; answered by RELEASE_CAPACITY_DONE, which ends
the offer. -/
def execReleaseDynamicCapacity (p ld start len : Nat) (s : State) : Host.Outcome State Fault Refusal :=
  done (if !s.ldThere p ld then s
    else match (s.dcSessions p ld).find? (fun n =>
        let b := s.setting (0x4000 + n) 5
        decide (b ≤ start ∧ 0 < len ∧ len % extentBytes = 0 ∧ start + len = b + (s.sess n).acc) && ((s.sess n).state == 1 || (s.sess n).state == 2) && (s.sess n).release.isNone) with
      | some n => s.modSess n (fun x => { x with release := some (x.acc - len) })
      | none => s.mbox p ld 0x4803 Ret.input [])

/-! ### The FM API (R91) -/

/-- The lengths bound to each logical device of a port. -/
def State.ldLengths (s : State) (p : Nat) : List Nat :=
  let n := if s.host.mode = 0 then (s.hostPort p).lds else 0
  [n] ++ (List.range n).map (s.ldCapacity p)

/-- GET_LD_INFO (R91). -/
def execGetLdInfo (p : Nat) (s : State) : Host.Outcome State Fault Refusal :=
  done (if (s.hostPort p).link = 2 then s.emit (.fmApi p 0x5400 Ret.ok (s.ldLengths p)) else s)

/-- GET_LD_ALLOCATIONS (R91). -/
def execGetLdAllocations (p : Nat) (s : State) : Host.Outcome State Fault Refusal :=
  done (if (s.hostPort p).link = 2 then s.emit (.fmApi p 0x5401 Ret.ok (s.ldLengths p)) else s)

/-- SET_LD_ALLOCATIONS (R91): it and every other FM API command are Unsupported. -/
def execSetLdAllocations (p opcode : Nat) (s : State) : Host.Outcome State Fault Refusal :=
  done (if (s.hostPort p).link = 2 then s.emit (.fmApi p opcode Ret.unsupported []) else s)

end Sys2Proof.Machine
end

