-- ==== Sys2Proof/Machine/Codes.lean ====
section
/-! DEFINITION. The codes data rests under: the burst code of a DRAM line, a Reed-Solomon code over GF(2^16) (R407 to R411), and the
word code of on-die memory (R414). -/

namespace Sys2Proof.Machine

/-! ### GF(2^16) (R407) -/

/-- A product in GF(2^16), primitive polynomial x^16 + x^12 + x^3 + x + 1; `n` bits of the second factor are left. -/
def gfMulBits (a b acc n : Nat) : Nat :=
  match n with
  | 0 => acc
  | n + 1 =>
    let a2 := if a.testBit 15 then (2 * a % 65536) ^^^ 0x100B else 2 * a
    gfMulBits a2 (b / 2) (if b % 2 = 1 then acc ^^^ a else acc) n

/-- A product in GF(2^16). -/
def gfMul (a b : Nat) : Nat := gfMulBits a b 0 16

/-- A power 2^k of an element, by squaring. -/
def gfSquares (a k : Nat) : Nat :=
  match k with
  | 0 => a
  | k + 1 => gfSquares (gfMul a a) k

/-- The inverse: the element to the power 2^16 - 2, the product of its 2nd, 4th, … powers. -/
def gfInv (a : Nat) : Nat := (List.range 15).foldl (fun p k => gfMul p (gfSquares a (k + 1))) 1

/-- A power of α. -/
def gfAlpha (k : Nat) : Nat :=
  match k with
  | 0 => 1
  | k + 1 => gfMul 2 (gfAlpha k)

/-- The locator of symbol i: it is the coefficient of x^(19 - i). -/
def locator (i : Nat) : Nat := gfAlpha (19 - i)

/-- The value of a codeword at a point: symbol 0 is the coefficient of the highest power. -/
def polyAt (r : List Nat) (x : Nat) : Nat := r.foldl (fun a c => gfMul a x ^^^ c) 0

/-- The syndromes over the roots 1, α, α^2 and α^3 (R410). -/
def burstSyn (r : List Nat) : List Nat := (List.range 4).map (fun j => polyAt r (gfAlpha j))

/-- The check symbols c16 to c19 of 16 data symbols (R407): the remainder of d(x) · x^4 by the generator, whose coefficients below x^4
are `g3` to `g0`. -/
def burstCheck (d : List Nat) : List Nat :=
  let g := (List.range 4).foldl (fun p j => (List.range (p.length + 1)).map (fun i => nth p i 0 ^^^ (if i = 0 then 0 else gfMul (gfAlpha j) (nth p (i - 1) 0)))) [1]
  d.foldl (fun r c =>
    let f := c ^^^ nth r 0 0
    (List.range 4).map (fun i => nth r (i + 1) 0 ^^^ gfMul f (nth g (i + 1) 0))) [0, 0, 0, 0]

/-- The poison constant of symbols 16 to 19 (R409). -/
def poisonConst : List Nat := List.replicate 16 0 ++ [0x5C2D, 0x91E7, 0x3A48, 0xE6B3]

/-! ### Errors of a known support -/

/-- One elimination step on rows of the form coefficients ++ [right side]: the first row with a nonzero first entry is scaled and taken
out of the others, whose first column goes. -/
def eliminate (rows : List (List Nat)) : Option (List Nat × List (List Nat)) :=
  match rows.find? (fun r => nth r 0 0 != 0) with
  | none => none
  | some p =>
    let k := gfInv (nth p 0 0)
    let p1 := p.map (gfMul k)
    some (p1.drop 1, (rows.eraseP (fun r => nth r 0 0 != 0)).map (fun r => (List.range (r.length - 1)).map (fun i =>
      nth r (i + 1) 0 ^^^ gfMul (nth r 0 0) (nth p1 (i + 1) 0))))

/-- The values of `n` unknowns that meet every row, if some do. -/
def solveRows (n : Nat) (rows : List (List Nat)) : Option (List Nat) :=
  match n with
  | 0 => if rows.all (fun r => nth r 0 0 == 0) then some [] else none
  | n + 1 =>
    match eliminate rows with
    | none => none
    | some (p, rest) =>
      match solveRows n rest with
      | none => none
      | some xs => some (((List.range n).foldl (fun a i => a ^^^ gfMul (nth p i 0) (nth xs i 0)) (nth p n 0)) :: xs)

/-- The error with a support and given syndromes, as (symbol, value) pairs. -/
def errorAt (pos : List Nat) (syn : List Nat) : Option (List (Nat × Nat)) :=
  (solveRows pos.length ((List.range 4).map (fun j => pos.map (fun i => gfAlpha ((19 - i) * j)) ++ [nth syn j 0]))).map
    (fun xs => pos.zip xs)

/-- The supports of two symbols that four syndromes leave open: the roots of the error locator among the 20 locators. -/
def pairsFor (syn : List Nat) : List (List Nat) :=
  let s := fun (j : Nat) => nth syn j 0
  let det := gfMul (s 1) (s 1) ^^^ gfMul (s 0) (s 2)
  if det = 0 then []
  else
    let k := gfInv det
    let s1 := gfMul k (gfMul (s 0) (s 3) ^^^ gfMul (s 1) (s 2))
    let s2 := gfMul k (gfMul (s 1) (s 3) ^^^ gfMul (s 2) (s 2))
    let roots := (List.range 20).filter (fun i => gfMul (locator i) (locator i) ^^^ gfMul s1 (locator i) ^^^ s2 == 0)
    if roots.length = 2 then [roots] else []

/-- The symbol that four syndromes of one error name. -/
def singlesFor (syn : List Nat) : List (List Nat) :=
  if nth syn 0 0 = 0 then []
  else
    let x := gfMul (gfInv (nth syn 0 0)) (nth syn 1 0)
    ((List.range 20).filter (fun i => locator i == x)).map (fun i => [i])

/-- Some error within the erased symbols plus at most `t` others that gives the syndromes (R410). -/
def findError (erased : List Nat) (t : Nat) (syn : List Nat) : Option (List (Nat × Nat)) :=
  let sets : List (List Nat) :=
    if erased = [] then [[]] ++ (if 1 ≤ t then singlesFor syn else []) ++ (if 2 ≤ t then pairsFor syn else [])
    else [erased] ++ (if 1 ≤ t then ((List.range 20).filter (fun i => !erased.contains i)).map (fun i => erased ++ [i]) else [])
  sets.findSome? (fun p => errorAt p syn)

/-- What a half-codeword decodes to (R410). -/
inductive Half where
  | clean
  | corrected (r : List Nat) (symbols : List Nat)
  | poisoned
  | uncorrectable
  deriving DecidableEq, Repr

/-- The decoder of a half-codeword with its erased symbols (R410). -/
def decodeHalf (r erased : List Nat) : Half :=
  let syn := burstSyn r
  if syn.all (· == 0) then .clean
  else
    match findError erased (if erased = [] then 2 else if erased.length = 2 then 1 else 0) syn with
    | some e =>
      .corrected ((List.range 20).map (fun i => nth r i 0 ^^^ ((e.filter (fun x => x.1 == i)).map Prod.snd).foldl (· ^^^ ·) 0))
        ((e.filter (fun x => x.2 != 0)).map Prod.fst)
    | none =>
      let psyn := burstSyn poisonConst
      match findError erased (if erased = [] then 1 else 0) ((List.range 4).map (fun j => nth syn j 0 ^^^ nth psyn j 0)) with
      | some _ => .poisoned
      | none => .uncorrectable

/-- A bit of a symbol of a half as the beats of a burst carry it (R408): beat, and lane of the 40. A ×4 device drives four lanes and its two
symbols take four beats each; a ×8 device drives eight, and its four symbols take two each. -/
def symbolBit (x8 : Bool) (h s i : Nat) : Nat × Nat :=
  if x8 then (8 * h + 2 * (s % 4) + i / 8, 8 * (s / 4) + i % 8) else (8 * h + 4 * (s % 2) + i / 4, 4 * (s / 2) + i % 4)

/-- A half-codeword of a burst (R407, R408): its 20 symbols from the 16 beats of 40 bits, DQ in bits 0 to 31 and CB in bits 32 to 39 of each. -/
def halfOf (x8 : Bool) (h : Nat) (beats : List Nat) : List Nat :=
  (List.range 20).map (fun s => (List.range 16).foldl (fun a i =>
    let at_ := symbolBit x8 h s i
    if (nth beats at_.1 0).testBit at_.2 then a + 2 ^ i else a) 0)

/-- The 32 bytes of a half's data symbols as a number (R408): symbol s holds bytes 2s and 2s + 1, the lower one in its low bits. -/
def halfData (r : List Nat) : Nat := (List.range 16).foldl (fun a s => a + nth r s 0 * 2 ^ (16 * s)) 0

/-- The symbols of a device in each half (R408): two for ×4, four for ×8. -/
def deviceSymbols (x8 : Bool) (j : Nat) : List Nat := if x8 then (List.range 4).map (4 * j + ·) else [2 * j, 2 * j + 1]

/-- The device a corrected half is attributed to (R412): all its corrected symbols belong to it. -/
def attributed (x8 : Bool) (h : Half) : Option Nat :=
  match h with
  | .corrected _ (i :: is) =>
    let j := i / (if x8 then 4 else 2)
    if is.all (fun k => k / (if x8 then 4 else 2) == j) then some j else none
  | _ => none

/-! ### The word code (R414) -/

/-- The generator (x^7 + x + 1) · m3(x) · (x + 1), as bits; m3 is the minimal polynomial of α^3, x^7 + x^5 + x^3 + x + 1. -/
abbrev bchGen : Nat := 0xFC87

/-- The remainder of a polynomial of degree below 15 + n by the generator. -/
def bchRem (c n : Nat) : Nat :=
  match n with
  | 0 => c
  | n + 1 => bchRem (if c.testBit (15 + n) then c ^^^ (bchGen * 2 ^ n) else c) n

/-- A stored word as its polynomial: bits 0 to 64 are the coefficients of x^15 up, bits 65 to 79 those of x^0 up. -/
def wordPoly (w : Nat) : Nat := w % 2 ^ 65 * 2 ^ 15 + w / 2 ^ 65 % 2 ^ 15

/-- The stored word of 65 bits of data and poison. -/
def encodeWord (u : Nat) : Nat := u % 2 ^ 65 + bchRem (u % 2 ^ 65 * 2 ^ 15) 65 * 2 ^ 65

/-- The syndrome of a stored word. -/
def wordSyn (w : Nat) : Nat := bchRem (wordPoly w) 65

/-- What a stored word reads as: its 65 bits, with whether it was corrected; none where it is uncorrectable. -/
def decodeWord (w : Nat) : Option (Nat × Bool) :=
  let s := wordSyn w
  if s = 0 then some (w % 2 ^ 65, false)
  else
    let syns := (List.range 80).map (fun i => (i, wordSyn (2 ^ i)))
    match syns.find? (fun e => e.2 == s) with
    | some e => some ((w ^^^ 2 ^ e.1) % 2 ^ 65, true)
    | none =>
      match syns.findSome? (fun a => (syns.find? (fun b => a.2 ^^^ b.2 == s)).map (fun b => (a.1, b.1))) with
      | some (i, j) => some ((w ^^^ 2 ^ i ^^^ 2 ^ j) % 2 ^ 65, true)
      | none => none

end Sys2Proof.Machine
end

