-- ==== Sys2Proof/Machine/Dram.lean ====
section
/-! DEFINITION. The commands of the DRAM channels: training, refresh, command retry, self-refresh, the channels that leave service and
return, rank retirement and freeze mode (R382 to R402). -/

namespace Sys2Proof.Machine

/-! ### Channels that cannot serve (R392 to R394, R399) -/

/-- Whether the standby of an active device is in sync (R392, R393). -/
def State.standbyInSync (s : State) : Bool := s.twin.state == 1 && (s.twin.peer.map Beat.inSync) == some true

/-- A channel's command history is captured (R388, R399). What it holds is the device's own issue order: a free value. -/
def State.captureHistory (s : State) (n : Nat) : State := (s.modChan n (fun c => { c with captured := some s.free })).tick

/-- A channel stops being able to serve without being asked (R393, R394): with an in-sync standby the active device sets its fence latch
for a handover; without one the channel goes Offline and its data is read back from the home store. `frozen`: it enters Frozen, not
Retraining. -/
def State.chanLost (s : State) (n cause : Nat) (frozen : Bool) : State :=
  let stop := fun (s : State) =>
    if frozen then ((s.modChan n (fun c => { c with state := 5, alert := [] })).modDram (fun d => { d with frozen := n })).captureHistory n |>.chanEvent n cause 0 0 0
    else s.goRetrain n cause
  if s.serves then
    if s.standbyInSync then (stop s).fence 5
    else ((if frozen then s.captureHistory n else s).goOffline n cause 0 0).pumpRetire
  else (stop s).leaveSync

/-- A fault that freeze mode may select (R399): 0 an uncorrectable line, 1 a retry failure, 2 a drift, 3 a write. Where it freezes
nothing the fault is handled by `f`. While another channel is frozen a further trigger takes the channel Offline. -/
def State.freezeOr (s : State) (n trigger : Nat) (f : State → State) : State :=
  if s.flag 0x3500 0x13 && bit (s.setting 0x3500 0x14) trigger && ((s.chan n).state == 2 || (s.chan n).state == 4) then
    if s.dram.frozen = 0xFF then s.chanLost n 7 true
    else if s.serves ∧ s.standbyInSync then (s.goOffline n 7 0 0).fence 5
    else ((s.goOffline n 7 0 0).leaveSync).pumpRetire
  else f s

/-- A request of the operator that makes a channel unable to serve (R392), with its status. -/
def State.askLeave (s : State) (n what : Nat) : State × Nat :=
  if s.twin.state = 1 then
    if s.standbyInSync then
      ((s.modChan n (fun c => { c with leaving := what })).modTwin (fun t => { t with state := 9, handAt := s.now }), St.ok)
    else (s, St.busy)
  else if s.twin.state = 2 ∨ s.twin.state = 3 then
    if what = 2 then ((s.goOffline n 4 0 0).pumpRetire, St.ok) else (s, St.busy)
  else if s.twin.state = 9 then (s, St.busy)
  else (s.chanLeave n what, St.ok)

/-- The standby asks its active device for every stale granule of a channel that serves again (R394, R275; log entry 40). -/
def State.askStale (s : State) (n : Nat) : State :=
  (s.twin.stale.filter (fun g => slotChan (g / 512) == n)).foldl (fun s g => s.askAgain g) s

/-- A channel serves again (R402): the accesses it held go on, and stale granules are asked for. -/
def State.chanBack (s : State) (n : Nat) : State :=
  let held := s.dram.waiting.filter (fun h => slotChan h.slot == n)
  let s := s.modChan n (fun c => { c with state := 2, lastUse := s.now })
  let s := s.modDram (fun d => { d with waiting := d.waiting.filter (fun h => slotChan h.slot != n), frozen := if d.frozen = n then 0xFF else d.frozen })
  let s := held.foldl (fun s h => s.serveReq h h.slot) s
  (s.askStale n).standbyGoesOn.advanceWorks

/-! ### Training (R385, R391, R394) -/

/-- TRAINING_COMPLETE (R385, R402): the channel is in service, or Offline with source 48+2n and its ranks retiring. -/
def execTrainingComplete (n : Nat) (ok : Bool) (step rank : Nat) (s : State) : Host.Outcome State Fault Refusal :=
  done (
    if (s.chan n).state ≠ 1 then s
    else
      let s := s.modChan n (fun c => { c with status := if ok then St.ok else St.internal, trainTime := s.now - c.since })
      if ok then s.chanBack n else (s.goOffline n 1 step rank).pumpRetire)

/-- RETRAIN_COMPLETE (R394, R402): passed, the channel serves again and every granule of its homed slots is stale; failed, it goes
Offline. -/
def execRetrainComplete (n : Nat) (ok : Bool) (s : State) : Host.Outcome State Fault Refusal :=
  done (
    if (s.chan n).state ≠ 3 then s
    else
      let s := s.modChan n (fun c => { c with status := if ok then St.ok else St.internal, trainTime := s.now - c.since })
      if ok then
        let gs := (s.homedSlots.filter (fun e => slotChan e.1 == n)).flatMap (fun e => (List.range 512).map (slotGran e.1))
        let s := s.modTwin (fun t => { t with stale := gs.foldl (fun l g => addSet g l) t.stale })
        (s.chanBack n).chanEvent n 3 0 0 0
      else (s.goOffline n 1 0 0).leaveSync)

/-! ### Refresh (R382 to R384) -/

/-- Whether a channel issues refresh commands: in service, frozen or offline (R384). -/
def State.refreshes (s : State) (n : Nat) : Bool := [2, 5, 6].contains (s.chan n).state

/-- REFRESH_DUE (R382, R383): one more interval is owed; it is postponed while accesses are queued and the limit is not reached. At the
limit one interval is refreshed; with nothing queued, all that are owed. -/
def execRefreshDue (n rank : Nat) (queued : Bool) (s : State) : Host.Outcome State Fault Refusal :=
  done (
    if !s.refreshes n || (s.rankOf n rank).state == 0 then s
    else
      let owed := (s.rankOf n rank).owed + 1
      let limit := s.setting 0x3500 0x0D
      let set := fun (s : State) (k : Nat) => s.modChan n (fun c => { c with ranks := modD c.ranks rank {} (fun r => { r with owed := k }) })
      if !queued then (set s 0).count (8 * n + 4) owed
      else if owed < limit then set s owed
      else ((set s (owed - 1)).count (8 * n + 4) 1).count (8 * n + 5) 1)

/-- MR4_POLL (R382, R383): the rank's refresh rate, and the channel's hottest DIMM sensor with it (0x3510+n:0C; DESIGN CHOICE, log entry 132); above
the upper limit source 49+2n once a minute, at the doubled rate. `hot`: MR4 asks for the doubled rate, and the rank is above the upper limit. -/
def execMr4Poll (n rank : Nat) (hot : Bool × Bool) (temp : Int) (s : State) : Host.Outcome State Fault Refusal :=
  done (
    if (s.rankOf n rank).state = 0 ∨ !s.refreshes n then s
    else
      let due : Bool := match (s.rankOf n rank).hotAt with | some t => s.elapsed t 60000000000 | none => true
      let s := s.modChan n (fun c => { c with temp := temp, ranks := modD c.ranks rank {} (fun r => { r with
        doubled := hot.1 || hot.2
        hotAt := if hot.2 && due then some s.now else r.hotAt }) })
      if hot.2 && due then
        s.raise (49 + 2 * n) 3 (leBytes 4 (s.chan n).episodes ++ leBytes 1 rank ++ leBytes 4 (ofInt 32 (s.chan n).temp) ++ leBytes 4 0)
      else s)

/-! ### Drift and command retry (R386 to R388) -/

/-- DRIFT_CHECK (R386): once every check period; the oscillators are read under TC6; a drift beyond correction needs a full retrain. -/
def execDriftCheck (n : Nat) (absorbed : Bool) (s : State) : Host.Outcome State Fault Refusal :=
  done (
    if (s.chan n).state ≠ 2 ∨ !((s.chan n).driftAt == 0 || s.elapsed (s.chan n).driftAt (s.setting 0x3500 0x11)) then s
    else
      let s := (s.ask n 0x11 6 1).modChan n (fun c => { c with driftAt := s.now })
      if absorbed then s else s.freezeOr n 2 (fun s => s.chanLost n 6 false))

/-- RCD_ALERT (R387): the channel stops issuing on the subchannel. -/
def execRcdAlert (n sub : Nat) (s : State) : Host.Outcome State Fault Refusal :=
  done (if s.refreshes n then s.modChan n (fun c => { c with alert := addSet sub c.alert }) else s)

/-- RETRY_REPLAY (R387, R388): the commands within the alert latency are issued again. The retry limit of consecutive failures raises
source 49+2n, captures the command history, and freezes or retrains the channel. -/
def execRetryReplay (n : Nat) (alert : Bool) (s : State) : Host.Outcome State Fault Refusal :=
  done (
    if (s.chan n).alert = [] then s
    else
      let s := (s.count (8 * n + 6) 1).modChan n (fun c => { c with
        episodes := satAdd c.episodes 1 0xFFFFFFFF
        failRun := if alert then c.failRun + 1 else 0
        alert := if alert then c.alert else [] })
      if s.setting 0x3500 0x0E ≤ (s.chan n).failRun then
        let s := s.modChan n (fun c => { c with failRun := 0, fails := satAdd c.fails 1 0xFFFFFFFF, alert := [] })
        let s := s.raise (49 + 2 * n) 0 (leBytes 4 (s.chan n).episodes ++ leBytes 1 0 ++ leBytes 4 (ofInt 32 (s.chan n).temp) ++ leBytes 4 0)
        (s.captureHistory n).freezeOr n 1 (fun s => if (s.chan n).state = 2 then s.chanLost n 5 false else s)
      else s)

/-! ### Self-refresh (R389) -/

/-- IDLE_SELF_REFRESH (R389): no queued access for the idle time: owed refreshes are issued and every rank enters self-refresh. -/
def execIdleSelfRefresh (n : Nat) (s : State) : Host.Outcome State Fault Refusal :=
  let t := s.setting 0x3500 0x0F
  done (
    if (s.chan n).state = 2 ∧ t ≠ 0 ∧ s.elapsed (s.chan n).lastUse t then
      let owed := ((s.chan n).ranks.map (fun r => r.2.owed)).foldl (· + ·) 0
      (s.count (8 * n + 4) owed).modChan n (fun c => { c with
        state := 4
        selfSince := s.now
        ranks := c.ranks.map (fun r => (r.1, { r.2 with owed := 0 })) })
    else s)

/-! ### What the operator asks of a channel (R392, R396, R398, R401) -/

/-- CHANNEL_RETRAIN (R392): of a channel in service; any other is refused with BUSY (log entry 41). -/
def execChannelRetrain (rq : Req) (tag n : Nat) (s : State) : Host.Outcome State Fault Refusal :=
  done (s.writeNum rq tag (0x3510 + n) 8 1 1 (fun s =>
    if (s.chan n).state = 2 ∨ (s.chan n).state = 4 then s.askLeave n 1 else (s, St.busy)))

/-- CHANNEL_OFFLINE (R392, R395, R398). -/
def execChannelOffline (rq : Req) (tag n : Nat) (s : State) : Host.Outcome State Fault Refusal :=
  done (s.writeNum rq tag (0x3510 + n) 7 1 1 (fun s =>
    if (s.chan n).state = 2 ∨ (s.chan n).state = 4 then s.askLeave n 2 else (s, St.busy)))

/-- CHANNEL_RETURN (R398, R401): a frozen channel is checked and returns with its contents, or retrains; an offline one retrains under
R392. -/
def execChannelReturn (rq : Req) (tag n : Nat) (checksPass : Bool) (s : State) : Host.Outcome State Fault Refusal :=
  done (s.writeNum rq tag (0x3510 + n) 7 1 2 (fun s =>
    if (s.chan n).state = 5 then
      if checksPass then ((s.chanBack n).chanEvent n 3 0 0 0, St.ok) else ((s.goRetrain n 2).leaveSync, St.ok)
    else if (s.chan n).state = 6 then s.askLeave n 3
    else (s, St.busy)))

/-- RETIRE_RANK (R396): an absent rank gives BAD_RANGE. -/
def execRetireRank (rq : Req) (tag n rank : Nat) (s : State) : Host.Outcome State Fault Refusal :=
  done (s.writeNum rq tag (0x3510 + n) 5 1 rank (fun s =>
    if (s.rankOf n rank).state = 0 then (s, St.badRange) else ((s.retireRank n rank).pumpRetire, St.ok)))

/-! ### Freeze mode (R399 to R401) -/

/-- FREEZE_CHANNEL (R399): trigger bit 3. -/
def execFreezeChannel (rq : Req) (tag n : Nat) (s : State) : Host.Outcome State Fault Refusal :=
  done (s.writeNum rq tag 0x3500 0x17 1 n (fun s => (s.freezeOr n 3 id, St.ok)))

/-- FREEZE_READ (R400): of an address on the frozen channel. -/
def execFreezeRead (rq : Req) (tag addr : Nat) (s : State) : Host.Outcome State Fault Refusal :=
  done (s.writeNum rq tag 0x3500 0x15 8 addr (fun s =>
    if s.dram.frozen = 0xFF ∨ slotChan (addr / extentBytes) ≠ s.dram.frozen ∨ s.ownExtents * extentBytes ≤ addr then (s, St.badRange)
    else ((s.modDram (fun d => { d with readAddr := addr, reading := some s.now })).emit (.frozenRead (s.cellOf addr)), St.ok)))

/-- FREEZE_READ_DONE (R400): the stored line as the channel gives it, 80 bytes without correction. -/
def execFreezeReadDone (bytes : Bytes) (s : State) : Host.Outcome State Fault Refusal :=
  done (if s.dram.reading.isSome then s.modDram (fun d => { d with readData := bytes.take 80, reading := none }) else s)

end Sys2Proof.Machine
end

