-- ==== Sys2Proof/Machine/Ecc.lean ====
section
/-! DEFINITION. The commands of error correction and scrubbing: a DRAM line decoded, devices marked bad, repairs and resends that get no
answer, and the scrubber (R410 to R426). -/

namespace Sys2Proof.Machine

/-- The error records of a channel. -/
def State.eccChan (s : State) (n : Nat) : EccChan := getD s.ecc.chans n {}

/-- The error records of a channel changed. -/
def State.modEccChan (s : State) (n : Nat) (f : EccChan → EccChan) : State :=
  s.modEcc (fun e => { e with chans := modD e.chans n {} f })

/-- The subchannel of a line (R377, R378). -/
def State.lineSub (s : State) (ln : Nat) : Nat := (s.cellOf (64 * ln)).sub

/-- The rank and subchannel of a line as one number, 2r + s (R429). -/
def State.rankSub (s : State) (ln : Nat) : Nat := 2 * s.slotRank (lineSlot ln) + s.lineSub ln

/-- Whether the DIMMs are built from ×8 devices. -/
def State.x8 (s : State) : Bool := s.dram.width == 1

/-! ### Devices marked bad (R412, R413) -/

/-- Retirement of a rank asked for (R413): source 86. -/
def State.askRetire (s : State) (n r j : Nat) : State :=
  if (s.rankOf n r).state ≠ 1 then s
  else ((s.raise 86 0 (leBytes 1 n ++ leBytes 1 r ++ leBytes 2 j)).retireRank n r).pumpRetire

/-- A device marked bad (R412): its rank and subchannel decode in erasure mode from now on, the mark is saved with the DIMM's serial
number, source 85. A ×8 device's rank retires (R413). -/
def State.markBad (s : State) (n rs j : Nat) : State :=
  let c := getD (s.eccChan n).counts (10 * rs + j) 0
  let s := s.modEccChan n (fun e => { e with erased := insertKey rs j e.erased })
  let s := s.modEcc (fun e => { e with badDimm := e.badDimm.filter (fun x => x.1 != 8 * n + rs) ++ [(8 * n + rs, j, (s.rankOf n (rs / 2)).serial)] })
  let s := s.raise 85 0 (leBytes 1 n ++ leBytes 1 (rs / 2) ++ leBytes 1 (rs % 2) ++ leBytes 1 j ++ leBytes 2 c)
  if s.x8 then s.askRetire n (rs / 2) j else s

/-- A corrected line attributed to a device is counted; at the threshold the device is marked bad, or as the second of its rank and
subchannel asks for the rank's retirement (R412, R413). -/
def State.attribute (s : State) (n rs j : Nat) : State :=
  let c := getD (s.eccChan n).counts (10 * rs + j) 0 + 1
  let s := s.modEccChan n (fun e => { e with counts := insertKey (10 * rs + j) c e.counts })
  if c < s.setting 0x3600 9 then s
  else match assoc (s.eccChan n).erased rs with
    | none => s.markBad n rs j
    | some k => if k = j then s else s.askRetire n (rs / 2) j

/-! ### A line that is read (R410, R420 to R424) -/

/-- A granule that a standby or a returning device asks its active device to send again (R275, R422): source 93. -/
def State.askResend (s : State) (g : Nat) : State :=
  if s.ecc.resend.any (fun e => e.1 == g) then s
  else
    let top := nth s.persist.applied (g / 512 % 2) 0
    ((s.modEcc (fun e => { e with resend := e.resend ++ [(g, s.now, top)] })).raise 93 0 (leBytes 3 (g / 512) ++ leBytes 2 (g % 512) ++ leBytes 1 0)).askAgain g

/-- An uncorrectable line by what its slot holds (R420 to R424). `reader`: 0 an access, 1 the scrubber, 2 the twin's repair. -/
def State.badLine (s : State) (ln reader : Nat) : State :=
  let slot := lineSlot ln
  let zero := fun (s : State) => (s.putLine ln 0 false).raise 89 0 (leBytes 8 (64 * ln))
  if s.serves then
    if s.inMeta slot then s.startRepair ln []
    else match s.slotUse slot with
      | some (.home _) => s.startRepair ln []
      | some (.copy _) => s.modPlace (fun p => { p with copyIns := p.copyIns.map (fun c =>
          if c.slot = slot ∧ c.valid.testBit (ln % 32768) then { c with valid := c.valid - 2 ^ (ln % 32768) } else c) })
      | some (.dest key) =>
        match s.place.migIns.find? (fun m => m.key == key && m.slot == slot) with
        | some m => s.send (s.activeOf m.src) (.read { entry := s.pool.number, num := againNum (lineGran ln), key := key, slot := m.sslot, off := ln % 32768 / 64 * granuleBytes, len := granuleBytes })
        | none => zero s
      | _ => zero s
  else if s.twin.state = 4 ∨ s.twin.state = 5 then
    if reader = 2 then s.setPoison ln true
    else if s.inMeta slot then s.metaReplace
    else if (s.slotUse slot).isNone then zero s
    else s.askResend (lineGran ln)
  else s.setPoison ln true

/-- An uncorrectable line is found (R410): counted, source 82; freeze mode may freeze the channel (R399), and a storm in one second
takes it out of service (R426 rule 7). -/
def State.uncorrectable (s : State) (ln reader : Nat) : State :=
  let n := slotChan (lineSlot ln)
  let e := s.eccChan n
  let fresh := decide (s.now < e.window + 1000000000)
  let k := (if fresh then e.windowN else 0) + 1
  let s := (s.count 481 1).modEccChan n (fun e => { e with
    uncorr := e.uncorr + 1
    passUnc := if reader = 1 then e.passUnc + 1 else e.passUnc
    window := if fresh then e.window else s.now
    windowN := k })
  let s := s.raise 82 0 (leBytes 8 (64 * ln) ++ leBytes 1 reader ++ leBytes 1 (b2n (assoc e.erased (s.rankSub ln)).isSome))
  if s.setting 0x3600 0x0B < k ∧ (s.chan n).state = 2 then (s.raise 87 0 (leBytes 1 n ++ leBytes 4 k)).chanLost n 8 false
  else s.freezeOr n 0 (fun s => s.badLine ln reader)

/-- A corrected line (R412, R423): rewritten, counted, source 81, and attributed where all its wrong symbols belong to one device. -/
def State.corrected (s : State) (ln reader : Nat) (a b : Half) : State :=
  let n := slotChan (lineSlot ln)
  let rs := s.rankSub ln
  let symbols := (match a with | .corrected _ l => l | _ => []) ++ (match b with | .corrected _ l => l | _ => [])
  let s := (s.count 480 1).modEccChan n (fun e => { e with corrected := e.corrected + 1, passCorr := if reader = 1 then e.passCorr + 1 else e.passCorr })
  let s := s.raise 81 0 (leBytes 1 n ++ leBytes 1 (rs / 2) ++ leBytes 1 (rs % 2) ++ leBytes 3 ((symbols.foldl (fun l i => addSet i l) []).foldl (fun m i => m + 2 ^ i) 0))
  (([attributed s.x8 a, attributed s.x8 b].filterMap id).eraseDups).foldl (fun s j => s.attribute n rs j) s

/-- A half-codeword's data as decoded. -/
def Half.data (h : Half) (r : List Nat) : Nat :=
  match h with
  | .corrected r' _ => halfData r'
  | _ => halfData r

/-- Whether every read of a line's rank is served from the in-sync standby's copy (R413): a ×8 device of the rank is marked bad, in either
subchannel. -/
def State.x8Mirrored (s : State) (ln : Nat) : Bool :=
  let r := s.slotRank (lineSlot ln)
  s.x8 && (s.eccChan (slotChan (lineSlot ln))).erased.any (fun e => e.1 / 2 == r) && s.serves && s.standbyInSync

/-- A line read from an erased ×8 device (R413): from the in-sync standby's copy, or as decoded with no check, poisoned where the poison
list covers it; source 94 once a second. -/
def State.readX8 (s : State) (ln : Nat) (v : Line) : State :=
  let n := slotChan (lineSlot ln)
  if s.x8Mirrored ln then s.startRepair ln []
  else
    let due : Bool := match (s.eccChan n).x8Evt with | some t => s.elapsed t 1000000000 | none => true
    let s := s.putLine ln v (s.ecc.list.any (fun e => poisonCovers e ln))
    if due then (s.modEccChan n (fun e => { e with x8Evt := some s.now })).raise 94 0 (leBytes 1 n ++ leBytes 1 (s.slotRank (lineSlot ln))) else s

/-- A burst's two halves decoded (R407 to R411), and what follows. -/
def State.lineRead (s : State) (ln reader : Nat) (beats : List Nat) : State :=
  let half0 := halfOf s.x8 0 beats
  let half1 := halfOf s.x8 1 beats
  let er := match assoc (s.eccChan (slotChan (lineSlot ln))).erased (s.rankSub ln) with
    | some j => deviceSymbols s.x8 j
    | none => []
  let a := decodeHalf half0 er
  let b := decodeHalf half1 er
  let v : Line := BitVec.ofNat 512 (a.data half0 + b.data half1 * 2 ^ 256)
  if s.x8 && er != [] then s.readX8 ln v
  else if s.x8Mirrored ln then s.startRepair ln []
  else if a = .poisoned ∨ b = .poisoned then s.setPoison ln true
  else if a = .uncorrectable ∨ b = .uncorrectable then s.uncorrectable ln reader
  else
    let s := s.putLine ln v false
    if a = .clean ∧ b = .clean then s else (s.lineRewritten ln).corrected ln reader a b

/-- DRAM_READ_COMPLETE (R410): the burst of a line an access read, its first eight beats and its last eight. `standby`: the read serves the twin's repair (R420 step 4). -/
def execDramReadComplete (line : Nat) (first last : List Nat) (standby : Bool) (s : State) : Host.Outcome State Fault Refusal :=
  done (if !s.chanServes (slotChan (lineSlot line)) || decide (s.ownExtents ≤ lineSlot line) || s.ecc.repairs.any (fun r => r.line == line) then s
    else s.lineRead line (if standby then 2 else 0) (first ++ last))

/-! ### The operator's marks and the window (R412, R429) -/

/-- MARK_DEVICE_BAD (R412, R429). -/
def execMarkDeviceBad (rq : Req) (tag n v : Nat) (s : State) : Host.Outcome State Fault Refusal :=
  let rank := v % 4
  let rs := 2 * rank + v / 4 % 2
  let j := v / 16 % 16
  done (s.writeNum rq tag (0x3620 + n) 4 2 v (fun s =>
    if (s.rankOf n rank).state = 0 ∨ (if s.x8 then 5 else 10) ≤ j ∨ v ≠ rank + 4 * (v / 4 % 2) + 16 * j then (s, St.badRange)
    else if (assoc (s.eccChan n).erased rs).isSome then (s, St.busy)
    else (s.markBad n rs j, St.ok)))

/-- CLEAR_ERASURE (R412): the mark of a rank and subchannel, source 85. -/
def execClearErasure (rq : Req) (tag n v : Nat) (s : State) : Host.Outcome State Fault Refusal :=
  done (s.writeNum rq tag (0x3620 + n) 5 1 v (fun s =>
    match assoc (s.eccChan n).erased v with
    | none => (s, St.ok)
    | some j =>
      let s := s.modEccChan n (fun e => { e with erased := eraseKey v e.erased })
      let s := s.modEcc (fun e => { e with badDimm := e.badDimm.filter (fun x => x.1 != 8 * n + v) })
      (s.raise 85 1 (leBytes 1 n ++ leBytes 1 (v / 2) ++ leBytes 1 (v % 2) ++ leBytes 1 j ++ leBytes 2 0), St.ok)))

/-- DEVICE_BAD_WINDOW (R412): the attributed counts of a channel go to zero at the end of each window. -/
def execDeviceBadWindow (n : Nat) (s : State) : Host.Outcome State Fault Refusal :=
  done (if s.elapsed (s.eccChan n).countsAt (s.setting 0x3600 0x0A) then s.modEccChan n (fun e => { e with counts := [], countsAt := s.now }) else s)

/-! ### Waits that end (R420, R422) -/

/-- REPAIR_WAIT_EXPIRY (R420, R426): a repair that got no answer, or found no place, fails. -/
def execRepairWaitExpiry (line : Nat) (s : State) : Host.Outcome State Fault Refusal :=
  done (match s.ecc.repairs.find? (fun r => r.line == line) with
    | some r => if s.elapsed r.since (s.setting 0x3600 7) then (s.failRepair r).pumpRepairs.advanceWorks else s
    | none => s)

/-- STANDBY_RESEND_WAIT_EXPIRY (R422, R394): the standby leaves in sync, and the granule is stale; source 93. -/
def execStandbyResendWaitExpiry (slot granule : Nat) (s : State) : Host.Outcome State Fault Refusal :=
  let g := slotGran slot granule
  done (match s.ecc.resend.find? (fun e => e.1 == g) with
    | some e =>
      if s.elapsed e.2.1 (s.setting 0x3600 7) ∧ !s.twin.stale.contains g then
        (s.leaveSync.modTwin (fun t => { t with stale := addSet g t.stale })).raise 93 1 (leBytes 3 slot ++ leBytes 2 granule ++ leBytes 1 1)
      else s
    | none => s)

/-! ### The scrubber (R423, R424, R418) -/

/-- The line of a channel's scrub position. -/
def scrubLineOf (n k : Nat) : Nat := 32768 * (16 * (k / 32768) + n) + k % 32768

/-- The lines of a channel. -/
def State.chanLines (s : State) : Nat := s.ownExtents / 16 * 32768

/-- The scrub position moves past the slots of ranks that are retired or absent: `fuel` slots at most. -/
def State.skipRetired (s : State) (n k fuel : Nat) : Nat :=
  match fuel with
  | 0 => k
  | fuel + 1 =>
    if s.chanLines ≤ k then k
    else if [1, 2].contains (s.rankOf n (s.slotRank (lineSlot (scrubLineOf n k)))).state then k
    else s.skipRetired n (k / 32768 * 32768 + 32768) fuel

/-- A scrub pass of a channel ends (R423, R418): source 88; the poison list's overflow clears after a pass in which every poisoned line
had an entry. -/
def State.passEnds (s : State) (n : Nat) : State :=
  let e := s.eccChan n
  let s := s.raise 88 0 (leBytes 1 n ++ leBytes 8 e.passCorr ++ leBytes 8 e.passUnc)
  let s := s.modEcc (fun x => { x with
    passEnd := s.poolTime
    scrubbed := x.scrubbed - e.passLines
    overflow := x.overflow && !(e.passAllListed && x.chans.all (fun c => c.1 == n || c.2.passAllListed)) })
  s.modEccChan n (fun e => { e with scrub := 0, passLines := 0, passCorr := 0, passUnc := 0, passAllListed := true })

/-- The scrubber at a poisoned line of a homed slot that has no entry (R418): entered with cause 8 while there is room. -/
def State.scrubPoison (s : State) (n ln : Nat) : State :=
  if !s.linePoison ln || !s.homesSlot (lineSlot ln) || s.ecc.list.any (fun e => poisonCovers e ln) then s
  else
    let s := s.modEccChan n (fun e => { e with passAllListed := false })
    if s.serves && decide (s.ecc.list.length < 65536) then
      let x : PoisonEnt := { line := ln, cause := 8, time := s.poolTime }
      (s.modEcc (fun e => { e with list := e.list ++ [x] })).metaSend (.poison x)
    else s

/-- The poison list at the active device once the scrubber has passed a line (R418): the entries of spans that end there go where no poisoned line of
theirs is left. -/
def State.scrubLeave (s : State) (ln : Nat) : State :=
  if s.serves then s.poisonDrop (fun x => x.line + spanLines x.span == ln + 1) else s

/-- SCRUB_LINE (R423, R424): the next line of a channel read under TC6, the first eight beats of its burst and the last eight. -/
def execScrubLine (n : Nat) (first last : List Nat) (s : State) : Host.Outcome State Fault Refusal :=
  done (
    if !s.flag 0x3600 3 || !s.chanServes n || s.chanLines == 0 || !s.elapsed (s.eccChan n).scrubAt (s.setting 0x3600 4 / s.chanLines) then s
    else
      let k := s.skipRetired n (s.eccChan n).scrub (s.chanLines / 32768)
      if s.chanLines ≤ k then s.passEnds n
      else
        let ln := scrubLineOf n k
        let s := ((s.askRead (lineSlot ln) 0x0F 6 1).count 485 1).modEcc (fun e => { e with scrubbed := e.scrubbed + 1 })
        let s := s.modEccChan n (fun e => { e with scrub := k + 1, scrubAt := s.now, passLines := e.passLines + 1 })
        let s := if s.ecc.repairs.any (fun r => r.line == ln) then s else s.lineRead ln 1 (first ++ last)
        let s := (s.scrubPoison n ln).scrubLeave ln
        if s.chanLines ≤ s.skipRetired n (k + 1) (s.chanLines / 32768) then s.passEnds n else s)

end Sys2Proof.Machine
end

