-- ==== Sys2Proof/Machine/Pool.lean ====
section
/-! DEFINITION. Pool commands (R15 to R42, R323 to R349, R543): the actions the root handles, tree messages and their timers,
gather and ready waves, barriers, latch operations, joining, and map transfers. -/

namespace Sys2Proof.Machine

/-! ### Actions at the root (R27, R29, R38, R325, R343 to R346) -/

/-- An action that reaches this device as the root (R325); elsewhere it has no effect. -/
def State.atRoot (s : State) (a : Action) (dev : Nat) : State := if s.pool.isRoot then (s.action a dev).settled else s

/-- VOLUME_CREATE (R27, R29). -/
def execVolumeCreate (n size cls label dev : Nat) (s : State) : Host.Outcome State Fault Refusal :=
  done (s.atRoot (.volCreate n size cls label) dev)
/-- VOLUME_RESIZE (R27, R29). -/
def execVolumeResize (n size dev : Nat) (s : State) : Host.Outcome State Fault Refusal := done (s.atRoot (.volResize n size) dev)
/-- VOLUME_DELETE (R27, R29). -/
def execVolumeDelete (n dev : Nat) (s : State) : Host.Outcome State Fault Refusal := done (s.atRoot (.volDelete n) dev)

/-- ZERO_FILL_COMPLETE (R29): a Deleting volume whose latch time has passed is Free again and its reservation is returned. -/
def execZeroFillComplete (n : Nat) (s : State) : Host.Outcome State Fault Refusal :=
  let v := s.vol n
  let latched := !s.pool.ops.any (fun o => !o.done && o.act == .volDelete n)
  done (if v.state ≠ 4 ∨ !latched then s
    else ((s.modVol n (fun v => { number := v.number, status := v.status, dev := v.dev })).volOutcome n 3 St.ok v.dev).freeCheck)

/-- CAPACITY_SHARE_CHANGE (R38). -/
def execCapacityShareChange (vault spare copy fill dev : Nat) (s : State) : Host.Outcome State Fault Refusal :=
  done (s.atRoot (.share vault spare copy fill) dev)
/-- MANIFEST_ADD (R343). -/
def execManifestAdd (e : MEntry) (dev : Nat) (s : State) : Host.Outcome State Fault Refusal := done (s.atRoot (.manAdd e) dev)
/-- MANIFEST_CHANGE_ADDRESSES (R325). -/
def execManifestChangeAddresses (e : MEntry) (dev : Nat) (s : State) : Host.Outcome State Fault Refusal := done (s.atRoot (.manAddr e) dev)
/-- MANIFEST_REMOVE (R345). -/
def execManifestRemove (n dev : Nat) (s : State) : Host.Outcome State Fault Refusal := done (s.atRoot (.manRemove n) dev)
/-- DIRECTORY_MAP_CHANGE (R346). -/
def execDirectoryMapChange (i vault dev : Nat) (s : State) : Host.Outcome State Fault Refusal := done (s.atRoot (.mapEntry i vault) dev)

/-! ### Gather and ready waves (R327, R328, R332, R333) -/

/-- What a tree message does behind its receive checks (R330); what it acknowledges may let an announcement be broadcast (R338). -/
def State.onTree (s : State) (h : Hdr) (t : TreeHdr) (down : Bool) (b : TBody) (f : State → State) : State :=
  let (s, ok) := s.rxTree h t down b
  if ok then f s.castOps else s

/-- The rank of a candidate among the candidates (R328). -/
def State.candidateNo (s : State) : Option Nat := s.candidates.findIdx? (· == s.pool.number)

/-- TREE_GATHER (R332, R333, R344): the root takes the reports and closes its gather once every listed device is present, and owes a device that
gathers later its next wave; a parent keeps them for its own; a candidate without a root holds them. A sender that is no child is adopted
(R327), and one adopted that now reports by another child is adopted no more; one whose pool state is older gets it. -/
def execTreeGather (h : Hdr) (t : TreeHdr) (gen : Nat) (ranks : List (Nat × Bool)) (s : State) : Host.Outcome State Fault Refusal :=
  done (s.onTree h t false (.gather gen ranks) (fun s =>
    let s := if gen < s.pool.gen then s.sendState h.src else s
    if s.pool.root = noDev then
      (if s.candidateNo.isSome then s.modPool (fun p => { p with candHeld := mergeRanks p.candHeld ranks }) else s)
    else
      let s := s.modPool (fun p => { p with adopted := p.adopted.filter (fun d => d == h.src || !ranks.contains (s.rankAt d, true)) })
      let s := if (s.children).contains h.src then s else s.modPool (fun p => { p with adopted := addSet h.src p.adopted })
      let s := s.modPool (fun p => { p with
        gathered := mergeRanks p.gathered ranks
        report := if p.isRoot then [] else mergeRanks p.report ranks
        waveOwed := p.waveOwed || (p.isRoot && p.gather == 2 && ranks.any (fun e => e.2)) })
      if s.pool.isRoot && s.pool.gather == 1 && s.allGathered then (s.closeGatherNow 0).afterWave.settled else s))

/-- TREE_READY (R333): the segment goes on to the children; with the fourth the wave is taken. -/
def execTreeReady (h : Hdr) (t : TreeHdr) (segment : Nat) (present : List Nat) (s : State) : Host.Outcome State Fault Refusal :=
  done (s.onTree h t true (.ready segment present) (fun s =>
    let s := s.treeDown t.op 0 (.ready segment present)
    if t.op ≤ s.pool.wave then s
    else
      let s := s.modPool (fun p => { p with segments := insertKey segment present (if segment = 0 then [] else p.segments) })
      if s.pool.segments.length < 4 then s
      else (s.applyWave t.op ((s.pool.segments.flatMap Prod.snd).map s.devAt)).afterWave.settled))

/-- The device attaches to a parent (R327): to a new one it reports itself and all it was told (R332). -/
def State.attach (s : State) (d : Nat) : State :=
  if s.pool.parent = d then s
  else s.modPool (fun p => { p with parent := d, report := mergeRanks p.gathered [(s.rankAt p.number, true)] })

/-- TREE_TICK (R335, R327): the tree is confirmed, and the device follows its own parent again once it can reach it. -/
def execTreeTick (h : Hdr) (t : TreeHdr) (s : State) : Host.Outcome State Fault Refusal :=
  done (s.onTree h t true .tick (fun s =>
    let own := s.parentOf s.pool.number
    let s := s.modPool (fun p => { p with lastTick := s.now })
    (if s.unreachable own then s else s.attach own).treeDown t.op 0 .tick))

/-- The children that were reported present and are out of reach (R333). -/
def State.lostRanks (s : State) : List (Nat × Bool) :=
  ((s.children.filter s.unreachable).map s.rankAt).filterMap (fun r => if s.pool.gathered.contains (r, true) then some (r, false) else none)

/-- What this device has to report (R332, R333): itself while no ready wave has reached it, its children's reports not sent on yet, and the children
lost. -/
def State.toReport (s : State) : List (Nat × Bool) :=
  mergeRanks (if s.pool.gather < 2 then [(s.rankAt s.pool.number, true)] else []) (s.pool.report ++ s.lostRanks)

/-- Reports sent in messages of up to 508 entries, MORE set in all but the last (R330): `fuel` messages at most. -/
def State.sendGather (s : State) (d fuel : Nat) (l : List (Nat × Bool)) : State :=
  match fuel with
  | 0 => s
  | fuel + 1 =>
    if l.length ≤ 508 then s.tree d 0 0 false (.gather s.pool.gen l)
    else ((s.send d (.tree { s.treeHdr 0 0 false with more := true } (.gather s.pool.gen (l.take 508)))).count 501 1).sendGather d fuel (l.drop 508)

/-- The device a GATHER goes to (R332): the parent, or while no root is known the first candidate in reach. -/
def State.gatherTo (s : State) : Nat :=
  if s.pool.parent ≠ noDev then s.pool.parent
  else ((s.candidates.filter (fun d => d != s.pool.number && !s.unreachable d)).head?).getD noDev

/-- GATHER_SEND_TIMER (R332): once every 10 ms at most, where there is something to report. -/
def execGatherSendTimer (s : State) : Host.Outcome State Fault Refusal :=
  let l := s.toReport
  done (if !s.numbered || s.pool.isRoot || !(s.pool.gatherSent == 0 || s.elapsed s.pool.gatherSent 10000000) || s.gatherTo == noDev || l == [] then s
    else
      let s := s.modPool (fun p => { p with
        gather := if p.gather = 0 then 1 else p.gather
        gatherSent := s.now
        gathered := mergeRanks p.gathered s.lostRanks
        report := [] })
      s.sendGather s.gatherTo (l.length + 1) l)

/-- GATHER_TIMEOUT (R332). -/
def execGatherTimeout (s : State) : Host.Outcome State Fault Refusal :=
  done (if s.pool.isRoot && s.pool.gather == 1 && s.elapsed s.pool.gatherAt (s.setting 0x2020 7) then (s.closeGatherNow 1).afterWave.settled else s)

/-- CLOSE_GATHER (R332): at the root only. -/
def execCloseGather (rq : Req) (tag : Nat) (s : State) : Host.Outcome State Fault Refusal :=
  done (s.writeNum rq tag 0x2020 9 1 1 (fun s =>
    if !s.pool.isRoot then (s, St.badRange) else (if s.pool.gather = 1 then (s.closeGatherNow 2).afterWave.settled else s, St.ok)))

/-- Whether the reports the root holds name another present set than its last ready wave. -/
def State.presentChanged (s : State) : Bool :=
  let now := (s.pool.gathered.filter (fun e => e.2 && decide (e.1 < s.listedCount))).map (fun e => s.devAt e.1)
  s.devices.any (fun d => now.contains d != s.pool.present.contains d)

/-- READY_WAVE_SEND (R333): after a change of the present set, once a ready interval at most. -/
def execReadyWaveSend (s : State) : Host.Outcome State Fault Refusal :=
  done (if s.pool.isRoot && s.pool.gather == 2 && s.elapsed s.pool.waveAt (s.setting 0x2020 0x0B) then
      let s := s.modPool (fun p => { p with gathered := mergeRanks p.gathered s.lostRanks })
      if s.pool.waveOwed || s.presentChanged then s.readyWave.afterWave.settled else s
    else s)

/-! ### Ticks and succession (R327, R328, R335) -/

/-- TICK_TIMER (R335). -/
def execTickTimer (s : State) : Host.Outcome State Fault Refusal :=
  done (if s.pool.isRoot && s.elapsed s.pool.lastTick (s.setting 0x2020 0x0A) then
      (s.modPool (fun p => { p with lastTick := s.now })).treeDown 0 0 .tick
    else s)

/-- The nearest ancestor in reach, from a device's parent on up; none when even the root is out of reach: `fuel` levels. -/
def State.ancestor (s : State) (d fuel : Nat) : Nat :=
  match fuel with
  | 0 => noDev
  | fuel + 1 =>
    let p := s.parentOf d
    if p = noDev then noDev else if s.unreachable p then s.ancestor p fuel else p

/-- A device attaches to its nearest ancestor in reach (R327); with none it knows no root any more (R328). -/
def State.reattach (s : State) : State :=
  let a := s.ancestor s.pool.number 6
  if a = noDev then s.modPool (fun p => { p with parent := noDev, root := noDev, isRoot := false, authority := false })
  else s.attach a

/-- TICK_MISSED (R335). -/
def execTickMissed (s : State) : Host.Outcome State Fault Refusal :=
  done (if s.numbered && !s.pool.isRoot && s.pool.root != noDev && s.elapsed s.pool.lastTick (3 * s.setting 0x2020 0x0A) then s.reattach else s)

/-- PARENT_UNREACHABLE (R327). -/
def execParentUnreachable (s : State) : Host.Outcome State Fault Refusal :=
  done (if s.numbered && !s.pool.isRoot && s.pool.parent != noDev && s.unreachable s.pool.parent then s.reattach else s)

/-- SUCCESSION_WAIT_EXPIRY (R328): candidate c takes the root once the candidates below it are unreachable and c waits have passed
since its last tick. -/
def execSuccessionWaitExpiry (s : State) : Host.Outcome State Fault Refusal :=
  done (match s.candidateNo with
    | none => s
    | some c =>
      if s.pool.root == noDev && s.numbered && (s.candidates.take c).all s.unreachable && s.elapsed s.pool.lastTick (c * s.setting 0x2020 6) then
        (s.takeRoot (if c = 0 then 0 else 1)).ownHeld.afterWave.settled
      else s)

/-! ### Broadcast and barrier (R336, R337) -/

/-- TREE_ARRIVE (R337): the subtree's arrivals are kept; the barrier goes on once every present child has arrived. -/
def execTreeArrive (h : Hdr) (t : TreeHdr) (arrived absent : Nat) (s : State) : Host.Outcome State Fault Refusal :=
  done (s.onTree h t false (.arrive arrived absent) (fun s =>
    let same := match s.pool.barrier with | some (op, _, _) => op == t.op | none => false
    let s := if same then s else s.modPool (fun p => { p with barrier := some (t.op, 1, 0), arrived := [], barrierAt := s.now })
    if s.pool.arrived.contains h.src then s
    else
      (s.modPool (fun p => { p with
        arrived := addSet h.src p.arrived
        barrier := p.barrier.map (fun b => (b.1, b.2.1 + arrived, b.2.2 + absent)) })).barrierCheck))

/-- TREE_RELEASE (R337). -/
def execTreeRelease (h : Hdr) (t : TreeHdr) (st : Nat) (s : State) : Host.Outcome State Fault Refusal :=
  done (s.onTree h t true (.release st) (fun s =>
    let st := recvSt st
    ((s.treeDown t.op 0 (.release st)).modPool (fun p => { p with barrier := none, arrived := [] })).count 498 1))

/-- BARRIER_LIMIT (R337). -/
def execBarrierLimit (s : State) : Host.Outcome State Fault Refusal :=
  done (match s.pool.barrier with
    | some (op, n, _) =>
      if s.pool.isRoot && s.elapsed s.pool.barrierAt (s.setting 0x2300 3) then s.barrierEnd op St.timeout (s.pool.present.length - n) else s
    | none => s)

/-- TREE_BROADCAST (R336, R170, R171): it goes on to the children; the room table and the counts it carries are taken, and allocations
that wait are tried again. `m`: its other payload, and the counts. -/
def execTreeBroadcast (h : Hdr) (t : TreeHdr) (rooms : List (Nat × Nat × Nat × Nat)) (m : Bytes × List (Nat × Census))
    (s : State) : Host.Outcome State Fault Refusal :=
  let body := rooms.flatMap (fun r => [r.1, r.2.1, r.2.2.1, r.2.2.2]) ++ m.1.map BitVec.toNat
  done (s.onTree h t true (.broadcast body m.2) (fun s =>
    let s := (s.treeDown t.op 0 (.broadcast body m.2)).count 497 1
    let s := (m.2.filter (fun c => c.1 != s.pool.number)).foldl (fun s c => s.takeCensus c.1 c.2) s
    if rooms = [] then s
    else
      let s := s.modPlace (fun p => { p with
        room := rooms.foldl (fun l r => insertKey r.1 { p := r.2.1, h := r.2.2.1, state := r.2.2.2 } l) p.room
        roomEpoch := t.op })
      if s.serves then s.retryAllocations else s))

/-! ### Latch operations (R338 to R341) -/

/-- TREE_ANNOUNCE (R336, R338): the parent's broadcast is sent on, the operation held until its latch time; a second announcement is ignored. The copy
that a candidate below the root gets ahead of the broadcast is not sent on. -/
def execTreeAnnounce (h : Hdr) (t : TreeHdr) (a : Action) (dev : Nat) (s : State) : Host.Outcome State Fault Refusal :=
  done (s.onTree h t true (.announce a dev) (fun s =>
    let known := (s.opOf t.op).isSome || decide (t.op ≤ s.pool.opNo)
    let ahead := s.pool.parent == s.pool.root && s.candidateNo.isSome && s.pool.present.contains s.pool.number
    let s := if h.src = s.pool.parent ∧ (known ∨ !ahead) then s.treeDown t.op t.latch (.announce a dev) else s
    if known then s
    else (((s.modPool (fun p => { p with
      opNo := t.op
      lastOp := t.op
      lastLatch := t.latch
      ops := p.ops ++ [{ op := t.op, act := a, latch := t.latch, dev := dev, cast := true, late := decide (t.latch < s.poolTime) }] })).notePoint
        t.op a).announceVol a dev).freeCheck))

/-- TREE_DONE (R340). -/
def execTreeDone (h : Hdr) (t : TreeHdr) (st covered missed firstMissed : Nat) (s : State) : Host.Outcome State Fault Refusal :=
  done (s.onTree h t false (.done st covered missed firstMissed) (fun s =>
    let st := recvSt st
    ((s.modOp t.op (fun o => if o.dones.contains h.src then o else { o with
      dones := addSet h.src o.dones
      status := max o.status st
      covered := o.covered + covered
      missed := o.missed + missed
      firstMissed := min o.firstMissed firstMissed })).opCheck t.op).settled))

/-- TREE_ACTION (R53, R325): at the root it is handled in arrival order; another device sends it on. -/
def execTreeAction (h : Hdr) (t : TreeHdr) (a : Action) (dev : Nat) (s : State) : Host.Outcome State Fault Refusal :=
  done (s.onTree h t false (.action a dev) (fun s => (s.action a dev).settled))

/-- TREE_RESULT (R340). -/
def execTreeResult (h : Hdr) (t : TreeHdr) (st : Nat) (s : State) : Host.Outcome State Fault Refusal :=
  done (s.onTree h t true (.result st) (fun s => s.answered t.op (recvSt st)))

/-- An action of a given kind acts at its latch time, its lateness noted (R339). -/
def State.onLatch (s : State) (p : Action → Bool) (f : State → LatchOp → State) : State :=
  match s.opDue p with
  | none => s
  | some o => f (s.opLate o) o

/-- COUNTER_FREEZE (R340, R510). -/
def execCounterFreeze (s : State) : Host.Outcome State Fault Refusal :=
  done ((s.onLatch (fun a => match a with | .freeze _ => true | _ => false) (fun s o =>
    match o.act with
    | .freeze m => (s.modRec (fun r => { r with latchMask := r.latchMask ||| BitVec.ofNat 32 m })).opDone o.op St.ok 0
    | _ => s)).settled)

/-- COUNTER_RELEASE (R340, R510). -/
def execCounterRelease (s : State) : Host.Outcome State Fault Refusal :=
  done ((s.onLatch (fun a => match a with | .release _ => true | _ => false) (fun s o =>
    match o.act with
    | .release m => (s.modRec (fun r => { r with latchMask := r.latchMask &&& ~~~ BitVec.ofNat 32 m })).opDone o.op St.ok 0
    | _ => s)).settled)

/-- Whether an action is a change of pool state, or the outcome of one (R340 kind 6). -/
def isStateAction : Action → Bool
  | .point _ => false
  | .freeze _ => false
  | .release _ => false
  | .poolReset _ => false
  | .room _ _ _ _ => false
  | _ => true

/-- POOL_STATE_APPLY (R325, R340). -/
def execPoolStateApply (s : State) : Host.Outcome State Fault Refusal :=
  done ((s.onLatch isStateAction (fun s o => (s.applyAction o.act o.dev).opDone o.op St.ok 0)).settled)

/-- A pool reset's latch time (R341): credits are withheld and rings fetch no more; source 138. -/
def State.poolResetLatch (s : State) (cold : Bool) : State :=
  s.onLatch (fun a => match a with | .poolReset c => c == cold | _ => false) (fun s o =>
    let s := s.modHost (fun h => { h with withhold := addSet 2 h.withhold })
    let s := s.modPool (fun p => { p with resetDue := some (cold, s.now), ops := p.ops.filter (fun x => x.op != o.op) })
    s.raise 138 (b2n cold) (leBytes 8 o.op ++ leBytes 1 (if cold then 5 else 4)))

/-- POOL_RESET_WARM (R341). -/
def execPoolResetWarm (s : State) : Host.Outcome State Fault Refusal := done (s.poolResetLatch false)
/-- POOL_RESET_COLD (R341). -/
def execPoolResetCold (s : State) : Host.Outcome State Fault Refusal := done (s.poolResetLatch true)

/-! ### Joining and state transfers (R343, R344, R346, R543) -/

/-- JOIN_START (R343): JOIN goes to the contact. A device that has a number joins nothing. -/
def execJoinStart (rq : Req) (tag : Nat) (s : State) : Host.Outcome State Fault Refusal :=
  done (s.writeNum rq tag 0x2002 7 1 1 (fun s =>
    if s.numbered then (s, St.ok)
    else
      let s := s.modPool (fun p => { p with joinState := 1 })
      let t : TreeHdr := { root := 0xFFFF, term := 0, pool := s.setting 0x2002 1 }
      ((s.send (s.setting 0x2002 3) (.tree t (.join Config.identity (s.setting 0x2002 2)))).count 501 1, St.ok)))

/-- TREE_JOIN (R343): the contact checks the joiner against the manifest and sends the pool state, or refuses it; source 134. -/
def execTreeJoin (h : Hdr) (t : TreeHdr) (ident number mac : Nat) (s : State) : Host.Outcome State Fault Refusal :=
  let (s, ok) := s.rx { h with hdrOk := h.hdrOk && t.pool == s.pool.id } (.tree t (.join ident number)) true
  done (if !ok || !s.numbered then s
    else
      let s := s.count 502 1
      match s.entryOf number with
      | some e =>
        if e.ident == ident && e.macs.contains mac && !s.pool.present.contains number then
          let s := (s.sendOn 0xFFFF h.dport (.tree (s.treeHdr 0 0 false) (.state s.poolImage))).count 501 1
          (s.count 503 1).raise 136 0 (leBytes 2 number ++ leBytes 8 s.pool.gen)
        else
          (s.putFrame { peer := 0xFFFF, port := h.dport, vc := 3, body := .close St.noAccess }).raise 134 1 (leBytes 2 number ++ leBytes 16 ident)
      | none =>
        (s.putFrame { peer := 0xFFFF, port := h.dport, vc := 3, body := .close St.noAccess }).raise 134 1 (leBytes 2 number ++ leBytes 16 ident))

/-- This device's own number by its identity (R15), and what it knows of the tree from a manifest it has just read. -/
def State.findNumber (s : State) : State :=
  match s.pool.entries.find? (fun e => e.ident == Config.identity && entryOk e) with
  | some e => s.modPool (fun p => { p with number := e.dev })
  | none => s.modPool (fun p => { p with number := noDev })

/-- TREE_STATE (R344, R343, R543): the pool state is stored and goes on to the children that reported, a joining device finds its number, and every
release that was missed is applied before the device serves. An older state than its own is not taken. -/
def execTreeState (h : Hdr) (t : TreeHdr) (img : PoolImage) (s : State) : Host.Outcome State Fault Refusal :=
  let joining := s.pool.joinState == 1 || s.pool.joinState == 2
  let fromContact := joining && h.src == s.setting 0x2002 3
  let pool := if fromContact then s.setting 0x2002 1 else s.pool.id
  let (s, ok) := s.rx { h with hdrOk := h.hdrOk && t.pool == pool } (.tree t (.state img)) fromContact
  done (if !ok then s
    else
      let s := (s.count 502 1).count 503 1
      if !fromContact && decide (img.gen < s.pool.gen) then s
      else
        let older := decide (s.pool.gen < img.gen)
        let s := (s.takeImage img).raise 136 1 (leBytes 2 h.src ++ leBytes 8 img.gen)
        let s := if older && !fromContact then (s.children.filter (fun d => s.pool.gathered.contains (s.rankAt d, true))).foldl (fun s d => s.sendState d) s else s
        let s :=
          if fromContact then
            let s := s.findNumber
            if s.pool.number = s.setting 0x2002 2 ∧ s.numbered then
              (s.modPool (fun p => { p with joinState := 3, appliedGen := img.gen })).raise 134 0 (leBytes 2 s.pool.number ++ leBytes 16 Config.identity)
            else
              (s.modPool (fun p => { p with joinState := 4, number := noDev })).raise 134 1 (leBytes 2 (s.setting 0x2002 2) ++ leBytes 16 Config.identity)
          else s
        s.applyMissed)

/-- A directory entry that came by a map transfer (R346, R544): its cooldown is cleared. -/
def State.takeEnt (s : State) (e : MapEnt) : State :=
  (s.modDir e.key (fun d => { d.take { e with cooling := false, coolEnd := 0 } with dst := 0xFFFF, since := s.now })).tellHome e.key

/-- MAP_TRANSFER_ENTRIES (R346): the entries are taken; with the last of them the requests that waited go on, source 137. -/
def execMapTransferEntries (h : Hdr) (i : Nat) (ents : List MapEnt) (last : Bool) (s : State) : Host.Outcome State Fault Refusal :=
  done (s.onFrame h (.mapEntries i ents last) (fun s =>
    if (assoc s.pool.mapWait i).isNone then s
    else
      let s := ents.foldl (fun s e => s.takeEnt e) s
      if !last then s
      else
        let a := getD s.pool.mapWait i 0
        let s := s.modPool (fun p => { p with mapWait := eraseKey i p.mapWait, transfers := p.transfers.filter (fun t => t.1 != i) })
        let s := s.raise 137 1 (leBytes 2 i ++ leBytes 2 a ++ leBytes 2 s.vault)
        s.resumeLookups (fun k => mapIndex k == i)))

end Sys2Proof.Machine
end

