-- ==== Sys2Proof/Machine/Lattice.lean ====
section
/-! DEFINITION. The lattice: slot tables, the grant rule with its locks and seniority, table swaps and the inspection of ages (R355 to
R373). -/

namespace Sys2Proof.Machine

/-! ### Tables (R358 to R364) -/

/-- An arbiter. -/
def State.arb (s : State) (r : Nat) : Arb := getD s.lattice.arbs r {}

/-- An arbiter changed. -/
def State.modArb (s : State) (r : Nat) (f : Arb → Arb) : State :=
  s.modLattice (fun l => { l with arbs := modD l.arbs r {} f })

/-- Whether a resource is a Hinge port of twin role. -/
def State.twinRes (s : State) (r : Nat) : Bool := decide (16 ≤ r ∧ r < 20) && s.portRole (r - 16) == 0

/-- The default table of a resource (R360, 0x3410+r:05). -/
def State.defTable (s : State) (r : Nat) : List Nat := defaultTable r (s.twinRes r)

/-- The table in use (0x3410+r:01). -/
def State.activeTable (s : State) (r : Nat) : List Nat := if (s.arb r).active = [] then s.defTable r else (s.arb r).active

/-- The slot of a frame at a pool time (R355). -/
def State.slotAt (s : State) (t : Nat) : Nat := (t - s.lattice.origin) / 125 % 64

/-- The class an owner acts as at a pool time, under the flush override from its slot boundary on (R364). -/
def State.ownerOf (s : State) (r e t : Nat) : Nat :=
  let c := e % 8
  if !(s.lattice.ovf && decide (s.lattice.ovfAt ≤ t)) then c
  else if r < 16 ∧ 1 ≤ c ∧ c ≤ 6 then 3
  else if 20 ≤ r ∧ r < 24 ∧ c ≠ 7 then 3
  else c

/-- The entry of a table at a slot: owner and whether it may be lent. -/
def State.entryAt (s : State) (r t : Nat) : Nat × Bool :=
  let e := nth (s.activeTable r) (s.slotAt t) 8
  (s.ownerOf r e t, bit e 3)

/-- The classes that must own a slot of a resource (R361). -/
def mustOwn (r : Nat) : List Nat :=
  if r < 16 then [0, 1, 2, 3, 7]
  else if r < 20 then [0, 1, 2, 7]
  else if r < 24 then [3, 7]
  else if r = 24 then [5, 7]
  else [1, 2, 3, 7]

/-- Whether a staged table may be committed (R358, R361): reserved bits zero, and every class that must own a slot owns one. -/
def tableOk (r : Nat) (b : Bytes) : Bool :=
  b.all (fun x => decide (x.toNat < 16)) && (mustOwn r).all (fun c => b.any (fun x => x.toNat % 8 == c))

/-- The first frame boundary at least 2 µs from now (R362). -/
def State.swapTime (s : State) : Nat :=
  let o := s.lattice.origin
  o + ceilDiv (s.poolTime + 2000 - o) 8000 * 8000

/-- Tables and seniority entries of one commit wait for their swap (R362). -/
def State.pendSwap (s : State) (tables : List (Nat × List Nat)) (senior : Option (List Nat)) : State :=
  let at_ := s.swapTime
  let s := tables.foldl (fun s t => s.modArb t.1 (fun a => { a with pending := some t.2, swapAt := at_ })) s
  s.modLattice (fun l => { l with
    swapStatus := St.ok
    pendSenior := match senior with | some x => some (x, at_) | none => l.pendSenior })

/-- The resources that wait for a swap (0x3400:07). -/
def State.pendingMask (s : State) : Nat :=
  ((s.lattice.arbs.filter (fun e => e.2.pending.isSome)).map (fun e => 2 ^ e.1)).foldl (· + ·) 0

/-! ### Grants (R359, R363, R366 to R369) -/

/-- The age cap (R366). -/
abbrev ageCap : Nat := 2 ^ 19

/-- A request's age (R366). -/
def State.ageOf (s : State) (q : LReq) : Nat := if q.sat then ageCap else (s.poolTime % 2 ^ 20 + 2 ^ 20 - q.stamp) % 2 ^ 20

/-- The seniority entries in force (R368). -/
def State.seniorNow (s : State) : List Nat :=
  if s.lattice.senior = [] then (List.range 16).map (fun i => objDefault 0x3430 (i + 1)) else s.lattice.senior

/-- The head start of a requester at a resource in ns (R368). -/
def State.seniorOf (s : State) (r src : Nat) : Nat :=
  maxOf ((s.seniorNow.filter (fun e => e % 256 == src && (e / 256 % 256 == 0xFF || e / 256 % 256 == r))).map (fun e => e / 65536 * 8)) 0

/-- The key requests compete by (R367). -/
def State.keyOf (s : State) (r : Nat) (q : LReq) : Nat := min (s.ageOf q + s.seniorOf r q.src) ageCap

/-- Whether `q` goes before `b` (R367): by key, then by the place after the pointer. -/
def State.beats (s : State) (r : Nat) (q b : LReq) : Bool :=
  let p := (s.arb r).ptr
  let k := s.keyOf r q
  let kb := s.keyOf r b
  decide (kb < k) || (k == kb && decide ((q.src + 256 - p % 256) % 256 < (b.src + 256 - p % 256) % 256))

/-- The best of some requests (R367); in a tie of one requester the earlier stays. -/
def State.bestOf (s : State) (r : Nat) (l : List LReq) : Option LReq :=
  l.foldl (fun b q => match b with | none => some q | some x => if s.beats r q x then some q else some x) none

/-- Whether a lock may start (R369, R383). -/
def State.lockOk (s : State) (r : Nat) (q : LReq) : Bool :=
  let t := s.poolTime
  let a := s.arb r
  bit (s.setting 0x3400 8) q.cls && (s.entryAt r t).1 == q.cls && a.lock.isNone
  && (List.range 17).all (fun i =>
    let start := s.lattice.origin + ((t - s.lattice.origin) / 125 + i) * 125
    let e := s.entryAt r start
    decide (t + 2000 < start) || e.1 == q.cls || e.2)
  && !(a.pending.isSome && decide (a.swapAt < t + 2000))
  && !(match s.lattice.pendSenior with | some (_, at_) => decide (at_ < t + 2000) | none => false)
  && (decide (16 ≤ r) || (getD s.dram.chans r {}).ranks.all (fun k => decide (k.2.owed + 2 < s.setting 0x3500 0x0D)))

/-- The queue left after a grant, and the requests held at their sources that it has room for again (R365): they join it now, in the order they came. -/
def Arb.fill (a : Arb) (left : List LReq) (stamp : Nat) : Arb :=
  a.held.foldl (fun a q => a.join { q with stamp := stamp }) { a with queue := left, held := [] }

/-- One grant unit of a request (R356, R367): counted; a request with no units left is gone. -/
def State.grant (s : State) (r : Nat) (q : LReq) (owner : Nat) : State :=
  let t := s.poolTime
  let borrowed := q.cls != owner
  let overtook := (s.arb r).queue.any (fun x => decide (s.ageOf q < s.ageOf x) && (x.cls == q.cls || borrowed)) && decide (0 < s.seniorOf r q.src)
  let s := (s.count 352 1).count 353 (b2n borrowed)
  let s := if overtook then s.count 361 1 else s
  s.modArb r (fun a => { (a.fill (((a.queue.map (fun x => if x = q then { x with units := x.units - 1 } else x)).filter (fun x => decide (0 < x.units)))) (t % 2 ^ 20)) with
    grants := modNth a.grants q.cls (· + 1)
    borrowed := a.borrowed + b2n borrowed
    borrow := if borrowed then some q.cls else none
    longest := max a.longest (min (s.ageOf q) ageCap)
    lock := match a.lock with
      | some (src, left, stop) => if left ≤ 1 ∨ stop ≤ t then none else some (src, left - 1, stop)
      | none => none })

/-- A lock that ends at its bound with work left (R369): counted, source 194 once a second. -/
def State.lockEnds (s : State) (r : Nat) (src : Nat) : State :=
  let due : Bool := match (s.arb r).lockEvt with | some t => s.elapsed t 1000000000 | none => true
  let s := (s.count 356 1).modArb r (fun a => { a with bound := a.bound + 1 })
  if due then (s.modArb r (fun a => { a with lockEvt := some s.now })).raise 194 0 (leBytes 1 r ++ leBytes 1 src) else s

/-- A lock starts with the grant just made (R369): at most 16 units and 2 µs. -/
def State.startLock (s : State) (r : Nat) (q : LReq) : State :=
  let left := min (min q.lockLen q.units) 16 - 1
  (s.count 355 1).modArb r (fun a => { a with locks := a.locks + 1, lock := if left = 0 then none else some (q.src, left, s.poolTime + 2000) })

/-- The grant that a held lock makes (R367, R369). -/
def State.grantLocked (s : State) (r src : Nat) : State :=
  match (s.arb r).queue.find? (fun q => q.src == src && decide (0 < q.lockLen)) with
  | none => s.modArb r (fun a => { a with lock := none })
  | some q =>
    let s := s.grant r q q.cls
    if (s.arb r).lock.isNone ∧ 1 < q.units then s.lockEnds r src else s

/-- The grant rule (R359, R367) at an entry's owner. -/
def State.grantRule (s : State) (r owner : Nat) (lend : Bool) : State :=
  let q := (s.arb r).queue
  let mine := q.filter (fun x => x.cls == owner)
  match s.bestOf r (if mine ≠ [] then mine else if lend then q else []) with
  | none => (s.count 354 1).modArb r (fun a => { a with idle := a.idle + 1, borrow := none })
  | some b =>
    let ok := decide (0 < b.lockLen) && s.lockOk r b
    let s := if s.keyOf r b = ageCap then s.modArb r (fun a => { a with ptr := (b.src + 1) % 256 }) else s
    let s := s.grant r b owner
    if ok then s.startLock r b else s

/-- ARBITRATE (R363, R367): at a break point, or a slot boundary while the resource is idle. An entry that fails its parity check gives
way to the default table. -/
def execArbitrate (r : Nat) (entryParityOk : Bool) (s : State) : Host.Outcome State Fault Refusal :=
  let slot := s.slotAt s.poolTime
  let s := if entryParityOk then s
    else ((s.modArb r (fun a => { a with active := [] })).count 360 1).raise 193 0 (leBytes 1 r ++ leBytes 1 slot)
  done (match (s.arb r).lock with
    | some (src, _, stop) =>
      if stop ≤ s.poolTime then
        let (owner, lend) := s.entryAt r s.poolTime
        let more := (s.arb r).queue.any (fun q => q.src == src && decide (0 < q.lockLen))
        let s := s.modArb r (fun a => { a with lock := none })
        (if more then s.lockEnds r src else s).grantRule r owner lend
      else s.grantLocked r src
    | none =>
      let (owner, lend) := s.entryAt r s.poolTime
      s.grantRule r owner lend)

/-! ### Swaps and ages (R362, R366, R371) -/

/-- TABLE_SWAP (R362): every table and seniority entry whose boundary has come is taken; source 192. -/
def execTableSwap (s : State) : Host.Outcome State Fault Refusal :=
  let t := s.poolTime
  let due := (s.lattice.arbs.filter (fun e => e.2.pending.isSome && decide (e.2.swapAt ≤ t))).map Prod.fst
  let senior : Bool := match s.lattice.pendSenior with | some (_, at_) => decide (at_ ≤ t) | none => false
  done (if due = [] ∧ !senior then s
    else
      let s := due.foldl (fun s r => (s.modArb r (fun a => { a with
        active := a.pending.getD []
        pending := none
        gen := (a.gen + 1) % 2 ^ 32
        lock := none })).count 359 1) s
      let s := if senior then s.modLattice (fun l => { l with senior := (l.pendSenior.map Prod.fst).getD [], pendSenior := none }) else s
      let gen := maxOf (due.map (fun r => (s.arb r).gen)) 0
      s.raise 192 0 (leBytes 4 ((due.map (2 ^ ·)).foldl (· + ·) 0) ++ leBytes 4 gen ++ leBytes 1 St.ok))

/-- The first saturation of a requester at a resource in each second (R366): source 195. -/
def State.satEvent (s : State) (r : Nat) (q : LReq) : State :=
  let due : Bool := match assoc (s.arb r).satEvt q.src with | some t => s.elapsed t 1000000000 | none => true
  let s := (s.count 357 1).modArb r (fun a => { a with sats := a.sats + 1 })
  if due then
    (s.modArb r (fun a => { a with satEvt := insertKey q.src s.now a.satEvt })).raise 195 0 (leBytes 1 r ++ leBytes 1 q.src ++ leBytes 1 q.cls)
  else s

/-- AGE_INSPECTION (R366): requests whose age has reached 2^19 ns are saturated. -/
def execAgeInspection (r : Nat) (s : State) : Host.Outcome State Fault Refusal :=
  let old := (s.arb r).queue.filter (fun q => !q.sat && decide (ageCap ≤ s.ageOf q))
  let s := s.modArb r (fun a => { a with queue := a.queue.map (fun q => if !q.sat && decide (ageCap ≤ s.ageOf q) then { q with sat := true } else q) })
  done (old.foldl (fun s q => s.satEvent r q) s)

/-- ARBITER_STATS_CLEAR (R371). -/
def execArbiterStatsClear (rq : Req) (tag r : Nat) (s : State) : Host.Outcome State Fault Refusal :=
  done (s.writeNum rq tag (0x3440 + r) 0x0F 1 1 (fun s => (s.modArb r (fun a => { a with
    grants := [0, 0, 0, 0, 0, 0, 0, 0], borrowed := 0, idle := 0, locks := 0, bound := 0, longest := 0, sats := 0 }), St.ok)))

end Sys2Proof.Machine
end

