-- ==== Sys2Proof/Machine/Strongbox.lean ====
section
/-! DEFINITION. The strongbox: its descriptors, pulses, suspension timers, and the check at start (R473 to R492). -/

namespace Sys2Proof.Machine

/-! ### Descriptors (R477, R478, R488) -/

/-- The codes of a dictionary descriptor's protection (R488): an owner for a protected region's PROGRAM or ERASE and for a READ of the pool
state and the saved sets, an operator for the rest; no raw PROGRAM of an image slot. -/
def State.protFails (s : State) (op : Nat) (d : SbDesc) : List Nat :=
  match d.src with
  | .dict rq =>
    let k := regionOf d.sector
    let lvl := s.level rq
    let need := if (op = 2 ∨ op = 3) ∧ k < 11 ∧ (s.setting 0x3930 1).testBit k then 2
      else if (op = 1 ∨ op = 6) ∧ [2, 3, 6, 7].contains k then 2 else 1
    levelFails need lvl ++ fails (op == 2 && decide (k < 2)) St.prot
  | _ => []

/-- A descriptor's bytes before its check (R477). -/
def sbDescBytes (op : Nat) (d : SbDesc) : Bytes :=
  leBytes 1 op ++ leBytes 1 (b2n d.prio + 2 * (d.rsv % 2 ^ 7)) ++ leBytes 2 d.tag ++ leBytes 4 (d.off + 2 ^ 16 * d.sector + 2 ^ 27 * (d.rsv / 2 ^ 7 % 2 ^ 5)) ++
    leBytes 4 d.len ++ leBytes 8 d.buffer ++ leBytes 8 (d.rsv / 2 ^ 12)

/-- Whether a descriptor's check is the CRC-32C of its bytes 0 to 27 (R477). -/
def sbDescChecks (op : Nat) (d : SbDesc) : Bool := d.check == crc32cOf (sbDescBytes op d)

/-- The codes of a descriptor's form (R477). -/
def formFails (op : Nat) (d : SbDesc) : List Nat :=
  let lenOk : Bool :=
    if op = 1 ∨ op = 6 then decide (1 ≤ d.len ∧ d.len ≤ 65536)
    else if op = 2 then decide (256 ≤ d.len ∧ d.len ≤ 65536 ∧ d.len % 256 = 0 ∧ d.off % 256 = 0)
    else d.len == 0
  let last := d.sector + (d.off + d.len - 1) / 65536
  fails (d.rsv != 0 || !sbDescChecks op d || !lenOk || !(decide (1 ≤ op ∧ op ≤ 6)) || (srcIsDict d.src && d.buffer != 0)) St.badDescriptor ++
    fails (decide (1998 < d.sector) || (op != 2 && decide (1998 < last)) || (op == 2 && decide (65536 < d.off + d.len))) St.badRange

/-- A descriptor is submitted (R477): its checks, its room, and then its turn. The status is what a write of 0x3920:01 answers. -/
def State.sbSubmit (s : State) (op : Nat) (d : SbDesc) (bad : List Nat) : State × Nat :=
  let prot := s.protFails op d
  let code := lowest (formFails op d ++ prot)
  let s := if !sbDescChecks op d then s.raise 278 0 (sbSrcBytes d.src ++ leBytes 2 d.tag) else s
  let s := if prot ≠ [] then s.raise 279 0 (sbSrcBytes d.src ++ leBytes 1 (regionOf d.sector) ++ leBytes 1 op) else s
  let own := s.sbOut (fun x => x == d.src)
  let busy : Bool := decide (64 ≤ s.sbOut (fun _ => true)) || (srcIsDict d.src && (decide (1 ≤ own) || decide (4 ≤ s.sbOut srcIsDict)))
  if code ≠ St.ok then (s.sbComplete d code 0 0 false false [], code)
  else if busy then (if srcIsDict d.src then s else s.emit (.sbDone d.src d.tag St.busy 0 0 false false []), St.busy)
  else if op = 2 ∧ d.poison then (s.sbComplete d St.poisonHalt 0 0 false false [], St.ok)
  else if op = 4 then ((s.sbSuspendNow d).sbPump, St.ok)
  else if op = 5 then ((s.sbResumeNow d).sbPump, St.ok)
  else
    let data := match d.src with | .dict rq => reqGet s.sbox.buffers rq [] | _ => d.data
    ((s.modSbox (fun b => { b with queue := b.queue ++ [{ op := op, d := { d with data := data }, bad := bad }] })).sbPump, St.ok)

/-- SB_READ (R478). -/
def execSbRead (d : SbDesc) (bad : List Nat) (s : State) : Host.Outcome State Fault Refusal := done (s.sbSubmit 1 d bad).1

/-- SB_PROGRAM (R479). -/
def execSbProgram (d : SbDesc) (s : State) : Host.Outcome State Fault Refusal := done (s.sbSubmit 2 d []).1

/-- SB_ERASE (R481). -/
def execSbErase (d : SbDesc) (s : State) : Host.Outcome State Fault Refusal := done (s.sbSubmit 3 d []).1

/-- SB_SUSPEND (R482). -/
def execSbSuspend (d : SbDesc) (s : State) : Host.Outcome State Fault Refusal := done (s.sbSubmit 4 d []).1

/-- SB_RESUME (R482). -/
def execSbResume (d : SbDesc) (s : State) : Host.Outcome State Fault Refusal := done (s.sbSubmit 5 d []).1

/-- SB_MARGIN_READ (R478). -/
def execSbMarginRead (d : SbDesc) (bad : List Nat) (s : State) : Host.Outcome State Fault Refusal := done (s.sbSubmit 6 d bad).1

/-! ### Journals (R476) -/

/-- The key and the sequence of a page that passes as a journal record. -/
def recordOf (b : Bytes) : Option (Nat × Nat) :=
  if fromLe (b.drop 252) = crc32cOf (b.take 252) ∧ b.length = 256 ∧ field b 6 2 ≤ 244 then some (field b 0 2, field b 2 4) else none

/-- The records of a list of physical sectors: key, sequence, sector, bytes. -/
def State.records (s : State) (ps : List Nat) : List (Nat × Nat × Nat × Bytes) :=
  ps.flatMap (fun p => (s.sector p).pages.filterMap (fun e => (recordOf e.2).map (fun r => (r.1, r.2, p, e.2))))

/-- The record in force of each key: the one with the highest sequence, in key order. -/
def liveRecords (l : List (Nat × Nat × Nat × Bytes)) : List (Nat × Nat × Nat × Bytes) :=
  (l.foldl (fun (m : List (Nat × Nat × Nat × Bytes)) r =>
    match assoc m r.1 with
    | some x => if x.1 < r.2.1 then insertKey r.1 r.2 m else m
    | none => insertKey r.1 r.2 m) [])

/-- The physical sectors of region 10's journal. -/
def State.journal (s : State) : List Nat :=
  ((List.range 16).map (fun i => s.sbox.physOf (s.sbox.frameOf (746 + i)))).filter (fun p => !s.sbox.badFrames.contains (s.sbox.frameAt p))

/-- The compaction of region 10's journal (R476): once its next page would fall in its last erased sector, the live record of every
key is copied forward in key order, and the sectors that hold only superseded records are erased. -/
def State.compact (s : State) : State :=
  let ps := s.journal
  let blank := ps.filter (fun p => (s.sector p).pages == [])
  let full := ps.all (fun p => (s.sector p).pages == [] || (s.sector p).pages.length == 256)
  match blank with
  | [t] =>
    if !full then s
    else
      let live := liveRecords (s.records ps)
      let copied := live.take 256
      let left := live.drop 256
      let s := s.modSector t (fun x => { x with pages := (List.range copied.length).zip (copied.map (fun r => r.2.2.2)) })
      let old := ps.filter (fun p => p != t && !left.any (fun r => r.2.2.1 == p))
      s.modSbox (fun b => { b with queue := b.queue ++ old.map (fun p =>
        { op := 3, d := { src := .firmware, sector := b.logicalOf (b.frameAt p) } }) })
  | _ => s

/-! ### Pulses (R479, R480) -/

/-- A program or an erase in one of the recorder's areas has failed (R502): source 293. -/
def State.recorderFailed (s : State) (l page status : Nat) : State :=
  let k := regionOf l
  if k = 8 ∨ k = 9 then s.raise 293 0 (leBytes 1 (k - 8) ++ leBytes 2 page ++ leBytes 1 status) else s

/-- A program ends; its sector has been Weak once more where a page took more than 12 pulses (R480). -/
def State.progEnds (s : State) (n : Nat) (g : SbProg) (status : Nat) : State :=
  let p := s.entryPhys g.entry
  let s := s.modPlane n (fun x => { x with prog := none })
  let s := if g.weak then s.modSector p (fun x => { x with weak := x.weak + 1, due := x.due || decide (3 ≤ x.weak + 1) }) else s
  ((s.sbComplete g.entry.d status (256 * g.done) g.most false g.weak []).suspendCheck n).sbPump

/-- PAGE_PULSE_DONE (R479, R480): a program pulse and its verify. -/
def execPagePulseDone (plane : Nat) (verified : Bool) (s : State) : Host.Outcome State Fault Refusal :=
  done (match (s.plane plane).prog with
    | none => s
    | some g =>
      let d := g.entry.d
      let p := s.entryPhys g.entry
      let k := g.pulses + 1
      let g := { g with pulses := k, most := max g.most k, weak := g.weak || decide (12 < k) }
      let page := d.off / 256 + g.done
      if verified then
        let bytes := (d.data.drop (256 * g.done)).take 256
        let s := s.modSector p (fun x => { x with pages := insertKey page (bytes ++ List.replicate (256 - bytes.length) 0) x.pages })
        let g := { g with done := g.done + 1, pulses := 0 }
        if 256 * g.done = d.len then
          let s := if regionOf d.sector = 10 then s.compact else s
          s.progEnds plane g St.ok
        else s.modPlane plane (fun x => { x with prog := some g })
      else if k = 16 then
        let s := s.modSector p (fun x => { x with due := true, progFails := min (x.progFails + 1) 255 })
        ((s.raise 272 0 (leBytes 2 d.sector ++ leBytes 2 page ++ leBytes 1 k)).recorderFailed d.sector page St.programFail).progEnds plane g St.programFail
      else s.modPlane plane (fun x => { x with prog := some g }))

/-- The erase of a plane has failed (R486, R487): it goes on on the lowest unused spare, or ends with ERASE_FAIL. -/
def State.eraseFailed (s : State) (n : Nat) : State :=
  let x := s.plane n
  if s.sbox.spares < 32 then
    let new := 2016 + s.sbox.spares
    let s := (s.takeSpare x.phys).modSector new (fun y => { y with pending := true })
    s.modPlane n (fun y => { y with
      state := if s.sbox.flushHold then 5 else 2
      phys := new
      entry := y.entry.map (fun e => { e with phys := some new, retired := true })
      pulses := 0
      since := s.now })
  else
    let s := (s.frameBad x.phys).modPlane n (fun y => { y with state := 0, entry := none })
    (match x.entry with
      | some e => if e.op = 3 then ((s.sbComplete e.d St.eraseFail 0 (min x.pulses 255) false false []).countErase).recorderFailed e.d.sector 0 St.eraseFail else s
      | none => s).sbPump

/-- A sector of a dirty map area is erased (R239): the area's map is no longer whole, and with its 64th sector it is erased and ready. -/
def State.mapSectorErased (s : State) (l : Nat) : State :=
  let a := regionOf l
  if a ≠ 4 ∧ a ≠ 5 then s
  else if !(nth s.persist.maps (a - 4) {}).valid then s
  else
    let set := addSet l s.sbox.mapErased
    if (set.filter (fun x => regionOf x == a)).length = 64 then
      (s.modSbox (fun b => { b with mapErased := b.mapErased.filter (fun x => regionOf x != a) })).modPersist (fun p =>
        { p with maps := setNth p.maps (a - 4) {} })
    else (s.modSbox (fun b => { b with mapErased := set })).modPersist (fun p =>
        { p with maps := modNth p.maps (a - 4) (fun m => { m with incomplete := true }) })

/-- What waited for an erased map area goes on (R233, R239): a restore, or a resume whose delay is over. -/
def State.mapNowReady (s : State) : State :=
  if s.persist.state = 1 then s.restoreOpen
  else if s.persist.state = 4 ∧ s.power.pfail = 0 ∧ s.power.deassertAt = none then s.resumeService
  else s

/-- The erase of a plane has completed (R480, R481, R484, R490). -/
def State.eraseDone (s : State) (n : Nat) : State :=
  let x := s.plane n
  let f := s.sbox.frameAt x.phys
  let weak := decide (32 < x.pulses)
  let s := s.modSector x.phys (fun y =>
    let w := if weak then y.weak + 1 else y.weak
    { y with pages := [], pending := false, erases := y.erases + 1, weak := w, due := y.due || decide (3 ≤ w) })
  let s := (s.modSbox (fun b => { b with total := b.total + 1 })).modPlane n (fun y => { y with state := 0, entry := none })
  let c := (s.sector x.phys).erases
  let s := if 90000 ≤ c ∧ !s.sbox.warned.contains f then
      (s.modSbox (fun b => { b with warned := addSet f b.warned })).raise 281 0 (leBytes 2 f ++ leBytes 4 c)
    else s
  match x.entry with
  | some e =>
    if e.op = 3 then
      let s := (s.sbComplete e.d St.ok 0 (min x.pulses 255) e.retired weak []).countErase
      ((s.mapSectorErased e.d.sector).sbPump).mapNowReady
    else s.sbPump
  | none => s.sbPump

/-- ERASE_PULSE_DONE (R479, R487): an erase pulse and its verify. -/
def execErasePulseDone (plane : Nat) (verified : Bool) (s : State) : Host.Outcome State Fault Refusal :=
  let x := s.plane plane
  done (
    if x.state ≠ 2 then s
    else
      let s := s.modPlane plane (fun y => { y with pulses := y.pulses + 1 })
      if verified then s.modPlane plane (fun y => { y with state := 3, flag := 0 })
      else if x.pulses + 1 = 40 then s.eraseFailed plane
      else s)

/-- FLAG_CELL_PULSE_DONE (R479, R481): a pulse of the flag cell and its verify. A flag that does not verify within its limit counts as a
failed erase (log entry 45). -/
def execFlagCellPulseDone (plane : Nat) (verified : Bool) (s : State) : Host.Outcome State Fault Refusal :=
  let x := s.plane plane
  done (
    if x.state = 1 then
      if verified then
        (s.modSector x.phys (fun y => { y with pending := true })).modPlane plane (fun y => { y with
          state := if s.sbox.flushHold then 5 else 2
          since := s.now })
      else if x.flag + 1 = 4 then s.eraseFailed plane
      else s.modPlane plane (fun y => { y with flag := y.flag + 1 })
    else if x.state = 3 then
      if verified then s.eraseDone plane
      else if x.flag + 1 = 8 then s.eraseFailed plane
      else s.modPlane plane (fun y => { y with flag := y.flag + 1 })
    else s)

/-! ### Suspension timers (R482) -/

/-- SUSPEND_HOLD_EXPIRY (R482). -/
def execSuspendHoldExpiry (plane : Nat) (s : State) : Host.Outcome State Fault Refusal :=
  let x := s.plane plane
  done (if x.state = 4 ∧ x.prog.isNone ∧ s.elapsed x.suspAt (s.setting 0x3900 9) then (s.resumeErase plane).sbPump else s)

/-- MIN_RUN_TIME_ELAPSED (R482): a Priority descriptor that waits suspends the erase now. -/
def execMinRunTimeElapsed (plane : Nat) (s : State) : Host.Outcome State Fault Refusal :=
  done (if (s.plane plane).state = 2 ∧ s.ranLong plane then s.sbPump else s)

/-! ### Start (R489) -/

/-- The work in hand is lost with the power or a reset (R481, R482): the flag of a sector whose flag cell was being programmed reads
either way, and a page in hand is as it was (R10). -/
def State.sbCut (s : State) : State :=
  let s := s.sbox.planes.foldl (fun s e =>
    if e.2.state = 1 then (s.modSector e.2.phys (fun y => { y with pending := y.pending || (Config.freeNat s.fresh) % 2 == 1 })).tick
    else if e.2.state ≠ 0 then s.modSector e.2.phys (fun y => { y with pending := true })
    else s) s
  s.modSbox (fun b => { b with planes := [], queue := [], flushHold := false, buffers := [], lastDone := [], moveDue := false, since := b.bootSince })

/-- The pages of region 10's journal that do not pass as records: physical sector and bytes. -/
def State.tornRecords (s : State) : List Bytes :=
  s.journal.flatMap (fun p => (s.sector p).pages.filterMap (fun e => if (recordOf e.2).isNone then some e.2 else none))

/-- The sectors that a compaction cut short has left to erase (R476, R489): no sector of the journal is blank, and every record in force of
them stands in the sector that the records were copied to as well. -/
def State.uncompacted (s : State) : List Nat :=
  let ps := s.journal
  if ps.any (fun p => (s.sector p).pages == []) then []
  else match ps.find? (fun p => decide ((s.sector p).pages.length < 256)) with
    | none => []
    | some t =>
      let all := s.records ps
      let kept := s.records [t]
      ps.filter (fun p => p != t && (s.records [p]).all (fun r =>
        all.any (fun x => x.1 == r.1 && decide (r.2.1 < x.2.1)) || kept.any (fun x => x.1 == r.1 && x.2.1 == r.2.1)))

/-- Region 10's journal at a start (R489 step 4): torn records are discarded, and a compaction that was cut short is completed; source 277
records each. A torn record stays in its page and is passed over, as one that does not pass its CRC-32C is never in force. -/
def State.journalCheck (s : State) : State :=
  let s := s.tornRecords.foldl (fun s b => s.raise 277 0 (leBytes 1 10 ++ leBytes 2 (field b 0 2) ++ leBytes 4 (field b 2 4))) s
  let old := s.uncompacted
  if old = [] then s
  else
    let s := old.foldl (fun s p =>
      (s.modSector p (fun y => { y with pages := [], erases := y.erases + 1 })).modSbox (fun b => { b with total := b.total + 1 })) s
    s.raise 277 1 (leBytes 1 10 ++ leBytes 2 0 ++ leBytes 4 0)

/-- The strongbox check of phase 1 (R489): every sector whose flag reads pending is erased again (source 275), and the gap frame if it is
not blank; then the journal is checked. -/
def State.sbCheck (s : State) : State :=
  let dirty := (s.sbox.sectors.filter (fun e => e.2.pending)).map Prod.fst
  let s := dirty.foldl (fun s p =>
    let l := s.sbox.logicalOf (s.sbox.frameAt p)
    let s := (s.modSector p (fun y => { y with pages := [], pending := false, erases := y.erases + 1 })).modSbox (fun b => { b with total := b.total + 1 })
    (s.mapSectorErased l).raise 275 0 (leBytes 2 l ++ leBytes 1 (regionOf l))) s
  let g := s.sbox.physOf s.sbox.gap
  let s := if (s.sector g).pages = [] then s
    else (s.modSector g (fun y => { y with pages := [], erases := y.erases + 1 })).modSbox (fun b => { b with total := b.total + 1 })
  s.journalCheck

end Sys2Proof.Machine
end

