-- ==== Sys2Proof/Machine/ResetOps.lean ====
section
/-! DEFINITION. Resets: what each kind keeps and discards (R525 to R527), the saved set (R54, R56), phase 1 of the start (R529), the
population check (R374 to R376), and the role a device takes at its start (R236, R277). -/

namespace Sys2Proof.Machine

/-! ### What an owner adds to a range (R43, R46) -/

/-- The address bits that hold row or chip ID bits in the fitted geometry (R377, R378). -/
def State.hashBits (s : State) : Nat :=
  let c := s.dram.colBits
  let l := 9 - c
  let low := 2 ^ 21 - 2 ^ (12 + c)
  let high := 2 ^ (25 + s.dram.chipBits + s.dram.rowBits - l) - 2 ^ 25
  low + high

/-- Whether a counter takes a sample period (R511): its own event, or the one a general-purpose counter selects, counts requests, lines,
frames or grants. -/
def State.takesPeriod (s : State) (n : Nat) : Bool :=
  if n < 896 then samples n else decide (0x400 ≤ s.setting (0xB000 + n) 2) && samples (s.setting (0xB000 + n) 2 - 0x400)

/-- The failed checks that an object's own chapter gives beside its table row (among them R288: a twin port carries only direct frames). A
drive state that is neither 0 nor 1 is no write R220 gives: refused, DESIGN CHOICE, log entry 75. -/
def State.ruleFails (s : State) (idx sub : Nat) (b : Bytes) : List Nat :=
  let v := fromLe b
  let n := idx - 0xB000
  if idx = 0x2200 ∧ sub = 1 then fails (v == 2 && s.twinListed) St.badRange
  else if idx = 0x2004 ∧ sub = 3 then fails (!s.vaults.contains v) St.badRange
  else if idx = 0x3430 then fails (decide (25 < v / 256 % 256) && v / 256 % 256 != 0xFF) St.badRange
  else if idx = 0x3500 ∧ 6 ≤ sub ∧ sub ≤ 0xB then fails (v &&& s.hashBits != v) St.badRange
  else if idx = 0x3B10 ∧ sub = 2 then
    fails (decide (s.rec_.sWritten - s.rec_.sRead < (v + 2 ^ 32 - s.rec_.sRead % 2 ^ 32) % 2 ^ 32)) St.badRange
  else if 0x2210 ≤ idx ∧ idx ≤ 0x2213 ∧ sub = 5 then fails (v == 1 && s.portRole (idx - 0x2210) == 0) St.badRange
  else if 0x3340 ≤ idx ∧ idx ≤ 0x334F ∧ sub = 1 then fails (decide (1 < v)) St.badRange
  else if 0x3010 ≤ idx ∧ idx ≤ 0x3017 then fails (!s.portExists (idx - 0x3010)) St.badRange
  else if 0xB000 ≤ idx ∧ idx < 0xB400 then
    match sub with
    | 2 => fails (decide (n < 896)) St.readOnly
    | 3 => fails (v == 1 && n % 8 == 0) St.badRange
    | 6 => fails (v != 0 && !s.takesPeriod n) St.badRange
    | _ => []
  else []

/-! ### The saved set (R54 to R56) -/

/-- The objects that are pool state and no part of a saved set (R38, R55). -/
def poolState (k : Nat) : Bool := poolObject k || [okey 0x2010 2, okey 0x2010 4, okey 0x2010 8, okey 0x2001 4, okey 0x2004 3].contains k

/-- The newer valid saved set (R54, R56). -/
def Dict.newest (d : Dict) : Option SavedSet :=
  if d.savedA.valid then (if d.savedB.valid && decide (d.savedA.gen < d.savedB.gen) then some d.savedB else some d.savedA)
  else if d.savedB.valid then some d.savedB
  else none

/-- Whether a saved value is one its object may hold now (R46, R56): of its type, in the table's range and in the range its chapter gives for
the present state. -/
def State.savedOk (s : State) (k v : Nat) : Bool :=
  match objFind (k / 256) (k % 256) with
  | some o =>
    (o.acc == .rws || o.acc == .rwc) && !poolState k && decide (valEnc o.ty (valDec o.ty v) = v) && rangeOk o (k / 256) (k % 256) (valDec o.ty v) &&
      s.ruleFails (k / 256) (k % 256) (valDec o.ty v) == []
  | none => false

/-- The saved set loads (R56, R85): source 7 where no set is valid, and for the first object whose saved value cannot stand. -/
def State.loadSaved (s : State) : State :=
  match s.dict.newest with
  | none => s.raise 7 0 (leBytes 4 0 ++ leBytes 4 0)
  | some set =>
    let good := set.entries.filter (fun e => s.savedOk e.1 e.2)
    let bad := set.entries.find? (fun e => !s.savedOk e.1 e.2)
    let s := s.modSettings (fun l => good.foldl (fun l e => insertKey e.1 e.2 l) l)
    match bad with
    | some e => s.raise 7 0 (leBytes 4 set.gen ++ leBytes 4 e.1)
    | none => s

/-- The session numbers whose record names an odd port, enabled or not (R85). -/
def State.oddSessions (s : State) : List Nat :=
  (s.settings.filter (fun e => e.1 % 256 = 3 && decide (0x4000 ≤ e.1 / 256 ∧ e.1 / 256 < 0x8000) && e.2 % 2 == 1)).map (fun e => e.1 / 256 - 0x4000)

/-- Under four ports a saved session of a port that does not exist loads with Enable false and state 0 (R85): source 16+4q. -/
def State.dropOddSessions (s : State) : State :=
  if s.host.bifur = 0 then s
  else s.oddSessions.foldl (fun s n =>
    (s.setSetting (0x4000 + n) 2 0).raise (16 + 4 * (s.setting (0x4000 + n) 3 - 1)) 0 (leBytes 2 n)) s

/-- The sessions a loaded set binds (R56, R95). -/
def State.bindSaved (s : State) : State :=
  ((s.settings.filter (fun e => e.1 % 256 = 2 && decide (0x4000 ≤ e.1 / 256 ∧ e.1 / 256 < 0x8000) && e.2 == 1)).map (fun e => e.1 / 256 - 0x4000)).foldl
    (fun s n => s.bindSession n) s

/-- A saved table of a resource and saved seniority entries stand as if committed now (R360). -/
def State.pendSaved (s : State) : State :=
  let tabs := (List.range 26).filterMap (fun r => (assoc s.settings (okey (0x3410 + r) 2)).map (fun v => (r, (leBytes 64 v).map (fun b => b.toNat))))
  let sen := s.settings.any (fun e => e.1 / 256 == 0x3430)
  if tabs = [] ∧ !sen then s
  else s.pendSwap tabs (if sen then some ((List.range 16).map (fun i => s.setting 0x3430 (i + 1))) else none)

/-! ### What a reset keeps (R527) -/

/-- The dictionary server after a reset: saved sets, password, its failures, and factory access are kept. -/
def Dict.afterReset (d : Dict) (cold : Bool) : Dict where
  savedA := d.savedA
  savedB := d.savedB
  pwSalt := d.pwSalt
  pwHash := d.pwHash
  pwSet := d.pwSet
  fails := d.fails
  refuseUntil := d.refuseUntil
  discarded := if cold then 0 else d.discarded
  eids := if cold then [] else d.eids
  i3c := if cold then [] else d.i3c
  jtag := d.jtag

/-- Placement after a reset: the metadata that is kept, or rebuilt and restored (R178, R237), hints among it (R190); copies, moves not committed, heat
and the translation cache are gone; an allocation in hand starts again, and a rebuild asks again. A warm reset, over which pool time runs on, counts
its epoch from the reset (R166). -/
def State.placeAfter (s : State) (cold : Bool) : Place :=
  let p := s.place
  { dir := p.dir.map (fun e => (e.1, { e.2 with
      state := if e.2.state = 1 then 0 else e.2.state
      copies := []
      waiting := []
      dst := if e.2.state = 3 then e.2.dst else 0xFFFF }))
    cooling := p.cooling
    tombs := p.tombs
    slots := p.slots.filter (fun e => match e.2 with | .home _ => true | .kept _ => true | _ => false)
    spare := p.spare
    hints := p.hints
    rebuilds := p.rebuilds.map (fun r => { r with since := s.now })
    migs := p.migs.filter (fun m => m.phase == 4)
    nextTok := p.nextTok
    epoch := p.epoch
    epochAt := if cold then 0 else s.poolTime }

/-- Persistence after a reset. Both kinds keep what stands on the drives and in the strongbox, and the mirror sequence, no number of which is used
twice within a claim (R204); a warm reset keeps what stands in DRAM: the dirty bitmap. -/
def Persist.afterReset (p : Persist) (cold active : Bool) : Persist :=
  let x : Persist := {
    drives := p.drives.map (fun d => (d.1, { d.2 with state := 0, rebuild := [], marked := 0, fails := if cold then 0 else d.2.fails }))
    header := p.header
    poisonTab := p.poisonTab
    oldHome := p.oldHome
    seq := p.seq
    horizon := p.seq
    maps := p.maps.take 2
    mapArea := p.mapArea
    sealRec := p.sealRec
    arrivals := p.arrivals
    nextId := p.nextId
    pointNo := p.pointNo
    pointStatus := p.pointStatus
    pointLatch := p.pointLatch
    pointMissed := p.pointMissed }
  if cold then x
  else { x with
    applied := if active then [p.seq, p.seq] else p.applied
    dirty := p.dirty
    fresh := p.fresh
    lastSeq := p.lastSeq
    shadow := if active then p.dirty else p.shadow }

/-- The twin unit after a reset: the claim record and table are kept; a warm reset keeps the resync marks, with one for every record
the twin had not acknowledged (R273). -/
def State.twinAfter (s : State) (cold : Bool) : Twin :=
  let t := s.twin
  let x : Twin := { claim := t.claim, claims := t.claims, watchdog := s.now, lastLife := s.now, lastFrame := s.now, resyncAll := cold || t.resyncAll }
  if cold then x
  else
    let grans := s.persist.unacked.map (fun r => slotGran r.run.slot (r.run.line / 64))
    { x with resync := grans.foldl (fun l g => addSet g l) t.resync, tags := t.tags, atoms := t.atoms, stale := t.stale }

/-- The Hinge after a reset: every port and connection is down; a failed lane stays failed over a warm reset (R284). Pool time is kept over a warm reset, in holdover where it was locked; a
cold reset starts it at 0. -/
def State.hingeAfter (s : State) (cold : Bool) : Hinge :=
  let h := s.hinge
  let x : Hinge := { roles := h.roles, epoch := h.epoch, wrapped := h.wrapped, ether := h.ether, udp := h.udp }
  if cold then { x with base := -(s.now : Int) }
  else { x with ports := (h.ports.filter (fun p => p.2.badLanes != [])).map (fun p => (p.1, { badLanes := p.2.badLanes })), base := h.base, freq := h.freq, steps := h.steps, ptpAcc := if h.ptpAcc = 1 then 2 else h.ptpAcc }

/-- The pool unit after a reset: pool state survives (R527); the device has no number until phase 3 finds it (R15). -/
def Pool.afterReset (p : Pool) : Pool where
  id := p.id
  gen := p.gen
  manGen := p.manGen
  entries := p.entries
  dirMap := p.dirMap
  seen := p.seen
  opNo := p.opNo
  vols := p.vols
  lastNumber := p.lastNumber
  releases := p.releases
  appliedGen := p.appliedGen
  shares := p.shares

/-- The recorder's sequence and buffer at a start (R501): the tails are read back; after an unclean end the sequence goes on 4,097 beyond
the highest one in the strongbox. -/
def Recorder.restart (r : Recorder) : Recorder × Bool :=
  let kept := r.circ ++ r.circTail ++ r.first ++ r.firstTail
  let clean := r.tailClean || (kept == [] && r.next == 0)
  ({ r with
    buf := r.circTail
    firstPend := r.firstTail
    next := if clean then r.next else match kept with
      | [] => 0
      | _ => maxOf (kept.map Rec.seq) 0 + 4097
    lostLow := none
    lostNow := 0 }, clean)

/-- The recorder and the counters after a reset (R527): occurrence counts are cleared by a cold reset alone, counters and samples by
both. -/
def Recorder.afterReset (r : Recorder) (cold : Bool) : Recorder where
  srcs := if cold then [] else r.srcs.map (fun e => (e.1, { e.2 with pending := false }))
  next := r.next
  circ := r.circ
  circTail := r.circTail
  first := r.first
  firstTail := r.firstTail
  firstFull := r.firstFull
  tailClean := r.tailClean
  lost := if cold then 0 else r.lost

/-- Data protection after a reset: a cold reset loses the poison with the lines; the marks of devices wait for their DIMM (R412). -/
def Ecc.afterReset (e : Ecc) (cold : Bool) : Ecc :=
  if cold then { badDimm := e.badDimm }
  else { poisoned := e.poisoned, list := e.list, overflow := e.overflow, chans := e.chans, passEnd := e.passEnd, scrubbed := e.scrubbed, badDimm := e.badDimm }

/-- The cipher engine after a reset (R439): key material is lost by a cold reset alone. -/
def Cipher.afterReset (c : Cipher) (cold : Bool) : Cipher where
  slots := c.slots.map (fun e => (e.1, if cold ∧ (e.2.state = 1 ∨ e.2.state = 3) then { e.2 with state := 0, key := 0 } else e.2))
  faults := if cold then 0 else c.faults

/-- The steward after a reset: engines and clusters start anew; the images stay, and one whose load was cut is Invalid (R457). -/
def Steward.afterReset (w : Steward) (cold : Bool) : Steward where
  engines := if cold then [] else w.engines.map (fun e => (e.1, { traps := e.2.traps }))
  running := w.running
  images := w.images.map (fun i => if i.state = 3 then { i with state := 0, factory := false, version := 0, iface := 0, size := 0 } else i)

/-- DRAM after a reset (R390, R527): contents in self-refresh, masks, training and ranks are kept over a warm reset, a frozen channel's too (R401);
after a cold one every channel waits for its training. A channel whose training a warm reset cuts is trained after it. -/
def State.dramAfter (s : State) (cold : Bool) : Dram :=
  let d := s.dram
  { d with
    waiting := []
    reading := none
    readData := []
    frozen := if cold then 0xFF else d.frozen
    chans := d.chans.map (fun c => (c.1, { c.2 with
      state := if cold then 0 else if c.2.state = 2 ∨ c.2.state = 5 then 4 else c.2.state
      alert := []
      failRun := 0
      leaving := 0
      episodes := if cold then 0 else c.2.episodes
      fails := if cold then 0 else c.2.fails
      captured := if cold then none else c.2.captured
      selfSince := s.now
      ranks := c.2.ranks.map (fun r => (r.1, { r.2 with owed := 0, doubled := false, hotAt := none })) })) }

/-- Whether the junction has read below the throttle temperature for 10 s (R535). -/
def State.cooled (s : State) : Bool := match s.power.coolSince with
  | some t => s.elapsed t 10000000000
  | none => false

/-- The power unit as a reset begins. A device that left for heat returns by a warm reset an operator writes to 0x1F00:04 once it is cool (R535). -/
def State.powerAfter (s : State) (cold : Bool) (cause : Nat) : Power :=
  let p := s.power
  { p with
    state := if cold then 1 else if p.state = 3 then 2 else p.state
    limiting := false
    throttling := false
    highest := if cold then p.temp else p.highest
    hotSince := none
    evac := p.evac && !cold && !(cause == 4 && s.cooled)
    tripped := p.tripped && !cold
    asserts := if cold then 0 else p.asserts
    reminded := none
    inReset := true
    warmReset := !cold
    cause := cause
    warm := if cold then 0 else p.warm + 1
    deferred := none
    phase := 0
    failStep := 0
    blocked := false
    coldAt := if cold then s.now else p.coldAt
    resetAt := s.now
    regFault := false
    ucie := [0, 1]
    ucieLanes := if cold then [] else p.ucieLanes }

/-- A reset begins (R525 to R527): the device holds what this kind keeps, and nothing else. A cold cause overrides a warm reset that is
running; any other reset that arrives meanwhile only lengthens the one that runs. -/
def State.enterReset (s : State) (cold : Bool) (cause : Nat) : State :=
  if s.power.inReset && !(cold && s.power.warmReset) then s
  else
    let active := s.isActive
    let s := s.sbCut
    { s with
      mem := if cold then [] else s.mem
      settings := s.settings.filter (fun e => poolState e.1)
      dict := s.dict.afterReset cold
      pace := { volt := if cold then 880 else s.pace.volt, vault := s.pace.vault, steward := s.pace.steward }
      host := {
        mode := s.host.mode
        bifur := s.host.bifur
        nextNum := s.host.nextNum
        ports := if cold then [] else s.host.ports.map (fun e => (e.1, { retrains := e.2.retrains })) }
      rings := if cold then { nextWork := s.rings.nextWork } else
        { nextWork := s.rings.nextWork, completed := s.rings.completed, notOk := s.rings.notOk, bytes := s.rings.bytes }
      place := s.placeAfter cold
      persist := s.persist.afterReset cold active
      twin := s.twinAfter cold
      hinge := s.hingeAfter cold
      pool := s.pool.afterReset
      lattice := {}
      dram := s.dramAfter cold
      ecc := s.ecc.afterReset cold
      cipher := s.cipher.afterReset cold
      steward := s.steward.afterReset cold
      rec_ := s.rec_.afterReset cold
      power := s.powerAfter cold cause }

/-- A reset that a flush of the recorder goes before (R500). -/
def State.flushedReset (s : State) (cold : Bool) (cause : Nat) : State :=
  let s := s.modRec recFlush
  s.enterReset cold cause

/-- A warm reset, or a reset asked for through the dictionary: during a flush it waits for Sealed or Closed (R526). -/
def State.askReset (s : State) (cold : Bool) (cause : Nat) : State :=
  if s.persist.state = 3 then
    s.modPower (fun p => { p with deferred := match p.deferred with
      | some (true, c) => some (true, c)
      | _ => some (cold, cause) })
  else s.flushedReset cold cause

/-! ### Phase 1 (R529) -/

/-- A step of phase 1 failed: the first that did is recorded with the start (R529); `block`: the device stays in Starting. -/
def State.failStep (s : State) (step : Nat) (block : Bool) : State :=
  s.modPower (fun p => { p with failStep := if p.failStep = 0 then step else p.failStep, blocked := p.blocked || block })

/-- Which of the units of a step failed: the codes of a start are 1 boot ROM, 4 boot record, 20+m UCIe module, 30+c cluster, 50+i image
slot, 60+k checker bit, 80+p cipher pipeline. -/
def failedOf (failed : List Nat) (base n : Nat) : List Nat := (List.range n).filter (fun i => failed.contains (base + i))

/-- Step 2: UCIe (R515, R529). -/
def State.startUcie (s : State) (failed : List Nat) : State :=
  let bad := failedOf failed 20 2
  if bad = [] then s
  else
    let s := (s.modPower (fun p => { p with ucie := p.ucie.filter (fun m => !bad.contains m) })).failStep 2 (bad.length == 2)
    if bad.length = 2 then s else s.raise 307 0 (leBytes 1 (nth bad 0 0))

/-- Step 3: the steward's self-test (R454, R529). -/
def State.startSteward (s : State) (failed : List Nat) : State :=
  let bad := failedOf failed 30 6
  if bad = [] then s
  else
    let s := bad.foldl (fun s c => (s.modCluster c (fun k => { k with state := 3 })).raise 10 0 (leBytes 1 c ++ leBytes 1 3)) s
    s.failStep 3 (decide (3 < bad.length) || (bad.contains 0 && bad.contains 5))

/-- Whether an image slot may be booted: it holds an image that passes its CRC. -/
def State.bootable (s : State) (failed : List Nat) (i : Nat) : Bool :=
  ((s.image i).state == 1 || (s.image i).state == 2) && !failed.contains (50 + i)

/-- Boot code found no image, or no boot record (R458, R489): ALERT_N is asserted and the device stays in Starting. -/
def State.bootHalts (s : State) (step : Nat) : State := (s.modRec (fun r => { r with alertBoot := true })).failStep step true

/-- Step 5: the image that is active for reset, or the other (R458): source 301. -/
def State.bootImage (s : State) (failed : List Nat) : State :=
  let act := if (s.image 0).active then 0 else 1
  let run := fun (s : State) (i : Nat) =>
    let s := (List.range 2).foldl (fun s k => s.modImage k (fun x => if failed.contains (50 + k) then { x with state := 0 } else if x.state = 2 then { x with state := 1 } else x)) s
    (s.modImage i (fun x => { x with state := 2 })).modSteward (fun w => { w with running := i })
  if s.bootable failed act then run s act
  else if s.bootable failed (1 - act) then ((run s (1 - act)).failStep 5 false).raise 301 0 (leBytes 1 act ++ leBytes 1 St.badDescriptor)
  else s.bootHalts 5

/-- Step 6: the checkers (R427). -/
def State.startCheckers (s : State) (failed : List Nat) : State :=
  let bad := failedOf failed 60 16
  let mask := (bad.map (2 ^ ·)).foldl (· + ·) 0
  let s := s.modEcc (fun e => { e with selfTest := mask })
  if bad = [] then s else (s.raise 80 0 (leBytes 2 mask)).failStep 6 true

/-- Step 7: the cipher pipelines (R449). -/
def State.startPipes (s : State) (failed : List Nat) : State :=
  let bad := failedOf failed 80 16
  let mask := (bad.map (2 ^ ·)).foldl (· + ·) 0
  let s := s.modCipher (fun c => { c with pipes := ~~~ BitVec.ofNat 16 mask, testFail := BitVec.ofNat 16 mask })
  if bad = [] then s else (bad.foldl (fun s p => s.raise 214 0 (leBytes 1 p)) s).failStep 7 (decide (8 < bad.length))

/-- Port roles as a cold reset takes them (R285, R286): a lone device whose twin the manifest now lists leaves setting 2. -/
def State.takeRoles (s : State) : State :=
  let r := s.setting 0x2200 1
  let me := (s.pool.entries.find? (fun e => e.ident == Config.identity && entryOk e)).map MEntry.dev
  let listed : Bool := match me with | some n => s.pool.entries.any (fun e => e.dev == n ^^^ 1) | none => false
  if r = 2 ∧ listed then
    ((s.setSetting 0x2200 1 0).modHinge (fun h => { h with roles := 0 })).raise 112 4 (leBytes 2 0 ++ leBytes 1 0 ++ leBytes 1 4)
  else s.modHinge (fun h => { h with roles := r })

/-- What takes effect at a cold reset alone: host mode and port division (R84, R85), EtherType and UDP port (R288), port roles. -/
def State.coldSettings (s : State) : State :=
  ((s.modHost (fun h => { h with mode := s.setting 0x3000 2, bifur := s.setting 0x3000 1 })).modHinge (fun h => { h with
    ether := s.setting 0x2200 2, udp := s.setting 0x2200 3 })).takeRoles

/-- A port whose saved Enable is false is held electrically idle (R123). -/
def State.holdPorts (s : State) : State :=
  ((List.range 8).filter (fun p => s.portExists p && !s.flag (0x3010 + p) 6)).foldl (fun s p => s.modPort p (fun x => { x with link := 4 })) s

/-- Phase 1 (R529): its eight steps in order. After a failed boot step nothing more runs. The first record is source 288 (R501); source 0
records the start; the connection epoch moves on by 4,096 (R313). The loaded sampling shift and half-life are those of the first epoch (R198). -/
def State.phase1 (s : State) (failed : List Nat) : State :=
  let (r, clean) := s.rec_.restart
  let s := s.modRec (fun _ => r)
  let s := s.raise 288 0 (leBytes 1 (b2n (!clean)) ++ leBytes 6 r.next)
  let s := s.modPower (fun p => { p with inReset := false, state := if p.tripped ∨ p.evac ∨ !p.good then 1 else 2, phase := 1 })
  let s := s.modTwin (fun t => { t with watchdog := s.now, lastLife := s.now })
  let s :=
    if failed.contains 1 then s.bootHalts 1
    else
      let s := (s.startUcie failed).startSteward failed
      if failed.contains 4 then (s.raise 280 0 (leBytes 1 1 ++ leBytes 2 0)).bootHalts 4
      else
        let s := s.sbCheck.bootImage failed
        if s.rec_.alertBoot then s
        else
          let s := ((s.startCheckers failed).startPipes failed).loadSaved
          let s := if s.power.warmReset then s else s.coldSettings
          let s := s.modPlace (fun p => { p with shift := s.setting 0x3200 5, halfLife := s.setting 0x3200 3 })
          s.dropOddSessions.bindSaved.pendSaved.holdPorts
  let s := s.modHinge (fun h => { h with epoch := min (h.epoch + 4096) 0xFFFFFF })
  let s := s.raise 0 s.power.cause (leBytes 1 s.power.cause ++ leBytes 1 s.power.failStep)
  if s.power.pfail = 0 then s
  else (s.modPower (fun p => { p with reminded := some s.now })).raise 1 3 (leBytes 1 3 ++ leBytes 4 s.power.asserts ++ leBytes 1 1)

/-! ### The population (R374 to R377) -/

/-- What a DIMM's SPD tells: device width, die density in Gb, stack height, package ranks, greatest speed, serial number, type (1 an RDIMM, 2 a 3DS RDIMM,
both with ECC, and any other value a DIMM of another type), and the manufacturer's JEDEC ID. -/
structure Spd where
  width  : Nat
  die    : Nat
  height : Nat
  ranks  : Nat
  speed  : Nat
  serial : Nat
  type   : Nat
  maker  : Nat
  deriving DecidableEq, Repr

/-- The DIMMs of a channel, eight numbers each. -/
def spdsOf (l : List Nat) : List Spd :=
  (List.range ((l.length + 7) / 8)).map (fun i =>
    { width := nth l (8 * i) 0, die := nth l (8 * i + 1) 0, height := nth l (8 * i + 2) 0, ranks := nth l (8 * i + 3) 0, speed := nth l (8 * i + 4) 0,
      serial := nth l (8 * i + 5) 0, type := nth l (8 * i + 6) 0, maker := nth l (8 * i + 7) 0 })

/-- Whether a DIMM is one the device accepts (R374): an RDIMM or a 3DS RDIMM with ECC, 32 data bits of dies a rank, no more than 256 GB. -/
def Spd.accepted (d : Spd) : Bool :=
  (d.width == 4 || d.width == 8) && (d.die == 16 || d.die == 32) && ((d.type == 1 && d.height == 1) || (d.type == 2 && (d.height == 2 || d.height == 4))) && (d.ranks == 1 || d.ranks == 2) &&
  decide (d.ranks * d.height * d.die * (64 / d.width) ≤ 8 * 256)

/-- Whether two DIMMs have the same geometry (R375). -/
def Spd.same (a b : Spd) : Bool := a.width == b.width && a.die == b.die && a.ranks == b.ranks && a.height == b.height

/-- The channels that offend (R376), with the code of 0x3500:05: 3 where a DIMM is refused, 2 where one is missing or differs. -/
def offending (spds : List (List Nat)) : List (Nat × Nat) :=
  let chans := (List.range 16).map (fun n => spdsOf (nth spds n []))
  let first := nth chans 0 []
  (List.range 16).filterMap (fun n =>
    let c := nth chans n []
    if c.any (fun d => !d.accepted) then some (n, 3)
    else if c = [] ∨ 2 < c.length ∨ c.length ≠ first.length ∨ c.any (fun d => !(first.all (fun x => d.same x))) then some (n, 2)
    else none)

/-- The speed a population runs at (R375). -/
def State.speedOf (s : State) (spds : List (List Nat)) : Nat :=
  let all := spds.flatMap spdsOf
  minOf (all.map Spd.speed) (min (s.setting 0x3500 1) (if (nth spds 0 []).length ≤ 8 then 6400 else 5600))

/-- The number of bits a power of two takes. -/
def log2of (n : Nat) : Nat := if n = 4 then 2 else if n = 2 then 1 else 0

/-- Rank 2d + p of a channel after a cold reset: retiring or Retired as before where the DIMM is the same (R396), else In service. -/
def newRank (old : Chan) (r serial : Nat) : Rank :=
  let was := getD old.ranks r {}
  { state := if (was.state = 3 ∨ was.state = 2) ∧ was.serial = serial then was.state else 1, serial := serial }

/-- The population check of a cold reset (R376): where it passes, the geometry of R377, and every channel starts its training; where it
fails, source 48+2n for each channel that offends, and no channel trains. -/
def State.populate (s : State) (spds : List (List Nat)) : State :=
  let bad := offending spds
  let g := nth (spdsOf (nth spds 0 [])) 0 { width := 4, die := 16, height := 1, ranks := 1, speed := 0, serial := 0, type := 1, maker := 0 }
  let per := (spdsOf (nth spds 0 [])).length
  let masks := [6, 7, 8, 9, 0x0A, 0x0B].map (fun i => s.setting 0x3500 i)
  let ok := bad == []
  let chans := (List.range 16).map (fun n =>
    let ds := spdsOf (nth spds n [])
    let old := s.chan n
    let ranks := (List.range ds.length).flatMap (fun d => (List.range (nth ds d g).ranks).map (fun p => (2 * d + p, newRank old (2 * d + p) (nth ds d g).serial)))
    (n, ({ state := if ok then 1 else 0, since := s.now, spd := (nth spds n []).take 16, ranks := if ok then ranks else [] } : Chan)))
  let s := s.modDram (fun _ => {
    pop := if ok then 1 else maxOf (bad.map Prod.snd) 0
    speed := if ok then s.speedOf spds else 0
    perChan := per
    colBits := if g.width = 8 then 6 else 7
    rowBits := if g.die = 32 then 17 else 16
    chipBits := log2of g.height
    ranks2 := g.ranks - 1
    dimms2 := per - 1
    width := if g.width = 8 then 1 else 0
    masks := masks
    chans := chans
    theirs := s.dram.theirs })
  if ok then
    let keep := s.ecc.badDimm.filter (fun x => (s.rankOf (x.1 / 8) (x.1 % 8 / 2)).serial == x.2.2)
    s.modEcc (fun e => { e with chans := keep.foldl (fun l x => modD l (x.1 / 8) {} (fun c => { c with erased := insertKey (x.1 % 8) x.2.1 c.erased })) e.chans })
  else
    let s := s.modPower (fun p => { p with blocked := true })
    bad.foldl (fun s b => s.chanEvent b.1 0 0 0 0) s

/-! ### Roles at start (R236, R277) -/

/-- The home drives as a start finds them (R211): each that answers is checked. -/
def State.startDrives (s : State) (drives : List (Nat × DriveInfo)) : State :=
  let s := (drives.filter (fun x => decide (x.1 < s.driveCount))).foldl (fun s x =>
    let s := s.modDrive x.1 (fun y => { y with lbas := x.2.lbas, link := true })
    let c := s.driveCheck x.1 x.2
    if c = 0 then s.modDrive x.1 (fun y => { y with state := 2 }) else s.rejectDrive x.1 c) s
  if s.drivesFail then
    (s.modPersist (fun p => { p with failed := true })).raise 167 0
      (leBytes 4 ((List.range s.driveCount).filter (fun d => !s.driveUp d)).length ++ leBytes 1 (s.setting 0x3300 0x0F))
  else s

/-- The home drives registered and reserved under this device's claim (R212, R276). -/
def State.holdDrives (s : State) : State := s.drivesUp.foldl (fun s d => s.holdDrive d) s

/-- A device takes the active role at its start (R277, R278). Its twin's resync is full unless its DRAM kept what it held (R273). -/
def State.startActive (s : State) : State :=
  let s := (s.unfence (if s.twinListed then 2 else 3)).modTwin (fun t => { t with resyncAll := t.resyncAll || !t.keptDram })
  let top := maxOf s.persist.applied s.persist.seq
  (s.modPersist (fun p => { p with seq := top, horizon := top })).holdDrives

/-- A device takes the standby role at its start (R277). -/
def State.startStandby (s : State) : State := s.unfence 5

/-- The role at start (R236, R251, R277): by the keys on the drives; where neither key holds one, by what is retained and the claim
records; with the twin absent and this device's key on no drive, the re-claim delay runs in Resyncing. -/
def State.takeRole (s : State) (keys : List (Nat × Nat)) : State :=
  let s := if s.twin.claim = 0 ∧ s.pool.number % 2 = 0 ∧ s.claimOf s.vault = 1 then s.modTwin (fun t => { t with claim := 1 }) else s
  let s := keys.foldl (fun s k => s.modDrive k.1 (fun x => { x with key := k.2 })) s
  let held := (keys.filter (fun k => k.2 != 0)).map Prod.snd
  let top := maxOf held 0
  let s := if top = 0 then s else s.learnClaim s.vault top
  let own := s.twin.claim
  if !s.twinListed then
    let s := if top ≤ own ∧ own ≠ 0 then s else
      let k := s.nextClaim
      s.modTwin (fun t => { t with claim := k })
    ((s.modTwin (fun t => { t with claims := insertKey s.vault (max s.twin.claim (s.claimOf s.vault)) t.claims }))).startActive
  else if top ≠ 0 then (if top = own then s.startActive else s.startStandby)
  else match s.twin.peer with
    | none => s.startStandby
    | some b =>
      if b.state = 1 ∨ b.state = 2 ∨ b.state = 3 ∨ b.state = 6 then s.startStandby
      else
        let mine := s.driveCount == 0 && s.twin.keptDram
        let his := s.driveCount == 0 && b.horizon != 0
        if mine && !his then s.startActive
        else if his && !mine then s.startStandby
        else if b.claim < own then s.startActive
        else s.startStandby

/-- Whether the role cannot be settled yet (R277): no key holds a drive, and the twin, which is not absent, has not been heard. -/
def State.roleWaits (s : State) (keys : List (Nat × Nat)) : Bool :=
  s.twinListed && keys.all (fun k => k.2 == 0) && s.twin.peer.isNone && !s.twin.absent

/-- The start role is settled (R277): source 110 records the highest key seen and the state taken. -/
def State.settleRole (s : State) (keys : List (Nat × Nat)) : State :=
  let t := s.takeRole keys
  let t := (List.range 16).foldl (fun t n => t.tellRanks n) t
  t.raise 110 0 (leBytes 8 (maxOf (keys.map Prod.snd) 0) ++ leBytes 1 t.twin.state)

end Sys2Proof.Machine
end

