-- ==== Sys2Proof/Machine/Power.lean ====
section
/-! DEFINITION. The commands of power, resets, the start order, the thermal sensors, PFAIL_N and pace (R81, R233, R331, R334, R341, R350,
R351, R516 to R540). -/

namespace Sys2Proof.Machine

/-! ### Pace (R81, R350, R351) -/

/-- A monitor's index from the cycles counted in a window (R350). -/
def paceIndex (cycles : Nat) : Nat := 1000 * cycles / Config.paceNominal

/-- A die's index: the lowest of its monitors (R350). -/
def dieIndex (cycles : List Nat) : Nat := match cycles with
  | [] => 0
  | c :: cs => minOf (cs.map paceIndex) (paceIndex c)

/-- The index at or above which the target counts as held (R81). -/
def State.paceFloor (s : State) : Nat := s.setting 0x1010 2 - s.setting 0x1010 7

/-- PACE_WINDOW (R81, R350): the cycles of each die's four monitors in 1 µs. -/
def execPaceWindow (vault steward : List Nat) (s : State) : Host.Outcome State Fault Refusal :=
  let v := dieIndex vault
  let w := dieIndex steward
  let hist := s.pace.hist ++ [min v w]
  let hist := hist.drop (hist.length - 1000)
  let ix := hist.foldl (· + ·) 0 / hist.length
  let low := decide (ix < s.paceFloor) && s.pace.volt == 880
  let far := decide (v + 150 < w ∨ w + 150 < v)
  let s := s.modPace (fun p => { p with
    vault := v
    steward := w
    hist := hist
    index := ix
    lowest := if p.hist = [] then ix else min p.lowest ix
    highest := if p.hist = [] then ix else max p.highest ix
    below := if low then some (p.below.getD s.now) else none
    above := if s.paceFloor ≤ ix then some (p.above.getD s.now) else none
    apart := if far then some (p.apart.getD s.now) else none
    apartTold := far && p.apartTold })
  let s := match s.pace.above with
    | some t => if s.elapsed t 10000000 then s.modPace (fun p => { p with held := true }) else s
    | none => s
  done (match s.pace.apart with
    | some t =>
      if s.elapsed t 10000000 && !s.pace.apartTold then
        (s.modPace (fun p => { p with apartTold := true })).raise 199 0 (leBytes 2 v ++ leBytes 2 w ++ leBytes 4 (ofInt 32 s.power.temp))
      else s
    | none => s)

/-- PACE_TARGET_MISSED (R81). -/
def execPaceTargetMissed (s : State) : Host.Outcome State Fault Refusal :=
  done (match s.pace.below with
    | some t =>
      if s.elapsed t 10000000 ∧ s.pace.volt = 880 ∧ s.pace.held then
        (s.modPace (fun p => { p with held := false })).raise 4 0
          (leBytes 2 s.pace.index ++ leBytes 2 (s.setting 0x1010 2) ++ leBytes 4 (ofInt 32 s.power.temp))
      else s
    | none => s)

/-- The core voltage moves one step (R351, R519, R530, R540): up to 880 mV after a regulator fault; down while the power is above its limit or the
temperature at or above the throttle temperature or 105 °C; nowhere while throttling goes on below it; else towards the pace target, down only above
the target plus the margin. -/
def State.voltStep (s : State) : State :=
  if !s.elapsed s.pace.stepAt 50000 then s
  else
    let v := s.pace.volt
    let target := s.setting 0x1010 2
    let down := s.power.limiting || decide (toInt 32 (s.setting 0x3C30 4) ≤ s.power.temp) || decide (105000 ≤ s.power.temp)
    let goal :=
      if s.power.regFault then 880
      else if down then max (v - 5) 620
      else if s.power.throttling then v
      else if s.pace.index < target then min (v + 5) 880
      else if target + s.setting 0x1010 7 < s.pace.index then max (v - 5) 620
      else v
    if goal = v then s else s.modPace (fun p => { p with volt := goal, stepAt := s.now })

/-- VOLTAGE_STEP (R351). -/
def execVoltageStep (s : State) : Host.Outcome State Fault Refusal := done s.voltStep

/-- POWER_LIMIT_CHECK (R519): the mean power of 1 ms; source 9 where limiting starts or ends. -/
def execPowerLimitCheck (watts : Nat) (s : State) : Host.Outcome State Fault Refusal :=
  let limit := s.setting 0x3C00 3
  let high := decide (limit < watts)
  let was := s.power.limiting
  let s := s.modPower (fun p => { p with watts := watts, limiting := high })
  let s := if high = was then s else s.raise 9 (b2n (!high)) (leBytes 2 watts ++ leBytes 2 limit)
  done (if high then s.voltStep else s)

/-- REGULATOR_FAULT (R540): the core voltage is more than 25 mV from its setting for 10 µs; it is held at 880 mV. -/
def execRegulatorFault (measured : Nat) (s : State) : Host.Outcome State Fault Refusal :=
  let set := s.pace.volt
  done (if measured + 25 < set ∨ set + 25 < measured then
      ((s.modPower (fun p => { p with regFault := true })).modPace (fun p => { p with volt := 880 })).raise 14 0 (leBytes 2 set ++ leBytes 2 measured)
    else s)

/-! ### PFAIL_N (R233, R461, R518, R522 to R524) -/

/-- What a qualified assertion, or an event that counts as one, does (R228, R461): a rolling update stops after its cluster, and the flush
is committed. -/
def State.failing (s : State) : State :=
  let s := if s.steward.updating = 0xFF then s else s.modSteward (fun w => { w with rollStop := true })
  s.commitFlush

/-- Source 1 (R540): cause, assertion count, pin state. -/
def State.pfailEvent (s : State) (cause : Nat) : State := s.raise 1 cause (leBytes 1 cause ++ leBytes 4 s.power.asserts ++ leBytes 1 s.power.pfail)

/-- A qualified assertion (R522, R523), by the pin or by a rail event that counts as one (R518): it is counted, and the ninth within 1 s makes the
input unsteady and writes no map. `pin`: the state 0x3C10:02 takes otherwise. -/
def State.qualified (s : State) (pin : Nat) : State :=
  let recent := s.power.recent.filter (fun t => decide (s.now < t + 1000000000)) ++ [s.now]
  let wild := s.power.pfail == 2 || decide (8 < recent.length)
  let was := s.power.pfail
  let s := s.modPower (fun p => { p with
    pfail := if wild then 2 else pin
    asserts := satAdd p.asserts 1 0xFFFFFFFF
    recent := recent
    deassertAt := none })
  let s := if was = 2 then s else s.pfailEvent (if wild then 2 else 1)
  if wild ∧ s.persist.state = 4 then s else s.failing

/-- PFAIL_ASSERTED (R522, R523): ignored while the input is unsteady, but for the time it is low. -/
def execPfailAsserted (s : State) : Host.Outcome State Fault Refusal :=
  let s := s.modPower (fun p => { p with highAt := none })
  done (if s.power.pfail ≠ 0 then s else s.qualified 1)

/-- PFAIL_DEASSERTED (R233, R522, R523): an unsteady input stays held asserted. -/
def execPfailDeasserted (s : State) : Host.Outcome State Fault Refusal :=
  let s := s.modPower (fun p => { p with highAt := some (p.highAt.getD s.now) })
  done (if s.power.pfail = 1 then s.modPower (fun p => { p with pfail := 0, deassertAt := some s.now }) else s)

/-- UNSTEADY_RELEASE (R523): the pin has stayed high for the release time since its last deassertion and the last assertion counted; the resume delay
starts. -/
def execUnsteadyRelease (s : State) : Host.Outcome State Fault Refusal :=
  done (match s.power.highAt with
    | none => s
    | some t =>
      if s.power.pfail = 2 ∧ s.elapsed (max t (maxOf s.power.recent 0)) (s.setting 0x3C10 3) then
        s.modPower (fun p => { p with pfail := 0, recent := [], deassertAt := some s.now })
      else s)

/-- RESUME_DELAY_EXPIRY (R233, R235, R524): a sealed device resumes, a standby's own flush is over, and a start that waited goes on. -/
def execResumeDelayExpiry (s : State) : Host.Outcome State Fault Refusal :=
  done (match s.power.deassertAt with
    | none => s
    | some t =>
      if s.power.pfail ≠ 0 ∨ !s.power.good ∨ !s.elapsed t (s.setting 0x3300 0x0A) then s
      else
        let s := s.modPower (fun p => { p with deassertAt := none, reminded := none })
        let s := if s.persist.standbyFlush ∧ (s.twin.state = 4 ∨ s.twin.state = 5) then (s.modPersist (fun p => { p with standbyFlush := false })).sbUnhold else s
        if s.persist.state = 4 then s.resumeService
        else if 5 ≤ s.power.phase then s.startRestore
        else s)

/-- PFAIL_START_REMINDER (R524). -/
def execPfailStartReminder (s : State) : Host.Outcome State Fault Refusal :=
  done (match s.power.reminded with
    | some t =>
      if s.power.pfail ≠ 0 ∧ s.elapsed t 60000000000 then (s.modPower (fun p => { p with reminded := some s.now })).pfailEvent 3 else s
    | none => s)

/-! ### Rails (R516 to R521, R528) -/

/-- VAUX_RISE (R521, R525): the management island starts, held in reset by the power module. -/
def execVauxRise (s : State) : Host.Outcome State Fault Refusal :=
  done (if s.power.vaux then s
    else
      let s := s.enterReset true 1
      s.modPower (fun p => { p with vaux := true, vauxMv := 3300, state := 1, cause := 1 }))

/-- VAUX_LOSS (R521): Off. -/
def execVauxLoss (s : State) : Host.Outcome State Fault Refusal :=
  done (if !s.power.vaux then s
    else
      let s := s.enterReset true 1
      (s.modPower (fun p => { p with vaux := false, vauxMv := 0, state := 0, pfail := 1, recent := [], deassertAt := none, highAt := none })).modDict (fun d => { d with jtag := false }))

/-- VAUX_OUT_OF_RANGE (R540). -/
def execVauxOutOfRange (mv : Nat) (s : State) : Host.Outcome State Fault Refusal :=
  done (if mv < 3135 ∨ 3465 < mv then (s.modPower (fun p => { p with vauxMv := mv })).raise 11 0 (leBytes 2 mv) else s)

/-- POWER_GOOD_RISE (R518, R521, R528): a device whose VMAIN loads had stopped starts as after a cold reset with cause 8; one held in
reset waits for its release. Where a flush still runs, the resume delay starts (R233). -/
def execPowerGoodRise (s : State) : Host.Outcome State Fault Refusal :=
  done (if s.power.good then s
    else
      let s := s.modPower (fun p => { p with
        good := true
        vmainMv := 1800
        deassertAt := if p.pfail = 0 ∧ 2 ≤ p.state then some s.now else p.deassertAt })
      if s.power.state = 1 ∧ (!s.power.inReset ∨ s.power.warmReset) then s.enterReset true 8 else s)

/-- Source 2 (R540). -/
def State.railEvent (s : State) (cause : Nat) : State := s.raise 2 cause (leBytes 2 s.power.vmainMv ++ leBytes 1 cause)

/-- POWER_GOOD_FALL (R518, R521): as a qualified assertion of PFAIL_N; the VMAIN loads stop once a flush has sealed, or at once where
there is none. -/
def execPowerGoodFall (s : State) : Host.Outcome State Fault Refusal :=
  done (if !s.power.good then s
    else
      let s := s.modPower (fun p => { p with good := false })
      if s.power.state < 2 then s
      else
        let s := (s.railEvent 0).qualified s.power.pfail
        if s.persist.state = 3 ∨ s.power.state < 2 then s else s.vmainStop false)

/-- VMAIN_UNDERVOLTAGE (R518): below 1.71 V for 1 µs with POWER_GOOD high. It counts as an assertion that ends as it begins: the resume delay starts
(log entry 135). -/
def execVmainUndervoltage (mv : Nat) (s : State) : Host.Outcome State Fault Refusal :=
  done (if 2 ≤ s.power.state ∧ s.power.good ∧ mv < 1710 then
      let s := ((s.modPower (fun p => { p with vmainMv := mv })).railEvent 1).qualified s.power.pfail
      s.modPower (fun p => { p with deassertAt := if p.pfail = 0 then some s.now else none })
    else s)

/-- BROWN_OUT (R518): below 1.62 V every VMAIN load stops at once; a flush in hand leaves its home unsealed. -/
def execBrownOut (mv : Nat) (s : State) : Host.Outcome State Fault Refusal :=
  done (if 2 ≤ s.power.state ∧ mv < 1620 then
      let s := s.modPower (fun p => { p with vmainMv := mv, good := false })
      (s.railEvent 2).vmainStop false
    else s)

/-! ### Resets (R390, R525 to R529) -/

/-- PORST_ASSERT (R525). -/
def execPorstAssert (s : State) : Host.Outcome State Fault Refusal := done (if s.power.vaux then s.enterReset true 2 else s)

/-- PORST_RELEASE (R376, R528, R529): a cold reset ends with both rails good. Phase 1 runs; where it passes, the population is checked and
every channel trains. -/
def execPorstRelease (spds : List (List Nat)) (failed : List Nat) (s : State) : Host.Outcome State Fault Refusal :=
  done (if s.power.vaux ∧ s.power.good ∧ s.power.inReset ∧ !s.power.warmReset then
      let s := s.phase1 failed
      if s.rec_.alertBoot then s else s.populate spds
    else s)

/-- WRST_ASSERT (R390, R500, R526): DRAM enters self-refresh and a warm reset begins. -/
def execWrstAssert (s : State) : Host.Outcome State Fault Refusal := done (if s.power.vaux then s.askReset false 3 else s)

/-- The channels after a warm reset's checks (R391, R401): all in service with their contents where every one passes; else, and where the reset cut
the training of one, each trains in full, with source 48+2n for each that failed. A channel whose retrain was cut retrains. -/
def State.warmChecks (s : State) (pass : List Bool) : State :=
  let here := (s.dram.chans.filter (fun c => c.2.state == 4 && c.2.ranks != [])).map Prod.fst
  let bad := here.filter (fun n => !nth pass n false)
  let cut := s.dram.chans.any (fun c => c.2.state == 1)
  let s := s.modDram (fun d => { d with frozen := 0xFF, chans := d.chans.map (fun c => (c.1, { c.2 with since := s.now })) })
  if bad = [] ∧ !cut then
    let s := here.foldl (fun s n => s.modChan n (fun c => { c with state := 2, lastUse := s.now })) s
    s.modTwin (fun t => { t with keptDram := here != [] })
  else
    let s := here.foldl (fun s n => s.modChan n (fun c => { c with state := 1 })) s
    let s := (s.modMem (fun _ => [])).modEcc (fun e => { e with poisoned := [], list := [] })
    let s := s.modPersist (fun p => { p with applied := [0, 0], dirty := [], fresh := [], shadow := [] })
    bad.foldl (fun s n => s.chanEvent n 2 0 0 0) s

/-- WRST_RELEASE (R391, R527, R535): a warm reset ends: phase 1, with training replaced by the checks. A device that left for heat, tripped or has no
POWER_GOOD stays in Auxiliary. -/
def execWrstRelease (checksPass : List Bool) (failed : List Nat) (s : State) : Host.Outcome State Fault Refusal :=
  done (if s.power.vaux ∧ s.power.inReset ∧ s.power.warmReset then
      let s := s.phase1 failed
      if s.power.state = 2 ∧ !s.rec_.alertBoot then s.warmChecks checksPass else s
    else s)

/-- JTAG_RESET (R525): at factory level. -/
def execJtagReset (s : State) : Host.Outcome State Fault Refusal := done (if s.dict.jtag then s.enterReset true 10 else s)

/-- DEFERRED_RESET (R526). -/
def execDeferredReset (s : State) : Host.Outcome State Fault Refusal :=
  done (match s.power.deferred with
    | some (cold, cause) => if s.persist.state = 3 then s else s.flushedReset cold cause
    | none => s)

/-- POOL_RESET_FIRE (R341, R500): every accepted write is twin-safe, or 50 µs have passed since the latch time. -/
def execPoolResetFire (s : State) : Host.Outcome State Fault Refusal :=
  done (match s.pool.resetDue with
    | some (cold, t) =>
      if s.persist.writes.all (fun w => s.twinSafe w.seq) ∨ s.elapsed t 50000 then
        (s.modPool (fun p => { p with resetDue := none })).askReset cold (if cold then 7 else 6)
      else s
    | none => s)

/-! ### Heat (R530, R535, R536) -/

/-- Source 13 (R540). -/
def State.heatEvent (s : State) (cause : Nat) : State :=
  s.raise 13 cause (leBytes 4 (ofInt 32 s.power.tempV) ++ leBytes 4 (ofInt 32 s.power.tempS) ++ leBytes 1 cause)

/-- A thermal trip (R536): the VMAIN loads stop at once with no flush and no self-refresh; the device waits in Auxiliary for a cold reset. Its record
is the first the management island takes after it. -/
def State.thermalTrip (s : State) : State :=
  let s := s.enterReset true 9
  ((s.modPower (fun p => { p with tripped := true, inReset := false, state := 1 })).modRec (fun r => r.restart.1)).heatEvent 2

/-- An evacuation goes on (R535): a handover to an in-sync standby, else the flush and its seal; a standby leaves in sync; then every
channel enters self-refresh and the device the Auxiliary state. -/
def State.evacuate (s : State) : State :=
  if !s.power.evac ∨ s.power.state < 2 then s
  else
    let s :=
      if s.twin.state = 1 ∧ s.standbyInSync ∧ s.twin.handStatus ≠ St.timeout then s.modTwin (fun t => { t with state := 9, handAt := s.now })
      else if s.serves ∧ (s.persist.state = 1 ∨ s.persist.state = 2) then s.commitFlush
      else s.leaveSync
    if s.twin.state = 9 ∨ s.persist.state = 3 then s else s.vmainStop true

/-- THERMAL_SAMPLE (R530): the sensors of both dies, every 1 ms. -/
def execThermalSample (vault steward : List Int) (s : State) : Host.Outcome State Fault Refusal :=
  let v := vault.foldl max (vault.headD 0)
  let w := steward.foldl max (steward.headD 0)
  let t := max v w
  let throttle := toInt 32 (s.setting 0x3C30 4)
  if !s.power.vaux then done s else
  let on := if s.power.throttling then decide (throttle - 5000 < t) else decide (throttle ≤ t)
  let was := s.power.throttling
  let s := s.modPower (fun p => { p with
    tempV := v
    tempS := w
    temp := t
    highest := max p.highest t
    throttling := on
    hotSince := if 110000 ≤ t then some (p.hotSince.getD s.now) else none
    coolSince := if t < throttle then some (p.coolSince.getD s.now) else none })
  let s := if on = was then s else s.raise 3 (b2n (!on)) (leBytes 4 (ofInt 32 t) ++ leBytes 2 s.pace.volt)
  let hot : Bool := match s.power.hotSince with | some h => s.elapsed h 1000000 | none => false
  done (
    if s.power.inReset then s
    else if 120000 ≤ t then (if s.power.tripped then s else s.thermalTrip)
    else if hot ∧ !s.power.evac ∧ 2 ≤ s.power.state then ((s.modPower (fun p => { p with evac := true })).heatEvent 1).evacuate
    else s.evacuate)

/-! ### The start order (R331 to R334) -/

/-- START_PHASE_ADVANCE (R15, R237, R277, R331): the phase in hand is done. Phase 1 needs its self-test passed; phase 2 every channel in
service or out of it; phase 3 a manifest that lists the device (candidate 0 takes the root); phase 4 settles the role from the drives
and their keys, waiting where it takes the twin's claim record to settle it, and starts the restore from the headers of the drives in service and
the twin's map. -/
def execStartPhaseAdvance (drives : List (Nat × DriveInfo)) (keys : List (Nat × Nat)) (heads : List HeadRead)
    (twinMap : Option DirtyMap) (s : State) : Host.Outcome State Fault Refusal :=
  done (
    if s.power.inReset ∨ s.power.blocked ∨ s.power.state ≠ 2 then s
    else if s.power.phase = 1 then s.modPower (fun p => { p with phase := 2 })
    else if s.power.phase = 2 then
      if s.dram.pop = 1 ∧ !s.dram.chans.any (fun c => c.2.state == 1) then s.modPower (fun p => { p with phase := 3 }) else s
    else if s.power.phase = 3 then
      let s := s.checkManifest.findNumber
      if !s.numbered then s
      else
        let s := (s.modPower (fun p => { p with phase := 4 })).modPool (fun p => { p with lastTick := s.now })
        if s.candidateNo = some 0 ∧ s.pool.root = noDev then (s.takeRoot 0).ownHeld.afterWave.settled else s
    else if s.power.phase = 4 then
      if s.roleWaits keys then s else
      let s := s.startDrives drives
      let h := ((heads.filter (fun x => s.driveUp x.drive)).map (fun x => laterHeader (headerOf x.a x.lostA) (headerOf x.b x.lostB))).foldl laterHeader none
      let s := s.modPersist (fun p => { p with header := h.getD {}, maps := p.maps.take 2 ++ twinMap.toList })
      let s := (s.settleRole keys).modPower (fun p => { p with phase := 5 })
      s.startRestore
    else s)

/-- Whether the device may open for its hosts (R334, R360). -/
def State.mayOpen (s : State) : Bool :=
  s.numbered && s.pool.present.contains s.pool.number && s.pool.wave != 0 && s.power.state == 2 && !s.power.blocked &&
  ((s.serves && s.persist.state == 2) || s.twin.state == 4 || s.twin.state == 5 || s.twin.state == 8) &&
  s.lattice.arbs.all (fun a => a.2.pending.isNone) && s.lattice.pendSenior.isNone

/-- HOST_SERVICE_OPEN (R334): host credits open and descriptors are fetched; the recorder mode follows (R503). -/
def execHostServiceOpen (s : State) : Host.Outcome State Fault Refusal :=
  done (if !s.host.creditsOpen && s.mayOpen then
      ((s.modHost (fun h => { h with creditsOpen := true })).modPower (fun p => { p with phase := 7 })).syncMode
    else s)

/-! ### Management ports (R59, R65) -/

/-- I3C_DYNAMIC_ADDRESS (R65). -/
def execI3cDynamicAddress (port addr : Nat) (s : State) : Host.Outcome State Fault Refusal :=
  done (s.modDict (fun d => { d with i3c := insertKey port addr d.i3c }))

/-- JTAG_FACTORY_ACCESS (R59, R503): the factory level, and the recorder's Test mode with it. -/
def execJtagFactoryAccess (take : Bool) (s : State) : Host.Outcome State Fault Refusal :=
  done ((s.modDict (fun d => { d with jtag := take })).syncMode)

end Sys2Proof.Machine
end

