-- ==== Sys2Proof/Machine/Hinge.lean ====
section
/-! DEFINITION. The commands of the Hinge transport and the time service: ports, requests and responses, connections, credits,
notices and PTP (R283 to R322, R354). -/

namespace Sys2Proof.Machine

/-! ### Ports (R283 to R287) -/

/-- A port enters service in a mode on lanes: at full width, or reduced (R283, R320). -/
def State.portServes (s : State) (p mode lanes cause : Nat) : State :=
  let carriage := if s.portRole p = 0 then 0 else s.setting (0x2210 + p) 5
  let s := s.modXport p (fun x => { x with link := if mode = 800 then 2 else 3, mode := mode, lanes := lanes, carriage := carriage })
  ((s.placePtp.portSignal p true).portEvent p cause).resendStreams p

/-- HINGE_LINK_UP (R283, R284): auto-negotiation ended in a mode no wider than the limit, on lanes none of which has failed. -/
def execHingeLinkUp (p mode lanes : Nat) (s : State) : Host.Outcome State Fault Refusal :=
  done (if s.power.inReset || decide (s.power.state < 2) || (s.power.state == 3 && p != 0) || s.portUp p || !s.flag (0x2210 + p) 6 || decide (s.setting (0x2210 + p) 3 < mode) ||
      (s.xport p).badLanes.any (fun l => lanes.testBit l) then s
    else s.portServes p mode lanes (if (s.xport p).link = 1 then 2 else 1))

/-- HINGE_LINK_DOWN (R301, R321). -/
def execHingeLinkDown (p : Nat) (s : State) : Host.Outcome State Fault Refusal :=
  done (if s.portUp p then (s.portLost p 0).portEvent p 0 else s)

/-- The modes of R283 with the lanes each takes, widest first. -/
abbrev portModes : List (Nat × Nat) := [(800, 8), (400, 4), (200, 2), (100, 1)]

/-- The widest mode, no wider than `limit`, whose lane group holds no failed lane, in its lowest-numbered such group (R284). -/
def fallback (bad : List Nat) (limit : Nat) : Option (Nat × Nat × Nat) :=
  (((portModes.filter (fun m => decide (m.1 ≤ limit))).flatMap (fun m => (List.range (8 / m.2)).map (fun g => (m.1, g * m.2, m.2)))).find?
    (fun m => !bad.any (fun l => decide (m.2.1 ≤ l ∧ l < m.2.1 + m.2.2))))

/-- HINGE_LANE_FAILURE (R284): the port retrains to the widest mode without a failed lane, where the partner offers that mode on those
lanes (`partnerModes`: mode and first lane); otherwise the link stays down. -/
def execHingeLaneFailure (p lane : Nat) (partnerModes : List (Nat × Nat)) (s : State) : Host.Outcome State Fault Refusal :=
  let up := s.portUp p
  let s := s.modXport p (fun x => { x with badLanes := addSet lane x.badLanes })
  done (
    if !up then s
    else
      let s := s.portLost p 1
      match fallback (s.xport p).badLanes (s.setting (0x2210 + p) 3) with
      | some (mode, first, n) =>
        if partnerModes.contains (mode, first) then s.portServes p mode ((2 ^ n - 1) * 2 ^ first) 3
        else (s.modXport p (fun x => { x with link := 0 })).portEvent p 0
      | none => (s.modXport p (fun x => { x with link := 0 })).portEvent p 0)

/-- HINGE_RETRAIN (R284): the port trains anew at every lane. -/
def execHingeRetrain (rq : Req) (tag p : Nat) (s : State) : Host.Outcome State Fault Refusal :=
  done (s.writeNum rq tag (0x2210 + p) 7 1 1 (fun s =>
    let s := s.modXport p (fun x => { x with badLanes := [] })
    if s.flag (0x2210 + p) 6 then (s.portLost p 1, St.ok) else (s, St.ok)))

/-- HINGE_PORT_ENABLE_WRITE (R287): a port that is not enabled holds its transmitters idle. -/
def execHingePortEnableWrite (rq : Req) (tag p : Nat) (on : Bool) (s : State) : Host.Outcome State Fault Refusal :=
  done (s.writeNum rq tag (0x2210 + p) 6 1 (b2n on) (fun s =>
    let was := s.flag (0x2210 + p) 6
    let s := s.setSetting (0x2210 + p) 6 (b2n on)
    if was && !on then ((s.portLost p 4).portEvent p 0, St.ok)
    else if on && !was then (s.modXport p (fun x => { x with link := 0 }), St.ok)
    else (s, St.ok)))

/-! ### Requests (R296, R302, R307) -/

/-- The refusal of a request frame. -/
def State.refuseReq (s : State) (peer : Nat) (q : ReqSub) (status : Nat) : State :=
  s.send peer (.status { entry := q.entry, num := q.num, status := status })

/-- A granule read from the home store for a peer that restores (R241): it waits while the home key is still to be loaded, and ends with HOME_FAILED
where no drive in service holds it or the key is erased or another (R217). -/
def State.homeRead (s : State) (peer : Nat) (q : ReqSub) : State :=
  let g := slotGran q.slot (q.off / granuleBytes)
  if !s.isActive then s.refuseReq peer q St.fenced
  else match (if s.hasHome && (s.homeKeyOk || s.homeKeyEmpty) then (s.drivesOf g).find? s.driveUp else none) with
    | none => s.refuseReq peer q St.homeFailed
    | some _ => (s.modPersist (fun p => { p with remoteReads := p.remoteReads ++ [(g, peer, q.entry, q.num)] })).readHome g

/-- The slot of a read copy here that serves every line of a request (R187, R188). -/
def State.copyCovers (s : State) (q : ReqSub) : Option Nat :=
  if q.copyOk && (List.range (q.len / 64)).all (fun i => (s.copyServes q.key (q.off + 64 * i)).isSome) then s.copyServes q.key q.off else none

/-- A READ served: from the home store; at a standby, for its twin's repair (R420 step 4); as a granule sent again (R275, R422); from a read copy; or by R176. -/
def State.readFrame (s : State) (peer : Nat) (q : ReqSub) : State :=
  let n := q.len / 64
  let r : HReq := { write := false, origin := .remote peer q.entry q.num, vault := q.entry / 2, key := q.key, slot := q.slot, gen := q.gen, off := q.off, len := q.len,
                    bulk := q.bulk, piece := if q.bulk then some (q.ring, q.idx) else none }
  let give := fun (slot : Nat) => s.sendList peer (dataFrames q.entry q.num 0 (s.readLines slot q.off n) (s.readPoison slot q.off n) (n / 32 + 1))
  if q.homeStore then s.homeRead peer q
  else if s.twin.state = 4 ∧ peer = s.twinDev ∧ 2 ^ 45 ≤ q.num then
    (if s.chanServes (slotChan q.slot) then give q.slot else s.refuseReq peer q St.uncorrectable)
  else if s.serves ∧ peer = s.twinDev ∧ 2 ^ 47 ≤ q.num then
    (if s.homesSlot q.slot then s.sendGranule (slotGran q.slot (q.off / granuleBytes)) false else s)
  else if s.serves ∧ 2 ^ 47 ≤ q.num then
    s.modPlace (fun p => { p with migs := p.migs.map (fun m =>
      if m.key = q.key ∧ m.slot = q.slot ∧ 2 ≤ m.phase ∧ m.phase ≤ 3 then { m with moved := addSet (q.off / granuleBytes) m.moved } else m) })
  else match s.copyCovers q with
    | some slot => (((give slot).countFor (8 * slotChan slot) n (s.reqTag r)).askDram r slot n).sample slot (q.entry / 2) false q.bulk
    | none => if s.serves then s.arriveRemote r peer q.entry q.num else s.refuseReq peer q St.fenced

/-- READ (R296). -/
def execHingeRead (h : Hdr) (q : ReqSub) (s : State) : Host.Outcome State Fault Refusal :=
  done (s.onFrame h (.read q) (fun s => s.readFrame h.src q))

/-- A write whose tag is held is completed under its class without being applied again (R266, R302). -/
def State.completeKnown (s : State) (peer : Nat) (q : ReqSub) : State :=
  let o : Origin := .remote peer q.entry q.num
  match s.homeSlot q.key with
  | none => s.answer o St.ok
  | some slot =>
    let g := slotGran slot (q.off / 4096)
    if s.servedClass q.cls ≠ 2 ∨ !(s.persist.dirty.contains g || s.homeBusy g) then s.answer o St.ok
    else if !s.hasHome then s.answer o (if q.cls = 2 then St.homeFailed else St.twinLost)
    else
      let id := s.persist.nextId
      let s := s.modPersist (fun p => { p with
        nextId := id + 1
        urgent := if p.dirty.contains g then addSet g p.urgent else p.urgent
        writes := p.writes ++ [{ id := id, seq := getD p.lastSeq g 0, gran := g, cls := q.cls, origin := o, needHome := true, waitSeal := p.state == 3 }] })
      s.pumpUrgent.completeWrites

/-- The lines of a WRITE as its home takes them. -/
def State.writeReqs (h : Hdr) (q : ReqSub) (lines : List Line) : List HReq :=
  (List.range lines.length).map (fun i =>
    { write := true, origin := .remote h.src q.entry q.num, vault := q.entry / 2, key := q.key, slot := q.slot, gen := q.gen,
      off := q.off + 64 * i, line := nth lines i 0, be := if q.part then q.be else BitVec.allOnes 64, poison := h.poison.testBit i, cls := q.cls, bulk := q.bulk, piece := if q.bulk then some (q.ring, q.idx) else none })

/-- A WRITE at its home (R176, R266, R302): one answer for all its lines. `resend`: the frame resends a request made under an earlier
claim. -/
def State.writeFrame (s : State) (h : Hdr) (q : ReqSub) (lines : List Line) (resend : Bool) : State :=
  let o : Origin := .remote h.src q.entry q.num
  if !s.serves then s.refuseReq h.src q St.fenced
  else if resend && s.twin.claimDoneAt != 0 && s.elapsed s.twin.claimDoneAt (2 * s.setting 0x2100 5) then
    (s.refuseReq h.src q St.fenced).raise 111 0 (leBytes 8 (q.num + q.entry * 2 ^ 48))
  else if s.holdsWrite o then s
  else if s.twin.tags.any (fun t => t.1 == q.entry && t.2.1 == q.num) then s.completeKnown h.src q
  else match s.classify q.key q.slot with
    | .moved v slot gen => s.answerMoved h.src q.entry q.num v slot gen
    | .unknown => s.answerMoved h.src q.entry q.num 0xFFFF 0 0
    | _ => (State.writeReqs h q lines).foldl (fun s r => s.arriveRemote r h.src q.entry q.num) s

/-- WRITE (R296). -/
def execHingeWrite (h : Hdr) (q : ReqSub) (lines : List Line) (resend : Bool) (s : State) : Host.Outcome State Fault Refusal :=
  done (s.onFrame h (.write q lines []) (fun s => (s.writeFrame h q (s.clear h 0 lines) resend).advanceWorks))

/-- A PIECE at its vault (R147, R302): it joins the pieces that run here. One that runs already, or is held, is not started again. A PLACE runs at
the active device of the directory vault of its extent; elsewhere the sender's map is stale, and it is told so. -/
def State.pieceFrame (s : State) (peer : Nat) (q : ReqSub) (desc : Bytes) (off len : Nat) : State :=
  let x : HeldPiece := { peer := peer, q := q, desc := desc, off := off, len := len, since := s.now }
  if s.rings.works.any (fun w => w.from_ == .remote peer q.entry q.num && w.off == off) ||
      s.place.heldPieces.any (fun y => y.peer == peer && y.q.entry == q.entry && y.q.num == q.num && y.off == off) then s
  else if !s.serves then s.refuseReq peer q St.fenced
  else if dOp (desc.take 64) = 6 then
    (if s.ownDir q.key then (s.startPiece x).advanceWorks else s.answerMoved peer q.entry q.num 0xFFFF 0 0)
  else (s.arrivePiece x).advanceWorks

/-- PIECE (R296). -/
def execPiece (h : Hdr) (q : ReqSub) (desc : Bytes) (off len : Nat) (s : State) : Host.Outcome State Fault Refusal :=
  done (s.onFrame h (.piece q desc off len) (fun s => s.pieceFrame h.src q desc off len))

/-! ### Responses (R101, R296) -/

/-- A piece that ran at its vault is answered (R146, R296): its status as this device takes it (R8), its progress and its output bytes. MOVED after some
progress ends it there with what it did, and its remainder goes to the new home (R148). -/
def State.pieceAnswered (s : State) (e : EReq) (r : RespSub) (b : Bytes) : State :=
  let s := s.dropReq e.num
  let st := recvSt r.status
  match e.work.bind s.workOf with
  | none => s
  | some w =>
    let s := s.modWork w.id (fun x => { x with outs := [], bytes := if b = [] then x.bytes else b.take x.bytes.length })
    if dOp w.desc = 9 ∧ st = St.ok then s.workEnd w.id st w.len r.result
    else s.workEnd w.id (if st = St.moved then St.ok else st) r.result (b2n (dOp w.desc == 8 && decide (r.result < w.len)))

/-- A request refused with FENCED (R266, R268): it goes to the active device that the claim table names by now; a piece or a mailbox
command ends with the status; a host's stays until its time limit. -/
def State.turnedAway (s : State) (e : EReq) (peer : Nat) (r : RespSub) : State :=
  if s.activeOf e.dst ≠ peer then s.route e.num 8
  else if e.locate then s.pieceAnswered e r []
  else if e.work.isSome ∨ e.mailbox.isSome then s.endWrite e.num St.fenced
  else s

/-- The lines of a granule from its previous home put into DRAM (R241). -/
def State.putPart (s : State) (g off : Nat) (ls : List Line) (ps : List Bool) : State :=
  let s := s.askWrite (g / 512) 0x0E 6 ls.length
  (List.range ls.length).foldl (fun s i =>
    let ln := granLine g + off / 64 + i
    let s := s.putLine ln (nth ls i 0) (nth ps i false)
    if nth ps i false then s.poisonEnter ln 5 else s) s

/-- The vault that served a request of this device is another (R125): counted at the request's port. -/
def State.servedBy (s : State) (e : EReq) (peer : Nat) : State := if peer / 2 = s.vault then s else s.countPort e 6 1

/-- A read of this vault's copy that found the line not valid brings it (R187): the line is written to the copy and is valid, unless a write to the home has
marked it since the read began. -/
def State.refill (s : State) (e : EReq) (line : Line) (poison : Bool) : State :=
  match s.place.copyIns.find? (fun c => c.key == e.key && c.serving && !c.valid.testBit (e.off / 64)) with
  | some c =>
    if e.noticed ∨ !s.serves then s
    else
      let s := (s.askWrite c.slot 0x18 2 1).putLine (slotLine c.slot e.off) line poison
      s.modPlace (fun p => { p with copyIns := p.copyIns.map (fun x =>
        if x.key = e.key ∧ x.slot = c.slot then { x with valid := x.valid ||| 2 ^ (e.off / 64) } else x) })
  | none => s

/-- A DATA frame for a request of this device: part of a granule for the restore, a repair's line, the output of a piece, or the line of
a read. -/
def State.dataFor (s : State) (peer : Nat) (r : RespSub) (ls : List Line) (ps : List Bool) : State :=
  if r.entry ≠ s.pool.number then s
  else if 2 ^ 46 ≤ r.num then
    let g := r.num - 2 ^ 46
    if !s.isRestoring g then s
    else
      let s := s.putPart g r.off ls ps
      if r.last then (s.granRestored g).standbyGoesOn else s
  else if 2 ^ 45 ≤ r.num then s.repairAnswered (r.num - 2 ^ 45) (nth ls 0 0) (nth ps 0 false)
  else match s.reqOf r.num with
    | none => s
    | some e =>
      if e.locate then (s.servedBy e peer).pieceAnswered e r (ls.flatMap lineToBytes)
      else if e.write then s
      else ((s.servedBy e peer).refill e (nth ls 0 0) (nth ps 0 false)).finishRead e (nth ls 0 0) (nth ps 0 false)

/-- DATA (R296). -/
def execDataFrame (h : Hdr) (r : RespSub) (lines : List Line) (s : State) : Host.Outcome State Fault Refusal :=
  done (s.onFrame h (.data r lines []) (fun s => (s.dataFor h.src r (s.clear h 1 lines) (framePoison h lines.length)).advanceWorks))

/-- A peer that is busy gets the request again after 10 µs (R307); the directory of a PLACE piece has answered it (R144). -/
def State.busyFor (s : State) (e : EReq) (r : RespSub) : State :=
  if e.locate && (e.work.bind s.workOf).any (fun w => dOp w.desc == 6) then s.pieceAnswered e r []
  else s.modReq e.num (fun x => { x with busyAt := some s.now })

/-- The requests that a busy peer turned away go out again (R307). -/
def State.busyAgain (s : State) : State :=
  (s.host.reqs.filter (fun (e : EReq) => e.busyAt.any (fun t => s.elapsed t 10000))).foldl (fun s (e : EReq) =>
    (s.modReq e.num (fun x => { x with busyAt := none })).route e.num 8) s

/-- MOVED (R101, R176): the translation follows, and so does the request. A piece that had made progress ends with it. -/
def State.movedFor (s : State) (e : EReq) (r : RespSub) : State :=
  let s := if r.vault = 0xFFFF then s.tcacheDrop e.key else s.tcacheFill e.key r.vault r.slot r.gen
  if e.locate ∧ 0 < r.result then s.pieceAnswered e r []
  else if s.atHome e then s.endWrite e.num St.moved
  else if r.vault = 0xFFFF then s.route e.num 8
  else s.routeTo e.num e.key r.vault r.slot r.gen

/-- A STATUS frame for a request of this device (R101, R296): a lookup's answer and MOVED send the request on; BUSY has it sent again
(R307); any other status ends it, as this device takes it (R8). A restore's read is left to its source wait (R241). -/
def State.statusFor (s : State) (peer : Nat) (r : RespSub) : State :=
  if r.entry ≠ s.pool.number ∨ 2 ^ 46 ≤ r.num then s
  else if 2 ^ 45 ≤ r.num then
    (match s.ecc.repairs.find? (fun x => x.line == r.num - 2 ^ 45 && x.sent) with
    | some x => s.failRepair x
    | none => s)
  else match s.reqOf r.num with
    | none => s
    | some e =>
      let st := recvSt r.status
      if st = St.busy then s.busyFor e r
      else if e.lookup then
        if st ≠ St.ok then s
        else if r.vault ≠ 0xFFFF then s.routeTo e.num e.key r.vault r.slot r.gen
        else if e.write ∧ !e.find then s
        else s.unhomed e
      else if st = St.moved then s.movedFor e r
      else if st = St.fenced then s.turnedAway e peer r
      else
        let s := s.servedBy e peer
        if e.locate then s.pieceAnswered e r []
        else if e.write ∨ (e.work.isSome ∧ st ≠ St.uncorrectable) then s.endWrite e.num st
        else s.finishRead e 0 true

/-- STATUS (R296). -/
def execStatus (h : Hdr) (r : RespSub) (s : State) : Host.Outcome State Fault Refusal :=
  done (s.onFrame h (.status r) (fun s => (s.statusFor h.src r).advanceWorks))

/-! ### Connections (R300 to R303, R305, R308, R309) -/

/-- Whether a control frame falls under the join exceptions (R343): a joiner's at its contact, the contact's at a joiner. -/
def State.joins (s : State) (h : Hdr) : Bool :=
  (h.src == 0xFFFF && s.numbered) || ((s.pool.joinState == 1 || s.pool.joinState == 2) && h.src == s.setting 0x2002 3)

/-- What an unsequenced control frame does behind the receive checks. -/
def State.onControl (s : State) (h : Hdr) (b : FBody) (f : State → State) : State :=
  let (s, ok) := s.rx h b (s.joins h)
  if ok then f s else s

/-- A channel with a new total of credits granted (R308): totals count modulo 2^16, and an older one grants nothing. -/
def ChanSt.grantedTo (k : ChanSt) (total : Nat) : ChanSt :=
  if (total + 65536 - k.granted % 65536) % 65536 < 32768 then { k with granted := total } else k

/-- ACK (R300, R308). -/
def execAck (h : Hdr) (next credits : List Nat) (s : State) : Host.Outcome State Fault Refusal :=
  done (s.onControl h (.ack next credits) (fun s =>
    match s.connFor h with
    | none => s
    | some c =>
      if c.state ≠ 2 then s
      else
        let c := { c with chans := (List.range 4).map (fun v =>
          ((c.chan v).acked (nth next v 0) s.now).grantedTo (nth credits v 0)) }
        ((List.range 4).foldl (fun s v => s.pumpAll h.src h.dport v) (s.putConn c)).openHeld.castOps))

/-- Every unacknowledged frame of a channel is sent again, in order (R300); a channel at its retry limit fails the connection (R301). -/
def State.retransmit (s : State) (c : Conn) (vc : Nat) : State :=
  let k := c.chan vc
  if k.unacked = [] then s
  else if s.setting (0x2210 + c.port) 0x11 ≤ k.retries then s.connFails c 0 vc
  else
    let s := s.putConn { c.modChan vc (fun k => { k with retries := k.retries + 1, oldest := s.now }) with retx := c.retx + k.unacked.length }
    let s := s.count (196 + 8 * c.port) k.unacked.length
    k.unacked.foldl (fun s f => s.putFrame { f with retx := true }) s

/-- NAK (R300). -/
def execNak (h : Hdr) (vc next : Nat) (s : State) : Host.Outcome State Fault Refusal :=
  done (s.onControl h (.nak vc next) (fun s =>
    match s.connFor h with
    | none => s
    | some c =>
      if c.state ≠ 2 then s
      else
        let c := c.modChan vc (fun k => k.acked next s.now)
        (s.putConn c).retransmit c vc))

/-- Source 113+4p for a connection that is refused or a peer that cannot be reached (R303, R312). Causes (log entry 36): 6 refused,
7 unreachable. -/
def State.connEvent (s : State) (peer p cause : Nat) : State :=
  s.raise (113 + 4 * p) cause (leBytes 2 peer ++ leBytes 1 p ++ leBytes 1 0 ++ leBytes 1 cause)

/-- Whether a CONNECT or ACCEPT matches this side's encryption and key generation (R303, R313, R315); the status that refuses it. -/
def State.connRefused (s : State) (p : Nat) (b : ConnBody) : Option Nat :=
  if b.enc != s.encrypts p then some St.noAccess
  else if b.enc && (!s.mayEncrypt || b.keyGen != s.hingeKey.gen) then some St.keyErased
  else none

/-- A connection opens with the peer's initial sequence and credits (R303, R308), and the frames that waited go out. -/
def State.opens (s : State) (c : Conn) (b : ConnBody) : State :=
  let c := { c with
    state := 2
    initRx := b.seq
    epochRx := b.epoch
    lastUse := s.now
    chans := (List.range 4).map (fun v => { c.chan v with nextRx := b.seq, granted := nth b.credits v 0, sent := 0 }) }
  let s := s.modHinge (fun h => { h with unreach := h.unreach.filter (fun x => x.1 != c.peer) })
  (List.range 4).foldl (fun s v => s.pumpAll c.peer c.port v) (s.putConn c)

/-- This side of a connection for a CONNECT that finds none in hand: initial sequence, next epoch, credits (R303, R313). -/
def State.answerConn (s : State) (peer p rport : Nat) (waiting : List (List FBody)) : State × Conn :=
  let s := s.nextEpoch
  let b := s.connBody p
  (s, {
    peer := peer
    port := p
    rport := rport
    epoch := b.epoch
    enc := b.enc
    keyGen := b.keyGen
    init := b.seq
    chans := (List.range 4).map (fun v =>
      { nextTx := b.seq, waiting := nth waiting v [], given := nth b.credits v 0, told := nth b.credits v 0 }) })

/-- CONNECT (R301, R303, R313, R315): one for an open connection shows that the peer has reset. A closed side answers ACCEPT, as a
connecting one does (DEDUCED, log entry 38: the table names no row for it); at the connection limit it answers once there is room. -/
def State.connectFrom (s : State) (peer p rport : Nat) (b : ConnBody) : State :=
  let s := match s.conn peer p with
    | some c => if c.state = 2 then s.connFails c 2 0 else s
    | none => s
  match s.connRefused p b with
  | some st =>
    let s := (s.putFrame { peer := peer, port := p, vc := 3, body := .close st, rport := rport }).connEvent peer p 6
    (match s.conn peer p with
    | some c => s.putConn { c with state := 0 }
    | none => s)
  | none =>
    let going := (s.conn peer p).filter (fun c => c.state == 1)
    let (s, room) := if going.isSome then (s, true) else s.roomForConn
    if !room then s
    else
      let (s, c) := match going with
        | some c => (s, { c with rport := rport })
        | none => s.answerConn peer p rport (((s.conn peer p).map (fun (c : Conn) => c.chans.map ChanSt.waiting)).getD [])
      let mine : ConnBody := { seq := c.init, epoch := c.epoch, credits := c.chans.map (fun k => k.given), enc := c.enc, keyGen := c.keyGen }
      ((s.putConn c).putFrame { peer := peer, port := p, vc := 3, body := .accept mine }).opens c b

/-- CONNECT (R303). -/
def execConnect (h : Hdr) (b : ConnBody) (s : State) : Host.Outcome State Fault Refusal :=
  done (s.onControl h (.connect b) (fun s => s.connectFrom h.src h.dport h.sport b))

/-- ACCEPT (R303). -/
def execAccept (h : Hdr) (b : ConnBody) (s : State) : Host.Outcome State Fault Refusal :=
  done (s.onControl h (.accept b) (fun s =>
    match s.connFor h with
    | none => s
    | some c =>
      if c.state ≠ 1 then s
      else if b.enc ≠ c.enc ∨ b.keyGen ≠ c.keyGen then (s.putConn { c with state := 0 }).connEvent h.src h.dport 6
      else
        let s := if s.pool.joinState = 1 ∧ h.src = s.setting 0x2002 3 then s.modPool (fun p => { p with joinState := 2 }) else s
        s.opens c b))

/-- CLOSE (R303, R315, R343): a connecting side is refused, and its frames wait where the peer lacks the key; an open one sends what is
not acknowledged on a new connection. A joiner turned away is refused. -/
def execClose (h : Hdr) (why : Nat) (s : State) : Host.Outcome State Fault Refusal :=
  done (s.onControl h (.close why) (fun s =>
    let s := if (s.pool.joinState = 1 ∨ s.pool.joinState = 2) ∧ h.src = s.setting 0x2002 3 ∧ why = St.noAccess then
        (s.modPool (fun p => { p with joinState := 4 })).raise 134 1 (leBytes 2 (s.setting 0x2002 2) ++ leBytes 16 Config.identity)
      else s
    match s.connFor h with
    | none => s
    | some c =>
      if c.state = 1 then
        let s := s.connEvent h.src h.dport 6
        if why = St.keyErased then s.putConn { c with state := 0 } else s.dropConn h.src h.dport
      else if c.state = 2 then ((s.moveConn c).resendStreams c.port).openHeld
      else s))

/-- RETRANSMIT_TIMEOUT (R300, R301). -/
def execRetransmitTimeout (peer port vc : Nat) (s : State) : Host.Outcome State Fault Refusal :=
  done (match s.conn peer port with
    | some c =>
      if c.state = 2 ∧ (c.chan vc).unacked ≠ [] ∧ s.elapsed (c.chan vc).oldest (s.setting (0x2210 + port) 0x10) then s.retransmit c vc else s
    | none => s)

/-- ACK_TIMER (R300): 1 µs since the first frame accepted and not yet acknowledged. -/
def execAckTimer (peer port vc : Nat) (s : State) : Host.Outcome State Fault Refusal :=
  done (match s.conn peer port with
    | some c => if c.state = 2 ∧ 0 < (c.chan vc).sinceAck ∧ s.elapsed (c.chan vc).accAt 1000 then s.sendAck peer port else s
    | none => s)

/-- A peer that answers no CONNECT on a port (R303, R312): its frames go to another port of the role that has not failed it; where there
is none, source 113+4p is raised once for a present peer, and the frames stay with their requesters. -/
def State.peerGone (s : State) (c : Conn) : State :=
  let known := s.hinge.unreach.contains (c.peer, c.port)
  let s := s.modHinge (fun h => { h with unreach := if known then h.unreach else h.unreach ++ [(c.peer, c.port)] })
  if (s.upPorts (s.portRole c.port)).any (fun p => p != c.port && !s.hinge.unreach.contains (c.peer, p)) then (s.moveConn c).resendStreams c.port
  else
    let s := s.dropConn c.peer c.port
    if !known && s.pool.present.contains c.peer then s.connEvent c.peer c.port 7 else s

/-- CONNECT_TIMEOUT (R303): CONNECT again, and after three of them the peer is unreachable on this port. -/
def execConnectTimeout (peer port : Nat) (s : State) : Host.Outcome State Fault Refusal :=
  done (match s.conn peer port with
    | some c =>
      if c.state ≠ 1 ∨ !s.elapsed c.lastUse (s.setting 0x2200 0x0A) then s
      else if c.tries < 3 then
        let b : ConnBody := { seq := c.init, epoch := c.epoch, credits := c.chans.map (fun k => k.given), enc := c.enc, keyGen := c.keyGen }
        (s.putConn { c with tries := c.tries + 1, lastUse := s.now }).putFrame { peer := peer, port := port, vc := 3, body := .connect b }
      else ((((s.peerGone c).openHeld).castOps).barrierCheck.opChecks).settled
    | none => s)

/-- IDLE_CLOSE_TIMER (R303). -/
def execIdleCloseTimer (peer port : Nat) (s : State) : Host.Outcome State Fault Refusal :=
  done (match s.conn peer port with
    | some c =>
      if c.state = 2 ∧ c.chans.all (fun k => k.unacked == [] && k.waiting == []) ∧ s.elapsed c.lastUse (s.setting 0x2200 6) then
        ((s.putFrame { peer := peer, port := port, vc := 3, body := .close St.ok }).dropConn peer port).openHeld
      else s
    | none => s)

/-- The most credits a pool connection holds on each channel (R305). -/
abbrev poolMost : List Nat := [64, 128, 64, 16]
/-- The receive buffer of each channel on a port, in frames of 2,432 bytes (R290, R305). -/
abbrev bufferFrames : List Nat := [862, 1724, 1724, 107]

/-- The frames of a channel's buffer on a port that no open connection holds credits for (R305, R309). What is free is taken as what is not promised,
since the device consumes a frame as it accepts it (R307; DEDUCED, log entry 126). -/
def State.freeFrames (s : State) (p vc : Nat) : Nat :=
  nth bufferFrames vc 0 - ((s.hinge.conns.filter (fun x => x.port == p && x.state == 2)).map (fun x => x.level vc)).foldl (· + ·) 0

/-- Whether a channel of a port runs short (R309): from less than a quarter free until more than half is. -/
def State.tightNow (s : State) (p vc : Nat) : Bool :=
  if 4 * s.freeFrames p vc < nth bufferFrames vc 0 then true
  else if nth bufferFrames vc 0 < 2 * s.freeFrames p vc then false
  else nth (s.xport p).tight vc false

/-- One channel of one connection raised by up to 4 frames where its sender used up its credits and its channel does not run short (R305, R309). -/
def State.raiseCredits (s : State) (peer p vc : Nat) : State :=
  match s.conn peer p with
  | none => s
  | some c =>
    let most := if nth (s.xport p).tight vc false then nth (s.offered p) vc 0 else nth poolMost vc 0
    let n := if (c.chan vc).usedUp then min 4 (min (most - c.level vc) (s.freeFrames p vc)) else 0
    s.putConn (c.modChan vc (fun k => { k with given := k.given + n, usedUp := false }))

/-- CREDIT_WINDOW (R305, R307, R309): 10 µs at a pool port. The connections raised are told in an ACK. Frames that a pause held go on, and so do requests
that a busy peer turned away. -/
def execCreditWindow (p : Nat) (s : State) : Host.Outcome State Fault Refusal :=
  let cs := s.hinge.conns.filter (fun c => c.port == p && c.state == 2)
  let s := cs.foldl (fun s c => (List.range 4).foldl (fun s v => s.pumpAll c.peer p v) s) s
  let s := if s.portRole p = 0 then s
    else
      let s := s.modXport p (fun x => { x with tight := (List.range 4).map (fun v => s.tightNow p v) })
      cs.foldl (fun s c =>
        let s := (List.range 4).foldl (fun s v => s.raiseCredits c.peer p v) s
        if c.chans.any ChanSt.usedUp then s.sendAck c.peer p else s) s
  done s.busyAgain.advanceWorks

/-! ### Pause and neighbours (R289, R311) -/

/-- The time that a port's pauses have lasted so far is counted (R311, R322), and those that are over go. -/
def State.countPause (s : State) (p : Nat) : State :=
  let x := s.xport p
  let units := fun (e : Nat × Nat × Nat) => (min s.now e.2.2 - e.2.1) / 125
  let s := s.count (199 + 8 * p) ((x.paused.map units).foldl (· + ·) 0)
  s.modXport p (fun x => { x with paused := (x.paused.map (fun e => (e.1, e.2.1 + 125 * units e, e.2.2))).filter (fun e => decide (s.now < e.2.2)) })

/-- PFC_PAUSE (R311): honoured where it is enabled, for the priorities of the request, response and mirror channels; `quanta` of 512 bit
times at the port's rate, 0 ends the pause. -/
def execPfcPause (p prio quanta : Nat) (s : State) : Host.Outcome State Fault Refusal :=
  done (if !s.flag (0x2210 + p) 0x0C ∨ !((List.range 3).any (fun vc => s.setting (0x2210 + p) 0x0A / 16 ^ vc % 16 == prio)) then s
    else
      let s := s.countPause p
      let len := quanta * 512 / max 1 (s.xport p).mode
      let s := s.modXport p (fun x => { x with
        paused := x.paused.filter (fun e => e.1 != prio) ++ (if quanta = 0 then [] else [(prio, s.now, s.now + len)]) })
      if quanta ≠ 0 then s
      else (s.hinge.conns.filter (fun c => c.port == p && c.state == 2)).foldl (fun s c =>
        (List.range 4).foldl (fun s v => s.pumpAll c.peer p v) s) s)

/-- A port's own IPv6 and MAC address from the manifest (R289). -/
def State.ownAddr (s : State) (p : Nat) : Option (Nat × Nat) :=
  (s.entryOf s.pool.number).map (fun e => (nth e.ips p 0, nth e.macs p 0))

/-- NEIGHBOR_SOLICITATION (R289): one for the port's own address is answered; what an answer tells is kept, and the frames that waited for it go. -/
def execNeighborSolicitation (p : Nat) (solicit : Bool) (addr mac : Nat) (s : State) : Host.Outcome State Fault Refusal :=
  done (if (s.xport p).carriage ≠ 1 then s
    else if solicit then
      (match s.ownAddr p with
      | some (ip, own) => if ip = addr then s.emit (.neighbor p addr own) else s
      | none => s)
    else
      let ready := (s.xport p).unsent.filter (fun e => e.1 == addr)
      let s := s.modXport p (fun x => { x with
        nd := x.nd.filter (fun e => e.1 != addr) ++ [(addr, mac, s.now)]
        unsent := x.unsent.filter (fun e => e.1 != addr) })
      ready.foldl (fun s e => s.putDressed e.2) s)

/-- ND_CACHE_EXPIRY (R289): 30 s. -/
def execNdCacheExpiry (p addr : Nat) (s : State) : Host.Outcome State Fault Refusal :=
  done (s.modXport p (fun x => { x with nd := x.nd.filter (fun e => !(e.1 == addr && s.elapsed e.2.2 30000000000)) }))

/-! ### Notices (R226, R228, R230, R316) -/

/-- A throttle notice counts while it comes from the vault's active device (R226). -/
def State.noticeFrom (s : State) (h : Hdr) (v : Nat) : Bool := h.src == s.activeOf v

/-- THROTTLE_NOTICE (R226): this device withholds credits for the vault. -/
def execThrottleNotice (h : Hdr) (vault dirty : Nat) (s : State) : Host.Outcome State Fault Refusal :=
  done (s.onFrame h (.notice 1 vault dirty) (fun s =>
    if s.noticeFrom h vault then s.modPersist (fun p => { p with peersThrottled := addSet vault p.peersThrottled }) else s))

/-- THROTTLE_RELEASE_NOTICE (R226). -/
def execThrottleReleaseNotice (h : Hdr) (vault dirty : Nat) (s : State) : Host.Outcome State Fault Refusal :=
  done (s.onFrame h (.notice 2 vault dirty) (fun s =>
    if s.noticeFrom h vault then s.modPersist (fun p => { p with peersThrottled := delSet vault p.peersThrottled }) else s))

/-- FLUSH notice (R228): the twin learns of the flush. No rule gives it a further effect. -/
def execFlushNotice (h : Hdr) (vault dirty : Nat) (s : State) : Host.Outcome State Fault Refusal :=
  done (s.onFrame h (.notice 3 vault dirty) id)

/-- SEALED notice (R230): the standby records the seal. -/
def execSealedNotice (h : Hdr) (vault dirty : Nat) (s : State) : Host.Outcome State Fault Refusal :=
  done (s.onFrame h (.notice 4 vault dirty) (fun s =>
    if vault = s.vault ∧ (s.twin.state = 4 ∨ s.twin.state = 5) then
      s.modPersist (fun p => { p with sealRec := some (p.header.gen, s.poolTime) })
    else s))

/-! ### PTP (R317, R318, R354) -/

/-- A clock as the best master clock algorithm compares it (R317, IEEE 1588-2019): priority1, its class, accuracy and variance, priority2, identity. -/
abbrev PtpClock := Nat × Nat × Nat × Nat

/-- Whether a clock is better than another: the first of the four that differs decides, the lower is the better. -/
def betterClock (a b : PtpClock) : Bool :=
  decide (a.1 < b.1) || (a.1 == b.1 && (decide (a.2.1 < b.2.1) || (a.2.1 == b.2.1 && (decide (a.2.2.1 < b.2.2.1) ||
    (a.2.2.1 == b.2.2.1 && decide (a.2.2.2 < b.2.2.2))))))

/-- This device's own clock. -/
def State.ownClock (s : State) : PtpClock := (s.setting 0x2230 6, Config.clockQuality, s.setting 0x2230 7, Config.clockIdentity)

/-- The master followed. -/
def State.masterClock (s : State) : PtpClock := (s.hinge.ptpPrio, s.hinge.ptpQuality, s.hinge.ptpPrio2, s.hinge.ptpMaster)

/-- The port's state and master set, with its accuracy. -/
def State.follows (s : State) (state acc : Nat) (c : PtpClock) : State :=
  s.modHinge (fun h => { h with ptpState := state, ptpAcc := acc, ptpPrio := c.1, ptpQuality := c.2.1, ptpPrio2 := c.2.2.1, ptpMaster := c.2.2.2 })

/-- An Announce (R317): a better clock than this one's and the master's is the master from now on; where none is better this device is
grandmaster. -/
def State.announced (s : State) (c : PtpClock) : State :=
  let slave : Bool := s.hinge.ptpState == 8 || s.hinge.ptpState == 9
  if betterClock s.ownClock c then (if s.hinge.ptpState = 6 then s else s.follows 6 1 s.ownClock)
  else if slave && c.2.2.2 == s.hinge.ptpMaster then s
  else if slave && !betterClock c s.masterClock then s
  else s.follows 8 (if s.hinge.ptpState = 6 then 2 else s.hinge.ptpAcc) c

/-- The most a Sync's interval may slew pool time, at 200 ppm (R354). -/
def slewMost (interval : Nat) : Int := (interval / 5000 : Nat)

/-- A measured offset from the master (R318, R354): pool time is stepped before the first ready wave, and slewed after it; an offset
above 1 ms is left for the step. -/
def State.synced (s : State) (offset : Int) (delay : Nat) : State :=
  if !(s.hinge.ptpState == 8 || s.hinge.ptpState == 9) then s
  else
    let wide := decide (s.setting 0x2230 0x0D < offset.natAbs)
    let m := slewMost (s.now - s.hinge.syncAt)
    let fix := if s.pool.wave = 0 then offset else if 1000000 < offset.natAbs then 0 else max (-m) (min m offset)
    let t := s.modHinge (fun h => { h with
      ptpState := 9
      ptpOffset := offset
      ptpDelay := delay
      ptpAcc := if wide then 3 else 1
      base := h.base - fix
      freq := if s.pool.wave = 0 ∨ s.now ≤ h.syncAt then h.freq else -fix * 1000000000 / ((s.now - h.syncAt : Nat) : Int)
      syncAt := s.now })
    if s.pool.wave = 0 then t.modPlace (fun p => { p with epochAt := t.poolTime }) else t

/-- PTP_MESSAGE (R317, R318), with its domain number: one of another domain is not this port's. -/
def execPtpMessage (m : Nat × PtpMsg) (s : State) : Host.Outcome State Fault Refusal :=
  done (if !s.flag 0x2230 1 ∨ s.hinge.ptpState = 3 ∨ m.1 ≠ s.setting 0x2230 8 then s
    else
      let before := s.hinge
      (match m.2 with
      | .announce prio quality prio2 clock => s.announced (prio, quality, prio2, clock)
      | .sync offset delay => s.synced offset delay
      | .delayReq clock => if s.hinge.ptpState = 6 then s.emit (.ptp 3 clock) else s).ptpEvent before)

/-- An interval of 2^k s in ns, k from the object's two's complement value. -/
def logInterval (v : Nat) : Nat := 1000000000 / 2 ^ (-(toInt 32 v)).toNat

/-- A grandmaster's Announce, every 2 s: the default interval of IEEE 1588-2019, since 0x2230 has none (PRESUMED, log entry 127). -/
def State.announce (s : State) : State :=
  if s.hinge.annSent.all (fun t => s.elapsed t 2000000000) then
    (s.modHinge (fun h => { h with annSent := some s.now })).emit (.ptp 4 Config.clockIdentity)
  else s

/-- PTP_SYNC_INTERVAL (R317): a grandmaster sends Sync and, two-step, Follow_Up, and its Announce when one is due. -/
def execPtpSyncInterval (s : State) : Host.Outcome State Fault Refusal :=
  let due : Bool := match s.hinge.syncSent with | some t => s.elapsed t (logInterval (s.setting 0x2230 9)) | none => true
  done (if s.hinge.ptpState = 6 ∧ s.flag 0x2230 1 ∧ due then
      (((s.modHinge (fun h => { h with syncSent := some s.now })).emit (.ptp 0 0)).emit (.ptp 1 s.poolTime)).announce
    else s)

/-- PTP_DELAY_REQUEST_INTERVAL (R317). -/
def execPtpDelayRequestInterval (s : State) : Host.Outcome State Fault Refusal :=
  let due : Bool := match s.hinge.reqSent with | some t => s.elapsed t (logInterval (s.setting 0x2230 0x0A)) | none => true
  done (if (s.hinge.ptpState = 8 ∨ s.hinge.ptpState = 9) ∧ s.flag 0x2230 1 ∧ due then
      (s.modHinge (fun h => { h with reqSent := some s.now })).emit (.ptp 2 Config.clockIdentity)
    else s)

/-- TIME_BASE_STEP (R354): after the first ready wave an offset above 1 ms is stepped once at a frame boundary; every arbiter restarts at
slot 0 of a new frame; source 198. -/
def execTimeBaseStep (offset : Int) (s : State) : Host.Outcome State Fault Refusal :=
  done (if s.pool.wave = 0 ∨ s.hinge.ptpState ≠ 9 ∨ offset.natAbs ≤ 1000000 ∨ s.hinge.ptpOffset ≠ offset then s
    else
      let s := s.modHinge (fun h => { h with base := h.base - offset, steps := h.steps + 1, ptpOffset := 0 })
      let s := s.modPlace (fun p => { p with epochAt := min p.epochAt s.poolTime })
      (s.modLattice (fun l => { l with origin := s.poolTime })).raise 198 0 (leBytes 8 (ofInt 64 (-offset))))

/-- PTP_ANNOUNCE_TIMEOUT (R317, R318): a slave that hears no master enters holdover; one that hears no better clock at all is
grandmaster. -/
def execPtpAnnounceTimeout (s : State) : Host.Outcome State Fault Refusal :=
  let before := s.hinge
  done (if !s.flag 0x2230 1 then s
    else if s.hinge.ptpState = 8 ∨ s.hinge.ptpState = 9 then (s.modHinge holdOver).ptpEvent before
    else if s.hinge.ptpState = 1 ∨ s.hinge.ptpState = 4 then
(s.follows 6 1 s.ownClock).ptpEvent before
    else s)

end Sys2Proof.Machine
end

