-- ==== Sys2Proof/Machine/Recorder.lean ====
section
/-! DEFINITION. The event recorder's and the counters' commands and timers, UCIe and the time base (R496 to R515). -/

namespace Sys2Proof.Machine

/-! ### Acknowledging (R496) -/

/-- ACKNOWLEDGE_SOURCE (R496): false written to 0xA000+n:09. -/
def execAcknowledgeSource (rq : Req) (tag n : Nat) (s : State) : Host.Outcome State Fault Refusal :=
  done (s.writeNum rq tag (0xA000 + n) 9 1 0 (fun s =>
    (s.modRec (fun r => { r with srcs := modD r.srcs n {} (fun x => { x with pending := false }) }), St.ok)))

/-- ACKNOWLEDGE_ALL (R496). -/
def execAcknowledgeAll (rq : Req) (tag : Nat) (s : State) : Host.Outcome State Fault Refusal :=
  done (s.writeNum rq tag 0x3A00 0x0D 1 1 (fun s =>
    (s.modRec (fun r => { r with srcs := r.srcs.map (fun e => (e.1, { e.2 with pending := false })) }), St.ok)))

/-! ### Areas (R499, R500, R512) -/

/-- RECORDER_FLUSH (R500); during a flush the recorder's records wait for the map (R483), whose end flushes them. -/
def execRecorderFlush (rq : Req) (tag : Nat) (s : State) : Host.Outcome State Fault Refusal :=
  done (s.writeNum rq tag 0x3A00 6 1 1 (fun s =>
    (if s.sbox.flushHold && s.persist.mapOut.isSome then s else s.modRec recFlush, St.ok)))

/-- CLEAR_FIRST_AREA (R512): region 8 erased; source 294. -/
def execClearFirstArea (rq : Req) (tag : Nat) (s : State) : Host.Outcome State Fault Refusal :=
  done (s.writeNum rq tag 0x3A00 5 1 1 (fun s =>
    ((s.modRec (fun r => { r with first := [], firstPend := [], firstTail := [], firstFull := false })).raise 294 0 (reqBytes rq), St.ok)))

/-! ### Withholding (R503) -/

/-- REPEAT_WINDOW_EXPIRY (R503): a window that withheld occurrences makes its Summary record and opens anew. -/
def execRepeatWindowExpiry (source cause : Nat) (s : State) : Host.Outcome State Fault Refusal :=
  let s := s.syncMode
  done (match s.windowOf (source * 256 + cause) with
    | some w =>
      if w.bucket ∨ !s.elapsed w.since w.len then s
      else if w.count = 0 then s.modRec (fun r => { r with windows := r.windows.filter (fun x => x.code != w.code) })
      else s.settleWindow w.code
    | none => s)

/-- TOKEN_REFILL (R503): a bucket that is full again makes its Summary record, which takes no token. -/
def execTokenRefill (source cause : Nat) (s : State) : Host.Outcome State Fault Refusal :=
  let s := s.syncMode
  done (match s.windowOf (source * 256 + cause) with
    | some w =>
      if !w.bucket then s
      else
        let (s, w) := s.refillBucket w
        s.modRec (fun r => { r with windows := setWindow w r.windows })
    | none => s)

/-! ### Management interrupts (R497) -/

/-- The key of a path in the interrupt tables: 0 and 1 the I3C ports, 3 + p host port p. -/
def irqKey : Path → Nat
  | .i3c0 => 0
  | .i3c1 => 1
  | .jtag => 2
  | .cxl p _ => 3 + p

/-- Whether a path carries management interrupts now (R497): on a host port, the FM-owned logical device in multi-logical-device mode and the port
function in global fabric-attached memory mode. -/
def State.irqPath (s : State) (p : Path) : Bool :=
  s.irqPaths.contains (irqKey p) && (match p with
    | .cxl _ ld => ld == (if s.host.mode = 1 then 0 else 16)
    | _ => true)

/-- MGMT_INTERRUPT_TIMER (R497): at most one interrupt a millisecond a path, with the first source since the last. -/
def execMgmtInterruptTimer (p : Path) (s : State) : Host.Outcome State Fault Refusal :=
  let k := irqKey p
  done (match assoc s.rec_.irq k with
    | none => s
    | some src =>
      let due : Bool := match assoc s.rec_.irqAt k with | some t => s.elapsed t 1000000 | none => true
      if !due || !s.irqPath p then s
      else
        let s := s.modRec (fun r => { r with irq := eraseKey k r.irq, irqAt := insertKey k s.now r.irqAt })
        match p with
        | .cxl port ld => s.msix port ld 0
        | _ => s.emit (.mgmtIrq p src))

/-! ### Counters (R508 to R511) -/

/-- COUNTER_PRESET (R508): the overflow flag stays. -/
def execCounterPreset (rq : Req) (tag n v : Nat) (s : State) : Host.Outcome State Fault Refusal :=
  done (s.writeNum rq tag (0xB000 + n) 7 8 v (fun s =>
    (s.modRec (fun r => { r with ctrs := modD r.ctrs n {} (fun c => { c with value := v }) }), St.ok)))

/-- LOCAL_FREEZE_WRITE (R510). -/
def execLocalFreezeWrite (rq : Req) (tag mask : Nat) (s : State) : Host.Outcome State Fault Refusal :=
  done (s.writeNum rq tag 0x3B00 1 4 mask (fun s => (s.modRec (fun r => { r with localMask := BitVec.ofNat 32 mask }), St.ok)))

/-- COUNTER_SWEEP (R509, R511): every counter's value into the copy; samples lost are told once a second. -/
def execCounterSweep (s : State) : Host.Outcome State Fault Refusal :=
  let s := (List.range 4).foldl (fun s p => s.countPause p) s
  let s := s.modRec (fun r => { r with ctrs := r.ctrs.map (fun e => (e.1, { e.2 with page := e.2.value })) })
  done (match s.rec_.sLostAt with
    | some t =>
      if s.elapsed t 1000000000 then
        (s.modRec (fun r => { r with sLostAt := none })).raise 291 0 (leBytes 2 s.rec_.sLostCtr ++ leBytes 4 s.rec_.sLost)
      else s
    | none => s)

/-! ### UCIe and the time base (R515) -/

/-- UCIE_LANE_FAILURE (R515): the lane is repaired onto the spare lane. -/
def execUcieLaneFailure (m lane : Nat) (s : State) : Host.Outcome State Fault Refusal :=
  done ((s.modPower (fun p => { p with ucieLanes := insertKey m lane p.ucieLanes })).raise 304 0 (leBytes 1 m ++ leBytes 1 lane))

/-- UCIE_RETRAIN (R515). -/
def execUcieRetrain (m cause : Nat) (s : State) : Host.Outcome State Fault Refusal := done (s.raise 305 0 (leBytes 1 m ++ leBytes 1 cause))

/-- UCIE_CRC_RATE (R515). -/
def execUcieCrcRate (m retries : Nat) (s : State) : Host.Outcome State Fault Refusal := done (s.raise 306 0 (leBytes 1 m ++ leBytes 4 retries))

/-- UCIE_MODULE_FAILURE (R515): the other module carries the traffic. -/
def execUcieModuleFailure (m : Nat) (s : State) : Host.Outcome State Fault Refusal :=
  done ((s.modPower (fun p => { p with ucie := delSet m p.ucie })).raise 307 0 (leBytes 1 m))

/-- TIME_BASE_PLL_LOSS (R515): the time base runs on at its last setting. -/
def execTimeBasePllLoss (s : State) : Host.Outcome State Fault Refusal :=
  done ((s.modPower (fun p => { p with pllLost := true })).raise 308 0 [])

end Sys2Proof.Machine
end

