-- ==== Sys2Proof/Machine/Views.lean ====
section
/-! DEFINITION. What an object reads (R48): the records, tables and windows the chapters lay out over the state, and the one
read of any object. -/

namespace Sys2Proof.Machine

/-- A byte string cut or filled with zeros to a length. -/
def padTo (n : Nat) (b : Bytes) : Bytes := b.take n ++ List.replicate (n - b.length) 0

/-- Sums a list of numbers. -/
def sumOf (l : List Nat) : Nat := l.foldl (· + ·) 0

/-! ### Pool and vault (R22, R39, R323) -/

/-- Objects of 0x2000 to 0x2020. -/
def State.viewPool (s : State) (idx sub : Nat) : Option Nat :=
  let v := s.vault
  let i := s.extents
  match idx, sub with
  | 0x2000, 1 => some s.pool.id
  | 0x2000, 2 => some s.pool.gen
  | 0x2000, 3 => some s.pool.manGen
  | 0x2000, 4 => some (if s.numbered then s.rankAt s.pool.number else 0xFFFF)
  | 0x2001, 5 => some s.pool.manStatus
  | 0x2002, 8 => some (fromLe (addrBytes 6 Config.factoryMac))
  | 0x2002, 9 => some s.pool.joinState
  | 0x2004, 2 => some (getD s.pool.dirMap (s.setting 0x2004 1) 0)
  | 0x2004, 4 => some s.pool.transfers.length
  | 0x2008, 1 => some (min s.pool.number 0xFFFF)
  | 0x2008, 2 => some (if s.numbered then v else 0xFFFF)
  | 0x2008, 3 => some (if s.twinListed then s.twinDev else 0xFFFF)
  | 0x2008, 4 => some s.listedCount
  | 0x2008, 5 => some s.vaults.length
  | 0x2008, 6 => some s.pool.present.length
  | 0x2010, 1 => some i
  | 0x2010, 3 => some (spareReserve i (s.setting 0x2010 2))
  | 0x2010, 5 => some s.copyRoom
  | 0x2010, 6 => some (metaExtents i)
  | 0x2010, 7 => some s.homeable
  | 0x2010, 9 => some s.placeable
  | 0x2010, 0xA => some s.homed
  | 0x2010, 0xB => some s.place.spare.length
  | 0x2010, 0xC => some s.copyUsed
  | 0x2010, 0xD => some s.ownExtents
  | 0x2010, 0xE => some s.pool.shareStatus
  | 0x2011, 1 => some s.poolPlaceable
  | 0x2011, 2 => some s.poolReserved
  | 0x2011, 3 => some s.poolHomed
  | 0x2011, 4 => some (s.poolPlaceable - s.poolReserved)
  | 0x2020, 1 => some (min s.pool.root 0xFFFF)
  | 0x2020, 2 => some s.pool.term
  | 0x2020, 3 => some s.depth
  | 0x2020, 4 => some (min s.pool.parent 0xFFFF)
  | 0x2020, 5 => some s.children.length
  | 0x2020, 8 => some s.pool.gather
  | 0x2020, 0xC => some (b2n s.pool.authority)
  | 0x2020, 0xD => some s.pool.wave
  | 0x2300, 4 => some s.pool.lastOp
  | 0x2300, 5 => some s.pool.lastLatch
  | 0x2300, 6 => some s.poolTime
  | 0x2310, 3 => some s.pool.opStatus
  | 0x2310, 4 => some s.pool.opNumber
  | _, _ => none

/-! ### Twin and Hinge (R282, R303, R320) -/

/-- The connection record of 0x2240:03. -/
def connBytes (c : Conn) : Bytes :=
  let per := fun (n : Nat) (f : ChanSt → Nat) => (List.range 4).flatMap (fun v => leBytes n (f (c.chan v)))
  padTo 64 (leBytes 1 c.state ++ leBytes 3 0 ++ leBytes 4 c.init ++ leBytes 4 c.initRx ++ per 4 ChanSt.nextTx ++ per 4 ChanSt.nextRx
    ++ per 2 ChanSt.credits ++ leBytes 4 c.epoch ++ leBytes 2 c.keyGen ++ leBytes 4 c.retx)

/-- Objects of 0x2100 to 0x2120. -/
def State.viewTwin (s : State) (idx sub : Nat) : Option Nat :=
  match idx, sub with
  | 0x2100, 1 => some s.twin.state
  | 0x2100, 2 => some s.twin.claim
  | 0x2100, 3 => some (s.claimOf s.vault)
  | 0x2100, 7 => some (s.setting 0x2100 6 / 2)
  | 0x2100, 0xA => some s.twin.handStatus
  | 0x2100, 0xB => some (b2n s.twin.inSync)
  | 0x2100, 0xC => some s.twin.cause
  | 0x2100, 0xD => some (2 * s.setting 0x2100 5)
  | 0x2110, 1 => some (b2n s.twin.frameSilent)
  | 0x2110, 2 => some (beatCode s.twin.beat)
  | 0x2110, 3 => some (if s.twin.hearing then 0 else s.silence)
  | 0x2110, 4 => some s.twin.signal
  | 0x2110, 5 => some (sumOf s.twin.edges / max 1 s.twin.edges.length)
  | 0x2120, 1 => some s.twin.resyncMode
  | 0x2120, 2 => some s.twin.resync.length
  | 0x2120, 3 => some s.twin.resyncSent
  | _, _ => none

/-- Objects of 0x2200 to 0x2240; the codeword counts of a port's FEC are the port's own (log entry 51). -/
def State.viewHinge (s : State) (idx sub : Nat) : Option Nat :=
  if 0x2210 ≤ idx ∧ idx < 0x2214 then
    let p := idx - 0x2210
    let own := s.entryOf s.pool.number
    match sub with
    | 1 => some (s.xport p).link
    | 2 => some (s.xport p).mode
    | 4 => some (s.xport p).lanes
    | 0xD => some (match own with | some e => fromLe (addrBytes 6 (nth e.macs p 0)) | none => 0)
    | 0xE => some (match own with | some e => fromLe (addrBytes 16 (nth e.ips p 0)) | none => 0)
    | 0x12 => some s.free
    | 0x13 => some s.free
    | 0x14 => some (s.portRole p)
    | _ => none
  else match idx, sub with
  | 0x2200, 4 => some (s.hinge.conns.filter (fun c => c.state == 2)).length
  | 0x2200, 8 => some s.hingeKey.gen
  | 0x2200, 9 => some s.hinge.epoch
  | 0x2230, 2 => some s.hinge.ptpPort
  | 0x2230, 3 => some s.hinge.ptpState
  | 0x2230, 4 => some (ofInt 64 s.hinge.ptpOffset)
  | 0x2230, 5 => some s.hinge.ptpDelay
  | 0x2230, 0xB => some s.hinge.ptpMaster
  | 0x2230, 0xC => some s.hinge.ptpAcc
  | _, _ => none

/-! ### Host ports, rings, placement (R94, R122, R130, R198) -/

/-- A ring's 16 bytes in the ring state table (R130). -/
def ringBytes (r : Ring) : Bytes :=
  leBytes 1 r.state ++ leBytes 1 r.halt ++ leBytes 1 r.port ++ leBytes 1 0 ++ leBytes 2 r.host ++ leBytes 2 r.flight.length
    ++ leBytes 4 r.head ++ leBytes 4 r.cwrit

/-- Objects of 0x3000 to 0x3111. -/
def State.viewHost (s : State) (idx sub : Nat) : Option Nat :=
  if 0x3010 ≤ idx ∧ idx < 0x3018 then
    let x := s.hostPort (idx - 0x3010)
    if !s.portExists (idx - 0x3010) then some 0
    else match sub with
    | 1 => some x.link
    | 2 => some x.speed
    | 4 => some x.width
    | 5 => some x.protocol
    | 9 => some x.pbr
    | 0xA => some x.retrains
    | _ => none
  else match idx, sub with
  | 0x3000, 3 => some (s.host.sess.filter (fun e => e.2.state != 0)).length
  | 0x3000, 8 => some s.host.held.length
  | 0x3100, 1 => some (s.rings.rings.filter (fun e => e.2.state != 0)).length
  | 0x3100, 3 => some s.rings.completed
  | 0x3100, 4 => some s.rings.notOk
  | 0x3100, 5 => some s.rings.bytes
  | 0x3100, 6 => some (s.rings.works.filter (fun w => w.from_ == .none)).length
  | _, _ => none

/-- A session's own members (R94). -/
def State.viewSession (s : State) (n sub : Nat) : Option Nat :=
  let x := s.sess n
  match sub with
  | 1 => some x.state
  | 0xC => some x.eff
  | 0xF => some x.acc
  | 0x10 => some x.reads
  | 0x11 => some x.writes
  | 0x12 => some x.refused
  | 0x13 => some x.poisons
  | _ => none

/-- A volume's record (R28). -/
def State.viewVolume (s : State) (n sub : Nat) : Option Nat :=
  let v := s.vol n
  match sub with
  | 1 => some v.state
  | 2 => some 0
  | 3 => some v.size
  | 4 => some v.cls
  | 5 => some v.label
  | 6 => some (s.volHomed n)
  | 7 => some (s.boundCount n)
  | 8 => some v.number
  | 9 => some v.status
  | 0xA => some v.dev
  | _ => none

/-- A directory entry's 32 bytes (R173). -/
def dirBytes (s : State) (key : Nat) (d : DirEnt) : Bytes :=
  leBytes 5 key ++ leBytes 1 d.state
    ++ leBytes 1 (b2n (d.attract != 0xFFFF) + 2 * b2n d.pinned + 4 * b2n d.noCopies + 8 * b2n (d.group != 0) + 16 * d.copies.length
        + 128 * b2n (s.coolingNow d))
    ++ leBytes 1 d.gen ++ leBytes 2 d.home ++ leBytes 3 d.slot ++ leBytes 1 0 ++ leBytes 2 d.attract ++ leBytes 4 d.group
    ++ (List.range 4).flatMap (fun i => leBytes 2 (nth d.copies i 0xFFFF)) ++ leBytes 2 d.coolEnd ++ leBytes 2 d.prev

/-- Objects of 0x3200 to 0x3230. -/
def State.viewPlace (s : State) (idx sub : Nat) : Option Nat :=
  match idx, sub with
  | 0x3200, 4 => some (decayFactor (s.setting 0x3200 2) s.place.halfLife)
  | 0x3200, 6 => some (ceilDiv s.place.halfLife (s.setting 0x3200 2))
  | 0x3230, 1 => some (s.place.migs.filter (fun m => !s.isReloc m)).length
  | 0x3230, 2 => some s.place.migIns.length
  | 0x3230, 3 => some s.place.cand.length
  | 0x3230, 4 => some s.place.copyIns.length
  | 0x3230, 5 => some s.place.copyOuts.length
  | 0x3230, 6 => some s.place.tombs.length
  | 0x3230, 7 => some (sumOf (s.place.tcache.map (fun e => e.2.length)))
  | 0x3230, 9 => some s.place.epoch
  | 0x3230, 0xA => some s.place.roomEpoch
  | _, _ => none

/-! ### Persistence (R249) -/

/-- Objects of 0x3300 to 0x3350. -/
def State.viewPersist (s : State) (idx sub : Nat) : Option Nat :=
  if 0x3340 ≤ idx ∧ idx < 0x3350 then
    let d := idx - 0x3340
    match sub with
    | 1 => some (s.drive d).state
    | 3 => some (s.drive d).lbas
    | 4 => some (s.drive d).fails
    | 5 => some (s.persist.poisonTab.filter (fun e => e.1 == d)).length
    | _ => none
  else match idx, sub with
  | 0x3300, 4 => some s.flushRate
  | 0x3300, 5 => some s.ceiling
  | 0x3300, 6 => some s.dirtySet
  | 0x3300, 8 => some (b2n s.persist.throttled)
  | 0x3300, 9 => some s.persist.state
  | 0x3300, 0xD => some s.persist.restored
  | 0x3300, 0xE => some s.persist.suspects.length
  | 0x3310, 5 => some s.persist.header.keyGen
  | 0x3310, 6 => some s.persist.header.gen
  | 0x3310, 7 => some s.homeState
  | 0x3330, 2 => some s.persist.pointNo
  | 0x3330, 3 => some s.persist.pointStatus
  | 0x3330, 4 => some s.persist.pointLatch
  | 0x3330, 6 => some s.persist.pointMissed
  | 0x3350, 1 => some s.persist.seq
  | 0x3350, 2 => some s.persist.horizon
  | 0x3350, 3 => some s.persist.ports
  | _, _ => none

/-! ### Lattice and timing (R371) -/

/-- A table's 64 bytes. -/
def tableBytes (l : List Nat) : Nat := fromLe (l.map (BitVec.ofNat 8))

/-- Objects of 0x3400 to 0x3470. -/
def State.viewLattice (s : State) (idx sub : Nat) : Option Nat :=
  if 0x3410 ≤ idx ∧ idx < 0x342A then
    let r := idx - 0x3410
    match sub with
    | 1 => some (tableBytes (s.activeTable r))
    | 3 => some (if (s.arb r).active = [] then 0 else (s.arb r).gen)
    | 4 => some (s.arb r).swapAt
    | 5 => some (tableBytes (s.defTable r))
    | _ => none
  else if 0x3440 ≤ idx ∧ idx < 0x345A then
    let a := s.arb (idx - 0x3440)
    match sub with
    | 9 => some a.borrowed
    | 0xA => some a.idle
    | 0xB => some a.locks
    | 0xC => some a.bound
    | 0xD => some a.longest
    | 0xE => some a.sats
    | n => if 1 ≤ n ∧ n ≤ 8 then some (nth a.grants (n - 1) 0) else none
  else match idx, sub with
  | 0x3400, 6 => some s.lattice.swapStatus
  | 0x3400, 7 => some s.pendingMask
  | 0x3400, 9 => some (b2n s.lattice.ovf)
  | 0x3460, 1 => some (if 2 ≤ s.hinge.ptpAcc then 2 else if s.hinge.ptpState = 9 ∧ s.hinge.ptpAcc = 1 then 1 else 0)
  | 0x3460, 2 => some (ofInt 32 s.hinge.freq)
  | 0x3460, 3 => some s.hinge.steps
  | 0x3470, 1 => some s.pace.vault
  | 0x3470, 2 => some s.pace.steward
  | _, _ => none

/-! ### DRAM and data protection (R403, R428) -/

/-- A DIMM's summary (R404). -/
def dimmBytes (s : State) (n d : Nat) : Bytes :=
  match (spdsOf (s.chan n).spd)[d]? with
  | none => leBytes 16 0
  | some x =>
    let gb := x.die * x.height * x.ranks * (64 / x.width) / 8
    leBytes 1 x.type ++ leBytes 1 x.width ++ leBytes 1 x.die ++ leBytes 1 x.ranks ++ leBytes 1 x.height
      ++ leBytes 1 (x.speed / 100) ++ leBytes 2 gb ++ leBytes 2 x.maker ++ leBytes 4 x.serial ++ leBytes 2 0

/-- Objects of 0x3500 and the channels' records. -/
def State.viewDram (s : State) (idx sub : Nat) : Option Nat :=
  if 0x3510 ≤ idx ∧ idx < 0x3520 then
    let n := idx - 0x3510
    let c := s.chan n
    match sub with
    | 1 => some c.state
    | 2 => some (fromLe (dimmBytes s n 0))
    | 3 => some (fromLe (dimmBytes s n 1))
    | 4 => some (s.rankStates n)
    | 6 => some (s.displaced.filter (fun x => slotChan x == n)).length
    | 9 => some c.status
    | 0xA => some c.trainTime
    | 0xB => some (maxOf (c.ranks.map (fun r => r.2.owed)) 0)
    | 0xC => some (ofInt 32 c.temp)
    | 0xD => some c.episodes
    | 0xE => some c.fails
    | 0xF => some (match c.captured with | some k => k | none => 0)
    | _ => none
  else match idx, sub with
  | 0x3500, 2 => some s.dram.speed
  | 0x3500, 3 => some s.dram.perChan
  | 0x3500, 4 => some (s.dram.colBits + 16 * s.dram.rowBits + 2 ^ 9 * s.dram.chipBits + 2 ^ 11 * s.dram.ranks2 + 2 ^ 12 * s.dram.dimms2
      + 2 ^ 13 * s.dram.width)
  | 0x3500, 5 => some s.dram.pop
  | 0x3500, 0x15 => some s.dram.readAddr
  | 0x3500, 0x16 => some (fromLe s.dram.readData)
  | 0x3500, 0x17 => some s.dram.frozen
  | _, _ => none

/-- A poison list entry's 16 bytes (R418). -/
def poisonBytes (e : PoisonEnt) : Bytes := leBytes 6 (64 * e.line) ++ leBytes 1 e.cause ++ leBytes 1 e.span ++ leBytes 8 e.time

/-- Objects of 0x3600 and the channels' error records. -/
def State.viewEcc (s : State) (idx sub : Nat) : Option Nat :=
  if 0x3620 ≤ idx ∧ idx < 0x3630 then
    let x := s.eccChan (idx - 0x3620)
    match sub with
    | 1 => some (sumOf ((List.range 8).map (fun k => getD x.erased k 0xF * 16 ^ k)))
    | 2 => some x.corrected
    | 3 => some x.uncorr
    | 6 => some (fromLe ((List.range 80).map (fun k => BitVec.ofNat 8 (min 255 (getD x.counts k 0)))))
    | _ => none
  else match idx, sub with
  | 0x3600, 2 => some s.ecc.merge.length
  | 0x3600, 5 => some (s.ecc.scrubbed / 2 ^ 20)
  | 0x3600, 6 => some s.ecc.passEnd
  | 0x3600, 8 => some s.ecc.repairs.length
  | 0x3600, 0xC => some s.ecc.selfTest
  | 0x3600, 0xD => some s.ecc.list.length
  | 0x3600, 0xE => some (b2n s.ecc.overflow)
  | 0x3600, 0x10 => some (match s.ecc.list[s.setting 0x3600 0xF]? with | some e => fromLe (poisonBytes e) | none => 0)
  | _, _ => none

/-! ### Cipher, steward, strongbox (R446, R469, R491) -/

/-- A key slot's status (0x3710:02). -/
def State.keyBytes (s : State) (n : Nat) : Bytes :=
  let k := s.keySlot n
  leBytes 1 k.state ++ leBytes 1 k.kind ++ leBytes 2 k.gen ++ leBytes 3 k.kcv ++ leBytes 1 0
    ++ leBytes 2 (s.cipher.ctxs.filter (fun e => e.2.slot == n)).length ++ leBytes 6 0

/-- Objects of 0x3700 and 0x3710. -/
def State.viewCipher (s : State) (idx sub : Nat) : Option Nat :=
  match idx, sub with
  | 0x3700, 1 => some (ones s.cipher.pipes.toNat 16)
  | 0x3700, 2 => some s.cipher.pipes.toNat
  | 0x3700, 3 => some s.cipher.ctxs.length
  | 0x3700, 4 => some s.holdUsed
  | 0x3700, 7 => some s.cipher.testFail.toNat
  | 0x3700, 9 => some s.cipher.faults
  | 0x3710, 2 => some (fromLe (s.keyBytes (s.setting 0x3710 1)))
  | 0x3710, 3 => some (s.cipher.slots.filter (fun e => e.2.state == 1)).length
  | _, _ => none

/-- An image slot's status (R456). -/
def imageBytes (i : Image) : Bytes :=
  leBytes 1 i.state ++ leBytes 1 (b2n i.active) ++ leBytes 2 0 ++ leBytes 4 i.verNow ++ leBytes 4 i.ifaceNow ++ leBytes 4 i.sizeNow

/-- Objects of 0x3800 to 0x3830. -/
def State.viewSteward (s : State) (idx sub : Nat) : Option Nat :=
  if 0x3810 ≤ idx ∧ idx < 0x3816 then
    let c := idx - 0x3810
    match sub with
    | 1 => some (s.cluster c).state
    | 4 => some (s.cluster c).locked.toNat
    | 5 => some (s.cluster c).merge.length
    | 7 => some (s.rolesOf c)
    | _ => none
  else if 0x3830 ≤ idx ∧ idx < 0x3860 then
    let e := s.engine (idx - 0x3830)
    match sub with
    | 1 => some (s.engineState (idx - 0x3830))
    | 2 => some e.cause
    | 3 => some e.traps
    | _ => none
  else match idx, sub with
  | 0x3800, 1 => some ((List.range 48).filter (fun e => s.engineState e == 0)).length
  | 0x3800, 2 => some s.steward.running
  | 0x3800, 3 => some (s.image s.steward.running).verNow
  | 0x3820, 2 => some (fromLe (imageBytes (s.image 0)))
  | 0x3820, 3 => some (fromLe (imageBytes (s.image 1)))
  | 0x3820, 5 => some s.steward.actStatus
  | 0x3820, 6 => some s.steward.updating
  | _, _ => none

/-- A region's record (R475): the saved sets' copy and generation are the model's own, those of the pool state are its generation
and a free copy (log entry 51); no other region has copies. -/
def State.regionBytes (s : State) (k : Nat) : Bytes :=
  let row := nth sbRegions k (0, 0, 0)
  let force := if k = 6 ∨ k = 7 then b2n (s.dict.savedB.valid && (!s.dict.savedA.valid || decide (s.dict.savedA.gen < s.dict.savedB.gen)))
    else if k = 2 ∨ k = 3 then s.free % 2 else 0
  let gen := if k = 6 ∨ k = 7 then ((s.dict.newest.map SavedSet.gen).getD 0) else if k = 2 ∨ k = 3 then s.pool.gen else 0
  leBytes 2 row.1 ++ leBytes 2 row.2.1 ++ leBytes 1 row.2.2 ++ leBytes 1 force ++ leBytes 4 gen ++ leBytes 6 0

/-- A frame's record (R491). -/
def State.frameBytes (s : State) (f : Nat) : Bytes :=
  let p := s.sbox.physOf f
  let x := s.sector p
  leBytes 4 x.erases ++ leBytes 2 p ++ leBytes 2 (s.sbox.logicalOf f)
    ++ leBytes 1 (if s.sbox.badFrames.contains f then 2 else if x.due then 1 else 0) ++ leBytes 1 x.weak ++ leBytes 1 x.progFails ++ leBytes 5 0

/-- Objects of 0x3900 to 0x3940. -/
def State.viewSbox (s : State) (rq : Req) (idx sub : Nat) : Option Nat :=
  match idx, sub with
  | 0x3900, 2 => some (32 - s.sbox.spares)
  | 0x3900, 3 => some s.sbox.badFrames.length
  | 0x3900, 4 => some s.sbox.gap
  | 0x3900, 5 => some s.sbox.start
  | 0x3900, 6 => some s.sbox.since
  | 0x3900, 7 => some s.sbox.total
  | 0x3900, 8 => some (maxOf (s.sbox.sectors.map (fun e => e.2.erases)) 0)
  | 0x3900, 0xB => some (b2n s.sbox.flushHold)
  | 0x3910, k => some (fromLe (s.regionBytes (k - 1)))
  | 0x3920, 2 => some (fromLe (reqGet s.sbox.lastDone rq []))
  | 0x3940, 2 => some (fromLe (s.frameBytes (s.setting 0x3940 1)))
  | _, _ => none

/-! ### Events, recorder, counters (R498, R504, R511 to R514) -/

/-- A record's 32 bytes (R498). -/
def recBytes (r : Rec) : Bytes :=
  let head := r.source + 512 * r.sev + 2 ^ 12 * b2n r.summary + 2 ^ 13 * b2n r.unlocked + 2 ^ 14 * b2n r.more + 2 ^ 15 * b2n r.cont
  let body := if r.cont then padTo 20 r.detail
    else leBytes 8 r.time ++ leBytes 1 r.cause ++ leBytes 1 0 ++ leBytes 2 r.rep ++ padTo 8 r.detail
  let b := leBytes 6 r.seq ++ leBytes 2 head ++ body
  b ++ leBytes 4 (crc32cOf b)

/-- The records that a window draws from (R504): all areas, or the first area with its tail. -/
def State.recPool (s : State) : List Rec :=
  if s.setting 0x3A10 3 = 1 then s.rec_.first ++ s.rec_.firstPend else s.rec_.buf ++ s.rec_.circ ++ s.rec_.first ++ s.rec_.firstPend

/-- The record window (R504): 32 records from the window's start; a gap record for a sequence that is not retained, zeros from the
next sequence on. -/
def State.recWindow (s : State) : Bytes :=
  let from_ := s.setting 0x3A10 1
  let pool := s.recPool
  (List.range 32).flatMap (fun i =>
    if s.rec_.next ≤ from_ + i then leBytes 32 0
    else match pool.find? (fun r => r.seq == from_ + i) with
      | some r => recBytes r
      | none => recBytes { seq := from_ + i, source := 0x1FF })

/-- A sample entry's 32 bytes (R511). -/
def sampleBytes (e : Sample) : Bytes :=
  let b := leBytes 2 e.counter ++ leBytes 1 e.skid ++ leBytes 1 e.cls ++ leBytes 1 e.src ++ leBytes 1 0 ++ leBytes 2 e.sess ++ leBytes 8 e.time
    ++ leBytes 8 e.addr ++ leBytes 4 e.latency
  b ++ leBytes 4 (crc32cOf b)

/-- The sample window (R511): 32 entries from the index set; an index that the buffer does not hold reads free (log entry 51). -/
def State.sampleWindow (s : State) : Bytes :=
  let low := s.rec_.sWritten - s.rec_.samples.length
  let open_ := leBytes 1024 s.free
  (List.range 32).flatMap (fun i =>
    let k := s.setting 0x3B10 3 + i
    match (if low ≤ k then s.rec_.samples[k - low]? else none) with
    | some e => sampleBytes e
    | none => (open_.drop (32 * i)).take 32)

/-- The mnemonic of a source's name (R513). -/
def sourceName (n : Nat) : String :=
  if reservedSource n then ""
  else
    let m := if n < 4 ∨ (9 ≤ n ∧ n < 16) then "DEV" else if n < 9 then "DICT" else if n < 48 then "HOST" else if n < 80 then "DRAM"
      else if n < 96 then "PROT" else if n < 112 then "TWIN" else if n < 128 then "HINGE" else if n < 140 then "POOL" else if n < 144 then "VOL"
      else if n < 160 then "PLACE" else if n < 176 then "PERS" else if n < 192 then "NVME" else if n < 208 then "LATT" else if n < 224 then "CIPH"
      else if n < 272 then "ENG" else if n < 288 then "SBOX" else if n < 295 then "REC" else if n < 301 then "CLUS" else if n < 302 then "IMG"
      else if n < 304 then "REC" else if n < 312 then "LINK" else "RING"
    m ++ "-" ++ toString n

/-- A text as bytes. -/
def strBytes (t : String) : Bytes := t.toList.map (fun c => BitVec.ofNat 8 c.toNat)

/-- Objects of 0x3A00 to 0x3B10. -/
def State.viewRec (s : State) (idx sub : Nat) : Option Nat :=
  match idx, sub with
  | 0x3A00, 1 => some s.rec_.mode
  | 0x3A00, 2 => some s.rec_.next
  | 0x3A00, 3 => some (match s.rec_.circ ++ s.rec_.buf with | r :: _ => r.seq | [] => s.rec_.next)
  | 0x3A00, 4 => some (s.rec_.first.length + s.rec_.firstPend.length)
  | 0x3A00, 7 => some (s.rec_.buf.filter (fun r => !s.rec_.circTail.contains r)).length
  | 0x3A00, 8 => some s.rec_.lost
  | 0x3A00, 0xC => some (s.rec_.srcs.filter (fun e => e.2.pending)).length
  | 0x3B00, 1 => some s.rec_.localMask.toNat
  | 0x3B00, 2 => some s.rec_.latchMask.toNat
  | 0x3B00, 4 => some (s.rec_.sWritten - s.rec_.sRead)
  | 0x3B00, 5 => some s.rec_.sLost
  | 0x3B10, 1 => some (s.rec_.sWritten % 2 ^ 32)
  | 0x3B10, 2 => some (s.rec_.sRead % 2 ^ 32)
  | _, _ => none

/-- A source's record (R513). -/
def State.viewSource (s : State) (n sub : Nat) : Option Nat :=
  let x : Src := getD s.rec_.srcs n {}
  match sub with
  | 6 => some x.count
  | 7 => some x.last
  | 8 => some x.withheld
  | 9 => some (b2n x.pending)
  | _ => none

/-- A counter's record (R514). -/
def State.viewCounter (s : State) (n sub : Nat) : Option Nat :=
  let x : Ctr := getD s.rec_.ctrs n {}
  match sub with
  | 1 => some x.value
  | 4 => some (b2n x.ovf)
  | 8 => some (b2n (s.frozen n))
  | _ => none

/-! ### Power, dictionary (R77 to R81, R538) -/

/-- Objects of 0x3C00 to 0x3C30. -/
def State.viewPower (s : State) (idx sub : Nat) : Option Nat :=
  match idx, sub with
  | 0x3C00, 1 => some s.power.state
  | 0x3C00, 4 => some s.power.watts
  | 0x3C00, 5 => some s.power.vmainMv
  | 0x3C00, 6 => some s.power.vauxMv
  | 0x3C10, 2 => some s.power.pfail
  | 0x3C10, 4 => some s.power.asserts
  | 0x3C10, 5 => some (b2n s.power.good)
  | 0x3C20, 1 => some s.power.cause
  | 0x3C20, 2 => some s.power.warm
  | 0x3C20, 3 => some (b2n s.power.deferred.isSome)
  | 0x3C30, 1 => some (ofInt 32 s.power.temp)
  | 0x3C30, 2 => some (ofInt 32 s.power.tempV)
  | 0x3C30, 3 => some (ofInt 32 s.power.tempS)
  | 0x3C30, 7 => some (ofInt 32 s.power.highest)
  | _, _ => none

/-- Objects of 0x1001 to 0x1F20; those of R77 and R78 that each requester reads for itself come from its slot. -/
def State.viewDict (s : State) (rq : Req) (idx sub : Nat) : Option Nat :=
  let own := s.requester rq
  match idx, sub with
  | 0x1000, 5 => some Config.identity
  | 0x1001, 1 => some (s.now - s.power.coldAt)
  | 0x1001, 2 => some (s.now - s.power.resetAt)
  | 0x1010, 1 => some s.pace.index
  | 0x1010, 3 => some s.pace.volt
  | 0x1010, 4 => some s.pace.lowest
  | 0x1010, 5 => some s.pace.highest
  | 0x1010, 6 => some (b2n s.pace.held)
  | 0x1F00, 5 => some ((own.map Requester.last).getD 0)
  | 0x1F00, 6 => some ((own.map Requester.lastObj).getD 0)
  | 0x1F00, 8 => some ((own.map (fun r => r.staged.length)).getD 0)
  | 0x1F00, 9 => some ((s.dict.newest.map SavedSet.gen).getD 0)
  | 0x1F00, 0xA => some s.dict.saveState
  | 0x1F01, 1 => some (s.level rq)
  | 0x1F10, 4 => some (b2n s.dict.pwSet)
  | 0x1F10, 5 => some s.dict.fails
  | 0x1F10, 6 => some (s.dict.refuseUntil - s.now)
  | 0x1F20, 4 => some s.dict.xfers.length
  | 0x1F20, 5 => some s.dict.discarded
  | 0x1F20, 6 => some s.dict.slots.length
  | _, _ => none

/-- The value of an object that the device keeps outside the settings. -/
def State.view (s : State) (rq : Req) (idx sub : Nat) : Option Nat :=
  match idx / 256 with
  | 0x10 => s.viewDict rq idx sub
  | 0x1F => s.viewDict rq idx sub
  | 0x20 => s.viewPool idx sub
  | 0x21 => s.viewTwin idx sub
  | 0x22 => s.viewHinge idx sub
  | 0x23 => s.viewPool idx sub
  | 0x30 => s.viewHost idx sub
  | 0x31 => s.viewHost idx sub
  | 0x32 => s.viewPlace idx sub
  | 0x33 => s.viewPersist idx sub
  | 0x34 => s.viewLattice idx sub
  | 0x35 => s.viewDram idx sub
  | 0x36 => s.viewEcc idx sub
  | 0x37 => s.viewCipher idx sub
  | 0x38 => s.viewSteward idx sub
  | 0x39 => s.viewSbox rq idx sub
  | 0x3A => s.viewRec idx sub
  | 0x3B => s.viewRec idx sub
  | 0x3C => s.viewPower idx sub
  | n =>
    if 0x40 ≤ n ∧ n < 0x80 then s.viewSession (idx - 0x4000) sub else if 0x90 ≤ n ∧ n < 0xA0 then s.viewVolume (idx - 0x9000) sub
    else if 0xA0 ≤ n ∧ n < 0xA2 then s.viewSource (idx - 0xA000) sub else if 0xB0 ≤ n ∧ n < 0xB4 then s.viewCounter (idx - 0xB000) sub else none

/-- The strings of the identity objects and of the sources' names (R80, R513). -/
def viewText (idx sub : Nat) : Option String :=
  match idx, sub with
  | 0x1000, 1 => some "Norvisa"
  | 0x1000, 2 => some "Tuzolas"
  | 0x1000, 3 => some "Cagango TZ-9616"
  | 0x1000, 4 => some "A1"
  | 0x1000, 6 => some (if Config.lidless then "TZ-9616-L" else "TZ-9616-S")
  | idx, sub => if 0xA000 ≤ idx ∧ idx < 0xA140 ∧ sub = 1 then some (sourceName (idx - 0xA000)) else none

/-- The long values that are laid out as bytes; a key slot's status is zero to a host-level requester none of whose sessions names it (R450). -/
def State.viewBytes (s : State) (rq : Req) (idx sub : Nat) : Option Bytes :=
  match idx, sub with
  | 0x2001, 2 => some (match s.entryOf (s.setting 0x2001 1) with | some e => entryBytes e | none => [])
  | 0x2240, 3 => some (match s.conn (s.setting 0x2240 1) (s.setting 0x2240 2) with | some c => connBytes c | none => [])
  | 0x3111, 1 => some ((List.range 4096).flatMap (fun n => if s.reachesRing rq n then ringBytes (s.ring n) else leBytes 16 0))
  | 0x3240, 2 => some (match assoc s.place.heat (s.setting 0x3240 1) with | some h => heatBytes h | none => [])
  | 0x3240, 4 => some (
      let k := s.setting 0x3240 3
      match (if s.numbered ∧ s.dirVault k = s.vault then assoc s.place.dir k else none) with | some d => dirBytes s k d | none => [])
  | 0x3710, 2 =>
    let n := s.setting 0x3710 1
    if s.level rq == 0 && !(s.ownSessions rq).any (fun k => s.setting (0x4000 + k) 0x0A == n) then some [] else none
  | 0x3920, 3 => some (reqGet s.sbox.buffers rq [])
  | 0x3A10, 2 => some s.recWindow
  | 0x3B10, 4 => some s.sampleWindow
  | _, _ => none

/-- The value that a pool-state action this device has handed to the root, or the next heartbeat frame (R280), gives an object: it reads so
from the commit's OK (R47), until it is in effect. -/
def State.awaited (s : State) (idx sub : Nat) : Option Nat :=
  (assoc s.twin.vals (okey idx sub)).orElse fun _ => s.pool.asked.reverse.findSome? (fun e =>
    match e.1 with
    | .setting k v => if k = okey idx sub then some v else none
    | .share v spare copy fill =>
      if !(s.numbered && v == s.vault) then none
      else if okey idx sub = okey 0x2010 2 then some spare
      else if okey idx sub = okey 0x2010 4 then some copy
      else if okey idx sub = okey 0x2010 8 then some fill
      else none
    | .volAttr n cls label => if okey idx sub = okey (0x9000 + n) 4 then some cls else if okey idx sub = okey (0x9000 + n) 5 then some label else none
    | _ => none)

/-- What an object reads (R44, R48): its effective value, as bytes. -/
def State.readValue (s : State) (rq : Req) (idx sub : Nat) : Bytes :=
  if sub = 0 then leBytes 1 (idxTop idx)
  else match objFind idx sub with
    | none => []
    | some o =>
      match viewText idx sub, s.viewBytes rq idx sub, s.awaited idx sub, s.view rq idx sub with
      | some t, _, _, _ => strBytes t
      | _, some b, _, _ => padTo o.ty.len b
      | _, _, some v, _ => valDec o.ty v
      | _, _, none, some v => valDec o.ty v
      | _, _, none, none => valDec o.ty (s.setting idx sub)

end Sys2Proof.Machine
end

