-- ==== Sys2Proof/Machine/Commit.lean ====
section
/-! DEFINITION. Commit (R52): the rules that span the objects of a staged set, and what a committed set does. -/

namespace Sys2Proof.Machine

/-! ### The set and the values it would give (R52) -/

/-- The value an object would have once a set is committed. -/
def State.wouldBe (s : State) (set : List (Nat × Bytes)) (idx sub : Nat) : Nat :=
  match assoc set (okey idx sub), objFind idx sub with
  | some b, some o => valEnc o.ty b
  | _, _ => s.setting idx sub

/-- Whether a set holds an object. -/
def holds (set : List (Nat × Bytes)) (idx sub : Nat) : Bool := (assoc set (okey idx sub)).isSome

/-- The first of some objects of an index that a set holds, for the failing object of a rule that spans them. -/
def firstHeld (set : List (Nat × Bytes)) (idx : Nat) (subs : List Nat) : Nat :=
  match subs.find? (fun k => holds set idx k) with
  | some k => okey idx k
  | none => okey idx (subs.headD 0)

/-- The indices of a range whose objects a set holds. -/
def indicesIn (set : List (Nat × Bytes)) (lo hi : Nat) : List Nat :=
  ((set.map (fun e => e.1 / 256)).filter (fun i => decide (lo ≤ i ∧ i ≤ hi))).foldl (fun l i => addSet i l) []

/-- A failed check of an object. -/
def failAt (bad : Bool) (key code : Nat) : List (Nat × Nat) := if bad then [(key, code)] else []

/-! ### Rules that span objects -/

/-- Whether a session is or will be bound once a set is committed. -/
def State.enabledAfter (s : State) (set : List (Nat × Bytes)) (n : Nat) : Bool := s.wouldBe set (0x4000 + n) 2 == 1

/-- Whether two sessions name one logical device or PBR ID. -/
def State.sameHost (s : State) (set : List (Nat × Bytes)) (n m : Nat) : Bool :=
  s.wouldBe set (0x4000 + n) 4 == s.wouldBe set (0x4000 + m) 4 &&
    (s.host.mode == 1 || s.wouldBe set (0x4000 + n) 3 == s.wouldBe set (0x4000 + m) 3)

/-- The other sessions bound to a session's logical device or PBR ID, now or once the set is committed: one that is still unbinding is bound
(0x3000:03) and matched by lookup (R99, R100). -/
def State.othersOf (s : State) (set : List (Nat × Bytes)) (n : Nat) : List Nat :=
  ((s.host.sess.map Prod.fst) ++ (indicesIn set 0x4000 0x7FFF).map (fun i => i - 0x4000)).filter
    (fun m => m != n && (s.enabledAfter set m || s.sessBound m) && s.sameHost set n m)

/-- The length of a session's window for the overlap check: the greater of the length in force and the one asked for. -/
def State.spanOf (s : State) (set : List (Nat × Bytes)) (m : Nat) : Nat :=
  max (s.wouldBe set (0x4000 + m) 6) (if s.sessBound m then (s.sess m).acc else 0)

/-- The rules of a session that a commit binds or changes (R95, R97). -/
def State.bindFails (s : State) (set : List (Nat × Bytes)) (n : Nat) : List (Nat × Nat) :=
  let i := 0x4000 + n
  let v := fun k => s.wouldBe set i k
  if !s.enabledAfter set n then []
  else
    let host := if s.host.mode = 1 then decide (v 4 ≤ 0xFFE) else decide (v 4 < (s.hostPort (v 3)).lds)
    let others := s.othersOf set n
    let hits := fun (m : Nat) =>
      decide (v 5 < s.wouldBe set (0x4000 + m) 5 + s.spanOf set m) && decide (s.wouldBe set (0x4000 + m) 5 < v 5 + s.spanOf set n)
    failAt (!s.numbered) (okey i 2) St.badRange ++ failAt (!s.portExists (v 3)) (okey i 3) St.badRange ++
      failAt (!host) (okey i 4) St.badRange ++ failAt (others.any hits) (okey i 5) St.badRange ++
      failAt ((s.vol (v 7)).state != 2) (okey i 7) St.noSuchObject ++
      failAt (decide ((s.vol (v 7)).size * extentBytes < v 8 + v 6)) (okey i 8) St.badRange ++
      failAt (v 0xE != 0xFF && (s.host.mode == 1 || others.any (fun m => s.wouldBe set (0x4000 + m) 0xE == v 0xE))) (okey i 0xE) St.badRange

/-- The twin's times (R259, R280): a commit of 0x2100 needs a vault that is Active with its standby in sync. -/
def State.twinFails (s : State) (set : List (Nat × Bytes)) : List (Nat × Nat) :=
  let subs := [4, 5, 6, 9]
  let touched := subs.any (fun k => holds set 0x2100 k)
  let times := holds set 0x2100 4 || holds set 0x2100 5
  let sync := s.standbyInSync || (s.twin.state == 4 && s.twin.inSync)
  failAt (times && decide (s.wouldBe set 0x2100 5 < s.wouldBe set 0x2100 4 + 50000)) (firstHeld set 0x2100 [4, 5]) St.badRange ++
    failAt (touched && !sync) (firstHeld set 0x2100 subs) St.busy

/-- The home store (R211, R213, R216): its shape and its key stay while any extent is homed. -/
def State.homeFails (s : State) (set : List (Nat × Bytes)) : List (Nat × Nat) :=
  let shape := [1, 2, 3].filter (fun k => holds set 0x3310 k)
  failAt (shape != [] && s.wouldBe set 0x3310 2 == 1 && s.wouldBe set 0x3310 1 % 2 == 1) (firstHeld set 0x3310 [1, 2]) St.badRange ++
    (shape ++ [4].filter (fun k => holds set 0x3310 k)).flatMap (fun k => failAt (decide (0 < s.homed)) (okey 0x3310 k) St.busy)

/-- Whether a key slot named for a user holds a key of a kind it cannot take (R441). -/
def State.keyUnfit (s : State) (slot : Nat) (kinds : List Nat) : Bool :=
  slot != 0xFFFF && (getD s.cipher.slots slot {}).state == 1 && !kinds.contains (getD s.cipher.slots slot {}).kind

/-- The key slots of Hinge (kinds 1 and 2) and of the home store (kinds 3 and 4). -/
def State.keyKindFails (s : State) (set : List (Nat × Bytes)) : List (Nat × Nat) :=
  failAt (holds set 0x2200 7 && s.keyUnfit (s.wouldBe set 0x2200 7) [1, 2]) (okey 0x2200 7) St.badRange ++
    failAt (holds set 0x3310 4 && s.keyUnfit (s.wouldBe set 0x3310 4) [3, 4]) (okey 0x3310 4) St.badRange

/-- The lattice tables of a set (R361). -/
def tableFails (set : List (Nat × Bytes)) : List (Nat × Nat) :=
  (indicesIn set 0x3410 0x3429).flatMap (fun i => match assoc set (okey i 2) with
    | some b => failAt (!tableOk (i - 0x3410) b) (okey i 2) St.badRange
    | none => [])

/-- Whether the requester still holds the level each staged object needs (R52 rule 4). -/
def State.stillAllowed (s : State) (rq : Req) (set : List (Nat × Bytes)) : List (Nat × Nat) :=
  set.flatMap (fun e =>
    match objFind (e.1 / 256) (e.1 % 256) with
    | none => [(e.1, St.noSuchObject)]
    | some o => (levelFails o.wl (s.level rq) ++ fails (s.level rq == 0 && !s.hostReach rq (e.1 / 256) (e.1 % 256)) St.noAccess).map (fun c => (e.1, c)))

/-- Every failed check of a commit, with the object that failed it. -/
def State.commitFails (s : State) (rq : Req) (set : List (Nat × Bytes)) : List (Nat × Nat) :=
  s.stillAllowed rq set ++ (indicesIn set 0x4000 0x7FFF).flatMap (fun i => s.bindFails set (i - 0x4000)) ++ s.twinFails set ++
    s.homeFails set ++ s.keyKindFails set ++ tableFails set

/-- The status of a commit and its failing object (R52 rule 4): the lowest code from 0x10 to 0x16, else the code of the first failure;
the object of lowest key that gave it. -/
def commitStatus (l : List (Nat × Nat)) : Nat × Nat :=
  let low := (l.filter (fun e => decide (0x10 ≤ e.2 ∧ e.2 ≤ 0x16))).map Prod.snd
  let first := minOf (l.map Prod.fst) ((l.map Prod.fst).headD 0)
  let code := if l = [] then St.ok else if low ≠ [] then lowest low else lowest ((l.filter (fun e => e.1 == first)).map Prod.snd)
  let keys := (l.filter (fun e => e.2 == code)).map Prod.fst
  (code, minOf keys (keys.headD 0))

/-! ### A set takes effect -/

/-- A bound session's length is committed anew (R115, R116): a dynamic-capacity session offers the extent it grows by, for the capacity offer
timeout as it stands now, or the range it asks the host to release. While a release is asked for the session stays in state 1: R115 gives
state 2 to an offer of growth and R116 names none; DESIGN CHOICE, log entry 107. -/
def State.lengthAfter (s : State) (n : Nat) : State :=
  let i := 0x4000 + n
  let len := s.setting i 6
  let acc := (s.sess n).acc
  let p := s.setting i 3
  let ld := s.setting i 4
  if s.setting i 0xE = 0xFF ∨ s.host.mode = 1 then s.modSess n (fun x => { x with acc := len })
  else if acc < len then (s.modSess n (fun x => { x with state := 2, offerAt := s.now + s.setting 0x3000 7 })).logOnly p ld 3 (s.setting i 5 + acc) (len - acc)
  else if len < acc then (s.modSess n (fun x => { x with state := 1 })).logOnly p ld 4 (s.setting i 5 + len) (acc - len)
  else s.modSess n (fun x => { x with state := 1 })

/-- A session of a committed set (R95 to R98); `old`: the state before the commit. -/
def State.sessAfter (s old : State) (rq : Req) (tag n : Nat) : State :=
  let i := 0x4000 + n
  let on := s.flag i 2
  let st := (s.sess n).state
  let moved := [5, 7, 8].any (fun k => s.setting i k != old.setting i k)
  if st = 0 then (if on then s.bindSession n else s)
  else if !on then s.unbindSession n [(rq, tag)] false
  else if st = 3 ∨ moved then s.unbindSession n [(rq, tag)] true
  else
    let s := s.modSess n (fun x => { x with dead := false })
    if s.setting i 6 = old.setting i 6 then s else s.lengthAfter n

/-- A volume of a committed set (R27, R28): its action goes to the root; a class or a label staged without a create goes there as well, before
the action (log entry 52). -/
def State.volAfter (s : State) (set : List (Nat × Bytes)) (n : Nat) : State :=
  let i := 0x9000 + n
  let v := s.vol n
  let pick := fun (k d : Nat) => if holds set i k then s.wouldBe set i k else d
  let size := pick 3 v.size
  let cls := pick 4 v.cls
  let label := pick 5 v.label
  let attr := fun (s : State) => if holds set i 4 || holds set i 5 then s.handToRoot (.volAttr n cls label) none else s
  match pick 2 0 with
  | 1 => s.handToRoot (.volCreate n size cls label) none
  | 2 => (attr s).handToRoot (.volResize n size) none
  | 3 => (attr s).handToRoot (.volDelete n) none
  | _ => attr s

/-- The actions of a committed set beside the volumes' (R38, R325, R340). -/
def State.actionsAfter (s : State) (set : List (Nat × Bytes)) : State :=
  let v := fun (idx sub : Nat) => s.wouldBe set idx sub
  let s := if [2, 4, 8].any (fun k => holds set 0x2010 k) then s.handToRoot (.share s.vault (v 0x2010 2) (v 0x2010 4) (v 0x2010 8)) none else s
  let e := entryOfBytes (leBytes 128 (v 0x2001 3))
  let s := if holds set 0x2001 4 then
      (match v 0x2001 4 with
      | 1 => s.handToRoot (.manAdd e) none
      | 2 => s.handToRoot (.manAddr e) none
      | 3 => s.handToRoot (.manRemove e.dev) none
      | _ => s)
    else s
  let s := if holds set 0x2004 3 then s.handToRoot (.mapEntry (s.setting 0x2004 1) (v 0x2004 3)) none else s
  let s := (set.filter (fun e => poolObject e.1)).foldl (fun s e => s.handToRoot (.setting e.1 (fromLe e.2)) none) s
  if holds set 0x2310 1 then
    let mask := v 0x2310 2
    match v 0x2310 1 with
    | 1 => s.handToRoot (.freeze mask) none
    | 2 => s.handToRoot (.release mask) none
    | 3 => s.handToRoot (.point 0) none
    | 4 => s.handToRoot (.poolReset false) none
    | 5 => s.handToRoot (.poolReset true) none
    | _ => s
  else s

/-- Whether an object of a committed set is kept with the settings: not what the root gives effect to. -/
def keptAt (k : Nat) : Bool :=
  !poolObject k && !([okey 0x2010 2, okey 0x2010 4, okey 0x2010 8].contains k) && !decide (0x900000 ≤ k ∧ k < 0xA00000)

/-- The lattice tables and seniority entries of a committed set wait for their swap (R362, R368). -/
def State.latticeAfter (s : State) (set : List (Nat × Bytes)) : State :=
  let tabs := (indicesIn set 0x3410 0x3429).filterMap (fun i => (assoc set (okey i 2)).map (fun b => (i - 0x3410, b.map (fun x => x.toNat))))
  let sen := indicesIn set 0x3430 0x3430 != []
  if tabs = [] ∧ !sen then s
  else s.pendSwap tabs (if sen then some ((List.range 16).map (fun i => s.setting 0x3430 (i + 1))) else none)

/-- A whole set takes effect (R52 rule 4); a vault's values at the twin too (R38), those of 0x2100 with the next heartbeat frame (R280). -/
def State.applySet (s : State) (rq : Req) (tag : Nat) (set : List (Nat × Bytes)) : State :=
  let old := s
  let v := fun (k : Nat) => old.wouldBe set (k / 256) (k % 256)
  let beat := set.filter (fun e => e.1 / 256 == 0x2100)
  let kept := set.filter (fun e => keptAt e.1 && e.1 / 256 != 0x2100)
  let s := s.modTwin (fun t => { t with vals := beat.foldl (fun l e => insertKey e.1 (v e.1) l) t.vals })
  let s := kept.foldl (fun s e => s.setSetting (e.1 / 256) (e.1 % 256) (v e.1)) s
  let s := (kept.filter (fun e => vaultValue e.1)).foldl (fun s e => s.tellTwin e.1 (v e.1)) s
  let s := s.latticeAfter set
  let s := (indicesIn set 0x4000 0x7FFF).foldl (fun s i => s.sessAfter old rq tag (i - 0x4000)) s
  let s := (indicesIn set 0x9000 0x9FFF).foldl (fun s i => s.volAfter set (i - 0x9000)) s
  ((((s.actionsAfter set).placeState (old.setting 0x3220 9)).ceilingCheck old.ceiling).afterClean.sendCensus).advanceWorks

/-- The outcome of a slot's commit, and its set empty (R52 rule 7). -/
def State.commitDone (s : State) (n code key : Nat) : State :=
  s.modSlot n (fun r => { r with staged := [], last := code, lastObj := key })

/-- A refused commit of the lattice's objects is told (R372). -/
def State.swapRefused (s : State) (code key : Nat) : State :=
  if 0x3410 ≤ key / 256 ∧ key / 256 ≤ 0x3429 then
    (s.modLattice (fun l => { l with swapStatus := code })).raise 192 0 (leBytes 4 (2 ^ (key / 256 - 0x3410)) ++ leBytes 4 (s.arb (key / 256 - 0x3410)).gen ++ leBytes 1 code)
  else s

/-- A commit (R50, R52, R98): answered at once, or once every session it unbinds is free. -/
def State.commitNow (s : State) (rq : Req) (tag : Nat) : State :=
  let ok := writeResp tag 0x1F00 1 St.ok
  match s.slotOf rq with
  | none => s.respond rq ok
  | some n =>
    let set := ((s.requester rq).map Requester.staged).getD []
    if set = [] then s.respond rq ok
    else
      let st := commitStatus (s.commitFails rq set)
      if st.1 ≠ St.ok then ((s.commitDone n st.1 st.2).swapRefused st.1 st.2).respond rq (writeResp tag 0x1F00 1 st.1)
      else
        let s := (s.commitDone n St.ok 0).applySet rq tag set
        if s.host.sess.any (fun e => e.2.waiter.contains (rq, tag)) then s else s.respond rq ok

/-- A discard (R52 rule 5). -/
def State.discardSet (s : State) (rq : Req) : State :=
  match s.slotOf rq with
  | none => s
  | some n => s.modSlot n (fun r => { r with staged := [] })

end Sys2Proof.Machine
end

