-- ==== Sys2Proof/Machine/Serve.lean ====
section
/-! DEFINITION. Writes of objects (R46, R47, R70): the checks an owner adds to a range, and what a write of each object does. -/

namespace Sys2Proof.Machine

/-- The next state of an outcome; the state as it was where there is none. -/
def nextOr (s : State) (o : Host.Outcome State Fault Refusal) : State :=
  match o with
  | .next t => t
  | .fault _ => s
  | .refused _ => s

/-- A command's next state, the free values it took passed over. -/
def State.thenTick (s : State) (o : Host.Outcome State Fault Refusal) : State := (nextOr s o).tick

/-! ### Writes with an effect of their own -/

/-- What a home drive offered by a plain write reports of itself, from a number the environment leaves free (R211). -/
def driveInfoOf (n : Nat) : DriveInfo where
  versionOk := n.testBit 0
  dualPort := n.testBit 1
  reserv := n.testBit 2
  lbaOk := n.testBit 3
  atomicOk := n.testBit 4
  volatileCache := n.testBit 5
  empty := n.testBit 6
  lbas := n / 128

/-- A strongbox descriptor of 32 bytes from the dictionary (R477). -/
def descOf (rq : Req) (b : Bytes) : SbDesc where
  src := .dict rq
  prio := field b 1 1 % 2 == 1
  tag := field b 2 2
  sector := field b 4 4 / 2 ^ 16 % 2 ^ 11
  off := field b 4 4 % 2 ^ 16
  len := field b 8 4
  buffer := field b 12 8
  rsv := field b 1 1 / 2 + 2 ^ 7 * (field b 4 4 / 2 ^ 27) + 2 ^ 12 * field b 20 8
  check := field b 28 4

/-- The pages that do not read clean, from a number the environment leaves free. -/
def badPages (n : Nat) : List Nat := (List.range 257).filter (fun p => n.testBit p)

/-- A maintenance operation written at the factory level (R468); any other code, or a way beyond 15, is out of range. -/
def State.maintain (s : State) (c : Nat) (b : Bytes) : State × Nat :=
  let way := field b 1 1
  let addr := field b 2 6
  let held := ((List.range 16).filter (fun w => (s.cluster c).locked.getLsbD w || (s.cluster c).lockPend.contains w || w == way)).length
  if 15 < way then (s, St.badRange)
  else match field b 0 1 with
    | 1 => (nextOr s (execInvalidateLine c addr s), St.ok)
    | 2 => (nextOr s (execInvalidateAll c s), St.ok)
    | 3 => (nextOr s (execInvalidateAllLocked c s), St.ok)
    | 4 => (nextOr s (execDrain c s), St.ok)
    | 5 => (nextOr s (execLockFill c way addr s), St.ok)
    | 6 => if 12 < held then (s, St.badRange) else (nextOr s (execLockWay c way s), St.ok)
    | 7 => (nextOr s (execUnlockWay c way s), St.ok)
    | _ => (s, St.badRange)

/-- PTP is enabled or disabled (R317): disabled, the port leaves its state and the clock runs on by itself (log entry 53). -/
def State.ptpEnable (s : State) (on : Bool) : State :=
  let was := s.flag 0x2230 1
  let s := s.setSetting 0x2230 1 (b2n on)
  if on = was then s
  else if on then s.modHinge (fun h => { h with ptpState := 1 })
  else s.modHinge (fun h => { h with ptpState := 3, ptpAcc := if h.ptpAcc = 1 ∨ h.ptpAcc = 3 then 2 else h.ptpAcc })

/-- Whether a ring is registered to a logical device of an odd port (R85). -/
def State.oddInUse (s : State) : Bool :=
  (List.range 4).any (fun k => s.portSessions (2 * k + 1) != []) ||
    s.rings.rings.any (fun e => e.2.state != 0 && e.2.mem == 0xFFFF && e.2.port % 2 == 1)

/-- A value kept as it is written (R43): the twin is told a vault's own (R38). -/
def State.keepValue (s : State) (idx sub : Nat) (b : Bytes) : State × Nat :=
  match objFind idx sub with
  | some o =>
    let s := (s.setSetting idx sub (valEnc o.ty b)).ceilingCheck s.ceiling
    (if vaultValue (okey idx sub) then s.tellTwin (okey idx sub) (valEnc o.ty b) else s, St.ok)
  | none => (s, St.noSuchObject)

/-- What a write of an object that needs no command of its own does, with the status it answers: kept with the settings, or given to
the unit that holds it. -/
def State.plainWrite (s : State) (rq : Req) (idx sub : Nat) (b : Bytes) : State × Nat :=
  let v := fromLe b
  if idx = 0x2120 ∧ sub = 5 then (if s.setting 0x2120 4 = 1 then s.startResync else s, St.ok)
  else if idx = 0x2230 ∧ sub = 1 then (s.ptpEnable (v == 1), St.ok)
  else if idx = 0x3000 ∧ sub = 1 then (if v = 1 ∧ s.oddInUse then (s, St.busy) else s.keepValue idx sub b)
  else if 0x3010 ≤ idx ∧ idx ≤ 0x3017 ∧ sub = 8 then
    (if s.host.mode = 0 ∧ (s.portSessions (idx - 0x3010)).any (fun n => decide (v ≤ s.setting (0x4000 + n) 4)) then (s, St.busy) else s.keepValue idx sub b)
  else if idx = 0x3B10 ∧ sub = 2 then
    (s.modRec (fun r => { r with sRead := r.sRead + (v + 2 ^ 32 - r.sRead % 2 ^ 32) % 2 ^ 32 }), St.ok)
  else if 0x3810 ≤ idx ∧ idx ≤ 0x3815 ∧ sub = 6 then s.maintain (idx - 0x3810) b
  else if idx = 0x3920 ∧ sub = 1 then
    (let r := s.sbSubmit (field b 0 1) (descOf rq b) (badPages s.free)
     (r.1.tick, r.2))
  else if idx = 0x3930 ∧ sub = 1 then
    (let r := s.keepValue idx sub b
     (r.1.bootRecord, r.2))
  else if 0xB000 ≤ idx ∧ idx < 0xB400 ∧ sub = 6 then
    (let r := s.keepValue idx sub b
     (r.1.modRec (fun x => { x with ctrs := modD x.ctrs (idx - 0xB000) {} (fun c => { c with toSample := 0 }) }), r.2))
  else if 0xB000 ≤ idx ∧ idx < 0xB400 ∧ sub = 4 then
    (s.modRec (fun r => { r with ctrs := modD r.ctrs (idx - 0xB000) {} (fun c => { c with ovf := false }) }), St.ok)
  else s.keepValue idx sub b

/-- A command of the table that a write of an object is (R47), where there is one: the command's own meaning, which checks, acts and
answers. What its operands take from the environment is free. -/
def State.rowWrite (s : State) (rq : Req) (tag idx sub : Nat) (b : Bytes) : Option State :=
  let v := fromLe b
  let go := fun (o : Host.Outcome State Fault Refusal) => some (nextOr s o)
  let free := s.free
  match idx, sub with
  | 0x2002, 7 => go (execJoinStart rq tag s)
  | 0x2020, 9 => go (execCloseGather rq tag s)
  | 0x2100, 8 => go (execHandover rq tag s)
  | 0x3110, 1 => go (execRingRegister rq tag b s)
  | 0x3110, 2 => go (execRingUnregister rq tag v s)
  | 0x3110, 3 => go (execRingRestart rq tag v s)
  | 0x3230, 8 => go (execTranslationCacheFlush rq tag s)
  | 0x3500, 0x15 => go (execFreezeRead rq tag v s)
  | 0x3500, 0x17 => go (execFreezeChannel rq tag v s)
  | 0x3700, 8 => some (s.thenTick (execReturnPipelines rq tag (BitVec.ofNat 16 free) s))
  | 0x3820, 4 =>
    (match v with
    | 1 => go (execActivateRolling rq tag s)
    | 2 => go (execActivateAtReset rq tag s)
    | 3 => go (execActivateRollback rq tag s)
    | _ => none)
  | 0x3A00, 5 => go (execClearFirstArea rq tag s)
  | 0x3A00, 6 => go (execRecorderFlush rq tag s)
  | 0x3A00, 0xD => go (execAcknowledgeAll rq tag s)
  | 0x3B00, 1 => go (execLocalFreezeWrite rq tag v s)
  | _, _ =>
    if 0x2210 ≤ idx ∧ idx ≤ 0x2213 ∧ sub = 6 then go (execHingePortEnableWrite rq tag (idx - 0x2210) (v == 1) s)
    else if 0x2210 ≤ idx ∧ idx ≤ 0x2213 ∧ sub = 7 then go (execHingeRetrain rq tag (idx - 0x2210) s)
    else if 0x3010 ≤ idx ∧ idx ≤ 0x3017 ∧ sub = 6 then go (execPortEnableWrite rq tag (idx - 0x3010) (v == 1) s)
    else if 0x3010 ≤ idx ∧ idx ≤ 0x3017 ∧ sub = 7 then go (execPortRetrain rq tag (idx - 0x3010) s)
    else if 0x3340 ≤ idx ∧ idx ≤ 0x334F ∧ sub = 1 ∧ v = 0 then go (execDriveOutOfService rq tag (idx - 0x3340) s)
    else if 0x3340 ≤ idx ∧ idx ≤ 0x334F ∧ sub = 1 ∧ v = 1 then some (s.thenTick (execDriveInsert rq tag (idx - 0x3340) (driveInfoOf free) s))
    else if 0x3440 ≤ idx ∧ idx ≤ 0x3459 ∧ sub = 0xF then go (execArbiterStatsClear rq tag (idx - 0x3440) s)
    else if 0x3510 ≤ idx ∧ idx ≤ 0x351F ∧ sub = 5 then go (execRetireRank rq tag (idx - 0x3510) v s)
    else if 0x3510 ≤ idx ∧ idx ≤ 0x351F ∧ sub = 7 ∧ v = 1 then go (execChannelOffline rq tag (idx - 0x3510) s)
    else if 0x3510 ≤ idx ∧ idx ≤ 0x351F ∧ sub = 7 ∧ v = 2 then some (s.thenTick (execChannelReturn rq tag (idx - 0x3510) (free.testBit 0) s))
    else if 0x3510 ≤ idx ∧ idx ≤ 0x351F ∧ sub = 8 then go (execChannelRetrain rq tag (idx - 0x3510) s)
    else if 0x3620 ≤ idx ∧ idx ≤ 0x362F ∧ sub = 4 then go (execMarkDeviceBad rq tag (idx - 0x3620) v s)
    else if 0x3620 ≤ idx ∧ idx ≤ 0x362F ∧ sub = 5 then go (execClearErasure rq tag (idx - 0x3620) v s)
    else if 0x3810 ≤ idx ∧ idx ≤ 0x3815 ∧ sub = 2 then
      go (if v = 1 then execCacheEnable rq tag (idx - 0x3810) s else execCacheDisable rq tag (idx - 0x3810) s)
    else if 0x8000 ≤ idx ∧ idx < 0x9000 ∧ sub = 1 then go (execKeyLoad rq tag (idx - 0x8000) b s)
    else if 0x8000 ≤ idx ∧ idx < 0x9000 ∧ sub = 2 then go (execKeyErase rq tag (idx - 0x8000) s)
    else if 0xA000 ≤ idx ∧ idx < 0xA140 ∧ sub = 9 then go (execAcknowledgeSource rq tag (idx - 0xA000) s)
    else if 0xB000 ≤ idx ∧ idx < 0xB400 ∧ sub = 7 then go (execCounterPreset rq tag (idx - 0xB000) v s)
    else none

end Sys2Proof.Machine
end

