-- ==== Sys2Proof/Machine/Dictionary.lean ====
section
/-! DEFINITION. The dictionary's own commands: reads, writes and transfers (R68 to R73), requesters and their grants (R50 to R64),
saved sets and resets asked for (R54 to R58), MCTP control (R65, R66) and forwarding (R74 to R76). -/

namespace Sys2Proof.Machine

/-! ### Commands that are writes of 0x1F00 and 0x1F10 -/

/-- COMMIT (R50, R52, R53, R98). -/
def execCommit (rq : Req) (tag : Nat) (s : State) : Host.Outcome State Fault Refusal :=
  let s := s.touch rq
  done (if 4 ≤ s.outstandingOf rq then s.respond rq (writeResp tag 0x1F00 1 St.busy) else s.commitNow rq tag)

/-- DISCARD_STAGED (R52 rule 5). -/
def execDiscardStaged (rq : Req) (tag : Nat) (s : State) : Host.Outcome State Fault Refusal :=
  done (s.writeNum rq tag 0x1F00 1 1 2 (fun s => (s.discardSet rq, St.ok)))

/-- SAVE (R54): the set in hand holds every RWS object's value and every committed RWC one's, pool state apart. -/
def execSave (rq : Req) (tag : Nat) (s : State) : Host.Outcome State Fault Refusal :=
  done (s.writeNum rq tag 0x1F00 2 1 1 (fun s =>
    if s.dict.saving.isSome ∨ s.sbox.flushHold then (s, St.busy)
    else
      let keep := s.settings.filter (fun e => match objFind (e.1 / 256) (e.1 % 256) with
        | some o => (o.acc == .rws || o.acc == .rwc) && !poolState e.1
        | none => false)
      let gen := ((s.dict.newest.map SavedSet.gen).getD 0) + 1
      (s.modDict (fun d => { d with saving := some (gen, keep), saveState := St.busy }), St.ok)))

/-- A saved set written over the older one (R54, R57). -/
def Dict.putSet (d : Dict) (x : SavedSet) : Dict :=
  let overB : Bool := d.savedA.valid && (!d.savedB.valid || decide (d.savedB.gen < d.savedA.gen))
  if overB then { d with savedB := x } else { d with savedA := x }

/-- SAVE_COMPLETE (R54): the set stands as the newer one; where its programming failed, the set it was to replace is gone (log entry 54),
and source 7 tells (R56). -/
def execSaveComplete (ok : Bool) (s : State) : Host.Outcome State Fault Refusal :=
  done (match s.dict.saving with
    | none => s
    | some (gen, entries) =>
      let s := s.modDict (fun d => { d with saving := none, saveState := if ok then St.ok else St.programFail })
      if ok then s.modDict (fun d => d.putSet { valid := true, gen := gen, entries := entries })
      else (s.modDict (fun d => d.putSet {})).raise 7 1 (leBytes 4 gen ++ leBytes 4 0))

/-- RESTORE_DEFAULTS (R57): an empty set is the newer one. -/
def execRestoreDefaults (rq : Req) (tag : Nat) (s : State) : Host.Outcome State Fault Refusal :=
  done (s.writeNum rq tag 0x1F00 3 1 1 (fun s =>
    if s.dict.saving.isSome ∨ s.sbox.flushHold then (s, St.busy)
    else
      let gen := ((s.dict.newest.map SavedSet.gen).getD 0) + 1
      (s.modDict (fun d => d.putSet { valid := true, gen := gen }), St.ok)))

/-- A reset asked for (R58): the OK is sent, and it starts 10 ms later. A device that evacuated for heat must have been cool for
10 s: a warm reset asked for before is refused with BUSY (R535, log entry 55). A second request while one is pending is answered OK and
the first stands, at its own instant: R58 does not say; DESIGN CHOICE, log entry 102. -/
def State.resetLater (s : State) (cold : Bool) : State × Nat :=
  let cool : Bool := match s.power.coolSince with | some t => s.elapsed t 10000000000 | none => false
  if s.power.evac ∧ !cold ∧ !cool then (s, St.busy)
  else (s.modDict (fun d => { d with resetReq := match d.resetReq with | some r => some r | none => some (cold, s.now + 10000000) }), St.ok)

/-- RESET_WARM (R58). -/
def execResetWarm (rq : Req) (tag : Nat) (s : State) : Host.Outcome State Fault Refusal :=
  done (s.writeNum rq tag 0x1F00 4 1 1 (fun s => s.resetLater false))

/-- RESET_COLD (R58). -/
def execResetCold (rq : Req) (tag : Nat) (s : State) : Host.Outcome State Fault Refusal :=
  done (s.writeNum rq tag 0x1F00 4 1 2 (fun s => s.resetLater true))

/-- RESET_START_DELAY (R58, R525, R526): 10 ms after the OK. -/
def execResetStartDelay (s : State) : Host.Outcome State Fault Refusal :=
  done (match s.dict.resetReq with
    | none => s
    | some (cold, at_) =>
      if s.now < at_ then s
      else (s.modDict (fun d => { d with resetReq := none })).askReset cold (if cold then 5 else 4))

/-- How long presentations are refused after a number of failures in a row (R63): 10 s at the fifth, doubled at each further one, at most 1,280 s. -/
def refusalTime (fails : Nat) : Nat := if fails < 5 then 0 else min (10000000000 * 2 ^ (fails - 5)) 1280000000000

/-- PRESENT_PASSWORD (R50, R62, R63): one refused with BUSY, for want of a slot or as a fifth request, raises source 6 too. -/
def execPresentPassword (rq : Req) (tag : Nat) (pw : Bytes) (s : State) : Host.Outcome State Fault Refusal :=
  done ((if 4 ≤ s.outstandingOf rq then s.failedPresentation rq else s).writeObj rq tag 0x1F10 1 9 pw (fun s =>
    match s.takeReqSlot rq with
    | none => (s.failedPresentation rq, St.busy)
    | some (s, n) =>
      let s := s.touch rq
      let match_ : Bool := if s.dict.pwSet then Config.pwHash s.dict.pwSalt (fromLe pw) == s.dict.pwHash else fromLe pw == 0
      if s.now < s.dict.refuseUntil then (s.failedPresentation rq, St.busy)
      else if match_ then ((s.modDict (fun d => { d with fails := 0 })).modSlot n (fun r => { r with grant := true }), St.ok)
      else
        let k := satAdd s.dict.fails 1 65535
        let s := s.modDict (fun d => { d with fails := k, refuseUntil := s.now + refusalTime k })
        (s.failedPresentation rq, St.noAccess)))

/-- PRESENTATION_REFUSAL_END (R63): presentations are accepted again. -/
def execPresentationRefusalEnd (s : State) : Host.Outcome State Fault Refusal :=
  done (if s.dict.refuseUntil ≤ s.now then s.modDict (fun d => { d with refuseUntil := 0 }) else s)

/-- OWNER_LOCK (R62): the requester's own grant ends. -/
def execOwnerLock (rq : Req) (tag : Nat) (s : State) : Host.Outcome State Fault Refusal :=
  done (s.writeNum rq tag 0x1F10 3 1 1 (fun s =>
    match s.slotOf rq with
    | some n => (s.modSlot n (fun r => { r with grant := false }), St.ok)
    | none => (s, St.ok)))

/-- ELEVATION_TIMEOUT (R62): no request from the requester for the elevation idle timeout. -/
def execElevationTimeout (slot : Nat) (s : State) : Host.Outcome State Fault Refusal :=
  done (match assoc s.dict.slots slot with
    | some r => if r.grant && s.elapsed r.lastUse (s.setting 0x1F10 7) then s.modSlot slot (fun r => { r with grant := false }) else s
    | none => s)

/-- NEW_PASSWORD (R64): salted and hashed, and handed to the root. -/
def execNewPassword (rq : Req) (tag : Nat) (pw : Bytes) (s : State) : Host.Outcome State Fault Refusal :=
  done (s.writeObj rq tag 0x1F10 2 9 pw (fun s =>
    let salt := Config.pwSalt s.fresh
    (s.tick.handToRoot (.password salt (Config.pwHash salt (fromLe pw)) (fromLe pw == 0)) none, St.ok)))

/-! ### Timers of the requester table (R50, R52) -/

/-- STAGE_TIMEOUT (R52 rule 6): the set is discarded, source 8. -/
def execStageTimeout (slot : Nat) (s : State) : Host.Outcome State Fault Refusal :=
  done (match assoc s.dict.slots slot with
    | some r =>
      if r.staged ≠ [] ∧ s.elapsed r.stageAt (s.setting 0x1F00 7) then
        (s.modSlot slot (fun r => { r with staged := [] })).raise 8 0 (reqBytes r.rq ++ leBytes 2 r.staged.length)
      else s
    | none => s)

/-- REQUESTER_SLOT_TIMEOUT (R50): a slot not in use, its requester silent for the stage timeout, is free. -/
def execRequesterSlotTimeout (slot : Nat) (s : State) : Host.Outcome State Fault Refusal :=
  done (match assoc s.dict.slots slot with
    | some r => if !s.slotInUse slot r && s.elapsed r.lastUse (s.setting 0x1F00 7) then s.freeSlotOf slot else s
    | none => s)

/-! ### Reads (R48, R70, R71) -/

/-- The transfer a requester has open under a tag. -/
def State.xferOf (s : State) (rq : Req) (tag : Nat) (write : Bool) : Option Xfer :=
  s.dict.xfers.find? (fun x => x.rq == rq && x.tag == tag && x.isWrite == write)

/-- A transfer closed (R73); an image load it carried is cut (R457). -/
def State.closeXfer (s : State) (rq : Req) (tag : Nat) : State :=
  let gone := s.dict.xfers.filter (fun x => x.rq == rq && x.tag == tag)
  let s := s.modDict (fun d => { d with xfers := d.xfers.filter (fun x => !(x.rq == rq && x.tag == tag)) })
  if gone.any (fun x => x.isWrite && x.key == okey 0x3820 1) then s.imageCut else s

/-- A transfer opened, or changed by its next segment. -/
def State.putXfer (s : State) (x : Xfer) : State :=
  s.modDict (fun d => { d with xfers := d.xfers.filter (fun y => !(y.rq == x.rq && y.tag == x.tag)) ++ [x] })

/-- The response that carries part of a value. -/
def valueResp (m : DictMsg) (type off total : Nat) (part : Bytes) : DictResp where
  opcode := m.opcode
  tag := m.tag
  index := m.index
  sub := m.sub
  status := St.ok
  type := type
  more := decide (off + part.length < total)
  offset := off
  total := total
  value := part

/-- Whether reading an object takes a free value (log entry 51). -/
def freeRead (idx sub : Nat) : Bool :=
  (decide (0x2210 ≤ idx ∧ idx ≤ 0x2213) && decide (sub = 0x12 ∨ sub = 0x13))
    || decide (idx = 0x3910) || (idx == 0x3B10 && sub == 4)

/-- The value a read gives (R48): the requester's own staged value where STAGED asks for it and there is one. -/
def State.valueFor (s : State) (rq : Req) (m : DictMsg) : Bytes :=
  match (if m.staged then (s.requester rq).bind (fun r => assoc r.staged (okey m.index m.sub)) else none) with
  | some b => b
  | none => s.readValue rq m.index m.sub

/-- A read of an object (R48, R60, R61, R70, R71, R426). A long read under the tag of a transfer still open closes that one first: the spec does
not say; DESIGN CHOICE, log entry 103. -/
def State.serveRead (s : State) (rq : Req) (m : DictMsg) : State :=
  let ty := if m.sub = 0 then 2 else tyCode m.index m.sub
  let bad := lowest (s.readFails rq m.index m.sub ++ fails (m.type != 0 && m.type != ty) St.typeMismatch)
  if bad ≠ St.ok then s.respond rq (refuse m bad)
  else if s.ecc.deadObjs.contains (okey m.index m.sub) then s.respond rq (refuse m St.uncorrectable)
  else
    let b := s.valueFor rq m
    let s := if freeRead m.index m.sub then s.tick else s
    if b.length ≤ 1024 then s.respond rq (valueResp m ty 0 b.length b)
    else
      let s := s.closeXfer rq m.tag
      if 8 ≤ s.dict.xfers.length then s.respond rq (refuse m St.busy)
      else
        let s := s.putXfer { rq := rq, tag := m.tag, key := okey m.index m.sub, isWrite := false, type := ty, total := b.length, data := b, next := 1024, prev := 0, lastUse := s.now }
        s.respond rq (valueResp m ty 0 b.length (b.take 1024))

/-- DICT_READ (R48, R71). -/
def execDictRead (rq : Req) (m : DictMsg) (s : State) : Host.Outcome State Fault Refusal :=
  done (s.onMsg rq m (fun s => if m.opcode = 1 then s.serveRead rq m else s.respond rq (refuse m St.badDescriptor)))

/-- The next segment of an open read (R71, R73). -/
def State.serveReadSegment (s : State) (rq : Req) (m : DictMsg) : State :=
  match s.xferOf rq m.tag false with
  | none => s.respond rq (refuse m St.aborted)
  | some x =>
    if m.offset = x.next then
      let part := (x.data.drop x.next).take 1024
      let s := if x.total ≤ x.next + 1024 then s.closeXfer rq m.tag
        else s.putXfer { x with prev := x.next, next := x.next + 1024, lastUse := s.now }
      s.respond rq (valueResp m x.type m.offset x.total part)
    else if m.offset = x.prev then
      (s.putXfer { x with lastUse := s.now }).respond rq (valueResp m x.type m.offset x.total ((x.data.drop x.prev).take 1024))
    else (s.putXfer { x with lastUse := s.now }).respond rq (refuse m St.badRange)

/-- DICT_READ_SEGMENT (R71, R73). -/
def execDictReadSegment (rq : Req) (m : DictMsg) (s : State) : Host.Outcome State Fault Refusal :=
  done (s.onMsg rq m (fun s => if m.opcode = 3 then s.serveReadSegment rq m else s.respond rq (refuse m St.badDescriptor)))

/-! ### Writes (R46, R47, R52, R70) -/

/-- A whole value written to an object: checked, then staged, or given to the command it is, or applied at once. -/
def State.serveWrite (s : State) (rq : Req) (m : DictMsg) : State :=
  let idx := m.index
  let sub := m.sub
  let b := m.value
  let answer := fun (r : State × Nat) => r.1.respond rq (refuse m r.2)
  let typed : Bool := match objFind idx sub with | some o => o.ty.lenOk b.length | none => false
  let bad := lowest (s.writeFails rq idx sub m.type b ++ (if typed then s.ruleFails idx sub b else []))
  let row := fun (o : Host.Outcome State Fault Refusal) => nextOr s o
  if bad ≠ St.ok then answer (s, bad)
  else match idx, sub with
    | 0x1F00, 1 => if fromLe b = 1 then row (execCommit rq m.tag s) else row (execDiscardStaged rq m.tag s)
    | 0x1F00, 2 => row (execSave rq m.tag s)
    | 0x1F00, 3 => row (execRestoreDefaults rq m.tag s)
    | 0x1F00, 4 => if fromLe b = 1 then row (execResetWarm rq m.tag s) else row (execResetCold rq m.tag s)
    | 0x1F10, 1 => row (execPresentPassword rq m.tag b s)
    | 0x1F10, 2 => row (execNewPassword rq m.tag b s)
    | 0x1F10, 3 => row (execOwnerLock rq m.tag s)
    | _, _ =>
      if ((objFind idx sub).map Obj.acc) = some .rwc then answer (s.stage rq (okey idx sub) b)
      else match s.rowWrite rq m.tag idx sub b with
        | some t => t
        | none => answer (s.plainWrite rq idx sub b)

/-- DICT_WRITE (R46, R47). -/
def execDictWrite (rq : Req) (m : DictMsg) (s : State) : Host.Outcome State Fault Refusal :=
  done (s.onMsg rq m (fun s => if m.opcode = 2 then s.serveWrite rq m else s.respond rq (refuse m St.badDescriptor)))

/-- REGISTER_WRITE (R47): a write of an object that no other row of the table names. -/
def execRegisterWrite (rq : Req) (m : DictMsg) (s : State) : Host.Outcome State Fault Refusal :=
  done (s.onMsg rq m (fun s => if m.opcode = 2 then s.serveWrite rq m else s.respond rq (refuse m St.badDescriptor)))

/-- The broken rules of a segment (R72). -/
def segmentBad (x : Xfer) (m : DictMsg) : Bool :=
  m.offset != x.next || m.total != x.total || decide (x.total < m.offset + m.value.length) ||
    (m.more && decide (x.total ≤ m.offset + m.value.length)) || (!m.more && m.offset + m.value.length != x.total)

/-- The whole value of a segmented write is in (R72): it is written, or staged, as one write, with the checks and the command a WRITE of it
would have; its answer names WRITE_SEGMENT. `load`: what the checks of an image gave. -/
def State.segmentsWhole (s : State) (rq : Req) (m : DictMsg) (x : Xfer) (load : Bool × Bool × Nat × Nat × Nat) : State :=
  let idx := x.key / 256
  let sub := x.key % 256
  let answer := fun (r : State × Nat) => r.1.respond rq (refuse m r.2)
  if x.key = okey 0x3820 1 then answer (s.imageEnd load.1 load.2.1 load.2.2.1 load.2.2.2.1 load.2.2.2.2)
  else if x.key = okey 0x3920 3 then
    answer (if 0 < s.sbOut (fun d => d == .dict rq) then (s, St.busy) else (s.modSbox (fun b => { b with buffers := reqPut b.buffers rq x.data }), St.ok))
  else (s.modDict (fun d => { d with segTags := (rq, m.tag) :: d.segTags.filter (· != (rq, m.tag)) })).serveWrite rq
    { m with opcode := 2, index := idx, sub := sub, type := x.type, value := x.data, offset := 0 }

/-- One segment that fits its transfer (R72). The segments of an image go to its slot as they come (R457). -/
def State.takeSegment (s : State) (rq : Req) (m : DictMsg) (x : Xfer) (load : Bool × Bool × Nat × Nat × Nat) : State :=
  if segmentBad x m then (s.closeXfer rq m.tag).respond rq (refuse m St.badDescriptor)
  else
    let data := if x.key = okey 0x3820 1 then [] else x.data ++ m.value
    let x := { x with data := data, prev := x.next, next := x.next + m.value.length, lastUse := s.now }
    if m.more then (s.putXfer x).respond rq (refuse m St.ok)
    else (s.modDict (fun d => { d with xfers := d.xfers.filter (fun y => !(y.rq == rq && y.tag == m.tag)) })).segmentsWhole rq m x load

/-- A segment of a value (R72, R73): at the first, the rules of a segment (BAD_DESCRIPTOR, the lowest code) come before the object's own
checks, and those before the want of a transfer. A total length of at most 1,024 bytes is taken as well, though R68 speaks of longer values:
DESIGN CHOICE, log entry 104. -/
def State.serveWriteSegment (s : State) (rq : Req) (m : DictMsg) (load : Bool × Bool × Nat × Nat × Nat) : State :=
  match s.xferOf rq m.tag true with
  | some x => s.takeSegment rq m x load
  | none =>
    if m.offset ≠ 0 then s.respond rq (refuse m St.aborted)
    else
      let x : Xfer := { rq := rq, tag := m.tag, key := okey m.index m.sub, isWrite := true, type := m.type, total := m.total, data := [], next := 0, prev := 0, lastUse := s.now }
      let bad := lowest (fails (segmentBad x m) St.badDescriptor ++ s.accessFails rq m.index m.sub m.type m.total)
      if bad ≠ St.ok then s.respond rq (refuse m bad)
      else
        let s := s.closeXfer rq m.tag
        if 8 ≤ s.dict.xfers.length then s.respond rq (refuse m St.busy)
        else
          let r := if x.key = okey 0x3820 1 then s.imageBegin else (s, St.ok)
          if r.2 ≠ St.ok then s.respond rq (refuse m r.2) else r.1.takeSegment rq m x load

/-- DICT_WRITE_SEGMENT (R72, R73); what the checks of an image loaded so would give is free (R457). -/
def execDictWriteSegment (rq : Req) (m : DictMsg) (s : State) : Host.Outcome State Fault Refusal :=
  let load := (s.free.testBit 0, s.free.testBit 1, Config.freeNat (s.fresh + 1), Config.freeNat (s.fresh + 2), Config.freeNat (s.fresh + 3))
  done (s.onMsg rq m (fun s =>
    if m.opcode = 4 then (s.serveWriteSegment rq m load).tick.tick.tick.tick else s.respond rq (refuse m St.badDescriptor)))

/-- IMAGE_LOAD (R457): a segment of 0x3820:01, with what the checks and the programming of the image give at its last. -/
def execImageLoad (rq : Req) (m : DictMsg) (checksOk programOk : Bool) (version interface size : Nat) (s : State) : Host.Outcome State Fault Refusal :=
  done (s.onMsg rq m (fun s =>
    if m.opcode = 4 then s.serveWriteSegment rq m (checksOk, programOk, version, interface, size) else s.respond rq (refuse m St.badDescriptor)))

/-- DICT_ABORT_TRANSFER (R73). -/
def execDictAbortTransfer (rq : Req) (m : DictMsg) (s : State) : Host.Outcome State Fault Refusal :=
  done (s.onMsg rq m (fun s =>
    if m.opcode = 5 then (s.closeXfer rq m.tag).respond rq (refuse m St.ok) else s.respond rq (refuse m St.badDescriptor)))

/-- TRANSFER_IDLE_TIMEOUT (R73). -/
def execTransferIdleTimeout (rq : Req) (tag : Nat) (s : State) : Host.Outcome State Fault Refusal :=
  done (if s.dict.xfers.any (fun x => x.rq == rq && x.tag == tag && s.elapsed x.lastUse (s.setting 0x1F20 2)) then s.closeXfer rq tag else s)

/-! ### Descriptions (R68, R69) -/

/-- The 24 bytes of a DESCRIBE (R69). -/
def descBytes (ty acc rl wl len lo hi : Nat) : Bytes :=
  leBytes 1 ty ++ leBytes 1 acc ++ leBytes 1 rl ++ leBytes 1 wl ++ leBytes 4 len ++ leBytes 8 lo ++ leBytes 8 hi

/-- What DESCRIBE says of an object that exists. -/
def describe (idx sub : Nat) : Option Bytes :=
  if sub = 0 then (if idxExists idx then some (descBytes 2 0 (min (idxLevel idx) 1) 0xFF 1 0 255) else none)
  else (objFind idx sub).map (fun o =>
    let r := rangeBounds o
    descBytes o.ty.code o.acc.code (if o.acc = .wo then 0xFF else o.rl) (if o.acc = .ro then 0xFF else o.wl) o.ty.len r.1 r.2)

/-- DICT_DESCRIBE (R69). -/
def execDictDescribe (rq : Req) (m : DictMsg) (s : State) : Host.Outcome State Fault Refusal :=
  done (s.onMsg rq m (fun s =>
    if m.opcode ≠ 6 then s.respond rq (refuse m St.badDescriptor)
    else match describe m.index m.sub with
      | some b => s.respond rq (valueResp m 9 0 b.length b)
      | none => s.respond rq (refuse m St.noSuchObject)))

/-- Every range of indices that exists. -/
def indexRanges : List (Nat × Nat) :=
  (([0x10, 0x1F, 0x20, 0x21, 0x22, 0x23, 0x30, 0x31, 0x32, 0x33, 0x34, 0x35, 0x36, 0x37, 0x38, 0x39, 0x3A, 0x3B, 0x3C, 0x40, 0x80, 0x90, 0xA0, 0xB0] :
    List Nat).flatMap (fun k => objsOf (256 * k))).map (fun o => (o.lo, o.hi))

/-- The lowest existing index at or above one. -/
def nextIndex (idx : Nat) : Option Nat :=
  let c := (indexRanges.filter (fun r => idx ≤ r.2)).map (fun r => max idx r.1)
  match c with
  | [] => none
  | x :: l => some (minOf l x)

/-- DICT_ENUMERATE (R68, R69): the index found and its highest subindex. -/
def execDictEnumerate (rq : Req) (m : DictMsg) (s : State) : Host.Outcome State Fault Refusal :=
  done (s.onMsg rq m (fun s =>
    if m.opcode ≠ 7 then s.respond rq (refuse m St.badDescriptor)
    else match nextIndex m.index with
      | some i => s.respond rq (valueResp m 9 0 3 (leBytes 2 i ++ leBytes 1 (idxTop i)))
      | none => s.respond rq (refuse m St.noSuchObject)))

/-! ### MCTP control (R65, R66) -/

/-- Whether the device answers MCTP on a path (R65): an I3C port, or an endpoint of a trained CXL port. -/
def State.mctpPath (s : State) : Path → Bool
  | .jtag => false
  | p => s.pathAnswers p

/-- An MCTP control command on a path that answers it. -/
def State.onMctp (s : State) (p : Path) (f : State → State) : State := if s.mctpPath p then f s else s

/-- SET_ENDPOINT_ID (R66): the null and the broadcast ID are refused; PRESUMED from DSP0236, log entry 56. -/
def execSetEndpointId (p : Path) (eid : Nat) (s : State) : Host.Outcome State Fault Refusal :=
  done (s.onMctp p (fun s =>
    if eid = 0 ∨ 255 ≤ eid then s.emit (.mctp p 1 [2])
    else (s.modDict (fun d => { d with eids := insertKey (pathNum p) eid d.eids })).emit (.mctp p 1 [0, Config.standardField 0xFF01 0, eid, 0])))

/-- GET_ENDPOINT_ID (R66). -/
def execGetEndpointId (p : Path) (s : State) : Host.Outcome State Fault Refusal :=
  done (s.onMctp p (fun s => s.emit (.mctp p 2 [0, getD s.dict.eids (pathNum p) 0, Config.standardField 0xFF02 0, Config.standardField 0xFF02 1])))

/-- GET_ENDPOINT_UUID (R66). -/
def execGetEndpointUuid (p : Path) (s : State) : Host.Outcome State Fault Refusal :=
  done (s.onMctp p (fun s => s.emit (.mctp p 3 [0, Config.endpointUuid])))

/-- GET_MCTP_VERSION_SUPPORT (R66). -/
def execGetMctpVersionSupport (p : Path) (s : State) : Host.Outcome State Fault Refusal :=
  done (s.onMctp p (fun s => s.emit (.mctp p 4 [0, Config.standardField 0xFF04 0, Config.standardField 0xFF04 1])))

/-- GET_MESSAGE_TYPE_SUPPORT (R66): control messages and vendor-defined IANA messages, 0x7F. -/
def execGetMessageTypeSupport (p : Path) (s : State) : Host.Outcome State Fault Refusal :=
  done (s.onMctp p (fun s => s.emit (.mctp p 5 [0, 2, 0, 0x7F])))

/-- GET_VENDOR_DEFINED_MESSAGE_SUPPORT (R66): one set, the IANA enterprise number. -/
def execGetVendorDefinedMessageSupport (p : Path) (s : State) : Host.Outcome State Fault Refusal :=
  done (s.onMctp p (fun s => s.emit (.mctp p 6 [0, 0xFF, 1, 0x0001C7A5, Config.standardField 0xFF06 0])))

/-! ### Forwarding (R74 to R76) -/

/-- A request served at this device, by its opcode (R68). -/
def State.serveMsg (s : State) (rq : Req) (m : DictMsg) : State :=
  match m.opcode with
  | 1 => nextOr s (execDictRead rq m s)
  | 2 => nextOr s (execDictWrite rq m s)
  | 3 => nextOr s (execDictReadSegment rq m s)
  | 4 => nextOr s (execDictWriteSegment rq m s)
  | 5 => nextOr s (execDictAbortTransfer rq m s)
  | 6 => nextOr s (execDictDescribe rq m s)
  | 7 => nextOr s (execDictEnumerate rq m s)
  | _ => s.onMsg rq m (fun s => s.respond rq (refuse m St.badDescriptor))

/-- FORWARD_REQUEST (R74): a request with FWD set; one that names this device is served here. -/
def execForwardRequest (rq : Req) (m : DictMsg) (s : State) : Host.Outcome State Fault Refusal := done (s.serveMsg rq m)

/-- FORWARD_RESPONSE (R74, R75): the answer of the target goes to the requester whose slot sent the request; one that no request waits for
is discarded. A status code the table does not list is INTERNAL (R8). -/
def execForwardResponse (h : Hdr) (pre : FwdPrefix) (r : DictResp) (s : State) : Host.Outcome State Fault Refusal :=
  done (s.onFrame h (.mgmtResp pre r) (fun s =>
    match s.dict.fwds.find? (fun f => pre.dev == s.pool.number && f.slot == pre.slot && f.tag == r.tag && f.target == h.src) with
    | none => s
    | some f =>
      let s := s.modDict (fun d => { d with fwds := d.fwds.erase f })
      match assoc s.dict.slots f.slot with
      | some q => s.respond q.rq { r with status := recvSt r.status }
      | none => s))

/-- FORWARD_TIMEOUT (R74). -/
def execForwardTimeout (slot tag : Nat) (s : State) : Host.Outcome State Fault Refusal :=
  done (match s.dict.fwds.find? (fun f => f.slot == slot && f.tag == tag && s.elapsed f.since (s.setting 0x1F20 1)) with
    | none => s
    | some f =>
      let s := s.modDict (fun d => { d with fwds := d.fwds.erase f })
      match assoc s.dict.slots slot with
      | some q => s.respond q.rq (refuse f.msg St.timeout)
      | none => s)

/-- A vault's value that the twin tells (R38, log entry 9): taken as a write of it here; the rank states of a channel are kept as the twin's (R396). An object of 0x2100 comes right before the heartbeat frame that
puts it in effect (R280). -/
def State.takeTold (s : State) (m : DictMsg) : State :=
  match objFind m.index m.sub with
  | some o =>
    if decide (0x3510 ≤ m.index ∧ m.index ≤ 0x351F) && m.sub == 4 && m.opcode == 2 && m.value.length == 1 then
      (s.modDram (fun d => { d with theirs := insertKey (m.index - 0x3510) (fromLe m.value) d.theirs })).pumpRetire
    else if vaultValue (okey m.index m.sub) && m.opcode == 2 && m.type == o.ty.code && o.ty.lenOk m.value.length && rangeOk o m.index m.sub m.value
    then s.putVaultValue (okey m.index m.sub) (valEnc o.ty m.value) else s
  | none => s

/-- MGMT_FRAME (R75, R76): a forwarded request at its target, which clears FWD and serves it for the pair of entry device and entry
requester. One whose FWD is clear is no forwarded request and is refused with BAD_DESCRIPTOR: R75 has FWD set and does not say what a
clear one meets; DESIGN CHOICE, log entry 105. The twin's own requests carry a vault's value (log entry 9). -/
def execMgmtFrame (h : Hdr) (pre : FwdPrefix) (m : DictMsg) (s : State) : Host.Outcome State Fault Refusal :=
  done (s.onFrame h (.mgmtReq pre m) (fun s =>
    let rq : Req := .fwd pre.dev pre.slot
    if pre.slot = ownSlot then
      (if s.twinListed ∧ h.src = s.twinDev ∧ crcPasses m ∧ msgForm m then s.takeTold m else s)
    else
    let s := s.modDict (fun d => { d with fwdLevel := insertKey (fwdKey pre.dev pre.slot) (min pre.level 1) d.fwdLevel })
    if !msgWhole rq m then s.discardMsg rq m
    else if !msgForm m then s.onMsg rq m id
    else if m.target ≠ s.pool.number ∨ !m.fwd then s.respond rq (refuse m St.badDescriptor)
    else s.serveMsg rq { m with fwd := false }))

/-! ### The mailbox's dictionary message (R118) -/

/-- DICTIONARY_MESSAGE (R118): the logical device is a requester of its own; its answers come through the mailbox, and a message discarded
under R67 returns Invalid Input. -/
def execDictionaryMessage (p ld : Nat) (m : DictMsg) (s : State) : Host.Outcome State Fault Refusal :=
  let rq : Req := .ld p ld
  done (if !s.ldThere p ld then s
    else if !msgWhole rq m then (s.discardMsg rq m).mbox p ld 0xC5A0 Ret.input []
    else s.serveMsg rq m)

end Sys2Proof.Machine
end

