-- ==== Sys2Proof/Machine/Words.lean ====
section
/-! DEFINITION. The on-die memories under the word code: what a scrub of one word finds and does (R414, R415, R447, R454, R463, R464). -/

namespace Sys2Proof.Machine

/-- The memory's number in events 90 and 91, in the order of R415. -/
def onDieNum : OnDie → Nat
  | .dataBuffer => 0
  | .merge => 1
  | .tcache => 2
  | .heat => 3
  | .session => 4
  | .dictionary => 5
  | .stagedSet => 6
  | .cluster => 7
  | .keySlot => 8
  | .context => 9
  | .hold => 10

/-- An uncorrectable word of a write that waits in a data buffer: its line is poisoned wherever it goes next. -/
def poisonReq (num : Nat) (l : List EReq) : List EReq := l.map (fun e => if e.num = num ∧ e.write then { e with poison := true } else e)

/-- An uncorrectable word of a cluster (R454, R455, R463, R464), by the numbering of log entry 48: the 48 instruction memories, the 48 data
memories, the lines of the six caches, then the entries of the six merging buffers. -/
def State.clusterWord (s : State) (a : Nat) : State :=
  if a < 48 then s.trapEngine a 2 0
  else if a < 96 then s
  else if a < 96 + 6 * 65536 then
    let i := a - 96
    let c := i / 65536
    let set := i % 65536 / 16
    s.modCluster c (fun k => { k with sets := modD k.sets set [] (fun ws => ws.map (fun w => if w.1 = i % 16 then (w.1, { w.2 with valid := false }) else w)) })
  else
    let i := a - 96 - 6 * 65536
    s.modCluster (i / 32 % 6) (fun k => { k with merge := modNth k.merge (i % 32) (fun m => { m with poison := true }) })

/-- What an uncorrectable word leads to, by memory (R415). A word of held output, numbered from 131,072 times its context, poisons the line that it is
released to (R445). -/
def State.wordLost (s : State) (mem : OnDie) (a : Nat) : State :=
  match mem with
  | .dataBuffer => s.modHost (fun h => { h with reqs := poisonReq a h.reqs, held := poisonReq a h.held })
  | .merge => s.modEcc (fun e => { e with merge := e.merge.filter (· != a) })
  | .tcache => s.modPlace (fun p => { p with tcache := modD p.tcache (a / 16) [] (fun l => l.eraseIdx (a % 16)) })
  | .heat =>
    match s.place.heatCache[a]? with
    | some slot => s.heatZero slot
    | none => s
  | .session => s.modHost (fun h => { h with sess := h.sess.map (fun e => if e.1 = a then (a, { e.2 with dead := true }) else e) })
  | .dictionary => s.modEcc (fun e => { e with deadObjs := addSet a e.deadObjs })
  | .stagedSet => s.modSlot a (fun r => { r with staged := [] })
  | .cluster => s.clusterWord a
  | .keySlot =>
    if (s.keySlot a).state = 1 then (s.modKey a (fun k => { k with state := 3 })).raise 212 0 (leBytes 2 a) else s
  | .context =>
    match assoc s.cipher.ctxs a with
    | some c => ((s.raise 212 1 (leBytes 2 a)).cipherFault a c).kickFlights
    | none => s
  | .hold =>
    match assoc s.cipher.ctxs (a / 131072) with
    | some c => if c.hold = 0 then s else s.modFlight c.ring c.idx (fun f => { f with marks := f.marks ++ [(8 * (a % 131072), 8)] })
    | none => s

/-- WORD_SCRUB (R414, R415): a word of a memory, read and checked in an idle cycle. -/
def execWordScrub (mem : OnDie) (addr : Nat) (word : BitVec 80) (s : State) : Host.Outcome State Fault Refusal :=
  let at_ := leBytes 1 (onDieNum mem) ++ leBytes 4 addr
  done (match decodeWord word.toNat with
    | some (_, false) => s
    | some (_, true) => (s.count 486 1).raise 90 0 at_
    | none => ((s.count 487 1).raise 91 0 at_).wordLost mem addr)

end Sys2Proof.Machine
end

