-- ==== Sys2Proof/Machine/Dispatch.lean ====
section
/-! DEFINITION. The dispatch: one arm a command of the table, each a call of its meaning. -/

namespace Sys2Proof.Machine

/-- What a command does to everything but the queue. -/
def exec (i : Instr) (s : State) : Host.Outcome State Fault Refusal :=
  match i with
  | .dictRead rq_ m_ => Sys2Proof.Machine.execDictRead rq_ m_ s
  | .dictWrite rq_ m_ => Sys2Proof.Machine.execDictWrite rq_ m_ s
  | .dictReadSegment rq_ m_ => Sys2Proof.Machine.execDictReadSegment rq_ m_ s
  | .dictWriteSegment rq_ m_ => Sys2Proof.Machine.execDictWriteSegment rq_ m_ s
  | .dictAbortTransfer rq_ m_ => Sys2Proof.Machine.execDictAbortTransfer rq_ m_ s
  | .dictDescribe rq_ m_ => Sys2Proof.Machine.execDictDescribe rq_ m_ s
  | .dictEnumerate rq_ m_ => Sys2Proof.Machine.execDictEnumerate rq_ m_ s
  | .setEndpointId p_ eid_ => Sys2Proof.Machine.execSetEndpointId p_ eid_ s
  | .getEndpointId p_ => Sys2Proof.Machine.execGetEndpointId p_ s
  | .getEndpointUuid p_ => Sys2Proof.Machine.execGetEndpointUuid p_ s
  | .getMctpVersionSupport p_ => Sys2Proof.Machine.execGetMctpVersionSupport p_ s
  | .getMessageTypeSupport p_ => Sys2Proof.Machine.execGetMessageTypeSupport p_ s
  | .getVendorDefinedMessageSupport p_ => Sys2Proof.Machine.execGetVendorDefinedMessageSupport p_ s
  | .forwardRequest rq_ m_ => Sys2Proof.Machine.execForwardRequest rq_ m_ s
  | .forwardResponse h_ pre_ r_ => Sys2Proof.Machine.execForwardResponse h_ pre_ r_ s
  | .forwardTimeout slot_ tag_ => Sys2Proof.Machine.execForwardTimeout slot_ tag_ s
  | .mgmtFrame h_ pre_ m_ => Sys2Proof.Machine.execMgmtFrame h_ pre_ m_ s
  | .commit rq_ tag_ => Sys2Proof.Machine.execCommit rq_ tag_ s
  | .discardStaged rq_ tag_ => Sys2Proof.Machine.execDiscardStaged rq_ tag_ s
  | .stageTimeout slot_ => Sys2Proof.Machine.execStageTimeout slot_ s
  | .requesterSlotTimeout slot_ => Sys2Proof.Machine.execRequesterSlotTimeout slot_ s
  | .save rq_ tag_ => Sys2Proof.Machine.execSave rq_ tag_ s
  | .saveComplete ok_ => Sys2Proof.Machine.execSaveComplete ok_ s
  | .restoreDefaults rq_ tag_ => Sys2Proof.Machine.execRestoreDefaults rq_ tag_ s
  | .resetWarm rq_ tag_ => Sys2Proof.Machine.execResetWarm rq_ tag_ s
  | .resetCold rq_ tag_ => Sys2Proof.Machine.execResetCold rq_ tag_ s
  | .resetStartDelay => Sys2Proof.Machine.execResetStartDelay s
  | .presentPassword rq_ tag_ pw_ => Sys2Proof.Machine.execPresentPassword rq_ tag_ pw_ s
  | .presentationRefusalEnd => Sys2Proof.Machine.execPresentationRefusalEnd s
  | .ownerLock rq_ tag_ => Sys2Proof.Machine.execOwnerLock rq_ tag_ s
  | .elevationTimeout slot_ => Sys2Proof.Machine.execElevationTimeout slot_ s
  | .newPassword rq_ tag_ pw_ => Sys2Proof.Machine.execNewPassword rq_ tag_ pw_ s
  | .transferIdleTimeout rq_ tag_ => Sys2Proof.Machine.execTransferIdleTimeout rq_ tag_ s
  | .registerWrite rq_ m_ => Sys2Proof.Machine.execRegisterWrite rq_ m_ s
  | .paceWindow vault_ steward_ => Sys2Proof.Machine.execPaceWindow vault_ steward_ s
  | .voltageStep => Sys2Proof.Machine.execVoltageStep s
  | .paceTargetMissed => Sys2Proof.Machine.execPaceTargetMissed s
  | .volumeCreate n_ size_ cls_ label_ dev_ => Sys2Proof.Machine.execVolumeCreate n_ size_ cls_ label_ dev_ s
  | .volumeResize n_ size_ dev_ => Sys2Proof.Machine.execVolumeResize n_ size_ dev_ s
  | .volumeDelete n_ dev_ => Sys2Proof.Machine.execVolumeDelete n_ dev_ s
  | .zeroFillComplete n_ => Sys2Proof.Machine.execZeroFillComplete n_ s
  | .capacityShareChange vault_ spare_ copy_ fill_ dev_ => Sys2Proof.Machine.execCapacityShareChange vault_ spare_ copy_ fill_ dev_ s
  | .manifestAdd e_ dev_ => Sys2Proof.Machine.execManifestAdd e_ dev_ s
  | .manifestChangeAddresses e_ dev_ => Sys2Proof.Machine.execManifestChangeAddresses e_ dev_ s
  | .manifestRemove n_ dev_ => Sys2Proof.Machine.execManifestRemove n_ dev_ s
  | .directoryMapChange i_ vault_ dev_ => Sys2Proof.Machine.execDirectoryMapChange i_ vault_ dev_ s
  | .hostRead p_ host_ hpa_ tag_ => Sys2Proof.Machine.execHostRead p_ host_ hpa_ tag_ s
  | .hostWrite p_ host_ hpa_ line_ be_ poison_ tag_ => Sys2Proof.Machine.execHostWrite p_ host_ hpa_ line_ be_ poison_ tag_ s
  | .heldWriteAdmitted p_ => Sys2Proof.Machine.execHeldWriteAdmitted p_ s
  | .writeHoldThreshold p_ => Sys2Proof.Machine.execWriteHoldThreshold p_ s
  | .translationTimeLimit num_ => Sys2Proof.Machine.execTranslationTimeLimit num_ s
  | .portLinkTrained p_ speed_ width_ => Sys2Proof.Machine.execPortLinkTrained p_ speed_ width_ s
  | .portLinkDown p_ => Sys2Proof.Machine.execPortLinkDown p_ s
  | .portRetrain rq_ tag_ p_ => Sys2Proof.Machine.execPortRetrain rq_ tag_ p_ s
  | .portEnableWrite rq_ tag_ p_ on_ => Sys2Proof.Machine.execPortEnableWrite rq_ tag_ p_ on_ s
  | .cxlPerst p_ => Sys2Proof.Machine.execCxlPerst p_ s
  | .gpfPhase1 p_ => Sys2Proof.Machine.execGpfPhase1 p_ s
  | .gpfPhase2 p_ => Sys2Proof.Machine.execGpfPhase2 p_ s
  | .gpfPhase2Answer p_ => Sys2Proof.Machine.execGpfPhase2Answer p_ s
  | .sessionUnbindDone n_ => Sys2Proof.Machine.execSessionUnbindDone n_ s
  | .capacityOfferTimeout n_ => Sys2Proof.Machine.execCapacityOfferTimeout n_ s
  | .releaseCapacityDone n_ => Sys2Proof.Machine.execReleaseCapacityDone n_ s
  | .identify p_ ld_ => Sys2Proof.Machine.execIdentify p_ ld_ s
  | .getEventRecords p_ ld_ log_ => Sys2Proof.Machine.execGetEventRecords p_ ld_ log_ s
  | .clearEventRecords p_ ld_ log_ all_ handles_ => Sys2Proof.Machine.execClearEventRecords p_ ld_ log_ all_ handles_ s
  | .getEventInterruptPolicy p_ ld_ => Sys2Proof.Machine.execGetEventInterruptPolicy p_ ld_ s
  | .setEventInterruptPolicy p_ ld_ policy_ => Sys2Proof.Machine.execSetEventInterruptPolicy p_ ld_ policy_ s
  | .getFwInfo p_ ld_ => Sys2Proof.Machine.execGetFwInfo p_ ld_ s
  | .getTimestamp p_ ld_ => Sys2Proof.Machine.execGetTimestamp p_ ld_ s
  | .setTimestamp p_ ld_ t_ => Sys2Proof.Machine.execSetTimestamp p_ ld_ t_ s
  | .getSupportedLogs p_ ld_ => Sys2Proof.Machine.execGetSupportedLogs p_ ld_ s
  | .getLog p_ ld_ off_ len_ => Sys2Proof.Machine.execGetLog p_ ld_ off_ len_ s
  | .identifyMemoryDevice p_ ld_ => Sys2Proof.Machine.execIdentifyMemoryDevice p_ ld_ s
  | .getPartitionInfo p_ ld_ => Sys2Proof.Machine.execGetPartitionInfo p_ ld_ s
  | .getHealthInfo p_ ld_ => Sys2Proof.Machine.execGetHealthInfo p_ ld_ s
  | .getAlertConfiguration p_ ld_ => Sys2Proof.Machine.execGetAlertConfiguration p_ ld_ s
  | .setAlertConfiguration p_ ld_ cfg_ => Sys2Proof.Machine.execSetAlertConfiguration p_ ld_ cfg_ s
  | .getShutdownState p_ ld_ => Sys2Proof.Machine.execGetShutdownState p_ ld_ s
  | .setShutdownState p_ ld_ v_ => Sys2Proof.Machine.execSetShutdownState p_ ld_ v_ s
  | .getPoisonList p_ ld_ start_ len_ others_ overflow_ => Sys2Proof.Machine.execGetPoisonList p_ ld_ start_ len_ others_ overflow_ s
  | .injectPoison p_ ld_ dpa_ => Sys2Proof.Machine.execInjectPoison p_ ld_ dpa_ s
  | .clearPoison p_ ld_ dpa_ line_ => Sys2Proof.Machine.execClearPoison p_ ld_ dpa_ line_ s
  | .poisonCommandAnswer num_ => Sys2Proof.Machine.execPoisonCommandAnswer num_ s
  | .getDynamicCapacityConfiguration p_ ld_ => Sys2Proof.Machine.execGetDynamicCapacityConfiguration p_ ld_ s
  | .getDynamicCapacityExtentList p_ ld_ => Sys2Proof.Machine.execGetDynamicCapacityExtentList p_ ld_ s
  | .addDynamicCapacityResponse p_ ld_ extents_ => Sys2Proof.Machine.execAddDynamicCapacityResponse p_ ld_ extents_ s
  | .releaseDynamicCapacity p_ ld_ start_ len_ => Sys2Proof.Machine.execReleaseDynamicCapacity p_ ld_ start_ len_ s
  | .dictionaryMessage p_ ld_ m_ => Sys2Proof.Machine.execDictionaryMessage p_ ld_ m_ s
  | .mailboxUnsupported p_ ld_ opcode_ => Sys2Proof.Machine.execMailboxUnsupported p_ ld_ opcode_ s
  | .getLdInfo p_ => Sys2Proof.Machine.execGetLdInfo p_ s
  | .getLdAllocations p_ => Sys2Proof.Machine.execGetLdAllocations p_ s
  | .setLdAllocations p_ opcode_ => Sys2Proof.Machine.execSetLdAllocations p_ opcode_ s
  | .doorbellTailWrite p_ ld_ ring_ tail_ size_ head_ => Sys2Proof.Machine.execDoorbellTailWrite p_ ld_ ring_ tail_ size_ head_ s
  | .completionHeadWrite p_ ld_ ring_ head_ size_ => Sys2Proof.Machine.execCompletionHeadWrite p_ ld_ ring_ head_ size_ s
  | .doorbellRestart p_ ld_ ring_ => Sys2Proof.Machine.execDoorbellRestart p_ ld_ ring_ s
  | .doorbellLineWrite pbr_ hpa_ line_ be_ => Sys2Proof.Machine.execDoorbellLineWrite pbr_ hpa_ line_ be_ s
  | .ringRegister rq_ tag_ block_ => Sys2Proof.Machine.execRingRegister rq_ tag_ block_ s
  | .ringUnregister rq_ tag_ ring_ => Sys2Proof.Machine.execRingUnregister rq_ tag_ ring_ s
  | .ringRestart rq_ tag_ ring_ => Sys2Proof.Machine.execRingRestart rq_ tag_ ring_ s
  | .descriptorFetch ring_ bytes_ poisoned_ => Sys2Proof.Machine.execDescriptorFetch ring_ bytes_ poisoned_ s
  | .copy ring_ => Sys2Proof.Machine.execCopy ring_ s
  | .fill ring_ => Sys2Proof.Machine.execFill ring_ s
  | .importRange ring_ => Sys2Proof.Machine.execImportRange ring_ s
  | .exportRange ring_ => Sys2Proof.Machine.execExportRange ring_ s
  | .persist ring_ => Sys2Proof.Machine.execPersist ring_ s
  | .place ring_ => Sys2Proof.Machine.execPlace ring_ s
  | .atomic ring_ => Sys2Proof.Machine.execAtomic ring_ s
  | .compare ring_ => Sys2Proof.Machine.execCompare ring_ s
  | .crc32c ring_ => Sys2Proof.Machine.execCrc32c ring_ s
  | .encrypt ring_ => Sys2Proof.Machine.execEncrypt ring_ s
  | .decrypt ring_ => Sys2Proof.Machine.execDecrypt ring_ s
  | .persistPoint ring_ => Sys2Proof.Machine.execPersistPoint ring_ s
  | .fence ring_ => Sys2Proof.Machine.execFence ring_ s
  | .nop ring_ => Sys2Proof.Machine.execNop ring_ s
  | .pieceComplete ring_ idx_ off_ => Sys2Proof.Machine.execPieceComplete ring_ idx_ off_ s
  | .moderationTimer ring_ => Sys2Proof.Machine.execModerationTimer ring_ s
  | .ringHoldLimit ring_ idx_ off_ => Sys2Proof.Machine.execRingHoldLimit ring_ idx_ off_ s
  | .epochEnd => Sys2Proof.Machine.execEpochEnd s
  | .lookup h_ q_ forWrite_ => Sys2Proof.Machine.execLookup h_ q_ forWrite_ s
  | .moveLeaseExpiry key_ => Sys2Proof.Machine.execMoveLeaseExpiry key_ s
  | .chunk h_ c_ lines_ => Sys2Proof.Machine.execChunk h_ c_ lines_ s
  | .chunkAck h_ c_ => Sys2Proof.Machine.execChunkAck h_ c_ s
  | .freezeLimitExpiry key_ => Sys2Proof.Machine.execFreezeLimitExpiry key_ s
  | .tombstoneExpiry key_ => Sys2Proof.Machine.execTombstoneExpiry key_ s
  | .translationCacheFlush rq_ tag_ => Sys2Proof.Machine.execTranslationCacheFlush rq_ tag_ s
  | .inval h_ key_ slot_ line_ count_ token_ => Sys2Proof.Machine.execInval h_ key_ slot_ line_ count_ token_ s
  | .invalAck h_ token_ => Sys2Proof.Machine.execInvalAck h_ token_ s
  | .copyLeaseExpiry slot_ => Sys2Proof.Machine.execCopyLeaseExpiry slot_ s
  | .copyLeaseGuardExpiry key_ vault_ => Sys2Proof.Machine.execCopyLeaseGuardExpiry key_ vault_ s
  | .copyLeaseRenewTimer => Sys2Proof.Machine.execCopyLeaseRenewTimer s
  | .moveRequest h_ m_ => Sys2Proof.Machine.execMoveRequest h_ m_ s
  | .moveAnswer h_ m_ => Sys2Proof.Machine.execMoveAnswer h_ m_ s
  | .reserveRequest h_ m_ => Sys2Proof.Machine.execReserveRequest h_ m_ s
  | .reserveAnswer h_ m_ => Sys2Proof.Machine.execReserveAnswer h_ m_ s
  | .placementCommit h_ m_ => Sys2Proof.Machine.execPlacementCommit h_ m_ s
  | .commitAcknowledgement h_ m_ => Sys2Proof.Machine.execCommitAcknowledgement h_ m_ s
  | .placementAbort h_ m_ => Sys2Proof.Machine.execPlacementAbort h_ m_ s
  | .copyGrant h_ m_ => Sys2Proof.Machine.execCopyGrant h_ m_ s
  | .copyRegister h_ m_ => Sys2Proof.Machine.execCopyRegister h_ m_ s
  | .leaseRenewal h_ m_ => Sys2Proof.Machine.execLeaseRenewal h_ m_ s
  | .copyDropNotice h_ m_ => Sys2Proof.Machine.execCopyDropNotice h_ m_ s
  | .heatReport h_ m_ => Sys2Proof.Machine.execHeatReport h_ m_ s
  | .arrivalReport h_ m_ => Sys2Proof.Machine.execArrivalReport h_ m_ s
  | .rebuildQuery h_ m_ => Sys2Proof.Machine.execRebuildQuery h_ m_ s
  | .mirror h_ stream_ runs_ => Sys2Proof.Machine.execMirror h_ stream_ runs_ s
  | .mirrorAck h_ stream_ seq_ => Sys2Proof.Machine.execMirrorAck h_ stream_ seq_ s
  | .clean h_ stream_ entries_ => Sys2Proof.Machine.execClean h_ stream_ entries_ s
  | .writebackVisit slot_ granule_ => Sys2Proof.Machine.execWritebackVisit slot_ granule_ s
  | .homeWriteComplete id_ => Sys2Proof.Machine.execHomeWriteComplete id_ s
  | .homeWriteFailed id_ drive_ conflict_ => Sys2Proof.Machine.execHomeWriteFailed id_ drive_ conflict_ s
  | .driveTimeout id_ drive_ => Sys2Proof.Machine.execDriveTimeout id_ drive_ s
  | .driveOutOfService rq_ tag_ d_ => Sys2Proof.Machine.execDriveOutOfService rq_ tag_ d_ s
  | .driveInsert rq_ tag_ d_ info_ => Sys2Proof.Machine.execDriveInsert rq_ tag_ d_ info_ s
  | .rebuildBatch d_ => Sys2Proof.Machine.execRebuildBatch d_ s
  | .pfailAsserted => Sys2Proof.Machine.execPfailAsserted s
  | .flushSnapshot => Sys2Proof.Machine.execFlushSnapshot s
  | .dirtyMapWritten incomplete_ overflow_ remapped_ => Sys2Proof.Machine.execDirtyMapWritten incomplete_ overflow_ remapped_ s
  | .pfailDeasserted => Sys2Proof.Machine.execPfailDeasserted s
  | .resumeDelayExpiry => Sys2Proof.Machine.execResumeDelayExpiry s
  | .unsteadyRelease => Sys2Proof.Machine.execUnsteadyRelease s
  | .pfailStartReminder => Sys2Proof.Machine.execPfailStartReminder s
  | .restoreReadComplete slot_ granule_ bytes_ poisonLines_ => Sys2Proof.Machine.execRestoreReadComplete slot_ granule_ bytes_ poisonLines_ s
  | .restoreReadFailed slot_ granule_ d_ => Sys2Proof.Machine.execRestoreReadFailed slot_ granule_ d_ s
  | .restoreSourceWaitExpiry slot_ granule_ => Sys2Proof.Machine.execRestoreSourceWaitExpiry slot_ granule_ s
  | .pointPeriod => Sys2Proof.Machine.execPointPeriod s
  | .pointTimeout => Sys2Proof.Machine.execPointTimeout s
  | .heartbeatSend => Sys2Proof.Machine.execHeartbeatSend s
  | .heartbeat h_ b_ => Sys2Proof.Machine.execHeartbeat h_ b_ s
  | .beatEdge interval_ => Sys2Proof.Machine.execBeatEdge interval_ s
  | .beatPathTimeout cls_ => Sys2Proof.Machine.execBeatPathTimeout cls_ s
  | .framePathSilent => Sys2Proof.Machine.execFramePathSilent s
  | .hearingWindowExpiry => Sys2Proof.Machine.execHearingWindowExpiry s
  | .twinAbsentDetected => Sys2Proof.Machine.execTwinAbsentDetected s
  | .selfFence => Sys2Proof.Machine.execSelfFence s
  | .claimStart => Sys2Proof.Machine.execClaimStart s
  | .claimRecordWritten => Sys2Proof.Machine.execClaimRecordWritten s
  | .reservationComplete d_ holder_ r_ => Sys2Proof.Machine.execReservationComplete d_ holder_ r_ s
  | .claimLimitExpiry => Sys2Proof.Machine.execClaimLimitExpiry s
  | .twinLost => Sys2Proof.Machine.execTwinLost s
  | .inSyncTimeout => Sys2Proof.Machine.execInSyncTimeout s
  | .watchdogRefresh => Sys2Proof.Machine.execWatchdogRefresh s
  | .watchdogExpiry => Sys2Proof.Machine.execWatchdogExpiry s
  | .claimFrame h_ vault_ claim_ => Sys2Proof.Machine.execClaimFrame h_ vault_ claim_ s
  | .reclaimDelayExpiry keysOwn_ => Sys2Proof.Machine.execReclaimDelayExpiry keysOwn_ s
  | .handover rq_ tag_ => Sys2Proof.Machine.execHandover rq_ tag_ s
  | .handoverDrained => Sys2Proof.Machine.execHandoverDrained s
  | .handoverHoldExpiry => Sys2Proof.Machine.execHandoverHoldExpiry s
  | .resyncStart => Sys2Proof.Machine.execResyncStart s
  | .resyncGranuleSend slot_ granule_ => Sys2Proof.Machine.execResyncGranuleSend slot_ granule_ s
  | .metaFrame h_ part_ off_ m_ => Sys2Proof.Machine.execMetaFrame h_ part_ off_ m_ s
  | .hingeLinkUp p_ mode_ lanes_ => Sys2Proof.Machine.execHingeLinkUp p_ mode_ lanes_ s
  | .hingeLinkDown p_ => Sys2Proof.Machine.execHingeLinkDown p_ s
  | .hingeLaneFailure p_ lane_ partnerModes_ => Sys2Proof.Machine.execHingeLaneFailure p_ lane_ partnerModes_ s
  | .hingeRetrain rq_ tag_ p_ => Sys2Proof.Machine.execHingeRetrain rq_ tag_ p_ s
  | .hingePortEnableWrite rq_ tag_ p_ on_ => Sys2Proof.Machine.execHingePortEnableWrite rq_ tag_ p_ on_ s
  | .hingeRead h_ q_ => Sys2Proof.Machine.execHingeRead h_ q_ s
  | .hingeWrite h_ q_ lines_ resend_ => Sys2Proof.Machine.execHingeWrite h_ q_ lines_ resend_ s
  | .piece h_ q_ desc_ off_ len_ => Sys2Proof.Machine.execPiece h_ q_ desc_ off_ len_ s
  | .dataFrame h_ r_ lines_ => Sys2Proof.Machine.execDataFrame h_ r_ lines_ s
  | .status h_ r_ => Sys2Proof.Machine.execStatus h_ r_ s
  | .ack h_ next_ credits_ => Sys2Proof.Machine.execAck h_ next_ credits_ s
  | .nak h_ vc_ next_ => Sys2Proof.Machine.execNak h_ vc_ next_ s
  | .connect h_ b_ => Sys2Proof.Machine.execConnect h_ b_ s
  | .accept h_ b_ => Sys2Proof.Machine.execAccept h_ b_ s
  | .close h_ why_ => Sys2Proof.Machine.execClose h_ why_ s
  | .retransmitTimeout peer_ port_ vc_ => Sys2Proof.Machine.execRetransmitTimeout peer_ port_ vc_ s
  | .ackTimer peer_ port_ vc_ => Sys2Proof.Machine.execAckTimer peer_ port_ vc_ s
  | .connectTimeout peer_ port_ => Sys2Proof.Machine.execConnectTimeout peer_ port_ s
  | .idleCloseTimer peer_ port_ => Sys2Proof.Machine.execIdleCloseTimer peer_ port_ s
  | .creditWindow p_ => Sys2Proof.Machine.execCreditWindow p_ s
  | .pfcPause p_ prio_ quanta_ => Sys2Proof.Machine.execPfcPause p_ prio_ quanta_ s
  | .neighborSolicitation p_ solicit_ addr_ mac_ => Sys2Proof.Machine.execNeighborSolicitation p_ solicit_ addr_ mac_ s
  | .ndCacheExpiry p_ addr_ => Sys2Proof.Machine.execNdCacheExpiry p_ addr_ s
  | .throttleNotice h_ vault_ dirty_ => Sys2Proof.Machine.execThrottleNotice h_ vault_ dirty_ s
  | .throttleReleaseNotice h_ vault_ dirty_ => Sys2Proof.Machine.execThrottleReleaseNotice h_ vault_ dirty_ s
  | .flushNotice h_ vault_ dirty_ => Sys2Proof.Machine.execFlushNotice h_ vault_ dirty_ s
  | .sealedNotice h_ vault_ dirty_ => Sys2Proof.Machine.execSealedNotice h_ vault_ dirty_ s
  | .ptpMessage m_ => Sys2Proof.Machine.execPtpMessage m_ s
  | .ptpSyncInterval => Sys2Proof.Machine.execPtpSyncInterval s
  | .ptpDelayRequestInterval => Sys2Proof.Machine.execPtpDelayRequestInterval s
  | .timeBaseStep offset_ => Sys2Proof.Machine.execTimeBaseStep offset_ s
  | .treeGather h_ t_ gen_ ranks_ => Sys2Proof.Machine.execTreeGather h_ t_ gen_ ranks_ s
  | .treeReady h_ t_ segment_ present_ => Sys2Proof.Machine.execTreeReady h_ t_ segment_ present_ s
  | .treeTick h_ t_ => Sys2Proof.Machine.execTreeTick h_ t_ s
  | .treeArrive h_ t_ arrived_ absent_ => Sys2Proof.Machine.execTreeArrive h_ t_ arrived_ absent_ s
  | .treeRelease h_ t_ st_ => Sys2Proof.Machine.execTreeRelease h_ t_ st_ s
  | .treeBroadcast h_ t_ rooms_ m_ => Sys2Proof.Machine.execTreeBroadcast h_ t_ rooms_ m_ s
  | .treeAnnounce h_ t_ a_ dev_ => Sys2Proof.Machine.execTreeAnnounce h_ t_ a_ dev_ s
  | .treeDone h_ t_ st_ covered_ missed_ firstMissed_ => Sys2Proof.Machine.execTreeDone h_ t_ st_ covered_ missed_ firstMissed_ s
  | .treeAction h_ t_ a_ dev_ => Sys2Proof.Machine.execTreeAction h_ t_ a_ dev_ s
  | .treeResult h_ t_ st_ => Sys2Proof.Machine.execTreeResult h_ t_ st_ s
  | .treeJoin h_ t_ ident_ number_ mac_ => Sys2Proof.Machine.execTreeJoin h_ t_ ident_ number_ mac_ s
  | .treeState h_ t_ img_ => Sys2Proof.Machine.execTreeState h_ t_ img_ s
  | .gatherSendTimer => Sys2Proof.Machine.execGatherSendTimer s
  | .gatherTimeout => Sys2Proof.Machine.execGatherTimeout s
  | .closeGather rq_ tag_ => Sys2Proof.Machine.execCloseGather rq_ tag_ s
  | .readyWaveSend => Sys2Proof.Machine.execReadyWaveSend s
  | .tickTimer => Sys2Proof.Machine.execTickTimer s
  | .tickMissed => Sys2Proof.Machine.execTickMissed s
  | .parentUnreachable => Sys2Proof.Machine.execParentUnreachable s
  | .successionWaitExpiry => Sys2Proof.Machine.execSuccessionWaitExpiry s
  | .barrierLimit => Sys2Proof.Machine.execBarrierLimit s
  | .counterFreeze => Sys2Proof.Machine.execCounterFreeze s
  | .counterRelease => Sys2Proof.Machine.execCounterRelease s
  | .poolPersistPoint => Sys2Proof.Machine.execPoolPersistPoint s
  | .poolStateApply => Sys2Proof.Machine.execPoolStateApply s
  | .poolResetWarm => Sys2Proof.Machine.execPoolResetWarm s
  | .poolResetCold => Sys2Proof.Machine.execPoolResetCold s
  | .poolResetFire => Sys2Proof.Machine.execPoolResetFire s
  | .joinStart rq_ tag_ => Sys2Proof.Machine.execJoinStart rq_ tag_ s
  | .arbitrate r_ entryParityOk_ => Sys2Proof.Machine.execArbitrate r_ entryParityOk_ s
  | .tableSwap => Sys2Proof.Machine.execTableSwap s
  | .ageInspection r_ => Sys2Proof.Machine.execAgeInspection r_ s
  | .arbiterStatsClear rq_ tag_ r_ => Sys2Proof.Machine.execArbiterStatsClear rq_ tag_ r_ s
  | .startPhaseAdvance drives_ keys_ heads_ twinMap_ => Sys2Proof.Machine.execStartPhaseAdvance drives_ keys_ heads_ twinMap_ s
  | .hostServiceOpen => Sys2Proof.Machine.execHostServiceOpen s
  | .trainingComplete n_ ok_ step_ rank_ => Sys2Proof.Machine.execTrainingComplete n_ ok_ step_ rank_ s
  | .refreshDue n_ rank_ queued_ => Sys2Proof.Machine.execRefreshDue n_ rank_ queued_ s
  | .mr4Poll n_ rank_ hot_ temp_ => Sys2Proof.Machine.execMr4Poll n_ rank_ hot_ temp_ s
  | .driftCheck n_ absorbed_ => Sys2Proof.Machine.execDriftCheck n_ absorbed_ s
  | .rcdAlert n_ sub_ => Sys2Proof.Machine.execRcdAlert n_ sub_ s
  | .retryReplay n_ alert_ => Sys2Proof.Machine.execRetryReplay n_ alert_ s
  | .idleSelfRefresh n_ => Sys2Proof.Machine.execIdleSelfRefresh n_ s
  | .channelRetrain rq_ tag_ n_ => Sys2Proof.Machine.execChannelRetrain rq_ tag_ n_ s
  | .channelOffline rq_ tag_ n_ => Sys2Proof.Machine.execChannelOffline rq_ tag_ n_ s
  | .channelReturn rq_ tag_ n_ checksPass_ => Sys2Proof.Machine.execChannelReturn rq_ tag_ n_ checksPass_ s
  | .retrainComplete n_ ok_ => Sys2Proof.Machine.execRetrainComplete n_ ok_ s
  | .retireRank rq_ tag_ n_ rank_ => Sys2Proof.Machine.execRetireRank rq_ tag_ n_ rank_ s
  | .freezeChannel rq_ tag_ n_ => Sys2Proof.Machine.execFreezeChannel rq_ tag_ n_ s
  | .freezeRead rq_ tag_ addr_ => Sys2Proof.Machine.execFreezeRead rq_ tag_ addr_ s
  | .freezeReadDone bytes_ => Sys2Proof.Machine.execFreezeReadDone bytes_ s
  | .dramReadComplete line_ first_ last_ standby_ => Sys2Proof.Machine.execDramReadComplete line_ first_ last_ standby_ s
  | .markDeviceBad rq_ tag_ n_ v_ => Sys2Proof.Machine.execMarkDeviceBad rq_ tag_ n_ v_ s
  | .clearErasure rq_ tag_ n_ v_ => Sys2Proof.Machine.execClearErasure rq_ tag_ n_ v_ s
  | .deviceBadWindow n_ => Sys2Proof.Machine.execDeviceBadWindow n_ s
  | .repairWaitExpiry line_ => Sys2Proof.Machine.execRepairWaitExpiry line_ s
  | .standbyResendWaitExpiry slot_ granule_ => Sys2Proof.Machine.execStandbyResendWaitExpiry slot_ granule_ s
  | .scrubLine n_ first_ last_ => Sys2Proof.Machine.execScrubLine n_ first_ last_ s
  | .wordScrub mem_ addr_ word_ => Sys2Proof.Machine.execWordScrub mem_ addr_ word_ s
  | .keyLoad rq_ tag_ n_ block_ => Sys2Proof.Machine.execKeyLoad rq_ tag_ n_ block_ s
  | .keyErase rq_ tag_ n_ => Sys2Proof.Machine.execKeyErase rq_ tag_ n_ s
  | .contextAcquired user_ slot_ mode_ gen_ ring_ idx_ len_ => Sys2Proof.Machine.execContextAcquired user_ slot_ mode_ gen_ ring_ idx_ len_ s
  | .cipherBlockDone ctx_ pipe_ stageOk_ keyOk_ hashOk_ => Sys2Proof.Machine.execCipherBlockDone ctx_ pipe_ stageOk_ keyOk_ hashOk_ s
  | .returnPipelines rq_ tag_ passed_ => Sys2Proof.Machine.execReturnPipelines rq_ tag_ passed_ s
  | .keyWaitReminder slot_ hinge_ => Sys2Proof.Machine.execKeyWaitReminder slot_ hinge_ s
  | .engineTrap e_ cause_ addr_ => Sys2Proof.Machine.execEngineTrap e_ cause_ addr_ s
  | .engineWatchdogExpiry e_ => Sys2Proof.Machine.execEngineWatchdogExpiry e_ s
  | .engineRestart e_ => Sys2Proof.Machine.execEngineRestart e_ s
  | .imageLoad rq_ m_ checksOk_ programOk_ version_ interface_ size_ => Sys2Proof.Machine.execImageLoad rq_ m_ checksOk_ programOk_ version_ interface_ size_ s
  | .activateRolling rq_ tag_ => Sys2Proof.Machine.execActivateRolling rq_ tag_ s
  | .activateAtReset rq_ tag_ => Sys2Proof.Machine.execActivateAtReset rq_ tag_ s
  | .activateRollback rq_ tag_ => Sys2Proof.Machine.execActivateRollback rq_ tag_ s
  | .clusterUpdateDone passed_ => Sys2Proof.Machine.execClusterUpdateDone passed_ s
  | .invalidateLine c_ addr_ => Sys2Proof.Machine.execInvalidateLine c_ addr_ s
  | .invalidateAll c_ => Sys2Proof.Machine.execInvalidateAll c_ s
  | .invalidateAllLocked c_ => Sys2Proof.Machine.execInvalidateAllLocked c_ s
  | .drain c_ => Sys2Proof.Machine.execDrain c_ s
  | .lockFill c_ way_ addr_ => Sys2Proof.Machine.execLockFill c_ way_ addr_ s
  | .lockWay c_ way_ => Sys2Proof.Machine.execLockWay c_ way_ s
  | .unlockWay c_ way_ => Sys2Proof.Machine.execUnlockWay c_ way_ s
  | .cacheDisable rq_ tag_ c_ => Sys2Proof.Machine.execCacheDisable rq_ tag_ c_ s
  | .cacheEnable rq_ tag_ c_ => Sys2Proof.Machine.execCacheEnable rq_ tag_ c_ s
  | .cacheLoad e_ addr_ attr_ wordOk_ => Sys2Proof.Machine.execCacheLoad e_ addr_ attr_ wordOk_ s
  | .cacheStore e_ addr_ line_ be_ attr_ => Sys2Proof.Machine.execCacheStore e_ addr_ line_ be_ attr_ s
  | .cacheFillComplete c_ addr_ line_ poison_ => Sys2Proof.Machine.execCacheFillComplete c_ addr_ line_ poison_ s
  | .mergeEntryTimeout c_ => Sys2Proof.Machine.execMergeEntryTimeout c_ s
  | .sbRead d_ bad_ => Sys2Proof.Machine.execSbRead d_ bad_ s
  | .sbProgram d_ => Sys2Proof.Machine.execSbProgram d_ s
  | .sbErase d_ => Sys2Proof.Machine.execSbErase d_ s
  | .sbSuspend d_ => Sys2Proof.Machine.execSbSuspend d_ s
  | .sbResume d_ => Sys2Proof.Machine.execSbResume d_ s
  | .sbMarginRead d_ bad_ => Sys2Proof.Machine.execSbMarginRead d_ bad_ s
  | .pagePulseDone plane_ verified_ => Sys2Proof.Machine.execPagePulseDone plane_ verified_ s
  | .erasePulseDone plane_ verified_ => Sys2Proof.Machine.execErasePulseDone plane_ verified_ s
  | .flagCellPulseDone plane_ verified_ => Sys2Proof.Machine.execFlagCellPulseDone plane_ verified_ s
  | .suspendHoldExpiry plane_ => Sys2Proof.Machine.execSuspendHoldExpiry plane_ s
  | .minRunTimeElapsed plane_ => Sys2Proof.Machine.execMinRunTimeElapsed plane_ s
  | .acknowledgeSource rq_ tag_ n_ => Sys2Proof.Machine.execAcknowledgeSource rq_ tag_ n_ s
  | .acknowledgeAll rq_ tag_ => Sys2Proof.Machine.execAcknowledgeAll rq_ tag_ s
  | .recorderFlush rq_ tag_ => Sys2Proof.Machine.execRecorderFlush rq_ tag_ s
  | .clearFirstArea rq_ tag_ => Sys2Proof.Machine.execClearFirstArea rq_ tag_ s
  | .repeatWindowExpiry source_ cause_ => Sys2Proof.Machine.execRepeatWindowExpiry source_ cause_ s
  | .tokenRefill source_ cause_ => Sys2Proof.Machine.execTokenRefill source_ cause_ s
  | .mgmtInterruptTimer p_ => Sys2Proof.Machine.execMgmtInterruptTimer p_ s
  | .counterPreset rq_ tag_ n_ v_ => Sys2Proof.Machine.execCounterPreset rq_ tag_ n_ v_ s
  | .localFreezeWrite rq_ tag_ mask_ => Sys2Proof.Machine.execLocalFreezeWrite rq_ tag_ mask_ s
  | .counterSweep => Sys2Proof.Machine.execCounterSweep s
  | .ucieLaneFailure m_ lane_ => Sys2Proof.Machine.execUcieLaneFailure m_ lane_ s
  | .ucieRetrain m_ cause_ => Sys2Proof.Machine.execUcieRetrain m_ cause_ s
  | .ucieCrcRate m_ retries_ => Sys2Proof.Machine.execUcieCrcRate m_ retries_ s
  | .ucieModuleFailure m_ => Sys2Proof.Machine.execUcieModuleFailure m_ s
  | .timeBasePllLoss => Sys2Proof.Machine.execTimeBasePllLoss s
  | .vauxRise => Sys2Proof.Machine.execVauxRise s
  | .vauxLoss => Sys2Proof.Machine.execVauxLoss s
  | .vauxOutOfRange mv_ => Sys2Proof.Machine.execVauxOutOfRange mv_ s
  | .powerGoodRise => Sys2Proof.Machine.execPowerGoodRise s
  | .powerGoodFall => Sys2Proof.Machine.execPowerGoodFall s
  | .vmainUndervoltage mv_ => Sys2Proof.Machine.execVmainUndervoltage mv_ s
  | .brownOut mv_ => Sys2Proof.Machine.execBrownOut mv_ s
  | .powerLimitCheck watts_ => Sys2Proof.Machine.execPowerLimitCheck watts_ s
  | .thermalSample vault_ steward_ => Sys2Proof.Machine.execThermalSample vault_ steward_ s
  | .regulatorFault measured_ => Sys2Proof.Machine.execRegulatorFault measured_ s
  | .porstAssert => Sys2Proof.Machine.execPorstAssert s
  | .porstRelease spds_ failed_ => Sys2Proof.Machine.execPorstRelease spds_ failed_ s
  | .wrstAssert => Sys2Proof.Machine.execWrstAssert s
  | .wrstRelease checksPass_ failed_ => Sys2Proof.Machine.execWrstRelease checksPass_ failed_ s
  | .jtagReset => Sys2Proof.Machine.execJtagReset s
  | .deferredReset => Sys2Proof.Machine.execDeferredReset s
  | .nvmeLinkChange d_ up_ reserved_ => Sys2Proof.Machine.execNvmeLinkChange d_ up_ reserved_ s
  | .hdmDecoderCommit p_ ld_ i_ base_ size_ ways_ gran_ dpaBase_ commit_ => Sys2Proof.Machine.execHdmDecoderCommit p_ ld_ i_ base_ size_ ways_ gran_ dpaBase_ commit_ s
  | .busMasterEnableWrite p_ ld_ on_ => Sys2Proof.Machine.execBusMasterEnableWrite p_ ld_ on_ s
  | .busMasterReadCompletion ring_ idx_ off_ bytes_ status_ poison_ => Sys2Proof.Machine.execBusMasterReadCompletion ring_ idx_ off_ bytes_ status_ poison_ s
  | .busMasterCompletionTimeout ring_ idx_ => Sys2Proof.Machine.execBusMasterCompletionTimeout ring_ idx_ s
  | .msixVectorMaskWrite p_ ld_ v_ masked_ => Sys2Proof.Machine.execMsixVectorMaskWrite p_ ld_ v_ masked_ s
  | .mapTransferEntries h_ i_ ents_ last_ => Sys2Proof.Machine.execMapTransferEntries h_ i_ ents_ last_ s
  | .i3cDynamicAddress port_ addr_ => Sys2Proof.Machine.execI3cDynamicAddress port_ addr_ s
  | .jtagFactoryAccess take_ => Sys2Proof.Machine.execJtagFactoryAccess take_ s
  | .ptpAnnounceTimeout => Sys2Proof.Machine.execPtpAnnounceTimeout s

end Sys2Proof.Machine
end

