-- ==== Sys2Proof/Machine/Bars.lean ====
section
/-! DEFINITION. What the outside reads of the device without a command: the BARs of a logical device (R119, R121), the capabilities it advertises
(R89), the latencies its CDAT gives (R107), and its pins (R531). The opcode table has no row for such a read, so each is a function of the state. -/

namespace Sys2Proof.Machine

/-! ### The counter page (R121) -/

/-- Whether a counter is open to a logical device (R121): a session bound to it grants the counter's group. -/
def State.counterOpen (s : State) (p ld c : Nat) : Bool :=
  s.host.sess.any (fun e => e.2.state != 0 && s.setting (0x4000 + e.1) 3 == p && s.setting (0x4000 + e.1) 4 == ld &&
    (s.setting (0x4000 + e.1) 0x0D).testBit (c / 32))

/-- A read of `size` bytes of the counter page at an offset from its start (R121, R509): the copy of the central reader in bits 47 to 0 and bit 63 where
the counter is open, zero where it is closed; any read but an aligned one of 8 bytes returns zero. -/
def State.counterPage (s : State) (p ld off size : Nat) : BitVec 64 :=
  if size = 8 ∧ off % 8 = 0 ∧ s.counterOpen p ld (off / 8) then BitVec.ofNat 64 ((getD s.rec_.ctrs (off / 8) {}).page % 2 ^ 48 + 2 ^ 63)
  else 0

/-! ### The BARs (R119) -/

/-- What lies at an offset of a BAR. `standard`: registers whose contents the CXL and PCIe specifications define. -/
inductive BarArea where
  | reserved
  | standard
  | doorbell (r : Nat)
  | counters (off : Nat)
  | msixTable (v : Nat)
  | pendingBits
  deriving DecidableEq, Repr

/-- BAR0, 64 KiB of component registers. -/
def bar0At (off : Nat) : BarArea := if 0x1000 ≤ off ∧ off < 0x2000 then .standard else .reserved

/-- BAR2, 512 KiB of device registers. -/
def bar2At (off : Nat) : BarArea :=
  if off < 0x2000 then .standard
  else if 0x10000 ≤ off ∧ off < 0x20000 then .doorbell ((off - 0x10000) / 16)
  else if 0x20000 ≤ off ∧ off < 0x22000 then .counters (off - 0x20000)
  else if 0x30000 ≤ off ∧ off < 0x30400 then .msixTable ((off - 0x30000) / 16)
  else if 0x31000 ≤ off ∧ off < 0x31008 then .pendingBits
  else .reserved

/-- A read of a BAR by a logical device, of the areas whose contents this device's specification gives (R119, R121, R122): a reserved range reads zero. -/
def State.barRead (s : State) (p ld bar off size : Nat) : Option (BitVec 64) :=
  match (if bar = 0 then bar0At off else bar2At off) with
  | .reserved => some 0
  | .counters o => some (s.counterPage p ld o size)
  | .pendingBits => if size = 8 then some (s.ldev p ld).vecPend else none
  | _ => none

/-- Whether a write at an offset has no effect: in a reserved range or in the counter page (R119, R121). -/
def writeIgnored (bar off : Nat) : Bool :=
  match (if bar = 0 then bar0At off else bar2At off) with
  | .reserved => true
  | .counters _ => true
  | _ => false

/-! ### What is advertised (R89, R107) -/

/-- The capabilities of the feature matrix. -/
inductive Capability where
  | cxlIo | cxlMemHdmH | cxlCache | backInvalidate | flit256 | flit68 | multiLogical | gfam | dynamicCapacity | poison | gpf | hdmDecoders | cdatDoe
  | eventRecords | primaryMailbox | ideTspSpdm | viral | cpmu | aspm | hotPlugBound
  deriving DecidableEq, Repr

/-- Whether a capability is present, and so advertised (R89). -/
def Capability.present : Capability → Bool
  | .cxlCache | .backInvalidate | .ideTspSpdm | .viral | .cpmu | .aspm | .hotPlugBound => false
  | .cxlIo | .cxlMemHdmH | .flit256 | .flit68 | .multiLogical | .gfam | .dynamicCapacity | .poison | .gpf | .hdmDecoders | .cdatDoe
  | .eventRecords | .primaryMailbox => true

/-- The paths of the latency table (R107). -/
inductive AccessPath where
  | readHere | readRemote | missHere | missRemote | writeHere | writeRemote | writeCopies | homeSafe | stale
  deriving DecidableEq, Repr

/-- The typical latency of a path in ns, which CDAT reports (R89, R107); of the last but one and the third from last what is added. -/
def AccessPath.typical : AccessPath → Nat
  | .readHere => 170
  | .readRemote => 2370
  | .missHere => 3170
  | .missRemote => 5370
  | .writeHere => 1600
  | .writeRemote => 3800
  | .writeCopies => 2200
  | .homeSafe => 14000
  | .stale => 2200

/-! ### Pins (R531) -/

/-- The pin groups of R531 that the device drives or terminates. -/
inductive PinGroup where
  | serdesTx | serdesRx | nvmePerst (d : Nat) | nvmeRefclk (d : Nat) | dramReset | beatOut | i3c | alert | cageRst (p : Nat) | tdo
  deriving DecidableEq, Repr

/-- How a pin behaves. `link`: as the state of its link or channel gives; `target`: an open-drain I3C target; `toggles`: 1 MHz (R255). -/
inductive PinLevel where
  | highZ | idle | noTermination | low | high | clock | link | target | released | toggles | active
  deriving DecidableEq, Repr

/-- The behaviour of a pin group (R531, R458, R255, R496). -/
def State.pin (s : State) (g : PinGroup) : PinLevel :=
  if s.power.state = 0 then
    match g with
    | .beatOut => .low
    | .serdesRx => .noTermination
    | .i3c => .released
    | .serdesTx | .nvmePerst _ | .nvmeRefclk _ | .dramReset | .alert | .cageRst _ | .tdo => .highZ
  else
    let held := s.power.state == 1 || s.power.inReset
    match g with
    | .serdesTx => if held then .idle else .link
    | .serdesRx => if held then .noTermination else .link
    | .nvmePerst d => if !held && (s.drive d).link then .high else .low
    | .nvmeRefclk _ => if held then .released else .clock
    | .dramReset => if held && !s.dram.chans.any (fun c => c.2.state == 4) then .low else .link
    | .beatOut => if s.beatOut = 2 then .toggles else if s.beatOut = 1 then .high else .low
    | .i3c => .target
    | .alert => if (held && s.rec_.alertBoot) || (!held && s.alert) then .low else .highZ
    | .cageRst p => if !held && s.flag (0x2210 + p) 6 then .high else .low
    | .tdo => .active

end Sys2Proof.Machine
end

