-- ==== Sys2Proof/Safety.lean ====
section
/-! DEFINITION. What counts as a safe step, and the terms claims speak of a step in: the parts of the device, what it means that a step
leaves one as it was, and what no step does at all. -/

namespace Sys2Proof.Machine

/-- A step that goes on. -/
def goesOn (o : Host.Outcome State Fault Refusal) : Bool :=
  match o with
  | .next _ => true
  | .fault _ => false
  | .refused _ => false

/-- The parts of the device: what it shows the outside, its memory, and one part a chapter of the spec. -/
inductive Part where
  | out | mem | settings | dict | pace | host | rings | place | persist | twin | hinge | pool | lattice | dram | ecc | cipher
  | steward | sbox | recorder | power
  deriving DecidableEq, Repr

/-- The part is the same in both states. -/
def Part.same (p : Part) (s t : State) : Prop :=
  match p with
  | .out => t.out = s.out
  | .mem => t.mem = s.mem
  | .settings => t.settings = s.settings
  | .dict => t.dict = s.dict
  | .pace => t.pace = s.pace
  | .host => t.host = s.host
  | .rings => t.rings = s.rings
  | .place => t.place = s.place
  | .persist => t.persist = s.persist
  | .twin => t.twin = s.twin
  | .hinge => t.hinge = s.hinge
  | .pool => t.pool = s.pool
  | .lattice => t.lattice = s.lattice
  | .dram => t.dram = s.dram
  | .ecc => t.ecc = s.ecc
  | .cipher => t.cipher = s.cipher
  | .steward => t.steward = s.steward
  | .sbox => t.sbox = s.sbox
  | .recorder => t.rec_ = s.rec_
  | .power => t.power = s.power

/-- Nothing but the listed parts differs: every other part is the same in both states, and so are the queue and the clock. -/
def OnlyChanges (ps : List Part) (s t : State) : Prop :=
  t.pending = s.pending ∧ t.now = s.now ∧ ∀ p, p ∉ ps → p.same s t

end Sys2Proof.Machine
end

