-- ==== Sys2Proof/WellFormed.lean ====
section
/-! DEFINITION. When a command is well formed: every operand lies within the field the spec gives it. The meanings are total, so
nothing rests on this but statements that ask for it. -/

namespace Sys2Proof

/-- Host ports 0 to 7, logical devices 0 to 15, and 16 for the fabric manager's (R84, R88, R91). -/
def Path.wf : Path → Bool
  | .i3c0 => true
  | .i3c1 => true
  | .cxl port ld => decide (port < 8) && decide (ld < 17)
  | .jtag => true

/-- Endpoint IDs are one byte, requester slots 0 to 31 (R50). -/
def Req.wf : Req → Bool
  | .mctp pa e => pa.wf && decide (e < 256)
  | .ld p l => decide (p < 8) && decide (l < 16)
  | .fwd dev slot => decide (dev < 65536) && decide (slot < 32)

/-- The field widths of R67. -/
def DictMsg.wf (m : DictMsg) : Bool :=
  decide (m.version < 16) && decide (m.rsv0 < 16) && decide (m.opcode < 128) && decide (m.tag < 65536) &&
  decide (m.index < 65536) && decide (m.sub < 256) && decide (m.rsv7 < 32) && decide (m.target < 65536) &&
  decide (m.type < 256) && decide (m.offset < 2 ^ 32) && decide (m.total < 2 ^ 32) && decide (m.value.length ≤ 1024) &&
  decide (m.iana < 2 ^ 32) && decide (m.crc < 2 ^ 32)

/-- The field widths of R67 for a response. -/
def DictResp.wf (r : DictResp) : Bool :=
  decide (r.opcode < 128) && decide (r.tag < 65536) && decide (r.index < 65536) && decide (r.sub < 256) &&
  decide (r.status < 256) && decide (r.type < 256) && decide (r.offset < 2 ^ 32) && decide (r.total < 2 ^ 32) &&
  decide (r.value.length ≤ 1024) && decide (r.crc < 2 ^ 32)

/-- The field widths of R75; slot 0xFFFF is no requester's (log entry 9). -/
def FwdPrefix.wf (f : FwdPrefix) : Bool := decide (f.dev < 65536) && decide (f.slot < 32 ∨ f.slot = 0xFFFF) && decide (f.level < 4)

/-- The field widths of R291. -/
def Hdr.wf (h : Hdr) : Bool :=
  decide (h.src < 65536) && decide (h.dst < 65536) && decide (h.sport < 4) && decide (h.dport < 4) &&
  decide (h.seq < 2 ^ 32) && decide (h.ack < 2 ^ 32) && decide (h.claim < 2 ^ 64) && decide (h.poison < 2 ^ 32) &&
  decide (h.check < 2 ^ 32) && decide (h.tag < 2 ^ 128)

/-- What a power-fail dirty map holds (R231): at most 47,000 arrival records and the slots of its bitmap. -/
def DirtyMap.wf (m : DirtyMap) : Bool :=
  decide (m.gen < 2 ^ 32) && decide (m.vault < 32768) && decide (m.dev < 65536) && decide (m.claim < 2 ^ 64) && decide (m.horizon < 2 ^ 64) &&
  decide (m.arrivals.length ≤ 47000) && m.slots.all (fun x => decide (x < 2 ^ 22))

/-- The field widths of R253. -/
def Beat.wf (b : Beat) : Bool :=
  decide (b.state < 10) && decide (b.seq < 2 ^ 32) && decide (b.echo < 2 ^ 32) && decide (b.claim < 2 ^ 64) &&
  decide (b.horizon < 2 ^ 64) && decide (b.assigned < 2 ^ 64)

/-- The field widths of R296. -/
def ReqSub.wf (q : ReqSub) : Bool :=
  decide (q.entry < 65536) && decide (q.num < 2 ^ 48) && decide (q.key < 2 ^ 39) && decide (q.gen < 256) && decide (q.slot < 2 ^ 22) &&
  decide (q.cls < 4) && decide (q.off < 2 ^ 21) && decide (q.off % 64 = 0) && decide (q.len ≤ 2 ^ 21) && decide (q.len % 64 = 0)

/-- The field widths of R296 for a response. -/
def RespSub.wf (r : RespSub) : Bool :=
  decide (r.entry < 65536) && decide (r.num < 2 ^ 48) && decide (r.status < 256) && decide (r.gen < 256) && decide (r.vault < 65536) &&
  decide (r.slot < 2 ^ 22) && decide (r.off < 2 ^ 32) && decide (r.result < 2 ^ 32)

/-- The field widths of R297. -/
def PMsg.wf (m : PMsg) : Bool :=
  decide (m.status < 256) && decide (m.key < 2 ^ 40) && decide (m.vault < 65536) && decide (m.slot < 2 ^ 22) &&
  decide (m.gen < 256)

/-- The field widths of R295. -/
def ConnBody.wf (b : ConnBody) : Bool :=
  decide (b.seq < 2 ^ 32) && decide (b.epoch < 2 ^ 24) && decide (b.credits.length = 4) && b.credits.all (fun c => decide (c < 65536))

/-- The field widths of R330. -/
def TreeHdr.wf (t : TreeHdr) : Bool := decide (t.root < 65536) && decide (t.term < 2 ^ 32) && decide (t.pool < 2 ^ 64) && decide (t.op < 2 ^ 64) &&
  decide (t.latch < 2 ^ 64)

/-- The field widths of R295. -/
def ChunkSub.wf (c : ChunkSub) : Bool :=
  decide (c.key < 2 ^ 39) && decide (c.kind < 2) && decide (c.slot < 2 ^ 22) && decide (c.line < 32768) && decide (c.count ≤ 32)

/-- The field widths of R323. -/
def MEntry.wf (e : MEntry) : Bool := decide (e.dev < 65536) && e.macs.length == 4 && e.macs.all (fun m => decide (m < 2 ^ 48)) &&
  e.ips.length == 4 && e.ips.all (fun a => decide (a < 2 ^ 128)) && decide (e.ident < 2 ^ 128) && decide (e.extents < 2 ^ 32) && decide (e.gen < 2 ^ 32) &&
  decide (e.check < 2 ^ 32)

/-- Actions name volumes, vaults, devices and map entries that exist (R19, R32, R325). -/
def Action.wf : Action → Bool
  | .volCreate n _ cls _ => decide (n < 4096) && decide (cls < 4)
  | .volResize n _ => decide (n < 4096)
  | .volDelete n => decide (n < 4096)
  | .volAttr n cls _ => decide (n < 4096) && decide (cls < 4)
  | .share vault spare copy fill => decide (vault < 32768) && decide (spare < 512) && decide (copy < 512) && decide (fill ≤ 64)
  | .manAdd e => e.wf
  | .manAddr e => e.wf
  | .manRemove dev => decide (dev < 65536)
  | .mapEntry i vault => decide (i < 4096) && decide (vault < 32768)
  | .password _ _ _ => true
  | .setting _ _ => true
  | .point _ => true
  | .freeze mask => decide (mask < 2 ^ 32)
  | .release mask => decide (mask < 2 ^ 32)
  | .poolReset _ => true
  | .room vault _ _ _ => decide (vault < 32768)
  | .outcome _ n _ status => decide (n < 65536) && decide (status < 256)
  | .census c => c.vols.all (fun v => decide (v.1 < 4096)) && c.sess.all (fun v => decide (v.1 < 4096))
  | .manExtents dev _ => decide (dev < 65536)

/-- The pool state of R344 lists entries, volumes and map indices that exist. -/
def PoolImage.wf (i : PoolImage) : Bool :=
  decide (i.id < 2 ^ 64) && decide (i.gen < 2 ^ 64) && i.entries.all MEntry.wf && i.vols.all (fun v => decide (v.n < 4096)) &&
  i.dirMap.all (fun e => decide (e.1 < 4096 ∧ e.2 < 32768))

/-- A drive has at least the metadata area's granules when it is offered (R211). -/
def DriveInfo.wf (i : DriveInfo) : Bool := decide (i.lbas < 2 ^ 64)

/-- The field widths of R477: a logical sector of 11 bits, a byte offset of 16. -/
def SbDesc.wf (d : SbDesc) : Bool := decide (d.tag < 65536) && decide (d.sector < 2048) && decide (d.off < 65536) && decide (d.len < 2 ^ 32) && decide (d.buffer < 2 ^ 64 ∧ d.rsv < 2 ^ 76 ∧ d.check < 2 ^ 32)

/-- The field widths of R317. -/
def PtpMsg.wf : PtpMsg → Bool
  | .announce priority1 quality priority2 _ => decide (priority1 < 256) && decide (quality < 2 ^ 32) && decide (priority2 < 256)
  | .sync _ _ => true
  | .delayReq _ => true

/-- Whether a message's opcode is its row's, or none that R68 gives: any row of the dictionary may find a message it rejects. -/
def opcodeFits (k op : Nat) : Bool := op == k || !decide (1 ≤ op ∧ op ≤ 7)

/-- When a command is well formed. -/
def Instr.wf : Instr → Bool
  | .dictRead rq_ m_ => rq_.wf && m_.wf && opcodeFits 1 m_.opcode
  | .dictWrite rq_ m_ => rq_.wf && m_.wf && opcodeFits 2 m_.opcode
  | .dictReadSegment rq_ m_ => rq_.wf && m_.wf && opcodeFits 3 m_.opcode
  | .dictWriteSegment rq_ m_ => rq_.wf && m_.wf && opcodeFits 4 m_.opcode
  | .dictAbortTransfer rq_ m_ => rq_.wf && m_.wf && opcodeFits 5 m_.opcode
  | .dictDescribe rq_ m_ => rq_.wf && m_.wf && opcodeFits 6 m_.opcode
  | .dictEnumerate rq_ m_ => rq_.wf && m_.wf && opcodeFits 7 m_.opcode
  | .setEndpointId p_ eid_ => p_.wf && decide (eid_ < 256)
  | .getEndpointId p_ => p_.wf
  | .getEndpointUuid p_ => p_.wf
  | .getMctpVersionSupport p_ => p_.wf
  | .getMessageTypeSupport p_ => p_.wf
  | .getVendorDefinedMessageSupport p_ => p_.wf
  | .forwardRequest rq_ m_ => rq_.wf && m_.wf && m_.fwd
  | .forwardResponse h_ pre_ r_ => h_.wf && pre_.wf && r_.wf
  | .forwardTimeout slot_ tag_ => decide (slot_ < 32) && decide (tag_ < 65536)
  | .mgmtFrame h_ pre_ m_ => h_.wf && pre_.wf && m_.wf
  | .commit rq_ tag_ => rq_.wf && decide (tag_ < 65536)
  | .discardStaged rq_ tag_ => rq_.wf && decide (tag_ < 65536)
  | .stageTimeout slot_ => decide (slot_ < 32)
  | .requesterSlotTimeout slot_ => decide (slot_ < 32)
  | .save rq_ tag_ => rq_.wf && decide (tag_ < 65536)
  | .saveComplete _ => true
  | .restoreDefaults rq_ tag_ => rq_.wf && decide (tag_ < 65536)
  | .resetWarm rq_ tag_ => rq_.wf && decide (tag_ < 65536)
  | .resetCold rq_ tag_ => rq_.wf && decide (tag_ < 65536)
  | .resetStartDelay => true
  | .presentPassword rq_ tag_ _ => rq_.wf && decide (tag_ < 65536)
  | .presentationRefusalEnd => true
  | .ownerLock rq_ tag_ => rq_.wf && decide (tag_ < 65536)
  | .elevationTimeout slot_ => decide (slot_ < 32)
  | .newPassword rq_ tag_ _ => rq_.wf && decide (tag_ < 65536)
  | .transferIdleTimeout rq_ tag_ => rq_.wf && decide (tag_ < 65536)
  | .registerWrite rq_ m_ => rq_.wf && m_.wf && opcodeFits 2 m_.opcode
  | .paceWindow a_ b_ => decide (a_.length = 4) && decide (b_.length = 4)
  | .voltageStep => true
  | .paceTargetMissed => true
  | .volumeCreate n_ _ cls_ _ dev_ => decide (n_ < 4096) && decide (cls_ < 4) && decide (dev_ < 65536)
  | .volumeResize n_ _ dev_ => decide (n_ < 4096) && decide (dev_ < 65536)
  | .volumeDelete n_ dev_ => decide (n_ < 4096) && decide (dev_ < 65536)
  | .zeroFillComplete n_ => decide (n_ < 4096)
  | .capacityShareChange vault_ _ _ _ dev_ => decide (vault_ < 32768) && decide (dev_ < 65536)
  | .manifestAdd e_ dev_ => e_.wf && decide (dev_ < 65536)
  | .manifestChangeAddresses e_ dev_ => e_.wf && decide (dev_ < 65536)
  | .manifestRemove n_ dev_ => decide (n_ < 65536) && decide (dev_ < 65536)
  | .directoryMapChange i_ vault_ dev_ => decide (i_ < 4096) && decide (vault_ < 32768) && decide (dev_ < 65536)
  | .hostRead p_ host_ hpa_ tag_ => decide (p_ < 8) && decide (host_ < 4096) && decide (hpa_ < 2 ^ 52) && decide (tag_ < 65536)
  | .hostWrite p_ host_ hpa_ _ _ _ tag_ => decide (p_ < 8) && decide (host_ < 4096) && decide (hpa_ < 2 ^ 52) && decide (tag_ < 65536)
  | .heldWriteAdmitted p_ => decide (p_ < 8)
  | .writeHoldThreshold p_ => decide (p_ < 8)
  | .translationTimeLimit _ => true
  | .portLinkTrained p_ _ _ => decide (p_ < 8)
  | .portLinkDown p_ => decide (p_ < 8)
  | .portRetrain rq_ tag_ p_ => rq_.wf && decide (tag_ < 65536) && decide (p_ < 8)
  | .portEnableWrite rq_ tag_ p_ _ => rq_.wf && decide (tag_ < 65536) && decide (p_ < 8)
  | .cxlPerst p_ => decide (p_ < 8)
  | .gpfPhase1 p_ => decide (p_ < 8)
  | .gpfPhase2 p_ => decide (p_ < 8)
  | .gpfPhase2Answer p_ => decide (p_ < 8)
  | .sessionUnbindDone n_ => decide (n_ < 16384)
  | .capacityOfferTimeout n_ => decide (n_ < 16384)
  | .releaseCapacityDone n_ => decide (n_ < 16384)
  | .identify p_ ld_ => decide (p_ < 8) && decide (ld_ < 17)
  | .getEventRecords p_ ld_ log_ => decide (p_ < 8) && decide (ld_ < 17) && decide (log_ < 256)
  | .clearEventRecords p_ ld_ log_ _ _ => decide (p_ < 8) && decide (ld_ < 17) && decide (log_ < 256)
  | .getEventInterruptPolicy p_ ld_ => decide (p_ < 8) && decide (ld_ < 17)
  | .setEventInterruptPolicy p_ ld_ _ => decide (p_ < 8) && decide (ld_ < 17)
  | .getFwInfo p_ ld_ => decide (p_ < 8) && decide (ld_ < 17)
  | .getTimestamp p_ ld_ => decide (p_ < 8) && decide (ld_ < 17)
  | .setTimestamp p_ ld_ _ => decide (p_ < 8) && decide (ld_ < 17)
  | .getSupportedLogs p_ ld_ => decide (p_ < 8) && decide (ld_ < 17)
  | .getLog p_ ld_ off_ len_ => decide (p_ < 8) && decide (ld_ < 17) && decide (off_ < 2 ^ 52) && decide (len_ < 2 ^ 52)
  | .identifyMemoryDevice p_ ld_ => decide (p_ < 8) && decide (ld_ < 17)
  | .getPartitionInfo p_ ld_ => decide (p_ < 8) && decide (ld_ < 17)
  | .getHealthInfo p_ ld_ => decide (p_ < 8) && decide (ld_ < 17)
  | .getAlertConfiguration p_ ld_ => decide (p_ < 8) && decide (ld_ < 17)
  | .setAlertConfiguration p_ ld_ _ => decide (p_ < 8) && decide (ld_ < 17)
  | .getShutdownState p_ ld_ => decide (p_ < 8) && decide (ld_ < 17)
  | .setShutdownState p_ ld_ _ => decide (p_ < 8) && decide (ld_ < 17)
  | .getPoisonList p_ ld_ _ len_ _ _ => decide (p_ < 8) && decide (ld_ < 17) && decide (len_ < 2 ^ 52)
  | .injectPoison p_ ld_ dpa_ => decide (p_ < 8) && decide (ld_ < 17) && decide (dpa_ < 2 ^ 52)
  | .clearPoison p_ ld_ dpa_ _ => decide (p_ < 8) && decide (ld_ < 17) && decide (dpa_ < 2 ^ 52)
  | .poisonCommandAnswer _ => true
  | .getDynamicCapacityConfiguration p_ ld_ => decide (p_ < 8) && decide (ld_ < 17)
  | .getDynamicCapacityExtentList p_ ld_ => decide (p_ < 8) && decide (ld_ < 17)
  | .addDynamicCapacityResponse p_ ld_ _ => decide (p_ < 8) && decide (ld_ < 17)
  | .releaseDynamicCapacity p_ ld_ _ len_ => decide (p_ < 8) && decide (ld_ < 17) && decide (len_ < 2 ^ 52)
  | .dictionaryMessage p_ ld_ m_ => decide (p_ < 8) && decide (ld_ < 17) && m_.wf
  | .mailboxUnsupported p_ ld_ opcode_ => decide (p_ < 8) && decide (ld_ < 17) && decide (opcode_ < 65536)
  | .getLdInfo p_ => decide (p_ < 8)
  | .getLdAllocations p_ => decide (p_ < 8)
  | .setLdAllocations p_ opcode_ => decide (p_ < 8) && decide (opcode_ < 65536)
  | .doorbellTailWrite p_ ld_ ring_ _ _ _ => decide (p_ < 8) && decide (ld_ < 17) && decide (ring_ < 4096)
  | .completionHeadWrite p_ ld_ ring_ _ _ => decide (p_ < 8) && decide (ld_ < 17) && decide (ring_ < 4096)
  | .doorbellRestart p_ ld_ ring_ => decide (p_ < 8) && decide (ld_ < 17) && decide (ring_ < 4096)
  | .doorbellLineWrite pbr_ hpa_ _ _ => decide (pbr_ < 4096) && decide (hpa_ < 2 ^ 52)
  | .ringRegister rq_ tag_ _ => rq_.wf && decide (tag_ < 65536)
  | .ringUnregister rq_ tag_ ring_ => rq_.wf && decide (tag_ < 65536) && decide (ring_ < 4096)
  | .ringRestart rq_ tag_ ring_ => rq_.wf && decide (tag_ < 65536) && decide (ring_ < 4096)
  | .descriptorFetch ring_ _ _ => decide (ring_ < 4096)
  | .copy ring_ => decide (ring_ < 4096)
  | .fill ring_ => decide (ring_ < 4096)
  | .importRange ring_ => decide (ring_ < 4096)
  | .exportRange ring_ => decide (ring_ < 4096)
  | .persist ring_ => decide (ring_ < 4096)
  | .place ring_ => decide (ring_ < 4096)
  | .atomic ring_ => decide (ring_ < 4096)
  | .compare ring_ => decide (ring_ < 4096)
  | .crc32c ring_ => decide (ring_ < 4096)
  | .encrypt ring_ => decide (ring_ < 4096)
  | .decrypt ring_ => decide (ring_ < 4096)
  | .persistPoint ring_ => decide (ring_ < 4096)
  | .fence ring_ => decide (ring_ < 4096)
  | .nop ring_ => decide (ring_ < 4096)
  | .pieceComplete ring_ idx_ off_ => decide (ring_ < 4096) && decide (idx_ < 2 ^ 32) && decide (off_ < 2 ^ 32)
  | .moderationTimer ring_ => decide (ring_ < 4096)
  | .ringHoldLimit ring_ idx_ off_ => decide (ring_ < 4096) && decide (idx_ < 2 ^ 32) && decide (off_ < 2 ^ 32)
  | .epochEnd => true
  | .lookup h_ q_ _ => h_.wf && q_.wf
  | .moveLeaseExpiry key_ => decide (key_ < 2 ^ 39)
  | .chunk h_ c_ _ => h_.wf && c_.wf
  | .chunkAck h_ c_ => h_.wf && c_.wf
  | .freezeLimitExpiry key_ => decide (key_ < 2 ^ 39)
  | .tombstoneExpiry key_ => decide (key_ < 2 ^ 39)
  | .translationCacheFlush rq_ tag_ => rq_.wf && decide (tag_ < 65536)
  | .inval h_ key_ slot_ line_ _ _ => h_.wf && decide (key_ < 2 ^ 39) && decide (slot_ < 2 ^ 23) && decide (line_ < 2 ^ 32)
  | .invalAck h_ _ => h_.wf
  | .copyLeaseExpiry slot_ => decide (slot_ < 2 ^ 23)
  | .copyLeaseGuardExpiry key_ vault_ => decide (key_ < 2 ^ 39) && decide (vault_ < 32768)
  | .copyLeaseRenewTimer => true
  | .moveRequest h_ m_ => h_.wf && m_.wf
  | .moveAnswer h_ m_ => h_.wf && m_.wf
  | .reserveRequest h_ m_ => h_.wf && m_.wf
  | .reserveAnswer h_ m_ => h_.wf && m_.wf
  | .placementCommit h_ m_ => h_.wf && m_.wf
  | .commitAcknowledgement h_ m_ => h_.wf && m_.wf
  | .placementAbort h_ m_ => h_.wf && m_.wf
  | .copyGrant h_ m_ => h_.wf && m_.wf
  | .copyRegister h_ m_ => h_.wf && m_.wf
  | .leaseRenewal h_ m_ => h_.wf && m_.wf
  | .copyDropNotice h_ m_ => h_.wf && m_.wf
  | .heatReport h_ m_ => h_.wf && m_.wf
  | .arrivalReport h_ m_ => h_.wf && m_.wf
  | .rebuildQuery h_ m_ => h_.wf && m_.wf
  | .mirror h_ stream_ _ => h_.wf && decide (stream_ < 2)
  | .mirrorAck h_ stream_ seq_ => h_.wf && decide (stream_ < 2) && decide (seq_ < 2 ^ 64)
  | .clean h_ stream_ _ => h_.wf && decide (stream_ < 2)
  | .writebackVisit slot_ granule_ => decide (slot_ < 2 ^ 23) && decide (granule_ < 512)
  | .homeWriteComplete _ => true
  | .homeWriteFailed _ drive_ _ => decide (drive_ < 16)
  | .driveTimeout _ drive_ => decide (drive_ < 16)
  | .driveOutOfService rq_ tag_ d_ => rq_.wf && decide (tag_ < 65536) && decide (d_ < 16)
  | .driveInsert rq_ tag_ d_ info_ => rq_.wf && decide (tag_ < 65536) && decide (d_ < 16) && info_.wf
  | .rebuildBatch d_ => decide (d_ < 16)
  | .pfailAsserted => true
  | .flushSnapshot => true
  | .dirtyMapWritten _ _ _ => true
  | .pfailDeasserted => true
  | .resumeDelayExpiry => true
  | .unsteadyRelease => true
  | .pfailStartReminder => true
  | .restoreReadComplete slot_ granule_ _ _ => decide (slot_ < 2 ^ 23) && decide (granule_ < 512)
  | .restoreReadFailed slot_ granule_ d_ => decide (slot_ < 2 ^ 23) && decide (granule_ < 512) && decide (d_ < 16)
  | .restoreSourceWaitExpiry slot_ granule_ => decide (slot_ < 2 ^ 23) && decide (granule_ < 512)
  | .pointPeriod => true
  | .pointTimeout => true
  | .heartbeatSend => true
  | .heartbeat h_ b_ => h_.wf && b_.wf
  | .beatEdge _ => true
  | .beatPathTimeout _ => true
  | .framePathSilent => true
  | .hearingWindowExpiry => true
  | .twinAbsentDetected => true
  | .selfFence => true
  | .claimStart => true
  | .claimRecordWritten => true
  | .reservationComplete d_ _ _ => decide (d_ < 16)
  | .claimLimitExpiry => true
  | .twinLost => true
  | .inSyncTimeout => true
  | .watchdogRefresh => true
  | .watchdogExpiry => true
  | .claimFrame h_ vault_ claim_ => h_.wf && decide (vault_ < 32768) && decide (claim_ < 2 ^ 64)
  | .reclaimDelayExpiry _ => true
  | .handover rq_ tag_ => rq_.wf && decide (tag_ < 65536)
  | .handoverDrained => true
  | .handoverHoldExpiry => true
  | .resyncStart => true
  | .resyncGranuleSend slot_ granule_ => decide (slot_ < 2 ^ 23) && decide (granule_ < 512)
  | .metaFrame h_ _ off_ _ => h_.wf && decide (off_ < 2 ^ 52)
  | .hingeLinkUp p_ mode_ lanes_ => decide (p_ < 4) && [100, 200, 400, 800].contains mode_ && decide (lanes_ < 256)
  | .hingeLinkDown p_ => decide (p_ < 4)
  | .hingeLaneFailure p_ lane_ _ => decide (p_ < 4) && decide (lane_ < 8)
  | .hingeRetrain rq_ tag_ p_ => rq_.wf && decide (tag_ < 65536) && decide (p_ < 4)
  | .hingePortEnableWrite rq_ tag_ p_ _ => rq_.wf && decide (tag_ < 65536) && decide (p_ < 4)
  | .hingeRead h_ q_ => h_.wf && q_.wf
  | .hingeWrite h_ q_ _ _ => h_.wf && q_.wf
  | .piece h_ q_ _ off_ len_ => h_.wf && q_.wf && decide (off_ < 2 ^ 52) && decide (len_ < 2 ^ 52)
  | .dataFrame h_ r_ _ => h_.wf && r_.wf
  | .status h_ r_ => h_.wf && r_.wf
  | .ack h_ _ _ => h_.wf
  | .nak h_ vc_ _ => h_.wf && decide (vc_ < 4)
  | .connect h_ b_ => h_.wf && b_.wf
  | .accept h_ b_ => h_.wf && b_.wf
  | .close h_ _ => h_.wf
  | .retransmitTimeout peer_ port_ vc_ => decide (peer_ < 65536) && decide (port_ < 4) && decide (vc_ < 4)
  | .ackTimer peer_ port_ vc_ => decide (peer_ < 65536) && decide (port_ < 4) && decide (vc_ < 4)
  | .connectTimeout peer_ port_ => decide (peer_ < 65536) && decide (port_ < 4)
  | .idleCloseTimer peer_ port_ => decide (peer_ < 65536) && decide (port_ < 4)
  | .creditWindow p_ => decide (p_ < 4)
  | .pfcPause p_ prio_ _ => decide (p_ < 4) && decide (prio_ < 8)
  | .neighborSolicitation p_ _ addr_ mac_ => decide (p_ < 4) && decide (addr_ < 2 ^ 64) && decide (mac_ < 2 ^ 48)
  | .ndCacheExpiry p_ addr_ => decide (p_ < 4) && decide (addr_ < 2 ^ 64)
  | .throttleNotice h_ vault_ dirty_ => h_.wf && decide (vault_ < 32768) && decide (dirty_ < 2 ^ 64)
  | .throttleReleaseNotice h_ vault_ dirty_ => h_.wf && decide (vault_ < 32768) && decide (dirty_ < 2 ^ 64)
  | .flushNotice h_ vault_ dirty_ => h_.wf && decide (vault_ < 32768) && decide (dirty_ < 2 ^ 64)
  | .sealedNotice h_ vault_ dirty_ => h_.wf && decide (vault_ < 32768) && decide (dirty_ < 2 ^ 64)
  | .ptpMessage m_ => decide (m_.1 < 128) && m_.2.wf
  | .ptpSyncInterval => true
  | .ptpDelayRequestInterval => true
  | .timeBaseStep _ => true
  | .treeGather h_ t_ gen_ _ => h_.wf && t_.wf && decide (gen_ < 2 ^ 64)
  | .treeReady h_ t_ _ _ => h_.wf && t_.wf
  | .treeTick h_ t_ => h_.wf && t_.wf
  | .treeArrive h_ t_ _ _ => h_.wf && t_.wf
  | .treeRelease h_ t_ st_ => h_.wf && t_.wf && decide (st_ < 256)
  | .treeBroadcast h_ t_ _ _ => h_.wf && t_.wf
  | .treeAnnounce h_ t_ a_ dev_ => h_.wf && t_.wf && a_.wf && decide (dev_ < 65536)
  | .treeDone h_ t_ st_ _ _ _ => h_.wf && t_.wf && decide (st_ < 256)
  | .treeAction h_ t_ a_ dev_ => h_.wf && t_.wf && a_.wf && decide (dev_ < 65536)
  | .treeResult h_ t_ st_ => h_.wf && t_.wf && decide (st_ < 256)
  | .treeJoin h_ t_ _ _ mac_ => h_.wf && t_.wf && decide (mac_ < 2 ^ 48)
  | .treeState h_ t_ img_ => h_.wf && t_.wf && img_.wf
  | .gatherSendTimer => true
  | .gatherTimeout => true
  | .closeGather rq_ tag_ => rq_.wf && decide (tag_ < 65536)
  | .readyWaveSend => true
  | .tickTimer => true
  | .tickMissed => true
  | .parentUnreachable => true
  | .successionWaitExpiry => true
  | .barrierLimit => true
  | .counterFreeze => true
  | .counterRelease => true
  | .poolPersistPoint => true
  | .poolStateApply => true
  | .poolResetWarm => true
  | .poolResetCold => true
  | .poolResetFire => true
  | .joinStart rq_ tag_ => rq_.wf && decide (tag_ < 65536)
  | .arbitrate r_ _ => decide (r_ < 26)
  | .tableSwap => true
  | .ageInspection r_ => decide (r_ < 26)
  | .arbiterStatsClear rq_ tag_ r_ => rq_.wf && decide (tag_ < 65536) && decide (r_ < 26)
  | .startPhaseAdvance drives_ keys_ heads_ map_ => drives_.all (fun d => decide (d.1 < 16) && d.2.wf) && keys_.all (fun k => decide (k.1 < 16 ∧ k.2 < 2 ^ 64)) && heads_.all (fun h => decide (h.drive < 16)) && map_.all DirtyMap.wf
  | .hostServiceOpen => true
  | .trainingComplete n_ _ _ rank_ => decide (n_ < 16) && decide (rank_ < 4)
  | .refreshDue n_ rank_ _ => decide (n_ < 16) && decide (rank_ < 4)
  | .mr4Poll n_ rank_ _ t_ => decide (n_ < 16) && decide (rank_ < 4) && decide (-2 ^ 31 ≤ t_ ∧ t_ < 2 ^ 31)
  | .driftCheck n_ _ => decide (n_ < 16)
  | .rcdAlert n_ sub_ => decide (n_ < 16) && decide (sub_ < 2)
  | .retryReplay n_ _ => decide (n_ < 16)
  | .idleSelfRefresh n_ => decide (n_ < 16)
  | .channelRetrain rq_ tag_ n_ => rq_.wf && decide (tag_ < 65536) && decide (n_ < 16)
  | .channelOffline rq_ tag_ n_ => rq_.wf && decide (tag_ < 65536) && decide (n_ < 16)
  | .channelReturn rq_ tag_ n_ _ => rq_.wf && decide (tag_ < 65536) && decide (n_ < 16)
  | .retrainComplete n_ _ => decide (n_ < 16)
  | .retireRank rq_ tag_ n_ rank_ => rq_.wf && decide (tag_ < 65536) && decide (n_ < 16) && decide (rank_ < 4)
  | .freezeChannel rq_ tag_ n_ => rq_.wf && decide (tag_ < 65536) && decide (n_ < 16)
  | .freezeRead rq_ tag_ addr_ => rq_.wf && decide (tag_ < 65536) && decide (addr_ < 2 ^ 64)
  | .freezeReadDone _ => true
  | .dramReadComplete line_ first_ last_ _ =>
    decide (line_ < 2 ^ 37 ∧ first_.length = 8 ∧ last_.length = 8) && (first_ ++ last_).all (fun b => decide (b < 2 ^ 40))
  | .markDeviceBad rq_ tag_ n_ _ => rq_.wf && decide (tag_ < 65536) && decide (n_ < 16)
  | .clearErasure rq_ tag_ n_ _ => rq_.wf && decide (tag_ < 65536) && decide (n_ < 16)
  | .deviceBadWindow n_ => decide (n_ < 16)
  | .repairWaitExpiry line_ => decide (line_ < 2 ^ 32)
  | .standbyResendWaitExpiry slot_ granule_ => decide (slot_ < 2 ^ 23) && decide (granule_ < 512)
  | .scrubLine n_ first_ last_ =>
    decide (n_ < 16 ∧ first_.length = 8 ∧ last_.length = 8) && (first_ ++ last_).all (fun b => decide (b < 2 ^ 40))
  | .wordScrub _ addr_ _ => decide (addr_ < 2 ^ 64)
  | .keyLoad rq_ tag_ n_ _ => rq_.wf && decide (tag_ < 65536) && decide (n_ < 4096)
  | .keyErase rq_ tag_ n_ => rq_.wf && decide (tag_ < 65536) && decide (n_ < 4096)
  | .contextAcquired _ slot_ mode_ gen_ ring_ idx_ len_ => decide (slot_ < 4096) && decide (mode_ < 8) && decide (gen_ < 2 ^ 64) && decide (ring_ < 4096) && decide (idx_ < 2 ^ 32) && decide (len_ < 2 ^ 52)
  | .cipherBlockDone ctx_ pipe_ _ _ _ => decide (ctx_ < 64) && decide (pipe_ < 16)
  | .returnPipelines rq_ tag_ _ => rq_.wf && decide (tag_ < 65536)
  | .keyWaitReminder slot_ _ => decide (slot_ < 4096)
  | .engineTrap e_ cause_ addr_ => decide (e_ < 48) && decide (cause_ < 256) && decide (addr_ < 2 ^ 64)
  | .engineWatchdogExpiry e_ => decide (e_ < 48)
  | .engineRestart e_ => decide (e_ < 48)
  | .imageLoad rq_ m_ _ _ _ _ _ => rq_.wf && m_.wf && opcodeFits 4 m_.opcode
  | .activateRolling rq_ tag_ => rq_.wf && decide (tag_ < 65536)
  | .activateAtReset rq_ tag_ => rq_.wf && decide (tag_ < 65536)
  | .activateRollback rq_ tag_ => rq_.wf && decide (tag_ < 65536)
  | .clusterUpdateDone _ => true
  | .invalidateLine c_ addr_ => decide (c_ < 6) && decide (addr_ < 2 ^ 64)
  | .invalidateAll c_ => decide (c_ < 6)
  | .invalidateAllLocked c_ => decide (c_ < 6)
  | .drain c_ => decide (c_ < 6)
  | .lockFill c_ way_ addr_ => decide (c_ < 6) && decide (way_ < 16) && decide (addr_ < 2 ^ 64)
  | .lockWay c_ way_ => decide (c_ < 6) && decide (way_ < 16)
  | .unlockWay c_ way_ => decide (c_ < 6) && decide (way_ < 16)
  | .cacheDisable rq_ tag_ c_ => rq_.wf && decide (tag_ < 65536) && decide (c_ < 6)
  | .cacheEnable rq_ tag_ c_ => rq_.wf && decide (tag_ < 65536) && decide (c_ < 6)
  | .cacheLoad e_ addr_ _ _ => decide (e_ < 48) && decide (addr_ < 2 ^ 64)
  | .cacheStore e_ addr_ _ _ _ => decide (e_ < 48) && decide (addr_ < 2 ^ 64)
  | .cacheFillComplete c_ addr_ _ _ => decide (c_ < 6) && decide (addr_ < 2 ^ 64)
  | .mergeEntryTimeout c_ => decide (c_ < 6)
  | .sbRead d_ bad_ => d_.wf && bad_.all (fun p => decide (p < 512))
  | .sbProgram d_ => d_.wf
  | .sbErase d_ => d_.wf
  | .sbSuspend d_ => d_.wf
  | .sbResume d_ => d_.wf
  | .sbMarginRead d_ bad_ => d_.wf && bad_.all (fun p => decide (p < 512))
  | .pagePulseDone plane_ _ => decide (plane_ < 16)
  | .erasePulseDone plane_ _ => decide (plane_ < 16)
  | .flagCellPulseDone plane_ _ => decide (plane_ < 16)
  | .suspendHoldExpiry plane_ => decide (plane_ < 16)
  | .minRunTimeElapsed plane_ => decide (plane_ < 16)
  | .acknowledgeSource rq_ tag_ n_ => rq_.wf && decide (tag_ < 65536) && decide (n_ < 320)
  | .acknowledgeAll rq_ tag_ => rq_.wf && decide (tag_ < 65536)
  | .recorderFlush rq_ tag_ => rq_.wf && decide (tag_ < 65536)
  | .clearFirstArea rq_ tag_ => rq_.wf && decide (tag_ < 65536)
  | .repeatWindowExpiry source_ cause_ => decide (source_ < 320) && decide (cause_ < 256)
  | .tokenRefill source_ cause_ => decide (source_ < 320) && decide (cause_ < 256)
  | .mgmtInterruptTimer p_ => p_.wf
  | .counterPreset rq_ tag_ n_ v_ => rq_.wf && decide (tag_ < 65536) && decide (n_ < 1024) && decide (v_ < 2 ^ 48)
  | .localFreezeWrite rq_ tag_ mask_ => rq_.wf && decide (tag_ < 65536) && decide (mask_ < 2 ^ 32)
  | .counterSweep => true
  | .ucieLaneFailure m_ lane_ => decide (m_ < 2) && decide (lane_ < 256)
  | .ucieRetrain m_ cause_ => decide (m_ < 2) && decide (cause_ < 256)
  | .ucieCrcRate m_ _ => decide (m_ < 2)
  | .ucieModuleFailure m_ => decide (m_ < 2)
  | .timeBasePllLoss => true
  | .vauxRise => true
  | .vauxLoss => true
  | .vauxOutOfRange mv_ => decide (mv_ < 65536)
  | .powerGoodRise => true
  | .powerGoodFall => true
  | .vmainUndervoltage mv_ => decide (mv_ < 65536)
  | .brownOut mv_ => decide (mv_ < 65536)
  | .powerLimitCheck watts_ => decide (watts_ < 65536)
  | .thermalSample a_ b_ => decide (a_.length = 8) && decide (b_.length = 8)
  | .regulatorFault _ => true
  | .porstAssert => true
  | .porstRelease a_ b_ => decide (a_.length = 16) && a_.all (fun x => [0, 8, 16].contains x.length && x.all (fun v => decide (v < 2 ^ 32))) && b_.all (fun x => decide (x < 100))
  | .wrstAssert => true
  | .wrstRelease a_ b_ => decide (a_.length = 16) && b_.all (fun x => decide (x < 100))
  | .jtagReset => true
  | .deferredReset => true
  | .nvmeLinkChange d_ _ _ => decide (d_ < 16)
  | .hdmDecoderCommit p_ ld_ i_ _ _ _ _ _ _ => decide (p_ < 8) && decide (ld_ < 17) && decide (i_ < 4)
  | .busMasterEnableWrite p_ ld_ _ => decide (p_ < 8) && decide (ld_ < 17)
  | .busMasterReadCompletion ring_ idx_ off_ _ status_ _ => decide (ring_ < 4096) && decide (idx_ < 2 ^ 32) && decide (off_ < 2 ^ 32) && decide (status_ < 256)
  | .busMasterCompletionTimeout ring_ idx_ => decide (ring_ < 4096) && decide (idx_ < 2 ^ 32)
  | .msixVectorMaskWrite p_ ld_ v_ _ => decide (p_ < 8) && decide (ld_ < 17) && decide (v_ < 64)
  | .mapTransferEntries h_ i_ _ _ => h_.wf && decide (i_ < 4096)
  | .i3cDynamicAddress port_ addr_ => decide (port_ < 2) && decide (addr_ < 128)
  | .jtagFactoryAccess _ => true
  | .ptpAnnounceTimeout => true

end Sys2Proof
end

