-- ==== Sys2Proof/Certificates/Slice0/Obligations.lean ====
section
/-! DEFINITION. What is claimed of the device. -/

open Sys2Proof Sys2Proof.Machine

namespace Sys2Proof.Claims

/-- A dictionary request that the device takes as its own (R65 to R70, R74): on a path it answers, whole, well formed, its requester below four
outstanding requests, and not for another device. -/
def Served (s : State) (rq : Req) (m : DictMsg) : Prop :=
  s.answers rq = true ∧ msgWhole rq m = true ∧ msgForm m = true ∧ (s.touch rq).outstandingOf rq < 4 ∧
    (m.fwd = false ∨ m.target = 0xFFFF ∨ m.target = s.pool.number)

/-- A write of an object passes every check of R43, R46, R51 and R61. -/
def MayWrite (s : State) (rq : Req) (idx sub : Nat) (b : Bytes) : Prop :=
  (s.touch rq).outstandingOf rq < 4 ∧ (s.touch rq).writeFails rq idx sub (tyCode idx sub) b = []

/-- The same for the number `v` in an object of `n` bytes. -/
def MayPut (s : State) (rq : Req) (idx sub n v : Nat) : Prop := MayWrite s rq idx sub (leBytes n v)

/-- Slot `n` of the requester table has forwarded a request, and waits for its answer (R50, R74). -/
def awaits (s : State) (n : Nat) (m : DictMsg) : State :=
  (s.modSlot n (fun r => { r with
    lastUse := s.now
    targets := if leavesState m then addSet m.target r.targets else r.targets })).modDict
    (fun d => { d with fwds := d.fwds ++ [{ slot := n, tag := m.tag, target := m.target, msg := m, since := s.now }] })


/-- The frame with the header `h` passes every check of R294 in its order, the claim check among them (R268, R292), and the device is in `u` then; `b` is the
frame's body. -/
def Got (s : State) (h : Hdr) (b : FBody) (u : State) : Prop := s.rx h b false = (u, true)

/-- A placement message arrives at a device that serves its vault (R297). -/
def GotPlace (s : State) (h : Hdr) (code : Nat) (m : PMsg) (u : State) : Prop :=
  Got s h (.placement code m) u ∧ u.serves = true

end Sys2Proof.Claims


open Sys2Proof.Claims

namespace Sys2Proof.Claims

/-- The parts of the device that a command may change (Part in Safety.lean): its own, and those that what it sets off may reach, such as
the recorder and its counters, the ports a frame leaves by, and the channels and the lattice an access takes. -/
def touches (c : Instr) : List Part :=
  match c with
  | .gpfPhase1 .. | .getLdInfo .. | .getLdAllocations .. | .setLdAllocations .. | .getEndpointId .. | .getEndpointUuid ..
  | .getMctpVersionSupport .. | .getMessageTypeSupport .. | .getVendorDefinedMessageSupport .. => [.out]
  | .i3cDynamicAddress .. | .presentationRefusalEnd .. | .elevationTimeout .. => [.dict]
  | .voltageStep .. => [.pace]
  | .hdmDecoderCommit .. | .gpfPhase2 .. => [.host]
  | .copyLeaseExpiry .. => [.place]
  | .hearingWindowExpiry .. | .twinAbsentDetected .. | .inSyncTimeout .. | .watchdogRefresh .. => [.twin]
  | .ndCacheExpiry .. => [.hinge]
  | .tickMissed .. | .parentUnreachable .. => [.pool]
  | .rcdAlert .. | .freezeReadDone .. => [.dram]
  | .deviceBadWindow .. => [.ecc]
  | .invalidateLine .. | .invalidateAll .. | .invalidateAllLocked .. | .lockWay .. | .unlockWay .. | .engineRestart .. => [.steward]
  | .repeatWindowExpiry .. | .tokenRefill .. | .ucieRetrain .. | .ucieCrcRate .. => [.recorder]
  | .pfailDeasserted .. | .unsteadyRelease .. => [.power]
  | .setEndpointId .. => [.out, .dict]
  | .msixVectorMaskWrite .. | .gpfPhase2Answer .. | .identify .. | .getEventRecords .. | .clearEventRecords ..
  | .getEventInterruptPolicy .. | .setEventInterruptPolicy .. | .getFwInfo .. | .getTimestamp .. | .setTimestamp ..
  | .getSupportedLogs .. | .getLog .. | .identifyMemoryDevice .. | .getPartitionInfo .. | .getHealthInfo .. | .getAlertConfiguration ..
  | .setAlertConfiguration .. | .getShutdownState .. | .setShutdownState .. | .mailboxUnsupported .. | .getPoisonList ..
  | .poisonCommandAnswer .. | .getDynamicCapacityConfiguration .. | .getDynamicCapacityExtentList .. | .releaseDynamicCapacity ..
    => [.out, .host]
  | .ptpSyncInterval .. | .ptpDelayRequestInterval .. => [.out, .hinge]
  | .cacheFillComplete .. => [.out, .steward]
  | .jtagFactoryAccess .. | .saveComplete .. | .stageTimeout .. => [.dict, .recorder]
  | .paceWindow .. | .paceTargetMissed .. => [.pace, .recorder]
  | .writeHoldThreshold .. => [.host, .recorder]
  | .beatEdge .. | .beatPathTimeout .. | .framePathSilent .. | .claimStart .. | .handoverDrained .. | .standbyResendWaitExpiry ..
    => [.twin, .recorder]
  | .ptpAnnounceTimeout .. | .counterSweep .. => [.hinge, .recorder]
  | .zeroFillComplete .. => [.pool, .recorder]
  | .arbitrate .. | .tableSwap .. | .ageInspection .. => [.lattice, .recorder]
  | .refreshDue .. | .mr4Poll .. | .idleSelfRefresh .. => [.dram, .recorder]
  | .keyWaitReminder .. => [.cipher, .recorder]
  | .ucieLaneFailure .. | .ucieModuleFailure .. | .timeBasePllLoss .. | .pfailStartReminder .. | .vauxOutOfRange .. => [.recorder, .power]
  | .releaseCapacityDone .. => [.out, .settings, .host]
  | .moderationTimer .. => [.out, .host, .rings]
  | .mgmtInterruptTimer .. => [.out, .host, .recorder]
  | .capacityOfferTimeout .. => [.settings, .host, .recorder]
  | .reclaimDelayExpiry .. => [.persist, .twin, .recorder]
  | .poolResetWarm .. | .poolResetCold .. => [.host, .pool, .recorder]
  | .transferIdleTimeout .. => [.dict, .steward, .recorder]
  | .sbRead .. | .sbProgram .. | .sbErase .. | .sbSuspend .. | .sbResume .. | .sbMarginRead .. | .pagePulseDone ..
  | .suspendHoldExpiry .. | .minRunTimeElapsed .. => [.out, .sbox, .recorder]
  | .powerLimitCheck .. | .regulatorFault .. => [.pace, .recorder, .power]
  | .hostServiceOpen .. => [.host, .recorder, .power]
  | .addDynamicCapacityResponse .. => [.out, .settings, .host, .recorder]
  | .ptpMessage .. => [.out, .place, .hinge, .recorder]
  | .timeBaseStep .. => [.place, .hinge, .lattice, .recorder]
  | .selfFence .. | .claimLimitExpiry .. | .watchdogExpiry .. => [.persist, .twin, .ecc, .recorder]
  | .erasePulseDone .. => [.out, .dict, .sbox, .recorder]
  | .dirtyMapWritten .. => [.out, .persist, .sbox, .recorder]
  | .ackTimer .. | .idleCloseTimer .. | .neighborSolicitation .. => [.out, .hinge, .lattice, .dram, .recorder]
  | .cacheLoad .. | .lockFill .. => [.out, .lattice, .dram, .steward, .recorder]
  | .retransmitTimeout .. | .pfcPause .. => [.out, .hinge, .lattice, .dram, .cipher, .recorder]
  | .requesterSlotTimeout .. => [.out, .dict, .hinge, .lattice, .dram, .cipher, .recorder]
  | .rebuildBatch .. => [.out, .persist, .hinge, .lattice, .dram, .cipher, .recorder]
  | .hingeLinkUp .. | .hingeLinkDown .. | .hingeLaneFailure .. => [.out, .twin, .hinge, .lattice, .dram, .cipher, .recorder]
  | .gatherSendTimer .. | .tickTimer .. | .barrierLimit .. => [.out, .hinge, .pool, .lattice, .dram, .cipher, .recorder]
  | .cacheStore .. | .mergeEntryTimeout .. | .drain .. | .clusterUpdateDone .. | .engineTrap .. | .engineWatchdogExpiry ..
    => [.out, .mem, .lattice, .dram, .ecc, .steward, .recorder]
  | .acknowledgeSource .. | .acknowledgeAll .. | .recorderFlush .. | .clearFirstArea .. | .counterPreset .. | .localFreezeWrite ..
  | .arbiterStatsClear .. | .freezeRead .. | .returnPipelines .. | .discardStaged .. | .save .. | .restoreDefaults .. | .resetWarm ..
  | .resetCold .. | .presentPassword .. | .ownerLock .. | .dictDescribe .. | .dictEnumerate .. | .forwardTimeout ..
    => [.out, .dict, .host, .hinge, .lattice, .dram, .cipher, .recorder]
  | .heartbeatSend .. => [.out, .settings, .twin, .hinge, .lattice, .dram, .cipher, .recorder]
  | .resyncGranuleSend .. => [.out, .persist, .twin, .hinge, .lattice, .dram, .cipher, .recorder]
  | .brownOut .. => [.host, .rings, .persist, .twin, .hinge, .dram, .recorder, .power]
  | .translationCacheFlush .. => [.out, .dict, .host, .place, .hinge, .lattice, .dram, .cipher, .recorder]
  | .driveInsert .. => [.out, .dict, .host, .persist, .hinge, .lattice, .dram, .cipher, .recorder]
  | .handover .. | .hingeRetrain .. => [.out, .dict, .host, .twin, .hinge, .lattice, .dram, .cipher, .recorder]
  | .copyLeaseRenewTimer .. => [.out, .place, .persist, .twin, .hinge, .lattice, .dram, .cipher, .recorder]
  | .joinStart .. | .sessionUnbindDone .. => [.out, .dict, .host, .hinge, .pool, .lattice, .dram, .cipher, .recorder]
  | .clearErasure .. => [.out, .dict, .host, .hinge, .lattice, .dram, .ecc, .cipher, .recorder]
  | .activateAtReset .. | .activateRollback .. | .dictRead .. | .dictReadSegment .. | .dictAbortTransfer ..
    => [.out, .dict, .host, .hinge, .lattice, .dram, .cipher, .steward, .recorder]
  | .hingePortEnableWrite .. => [.out, .settings, .dict, .host, .twin, .hinge, .lattice, .dram, .cipher, .recorder]
  | .cacheEnable .. => [.out, .settings, .dict, .host, .hinge, .lattice, .dram, .cipher, .steward, .recorder]
  | .newPassword .. => [.out, .dict, .host, .place, .persist, .hinge, .pool, .lattice, .dram, .cipher, .recorder]
  | .activateRolling .. => [.out, .mem, .dict, .host, .hinge, .lattice, .dram, .ecc, .cipher, .steward, .recorder]
  | .cacheDisable .. => [.out, .mem, .settings, .dict, .host, .hinge, .lattice, .dram, .ecc, .cipher, .steward, .recorder]
  | .doorbellTailWrite .. | .completionHeadWrite .. | .doorbellRestart .. | .doorbellLineWrite .. | .descriptorFetch .. | .copy ..
  | .fill .. | .importRange .. | .exportRange .. | .persist .. | .place .. | .atomic .. | .compare .. | .crc32c .. | .encrypt ..
  | .decrypt .. | .fence .. | .nop .. | .pieceComplete .. | .ringHoldLimit .. | .busMasterReadCompletion ..
  | .busMasterCompletionTimeout .. | .busMasterEnableWrite .. | .lookup .. | .moveLeaseExpiry .. | .chunk .. | .chunkAck ..
  | .freezeLimitExpiry .. | .tombstoneExpiry .. | .inval .. | .invalAck .. | .copyLeaseGuardExpiry .. | .moveRequest .. | .moveAnswer ..
  | .reserveRequest .. | .reserveAnswer .. | .placementCommit .. | .commitAcknowledgement .. | .placementAbort .. | .copyGrant ..
  | .copyRegister .. | .leaseRenewal .. | .copyDropNotice .. | .heatReport .. | .arrivalReport .. | .rebuildQuery .. | .treeJoin ..
  | .mirror .. | .clean .. | .mirrorAck .. | .restoreReadComplete .. | .restoreSourceWaitExpiry .. | .twinLost .. | .claimFrame ..
  | .handoverHoldExpiry .. | .resyncStart .. | .metaFrame .. | .hingeRead .. | .hingeWrite .. | .piece .. | .dataFrame .. | .status ..
  | .nak .. | .connect .. | .creditWindow .. | .throttleNotice .. | .throttleReleaseNotice .. | .flushNotice .. | .sealedNotice ..
  | .trainingComplete .. | .retrainComplete .. | .driftCheck .. | .retryReplay .. | .dramReadComplete .. | .repairWaitExpiry ..
  | .scrubLine .. | .contextAcquired .. | .cipherBlockDone .. | .portLinkTrained .. | .portLinkDown .. | .cxlPerst .. | .hostRead ..
  | .hostWrite .. | .heldWriteAdmitted .. | .translationTimeLimit .. | .injectPoison .. | .clearPoison ..
    => [.out, .mem, .host, .rings, .place, .persist, .twin, .hinge, .lattice, .dram, .ecc, .cipher, .recorder]
  | .heartbeat .. => [.out, .mem, .settings, .host, .rings, .place, .persist, .twin, .hinge, .lattice, .dram, .ecc, .cipher, .recorder]
  | .ringRegister .. | .ringUnregister .. | .ringRestart .. | .channelRetrain .. | .channelOffline .. | .channelReturn ..
  | .retireRank .. | .freezeChannel .. | .markDeviceBad .. | .portRetrain .. | .forwardResponse ..
    => [.out, .mem, .dict, .host, .rings, .place, .persist, .twin, .hinge, .lattice, .dram, .ecc, .cipher, .recorder]
  | .epochEnd .. | .counterFreeze .. | .counterRelease .. | .mapTransferEntries .. | .pointTimeout .. | .ack .. | .accept .. | .close ..
  | .connectTimeout .. => [.out, .mem, .host, .rings, .place, .persist, .twin, .hinge, .pool, .lattice, .dram, .ecc, .cipher, .recorder]
  | .porstRelease ..
    => [.settings, .host, .place, .persist, .twin, .hinge, .lattice, .dram, .ecc, .cipher, .steward, .sbox, .recorder, .power]
  | .portEnableWrite ..
    => [.out, .mem, .settings, .dict, .host, .rings, .place, .persist, .twin, .hinge, .lattice, .dram, .ecc, .cipher, .recorder]
  | .persistPoint .. | .volumeCreate .. | .volumeResize .. | .volumeDelete .. | .capacityShareChange .. | .manifestAdd ..
  | .manifestChangeAddresses .. | .manifestRemove .. | .directoryMapChange .. | .treeGather .. | .treeReady .. | .treeTick ..
  | .gatherTimeout .. | .closeGather .. | .readyWaveSend .. | .successionWaitExpiry .. | .treeArrive .. | .treeRelease ..
  | .treeBroadcast .. | .treeAnnounce .. | .treeDone .. | .treeAction .. | .treeResult .. | .pointPeriod ..
    => [.out, .mem, .dict, .host, .rings, .place, .persist, .twin, .hinge, .pool, .lattice, .dram, .ecc, .cipher, .recorder]
  | .wordScrub ..
    => [.out, .mem, .dict, .host, .rings, .place, .persist, .twin, .hinge, .lattice, .dram, .ecc, .cipher, .steward, .recorder]
  | .wrstRelease ..
    => [.mem, .settings, .host, .place, .persist, .twin, .hinge, .lattice, .dram, .ecc, .cipher, .steward, .sbox, .recorder, .power]
  | .poolStateApply .. | .treeState .. | .commit ..
    => [.out, .mem, .settings, .dict, .host, .rings, .place, .persist, .twin, .hinge, .pool, .lattice, .dram, .ecc, .cipher, .recorder]
  | .writebackVisit .. | .homeWriteComplete .. | .homeWriteFailed .. | .driveTimeout .. | .flushSnapshot .. | .restoreReadFailed ..
  | .poolPersistPoint .. | .nvmeLinkChange .. | .claimRecordWritten .. | .reservationComplete .. | .resumeDelayExpiry ..
    => [.out, .mem, .host, .rings, .place, .persist, .twin, .hinge, .pool, .lattice, .dram, .ecc, .cipher, .sbox, .recorder, .power]
  | .flagCellPulseDone .. | .driveOutOfService .. | .keyLoad .. | .keyErase .. | .startPhaseAdvance ..
    => [.out, .mem, .dict, .host, .rings, .place, .persist, .twin, .hinge, .pool, .lattice, .dram, .ecc, .cipher, .sbox, .recorder, .power]
  | .pfailAsserted .. | .powerGoodFall .. | .vmainUndervoltage ..
    => [.out, .mem, .host, .rings, .place, .persist, .twin, .hinge, .pool, .lattice, .dram, .ecc, .cipher, .steward, .sbox, .recorder, .power]
  | .dictWrite .. | .registerWrite .. | .dictWriteSegment .. | .imageLoad .. | .forwardRequest .. | .mgmtFrame .. | .dictionaryMessage ..
    => [.out, .mem, .settings, .dict, .host, .rings, .place, .persist, .twin, .hinge, .pool, .lattice, .dram, .ecc, .cipher, .steward, .sbox, .recorder, .power]
  | .vauxRise .. | .vauxLoss .. | .powerGoodRise .. | .porstAssert .. | .wrstAssert .. | .jtagReset .. | .deferredReset ..
  | .poolResetFire .. | .resetStartDelay ..
    => [.mem, .settings, .dict, .pace, .host, .rings, .place, .persist, .twin, .hinge, .pool, .lattice, .dram, .ecc, .cipher, .steward, .sbox, .recorder, .power]
  | .thermalSample ..
    => [.out, .mem, .settings, .dict, .pace, .host, .rings, .place, .persist, .twin, .hinge, .pool, .lattice, .dram, .ecc, .cipher, .steward, .sbox, .recorder, .power]

/-- The commands that carry lines for this device's DRAM from a peer, whose slot may lie outside the vault (log entry 93). -/
def carriesLines (c : Instr) : Bool :=
  match c with
  | .mirror .. | .chunk .. | .metaFrame .. => true
  | _ => false

end Sys2Proof.Claims

/-- A step runs the command at the front of the queue, on the device with the queue's rest. -/
def Obligations.StepRunsFrontCommand : Prop :=
  ∀ (s : State) (c : Instr) (rest : List Instr), step { s with pending := c :: rest } = exec c { s with pending := rest }

/-- The model's choice (log entry 2): with nothing waiting one nanosecond passes, and nothing else changes. -/
def Obligations.IdleStepPassesOneNanosecond : Prop :=
  ∀ (s : State), s.pending = [] → ∃ t, step s = .next t ∧ t.now = s.now + 1 ∧ t.pending = [] ∧ t.fresh = s.fresh ∧ ∀ p : Part, p.same s t

/-- The model's choice (log entries 1 and 2): no word spells a command, and each command is used up by its own step, which takes no time and takes free
values in order. -/
def Obligations.EveryStepUsesUpOneCommand : Prop :=
  (∀ (s t : State), step s = .next t → t.pending = s.pending.tail ∧ t.now = (if s.pending = [] then s.now + 1 else s.now) ∧ s.fresh ≤ t.fresh) ∧
  (∀ (s : State) (nbits w : Nat), Sys2Proof.decodeTableWord nbits w = none ∧ s.withFetchWord nbits w = s)

/-- R15, R22, R50, R56, R250, R505, R525, R527: what the spec gives the device right after the cold reset of VAUX rising. -/
def Obligations.ResetHoldsSpecValues : Prop :=
  State.reset.pending = [] ∧ State.reset.mem = [] ∧ State.reset.numbered = false ∧ State.reset.twin.state = 0 ∧ State.reset.power.cause = 1 ∧
  State.reset.poolTime = 0 ∧ State.reset.dict.slots = [] ∧ State.reset.hinge.conns = [] ∧ State.reset.place.tcache = [] ∧
  (∀ n, (getD State.reset.rec_.ctrs n {}).value = 0) ∧ (∀ n, (getD State.reset.cipher.slots n {}).state = 0) ∧
  (∀ idx sub, ¬(0x2210 ≤ idx ∧ idx ≤ 0x2213) → ¬(0x3410 ≤ idx ∧ idx ≤ 0x3429) → State.reset.setting idx sub = objDefault idx sub)

/-- Memory starts in its canonical form: addresses strictly rise, and no byte is listed with what an unlisted address reads as. -/
def Obligations.ResetMemoryIsCanonical : Prop := Memory.wf State.reset.mem = true

/-- Whatever a device does next, and whatever state it is in, memory keeps its canonical form: equal memories are equal data. -/
def Obligations.EveryStepKeepsMemoryCanonical : Prop :=
  ∀ (s t : State), Memory.wf s.mem = true → step s = .next t → Memory.wf t.mem = true

/-- The frame of every command, and that it completes: a command changes nothing of the device outside the parts listed for it, and neither the queue nor
the clock; and each ends in a next state, but one that carries lines for a slot outside the vault, which stops with that fault. -/
def Obligations.EveryCommandKeepsToItsParts : Prop :=
  (∀ (c : Instr) (s t : State), exec c s = .next t → OnlyChanges (touches c) s t) ∧
  (∀ (c : Instr) (s : State), carriesLines c = false → ∃ t, exec c s = .next t ∧ OnlyChanges (touches c) s t) ∧
  (∀ (c : Instr) (s : State), carriesLines c = true → (∃ t, exec c s = .next t) ∨ exec c s = .fault .slotOutsideVault)

/-- R13, R26, R104: a line written whole reads back with its poison, a slot made empty reads zero, a slot copied reads as its source did, and every
other line stays. -/
def Obligations.LinesReadBack : Prop :=
  (∀ (s : State) (ln : Nat) (v : Line) (p : Bool), Memory.wf s.mem = true → (s.putLine ln v p).line ln = v ∧ (s.putLine ln v p).linePoison ln = p) ∧
  (∀ (s : State) (ln m : Nat) (v : Line) (p : Bool), m ≠ ln → (s.putLine ln v p).line m = s.line m ∧ (s.putLine ln v p).linePoison m = s.linePoison m) ∧
  (∀ (s : State) (slot ln : Nat), lineSlot ln = slot → (s.zeroSlot slot).line ln = 0 ∧ (s.zeroSlot slot).linePoison ln = false) ∧
  (∀ (s : State) (slot ln : Nat), lineSlot ln ≠ slot → (s.zeroSlot slot).line ln = s.line ln ∧ (s.zeroSlot slot).linePoison ln = s.linePoison ln) ∧
  (∀ (s : State) (src dst i : Nat), Memory.wf s.mem = true → src ≠ dst → i < 32768 →
    (s.copySlot src dst).line (32768 * dst + i) = s.line (32768 * src + i) ∧ (s.copySlot src dst).linePoison (32768 * dst + i) = s.linePoison (32768 * src + i)) ∧
  (∀ (s : State) (src dst ln : Nat), Memory.wf s.mem = true → lineSlot ln ≠ dst →
    (s.copySlot src dst).line ln = s.line ln ∧ (s.copySlot src dst).linePoison ln = s.linePoison ln)

/-- R104: a write of a line is one unit, and changes its enabled bytes alone. -/
def Obligations.LineWritesMerge : Prop :=
  (∀ (s : State) (slot key off : Nat) (v : Line) (be : BitVec 64) (poison : Bool) (tag : Option (Nat × Nat)) (atomic : Option (Nat × Nat × Nat)) (write cause i : Nat),
    Memory.wf s.mem = true → i < 64 →
    Memory.read (s.applyLine slot key off v be poison tag atomic write cause).mem (64 * slotLine slot off + i) =
      if be.getLsbD i then v.extractLsb' (8 * i) 8 else Memory.read s.mem (64 * slotLine slot off + i)) ∧
  (∀ (s : State) (slot key off : Nat) (v : Line) (poison : Bool) (tag : Option (Nat × Nat)) (atomic : Option (Nat × Nat × Nat)) (write cause : Nat),
    Memory.wf s.mem = true → (s.applyLine slot key off v (BitVec.allOnes 64) poison tag atomic write cause).line (slotLine slot off) = v) ∧
  (∀ (s t : State) (slot key off : Nat) (v w : Line) (be ce : BitVec 64) (tag tag' : Option (Nat × Nat)) (write write' cause cause' i : Nat),
    Memory.wf s.mem = true → be &&& ce = 0 → i < 64 → be.getLsbD i = true →
    t = (s.applyLine slot key off v be false tag none write cause).applyLine slot key off w ce false tag' none write' cause' →
    Memory.read t.mem (64 * slotLine slot off + i) = v.extractLsb' (8 * i) 8)

/-- The bytes a command stores to, by the address its meaning computes: every byte of memory outside them reads as before (R103, R180, R186, R206, R218, R274). -/
def Obligations.StoresKeepOtherBytes : Prop :=
  (∀ (s : State) (slot key off : Nat) (v : Line) (be : BitVec 64) (poison : Bool) (tag : Option (Nat × Nat)) (atomic : Option (Nat × Nat × Nat)) (write cause a : Nat),
    (a < 64 * slotLine slot off ∨ 64 * slotLine slot off + 64 ≤ a) →
    Memory.read (s.applyLine slot key off v be poison tag atomic write cause).mem a = Memory.read s.mem a) ∧
  (∀ (s : State) (ln : Nat) (v : Line) (be : BitVec 64) (poison : Bool) (a : Nat), (a < 64 * ln ∨ 64 * ln + 64 ≤ a) →
    Memory.read (s.mirrorLine ln v be poison).mem a = Memory.read s.mem a) ∧
  (∀ (s : State) (g : Nat) (b : Bytes) (bad : List Nat) (a : Nat), (a < 64 * granLine g ∨ 64 * (granLine g + 64) ≤ a) →
    Memory.read (s.putGranule g b bad).mem a = Memory.read s.mem a) ∧
  (∀ (s u t : State) (h : Hdr) (c : ChunkSub) (lines : List Line) (a : Nat), Got s h (.chunk c lines []) u → exec (.chunk h c lines) s = .next t →
    (a < 64 * slotLine c.slot (64 * c.line) ∨ 64 * (slotLine c.slot (64 * c.line) + lines.length) ≤ a) → Memory.read t.mem a = Memory.read u.mem a) ∧
  (∀ (s u t : State) (h : Hdr) (part off : Nat) (lines : List Line) (upds : List MetaUpd) (a : Nat), Got s h (.metaArea part off lines upds) u → exec (.metaFrame h part off (lines, upds)) s = .next t →
    (∀ e ∈ upds, ∀ n sp, e ≠ .slot n none sp) →
    (a < 64 * (32768 * (u.extents - metaExtents u.extents) + off) ∨ 64 * (32768 * (u.extents - metaExtents u.extents) + off + lines.length) ≤ a) →
    Memory.read t.mem a = Memory.read u.mem a)

/-- R324: the rank of a listed device. -/
def Obligations.RanksNumberListedDevices : Prop :=
  (∀ (s : State) (d : Nat), s.rankAt d = (s.devices.filter (fun e => e < d)).length) ∧
  (∀ (s : State) (d : Nat), d ∈ s.devices → s.rankAt d < s.listedCount) ∧
  (∀ (s : State) (r : Nat), s.devices.Nodup → r < s.listedCount → ∃ d ∈ s.devices, s.rankAt d = r)

/-- R172: the hash of extent keys and affinity groups, with the CRC-32C of R141 run a bit at a time. -/
def Obligations.ExtentKeysHash : Prop :=
  (∀ (key : Nat), keyHash key = crc32cOf (leBytes 5 key) ∧ keyHash key < 2 ^ 32) ∧
  (∀ (key : Nat), key < 2 ^ 39 → (BitVec.ofNat 40 key).getLsbD 39 = false) ∧
  (∀ (key : Nat), mapIndex key = keyHash key % 2 ^ 12 ∧ cacheSet key = keyHash key / 2 ^ 12 % 2 ^ 15) ∧
  (∀ (g : Nat), g < 2 ^ 39 → groupKey g = g ||| (1 <<< 39)) ∧
  (∀ (s : State) (key : Nat), s.dirVault key = getD s.pool.dirMap (mapIndex key) 0)

/-- R51: four requests outstanding are the most a requester has; the fifth is refused, and each response goes to its requester alone. -/
def Obligations.FifthRequestIsBusy : Prop :=
  (∀ (s u : State) (rq : Req) (m : DictMsg), s.answers rq = true → msgWhole rq m = true → msgForm m = true → 4 ≤ (s.touch rq).outstandingOf rq →
    u = (if presents m = true ∧ m.fwd = false then (s.touch rq).raise 6 0 (reqBytes rq ++ leBytes 2 (s.touch rq).dict.fails) else s.touch rq) →
    ∃ t, t = u.respond rq (refuse m St.busy) ∧ (refuse m St.busy).tag = m.tag ∧ exec (.dictRead rq m) s = .next t ∧ exec (.dictWrite rq m) s = .next t ∧
      exec (.dictReadSegment rq m) s = .next t ∧ exec (.dictWriteSegment rq m) s = .next t ∧ exec (.dictAbortTransfer rq m) s = .next t ∧
      exec (.dictDescribe rq m) s = .next t ∧ exec (.dictEnumerate rq m) s = .next t) ∧
  (∀ (s : State) (rq : Req) (tag idx sub ty : Nat) (b : Bytes) (act : State → State × Nat), 4 ≤ (s.touch rq).outstandingOf rq →
    s.writeObj rq tag idx sub ty b act = (s.touch rq).respond rq (writeResp tag idx sub St.busy) ∧ (writeResp tag idx sub St.busy).tag = tag) ∧
  (∀ (s : State) (eid : Nat) (r : DictResp), (.mctp .jtag eid, r.tag) ∉ s.dict.segTags →
    s.respond (.mctp .jtag eid) r = s.emit (.dict (.mctp .jtag eid) (sealResp r))) ∧
  (∀ (s : State) (p : Path) (eid : Nat) (r : DictResp), p = .i3c0 ∨ p = .i3c1 → (.mctp p eid, r.tag) ∉ s.dict.segTags →
    s.respond (.mctp p eid) r = (s.emit (.inBand p)).emit (.dict (.mctp p eid) (sealResp r))) ∧
  (∀ (s : State) (p l : Nat) (r : DictResp), (.ld p l, r.tag) ∉ s.dict.segTags →
    s.respond (.ld p l) r = (s.emit (.mailbox p l 0xC5A0 0 (respWords (sealResp r)))).msix p l 0) ∧
  (∀ (s : State) (dev slot : Nat) (r : DictResp), (.fwd dev slot, r.tag) ∉ s.dict.segTags →
    s.respond (.fwd dev slot) r = s.send dev (.mgmtResp { dev := dev, slot := slot, level := 0 } (sealResp r)))

/-- R508: a preset sets a counter at once and leaves its overflow flag; what is counted next is counted from the new value. -/
def Obligations.PresetSetsACounter : Prop :=
  (∀ (s : State) (rq : Req) (tag n v : Nat), MayPut s rq (0xB000 + n) 7 8 v →
    ∃ t, exec (.counterPreset rq tag n v) s = .next (t.respond rq (writeResp tag (0xB000 + n) 7 St.ok)) ∧ OnlyChanges [.recorder] (s.touch rq) t ∧
      (getD t.rec_.ctrs n {}).value = v ∧ (getD t.rec_.ctrs n {}).ovf = (getD s.rec_.ctrs n {}).ovf ∧
      (∀ m, m ≠ n → getD t.rec_.ctrs m {} = getD s.rec_.ctrs m {}) ∧
      (∀ k, t.frozen n = false → v + k < 2 ^ 48 → (getD (t.advance n k 7).1.rec_.ctrs n {}).value = v + k)) ∧
  (∀ (s : State) (rq : Req) (tag n v : Nat), n < 1024 → 2 ^ 48 ≤ v → v < 2 ^ 64 → (s.touch rq).level rq ≠ 0 → (s.touch rq).outstandingOf rq < 4 →
    exec (.counterPreset rq tag n v) s = .next ((s.touch rq).respond rq (writeResp tag (0xB000 + n) 7 St.badRange)))

namespace Sys2Proof.Claims

/-- A frame passes the checks of R294 that come before its place in its sequence: whole, to this device, its header in order, from a listed device, and where
it is sealed, by the connection's key. -/
def Passes (s : State) (h : Hdr) (b : FBody) : Prop :=
  h.fcsOk = true ∧ h.addrOk = true ∧ headPasses h b = true ∧ s.numbered = true ∧ h.dst = s.pool.number ∧ s.listed h.src = true ∧
    (h.enc = true → s.tagPasses h b = true ∧ (1, h.dport, h.seq) ∉ s.cipher.lost)

/-- A frame that is delivered is counted, and its lines where they are deciphered. -/
def counted (s : State) (h : Hdr) (b : FBody) : State :=
  ((if h.enc then (s.count 450 1).count 449 (64 * bodyLines b) else s).countFor (193 + 8 * h.dport) 1 { cls := bodyClass b, src := 8 + h.dport }).count
    (195 + 8 * h.dport) (bodyBytes b + (if h.enc then 16 else 0))

end Sys2Proof.Claims

/-- R244, R246, R268, R292, R294, R300: which frames are delivered, and which are refused. -/
def Obligations.FramesAreDeliveredInOrder : Prop :=
  (∀ (s : State) (h : Hdr) (b : FBody) (vc : Nat) (c : Conn), Passes s h b → bodyVc b = (vc, true) → s.connFor h = some c → c.state = 2 → h.src ≠ 0xFFFF →
    (h.seq = (c.chan vc).nextRx → h.claim = s.claimOf (h.src / 2) → Got s h b ((counted s h b).seqTake h vc)) ∧
    (h.seq = (c.chan vc).nextRx → vc < 3 → h.claim < s.claimOf (h.src / 2) →
      s.rx h b false = (((s.raise 107 0 (leBytes 2 h.src ++ leBytes 8 h.claim ++ leBytes 8 (s.claimOf (h.src / 2)))).count 495 1).send h.src
          (.claim (h.src / 2) (s.claimOf (h.src / 2))), false)) ∧
    (h.seq ≠ (c.chan vc).nextRx → seqBefore h.seq (c.chan vc).nextRx = true →
      s.rx h b false = ((s.count (197 + 8 * h.dport) 1).sendAck h.src h.dport, false)) ∧
    (h.seq ≠ (c.chan vc).nextRx → seqBefore h.seq (c.chan vc).nextRx = false → (c.chan vc).nakAt = none →
      s.rx h b false = (((s.count (197 + 8 * h.dport) 1).putConn (c.modChan vc (fun k => { k with nakAt := some s.now }))).putFrame {
        peer := h.src, port := h.dport, vc := 3, body := .nak vc (c.chan vc).nextRx }, false))) ∧
  (∀ (s : State) (h : Hdr) (b : FBody), Passes s h b → bodyVc b = (3, false) → h.src ≠ 0xFFFF → h.claim = s.claimOf (h.src / 2) → Got s h b (counted s h b)) ∧
  (∀ (s : State) (h : Hdr) (b : FBody), h.fcsOk = false → s.rx h b false = (s.count (197 + 8 * h.dport) 1, false)) ∧
  (∀ (s : State) (h : Hdr) (b : FBody), h.fcsOk = true → h.addrOk = false → s.rx h b false = (s, false)) ∧
  (∀ (s : State) (h : Hdr) (b : FBody), h.fcsOk = true → h.addrOk = true → headPasses h b = false →
    s.rx h b false = ((s.count (197 + 8 * h.dport) 1).headerEvent h.dport 0 h.src (bodyType b), false)) ∧
  (∀ (s : State) (h : Hdr) (b : FBody), h.fcsOk = true → h.addrOk = true → headPasses h b = true → s.listed h.src = false → s.rx h b false = (s, false)) ∧
  (∀ (s : State) (h : Hdr) (b : FBody), h.fcsOk = true → h.addrOk = true → headPasses h b = true → s.numbered = true → h.dst = s.pool.number → s.listed h.src = true →
    h.enc = true → s.tagPasses h b = false → s.rx h b false = (s.tagFailure h.src h.dport (bodyType b), false))

/-- R69, R71, R73: what answers a read, its next segment, an abort, a description and an enumeration. -/
def Obligations.DictionaryReadsAnswer : Prop :=
  (∀ (s : State) (rq : Req) (m : DictMsg), Served s rq m → m.opcode = 1 → (s.touch rq).readFails rq m.index m.sub = [] →
    m.type = 0 → (s.touch rq).ecc.deadObjs.contains (okey m.index m.sub) = false →
    ((s.touch rq).valueFor rq m).length ≤ 1024 →
    ∃ t, exec (.dictRead rq m) s = .next t ∧
      t = (if freeRead m.index m.sub then (s.touch rq).tick else s.touch rq).respond rq
        { opcode := 1, tag := m.tag, index := m.index, sub := m.sub, status := St.ok, type := if m.sub = 0 then 2 else tyCode m.index m.sub,
          total := ((s.touch rq).valueFor rq m).length, value := (s.touch rq).valueFor rq m }) ∧
  (∀ (s : State) (rq : Req) (m : DictMsg) (x : Xfer), Served s rq m → m.opcode = 3 → (s.touch rq).xferOf rq m.tag false = some x →
    m.offset = x.next → x.next + 1024 < x.total →
    exec (.dictReadSegment rq m) s = .next (((s.touch rq).putXfer { x with prev := x.next, next := x.next + 1024, lastUse := s.now }).respond rq
      (valueResp m x.type x.next x.total ((x.data.drop x.next).take 1024)))) ∧
  (∀ (s : State) (rq : Req) (m : DictMsg), Served s rq m → m.opcode = 5 →
    exec (.dictAbortTransfer rq m) s = .next (((s.touch rq).closeXfer rq m.tag).respond rq (refuse m St.ok))) ∧
  (∀ (s : State) (rq : Req) (m : DictMsg) (b : Bytes), Served s rq m → m.opcode = 6 → describe m.index m.sub = some b →
    exec (.dictDescribe rq m) s = .next ((s.touch rq).respond rq (valueResp m 9 0 b.length b))) ∧
  (∀ (s : State) (rq : Req) (m : DictMsg) (i : Nat), Served s rq m → m.opcode = 7 → nextIndex m.index = some i →
    exec (.dictEnumerate rq m) s = .next ((s.touch rq).respond rq (valueResp m 9 0 3 (leBytes 2 i ++ leBytes 1 (idxTop i))))) ∧
  (∀ (s : State) (rq : Req) (tag : Nat) (x : Xfer), x ∈ s.dict.xfers → x.rq = rq → x.tag = tag →
    x.lastUse + s.setting 0x1F20 2 ≤ s.now →
    exec (.transferIdleTimeout rq tag) s = .next (s.closeXfer rq tag))

/-- R46, R47, R52, R72: what a write of an object does: staged where it waits for a commit, kept where it takes effect at once,
gathered where it comes in segments. -/
def Obligations.DictionaryWritesAct : Prop :=
  (∀ (s : State) (rq : Req) (m : DictMsg) (o : Obj), Served s rq m → m.opcode = 2 → m.index ≠ 0x1F00 → m.index ≠ 0x1F10 →
    objFind m.index m.sub = some o → o.acc = .rwc → (s.touch rq).writeFails rq m.index m.sub m.type m.value = [] →
    (s.touch rq).ruleFails m.index m.sub m.value = [] →
    exec (.dictWrite rq m) s = .next (((s.touch rq).stage rq (okey m.index m.sub) m.value).1.respond rq
      (refuse m ((s.touch rq).stage rq (okey m.index m.sub) m.value).2))) ∧
  (∀ (s : State) (rq : Req) (m : DictMsg) (o : Obj), Served s rq m → m.opcode = 2 → m.index ≠ 0x1F00 → m.index ≠ 0x1F10 →
    objFind m.index m.sub = some o → o.acc ≠ .rwc → (s.touch rq).writeFails rq m.index m.sub m.type m.value = [] →
    (s.touch rq).ruleFails m.index m.sub m.value = [] → (s.touch rq).rowWrite rq m.tag m.index m.sub m.value = none →
    exec (.registerWrite rq m) s = .next (((s.touch rq).plainWrite rq m.index m.sub m.value).1.respond rq
      (refuse m ((s.touch rq).plainWrite rq m.index m.sub m.value).2))) ∧
  (∀ (s : State) (rq : Req) (m : DictMsg) (x : Xfer), Served s rq m → m.opcode = 4 → (s.touch rq).xferOf rq m.tag true = some x →
    m.offset = x.next → m.total = x.total → m.more = true → m.offset + m.value.length < x.total → x.key ≠ okey 0x3820 1 →
    exec (.dictWriteSegment rq m) s = .next ((((s.touch rq).putXfer { x with
      data := x.data ++ m.value, prev := x.next, next := x.next + m.value.length, lastUse := s.now }).respond rq (refuse m St.ok)).tick.tick.tick.tick)) ∧
  (∀ (s : State) (rq : Req) (m : DictMsg) (x : Xfer) (checksOk programOk : Bool) (version interface size : Nat), Served s rq m →
    m.opcode = 4 → (s.touch rq).xferOf rq m.tag true = some x → x.key = okey 0x3820 1 → m.offset = x.next → m.total = x.total →
    m.more = false → m.offset + m.value.length = x.total →
    exec (.imageLoad rq m checksOk programOk version interface size) s =
      .next ((((s.touch rq).modDict (fun d => { d with xfers := d.xfers.filter (fun y => !(y.rq == rq && y.tag == m.tag)) })).imageEnd
        checksOk programOk version interface size).1.respond rq
        (refuse m (((s.touch rq).modDict (fun d => { d with xfers := d.xfers.filter (fun y => !(y.rq == rq && y.tag == m.tag)) })).imageEnd
          checksOk programOk version interface size).2))) ∧
  (∀ (s : State) (rq : Req) (tag n : Nat) (set : List (Nat × Bytes)), (s.touch rq).outstandingOf rq < 4 → (s.touch rq).slotOf rq = some n →
    ((s.touch rq).requester rq).map Requester.staged = some set → set ≠ [] → commitStatus ((s.touch rq).commitFails rq set) = (St.ok, 0) →
    (∀ e ∈ (((s.touch rq).commitDone n St.ok 0).applySet rq tag set).host.sess, (rq, tag) ∉ e.2.waiter) →
    exec (.commit rq tag) s = .next ((((s.touch rq).commitDone n St.ok 0).applySet rq tag set).respond rq (writeResp tag 0x1F00 1 St.ok))) ∧
  (∀ (s : State) (rq : Req) (tag n : Nat), MayPut s rq 0x1F00 1 1 2 → (s.touch rq).slotOf rq = some n →
    exec (.discardStaged rq tag) s =
      .next (((s.touch rq).modSlot n (fun r => { r with staged := [] })).respond rq (writeResp tag 0x1F00 1 St.ok))) ∧
  (∀ (s : State) (n : Nat) (r : Requester), assoc s.dict.slots n = some r → r.staged ≠ [] → r.stageAt + s.setting 0x1F00 7 ≤ s.now →
    exec (.stageTimeout n) s = .next ((s.modSlot n (fun r => { r with staged := [] })).raise 8 0 (reqBytes r.rq ++ leBytes 2 r.staged.length))) ∧
  (∀ (s : State) (n : Nat) (r : Requester), assoc s.dict.slots n = some r → s.slotInUse n r = false → r.lastUse + s.setting 0x1F00 7 ≤ s.now →
    exec (.requesterSlotTimeout n) s = .next (s.freeSlotOf n))

/-- R54 to R58, R62 to R64: saved sets, resets asked for, grants and the password. -/
def Obligations.SavesResetsAndGrants : Prop :=
  (∀ (s : State) (rq : Req) (tag : Nat), MayPut s rq 0x1F00 2 1 1 → s.dict.saving = none → s.sbox.flushHold = false →
    ∃ t u, exec (.save rq tag) s = .next t ∧ t = u.respond rq (writeResp tag 0x1F00 2 St.ok) ∧ OnlyChanges [.dict] s u ∧
      u.dict.saveState = St.busy ∧
      u.dict.saving = some (((s.dict.newest.map SavedSet.gen).getD 0) + 1, s.settings.filter (fun e =>
        match objFind (e.1 / 256) (e.1 % 256) with
        | some o => (o.acc == .rws || o.acc == .rwc) && !poolState e.1
        | none => false))) ∧
  (∀ (s : State) (gen : Nat) (l : List (Nat × Nat)), s.dict.saving = some (gen, l) →
    ∃ t, exec (.saveComplete true) s = .next t ∧ OnlyChanges [.dict] s t ∧ t.dict.saving = none ∧ t.dict.saveState = St.ok ∧
      ((t.dict.savedA = { valid := true, gen := gen, entries := l } ∧ t.dict.savedB = s.dict.savedB) ∨
       (t.dict.savedB = { valid := true, gen := gen, entries := l } ∧ t.dict.savedA = s.dict.savedA ∧ s.dict.savedA.valid = true))) ∧
  (∀ (s : State) (gen : Nat) (l : List (Nat × Nat)), s.dict.saving = some (gen, l) →
    ∃ t, exec (.saveComplete false) s = .next t ∧ OnlyChanges [.dict, .recorder] s t ∧ t.dict.saving = none ∧ t.dict.saveState = St.programFail) ∧
  (∀ (s : State) (rq : Req) (tag : Nat), MayPut s rq 0x1F00 3 1 1 → s.dict.saving = none → s.sbox.flushHold = false →
    exec (.restoreDefaults rq tag) s = .next (((s.touch rq).modDict (fun d => d.putSet
      { valid := true, gen := (((s.touch rq).dict.newest.map SavedSet.gen).getD 0) + 1 })).respond rq (writeResp tag 0x1F00 3 St.ok))) ∧
  (∀ (s : State) (rq : Req) (tag : Nat), MayPut s rq 0x1F00 4 1 1 → s.power.evac = false → (s.touch rq).dict.resetReq = none →
    exec (.resetWarm rq tag) s = .next (((s.touch rq).modDict (fun d => { d with resetReq := some (false, s.now + 10000000) })).respond rq
      (writeResp tag 0x1F00 4 St.ok))) ∧
  (∀ (s : State) (rq : Req) (tag : Nat), MayPut s rq 0x1F00 4 1 2 → (s.touch rq).dict.resetReq = none →
    exec (.resetCold rq tag) s = .next (((s.touch rq).modDict (fun d => { d with resetReq := some (true, s.now + 10000000) })).respond rq
      (writeResp tag 0x1F00 4 St.ok))) ∧
  (∀ (s : State) (cold : Bool) (at_ : Nat), s.dict.resetReq = some (cold, at_) → at_ ≤ s.now → s.persist.state ≠ 3 →
    exec .resetStartDelay s = .next (((s.modDict (fun d => { d with resetReq := none })).modRec recFlush).enterReset cold (if cold then 5 else 4))) ∧
  (∀ (s : State) (rq : Req) (tag n : Nat) (pw : Bytes), MayWrite s rq 0x1F10 1 pw → s.slotOf rq = some n → s.dict.refuseUntil ≤ s.now →
    (if s.dict.pwSet then Config.pwHash s.dict.pwSalt (fromLe pw) = s.dict.pwHash else fromLe pw = 0) →
    ∃ t, exec (.presentPassword rq tag pw) s = .next t ∧
      t = ((((s.touch rq).touch rq).modDict (fun d => { d with fails := 0 })).modSlot n (fun r => { r with grant := true })).respond rq
        (writeResp tag 0x1F10 1 St.ok)) ∧
  (∀ (s : State), s.dict.refuseUntil ≤ s.now →
    exec .presentationRefusalEnd s = .next (s.modDict (fun d => { d with refuseUntil := 0 }))) ∧
  (∀ (s : State) (rq : Req) (tag n : Nat), MayPut s rq 0x1F10 3 1 1 → (s.touch rq).slotOf rq = some n →
    exec (.ownerLock rq tag) s = .next (((s.touch rq).modSlot n (fun r => { r with grant := false })).respond rq (writeResp tag 0x1F10 3 St.ok))) ∧
  (∀ (s : State) (n : Nat) (r : Requester), assoc s.dict.slots n = some r → r.grant = true → r.lastUse + s.setting 0x1F10 7 ≤ s.now →
    exec (.elevationTimeout n) s = .next (s.modSlot n (fun r => { r with grant := false }))) ∧
  (∀ (s : State) (rq : Req) (tag : Nat) (pw : Bytes), MayWrite s rq 0x1F10 2 pw →
    exec (.newPassword rq tag pw) s = .next (((s.touch rq).tick.handToRoot
      (.password (Config.pwSalt s.fresh) (Config.pwHash (Config.pwSalt s.fresh) (fromLe pw)) (fromLe pw == 0)) none).respond rq
      (writeResp tag 0x1F10 2 St.ok)))

/-- R65, R66: MCTP control on a path the device answers on. -/
def Obligations.MctpControlAnswers : Prop :=
  (∀ (s : State) (p : Path) (eid : Nat), s.mctpPath p = true → 1 ≤ eid → eid ≤ 254 →
    ∃ t, exec (.setEndpointId p eid) s = .next t ∧ OnlyChanges [.dict, .out] s t ∧ assoc t.dict.eids (pathNum p) = some eid ∧
      t.out = s.out ++ [.mctp p 1 [0, Config.standardField 0xFF01 0, eid, 0]]) ∧
  (∀ (s : State) (p : Path), s.mctpPath p = true →
    (∃ t, exec (.getEndpointId p) s = .next t ∧ OnlyChanges [.out] s t ∧
      t.out = s.out ++ [.mctp p 2 [0, getD s.dict.eids (pathNum p) 0, Config.standardField 0xFF02 0, Config.standardField 0xFF02 1]]) ∧
    (∃ t, exec (.getEndpointUuid p) s = .next t ∧ OnlyChanges [.out] s t ∧ t.out = s.out ++ [.mctp p 3 [0, Config.endpointUuid]]) ∧
    (∃ t, exec (.getMctpVersionSupport p) s = .next t ∧ OnlyChanges [.out] s t ∧
      t.out = s.out ++ [.mctp p 4 [0, Config.standardField 0xFF04 0, Config.standardField 0xFF04 1]]) ∧
    (∃ t, exec (.getMessageTypeSupport p) s = .next t ∧ OnlyChanges [.out] s t ∧ t.out = s.out ++ [.mctp p 5 [0, 2, 0, 0x7F]]) ∧
    (∃ t, exec (.getVendorDefinedMessageSupport p) s = .next t ∧ OnlyChanges [.out] s t ∧
      t.out = s.out ++ [.mctp p 6 [0, 0xFF, 1, 0x0001C7A5, Config.standardField 0xFF06 0]])) ∧
  (∀ (s : State) (port addr : Nat), ∃ t, exec (.i3cDynamicAddress port addr) s = .next t ∧ OnlyChanges [.dict] s t ∧
    assoc t.dict.i3c port = some addr) ∧
  (∀ (s : State) (take : Bool), ∃ t, exec (.jtagFactoryAccess take) s = .next t ∧ OnlyChanges [.dict, .recorder] s t ∧ t.dict.jtag = take)

/-- R74 to R76, R118: a request forwarded, its answer, its time limit, and a request served at its target. -/
def Obligations.ForwardingCarriesRequests : Prop :=
  (∀ (s u : State) (rq : Req) (m : DictMsg) (n : Nat), s.answers rq = true → msgWhole rq m = true → msgForm m = true → (s.touch rq).outstandingOf rq < 4 →
    m.fwd = true → m.target ≠ 0xFFFF → m.target ≠ s.pool.number → s.numbered = true → s.listed m.target = true →
    (s.touch rq).takeReqSlot rq = some (u, n) →
    exec (.forwardRequest rq m) s = .next ((awaits u n m).send m.target
      (.mgmtReq { dev := u.pool.number, slot := n, level := min ((awaits u n m).level rq) 1 } m))) ∧
  (∀ (s u : State) (h : Hdr) (pre : FwdPrefix) (r : DictResp) (f : Fwd) (q : Requester),
    Got s h (.mgmtResp pre r) u →
    u.dict.fwds.find? (fun f => pre.dev == u.pool.number && f.slot == pre.slot && f.tag == r.tag && f.target == h.src) = some f →
    assoc u.dict.slots f.slot = some q →
    exec (.forwardResponse h pre r) s = .next ((u.modDict (fun d => { d with fwds := d.fwds.erase f })).respond q.rq { r with status := recvSt r.status })) ∧
  (∀ (s : State) (slot tag : Nat) (f : Fwd) (q : Requester),
    s.dict.fwds.find? (fun f => f.slot == slot && f.tag == tag && s.elapsed f.since (s.setting 0x1F20 1)) = some f →
    assoc s.dict.slots slot = some q →
    exec (.forwardTimeout slot tag) s = .next ((s.modDict (fun d => { d with fwds := d.fwds.erase f })).respond q.rq (refuse f.msg St.timeout))) ∧
  (∀ (s u : State) (h : Hdr) (pre : FwdPrefix) (m : DictMsg), Got s h (.mgmtReq pre m) u → pre.slot ≠ ownSlot →
    crcPasses m = true → msgForm m = true → m.target = u.pool.number → m.fwd = true →
    exec (.mgmtFrame h pre m) s = .next ((u.modDict (fun d => { d with
      fwdLevel := insertKey (fwdKey pre.dev pre.slot) (min pre.level 1) d.fwdLevel })).serveMsg (.fwd pre.dev pre.slot) { m with fwd := false })) ∧
  (∀ (s : State) (p ld : Nat) (m : DictMsg), s.ldThere p ld = true → crcPasses m = true →
    exec (.dictionaryMessage p ld m) s = .next (s.serveMsg (.ld p ld) m)) ∧
  (∀ (s : State) (p ld : Nat) (m : DictMsg), s.ldThere p ld = true → crcPasses m = false →
    exec (.dictionaryMessage p ld m) s = .next ((s.discardMsg (.ld p ld) m).mbox p ld 0xC5A0 Ret.input []))

/-- R81, R350, R351, R519, R530, R536, R540: pace, the core voltage, the power limit and heat. -/
def Obligations.PaceVoltageAndHeat : Prop :=
  (∀ (s : State) (v w : List Nat), ∃ t, exec (.paceWindow v w) s = .next t ∧ OnlyChanges [.pace, .recorder] s t ∧
    t.pace.vault = dieIndex v ∧ t.pace.steward = dieIndex w ∧ t.pace.volt = s.pace.volt ∧
    (s.pace.hist.length < 1000 → t.pace.hist = s.pace.hist ++ [min (dieIndex v) (dieIndex w)])) ∧
  (∀ (s : State) (since : Nat), s.pace.below = some since → since + 10000000 ≤ s.now → s.pace.volt = 880 → s.pace.held = true →
    ∃ t, exec .paceTargetMissed s = .next t ∧ OnlyChanges [.pace, .recorder] s t ∧ t.pace = { s.pace with held := false }) ∧
  (∀ (s : State), s.pace.stepAt + 50000 ≤ s.now → s.power.regFault = false →
    ∃ t, exec .voltageStep s = .next t ∧ OnlyChanges [.pace] s t ∧
      (s.power.limiting = true → t.pace.volt = max (s.pace.volt - 5) 620) ∧
      (s.power.limiting = false → s.power.temp < toInt 32 (s.setting 0x3C30 4) → s.power.temp < 105000 →
        (s.power.throttling = true → t.pace.volt = s.pace.volt) ∧
        (s.power.throttling = false → s.pace.index < s.setting 0x1010 2 → t.pace.volt = min (s.pace.volt + 5) 880))) ∧
  (∀ (s : State) (watts : Nat), ∃ t, exec (.powerLimitCheck watts) s = .next t ∧ OnlyChanges [.pace, .recorder, .power] s t ∧
    t.power = { s.power with watts := watts, limiting := decide (s.setting 0x3C00 3 < watts) }) ∧
  (∀ (s : State) (mv : Nat), mv + 25 < s.pace.volt ∨ s.pace.volt + 25 < mv →
    ∃ t, exec (.regulatorFault mv) s = .next t ∧ OnlyChanges [.pace, .recorder, .power] s t ∧ t.pace = { s.pace with volt := 880 } ∧
      t.power = { s.power with regFault := true }) ∧
  (∀ (s : State) (v w : List Int) (a b : Int), v.foldl max (v.headD 0) = a → w.foldl max (w.headD 0) = b → max a b < toInt 32 (s.setting 0x3C30 4) - 5000 →
    max a b < 110000 → s.power.evac = false → s.power.vaux = true → s.power.inReset = false →
    ∃ t, exec (.thermalSample v w) s = .next t ∧ OnlyChanges [.recorder, .power] s t ∧ t.power.tempV = a ∧ t.power.tempS = b ∧
      t.power.temp = max a b ∧ t.power.highest = max s.power.highest (max a b) ∧ t.power.throttling = false ∧ t.power.hotSince = none) ∧
  (∀ (s : State) (v w : List Int), 120000 ≤ max (v.foldl max (v.headD 0)) (w.foldl max (w.headD 0)) → s.power.tripped = false →
    s.power.vaux = true → s.power.inReset = false → ∃ t, exec (.thermalSample v w) s = .next t ∧ t.power.tripped = true ∧ t.power.state = 1 ∧ t.power.cause = 9)

/-- R233, R518, R521 to R524, R540: PFAIL_N and the rails. -/
def Obligations.PowerInputs : Prop :=
  (∀ (s : State), s.power.pfail = 0 → (s.power.recent.filter (fun t => decide (s.now < t + 1000000000))).length < 8 →
    exec .pfailAsserted s = .next (((s.modPower (fun p => { p with
      pfail := 1
      asserts := satAdd p.asserts 1 0xFFFFFFFF
      recent := s.power.recent.filter (fun t => decide (s.now < t + 1000000000)) ++ [s.now]
      deassertAt := none
      highAt := none })).pfailEvent 1).failing)) ∧
  (∀ (s : State), s.power.pfail = 0 → 8 ≤ (s.power.recent.filter (fun t => decide (s.now < t + 1000000000))).length → s.persist.state ≠ 4 →
    exec .pfailAsserted s = .next (((s.modPower (fun p => { p with
      pfail := 2
      asserts := satAdd p.asserts 1 0xFFFFFFFF
      recent := s.power.recent.filter (fun t => decide (s.now < t + 1000000000)) ++ [s.now]
      deassertAt := none
      highAt := none })).pfailEvent 2).failing)) ∧
  (∀ (s : State), s.power.pfail = 2 →
    ∃ t, exec .pfailAsserted s = .next t ∧ OnlyChanges [.power] s t ∧ t.power = { s.power with highAt := none }) ∧
  (∀ (s : State), s.power.pfail = 1 →
    ∃ t, exec .pfailDeasserted s = .next t ∧ OnlyChanges [.power] s t ∧
      t.power = { s.power with pfail := 0, deassertAt := some s.now, highAt := some (s.power.highAt.getD s.now) }) ∧
  (∀ (s : State), s.power.pfail = 2 →
    ∃ t, exec .pfailDeasserted s = .next t ∧ OnlyChanges [.power] s t ∧ t.power = { s.power with highAt := some (s.power.highAt.getD s.now) }) ∧
  (∀ (s : State) (high : Nat), s.power.pfail = 2 → s.power.highAt = some high → max high (maxOf s.power.recent 0) + s.setting 0x3C10 3 ≤ s.now →
    ∃ t, exec .unsteadyRelease s = .next t ∧ OnlyChanges [.power] s t ∧
      t.power = { s.power with pfail := 0, recent := [], deassertAt := some s.now }) ∧
  (∀ (s : State) (at_ : Nat), s.power.deassertAt = some at_ → s.power.pfail = 0 → s.power.good = true → at_ + s.setting 0x3300 0x0A ≤ s.now →
    s.persist.state = 4 → s.persist.standbyFlush = false →
    exec .resumeDelayExpiry s = .next ((s.modPower (fun p => { p with deassertAt := none, reminded := none })).resumeService)) ∧
  (∀ (s : State) (at_ : Nat), s.power.reminded = some at_ → s.power.pfail ≠ 0 → at_ + 60000000000 ≤ s.now →
    exec .pfailStartReminder s = .next ((s.modPower (fun p => { p with reminded := some s.now })).pfailEvent 3)) ∧
  (∀ (s : State), s.power.vaux = false →
    exec .vauxRise s = .next ((s.enterReset true 1).modPower (fun p => { p with vaux := true, vauxMv := 3300, state := 1, cause := 1 }))) ∧
  (∀ (s : State), s.power.vaux = true →
    ∃ t, exec .vauxLoss s = .next t ∧ t.power.state = 0 ∧ t.power.vaux = false ∧ t.power.vauxMv = 0 ∧ t.power.pfail = 1 ∧ t.dict.jtag = false ∧
      (s.power.inReset = false → t.mem = [])) ∧
  (∀ (s : State) (mv : Nat), mv < 3135 ∨ 3465 < mv →
    ∃ t, exec (.vauxOutOfRange mv) s = .next t ∧ OnlyChanges [.recorder, .power] s t ∧ t.power = { s.power with vauxMv := mv }) ∧
  (∀ (s : State), s.power.good = false → s.power.state < 2 → s.power.inReset = true → s.power.warmReset = false →
    ∃ t, exec .powerGoodRise s = .next t ∧ OnlyChanges [.power] s t ∧ t.power = { s.power with good := true, vmainMv := 1800 }) ∧
  (∀ (s : State), s.power.good = false → s.power.state = 1 → s.power.inReset = false →
    ∃ t, exec .powerGoodRise s = .next t ∧ t.power.good = true ∧ t.power.vmainMv = 1800 ∧ t.power.inReset = true ∧ t.power.warmReset = false ∧
      t.power.cause = 8 ∧ t.mem = []) ∧
  (∀ (s : State), s.power.good = true → s.power.state < 2 →
    ∃ t, exec .powerGoodFall s = .next t ∧ OnlyChanges [.power] s t ∧ t.power = { s.power with good := false }) ∧
  (∀ (s u : State), s.power.good = true → 2 ≤ s.power.state → u = ((s.modPower (fun p => { p with good := false })).railEvent 0).qualified s.power.pfail →
    (u.persist.state = 3 → exec .powerGoodFall s = .next u) ∧
    (u.persist.state ≠ 3 → 2 ≤ u.power.state → exec .powerGoodFall s = .next (u.vmainStop false))) ∧
  (∀ (s : State) (mv : Nat), 2 ≤ s.power.state → s.power.good = true → mv < 1710 →
    exec (.vmainUndervoltage mv) s = .next ((((s.modPower (fun p => { p with vmainMv := mv })).railEvent 1).qualified s.power.pfail).modPower
      (fun p => { p with deassertAt := if p.pfail = 0 then some s.now else none }))) ∧
  (∀ (s : State) (mv : Nat), 2 ≤ s.power.state → mv < 1620 →
    exec (.brownOut mv) s = .next (((s.modPower (fun p => { p with vmainMv := mv, good := false })).railEvent 2).vmainStop false))

/-- R390, R391, R525 to R529: resets begin and end. -/
def Obligations.ResetsBeginAndEnd : Prop :=
  (∀ (s : State), s.power.vaux = true →
    ∃ t, exec .porstAssert s = .next t ∧ t = s.enterReset true 2 ∧ (s.power.inReset = false ∨ s.power.warmReset = true →
      t.mem = [] ∧ t.power.inReset = true ∧ t.power.warmReset = false ∧ t.power.cause = 2 ∧
      t.settings = s.settings.filter (fun e => poolState e.1))) ∧
  (∀ (s : State), s.power.vaux = true → s.persist.state ≠ 3 → s.power.inReset = false →
    ∃ t, exec .wrstAssert s = .next t ∧ t = (s.modRec recFlush).enterReset false 3 ∧ t.mem = s.mem ∧ t.power.inReset = true ∧ t.power.warmReset = true ∧
      t.power.cause = 3) ∧
  (∀ (s : State), s.power.vaux = true → s.persist.state = 3 → s.power.deferred = none →
    ∃ t, exec .wrstAssert s = .next t ∧ OnlyChanges [.power] s t ∧ t.power.deferred = some (false, 3)) ∧
  (∀ (s : State), s.dict.jtag = true →
    ∃ t, exec .jtagReset s = .next t ∧ t = s.enterReset true 10 ∧ (s.power.inReset = false → t.power.inReset = true ∧ t.power.warmReset = false ∧
      t.power.cause = 10 ∧ t.mem = [])) ∧
  (∀ (s : State) (cold : Bool) (cause : Nat), s.power.deferred = some (cold, cause) → s.persist.state ≠ 3 →
    exec .deferredReset s = .next ((s.modRec recFlush).enterReset cold cause)) ∧
  (∀ (s : State) (cold : Bool) (at_ : Nat), s.pool.resetDue = some (cold, at_) → at_ + 50000 ≤ s.now → s.persist.state ≠ 3 →
    exec .poolResetFire s = .next (((s.modPool (fun p => { p with resetDue := none })).modRec recFlush).enterReset cold (if cold then 7 else 6))) ∧
  (∀ (s : State) (spds : List (List Nat)) (failed : List Nat), s.power.vaux = true → s.power.good = true → s.power.inReset = true →
    s.power.warmReset = false → (s.phase1 failed).rec_.alertBoot = false →
    exec (.porstRelease spds failed) s = .next ((s.phase1 failed).populate spds)) ∧
  (∀ (s : State) (pass : List Bool) (failed : List Nat), s.power.vaux = true → s.power.inReset = true → s.power.warmReset = true →
    (s.phase1 failed).power.state = 2 → (s.phase1 failed).rec_.alertBoot = false →
    exec (.wrstRelease pass failed) s = .next ((s.phase1 failed).warmChecks pass))

/-- R331 to R334: the phases of a start, and the opening for hosts. -/
def Obligations.StartPhases : Prop :=
  (∀ (s : State) (drives : List (Nat × DriveInfo)) (keys : List (Nat × Nat)) (heads : List HeadRead) (m : Option DirtyMap),
    s.power.inReset = false → s.power.blocked = false → s.power.state = 2 →
    (s.power.phase = 1 → ∃ t, exec (.startPhaseAdvance drives keys heads m) s = .next t ∧ OnlyChanges [.power] s t ∧ t.power = { s.power with phase := 2 }) ∧
    (s.power.phase = 2 → s.dram.pop = 1 → (∀ c ∈ s.dram.chans, c.2.state ≠ 1) →
      ∃ t, exec (.startPhaseAdvance drives keys heads m) s = .next t ∧ OnlyChanges [.power] s t ∧ t.power = { s.power with phase := 3 })) ∧
  (∀ (s : State), s.host.creditsOpen = false → s.mayOpen = true →
    ∃ t, exec .hostServiceOpen s = .next t ∧ OnlyChanges [.host, .recorder, .power] s t ∧ t.host = { s.host with creditsOpen := true } ∧
      t.power = { s.power with phase := 7 })

/-- R93, R99 to R109, R203: accesses of hosts. -/
def Obligations.HostAccesses : Prop :=
  (∀ (s : State) (p host hpa tag dpa k : Nat), s.hostOpen p = true → s.claimed p host (hpa / 64 * 64) = some dpa → s.sessAt p host dpa = some k →
    s.sessGrants k false = true →
    exec (.hostRead p host hpa tag) s = .next (((s.countFor (128 + 8 * p) 1 { src := p, sess := k, addr := s.poolAt k dpa }).modSess k
      (fun x => { x with reads := (x.reads + 1) % 2 ^ 64 })).acceptReq
      { num := 0, write := false, port := p, host := host, tag := tag, sess := k, key := s.poolAt k dpa / extentBytes,
        off := s.poolAt k dpa % extentBytes, since := s.now, dpa := dpa, binding := (s.sess k).binding })) ∧
  (∀ (s : State) (p host hpa tag : Nat), s.hostOpen p = true → s.claimed p host (hpa / 64 * 64) = none →
    ∃ t, exec (.hostRead p host hpa tag) s = .next t ∧ OnlyChanges [.out, .recorder] s t ∧ ∃ line, t.out = s.out ++ [.readDone p host tag line false]) ∧
  (∀ (s : State) (p host hpa : Nat) (line : Line) (be : BitVec 64) (poison : Bool) (tag : Nat), (s.hostPort p).link = 2 →
    s.claimed p host (hpa / 64 * 64) = none →
    ∃ t, exec (.hostWrite p host hpa line be poison tag) s = .next t ∧ OnlyChanges [.out, .recorder] s t ∧ t.out = s.out ++ [.writeDone p host tag]) ∧
  (∀ (s : State) (p host hpa tag dpa : Nat), s.hostOpen p = true → s.claimed p host (hpa / 64 * 64) = some dpa → s.sessAt p host dpa = none →
    ∃ t, exec (.hostRead p host hpa tag) s = .next t ∧ OnlyChanges [.out, .host, .recorder] s t ∧ t.out.getLast? = some (.readDone p host tag 0 true)) ∧
  (∀ (s : State) (p host hpa : Nat) (line : Line) (poison : Bool) (tag dpa : Nat), (s.hostPort p).link = 2 →
    s.claimed p host (hpa / 64 * 64) = some dpa →
    exec (.hostWrite p host hpa line (BitVec.allOnes 64) poison tag) s = .next ((s.countFor (129 + 8 * p) 1
      (s.hostTag p dpa (s.sessAt p host dpa))).arriveWrite
      { num := 0, write := true, port := p, host := host, tag := tag, sess := 0xFFFF, key := 0, off := dpa, line := line, poison := poison })) ∧
  (∀ (s : State) (p host hpa : Nat) (line : Line) (be : BitVec 64) (poison : Bool) (tag dpa : Nat), (s.hostPort p).link = 2 → be ≠ BitVec.allOnes 64 →
    s.claimed p host (hpa / 64 * 64) = some dpa →
    exec (.hostWrite p host hpa line be poison tag) s = .next (((s.countFor (129 + 8 * p) 1
      (s.hostTag p dpa (s.sessAt p host dpa))).countFor (130 + 8 * p) 1 (s.hostTag p dpa (s.sessAt p host dpa))).arriveWrite
      { num := 0, write := true, port := p, host := host, tag := tag, sess := 0xFFFF, key := 0, off := dpa, line := line, be := be, poison := poison })) ∧
  (∀ (s : State) (p : Nat) (e : EReq), s.host.held.find? (fun e => e.port == p) = some e → s.withheld p e.host e.off = false →
    s.now - e.since ≤ s.setting 0x3000 4 →
    exec (.heldWriteAdmitted p) s = .next ((s.modHost (fun h => { h with held := h.held.eraseP (fun x => x.port == p) })).acceptWrite
      { e with noticed := false })) ∧
  (∀ (s : State) (p : Nat) (e : EReq), e ∈ s.host.held → e.port = p → s.setting 0x3000 4 < s.now - e.since →
    ∃ t, exec (.writeHoldThreshold p) s = .next t ∧ OnlyChanges [.host, .recorder] s t ∧ { e with noticed := true } ∈ t.host.held) ∧
  (∀ (s : State) (num : Nat) (e : EReq), s.reqOf num = some e → e.lookup = true → e.since + s.setting 0x3000 5 ≤ s.now → e.outcome = none →
    e.work = none → e.mailbox = none → e.write = true → e.port < noPort →
    exec (.translationTimeLimit num) s = .next ((s.raise (19 + 4 * e.port) 1
      (leBytes 2 e.sess ++ leBytes 5 e.key ++ e.tried.flatMap (leBytes 2))).dropReq num)) ∧
  (∀ (s : State) (p : Nat), (s.hostPort p).link = 2 →
    ∃ t, exec (.gpfPhase1 p) s = .next t ∧ OnlyChanges [.out] s t ∧ t.out = s.out ++ [.gpfDone p 1]) ∧
  (∀ (s : State) (p : Nat), (s.hostPort p).link = 2 →
    ∃ t, exec (.gpfPhase2 p) s = .next t ∧ OnlyChanges [.host] s t ∧ t.host.gpf = s.host.gpf ++ [{ port := p, nums :=
      (s.host.reqs.filter (fun e => e.write && e.port == p && e.work.isNone && e.mailbox.isNone && e.port != noPort)).map EReq.num }]) ∧
  (∀ (s : State) (p : Nat) (g : Gpf), s.host.gpf.find? (fun g => g.port == p) = some g → g.nums = [] →
    ∃ t, exec (.gpfPhase2Answer p) s = .next t ∧ OnlyChanges [.out, .host] s t ∧ t.out = s.out ++ [.gpfDone p 2])

/-- R86, R87, R93, R123, R531: host ports, their links and their decoders. -/
def Obligations.HostPorts : Prop :=
  (∀ (s : State) (p speed width : Nat), s.portExists p = true → (s.hostPort p).link = 0 → s.power.state = 2 → s.power.inReset = false →
    min speed (s.setting (0x3010 + p) 3) = 64 → width = s.portLanes →
    exec (.portLinkTrained p speed width) s = .next (((List.range 16).foldl (fun s ld => s.busBack p ld)
      (s.modPort p (fun x => { x with
        link := 2
        speed := 64
        width := width
        protocol := 3
        lds := s.setting (0x3010 + p) 8
        pbr := if s.host.mode = 1 then Config.pbrOf p % 0xFFF else 0xFFFF }))).advanceWorks)) ∧
  (∀ (s : State) (p speed width : Nat), s.portExists p = true → (s.hostPort p).link = 0 → s.power.state = 2 → s.power.inReset = false →
    2 * width < s.portLanes →
    exec (.portLinkTrained p speed width) s = .next ((s.modPort p (fun x => { x with link := 3 })).hostPortEvent p 2)) ∧
  (∀ (s : State) (p : Nat), (s.hostPort p).link = 2 → exec (.portLinkDown p) s = .next ((s.portGone p 0).hostPortEvent p 0)) ∧
  (∀ (s : State) (rq : Req) (tag p : Nat), MayPut s rq (0x3010 + p) 7 1 1 → s.portExists p = true → (s.hostPort p).link ≠ 4 →
    exec (.portRetrain rq tag p) s = .next ((((s.touch rq).portGone p 1).modPort p (fun x => { x with
      retrains := satAdd x.retrains 1 0xFFFFFFFF })).respond rq (writeResp tag (0x3010 + p) 7 St.ok))) ∧
  (∀ (s : State) (rq : Req) (tag p : Nat), MayPut s rq (0x3010 + p) 6 1 0 → s.portExists p = true → (s.touch rq).portSessions p = [] →
    (s.hostPort p).link = 0 →
    exec (.portEnableWrite rq tag p false) s = .next ((((s.touch rq).setSetting (0x3010 + p) 6 0).portGone p 4).respond rq
      (writeResp tag (0x3010 + p) 6 St.ok))) ∧
  (∀ (s : State) (rq : Req) (tag p : Nat), MayPut s rq (0x3010 + p) 6 1 1 → s.portExists p = true → (s.touch rq).portSessions p = [] →
    (s.hostPort p).link = 4 →
    exec (.portEnableWrite rq tag p true) s = .next ((((s.touch rq).setSetting (0x3010 + p) 6 1).modPort p (fun x => { x with link := 0 })).respond rq
      (writeResp tag (0x3010 + p) 6 St.ok))) ∧
  (∀ (s : State) (p : Nat), s.portExists p = true → s.power.state = 2 → (s.hostPort p).link = 2 →
    exec (.cxlPerst p) s = .next ((s.portGone p 0).hostPortEvent p 0)) ∧
  (∀ (s : State) (p ld i base size ways gran dpa : Nat), ways ∈ [1, 2, 4, 8, 16] → gran ∈ [256, 512, 1024, 2048, 4096, 8192, 16384] → 0 < size →
    ∃ t, exec (.hdmDecoderCommit p ld i base size ways gran dpa true) s = .next t ∧ OnlyChanges [.host] s t ∧
      assoc (t.ldev p ld).decoders i = some { base := base, size := size, ways := ways, gran := gran, dpa := dpa })

/-- R98, R114 to R116: sessions that unbind, offers of capacity and releases of it. -/
def Obligations.SessionsAndCapacity : Prop :=
  (∀ (s : State) (n : Nat), (s.sess n).state = 3 → s.sessWrites n = false → (s.sess n).rebind = false → (s.sess n).waiter = [] →
    ∃ t, exec (.sessionUnbindDone n) s = .next t ∧ (t.sess n).state = 0 ∧ (t.sess n).acc = 0 ∧ t.settings = s.settings ∧ t.mem = s.mem) ∧
  (∀ (s : State) (n : Nat), (s.sess n).state = 2 → (s.sess n).offerAt ≤ s.now →
    ∃ t, exec (.capacityOfferTimeout n) s = .next t ∧ t = s.offerEnds n ∧ (t.sess n).state = 1 ∧ (t.sess n).acc = (s.sess n).acc ∧
      t.setting (0x4000 + n) 6 = (s.sess n).acc) ∧
  (∀ (s : State) (n len : Nat), (s.sess n).release = some len → s.writesBeyond n len = false →
    ∃ t, exec (.releaseCapacityDone n) s = .next t ∧ OnlyChanges [.out, .host, .settings] s t ∧ t.setting (0x4000 + n) 6 = len ∧
      .mailbox (s.setting (0x4000 + n) 3) (s.setting (0x4000 + n) 4) 0x4803 0 [] ∈ t.out) ∧
  (∀ (s : State) (p ld n : Nat), s.ldThere p ld = true → (s.dcSessions p ld).filter (fun n => (s.sess n).state == 2) = [n] →
    exec (.addDynamicCapacityResponse p ld []) s = .next ((s.offerEnds n).mbox p ld 0x4802 Ret.ok []) ∧
    exec (.addDynamicCapacityResponse p ld [(s.setting (0x4000 + n) 5 + (s.sess n).acc, s.setting (0x4000 + n) 6 - (s.sess n).acc)]) s =
      .next ((s.modSess n (fun x => { x with acc := s.setting (0x4000 + n) 6, state := 1 })).mbox p ld 0x4802 Ret.ok [])) ∧
  (∀ (s : State) (p ld n start len : Nat), s.ldThere p ld = true → s.dcSessions p ld = [n] → (s.sess n).state = 1 → (s.sess n).release = none →
    s.setting (0x4000 + n) 5 ≤ start → 0 < len → len % extentBytes = 0 → start + len = s.setting (0x4000 + n) 5 + (s.sess n).acc →
    exec (.releaseDynamicCapacity p ld start len) s = .next (s.modSess n (fun x => { x with release := some (x.acc - len) })))

/-- R91, R117: a mailbox command of a logical device that is there answers at once, with vector 0 signalled. -/
def Obligations.MailboxReadsAnswer : Prop :=
  ∀ (s : State) (p ld : Nat), s.ldThere p ld = true →
    exec (.identify p ld) s = .next (s.mbox p ld 0x0001 Ret.ok [Config.standardField 0x0001 0]) ∧
    (∀ log, log ≤ 4 → exec (.getEventRecords p ld log) s = .next (s.mbox p ld 0x0100 Ret.ok
      ([b2n (decide (15 < (s.ldev p ld).log.length)), min (s.ldev p ld).log.length 15] ++ ((s.ldev p ld).log.take 15).flatMap (fun r => [r.1, r.2.1, r.2.2.1, r.2.2.2])))) ∧
    exec (.getEventInterruptPolicy p ld) s = .next (s.mbox p ld 0x0102 Ret.ok [(s.ldev p ld).policy]) ∧
    exec (.getFwInfo p ld) s = .next (s.mbox p ld 0x0200 Ret.ok [1, 1, 0, 0, (s.image s.steward.running).verNow]) ∧
    exec (.getTimestamp p ld) s = .next (s.mbox p ld 0x0300 Ret.ok [s.poolTime]) ∧
    exec (.getSupportedLogs p ld) s = .next (s.mbox p ld 0x0400 Ret.ok [1, Config.standardField 0x0400 0, 100]) ∧
    (∀ off len, off + len ≤ 100 → celLog.length = 100 ∧ exec (.getLog p ld off len) s = .next (s.mbox p ld 0x0401 Ret.ok ((celLog.drop off).take len))) ∧
    exec (.identifyMemoryDevice p ld) s = .next (s.mbox p ld 0x4000 Ret.ok [s.ldUnits p ld, 0, s.ldUnits p ld, 1024]) ∧
    exec (.getPartitionInfo p ld) s = .next (s.mbox p ld 0x4100 Ret.ok [0, s.ldUnits p ld]) ∧
    exec (.getHealthInfo p ld) s = .next (s.mbox p ld 0x4200 Ret.ok [b2n s.admits, b2n (s.twin.state == 1 || s.twin.state == 4)]) ∧
    exec (.getAlertConfiguration p ld) s = .next (s.mbox p ld 0x4201 Ret.ok [(s.ldev p ld).alertCfg]) ∧
    exec (.getShutdownState p ld) s = .next (s.mbox p ld 0x4203 Ret.ok [(s.ldev p ld).shutdown]) ∧
    exec (.getDynamicCapacityConfiguration p ld) s = .next (s.mbox p ld 0x4800 Ret.ok ([8, extentBytes] ++
      (s.dcSessions p ld).flatMap (fun n => [s.setting (0x4000 + n) 0x0E, s.setting (0x4000 + n) 5, 2 ^ 48]))) ∧
    exec (.getDynamicCapacityExtentList p ld) s = .next (s.mbox p ld 0x4801 Ret.ok
      ([((s.dcSessions p ld).filter (fun n => 0 < (s.sess n).acc)).length] ++
        ((s.dcSessions p ld).filter (fun n => 0 < (s.sess n).acc)).flatMap (fun n => [s.setting (0x4000 + n) 5, (s.sess n).acc])))

/-- R91, R117: what a mailbox command sets in its logical device, a command the device does not know, and the FM API. -/
def Obligations.MailboxSetsAndFmApi : Prop :=
  (∀ (s : State) (p ld : Nat), s.ldThere p ld = true →
    (∀ log handles, log ≤ 4 → exec (.clearEventRecords p ld log true handles) s =
      .next ((s.modLdev p ld (fun d => { d with log := [] })).mbox p ld 0x0101 Ret.ok [])) ∧
    (∀ policy, (∀ i, i < 5 → policy / 256 ^ i % 256 ≤ 1) → policy < 256 ^ 5 → exec (.setEventInterruptPolicy p ld policy) s =
      .next ((s.modLdev p ld (fun d => { d with policy := policy })).mbox p ld 0x0103 Ret.ok [])) ∧
    (∀ time, exec (.setTimestamp p ld time) s = .next (s.mbox p ld 0x0301 Ret.ok [])) ∧
    (∀ cfg, exec (.setAlertConfiguration p ld cfg) s =
      .next ((s.modLdev p ld (fun d => { d with alertCfg := cfg })).mbox p ld 0x4202 Ret.ok [])) ∧
    (∀ v, exec (.setShutdownState p ld v) s =
      .next ((s.modLdev p ld (fun d => { d with shutdown := v })).mbox p ld 0x4204 Ret.ok [])) ∧
    (∀ opcode, exec (.mailboxUnsupported p ld opcode) s = .next (s.mbox p ld opcode Ret.unsupported []))) ∧
  (∀ (s : State) (p : Nat), (s.hostPort p).link = 2 →
    (∃ t, exec (.getLdInfo p) s = .next t ∧ OnlyChanges [.out] s t ∧ t.out = s.out ++ [.fmApi p 0x5400 Ret.ok (s.ldLengths p)]) ∧
    (∃ t, exec (.getLdAllocations p) s = .next t ∧ OnlyChanges [.out] s t ∧ t.out = s.out ++ [.fmApi p 0x5401 Ret.ok (s.ldLengths p)]) ∧
    (∀ opcode, ∃ t, exec (.setLdAllocations p opcode) s = .next t ∧ OnlyChanges [.out] s t ∧ t.out = s.out ++ [.fmApi p opcode Ret.unsupported []])) ∧
  (∀ (s : State) (p ld v : Nat),
    (∃ t, exec (.msixVectorMaskWrite p ld v true) s = .next t ∧ OnlyChanges [.host] s t ∧
      (t.ldev p ld).vecMask = (s.ldev p ld).vecMask ||| (1#64 <<< v)) ∧
    (∃ t, exec (.msixVectorMaskWrite p ld v false) s = .next t ∧ OnlyChanges [.out, .host] s t ∧
      (t.ldev p ld).vecMask = (s.ldev p ld).vecMask &&& ~~~(1#64 <<< v) ∧ (t.ldev p ld).vecPend = (s.ldev p ld).vecPend &&& ~~~(1#64 <<< v) ∧
      t.out = s.out ++ (if (s.ldev p ld).vecPend.getLsbD v then [.msix p ld v] else [])))

/-- R111, R418, R419, R542: the poison list, and poison set and cleared by command. -/
def Obligations.PoisonByCommand : Prop :=
  (∀ (s : State) (p ld start len : Nat) (others : List (Nat × Nat × Nat)) (overflow : Bool), s.ldThere p ld = true →
    ∃ l : List (Nat × Nat × Nat), exec (.getPoisonList p ld start len others overflow) s = .next (s.mbox p ld 0x4300 Ret.ok
      ([b2n (decide (126 < l.length)), b2n (overflow || s.ecc.overflow || s.absentVaults != []), min l.length 126] ++
        (l.take 126).flatMap (fun e => [e.1, spanLines e.2.1, errorSource e.2.2]))) ∧ ∀ e ∈ l, start ≤ e.1 ∧ e.1 < start + len) ∧
  (∀ (s : State) (p ld dpa n : Nat), s.flag 0x3000 6 = true → s.ldThere p ld = true → s.sessAt p ld (dpa / 64 * 64) = some n →
    s.sessGrants n true = true →
    exec (.injectPoison p ld dpa) s = .next ((s.arriveWrite
      { num := 0, write := true, port := p, host := ld, tag := 0, sess := 0xFFFF, key := 0, off := dpa / 64 * 64, line := s.freeLine, poison := true,
        mailbox := some (p, ld, 0x4301) }).tick)) ∧
  (∀ (s : State) (p ld dpa n : Nat) (line : Line), s.ldThere p ld = true → s.sessAt p ld (dpa / 64 * 64) = some n → s.sessGrants n true = true →
    exec (.clearPoison p ld dpa line) s = .next (s.arriveWrite
      { num := 0, write := true, port := p, host := ld, tag := 0, sess := 0xFFFF, key := 0, off := dpa / 64 * 64, line := line, poison := false,
        mailbox := some (p, ld, 0x4302) })) ∧
  (∀ (s : State) (p ld dpa n : Nat) (line : Line), s.ldThere p ld = true → s.sessAt p ld (dpa / 64 * 64) = some n → (s.sess n).state = 3 →
    2 ≤ s.setting (0x4000 + n) 9 → exec (.clearPoison p ld dpa line) s = .next (s.mbox p ld 0x4302 Ret.retry [])) ∧
  (∀ (s : State) (num p ld opcode : Nat) (e : EReq), s.reqOf num = some e → e.mailbox = some (p, ld, opcode) → e.outcome = some 1 →
    exec (.poisonCommandAnswer num) s = .next ((s.dropReq num).mbox p ld opcode Ret.retry [])) ∧
  (∀ (s : State) (num p ld opcode : Nat) (e : EReq), s.reqOf num = some e → e.mailbox = some (p, ld, opcode) → e.outcome = some 0 →
    exec (.poisonCommandAnswer num) s = .next ((s.dropReq num).mbox p ld opcode Ret.ok []))

namespace Sys2Proof.Claims

/-- The front descriptor of ring `n` is `d`, with `rest` behind it; its turn has come (R136, R150), it passes every check of R134 and
has the opcode `op`. -/
def TurnOf (s : State) (n op : Nat) (d : Desc) (rest : List Desc) : Prop :=
  (s.ring n).fetched = d :: rest ∧ s.mayStart (s.ring n) = true ∧ lowest (s.descFails (s.ring n) d) = St.ok ∧ dOp d.bytes = op

/-- Ring `n` with its front descriptor taken. -/
def taken (s : State) (n : Nat) (rest : List Desc) : State := s.modRing n (fun r => { r with fetched := rest })

end Sys2Proof.Claims

/-- R127 to R134, R152, R153: doorbells, registration and the fetch of a descriptor. -/
def Obligations.RingDoorbellsAndFetch : Prop :=
  (∀ (s : State) (p ld n tail : Nat) (h : Option Nat), s.ringOfLd p ld n = true →
    (tail + 2 ^ 32 - (s.ring n).head) % 2 ^ 32 ≤ (s.ring n).dents →
    exec (.doorbellTailWrite p ld n tail 4 h) s = .next ((s.modRing n (fun r => { r with tail := tail })).ringStep n)) ∧
  (∀ (s : State) (p ld n tail : Nat) (h : Option Nat), s.ringOfLd p ld n = true →
    (s.ring n).dents < (tail + 2 ^ 32 - (s.ring n).head) % 2 ^ 32 →
    exec (.doorbellTailWrite p ld n tail 4 h) s = .next ((s.modRing n (fun r => { r with tail := tail })).haltRing n St.badRange)) ∧
  (∀ (s : State) (p ld n tail size : Nat) (h : Option Nat), s.ringOfLd p ld n = false →
    exec (.doorbellTailWrite p ld n tail size h) s = .next (s.raise (17 + 4 * p) 1 (leBytes 2 0xFFFF ++ leBytes 2 ld ++ leBytes 2 n))) ∧
  (∀ (s : State) (p ld n chead : Nat), s.ringOfLd p ld n = true →
    ((s.ring n).tail + 2 ^ 32 - (s.ring n).head) % 2 ^ 32 ≤ (s.ring n).dents →
    exec (.completionHeadWrite p ld n chead 4) s = .next ((s.modRing n (fun r => { r with chead := chead })).ringStep n)) ∧
  (∀ (s : State) (p ld n : Nat), s.ringOfLd p ld n = true → (s.ring n).state = 2 →
    exec (.doorbellRestart p ld n) s = .next (((s.modRing n (fun r => { r with state := 1, halt := 0 })).publish n).rung n)) ∧
  (∀ (s : State) (pbr hpa n : Nat) (line : Line) (be : BitVec 64) (r : Ring),
    s.rings.rings.find? (fun e => e.2.mem != 0xFFFF && e.2.host == pbr && e.2.bell == hpa) = some (n, r) →
    exec (.doorbellLineWrite pbr hpa line be) s = .next ((s.ownReq {
      num := 0, write := true, port := r.port, host := pbr, tag := 0, sess := r.mem, key := s.poolAt r.mem hpa / extentBytes,
      off := s.poolAt r.mem hpa % extentBytes, line := line, be := be, cls := (s.sess r.mem).eff }).lineRings pbr hpa line be)) ∧
  (∀ (s : State) (rq : Req) (tag : Nat) (block : Bytes), MayWrite s rq 0x3110 1 block → (s.touch rq).blockBad block ((s.touch rq).blockRing rq block) = false →
    ((s.touch rq).ring (field block 0 2)).state = 0 → ((s.touch rq).level rq ≠ 0 ∨ (s.host.mode ≠ 1 ∧ reqLd rq ≠ none)) →
    exec (.ringRegister rq tag block) s = .next ((((s.touch rq).modRings (fun x => { x with
      rings := insertKey (field block 0 2) ((s.touch rq).blockRing rq block) x.rings })).publish (field block 0 2)).respond rq (writeResp tag 0x3110 1 St.ok))) ∧
  (∀ (s : State) (rq : Req) (tag n : Nat), MayPut s rq 0x3110 2 2 n → (s.touch rq).reachesRing rq n = true →
    exec (.ringUnregister rq tag n) s = .next (((s.touch rq).unregisterRing n).respond rq (writeResp tag 0x3110 2 St.ok))) ∧
  (∀ (s : State) (rq : Req) (tag n : Nat), MayPut s rq 0x3110 3 2 n → (s.touch rq).reachesRing rq n = true →
    exec (.ringRestart rq tag n) s = .next (((s.touch rq).restartRing n).respond rq (writeResp tag 0x3110 3 St.ok))) ∧
  (∀ (s : State) (n : Nat) (bytes : Bytes), (s.ring n).state = 1 → (s.ring n).mem = 0xFFFF → (s.ring n).fetching = true →
    crc32cOf (bytes.take 60) = field bytes 60 4 →
    exec (.descriptorFetch n bytes false) s = .next ((((s.modRing n (fun r => { r with
      fetching := false
      fetched := r.fetched ++ [{
        idx := r.head
        bytes := bytes
        bad := false
        binds := ((descSessions bytes false).filter (fun k => (s.sess k).state != 0)).map (fun k => (k, (s.sess k).binding)) }]
      head := (r.head + 1) % 2 ^ 32 })).publish n).ringStep n).advanceWorks)) ∧
  (∀ (s : State) (n : Nat) (bytes : Bytes) (poisoned : Bool), (s.ring n).state = 1 → (s.ring n).mem = 0xFFFF → (s.ring n).fetching = true →
    (poisoned = true ∨ crc32cOf (bytes.take 60) ≠ field bytes 60 4) →
    exec (.descriptorFetch n bytes poisoned) s = .next (((((s.modRing n (fun r => { r with
      fetching := false
      fetched := r.fetched ++ [{
        idx := r.head
        bytes := List.replicate 8 0 ++ (bytes.drop 8).take 4 ++ List.replicate 52 0
        bad := true
        binds := [] }]
      head := (r.head + 1) % 2 ^ 32 })).raise 312 0 (leBytes 2 n ++ leBytes 4 (s.ring n).head ++ leBytes 4 (dTag bytes))).publish n).ringStep n).advanceWorks))

/-- R139 to R144, R150, R434, R440: each of the fourteen opcodes starts, as its turn comes, or at once completes. -/
def Obligations.OpcodesStart : Prop :=
  (∀ (s : State) (n op : Nat) (d : Desc) (rest : List Desc) (c : Instr),
    (op, c) ∈ [(1, Instr.copy n), (2, .fill n), (3, .importRange n), (4, .exportRange n), (5, .persist n), (6, .place n), (8, .compare n), (9, .crc32c n)] →
    TurnOf s n op d rest → exec c s = .next (((taken s n rest).startFlight n d).ringStep n)) ∧
  (∀ (s : State) (n : Nat) (d : Desc) (rest : List Desc), TurnOf s n 7 d rest →
    exec (.atomic n) s = .next (((taken s n rest).startFlight n d).ringStep n).advanceWorks) ∧
  (∀ (s : State) (n op : Nat) (d : Desc) (rest : List Desc) (c : Instr) (k : Nat), (op, c) ∈ [(10, Instr.encrypt n), (11, .decrypt n)] →
    TurnOf s n op d rest → s.keyFails d.bytes = St.ok → s.cipherQueue = [] → s.holdUsed + dHold d.bytes ≤ 33554432 → s.freeCtx .ring = some k →
    s.cipher.waiting.find? (fun w => w.1 == n && w.2.1 == d.idx) = none →
    exec c s = .next ((((taken (s.modCipher (fun x => { x with
      waiting := x.waiting.filter (fun w => !(w.1 == n && w.2.1 == d.idx))
      ctxs := insertKey k {
        user := .ring
        slot := dAux d.bytes
        gen := (s.keySlot (dAux d.bytes)).gen
        kind := (s.keySlot (dAux d.bytes)).kind
        key := (s.keySlot (dAux d.bytes)).key
        mode := dMode d.bytes
        ring := n
        idx := d.idx
        hold := dHold d.bytes
        len := dLen d.bytes } x.ctxs })) n rest).ask 25 (0x40 + n % 64) 5 (ceilDiv (dLen d.bytes) 256)).startFlight n d).ringStep n)) ∧
  (∀ (s : State) (n : Nat) (d : Desc) (rest : List Desc), TurnOf s n 12 d rest →
    exec (.persistPoint n) s = .next (((((taken s n rest).modRing n (fun r => { r with
      flight := r.flight ++ [{ idx := d.idx, bytes := d.bytes, stage := 3 }] })).handToRoot (.point 0) (some (n, d.idx))).ringStep n).settled)) ∧
  (∀ (s : State) (n : Nat) (d : Desc) (rest : List Desc), TurnOf s n 13 d rest →
    exec (.fence n) s = .next (((taken s n rest).ringComplete n d.idx d.bytes St.ok (s.ring n).notOk).ringStep n)) ∧
  (∀ (s : State) (n : Nat) (d : Desc) (rest : List Desc), TurnOf s n 14 d rest →
    exec (.nop n) s = .next (((taken s n rest).ringComplete n d.idx d.bytes St.ok 0).ringStep n))

/-- R126, R138, R146, R149, R151, R154: what moves a ring's descriptors on after their start. -/
def Obligations.RingProgress : Prop :=
  (∀ (s : State) (n idx off i : Nat) (f : Flight) (w : Work), s.advanceWorks.flight n idx = some f → f.work = some i →
    s.advanceWorks.workOf i = some w → w.state = 5 → w.kind = 0 → w.off = off →
    exec (.pieceComplete n idx off) s = .next ((((s.advanceWorks.pieceDone n idx).kickFlights).ringStep n).advanceWorks)) ∧
  (∀ (s : State) (n : Nat), (s.ring n).state ≠ 0 → 0 < (s.ring n).modT → 0 < (s.ring n).unsig → (s.ring n).unsigAt + (s.ring n).modT ≤ s.now →
    exec (.moderationTimer n) s = .next (s.signal n)) ∧
  (∀ (s : State) (n idx off : Nat) (l : List HReq), l = s.persist.waitAdmit.filter (fun h => h.write && s.lineOf n idx off h) →
    (∃ h ∈ l, h.since + h.limit ≤ s.now) →
    exec (.ringHoldLimit n idx off) s = .next ((l.foldl (fun s h => s.answer h.origin St.throttled)
      (s.modPersist (fun p => { p with waitAdmit := p.waitAdmit.filter (fun h => !l.contains h) }))).pieceEnds n idx off)) ∧
  (∀ (s : State) (n idx off i : Nat) (bytes : Bytes) (f : Flight) (w : Work), s.flight n idx = some f → f.waitBus = false → f.work = some i →
    s.workOf i = some w → dOp f.bytes = 3 → w.state = 2 → off = w.off + w.bytes.length → w.bytes.length + bytes.length = w.len →
    exec (.busMasterReadCompletion n idx off bytes 0 false) s = .next ((s.modWork w.id (fun x => { x with
      bytes := x.bytes ++ bytes
      marks := x.marks
      state := if x.bytes.length + bytes.length = x.len then 3 else 2 })).advanceWorks)) ∧
  (∀ (s : State) (n idx : Nat) (f : Flight), s.flight n idx = some f → f.waitBus = true →
    exec (.busMasterCompletionTimeout n idx) s = .next ((s.ringComplete n idx f.bytes St.timeout 0).ringStep n)) ∧
  (∀ (s : State) (n idx off status : Nat) (bytes : Bytes) (poison : Bool) (f : Flight), s.flight n idx = some f → f.waitBus = true → status ≠ 0 →
    exec (.busMasterReadCompletion n idx off bytes status poison) s = .next ((s.ringComplete n idx f.bytes St.aborted 0).ringStep n)) ∧
  (∀ (s : State) (n idx : Nat), s.busFlight n idx = none → (s.ring n).fetching = true →
    exec (.busMasterCompletionTimeout n idx) s = .next (s.haltRing n St.timeout)) ∧
  (∀ (s : State) (n idx off status : Nat) (bytes : Bytes) (poison : Bool), s.busFlight n idx = none → (s.ring n).fetching = true → status ≠ 0 →
    exec (.busMasterReadCompletion n idx off bytes status poison) s = .next (s.haltRing n St.aborted)) ∧
  (∀ (s : State) (p ld : Nat), exec (.busMasterEnableWrite p ld false) s = .next (s.modLdev p ld (fun d => { d with busMaster := false }))) ∧
  (∀ (s : State) (p ld : Nat), exec (.busMasterEnableWrite p ld true) s = .next ((s.modLdev p ld (fun d => { d with busMaster := true })).busBack p ld))

/-- R163 to R168, R175, R177, R182, R188: what time does to placement. -/
def Obligations.PlacementTimersAct : Prop :=
  (∀ (s : State), s.place.epochAt / s.setting 0x3200 2 < s.poolTime / s.setting 0x3200 2 → s.serves = false →
    exec .epochEnd s = .next ((s.modPlace (fun p => { p with
      epoch := p.epoch + 1
      epochAt := s.poolTime
      halfLife := s.setting 0x3200 3
      shift := s.setting 0x3200 5 })).publishRoom.sendCensus.advanceWorks)) ∧
  (∀ (s : State), s.place.epochAt / s.setting 0x3200 2 < s.poolTime / s.setting 0x3200 2 → s.serves = true →
    exec .epochEnd s = .next (((((s.modPlace (fun p => { p with
      epoch := p.epoch + 1
      epochAt := s.poolTime
      halfLife := s.setting 0x3200 3 })).decayAll).modPlace (fun p => { p with
        shift := s.setting 0x3200 5 })).agentEpoch).publishRoom.sendCensus.advanceWorks)) ∧
  (∀ (s : State) (key : Nat), s.ownDir key = true → (s.dirEnt key).state = 3 → (s.dirEnt key).since + s.setting 0x3220 7 ≤ s.now →
    (s.dirEnt key).home ≠ s.vault →
    exec (.moveLeaseExpiry key) s = .next ((s.modDir key (fun d => { d with since := s.now })).tell (s.dirEnt key).home 1 {
      key := key, vault := (s.dirEnt key).home, slot := (s.dirEnt key).slot, gen := (s.dirEnt key).gen, a := (s.dirEnt key).dst })) ∧
  (∀ (s : State) (key : Nat) (m : Mig), s.serves = true → (s.heldTooLong key).migOf key = some m → m.phase = 3 ∨ m.phase = 5 →
    m.frozen + (s.heldTooLong key).setting 0x3220 4 ≤ (s.heldTooLong key).now →
    exec (.freezeLimitExpiry key) s = .next (((s.heldTooLong key).abortMig m 2).startActions.advanceWorks)) ∧
  (∀ (s : State) (key : Nat) (x : Tomb), x ∈ s.place.tombs → x.key = key → x.acked = true → x.expires ≤ s.now →
    exec (.tombstoneExpiry key) s = .next (((s.modPlace (fun p => { p with
      tombs := p.tombs.filter (fun x => x.key != key) })).metaSend (.tombGone key)).pumpMigs.advanceWorks)) ∧
  (∀ (s : State) (rq : Req) (tag : Nat), MayPut s rq 0x3230 8 1 1 →
    exec (.translationCacheFlush rq tag) s = .next (((s.touch rq).modPlace (fun p => { p with tcache := [] })).respond rq (writeResp tag 0x3230 8 St.ok))) ∧
  (∀ (s : State) (slot : Nat), ∃ t, exec (.copyLeaseExpiry slot) s = .next t ∧ OnlyChanges [.place] s t ∧
    t.place.copyIns = s.place.copyIns.map (fun c => if c.slot = slot ∧ c.lease ≤ s.poolTime then { c with serving := false } else c)) ∧
  (∀ (s : State) (key vault : Nat) (c : CopyOut), s.place.copyOuts.find? (fun c => c.key == key && c.vault == vault) = some c → 3 ≤ c.phase →
    c.dropping = true ∨ (∃ i ∈ s.place.invals, i.key = key ∧ i.vault = vault) → c.lease + s.setting 0x3220 0x0B ≤ s.poolTime →
    exec (.copyLeaseGuardExpiry key vault) s = .next ((((((s.count 400 1).raise 147 0 (leBytes 5 key ++ leBytes 2 vault ++
      leBytes 8 (s.now - minOf ((s.place.invals.filter (fun i => i.key == key && i.vault == vault)).map Inval.since) s.now))).loseCopyOut key vault).noteDrop
        key vault).completeWrites.startActions.advanceWorks))) ∧
  (∀ (s : State), s.serves = true → exec .copyLeaseRenewTimer s = .next
    ((s.place.copyOuts.filter (fun c => c.live && !c.dropping && decide (c.lease ≤ s.poolTime + s.setting 0x3220 0x0A - s.setting 0x3220 0x0A / 4)
      && !s.place.invals.any (fun i => i.key == c.key && i.vault == c.vault))).foldl (fun u c =>
        (u.modCopyOut c.key c.vault (fun c => { c with lease := u.poolTime + s.setting 0x3220 0x0A })).tell c.vault 10
          { key := c.key, vault := c.vault, slot := c.slot, a := u.poolTime + s.setting 0x3220 0x0A }) s))

/-- R174, R180, R181, R186 to R188: lookups, chunks and invalidations. -/
def Obligations.PlacementFramesAct : Prop :=
  (∀ (s u v : State) (h : Hdr) (q : ReqSub) (w : Bool) (home slot gen : Nat), Got s h (.lookup q w) u → u.ownDir q.key = true →
    u.lookupWaits q.key = false → u.dirLookup q.key w (h.src, q.entry, q.num) = (v, .home home slot gen) →
    exec (.lookup h q w) s = .next (v.send h.src (.status { entry := q.entry, num := q.num, gen := gen, vault := home, slot := slot })).advanceWorks) ∧
  (∀ (s u : State) (h : Hdr) (q : ReqSub) (w : Bool), Got s h (.lookup q w) u → u.ownDir q.key = true → u.lookupWaits q.key = true →
    exec (.lookup h q w) s = .next (u.modPlace (fun p => { p with mapHeld := p.mapHeld ++ [(q.key, h.src, q.entry, q.num, w)] })).advanceWorks) ∧
  (∀ (s u : State) (h : Hdr) (c : ChunkSub) (ls : List Line), Got s h (.chunk c ls []) u → u.serves = true → c.slot < u.extents → c.kind = 0 →
    u.place.migIns.any (fun m => m.key == c.key && m.slot == c.slot) = true →
    exec (.chunk h c ls) s = .next (((u.putChunk c.slot c.line (u.clear h 2 ls) (framePoison h ls.length)).modPlace (fun p => { p with
      chunkAcks := p.chunkAcks ++ [((u.putChunk c.slot c.line (u.clear h 2 ls) (framePoison h ls.length)).persist.seq, h.src,
        { c with count := ls.length })] })).ackChunks)) ∧
  (∀ (s u : State) (h : Hdr) (c : ChunkSub) (ls : List Line), Got s h (.chunk c ls []) u → u.serves = true → c.slot < u.extents → c.kind ≠ 0 →
    u.place.copyIns.any (fun x => x.slot == c.slot && x.key == c.key) = true →
    exec (.chunk h c ls) s = .next ((u.putCopy c (u.clear h 2 ls) (framePoison h ls.length)).send h.src (.chunkAck { c with count := ls.length }))) ∧
  (∀ (s u : State) (h : Hdr) (c : ChunkSub) (ls : List Line), Got s h (.chunk c ls []) u → u.serves = true → u.extents ≤ c.slot →
    exec (.chunk h c ls) s = .fault .slotOutsideVault) ∧
  (∀ (s u : State) (h : Hdr) (c : ChunkSub), Got s h (.chunkAck c) u → u.serves = true → c.kind = 0 →
    exec (.chunkAck h c) s = .next ((u.modMig c.key (fun m => { m with unacked := m.unacked - c.count })).migStep c.key)) ∧
  (∀ (s u : State) (h : Hdr) (key slot line count token : Nat), Got s h (.inval key slot line count token) u →
    exec (.inval h key slot line count token) s = .next (((u.modPlace (fun p => { p with copyIns := p.copyIns.map (fun c =>
      if c.key = key then { c with
        valid := (List.range count).foldl (fun v i => if v.testBit (line + i) then v ^^^ (1 <<< (line + i)) else v) c.valid } else c) })).modHost (fun x => { x with
          reqs := x.reqs.map (fun (e : EReq) =>
            if !e.write && e.key == key && decide (64 * line ≤ e.off ∧ e.off < 64 * (line + count)) then { e with noticed := true } else e) })).send h.src (.invalAck token))) ∧
  (∀ (s u : State) (h : Hdr) (token : Nat), Got s h (.invalAck token) u →
    exec (.invalAck h token) s = .next ((u.modPlace (fun p => { p with
      invals := p.invals.filter (fun i => !(i.token == token && i.vault == h.src / 2)) })).completeWrites.advanceWorks))

/-- R169, R174, R177 to R190, R297: the fourteen placement messages at a device that serves its vault. -/
def Obligations.PlacementMessagesAct : Prop :=
  (∀ (s u v : State) (h : Hdr) (m : PMsg) (st gen : Nat), GotPlace s h 1 m u → u.ownDir m.key = true → u.dirMove m.key (h.src / 2) m.a (m.b == 1) = (v, st, gen) →
    exec (.moveRequest h m) s = .next (v.send h.src (.placement 2 { key := m.key, vault := m.a, status := st, gen := gen })).advanceWorks) ∧
  (∀ (s u : State) (h : Hdr) (m : PMsg), GotPlace s h 1 m u → u.ownDir m.key = false → u.place.tombs.find? (fun t => t.key == m.key && (t.vault == m.a || m.a == 0xFFFF)) = none →
    u.migOf m.key = none → exec (.moveRequest h m) s = .next (u.send h.src (.placement 7 { key := m.key, vault := m.a, gen := m.gen })).advanceWorks) ∧
  (∀ (s u : State) (h : Hdr) (m : PMsg), GotPlace s h 2 m u →
    exec (.moveAnswer h m) s = .next (u.moveAnswered m.key m.status m.gen).startActions.advanceWorks) ∧
  (∀ (s u v : State) (h : Hdr) (m : PMsg) (st slot : Nat), GotPlace s h 3 m u → m.vault ≠ 0xFFFF → u.reserveDest m.key (h.src / 2) m.a = (v, st, slot) →
    exec (.reserveRequest h m) s = .next (v.send h.src (.placement 4 { key := m.key, vault := v.vault, slot := slot, status := st, gen := m.gen })).advanceWorks) ∧
  (∀ (s u : State) (h : Hdr) (m : PMsg) (x : Mig), GotPlace s h 4 m u → u.place.migs.find? (fun x => x.key == m.key && x.dst == m.vault && x.phase == 1) = some x →
    m.status = St.ok → exec (.reserveAnswer h m) s = .next (u.firstPass m.key m.slot).advanceWorks) ∧
  (∀ (s u : State) (h : Hdr) (m : PMsg) (x : Mig), GotPlace s h 4 m u → u.place.migs.find? (fun x => x.key == m.key && x.dst == m.vault && x.phase == 1) = some x →
    m.status ≠ St.ok → exec (.reserveAnswer h m) s = .next ((((u.abortMig x 3).count 399 1).modPlace (fun p => { p with
      refused := addSet x.slot p.refused })).startActions.advanceWorks)) ∧
  (∀ (s u : State) (h : Hdr) (m : PMsg), GotPlace s h 5 m u → u.place.migIns = [] → u.ownDir m.key = true → (u.dirCommit m.key m.vault m.slot m.gen (h.src / 2)).ownDir m.key = true →
    exec (.placementCommit h m) s = .next ((u.dirCommit m.key m.vault m.slot m.gen (h.src / 2)).send h.src (.placement 6 {
      key := m.key, vault := (u.dirCommit m.key m.vault m.slot m.gen (h.src / 2)).vault, slot := m.slot, gen := m.gen })).advanceWorks) ∧
  (∀ (s u : State) (h : Hdr) (m : PMsg) (x : Mig), GotPlace s h 6 m u → u.migOf m.key = some x →
    exec (.commitAcknowledgement h m) s =
      .next (u.commitAcked m.key (x.dst == h.src / 2) (u.dirVault m.key == h.src / 2)).pumpRetire.pumpMigs.startActions.advanceWorks) ∧
  (∀ (s u : State) (h : Hdr) (m : PMsg), GotPlace s h 7 m u → u.place.migIns = [] → u.place.copyIns = [] → m.a ≠ 0xFFFF → u.ownDir m.key = true →
    (u.dirEnt m.key).home = h.src / 2 → exec (.placementAbort h m) s = .next (u.dirAbort m.key).advanceWorks) ∧
  (∀ (s u v : State) (h : Hdr) (m : PMsg) (st : Nat), GotPlace s h 8 m u → u.ownDir m.key = true → m.vault = h.src / 2 → u.dirCopy m.key m.a = (v, st) →
    exec (.copyGrant h m) s = .next (v.send h.src (.placement 8 { key := m.key, vault := m.a, status := st, a := m.a })).advanceWorks) ∧
  (∀ (s u : State) (h : Hdr) (m : PMsg), GotPlace s h 9 m u → u.ownDir m.key = false → m.vault = u.vault → exec (.copyRegister h m) s = .next (u.giveLease (h.src / 2) m).advanceWorks) ∧
  (∀ (s u : State) (h : Hdr) (m : PMsg), GotPlace s h 10 m u → u.place.copyIns.any (fun c => c.key == m.key && c.slot == m.slot) = true →
    exec (.leaseRenewal h m) s = .next (u.giveLease (h.src / 2) m).advanceWorks) ∧
  (∀ (s u : State) (h : Hdr) (m : PMsg), GotPlace s h 10 m u → u.place.copyIns.any (fun c => c.key == m.key && c.slot == m.slot) = false →
    exec (.leaseRenewal h m) s = .next (u.send h.src (.placement 11 { key := m.key, vault := u.vault, slot := m.slot })).advanceWorks) ∧
  (∀ (s u : State) (h : Hdr) (m : PMsg), GotPlace s h 11 m u → m.status ≠ St.busy → m.vault = 0xFFFF →
    exec (.copyDropNotice h m) s = .next (u.dropCopiesOf m.key).advanceWorks) ∧
  (∀ (s u : State) (h : Hdr) (m : PMsg), GotPlace s h 12 m u → exec (.heatReport h m) s = .next (u.modPlace (fun p => { p with
    copyOuts := p.copyOuts.map (fun c => if c.vault = h.src / 2 then { c with heat := getD m.list c.slot c.heat } else c) })).advanceWorks) ∧
  (∀ (s u : State) (h : Hdr) (m : PMsg), GotPlace s h 13 m u → u.ownDir m.key = false → exec (.arrivalReport h m) s = .next (u.freeKept m.key).advanceWorks) ∧
  (∀ (s u : State) (h : Hdr) (m : PMsg) (slot : Nat), GotPlace s h 14 m u → m.key < 2 ^ 39 → m.vault = 0xFFFF → u.homeSlot m.key = some slot →
    exec (.rebuildQuery h m) s = .next (u.send h.src (.placement 14 (u.rebuildAnswer m.key slot))).advanceWorks)

/-- R206 to R210, R222, R298, R299: the mirror stream at the standby and at the active device, and home writes that complete. -/
def Obligations.MirrorAndHomeWritesAct : Prop :=
  (∀ (s u : State) (h : Hdr) (stream : Nat) (runs : List Run), Got s h (.mirror stream runs) u → u.twin.state = 4 ∨ u.twin.state = 5 →
    (∀ r ∈ runs, r.slot < u.extents) →
    exec (.mirror h stream runs) s = .next (((u.modPersist (fun p => { p with parts := (u.clearRuns h runs).foldl addRun p.parts })).applyRuns stream
      ((u.clearRuns h runs).foldl addRun u.persist.parts).length).ackStream stream)) ∧
  (∀ (s u : State) (h : Hdr) (stream : Nat) (runs : List Run) (r : Run), Got s h (.mirror stream runs) u → u.twin.state = 4 ∨ u.twin.state = 5 →
    r ∈ runs → u.extents ≤ r.slot → exec (.mirror h stream runs) s = .fault .slotOutsideVault) ∧
  (∀ (s u : State) (h : Hdr) (stream : Nat) (entries : List (Nat × Nat)), Got s h (.clean stream entries) u → u.twin.state = 4 ∨ u.twin.state = 5 →
    exec (.clean h stream entries) s = .next (entries.foldl (fun v e => v.followTable (slotGran e.1 e.2)) (u.modPersist (fun p => { p with
      shadow := p.shadow.filter (fun g => !entries.any (fun e => slotGran e.1 e.2 == g))
      oldHome := p.oldHome.filter (fun g => !entries.any (fun e => slotGran e.1 e.2 == g)) })))) ∧
  (∀ (s u : State) (h : Hdr) (stream seq : Nat), Got s h (.mirrorAck stream seq) u → u.isActive = true →
    exec (.mirrorAck h stream seq) s = .next (((u.modPersist (fun p => { p with
      acked := modNth p.acked stream (fun a => max a seq)
      unacked := p.unacked.filter (fun r => !(r.stream == stream && decide (r.seq ≤ seq))) })).modTwin (fun t => { t with
        resync := t.resync.filter (fun g => !(((u.persist.unacked.filter (fun r => r.stream == stream && decide (r.seq ≤ seq))).filter MRec.sync).map
          (fun r => slotGran r.run.slot (r.run.line / 64))).contains g) })).afterHorizon)) ∧
  (∀ (s : State) (slot g : Nat), s.serves = true → s.persist.state = 2 → s.driveCount ≠ 0 → slotGran slot g ∈ s.persist.dirty →
    s.homeBusy (slotGran slot g) = false →
    (s.flag 0x3320 1 = false ∨ slotGran slot g ∉ s.persist.fresh ∨ s.ceiling * s.setting 0x3320 2 / 64 ≤ s.dirtySet) → s.isRestoring (slotGran slot g) = false → s.granSafe (slotGran slot g) = true →
    (s.drivesOf (slotGran slot g)).any s.driveUp = true → s.queueRoom (slotGran slot g) = true →
    exec (.writebackVisit slot g) s = .next (((s.modPersist (fun p => { p with
      fresh := delSet (slotGran slot g) p.fresh })).issueHome (slotGran slot g) false).afterHome)) ∧
  (∀ (s : State) (slot g : Nat), s.serves = true → s.persist.state = 2 → s.driveCount ≠ 0 → slotGran slot g ∈ s.persist.dirty →
    s.homeBusy (slotGran slot g) = false → s.flag 0x3320 1 = true → slotGran slot g ∈ s.persist.fresh →
    s.dirtySet < s.ceiling * s.setting 0x3320 2 / 64 →
    exec (.writebackVisit slot g) s = .next (s.modPersist (fun p => { p with fresh := delSet (slotGran slot g) p.fresh }))) ∧
  (∀ (s : State) (id : Nat) (w : HomeW), s.persist.home.find? (fun w => w.id == id) = some w → s.twin.latch = false →
    exec (.homeWriteComplete id) s = .next (s.homeWritten w))

/-- R211, R219, R220, R248, R267: home drives fail, leave and come back, and are rebuilt. -/
def Obligations.HomeDrivesAct : Prop :=
  (∀ (s : State) (id d : Nat) (w : HomeW), s.persist.home.find? (fun w => w.id == id && w.drives.contains d) = some w →
    exec (.homeWriteFailed id d true) s = .next ((((s.count (230 + 8 * d) 1).modPersist (fun p => { p with
      home := p.home.filter (fun x => x.id != id)
      dirty := addSet w.gran p.dirty })).raise 108 0 (leBytes 1 d ++ leBytes 8 (s.drive d).key)).fence 3)) ∧
  (∀ (s : State) (id d : Nat) (w : HomeW), s.persist.home.find? (fun w => w.id == id && w.drives.contains d) = some w →
    exec (.homeWriteFailed id d false) s = .next (s.homeFail w d 1)) ∧
  (∀ (s : State) (id d : Nat) (w : HomeW), s.persist.home.find? (fun w => w.id == id && w.drives.contains d) = some w →
    w.since + s.setting 0x3310 8 ≤ s.now → exec (.driveTimeout id d) s = .next (s.homeFail w d 2)) ∧
  (∀ (s : State) (rq : Req) (tag d : Nat), MayPut s rq (0x3340 + d) 1 1 0 → (s.touch rq).driveUp d = true →
    exec (.driveOutOfService rq tag d) s = .next (((s.touch rq).driveGone d 0 0).respond rq (writeResp tag (0x3340 + d) 1 St.ok))) ∧
  (∀ (s u : State) (rq : Req) (tag d : Nat) (i : DriveInfo), MayPut s rq (0x3340 + d) 1 1 1 → (s.touch rq).driveUp d = false →
    u = (s.touch rq).modDrive d (fun x => { x with lbas := i.lbas, link := true }) → u.driveCheck d i = 0 → i.empty = true → u.isActive = true →
    exec (.driveInsert rq tag d i) s = .next (((((((u.modPersist (fun p => { p with poisonTab := p.poisonTab.filter (fun e => e.1 != d) })).modDrive d
      (fun x => { x with state := 1, rebuild := u.gransOn d, marked := 0, key := 0 })).holdDrive d).driveHeader d).rebuildCheck d).ceilingCheck
        (u.modPersist (fun p => { p with poisonTab := p.poisonTab.filter (fun e => e.1 != d) })).ceiling).respond rq (writeResp tag (0x3340 + d) 1 St.ok))) ∧
  (∀ (s u : State) (rq : Req) (tag d : Nat) (i : DriveInfo), MayPut s rq (0x3340 + d) 1 1 1 → (s.touch rq).driveUp d = false →
    u = (s.touch rq).modDrive d (fun x => { x with lbas := i.lbas, link := true }) → u.driveCheck d i ≠ 0 →
    exec (.driveInsert rq tag d i) s = .next ((u.rejectDrive d (u.driveCheck d i)).respond rq (writeResp tag (0x3340 + d) 1 St.ok))) ∧
  (∀ (s : State) (d : Nat) (batch : List Nat), (s.drive d).state = 1 → s.serves = true → s.dirtySet < s.ceiling * s.setting 0x3320 2 / 64 →
    batch = ((s.drive d).rebuild.filter (fun g => decide ((s.drive d).marked ≤ g))).take 65536 →
    exec (.rebuildBatch d) s = .next ((((s.modPersist (fun p => { p with dirty := batch.foldl (fun l g => addSet g l) p.dirty })).modDrive d (fun x => { x with
      marked := match batch.getLast? with | some g => g + 1 | none => x.marked })).rebuildCheck d).throttleCheck)) ∧
  (∀ (s : State) (d : Nat) (reserved : Bool), exec (.nvmeLinkChange d true reserved) s =
    .next ((s.modDrive d (fun x => { x with link := true })).raise (176 + d) 0 (leBytes 1 1 ++ leBytes 1 (b2n reserved)))) ∧
  (∀ (s : State) (d : Nat) (reserved : Bool), s.driveUp d = true → exec (.nvmeLinkChange d false reserved) s =
    .next ((s.modDrive d (fun x => { x with link := false })).driveGone d 0 0))

/-- R229, R231, R238 to R245, R500, R545: the flush, the restore and persist points. -/
def Obligations.FlushRestoreAndPointsAct : Prop :=
  (∀ (s : State), s.isActive = true → s.persist.snap = none → s.persist.state = 3 → (∀ w ∈ s.persist.writes, s.twinSafe w.seq = true ∨ w.needHome = true) →
    exec .flushSnapshot s = .next s.flushSnapshot.afterHome) ∧
  (∀ (s : State) (m : DirtyMap), s.persist.mapOut = some m → m.overflow = false → exec (.dirtyMapWritten false false 0) s =
    .next (((s.modPersist (fun p => { p with
      maps := setNth p.maps s.persist.mapArea { m with incomplete := false, overflow := false }
      mapOut := none })).modRec recFlush).sbRelease)) ∧
  (∀ (s : State) (m : DirtyMap) (inc ovf : Bool) (remapped : Nat), s.persist.mapOut = some m → 0 < remapped → exec (.dirtyMapWritten inc ovf remapped) s =
    .next ((((s.modPersist (fun p => { p with
      maps := setNth p.maps s.persist.mapArea { m with incomplete := inc, overflow := ovf || m.overflow }
      mapOut := none })).raise 168 0 (leBytes 1 s.persist.mapArea ++ leBytes 2 remapped ++ leBytes 1 (b2n inc + 2 * b2n (ovf || m.overflow)))).modRec recFlush).sbRelease)) ∧
  (∀ (s : State) (slot g : Nat) (bytes : Bytes) (bad : List Nat), s.persist.header.keySlot = 0xFFFF →
    (∀ r ∈ s.persist.remoteReads, r.1 ≠ slotGran slot g) → s.isRestoring (slotGran slot g) = true →
    exec (.restoreReadComplete slot g bytes bad) s = .next (((s.putGranule (slotGran slot g) (s.homeCipher false (s.homeGran (slotGran slot g)) bytes)
      bad).granRestored (slotGran slot g)).standbyGoesOn)) ∧
  (∀ (s : State) (slot g d : Nat), s.isRestoring (slotGran slot g) = true → d ∈ s.drivesOf (s.homeGran (slotGran slot g)) → s.driveUp d = true →
    s.persist.restoreTries.contains (slotGran slot g, d) = false →
    ∃ t, exec (.restoreReadFailed slot g d) s = .next t ∧ OnlyChanges [.out, .persist, .lattice, .dram, .recorder] s t ∧
      t.persist = { s.persist with restoreTries := s.persist.restoreTries ++ [(slotGran slot g, d)] } ∧ .drive d (.read (s.driveLba (s.homeGran (slotGran slot g)))) ∈ t.out) ∧
  (∀ (s u : State) (slot g d : Nat), s.isRestoring (slotGran slot g) = true → d ∈ s.drivesOf (s.homeGran (slotGran slot g)) → s.driveUp d = true →
    s.persist.restoreTries.contains (slotGran slot g, d) = true →
    u = (s.count (229 + 8 * d) 1).driveGone d 0 (s.driveLba (s.homeGran (slotGran slot g))) → (u.drivesOf (s.homeGran (slotGran slot g))).any u.driveUp = true →
    exec (.restoreReadFailed slot g d) s = .next (u.readHome (s.homeGran (slotGran slot g)))) ∧
  (∀ (s u : State) (slot g d : Nat), s.isRestoring (slotGran slot g) = true → d ∈ s.drivesOf (s.homeGran (slotGran slot g)) → s.driveUp d = true →
    s.persist.restoreTries.contains (slotGran slot g, d) = true →
    u = (s.count (229 + 8 * d) 1).driveGone d 0 (s.driveLba (s.homeGran (slotGran slot g))) → (u.drivesOf (s.homeGran (slotGran slot g))).any u.driveUp = false →
    exec (.restoreReadFailed slot g d) s = .next (u.homeLost slot (slotGran slot g))) ∧
  (∀ (s u : State) (slot g t : Nat), assoc s.persist.restoreWait (slotGran slot g) = some t → t + s.setting 0x3300 0x10 ≤ s.now →
    u = (s.modPersist (fun p => { p with restoreWait := p.restoreWait.filter (fun e => e.1 != slotGran slot g) })).markSuspect slot →
    (u.drivesOf (slotGran slot g)).any u.driveUp = true →
    exec (.restoreSourceWaitExpiry slot g) s = .next (u.readHome (slotGran slot g))) ∧
  (∀ (s : State), s.pool.isRoot = true → 0 < s.setting 0x3330 1 → s.poolTime % s.setting 0x3330 1 = 0 →
    exec .pointPeriod s = .next (s.action (.point 0) noDev).settled) ∧
  (∀ (s : State) (o : LatchOp) (n : Nat), s.pool.ops.find? (fun o => match o.act with | .point _ => true | _ => false) = some o → o.act = .point n →
    s.pool.isRoot = true → o.latch + s.setting 0x3330 5 ≤ s.poolTime →
    ∃ (u : State) (missed : Nat), u = ((if s.persist.point.isSome then [s.vault] else []) ++ (if o.firstMissed = 0xFFFF then [] else [o.firstMissed])).foldl
        (fun v x => v.raise 169 1 (leBytes 4 n ++ leBytes 2 x ++ leBytes 1 1)) (s.modPool (fun p => { p with ops := p.ops.filter (fun x => x.op != o.op) })) ∧
      missed = o.missed + ((u.vaults.filter u.vaultPresent).length - o.covered - o.missed) ∧
      exec .pointTimeout s = .next ((u.pointEnds n o.op St.homeFailed missed).rootQueue u.pool.queue.length).settled) ∧
  (∀ (s : State) (o : LatchOp) (n : Nat), s.opDue (fun a => match a with | .point _ => true | _ => false) = some o → o.act = .point n →
    s.persist.point = none → s.isActive = false →
    exec .poolPersistPoint s = .next ((((s.opLate o).modPersist (fun p => { p with pointNo := n, pointLatch := o.latch })).count 423 1).opDone o.op St.ok 0).settled)

/-- R253 to R258, R262, R263: signs of life on both paths, and their silence. -/
def Obligations.SignsOfLifeAct : Prop :=
  (∀ (s u : State), s.twin.sentAt = none → s.twinListed = true → s.power.inReset = false →
    u = s.sendVals.modTwin (fun t => { t with sentAt := some s.now }) →
    exec .heartbeatSend s = .next ((u.upPorts 0).foldl (fun s p =>
      (s.modTwin (fun t => { t with frameSeq := insertKey p (s.beatOf p).seq t.frameSeq })).sendOn s.twinDev p (.heartbeat (s.beatOf p))) u)) ∧
  (∀ (s u : State) (h : Hdr) (b : Beat), Got s h (.heartbeat b) u → u.twinListed = true → h.src = u.twinDev →
    u.isActive = true → b.hearing = true → u.twin.frameSilent = false →
    exec (.heartbeat h b) s = .next ((((u.takeVals.count 488 1).modTwin (fun t => { t with
      peer := some b, echo := insertKey h.dport b.seq t.echo, lastFrame := u.now })).alive).activeHears h b)) ∧
  (∀ (s u : State) (h : Hdr) (b : Beat), Got s h (.heartbeat b) u → u.twinListed = true → h.src = u.twinDev →
    u.twin.state = 4 → u.twin.frameSilent = false →
    exec (.heartbeat h b) s = .next ((((u.takeVals.count 488 1).modTwin (fun t => { t with
      peer := some b, echo := insertKey h.dport b.seq t.echo, lastFrame := u.now })).alive).standbyHears b)) ∧
  (∀ (s : State) (interval : Nat), interval < 125 →
    exec (.beatEdge interval) s = .next ((((s.modTwin (fun t => { t with
      beatAt := s.now
      idleSince := none
      edges := (t.edges ++ [interval]).drop (t.edges.length + 1 - 64) })).modTwin (fun t => { t with shortAt := some s.now })).count 490 1).setBeat .invalid interval)) ∧
  (∀ (s : State) (interval : Nat), 125 ≤ interval → s.twin.shortAt = none →
    exec (.beatEdge interval) s = .next (((s.modTwin (fun t => { t with
      beatAt := s.now
      idleSince := none
      edges := (t.edges ++ [interval]).drop (t.edges.length + 1 - 64) })).alive).setBeat .toggling interval)) ∧
  (∀ (s : State) (cls : BeatClass), s.twin.beatAt + 8000 ≤ s.now → cls = .stuck ∨ cls = .openPath →
    exec (.beatPathTimeout cls) s = .next ((s.setBeat cls (s.now - s.twin.beatAt)).modTwin (fun t => { t with idleSince := none }))) ∧
  (∀ (s : State), s.twin.frameSilent = false → s.twin.lastFrame + 25000 ≤ s.now →
    exec .framePathSilent s = .next (((s.modTwin (fun t => { t with frameSilent := true })).raise 97 0
      (leBytes 1 s.twin.signal ++ leBytes 4 (maxOf (s.twin.echo.map Prod.snd) 0))).silenceCheck s.bothSilent)) ∧
  (∀ (s : State), s.twin.lastLife + 12000 ≤ s.now → ∃ t, exec .hearingWindowExpiry s = .next t ∧ OnlyChanges [.twin] s t ∧ t.twin.hearing = false) ∧
  (∀ (s : State) (x : Nat), s.twin.idleSince = some x → s.twin.beat = .quiet → s.twin.signal = 0 → x + 20000 ≤ s.now →
    ∃ t, exec .twinAbsentDetected s = .next t ∧ OnlyChanges [.twin] s t ∧ t.twin.absent = true) ∧
  (∀ (s : State), s.twin.state = 4 → s.twin.hearing = true → s.twin.lastRec + s.setting 0x2100 5 / 2 ≤ s.now → s.twin.lastFrame + s.setting 0x2100 5 / 2 ≤ s.now →
    ∃ t, exec .inSyncTimeout s = .next t ∧ OnlyChanges [.twin] s t ∧ t.twin.state = 5 ∧ t.twin.inSync = false) ∧
  (∀ (s : State), ∃ t, exec .watchdogRefresh s = .next t ∧ OnlyChanges [.twin] s t ∧ t.twin.watchdog = s.now) ∧
  (∀ (s : State), s.twin.withdrawn = false → s.twin.watchdog + s.setting 0x2100 4 / 4 ≤ s.now →
    exec .watchdogExpiry s = .next (((s.modTwin (fun t => { t with withdrawn := true, inSync := false })).fence 2).raise 109 0 (leBytes 8 s.twin.watchdog)))

/-- R252, R259 to R271, R277: the fence, claims and handover. -/
def Obligations.FenceClaimAndHandoverAct : Prop :=
  (∀ (s : State), s.isActive = true → s.twin.state ≠ 3 → s.bothSilent = true → s.twin.absent = false → s.setting 0x2100 4 / 2 ≤ s.silence →
    exec .selfFence s = .next (s.fence 1)) ∧
  (∀ (s : State), s.twin.state = 4 → s.twin.inSync = true → s.twin.withdrawn = false → s.bothSilent = true → s.setting 0x2100 4 ≤ s.silence →
    exec .claimStart s = .next (s.claimBegin 1)) ∧
  (∀ (s : State), s.twin.state = 6 → s.twin.recorded = false →
    exec .claimRecordWritten s = .next (((s.modTwin (fun t => { t with recorded := true, claim := t.claimNew })).emits
      (s.drivesUp.map (fun d => .drive d .resvReport))).claimCheck.advanceWorks)) ∧
  (∀ (s : State) (d holder : Nat) (r : ResvResult), s.twin.state = 6 → s.twin.recorded = true → s.driveUp d = true → r ≠ .failed → d ∉ s.twin.drivesTold →
    s.twin.claimNew < holder →
    exec (.reservationComplete d holder r) s = .next ((s.modDrive d (fun x => { x with key := holder })).claimLost)) ∧
  (∀ (s : State) (d holder : Nat) (r : ResvResult), s.twin.state = 6 → s.twin.recorded = true → s.driveUp d = true → r ≠ .failed → d ∉ s.twin.drivesTold →
    holder ≤ s.twin.claimNew →
    exec (.reservationComplete d holder r) s = .next (((s.modDrive d (fun x => { x with key := holder })).modTwin (fun t => { t with
      drivesTold := addSet d t.drivesTold })).emits [.drive d (.resvRegister s.twin.claimNew), .drive d (.resvPreempt s.twin.claimNew holder)])) ∧
  (∀ (s : State), s.twin.state = 6 → s.twin.claimAt + s.setting 0x2100 6 / 2 ≤ s.now → exec .claimLimitExpiry s = .next s.claimLost) ∧
  (∀ (s : State), s.twin.state = 1 → s.bothSilent = true → s.twin.absent = true → s.setting 0x2100 5 ≤ s.silence → exec .twinLost s = .next (s.loseTwin 0)) ∧
  (∀ (s u : State) (h : Hdr) (vault claim : Nat), Got s h (.claim vault claim) u → s.claimOf vault < claim →
    exec (.claimFrame h vault claim) s = .next ((u.learnClaim vault claim).vaultClaimed vault).advanceWorks) ∧
  (∀ (s u : State) (h : Hdr) (vault claim : Nat), Got s h (.claim vault claim) u → claim ≤ s.claimOf vault →
    exec (.claimFrame h vault claim) s = .next (u.learnClaim vault claim).advanceWorks) ∧
  (∀ (s : State), s.twin.withdrawn = false → s.twin.reclaimed = false → s.twin.state = 7 → s.setting 0x2100 4 + s.setting 0x2100 6 ≤ s.silence →
    exec (.reclaimDelayExpiry true) s = .next (((s.modPersist (fun p => { p with shadow := p.dirty, applied := [p.seq, p.seq] })).modTwin (fun t => { t with
      reclaimed := true })).claimBegin 4)) ∧
  (∀ (s : State) (rq : Req) (tag : Nat), MayPut s rq 0x2100 8 1 1 → s.twin.state = 1 → (s.twin.peer.map Beat.inSync) = some true →
    exec (.handover rq tag) s = .next (((s.touch rq).modTwin (fun t => { t with state := 9, handAt := s.now })).respond rq (writeResp tag 0x2100 8 St.ok))) ∧
  (∀ (s : State) (rq : Req) (tag : Nat), MayPut s rq 0x2100 8 1 1 → s.twin.state ≠ 1 →
    exec (.handover rq tag) s = .next ((s.touch rq).respond rq (writeResp tag 0x2100 8 St.busy))) ∧
  (∀ (s : State), s.twin.state = 9 → s.twin.latch = false → s.persist.writes = [] → s.persist.waitAdmit = [] → s.persist.home = [] → s.persist.unacked = [] →
    exec .handoverDrained s = .next (((s.modTwin (fun t => { t with latch := true, cause := 5, handover := true })).raise 99 5
      (leBytes 1 5 ++ leBytes 8 s.silence ++ leBytes 8 s.twin.claim)).count 493 1)) ∧
  (∀ (s : State), s.twin.state = 6 → s.twin.trigger = 3 → s.twin.drivesTold = [] → s.twin.claimAt + s.setting 0x2100 9 ≤ s.now →
    ∃ t, exec .handoverHoldExpiry s = .next t ∧ OnlyChanges [.twin] s t ∧ t.twin.state = 4)

/-- R273 to R275: resynchronisation, at both devices. -/
def Obligations.ResyncActs : Prop :=
  (∀ (s : State), s.setting 0x2120 4 = 0 → exec .resyncStart s = .next s.startResync.afterHorizon) ∧
  (∀ (s : State) (slot g : Nat), s.twin.state = 2 → s.twin.resyncOn = true → slotGran slot g ∈ s.twin.resync → s.chanServes (slotChan slot) = true →
    s.persist.unacked = [] →
    exec (.resyncGranuleSend slot g) s = .next (((s.sendGranule (slotGran slot g) true).modTwin (fun t => { t with
      resyncSent := t.resyncSent + 1, resyncLast := (s.sendGranule (slotGran slot g) true).persist.seq })).count 494 1)) ∧
  (∀ (s u : State) (h : Hdr) (part : Nat) (us : List MetaUpd), Got s h (.metaArea part 0 [] us) u → u.twin.state = 5 →
    exec (.metaFrame h part 0 ([], us)) s = .next (us.foldl (fun v e => v.applyUpd e) u.emptyMeta).ranksGone) ∧
  (∀ (s u : State) (h : Hdr) (part off : Nat) (us : List MetaUpd), Got s h (.metaArea part off [] us) u → u.twin.state = 5 → 0 < off →
    off ≤ 32768 * metaExtents u.extents →
    exec (.metaFrame h part off ([], us)) s = .next (us.foldl (fun v e => v.applyUpd e) u).ranksGone) ∧
  (∀ (s u : State) (h : Hdr) (part off : Nat) (l : List Nat), Got s h (.metaArea part off [] [.dirty l]) u → u.twin.state = 5 → 0 < off →
    off ≤ 32768 * metaExtents u.extents →
    ∃ v, exec (.metaFrame h part off ([], [.dirty l])) s = .next v ∧ ∀ g, g ∈ v.persist.shadow ↔ g ∈ l ∨ g ∈ u.persist.shadow) ∧
  (∀ (s u : State) (h : Hdr) (part off : Nat) (ls : List Line) (us : List MetaUpd), Got s h (.metaArea part off ls us) u → u.twin.state = 5 → ls ≠ [] →
    off + ls.length ≤ 32768 * metaExtents u.extents →
    exec (.metaFrame h part off (ls, us)) s = .next (us.foldl (fun v e => v.applyUpd e) ((List.range ls.length).foldl (fun v i =>
      v.putLine (32768 * (u.extents - metaExtents u.extents) + off + i) (nth (u.clear h 2 ls) i 0) (h.poison.testBit i)) u)).ranksGone) ∧
  (∀ (s u : State) (h : Hdr) (part off : Nat) (ls : List Line) (us : List MetaUpd), Got s h (.metaArea part off ls us) u → u.twin.state = 5 →
    32768 * metaExtents u.extents < off + ls.length → exec (.metaFrame h part off (ls, us)) s = .fault .slotOutsideVault)

/-- R283 to R289, R301, R311, R320, R321: Hinge ports, lanes, pauses and neighbours. -/
def Obligations.HingePortsAct : Prop :=
  (∀ (s : State) (p mode lanes : Nat), s.power.inReset = false → 2 ≤ s.power.state → s.power.state ≠ 3 ∨ p = 0 → s.portUp p = false →
    (∀ l ∈ (s.xport p).badLanes, lanes.testBit l = false) → s.flag (0x2210 + p) 6 = true → mode ≤ s.setting (0x2210 + p) 3 →
    exec (.hingeLinkUp p mode lanes) s = .next (s.portServes p mode lanes (if (s.xport p).link = 1 then 2 else 1))) ∧
  (∀ (s : State) (p : Nat), s.portUp p = true → exec (.hingeLinkDown p) s = .next ((s.portLost p 0).portEvent p 0)) ∧
  (∀ (s u : State) (p lane mode first n : Nat) (pm : List (Nat × Nat)), s.portUp p = true →
    u = (s.modXport p (fun x => { x with badLanes := addSet lane x.badLanes })).portLost p 1 →
    fallback (u.xport p).badLanes (u.setting (0x2210 + p) 3) = some (mode, first, n) → (mode, first) ∈ pm →
    exec (.hingeLaneFailure p lane pm) s = .next (u.portServes p mode ((2 ^ n - 1) * 2 ^ first) 3)) ∧
  (∀ (s u : State) (p lane : Nat) (pm : List (Nat × Nat)), s.portUp p = true →
    u = (s.modXport p (fun x => { x with badLanes := addSet lane x.badLanes })).portLost p 1 →
    fallback (u.xport p).badLanes (u.setting (0x2210 + p) 3) = none →
    exec (.hingeLaneFailure p lane pm) s = .next ((u.modXport p (fun x => { x with link := 0 })).portEvent p 0)) ∧
  (∀ (s : State) (rq : Req) (tag p : Nat), MayPut s rq (0x2210 + p) 7 1 1 → s.flag (0x2210 + p) 6 = true →
    exec (.hingeRetrain rq tag p) s = .next ((((s.touch rq).modXport p (fun x => { x with badLanes := [] })).portLost p 1).respond rq (writeResp tag (0x2210 + p) 7 St.ok))) ∧
  (∀ (s : State) (rq : Req) (tag p : Nat), MayPut s rq (0x2210 + p) 6 1 0 → s.flag (0x2210 + p) 6 = true →
    exec (.hingePortEnableWrite rq tag p false) s =
      .next (((((s.touch rq).setSetting (0x2210 + p) 6 0).portLost p 4).portEvent p 0).respond rq (writeResp tag (0x2210 + p) 6 St.ok))) ∧
  (∀ (s : State) (rq : Req) (tag p : Nat), MayPut s rq (0x2210 + p) 6 1 1 → s.flag (0x2210 + p) 6 = false →
    exec (.hingePortEnableWrite rq tag p true) s =
      .next ((((s.touch rq).setSetting (0x2210 + p) 6 1).modXport p (fun x => { x with link := 0 })).respond rq (writeResp tag (0x2210 + p) 6 St.ok))) ∧
  (∀ (s u : State) (p prio quanta : Nat), s.flag (0x2210 + p) 0x0C = true →
    (List.range 3).any (fun vc => s.setting (0x2210 + p) 0x0A / 16 ^ vc % 16 == prio) = true → quanta ≠ 0 → u = s.countPause p →
    exec (.pfcPause p prio quanta) s = .next (u.modXport p (fun x => { x with
      paused := x.paused.filter (fun e => e.1 != prio) ++ [(prio, u.now, u.now + quanta * 512 / max 1 (u.xport p).mode)] }))) ∧
  (∀ (s : State) (p ip own mac : Nat), (s.xport p).carriage = 1 → s.ownAddr p = some (ip, own) →
    ∃ t, exec (.neighborSolicitation p true ip mac) s = .next t ∧ OnlyChanges [.out] s t ∧ t.out = s.out ++ [.neighbor p ip own]) ∧
  (∀ (s : State) (p addr : Nat), ∃ t, exec (.ndCacheExpiry p addr) s = .next t ∧ OnlyChanges [.hinge] s t ∧ ∀ e, e ∈ (t.xport p).nd ↔
    (e ∈ (s.xport p).nd ∧ ¬ (e.1 = addr ∧ e.2.2 + 30000000000 ≤ s.now)))

/-- R176, R241, R296, R302, R307: requests at their home and responses at their requester. -/
def Obligations.HingeRequestsAndResponsesAct : Prop :=
  (∀ (s u : State) (h : Hdr) (q : ReqSub), Got s h (.read q) u → exec (.hingeRead h q) s = .next (u.readFrame h.src q)) ∧
  (∀ (s u : State) (h : Hdr) (q : ReqSub), Got s h (.read q) u → q.homeStore = false → u.serves = true → u.twin.state ≠ 4 → q.num < 2 ^ 47 → u.copyCovers q = none →
    exec (.hingeRead h q) s = .next (u.arriveRemote { write := false, origin := .remote h.src q.entry q.num, vault := q.entry / 2, key := q.key, slot := q.slot, gen := q.gen, off := q.off, len := q.len, bulk := q.bulk, piece := if q.bulk then some (q.ring, q.idx) else none } h.src q.entry q.num)) ∧
  (∀ (s u : State) (h : Hdr) (q : ReqSub) (ls : List Line) (slot : Nat), Got s h (.write q ls []) u → u.serves = true →
    u.holdsWrite (.remote h.src q.entry q.num) = false → (∀ t ∈ u.twin.tags, ¬ (t.1 = q.entry ∧ t.2.1 = q.num)) → u.classify q.key q.slot = .serve slot →
    exec (.hingeWrite h q ls false) s = .next (((State.writeReqs h q (u.clear h 0 ls)).foldl (fun s r => s.arriveRemote r h.src q.entry q.num) u).advanceWorks)) ∧
  (∀ (s u : State) (h : Hdr) (q : ReqSub) (desc : Bytes) (off len slot : Nat), Got s h (.piece q desc off len) u → (∀ w ∈ u.rings.works, ¬ (w.from_ = .remote h.src q.entry q.num ∧ w.off = off)) →
    (∀ y ∈ u.place.heldPieces, ¬ (y.peer = h.src ∧ y.q.entry = q.entry ∧ y.q.num = q.num ∧ y.off = off)) → u.serves = true →
    dOp (desc.take 64) ≠ 6 → u.classify q.key q.slot = .serve slot →
    exec (.piece h q desc off len) s = .next ((u.newWork {
      id := 0, upto := ((u.twin.tags.filter (fun t => t.1 == q.entry && t.2.1 == q.num)).map (fun t => t.2.2.2)).foldl max 0,
      from_ := .remote h.src q.entry q.num, dev := q.entry, ring := q.ring, idx := q.idx, desc := desc.take 64, off := off, len := len,
      bytes := desc.drop 64, state := 1, cls := q.eff }).1).advanceWorks) ∧
  (∀ (s u : State) (h : Hdr) (q : ReqSub) (desc : Bytes) (off len : Nat), Got s h (.piece q desc off len) u → (∀ w ∈ u.rings.works, ¬ (w.from_ = .remote h.src q.entry q.num ∧ w.off = off)) →
    (∀ y ∈ u.place.heldPieces, ¬ (y.peer = h.src ∧ y.q.entry = q.entry ∧ y.q.num = q.num ∧ y.off = off)) → u.serves = true →
    dOp (desc.take 64) ≠ 6 → u.classify q.key q.slot = .holdFrozen ∨ u.classify q.key q.slot = .holdDest →
    exec (.piece h q desc off len) s = .next (((u.modPlace (fun p => { p with
      heldPieces := p.heldPieces ++ [{ peer := h.src, q := q, desc := desc, off := off, len := len, since := u.now }] })).count 393 1).advanceWorks)) ∧
  (∀ (s u : State) (h : Hdr) (r : RespSub) (ls : List Line) (e : EReq), Got s h (.data r ls []) u → r.entry = u.pool.number → r.num < 2 ^ 45 →
    u.reqOf r.num = some e → e.locate = false → e.write = false →
    exec (.dataFrame h r ls) s = .next ((((u.servedBy e h.src).refill e (nth (u.clear h 1 ls) 0 0) (nth (framePoison h ls.length) 0 false)).finishRead e
      (nth (u.clear h 1 ls) 0 0) (nth (framePoison h ls.length) 0 false)).advanceWorks)) ∧
  (∀ (s u : State) (h : Hdr) (r : RespSub) (e : EReq), Got s h (.status r) u → r.entry = u.pool.number → r.num < 2 ^ 45 → u.reqOf r.num = some e → e.locate = false → r.status = St.busy →
    exec (.status h r) s = .next ((u.modReq e.num (fun x => { x with busyAt := some u.now })).advanceWorks)) ∧
  (∀ (s u : State) (h : Hdr) (r : RespSub) (e : EReq), Got s h (.status r) u → r.entry = u.pool.number → r.num < 2 ^ 45 → u.reqOf r.num = some e → e.lookup = false → e.locate = false →
    r.status = St.moved → r.vault ≠ 0xFFFF → (u.tcacheFill e.key r.vault r.slot r.gen).atHome e = false →
    exec (.status h r) s = .next (((u.tcacheFill e.key r.vault r.slot r.gen).routeTo e.num e.key r.vault r.slot r.gen).advanceWorks)) ∧
  (∀ (s u : State) (h : Hdr) (r : RespSub) (e : EReq), Got s h (.status r) u → r.entry = u.pool.number → r.num < 2 ^ 45 → u.reqOf r.num = some e → e.lookup = false → e.locate = false →
    e.write = true → stListed r.status = false → exec (.status h r) s = .next (((u.servedBy e h.src).endWrite e.num St.internal).advanceWorks))

/-- R300 to R309, R312 to R315: connections, their acknowledgements, retransmissions and credits. -/
def Obligations.ConnectionsAct : Prop :=
  (∀ (s u : State) (h : Hdr) (next credits : List Nat) (c : Conn), s.rx h (.ack next credits) (s.joins h) = (u, true) → u.connFor h = some c → c.state = 2 →
    exec (.ack h next credits) s = .next (((List.range 4).foldl (fun s v => s.pumpAll h.src h.dport v) (u.putConn { c with
      chans := (List.range 4).map (fun v => ((c.chan v).acked (nth next v 0) u.now).grantedTo (nth credits v 0)) })).openHeld.castOps)) ∧
  (∀ (s u : State) (h : Hdr) (vc next : Nat) (c : Conn), s.rx h (.nak vc next) (s.joins h) = (u, true) → u.connFor h = some c → c.state = 2 →
    exec (.nak h vc next) s = .next ((u.putConn (c.modChan vc (fun k => k.acked next u.now))).retransmit (c.modChan vc (fun k => k.acked next u.now)) vc)) ∧
  (∀ (s u : State) (h : Hdr) (b : ConnBody), s.rx h (.connect b) (s.joins h) = (u, true) →
    exec (.connect h b) s = .next (u.connectFrom h.src h.dport h.sport b)) ∧
  (∀ (s u : State) (h : Hdr) (b : ConnBody) (c : Conn), s.rx h (.accept b) (s.joins h) = (u, true) → u.connFor h = some c → c.state = 1 →
    b.enc = c.enc → b.keyGen = c.keyGen → u.pool.joinState ≠ 1 ∨ h.src ≠ u.setting 0x2002 3 → exec (.accept h b) s = .next (u.opens c b)) ∧
  (∀ (s u : State) (h : Hdr) (b : ConnBody) (c : Conn), s.rx h (.accept b) (s.joins h) = (u, true) → u.connFor h = some c → c.state = 1 →
    b.enc = c.enc → b.keyGen = c.keyGen → u.pool.joinState = 1 → h.src = u.setting 0x2002 3 →
    exec (.accept h b) s = .next ((u.modPool (fun p => { p with joinState := 2 })).opens c b)) ∧
  (∀ (s u : State) (h : Hdr) (b : ConnBody) (c : Conn), s.rx h (.accept b) (s.joins h) = (u, true) → u.connFor h = some c → c.state = 1 →
    b.enc ≠ c.enc ∨ b.keyGen ≠ c.keyGen → exec (.accept h b) s = .next ((u.putConn { c with state := 0 }).connEvent h.src h.dport 6)) ∧
  (∀ (s u : State) (h : Hdr) (why : Nat) (c : Conn), s.rx h (.close why) (s.joins h) = (u, true) → u.pool.joinState = 0 →
    u.connFor h = some c → c.state = 2 → exec (.close h why) s = .next (((u.moveConn c).resendStreams c.port).openHeld)) ∧
  (∀ (s : State) (peer port vc : Nat) (c : Conn), s.conn peer port = some c → c.state = 2 → (c.chan vc).unacked ≠ [] →
    (c.chan vc).oldest + s.setting (0x2210 + port) 0x10 ≤ s.now → exec (.retransmitTimeout peer port vc) s = .next (s.retransmit c vc)) ∧
  (∀ (s : State) (peer port vc : Nat) (c : Conn), s.conn peer port = some c → c.state = 2 → 0 < (c.chan vc).sinceAck → (c.chan vc).accAt + 1000 ≤ s.now →
    exec (.ackTimer peer port vc) s = .next (s.sendAck peer port)) ∧
  (∀ (s : State) (peer port : Nat) (c : Conn), s.conn peer port = some c → c.state = 1 → c.lastUse + s.setting 0x2200 0x0A ≤ s.now → c.tries < 3 →
    exec (.connectTimeout peer port) s = .next ((s.putConn { c with tries := c.tries + 1, lastUse := s.now }).putFrame { peer := peer, port := port, vc := 3, body := .connect { seq := c.init, epoch := c.epoch, credits := c.chans.map (fun k => k.given), enc := c.enc, keyGen := c.keyGen } })) ∧
  (∀ (s : State) (peer port : Nat) (c : Conn), s.conn peer port = some c → c.state = 1 → c.lastUse + s.setting 0x2200 0x0A ≤ s.now → 3 ≤ c.tries →
    exec (.connectTimeout peer port) s = .next (((((s.peerGone c).openHeld).castOps).barrierCheck.opChecks).settled)) ∧
  (∀ (s : State) (peer port : Nat) (c : Conn), s.conn peer port = some c → c.state = 2 → (∀ k ∈ c.chans, k.unacked = [] ∧ k.waiting = []) →
    c.lastUse + s.setting 0x2200 6 ≤ s.now →
    exec (.idleCloseTimer peer port) s = .next (((s.putFrame { peer := peer, port := port, vc := 3, body := .close St.ok }).dropConn peer port).openHeld)) ∧
  (∀ (s : State) (p : Nat), s.portRole p = 0 → ((s.hinge.conns.filter (fun c => c.port == p && c.state == 2)) = []) → exec (.creditWindow p) s = .next s.busyAgain.advanceWorks) ∧
  (∀ (s u : State) (p : Nat) (c : Conn), (s.hinge.conns.filter (fun c => c.port == p && c.state == 2)) = [c] →
    u = (List.range 4).foldl (fun s v => s.pumpAll c.peer p v) s → u.portRole p ≠ 0 → c.chans.any ChanSt.usedUp = true →
    exec (.creditWindow p) s = .next ((((List.range 4).foldl (fun s v => s.raiseCredits c.peer p v)
      (u.modXport p (fun x => { x with tight := (List.range 4).map (fun v => u.tightNow p v) }))).sendAck c.peer p).busyAgain.advanceWorks))

/-- R226, R228, R230, R317, R318, R354: notices, and the time service. -/
def Obligations.NoticesAndTimeServiceAct : Prop :=
  (∀ (s u : State) (h : Hdr) (v d : Nat), Got s h (.notice 1 v d) u → h.src = u.activeOf v →
    exec (.throttleNotice h v d) s = .next (u.modPersist (fun p => { p with peersThrottled := addSet v p.peersThrottled }))) ∧
  (∀ (s u : State) (h : Hdr) (v d : Nat), Got s h (.notice 2 v d) u → h.src = u.activeOf v →
    exec (.throttleReleaseNotice h v d) s = .next (u.modPersist (fun p => { p with peersThrottled := delSet v p.peersThrottled }))) ∧
  (∀ (s u : State) (h : Hdr) (v d : Nat), Got s h (.notice 3 v d) u → exec (.flushNotice h v d) s = .next u) ∧
  (∀ (s u : State) (h : Hdr) (v d : Nat), Got s h (.notice 4 v d) u → v = u.vault → u.twin.state = 4 →
    exec (.sealedNotice h v d) s = .next (u.modPersist (fun p => { p with sealRec := some (p.header.gen, u.poolTime) }))) ∧
  (∀ (s : State) (prio quality prio2 clock : Nat), s.flag 0x2230 1 = true → s.hinge.ptpState = 1 → betterClock s.ownClock (prio, quality, prio2, clock) = false →
    exec (.ptpMessage (s.setting 0x2230 8, .announce prio quality prio2 clock)) s =
      .next ((s.follows 8 s.hinge.ptpAcc (prio, quality, prio2, clock)).ptpEvent s.hinge)) ∧
  (∀ (s : State) (prio quality prio2 clock : Nat), s.flag 0x2230 1 = true → s.hinge.ptpState = 9 → betterClock s.ownClock (prio, quality, prio2, clock) = true →
    exec (.ptpMessage (s.setting 0x2230 8, .announce prio quality prio2 clock)) s = .next ((s.follows 6 1 s.ownClock).ptpEvent s.hinge)) ∧
  (∀ (s u : State) (offset : Int) (delay : Nat), s.flag 0x2230 1 = true → s.hinge.ptpState = 8 → s.pool.wave = 0 → offset.natAbs ≤ s.setting 0x2230 0x0D →
    u = s.modHinge (fun h => { h with ptpState := 9, ptpOffset := offset, ptpDelay := delay, ptpAcc := 1, base := h.base - offset, syncAt := s.now }) →
    exec (.ptpMessage (s.setting 0x2230 8, .sync offset delay)) s = .next ((u.modPlace (fun p => { p with epochAt := u.poolTime })).ptpEvent s.hinge)) ∧
  (∀ (s : State) (offset fix : Int) (delay : Nat), s.flag 0x2230 1 = true → s.hinge.ptpState = 9 → s.pool.wave ≠ 0 → offset.natAbs ≤ 1000000 →
    fix = max (-(((s.now - s.hinge.syncAt) / 5000 : Nat) : Int)) (min (((s.now - s.hinge.syncAt) / 5000 : Nat) : Int) offset) →
    ∃ t, exec (.ptpMessage (s.setting 0x2230 8, .sync offset delay)) s = .next (t.ptpEvent s.hinge) ∧ OnlyChanges [.hinge] s t ∧
      t.hinge.base = s.hinge.base - fix ∧ t.hinge.ptpOffset = offset ∧ t.hinge.ptpDelay = delay ∧ t.hinge.ptpAcc = if s.setting 0x2230 0x0D < offset.natAbs then 3 else 1) ∧
  (∀ (s : State), s.hinge.ptpState = 6 → s.flag 0x2230 1 = true → s.hinge.syncSent = none → s.hinge.annSent = none →
    ∃ t, exec .ptpSyncInterval s = .next t ∧ OnlyChanges [.out, .hinge] s t ∧ t.out = s.out ++ [.ptp 0 0, .ptp 1 s.poolTime, .ptp 4 Config.clockIdentity]) ∧
  (∀ (s : State), s.hinge.ptpState = 9 → s.flag 0x2230 1 = true → s.hinge.reqSent = none →
    ∃ t, exec .ptpDelayRequestInterval s = .next t ∧ OnlyChanges [.out, .hinge] s t ∧ t.out = s.out ++ [.ptp 2 Config.clockIdentity]) ∧
  (∀ (s u : State) (offset : Int), s.pool.wave ≠ 0 → s.hinge.ptpState = 9 → 1000000 < offset.natAbs → s.hinge.ptpOffset = offset →
    u = s.modHinge (fun h => { h with base := h.base - offset, steps := h.steps + 1, ptpOffset := 0 }) →
    exec (.timeBaseStep offset) s = .next (((u.modPlace (fun p => { p with epochAt := min p.epochAt u.poolTime })).modLattice (fun l => { l with
      origin := u.poolTime })).raise 198 0 (leBytes 8 (ofInt 64 (-offset))))) ∧
  (∀ (s : State), s.flag 0x2230 1 = true → s.hinge.ptpState = 9 → exec .ptpAnnounceTimeout s = .next ((s.modHinge holdOver).ptpEvent s.hinge))

namespace Sys2Proof.Claims

/-- A tree message passes the receive checks of R294 and R330, and leaves the device in `u`, its own operations that waited for a parent's message sent on. -/
def GotTree (s : State) (h : Hdr) (t : TreeHdr) (down : Bool) (b : TBody) (u : State) : Prop := (s.rxTree h t down b).2 = true ∧ (s.rxTree h t down b).1.castOps = u

end Sys2Proof.Claims

/-- R27, R29, R38, R325, R343, R345, R346: what the root handles in arrival order, and the end of a zero fill. -/
def Obligations.RootHandlesActions : Prop :=
  (∀ (s : State) (dev : Nat), s.pool.isRoot = true → s.rootBusy = false →
    (∀ n size cls label, exec (.volumeCreate n size cls label dev) s = .next (s.rootAct (.volCreate n size cls label) dev).settled) ∧
    (∀ n size, exec (.volumeResize n size dev) s = .next (s.rootAct (.volResize n size) dev).settled) ∧
    (∀ n, exec (.volumeDelete n dev) s = .next (s.rootAct (.volDelete n) dev).settled) ∧
    (∀ vault spare copy fill, exec (.capacityShareChange vault spare copy fill dev) s = .next (s.rootAct (.share vault spare copy fill) dev).settled) ∧
    (∀ e, exec (.manifestAdd e dev) s = .next (s.rootAct (.manAdd e) dev).settled) ∧
    (∀ e, exec (.manifestChangeAddresses e dev) s = .next (s.rootAct (.manAddr e) dev).settled) ∧
    (∀ n, exec (.manifestRemove n dev) s = .next (s.rootAct (.manRemove n) dev).settled) ∧
    (∀ i vault, exec (.directoryMapChange i vault dev) s = .next (s.rootAct (.mapEntry i vault) dev).settled)) ∧
  (∀ (s : State) (n size cls label dev : Nat), s.pool.isRoot = true → s.rootBusy = true → isOrdered (.volCreate n size cls label) = true →
    exec (.volumeCreate n size cls label dev) s = .next (s.modPool (fun p => { p with queue := p.queue ++ [(.volCreate n size cls label, dev)] })).settled) ∧
  (∀ (s : State) (n : Nat), (s.vol n).state = 4 → (∀ o ∈ s.pool.ops, o.done = true ∨ o.act ≠ .volDelete n) →
    exec (.zeroFillComplete n) s = .next (((s.modVol n (fun v => { number := v.number, status := v.status, dev := v.dev })).volOutcome n 3 St.ok (s.vol n).dev).freeCheck)) ∧
  (∀ (s : State) (n : Nat) (o : LatchOp), o ∈ s.pool.ops → o.done = false → o.act = .volDelete n → exec (.zeroFillComplete n) s = .next s)

/-- R327 to R333, R335 to R338, R340, R343, R344, R346: messages of the tree and of map transfers. -/
def Obligations.TreeMessagesAct : Prop :=
  (∀ (s u v : State) (h : Hdr) (t : TreeHdr) (gen : Nat) (ranks : List (Nat × Bool)), GotTree s h t false (.gather gen ranks) u → u.pool.gen ≤ gen → u.pool.root ≠ noDev →
    v = u.modPool (fun p => { p with adopted := p.adopted.filter (fun d => d == h.src || !ranks.contains (u.rankAt d, true)) }) →
    h.src ∈ v.children → u.pool.isRoot = false →
    exec (.treeGather h t gen ranks) s = .next (v.modPool (fun p => { p with gathered := mergeRanks p.gathered ranks, report := mergeRanks p.report ranks }))) ∧
  (∀ (s u v : State) (h : Hdr) (t : TreeHdr) (gen : Nat) (ranks : List (Nat × Bool)), GotTree s h t false (.gather gen ranks) u → u.pool.gen ≤ gen → u.pool.root ≠ noDev →
    v = u.modPool (fun p => { p with adopted := p.adopted.filter (fun d => d == h.src || !ranks.contains (u.rankAt d, true)) }) →
    h.src ∈ v.children → u.pool.isRoot = true → u.pool.gather = 2 → (∃ r, (r, true) ∈ ranks) →
    exec (.treeGather h t gen ranks) s = .next (v.modPool (fun p => { p with gathered := mergeRanks p.gathered ranks, report := [], waveOwed := true }))) ∧
  (∀ (s u : State) (h : Hdr) (t : TreeHdr) (segment : Nat) (present : List Nat), GotTree s h t true (.ready segment present) u →
    t.op ≤ (u.treeDown t.op 0 (.ready segment present)).pool.wave →
    exec (.treeReady h t segment present) s = .next (u.treeDown t.op 0 (.ready segment present))) ∧
  (∀ (s u v : State) (h : Hdr) (t : TreeHdr) (segment : Nat) (present : List Nat), GotTree s h t true (.ready segment present) u →
    u.treeDown t.op 0 (.ready segment present) = v → v.pool.wave < t.op →
    (insertKey segment present (if segment = 0 then [] else v.pool.segments)).length < 4 →
    exec (.treeReady h t segment present) s = .next (v.modPool (fun p => { p with segments := insertKey segment present (if segment = 0 then [] else p.segments) }))) ∧
  (∀ (s u v : State) (h : Hdr) (t : TreeHdr) (segment : Nat) (present : List Nat), GotTree s h t true (.ready segment present) u →
    u.treeDown t.op 0 (.ready segment present) = v → v.pool.wave < t.op →
    4 ≤ (insertKey segment present (if segment = 0 then [] else v.pool.segments)).length →
    exec (.treeReady h t segment present) s = .next ((v.modPool (fun p => { p with
      segments := insertKey segment present (if segment = 0 then [] else p.segments) })).applyWave t.op
        (((insertKey segment present (if segment = 0 then [] else v.pool.segments)).flatMap Prod.snd).map v.devAt)).afterWave.settled) ∧
  (∀ (s u : State) (h : Hdr) (t : TreeHdr), GotTree s h t true .tick u →
    (u.unreachable (u.parentOf u.pool.number) = true → exec (.treeTick h t) s = .next ((u.modPool (fun p => { p with lastTick := u.now })).treeDown t.op 0 .tick)) ∧
    (u.unreachable (u.parentOf u.pool.number) = false → u.pool.parent ≠ u.parentOf u.pool.number → exec (.treeTick h t) s = .next ((u.modPool (fun p => { p with
      lastTick := u.now
      parent := u.parentOf u.pool.number
      report := mergeRanks p.gathered [(u.rankAt p.number, true)] })).treeDown t.op 0 .tick))) ∧
  (∀ (s u : State) (h : Hdr) (t : TreeHdr) (arrived absent : Nat), GotTree s h t false (.arrive arrived absent) u → u.pool.barrier.map Prod.fst = some t.op →
    h.src ∈ u.pool.arrived → exec (.treeArrive h t arrived absent) s = .next u) ∧
  (∀ (s u v : State) (h : Hdr) (t : TreeHdr) (arrived absent n k : Nat), GotTree s h t false (.arrive arrived absent) u → u.pool.barrier = some (t.op, n, k) →
    h.src ∉ u.pool.arrived →
    v = u.modPool (fun p => { p with arrived := addSet h.src p.arrived, barrier := some (t.op, n + arrived, k + absent) }) →
    ((∃ d ∈ v.presentChildren, v.unreachable d = false ∧ d ∉ v.pool.arrived) → exec (.treeArrive h t arrived absent) s = .next v) ∧
    ((∀ d ∈ v.presentChildren, v.unreachable d = false → d ∈ v.pool.arrived) →
      ∃ lost, lost = (v.presentChildren.filter (fun d => v.unreachable d && !v.pool.arrived.contains d)).length ∧
        (v.pool.isRoot = true → exec (.treeArrive h t arrived absent) s =
          .next (v.barrierEnd t.op (if k + absent + lost = 0 then St.ok else St.partialDone) (k + absent + lost))) ∧
        (v.pool.isRoot = false → exec (.treeArrive h t arrived absent) s =
          .next ((v.modPool (fun p => { p with barrier := none, arrived := [] })).tree v.pool.parent t.op 0 false (.arrive (n + arrived) (k + absent + lost)))))) ∧
  (∀ (s u : State) (h : Hdr) (t : TreeHdr) (st : Nat), GotTree s h t true (.release st) u →
    exec (.treeRelease h t st) s = .next (((u.treeDown t.op 0 (.release (recvSt st))).modPool (fun p => { p with barrier := none, arrived := [] })).count 498 1)) ∧
  (∀ (s u v : State) (h : Hdr) (t : TreeHdr) (payload : Bytes) (census : List (Nat × Census)), GotTree s h t true (.broadcast (payload.map BitVec.toNat) census) u →
    v = (u.treeDown t.op 0 (.broadcast (payload.map BitVec.toNat) census)).count 497 1 →
    exec (.treeBroadcast h t [] (payload, census)) s = .next ((census.filter (fun c => c.1 != v.pool.number)).foldl (fun s c => s.modPool (fun p => { p with
      census := insertKey c.1 c.2 p.census })) v)) ∧
  (∀ (s u v : State) (h : Hdr) (t : TreeHdr) (r : Nat × Nat × Nat × Nat), GotTree s h t true (.broadcast [r.1, r.2.1, r.2.2.1, r.2.2.2] []) u →
    v = (u.treeDown t.op 0 (.broadcast [r.1, r.2.1, r.2.2.1, r.2.2.2] [])).count 497 1 → v.serves = false →
    exec (.treeBroadcast h t [r] ([], [])) s = .next (v.modPlace (fun p => { p with
      room := insertKey r.1 { p := r.2.1, h := r.2.2.1, state := r.2.2.2 } p.room, roomEpoch := t.op }))) ∧
  (∀ (s u : State) (h : Hdr) (t : TreeHdr) (a : Action) (dev : Nat), GotTree s h t true (.announce a dev) u → u.pool.ops = [] → u.pool.opNo < t.op → h.src ≠ u.pool.parent →
    exec (.treeAnnounce h t a dev) s = .next ((((u.modPool (fun p => { p with
      opNo := t.op
      lastOp := t.op
      lastLatch := t.latch
      ops := p.ops ++ [{ op := t.op, act := a, latch := t.latch, dev := dev, cast := true, late := decide (t.latch < u.poolTime) }] })).notePoint t.op a).announceVol a dev).freeCheck)) ∧
  (∀ (s u v : State) (h : Hdr) (t : TreeHdr) (a : Action) (dev : Nat), GotTree s h t true (.announce a dev) u → u.pool.ops = [] → u.pool.opNo < t.op → h.src = u.pool.parent →
    u.pool.parent ≠ u.pool.root → v = u.treeDown t.op t.latch (.announce a dev) →
    exec (.treeAnnounce h t a dev) s = .next ((((v.modPool (fun p => { p with
      opNo := t.op
      lastOp := t.op
      lastLatch := t.latch
      ops := p.ops ++ [{ op := t.op, act := a, latch := t.latch, dev := dev, cast := true, late := decide (t.latch < v.poolTime) }] })).notePoint t.op a).announceVol a dev).freeCheck)) ∧
  (∀ (s u : State) (h : Hdr) (t : TreeHdr) (st covered missed firstMissed : Nat), GotTree s h t false (.done st covered missed firstMissed) u →
    (∀ o ∈ u.pool.ops, o.op = t.op → h.src ∉ o.dones) →
    exec (.treeDone h t st covered missed firstMissed) s = .next (((u.modOp t.op (fun o => { o with
      dones := addSet h.src o.dones
      status := max o.status (recvSt st)
      covered := o.covered + covered
      missed := o.missed + missed
      firstMissed := min o.firstMissed firstMissed })).opCheck t.op).settled)) ∧
  (∀ (s u : State) (h : Hdr) (t : TreeHdr) (a : Action) (dev : Nat), GotTree s h t false (.action a dev) u → exec (.treeAction h t a dev) s = .next (u.action a dev).settled) ∧
  (∀ (s u : State) (h : Hdr) (t : TreeHdr) (st : Nat), GotTree s h t true (.result st) u → exec (.treeResult h t st) s = .next (u.answered t.op (recvSt st))) ∧
  (∀ (s u : State) (h : Hdr) (t : TreeHdr) (ident number mac : Nat) (e : MEntry),
    s.rx { h with hdrOk := h.hdrOk && t.pool == s.pool.id } (.tree t (.join ident number)) true = (u, true) → u.numbered = true →
    u.entryOf number = some e → e.ident = ident → mac ∈ e.macs → number ∉ u.pool.present →
    ∃ v, v = (((u.count 502 1).sendOn 0xFFFF h.dport (.tree ((u.count 502 1).treeHdr 0 0 false) (.state (u.count 502 1).poolImage))).count 501 1).count 503 1 ∧
      exec (.treeJoin h t ident number mac) s = .next (v.raise 136 0 (leBytes 2 number ++ leBytes 8 v.pool.gen))) ∧
  (∀ (s u : State) (h : Hdr) (t : TreeHdr) (img : PoolImage), s.pool.joinState = 0 →
    s.rx { h with hdrOk := h.hdrOk && t.pool == s.pool.id } (.tree t (.state img)) false = (u, true) → u.pool.gen = img.gen →
    exec (.treeState h t img) s = .next (((((u.count 502 1).count 503 1).takeImage img).raise 136 1 (leBytes 2 h.src ++ leBytes 8 img.gen)).applyMissed)) ∧
  (∀ (s u v : State) (h : Hdr) (t : TreeHdr) (img : PoolImage), s.pool.joinState = 0 →
    s.rx { h with hdrOk := h.hdrOk && t.pool == s.pool.id } (.tree t (.state img)) false = (u, true) → u.pool.gen < img.gen →
    v = (((u.count 502 1).count 503 1).takeImage img).raise 136 1 (leBytes 2 h.src ++ leBytes 8 img.gen) →
    exec (.treeState h t img) s = .next (((v.children.filter (fun d => v.pool.gathered.contains (v.rankAt d, true))).foldl (fun s d => s.sendState d) v).applyMissed)) ∧
  (∀ (s u : State) (h : Hdr) (i a : Nat) (ents : List MapEnt), Got s h (.mapEntries i ents false) u → assoc u.pool.mapWait i = some a →
    exec (.mapTransferEntries h i ents false) s = .next (ents.foldl (fun s e => s.takeEnt e) u))

/-- R327, R328, R332, R333, R335, R337, R343: the timers of the tree. -/
def Obligations.TreeTimersAct : Prop :=
  (∀ (s : State) (l : List (Nat × Bool)), s.numbered = true → s.pool.isRoot = false → s.pool.gatherSent = 0 → s.pool.parent ≠ noDev →
    l = mergeRanks (if s.pool.gather < 2 then [(s.rankAt s.pool.number, true)] else []) (s.pool.report ++ s.lostRanks) → l ≠ [] → l.length ≤ 508 →
    exec .gatherSendTimer s = .next ((s.modPool (fun p => { p with
      gather := if p.gather = 0 then 1 else p.gather
      gatherSent := s.now
      gathered := mergeRanks p.gathered s.lostRanks
      report := [] })).tree s.pool.parent 0 0 false (.gather s.pool.gen l))) ∧
  (∀ (s : State), s.pool.isRoot = true → s.pool.gather = 1 → s.pool.gatherAt + s.setting 0x2020 7 ≤ s.now → exec .gatherTimeout s = .next ((s.closeGatherNow 1).afterWave.settled)) ∧
  (∀ (s : State) (rq : Req) (tag : Nat), MayPut s rq 0x2020 9 1 1 → s.pool.isRoot = true → s.pool.gather = 1 →
    exec (.closeGather rq tag) s = .next (((s.touch rq).closeGatherNow 2).afterWave.settled.respond rq (writeResp tag 0x2020 9 St.ok))) ∧
  (∀ (s : State) (rq : Req) (tag : Nat), MayPut s rq 0x2020 9 1 1 → s.pool.isRoot = false →
    exec (.closeGather rq tag) s = .next ((s.touch rq).respond rq (writeResp tag 0x2020 9 St.badRange))) ∧
  (∀ (s u : State), s.pool.isRoot = true → s.pool.gather = 2 → s.pool.waveAt + s.setting 0x2020 0x0B ≤ s.now →
    u = s.modPool (fun p => { p with gathered := mergeRanks p.gathered s.lostRanks }) →
    u.pool.waveOwed = true ∨ u.presentChanged = true → exec .readyWaveSend s = .next (u.readyWave.afterWave.settled)) ∧
  (∀ (s : State), s.pool.isRoot = true → s.pool.lastTick + s.setting 0x2020 0x0A ≤ s.now →
    exec .tickTimer s = .next ((s.modPool (fun p => { p with lastTick := s.now })).treeDown 0 0 .tick)) ∧
  (∀ (s : State), s.numbered = true → s.pool.isRoot = false → s.pool.root ≠ noDev → s.pool.lastTick + 3 * s.setting 0x2020 0x0A ≤ s.now → s.ancestor s.pool.number 6 = noDev →
    ∃ t, exec .tickMissed s = .next t ∧ OnlyChanges [.pool] s t ∧ t.pool.parent = noDev ∧ t.pool.root = noDev ∧ t.pool.authority = false) ∧
  (∀ (s : State), s.numbered = true → s.pool.isRoot = false → s.pool.parent ≠ noDev → s.unreachable s.pool.parent = true → s.ancestor s.pool.number 6 ≠ noDev →
    ∃ t, exec .parentUnreachable s = .next t ∧ OnlyChanges [.pool] s t ∧ t.pool.parent = s.ancestor s.pool.number 6 ∧ t.pool.root = s.pool.root) ∧
  (∀ (s : State) (c : Nat), s.candidateNo = some c → s.pool.root = noDev → s.numbered = true → (s.candidates.take c).all s.unreachable = true →
    s.pool.lastTick + c * s.setting 0x2020 6 ≤ s.now → exec .successionWaitExpiry s = .next ((s.takeRoot (if c = 0 then 0 else 1)).ownHeld.afterWave.settled)) ∧
  (∀ (s : State) (op n k : Nat), s.pool.barrier = some (op, n, k) → s.pool.isRoot = true → s.pool.barrierAt + s.setting 0x2300 3 ≤ s.now →
    exec .barrierLimit s = .next (s.barrierEnd op St.timeout (s.pool.present.length - n))) ∧
  (∀ (s u : State) (rq : Req) (tag : Nat), MayPut s rq 0x2002 7 1 1 → s.numbered = false →
    u = (s.touch rq).modPool (fun p => { p with joinState := 1 }) →
    exec (.joinStart rq tag) s = .next (((u.send (u.setting 0x2002 3) (.tree { root := 0xFFFF, term := 0, pool := u.setting 0x2002 1 } (.join Config.identity (u.setting 0x2002 2)))).count
      501 1).respond rq (writeResp tag 0x2002 7 St.ok)))

/-- R339 to R341, R510: what acts at its latch time. -/
def Obligations.LatchOperationsAct : Prop :=
  (∀ (s : State) (o : LatchOp) (m : Nat), s.opDue (fun a => match a with | .freeze _ => true | _ => false) = some o → o.act = .freeze m →
    exec .counterFreeze s = .next ((((s.opLate o).modRec (fun r => { r with latchMask := r.latchMask ||| BitVec.ofNat 32 m })).opDone o.op St.ok 0).settled)) ∧
  (∀ (s : State) (o : LatchOp) (m : Nat), s.opDue (fun a => match a with | .release _ => true | _ => false) = some o → o.act = .release m →
    exec .counterRelease s = .next ((((s.opLate o).modRec (fun r => { r with latchMask := r.latchMask &&& ~~~ BitVec.ofNat 32 m })).opDone o.op St.ok 0).settled)) ∧
  (∀ (s : State) (o : LatchOp), s.opDue isStateAction = some o →
    exec .poolStateApply s = .next ((((s.opLate o).applyAction o.act o.dev).opDone o.op St.ok 0).settled)) ∧
  (∀ (s u : State) (o : LatchOp) (cold : Bool) (c : Instr), (cold, c) ∈ [(false, Instr.poolResetWarm), (true, .poolResetCold)] →
    s.opDue (fun a => match a with | .poolReset c => c == cold | _ => false) = some o → u = s.opLate o →
    exec c s = .next (((u.modHost (fun h => { h with withhold := addSet 2 h.withhold })).modPool (fun p => { p with
      resetDue := some (cold, u.now), ops := p.ops.filter (fun x => x.op != o.op) })).raise 138 (b2n cold) (leBytes 8 o.op ++ leBytes 1 (if cold then 5 else 4))))

/-- R359 to R371: grants, swaps and ages in the lattice. -/
def Obligations.LatticeGrantsAndSwaps : Prop :=
  (∀ (s : State) (r : Nat), (s.arb r).lock = none →
    exec (.arbitrate r true) s = .next (s.grantRule r (s.entryAt r s.poolTime).1 (s.entryAt r s.poolTime).2)) ∧
  (∀ (s : State) (r src left stop : Nat), (s.arb r).lock = some (src, left, stop) → s.poolTime < stop →
    exec (.arbitrate r true) s = .next (s.grantLocked r src)) ∧
  (∀ (s : State) (r owner : Nat) (lend : Bool), (s.arb r).queue = [] →
    s.grantRule r owner lend = (s.count 354 1).modArb r (fun a => { a with idle := a.idle + 1, borrow := none })) ∧
  (∀ (s : State) (r owner : Nat) (lend : Bool) (q : LReq), (s.arb r).queue = [q] → q.cls = owner → q.lockLen = 0 → s.keyOf r q ≠ ageCap →
    s.grantRule r owner lend = s.grant r q owner) ∧
  (∀ (s : State) (r owner : Nat) (q : LReq), (s.arb r).queue = [q] → q.cls ≠ owner →
    s.grantRule r owner false = (s.count 354 1).modArb r (fun a => { a with idle := a.idle + 1, borrow := none })) ∧
  (∀ (s : State) (r : Nat) (a : Arb), s.lattice.arbs = [(r, a)] → a.pending.isSome = true → a.swapAt ≤ s.poolTime → s.lattice.pendSenior = none →
    ∃ u, u = (s.modArb r (fun a => { a with
      active := a.pending.getD []
      pending := none
      gen := (a.gen + 1) % 2 ^ 32
      lock := none })).count 359 1 ∧
    exec .tableSwap s = .next (u.raise 192 0 (leBytes 4 (2 ^ r) ++ leBytes 4 (u.arb r).gen ++ leBytes 1 St.ok))) ∧
  (∀ (s : State) (r : Nat), exec (.ageInspection r) s =
    .next (((s.arb r).queue.filter (fun q => !q.sat && decide (ageCap ≤ s.ageOf q))).foldl (fun s q => s.satEvent r q)
      (s.modArb r (fun a => { a with queue := a.queue.map (fun q => if !q.sat && decide (ageCap ≤ s.ageOf q) then { q with sat := true } else q) })))) ∧
  (∀ (s : State) (rq : Req) (tag r : Nat), MayPut s rq (0x3440 + r) 0x0F 1 1 →
    exec (.arbiterStatsClear rq tag r) s = .next (((s.touch rq).modArb r (fun a => { a with
      grants := [0, 0, 0, 0, 0, 0, 0, 0], borrowed := 0, idle := 0, locks := 0, bound := 0, longest := 0, sats := 0 })).respond rq (writeResp tag (0x3440 + r) 0x0F St.ok)))

/-- R382 to R402: what happens to a DRAM channel. -/
def Obligations.ChannelsTrainRefreshAndRetry : Prop :=
  (∀ (s : State) (n step rank : Nat), (s.chan n).state = 1 →
    exec (.trainingComplete n true step rank) s = .next ((s.modChan n (fun c => { c with status := St.ok, trainTime := s.now - c.since })).chanBack n)) ∧
  (∀ (s : State) (n step rank : Nat), (s.chan n).state = 1 →
    exec (.trainingComplete n false step rank) s = .next (((s.modChan n (fun c => { c with
      status := St.internal, trainTime := s.now - c.since })).goOffline n 1 step rank).pumpRetire)) ∧
  (∀ (s : State) (n : Nat), (s.chan n).state = 3 →
    exec (.retrainComplete n false) s = .next (((s.modChan n (fun c => { c with status := St.internal, trainTime := s.now - c.since })).goOffline n 1 0 0).leaveSync)) ∧
  (∀ (s : State) (n rank : Nat), s.refreshes n = true → (s.rankOf n rank).state ≠ 0 →
    exec (.refreshDue n rank false) s = .next ((s.modChan n (fun c => { c with
      ranks := modD c.ranks rank {} (fun r => { r with owed := 0 }) })).count (8 * n + 4) ((s.rankOf n rank).owed + 1))) ∧
  (∀ (s : State) (n rank : Nat), s.refreshes n = true → (s.rankOf n rank).state ≠ 0 → (s.rankOf n rank).owed + 1 < s.setting 0x3500 0x0D →
    ∃ t, exec (.refreshDue n rank true) s = .next t ∧ OnlyChanges [.dram] s t ∧ (t.rankOf n rank).owed = (s.rankOf n rank).owed + 1) ∧
  (∀ (s : State) (n rank : Nat) (doubled : Bool) (temp : Int), s.refreshes n = true → (s.rankOf n rank).state ≠ 0 →
    ∃ t, exec (.mr4Poll n rank (doubled, false) temp) s = .next t ∧ OnlyChanges [.dram] s t ∧ (t.rankOf n rank).doubled = doubled ∧ (t.chan n).temp = temp) ∧
  (∀ (s : State) (n rank : Nat) (doubled : Bool) (temp : Int), s.refreshes n = true → (s.rankOf n rank).state ≠ 0 → (s.rankOf n rank).hotAt = none →
    exec (.mr4Poll n rank (doubled, true) temp) s = .next ((s.modChan n (fun c => { c with
      temp := temp
      ranks := modD c.ranks rank {} (fun r => { r with doubled := true, hotAt := some s.now }) })).raise (49 + 2 * n) 3
        (leBytes 4 (s.chan n).episodes ++ leBytes 1 rank ++ leBytes 4 (ofInt 32 temp) ++ leBytes 4 0))) ∧
  (∀ (s : State) (n : Nat), (s.chan n).state = 2 → (s.chan n).driftAt = 0 ∨ (s.chan n).driftAt + s.setting 0x3500 0x11 ≤ s.now →
    exec (.driftCheck n true) s = .next ((s.ask n 0x11 6 1).modChan n (fun c => { c with driftAt := s.now }))) ∧
  (∀ (s : State) (n : Nat), (s.chan n).state = 2 → (s.chan n).driftAt = 0 ∨ (s.chan n).driftAt + s.setting 0x3500 0x11 ≤ s.now →
    exec (.driftCheck n false) s = .next (((s.ask n 0x11 6 1).modChan n (fun c => { c with driftAt := s.now })).freezeOr n 2 (fun s => s.chanLost n 6 false))) ∧
  (∀ (s : State) (n sub : Nat), s.refreshes n = true →
    ∃ t, exec (.rcdAlert n sub) s = .next t ∧ OnlyChanges [.dram] s t ∧ (t.chan n).alert = addSet sub (s.chan n).alert) ∧
  (∀ (s : State) (n : Nat), (s.chan n).alert ≠ [] → 0 < s.setting 0x3500 0x0E →
    exec (.retryReplay n false) s = .next ((s.count (8 * n + 6) 1).modChan n (fun c => { c with
      episodes := satAdd c.episodes 1 0xFFFFFFFF, failRun := 0, alert := [] }))) ∧
  (∀ (s : State) (n : Nat), (s.chan n).state = 2 → s.setting 0x3500 0x0F ≠ 0 → (s.chan n).lastUse + s.setting 0x3500 0x0F ≤ s.now →
    exec (.idleSelfRefresh n) s = .next ((s.count (8 * n + 4) (((s.chan n).ranks.map (fun r => r.2.owed)).foldl (· + ·) 0)).modChan n (fun c => { c with
      state := 4
      selfSince := s.now
      ranks := c.ranks.map (fun r => (r.1, { r.2 with owed := 0 })) })))

/-- R392, R395, R396, R398 to R401: what the operator asks of a DRAM channel. -/
def Obligations.ChannelsByOperator : Prop :=
  (∀ (s u : State) (rq : Req) (tag n st : Nat), MayPut s rq (0x3510 + n) 8 1 1 → ((s.touch rq).chan n).state = 2 → (s.touch rq).askLeave n 1 = (u, st) →
    exec (.channelRetrain rq tag n) s = .next (u.respond rq (writeResp tag (0x3510 + n) 8 st))) ∧
  (∀ (s u : State) (rq : Req) (tag n st : Nat), MayPut s rq (0x3510 + n) 7 1 1 → ((s.touch rq).chan n).state = 2 → (s.touch rq).askLeave n 2 = (u, st) →
    exec (.channelOffline rq tag n) s = .next (u.respond rq (writeResp tag (0x3510 + n) 7 st))) ∧
  (∀ (s : State) (n what : Nat), s.twin.state = 1 → s.standbyInSync = true →
    s.askLeave n what = ((s.modChan n (fun c => { c with leaving := what })).modTwin (fun t => { t with state := 9, handAt := s.now }), St.ok)) ∧
  (∀ (s : State) (rq : Req) (tag n : Nat), MayPut s rq (0x3510 + n) 7 1 2 → ((s.touch rq).chan n).state = 5 →
    exec (.channelReturn rq tag n true) s = .next ((((s.touch rq).chanBack n).chanEvent n 3 0 0 0).respond rq (writeResp tag (0x3510 + n) 7 St.ok))) ∧
  (∀ (s : State) (rq : Req) (tag n : Nat), MayPut s rq (0x3510 + n) 7 1 2 → ((s.touch rq).chan n).state = 2 →
    exec (.channelReturn rq tag n true) s = .next ((s.touch rq).respond rq (writeResp tag (0x3510 + n) 7 St.busy))) ∧
  (∀ (s : State) (rq : Req) (tag n rank : Nat), MayPut s rq (0x3510 + n) 5 1 rank → ((s.touch rq).rankOf n rank).state ≠ 0 →
    exec (.retireRank rq tag n rank) s = .next ((((s.touch rq).retireRank n rank).pumpRetire).respond rq (writeResp tag (0x3510 + n) 5 St.ok))) ∧
  (∀ (s : State) (rq : Req) (tag n rank : Nat), MayPut s rq (0x3510 + n) 5 1 rank → ((s.touch rq).rankOf n rank).state = 0 →
    exec (.retireRank rq tag n rank) s = .next ((s.touch rq).respond rq (writeResp tag (0x3510 + n) 5 St.badRange))) ∧
  (∀ (s : State) (rq : Req) (tag n : Nat), MayPut s rq 0x3500 0x17 1 n →
    exec (.freezeChannel rq tag n) s = .next (((s.touch rq).freezeOr n 3 id).respond rq (writeResp tag 0x3500 0x17 St.ok))) ∧
  (∀ (s : State) (rq : Req) (tag addr : Nat), MayPut s rq 0x3500 0x15 8 addr → (s.touch rq).dram.frozen ≠ 0xFF → slotChan (addr / extentBytes) = (s.touch rq).dram.frozen →
    addr < (s.touch rq).ownExtents * extentBytes →
    exec (.freezeRead rq tag addr) s = .next ((((s.touch rq).modDram (fun d => { d with readAddr := addr, reading := some s.now })).emit (.frozenRead ((s.touch rq).cellOf addr))).respond rq (writeResp tag 0x3500 0x15 St.ok))) ∧
  (∀ (s : State) (bytes : Bytes), s.dram.reading.isSome = true →
    ∃ t, exec (.freezeReadDone bytes) s = .next t ∧ OnlyChanges [.dram] s t ∧ t.dram.readData = bytes.take 80 ∧ t.dram.reading = none)

/-- R410 to R413, R420 to R424: lines that are read, devices marked bad, waits that end, and the scrubber. -/
def Obligations.LinesAreCheckedAndRepaired : Prop :=
  (∀ (s : State) (ln : Nat) (b0 b1 h0 h1 : List Nat) (st : Bool), s.chanServes (slotChan (lineSlot ln)) = true → lineSlot ln < s.ownExtents → (∀ r ∈ s.ecc.repairs, r.line ≠ ln) → s.x8Mirrored ln = false → h0 = halfOf s.x8 0 (b0 ++ b1) → h1 = halfOf s.x8 1 (b0 ++ b1) →
    assoc (s.eccChan (slotChan (lineSlot ln))).erased (s.rankSub ln) = none → decodeHalf h0 [] = .clean → decodeHalf h1 [] = .clean →
    exec (.dramReadComplete ln b0 b1 st) s = .next (s.putLine ln (BitVec.ofNat 512 (halfData h0 + halfData h1 * 2 ^ 256)) false)) ∧
  (∀ (s : State) (ln : Nat) (b0 b1 h0 h1 r sy : List Nat), s.chanServes (slotChan (lineSlot ln)) = true → lineSlot ln < s.ownExtents → (∀ r ∈ s.ecc.repairs, r.line ≠ ln) → s.x8Mirrored ln = false → h0 = halfOf s.x8 0 (b0 ++ b1) → h1 = halfOf s.x8 1 (b0 ++ b1) →
    assoc (s.eccChan (slotChan (lineSlot ln))).erased (s.rankSub ln) = none → decodeHalf h0 [] = .corrected r sy → decodeHalf h1 [] = .clean →
    exec (.dramReadComplete ln b0 b1 false) s = .next (((s.putLine ln (BitVec.ofNat 512 (halfData r + halfData h1 * 2 ^ 256)) false).lineRewritten ln).corrected ln 0 (.corrected r sy) .clean)) ∧
  (∀ (s : State) (ln : Nat) (b0 b1 h0 h1 : List Nat), s.chanServes (slotChan (lineSlot ln)) = true → lineSlot ln < s.ownExtents → (∀ r ∈ s.ecc.repairs, r.line ≠ ln) → s.x8Mirrored ln = false → h0 = halfOf s.x8 0 (b0 ++ b1) → h1 = halfOf s.x8 1 (b0 ++ b1) →
    assoc (s.eccChan (slotChan (lineSlot ln))).erased (s.rankSub ln) = none → decodeHalf h0 [] = .poisoned →
    exec (.dramReadComplete ln b0 b1 false) s = .next (s.setPoison ln true)) ∧
  (∀ (s : State) (ln : Nat) (b0 b1 h0 h1 : List Nat), s.chanServes (slotChan (lineSlot ln)) = true → lineSlot ln < s.ownExtents → (∀ r ∈ s.ecc.repairs, r.line ≠ ln) → s.x8Mirrored ln = false → h0 = halfOf s.x8 0 (b0 ++ b1) → h1 = halfOf s.x8 1 (b0 ++ b1) →
    assoc (s.eccChan (slotChan (lineSlot ln))).erased (s.rankSub ln) = none → decodeHalf h0 [] = .uncorrectable → decodeHalf h1 [] = .clean →
    exec (.dramReadComplete ln b0 b1 false) s = .next (s.uncorrectable ln 0)) ∧
  (∀ (s : State) (rq : Req) (tag n v : Nat), MayPut s rq (0x3620 + n) 4 2 v → ((s.touch rq).rankOf n (v % 4)).state ≠ 0 → v / 16 % 16 < (if (s.touch rq).x8 then 5 else 10) →
    v = v % 4 + 4 * (v / 4 % 2) + 16 * (v / 16 % 16) → assoc ((s.touch rq).eccChan n).erased (2 * (v % 4) + v / 4 % 2) = none →
    exec (.markDeviceBad rq tag n v) s = .next (((s.touch rq).markBad n (2 * (v % 4) + v / 4 % 2) (v / 16 % 16)).respond rq (writeResp tag (0x3620 + n) 4 St.ok))) ∧
  (∀ (s : State) (rq : Req) (tag n v j : Nat), MayPut s rq (0x3620 + n) 5 1 v → assoc ((s.touch rq).eccChan n).erased v = some j →
    exec (.clearErasure rq tag n v) s = .next (((((s.touch rq).modEccChan n (fun e => { e with erased := eraseKey v e.erased })).modEcc (fun e => { e with
      badDimm := e.badDimm.filter (fun x => x.1 != 8 * n + v) })).raise 85 1 (leBytes 1 n ++ leBytes 1 (v / 2) ++ leBytes 1 (v % 2) ++ leBytes 1 j ++ leBytes 2 0)).respond rq
        (writeResp tag (0x3620 + n) 5 St.ok))) ∧
  (∀ (s : State) (n : Nat), (s.eccChan n).countsAt + s.setting 0x3600 0x0A ≤ s.now → ∃ t, exec (.deviceBadWindow n) s = .next t ∧ OnlyChanges [.ecc] s t ∧ (t.eccChan n).counts = []) ∧
  (∀ (s : State) (ln : Nat) (r : Repair), s.ecc.repairs.find? (fun r => r.line == ln) = some r → r.since + s.setting 0x3600 7 ≤ s.now →
    exec (.repairWaitExpiry ln) s = .next (s.failRepair r).pumpRepairs.advanceWorks) ∧
  (∀ (s : State) (slot g at_ top : Nat), s.ecc.resend.find? (fun e => e.1 == slotGran slot g) = some (slotGran slot g, at_, top) → at_ + s.setting 0x3600 7 ≤ s.now →
    slotGran slot g ∉ s.twin.stale →
    exec (.standbyResendWaitExpiry slot g) s = .next ((s.leaveSync.modTwin (fun t => { t with stale := addSet (slotGran slot g) t.stale })).raise 93 1
      (leBytes 3 slot ++ leBytes 2 g ++ leBytes 1 1))) ∧
  (∀ (s : State) (n : Nat) (b0 b1 : List Nat), s.flag 0x3600 3 = true → s.chanServes n = true → s.chanLines ≠ 0 → (s.eccChan n).scrubAt + s.setting 0x3600 4 / s.chanLines ≤ s.now →
    s.chanLines ≤ s.skipRetired n (s.eccChan n).scrub (s.chanLines / 32768) → exec (.scrubLine n b0 b1) s = .next (s.passEnds n)) ∧
  (∀ (s w u v : State) (n k ln : Nat) (b0 b1 : List Nat), s.flag 0x3600 3 = true → s.chanServes n = true → s.chanLines ≠ 0 → (s.eccChan n).scrubAt + s.setting 0x3600 4 / s.chanLines ≤ s.now →
    k = s.skipRetired n (s.eccChan n).scrub (s.chanLines / 32768) → k < s.chanLines → ln = scrubLineOf n k →
    w = ((s.askRead (lineSlot ln) 0x0F 6 1).count 485 1).modEcc (fun e => { e with scrubbed := e.scrubbed + 1 }) →
    u = w.modEccChan n (fun e => { e with scrub := k + 1, scrubAt := w.now, passLines := e.passLines + 1 }) →
    (∀ r ∈ u.ecc.repairs, r.line ≠ ln) → v = ((u.lineRead ln 1 (b0 ++ b1)).scrubPoison n ln).scrubLeave ln → v.skipRetired n (k + 1) (v.chanLines / 32768) < v.chanLines →
    exec (.scrubLine n b0 b1) s = .next v)

/-- R432 to R448: keys, contexts, blocks and pipelines of the cipher engine. -/
def Obligations.CipherKeysAndBlocksAct : Prop :=
  (∀ (s : State) (rq : Req) (tag n : Nat) (b : Bytes), MayWrite s rq (0x8000 + n) 1 b → tyCode (0x8000 + n) 1 = 9 → (s.touch rq).loadFails n b = St.ok →
    exec (.keyLoad rq tag n b) s = .next ((((((s.touch rq).modKey n (fun _ => {
      state := 1
      kind := loadKind b
      gen := loadGen b
      kcv := keyCheck (loadKind b) (loadKey b)
      key := loadKey b
      ever := true })).count 453 1).keyEvent n (loadKind b) (loadGen b) St.ok).keyArrived n ((s.touch rq).keySlot n).gen).respond rq (writeResp tag (0x8000 + n) 1 St.ok))) ∧
  (∀ (s : State) (rq : Req) (tag n : Nat), MayPut s rq (0x8000 + n) 2 1 1 →
    exec (.keyErase rq tag n) s = .next (((((((((s.touch rq).modKey n (fun k => { k with state := 2, key := 0, ever := true })).count 454 1).keyEvent n
      ((s.touch rq).keySlot n).kind ((s.touch rq).keySlot n).gen St.ok).endUsers n).hingeKeyGone n).homeKeyGone n)).respond rq (writeResp tag (0x8000 + n) 2 St.ok))) ∧
  (∀ (s : State) (slot : Nat), (s.keySlot slot).state = 0 → s.hingeKeyUsed slot = true → assoc s.cipher.reminded (2 * slot + 1) = none →
    exec (.keyWaitReminder slot true) s = .next ((s.modCipher (fun c => { c with reminded := insertKey (2 * slot + 1) s.now c.reminded })).raise 213 0
      (leBytes 2 slot ++ leBytes 1 1))) ∧
  (∀ (s : State) (user : CipherUser) (slot mode gen ring idx len k : Nat), user ≠ .ring → s.keyFits user slot gen = true → s.freeCtx user = some k →
    exec (.contextAcquired user slot mode gen ring idx len) s = .next ((s.modCipher (fun c => { c with ctxs := insertKey k {
      user := user, slot := slot, gen := (s.keySlot slot).gen, kind := (s.keySlot slot).kind, key := (s.keySlot slot).key, mode := mode, ring := ring, idx := idx, len := len } c.ctxs })).ask 25 (cipherRequester user ring) (cipherClass user ring) (ceilDiv len 256))) ∧
  (∀ (s : State) (ctx pipe : Nat) (c : CCtx), assoc s.cipher.ctxs ctx = some c → c.user ≠ .ring → s.cipher.pipes.getLsbD pipe = true → c.released + 16 < c.len →
    exec (.cipherBlockDone ctx pipe true true true) s = .next (s.modCtx ctx (fun c => { c with released := c.released + 16 }))) ∧
  (∀ (s : State) (ctx pipe : Nat) (c : CCtx), assoc s.cipher.ctxs ctx = some c → c.user ≠ .ring → s.cipher.pipes.getLsbD pipe = true → c.len ≤ c.released + 16 →
    exec (.cipherBlockDone ctx pipe true true true) s = .next (s.freeContext ctx)) ∧
  (∀ (s : State) (ctx pipe : Nat) (c : CCtx) (f : Flight), assoc s.cipher.ctxs ctx = some c → c.user = .ring → s.cipher.pipes.getLsbD pipe = true →
    s.flight c.ring c.idx = some f → f.stage = 2 → c.released < c.len → exec (.cipherBlockDone ctx pipe true true true) s = .next (s.ringBlock ctx c f).kickFlights) ∧
  (∀ (s : State) (ctx pipe : Nat) (c : CCtx) (stageOk keyOk hashOk : Bool), assoc s.cipher.ctxs ctx = some c → c.user ≠ .ring → s.cipher.pipes.getLsbD pipe = true →
    (stageOk && keyOk && hashOk) = false → exec (.cipherBlockDone ctx pipe stageOk keyOk hashOk) s = .next ((s.pipeFault pipe c.user).cipherFault ctx c).kickFlights) ∧
  (∀ (s : State) (rq : Req) (tag : Nat), MayPut s rq 0x3700 8 1 1 → (s.touch rq).cipher.pipes = BitVec.allOnes 16 →
    exec (.returnPipelines rq tag (BitVec.allOnes 16)) s =
      .next (((s.touch rq).modCipher (fun c => { c with testFail := (c.testFail ||| ~~~ c.pipes) &&& ~~~ BitVec.allOnes 16 })).respond rq (writeResp tag 0x3700 8 St.ok))) ∧
  (∀ (s : State) (rq : Req) (tag p : Nat), MayPut s rq 0x3700 8 1 1 → (List.range 16).filter (fun p => !(s.touch rq).cipher.pipes.getLsbD p) = [p] →
    ∃ u, u = (((s.touch rq).modCipher (fun c => { c with testFail := (c.testFail ||| ~~~ c.pipes) &&& ~~~ BitVec.allOnes 16 })).count 457
      ((s.now - getD (s.touch rq).cipher.outAt p s.now) / 125)) ∧
      exec (.returnPipelines rq tag (BitVec.allOnes 16)) s = .next (((u.modCipher (fun c => { c with
        pipes := c.pipes ||| (1#16 <<< p), outAt := eraseKey p c.outAt })).raise 211 1 (leBytes 1 p ++ leBytes 1 0)).respond rq (writeResp tag 0x3700 8 St.ok)))

/-- R454 to R461: engines, images and the rolling update. -/
def Obligations.EnginesAndImagesAct : Prop :=
  (∀ (s : State) (e cause addr : Nat), s.engineRuns e = true → s.steward.updating = 0xFF →
    exec (.engineTrap e cause addr) s = .next ((((s.modEngine e (fun x => { x with
      state := if 4 ≤ (((s.engine e).recent.filter (fun t => s.now < t + 10000000000)) ++ [s.now]).length then 2 else 3
      cause := cause
      traps := satAdd x.traps 1 0xFFFFFFFF
      recent := ((s.engine e).recent.filter (fun t => s.now < t + 10000000000)) ++ [s.now] })).count (512 + 8 * e + 7) 1).raise (224 + e) cause
        (leBytes 1 cause ++ leBytes 6 addr)).clusterCheck (e / 8))) ∧
  (∀ (s : State) (e : Nat), exec (.engineWatchdogExpiry e) s = exec (.engineTrap e 3 0) s ∧ ∃ t, exec (.engineWatchdogExpiry e) s = .next t) ∧
  (∀ (s : State) (e : Nat), (s.engine e).state = 3 →
    ∃ t, exec (.engineRestart e) s = .next t ∧ OnlyChanges [.steward] s t ∧ (t.engine e).state = 0) ∧
  (∀ (s : State) (rq : Req) (tag : Nat), MayPut s rq 0x3820 4 1 1 → (s.touch rq).steward.updating = 0xFF → ((s.touch rq).image (s.touch rq).otherSlot).state = 1 →
    ((s.touch rq).image (s.touch rq).otherSlot).ifaceNow = ((s.touch rq).image (s.touch rq).steward.running).ifaceNow →
    s.persist.state ≠ 1 ∧ s.persist.state ≠ 3 → s.twin.state ≠ 6 ∧ s.twin.state ≠ 9 → (∀ c, c < 6 → ((s.touch rq).cluster c).state = 0) →
    exec (.activateRolling rq tag) s = .next ((((s.touch rq).modSteward (fun w => { w with actStatus := St.busy, rollStop := false })).updateCluster 0 (s.touch rq).otherSlot).respond rq (writeResp tag 0x3820 4 St.ok))) ∧
  (∀ (s : State) (rq : Req) (tag : Nat), MayPut s rq 0x3820 4 1 2 → (s.touch rq).steward.updating = 0xFF → ((s.touch rq).image (s.touch rq).otherSlot).state = 1 →
    exec (.activateAtReset rq tag) s = .next ((((s.touch rq).modImage (s.touch rq).otherSlot (fun i => { i with active := true })).modImage (s.touch rq).steward.running
      (fun i => { i with active := false })).respond rq (writeResp tag 0x3820 4 St.ok))) ∧
  (∀ (s : State) (rq : Req) (tag : Nat), MayPut s rq 0x3820 4 1 3 → (s.touch rq).steward.updating = 0xFF → ((s.touch rq).image 0).active = true → ((s.touch rq).image 1).state = 1 ∨ ((s.touch rq).image 1).state = 2 →
    exec (.activateRollback rq tag) s = .next ((((s.touch rq).modImage 1 (fun i => { i with active := true })).modImage 0 (fun i => { i with active := false })).respond rq
      (writeResp tag 0x3820 4 St.ok))) ∧
  (∀ (s : State), s.steward.updating < 5 → s.steward.rollBack = none →
    (((s.clusterServes s.steward.updating).clusterEvent s.steward.updating 2 St.ok).steward.rollStop = false) →
    exec (.clusterUpdateDone true) s = .next (((s.clusterServes s.steward.updating).clusterEvent s.steward.updating 2 St.ok).updateCluster (s.steward.updating + 1)
      ((s.clusterServes s.steward.updating).clusterEvent s.steward.updating 2 St.ok).otherSlot)) ∧
  (∀ (s : State), s.steward.updating < 6 → s.steward.rollBack = none →
    exec (.clusterUpdateDone false) s = .next (s.rollBackFrom s.steward.updating s.steward.updating)) ∧
  (∀ (s : State) (mem : OnDie) (addr v : Nat) (word : BitVec 80), decodeWord word.toNat = some (v, false) → exec (.wordScrub mem addr word) s = .next s) ∧
  (∀ (s : State) (mem : OnDie) (addr v : Nat) (word : BitVec 80), decodeWord word.toNat = some (v, true) →
    exec (.wordScrub mem addr word) s = .next ((s.count 486 1).raise 90 0 (leBytes 1 (onDieNum mem) ++ leBytes 4 addr))) ∧
  (∀ (s : State) (mem : OnDie) (addr : Nat) (word : BitVec 80), decodeWord word.toNat = none →
    exec (.wordScrub mem addr word) s = .next (((s.count 487 1).raise 91 0 (leBytes 1 (onDieNum mem) ++ leBytes 4 addr)).wordLost mem addr))

/-- R462 to R469: the clusters' caches and merging buffers. -/
def Obligations.CachesServeAndMaintain : Prop :=
  (∀ (s : State) (e addr w : Nat) (x : CWay), s.engineRuns e = true → s.cacheOn (e / 8) = true → (s.cluster (e / 8)).find (addr / 64) = some (w, x) → x.prefetched = false →
    exec (.cacheLoad e addr .cached true) s = .next ((((s.count (512 + 8 * e + 2) 1).count (512 + 8 * e + 4) 0).modCluster (e / 8) (fun k =>
      k.putWay (lineSet (addr / 64)) w { x with age := 0, prefetched := false })).emit (.clusterLoad (e / 8) e ((s.cluster (e / 8)).overlay (addr / 64) x.data) x.poison))) ∧
  (∀ (s : State) (e addr : Nat), s.engineRuns e = true → s.cacheOn (e / 8) = true → (s.cluster (e / 8)).find (addr / 64) = none →
    exec (.cacheLoad e addr .cached true) s = .next (s.missLoad (e / 8) e (addr / 64) false)) ∧
  (∀ (s : State) (e addr : Nat) (line : Line) (be : BitVec 64), s.engineRuns e = true → s.cacheOn (e / 8) = false → (s.cluster (e / 8)).merge = [] → be ≠ BitVec.allOnes 64 →
    ∃ t, exec (.cacheStore e addr line be .cached) s = .next t ∧ OnlyChanges [.steward, .recorder] s t ∧ t.out = s.out ∧
      (t.cluster (e / 8)).merge = [{ line := addr / 64, data := line, mask := be, since := s.now }]) ∧
  (∀ (s : State) (c addr : Nat) (line : Line) (poison : Bool) (f : CFill), (s.cluster c).fills.find? (fun f => f.line == addr / 64) = some f → f.install = false → s.inDram (addr / 64) = false →
    exec (.cacheFillComplete c addr line poison) s = .next (((s.modCluster c (fun k => { k with fills := k.fills.eraseP (fun x => x.line == addr / 64) })).modCluster c Cluster.settleLocks).emits
      (f.waiters.map (fun e => .clusterLoad c e ((s.cluster c).overlay (addr / 64) line) poison)))) ∧
  (∀ (s : State) (c : Nat), exec (.mergeEntryTimeout c) s = .next (s.drainFirst c ((s.cluster c).merge.filter (fun e => s.elapsed e.since 1000)).length)) ∧
  (∀ (s : State) (c addr : Nat), exec (.invalidateLine c addr) s =
    .next (s.modCluster c (fun k => ((k.dropLine (addr / 64)).stopFills (fun f => f.line == addr / 64)).settleLocks))) ∧
  (∀ (s : State) (c : Nat), exec (.invalidateAll c) s = .next (s.modCluster c (fun k =>
    ((k.mapWays (fun w x => if k.locked.getLsbD w then x else { x with valid := false })).stopFills (fun _ => true)).settleLocks))) ∧
  (∀ (s : State) (c : Nat), exec (.invalidateAllLocked c) s = .next (s.modCluster c (fun k =>
    ((k.mapWays (fun _ x => { x with valid := false })).stopFills (fun _ => true)).settleLocks))) ∧
  (∀ (s : State) (c addr : Nat) (line : Line) (poison : Bool) (f : CFill), (s.cluster c).fills.find? (fun f => f.line == addr / 64) = some f → f.install = false → s.inDram (addr / 64) = true →
    exec (.cacheFillComplete c addr line poison) s = .next (((s.modCluster c (fun k => { k with fills := k.fills.eraseP (fun x => x.line == addr / 64) })).modCluster c Cluster.settleLocks).emits
      (f.waiters.map (fun e => .clusterLoad c e ((s.cluster c).overlay (addr / 64) (s.line (addr / 64))) (s.linePoison (addr / 64)))))) ∧
  (∀ (s u : State) (c : Nat) (e : MEnt), (s.cluster c).merge = [e] → s.inDram e.line = true →
    u = ((s.modCluster c (fun k => { k with merge := k.merge.drop 1 })).emit (.clusterStore c (64 * e.line) e.data e.mask e.poison)).askWrite (lineSlot e.line) (0x12 + c) 7 1 →
    exec (.drain c) s = .next (u.putLine e.line (mergeLine (s.line e.line) e.data e.mask) (e.poison || (e.mask != BitVec.allOnes 64 && s.linePoison e.line)))) ∧
  (∀ (s : State) (c : Nat), (∀ e ∈ (s.cluster c).merge, s.inDram e.line = false) → ∃ t, exec (.drain c) s = .next t ∧ OnlyChanges [.out, .steward] s t ∧ (t.cluster c).merge = [] ∧
    t.out = s.out ++ (s.cluster c).merge.map (fun e => .clusterStore c (64 * e.line) e.data e.mask e.poison)) ∧
  (∀ (s : State) (c way addr : Nat), (s.cluster c).locked.getLsbD way = true → s.cacheOn c = true → (s.cluster c).find (addr / 64) = none → (s.cluster c).fills = [] →
    exec (.lockFill c way addr) s = .next ((s.modCluster c (fun k => { k with fills := k.fills ++ [{ line := addr / 64, kind := 4, way := way }] })).fetchLine c (addr / 64))) ∧
  (∀ (s : State) (c way : Nat), (s.cluster c).locked = 0 → (s.cluster c).lockPend = [] → way < 16 →
    exec (.lockWay c way) s = .next (s.modCluster c (fun k => ({ k with lockPend := addSet way k.lockPend } : Cluster).settleLocks))) ∧
  (∀ (s : State) (c way : Nat), ∃ t, exec (.unlockWay c way) s = .next t ∧ OnlyChanges [.steward] s t ∧ (t.cluster c).locked = (s.cluster c).locked &&& ~~~ (1#16 <<< way)) ∧
  (∀ (s : State) (rq : Req) (tag c : Nat), MayPut s rq (0x3810 + c) 2 1 0 →
    exec (.cacheDisable rq tag c) s = .next ((((s.touch rq).setSetting (0x3810 + c) 2 0).drainAll c).respond rq (writeResp tag (0x3810 + c) 2 St.ok))) ∧
  (∀ (s : State) (rq : Req) (tag c : Nat), MayPut s rq (0x3810 + c) 2 1 1 →
    exec (.cacheEnable rq tag c) s = .next ((((s.touch rq).modCluster c (fun k => ({ k with sets := [], locked := 0, lockPend := [] } : Cluster).stopFills (fun _ => true))).setSetting
      (0x3810 + c) 2 1).respond rq (writeResp tag (0x3810 + c) 2 St.ok)))

namespace Sys2Proof.Claims

/-- A strongbox descriptor passes the checks of R477 and R488, and has room (R477). -/
def SbAccepts (s : State) (op : Nat) (d : SbDesc) : Prop :=
  formFails op d = [] ∧ s.protFails op d = [] ∧ sbDescChecks op d = true ∧ s.sbOut (fun _ => true) < 64 ∧
    (srcIsDict d.src = true → s.sbOut (fun x => x == d.src) = 0 ∧ s.sbOut srcIsDict < 4)

/-- The descriptor as it is queued: one of the dictionary takes its requester's buffer (R477). -/
def sbTaken (s : State) (d : SbDesc) : SbDesc :=
  { d with data := match d.src with | .dict rq => reqGet s.sbox.buffers rq [] | _ => d.data }

end Sys2Proof.Claims

/-- R476 to R482, R487, R488: the strongbox takes a descriptor, and what its pulses and timers do. -/
def Obligations.StrongboxTakesWork : Prop :=
  (∀ (s : State) (op : Nat) (d : SbDesc) (bad : List Nat) (c : Instr),
    (op, c) ∈ [(1, Instr.sbRead d bad), (6, .sbMarginRead d bad)] → SbAccepts s op d →
    exec c s = .next ((s.modSbox (fun b => { b with queue := b.queue ++ [{ op := op, d := sbTaken s d, bad := bad }] })).sbPump)) ∧
  (∀ (s : State) (d : SbDesc), SbAccepts s 2 d → d.poison = false →
    exec (.sbProgram d) s = .next ((s.modSbox (fun b => { b with queue := b.queue ++ [{ op := 2, d := sbTaken s d }] })).sbPump)) ∧
  (∀ (s : State) (d : SbDesc), SbAccepts s 2 d → d.poison = true →
    exec (.sbProgram d) s = .next (s.sbComplete d St.poisonHalt 0 0 false false [])) ∧
  (∀ (s : State) (d : SbDesc), SbAccepts s 3 d →
    exec (.sbErase d) s = .next ((s.modSbox (fun b => { b with queue := b.queue ++ [{ op := 3, d := sbTaken s d }] })).sbPump)) ∧
  (∀ (s : State) (d : SbDesc), SbAccepts s 4 d → exec (.sbSuspend d) s = .next (s.sbSuspendNow d).sbPump) ∧
  (∀ (s : State) (d : SbDesc), SbAccepts s 5 d → exec (.sbResume d) s = .next (s.sbResumeNow d).sbPump) ∧
  (∀ (s : State) (d : SbDesc), formFails 3 d = [] → s.protFails 3 d = [] → 64 ≤ s.sbOut (fun _ => true) → srcIsDict d.src = false →
    exec (.sbErase d) s = .next (s.emit (.sbDone d.src d.tag St.busy 0 0 false false []))) ∧
  (∀ (s : State) (d : SbDesc), s.protFails 3 d = [] → sbDescChecks 3 d = false →
    ∃ u, u = s.raise 278 0 (sbSrcBytes d.src ++ leBytes 2 d.tag) ∧ exec (.sbErase d) s = .next (u.sbComplete d St.badDescriptor 0 0 false false [])) ∧
  (∀ (s : State) (n : Nat) (g : SbProg), (s.plane n).prog = some g → g.pulses < 15 →
    exec (.pagePulseDone n false) s = .next (s.modPlane n (fun x => { x with prog := some { g with
      pulses := g.pulses + 1, most := max g.most (g.pulses + 1), weak := g.weak || decide (12 < g.pulses + 1) } }))) ∧
  (∀ (s : State) (n : Nat) (g : SbProg), (s.plane n).prog = some g → 256 * (g.done + 1) ≠ g.entry.d.len →
    (((g.entry.d.data.drop (256 * g.done)).take 256).length = 256) →
    exec (.pagePulseDone n true) s = .next ((s.modSector (s.entryPhys g.entry) (fun x => { x with
      pages := insertKey (g.entry.d.off / 256 + g.done) ((g.entry.d.data.drop (256 * g.done)).take 256) x.pages })).modPlane n (fun x => { x with prog := some { g with
        pulses := 0, most := max g.most (g.pulses + 1), weak := g.weak || decide (12 < g.pulses + 1), done := g.done + 1 } }))) ∧
  (∀ (s : State) (n : Nat), (s.plane n).state = 2 →
    exec (.erasePulseDone n true) s = .next ((s.modPlane n (fun y => { y with pulses := y.pulses + 1 })).modPlane n (fun y => { y with state := 3, flag := 0 }))) ∧
  (∀ (s : State) (n : Nat), (s.plane n).state = 2 → (s.plane n).pulses + 1 = 40 →
    exec (.erasePulseDone n false) s = .next ((s.modPlane n (fun y => { y with pulses := y.pulses + 1 })).eraseFailed n)) ∧
  (∀ (s : State) (n : Nat), (s.plane n).state = 3 → exec (.flagCellPulseDone n true) s = .next (s.eraseDone n)) ∧
  (∀ (s : State) (n : Nat), (s.plane n).state = 1 → s.sbox.flushHold = false →
    exec (.flagCellPulseDone n true) s = .next ((s.modSector (s.plane n).phys (fun y => { y with pending := true })).modPlane n (fun y => { y with
      state := 2, since := s.now }))) ∧
  (∀ (s : State) (n : Nat), (s.plane n).state = 4 → (s.plane n).prog = none → (s.plane n).suspAt + s.setting 0x3900 9 ≤ s.now →
    exec (.suspendHoldExpiry n) s = .next (s.resumeErase n).sbPump) ∧
  (∀ (s : State) (n : Nat), (s.plane n).state = 2 → s.ranLong n = true → exec (.minRunTimeElapsed n) s = .next s.sbPump)

/-- R496 to R515: the recorder, the counters, UCIe and the time base. -/
def Obligations.RecorderAndCountersAct : Prop :=
  (∀ (s : State) (rq : Req) (tag n : Nat), MayPut s rq (0xA000 + n) 9 1 0 →
    exec (.acknowledgeSource rq tag n) s = .next (((s.touch rq).modRec (fun r => { r with
      srcs := modD r.srcs n {} (fun x => { x with pending := false }) })).respond rq (writeResp tag (0xA000 + n) 9 St.ok))) ∧
  (∀ (s : State) (rq : Req) (tag : Nat), MayPut s rq 0x3A00 0x0D 1 1 →
    exec (.acknowledgeAll rq tag) s = .next (((s.touch rq).modRec (fun r => { r with
      srcs := r.srcs.map (fun e => (e.1, { e.2 with pending := false })) })).respond rq (writeResp tag 0x3A00 0x0D St.ok))) ∧
  (∀ (s : State) (rq : Req) (tag : Nat), MayPut s rq 0x3A00 6 1 1 → (s.touch rq).sbox.flushHold = false →
    exec (.recorderFlush rq tag) s = .next (((s.touch rq).modRec recFlush).respond rq (writeResp tag 0x3A00 6 St.ok))) ∧
  (∀ (s : State) (rq : Req) (tag : Nat), MayPut s rq 0x3A00 5 1 1 →
    exec (.clearFirstArea rq tag) s = .next ((((s.touch rq).modRec (fun r => { r with
      first := [], firstPend := [], firstTail := [], firstFull := false })).raise 294 0 (reqBytes rq)).respond rq (writeResp tag 0x3A00 5 St.ok))) ∧
  (∀ (s : State) (source cause : Nat) (w : Window), s.syncMode.windowOf (source * 256 + cause) = some w → w.bucket = false → w.since + w.len ≤ s.syncMode.now → w.count = 0 →
    exec (.repeatWindowExpiry source cause) s = .next (s.syncMode.modRec (fun r => { r with windows := r.windows.filter (fun x => x.code != w.code) }))) ∧
  (∀ (s : State) (source cause : Nat) (w : Window), s.syncMode.windowOf (source * 256 + cause) = some w → w.bucket = false → w.since + w.len ≤ s.syncMode.now → 0 < w.count →
    ∃ u, u = s.syncMode.record (s.syncMode.summaryOf w) ∧
    exec (.repeatWindowExpiry source cause) s = .next (u.modRec (fun r => { r with windows := setWindow { code := w.code, since := w.since + w.len, len := s.syncMode.setting 0x3A00 9 } r.windows }))) ∧
  (∀ (s : State) (source cause : Nat) (w : Window), s.syncMode.windowOf (source * 256 + cause) = some w → w.bucket = true →
    s.syncMode.setting 0x3A00 0x0B ≤ w.tokens + (s.syncMode.now - w.since) * s.syncMode.setting 0x3A00 0x0A / 1000000000 → w.count = 0 →
    exec (.tokenRefill source cause) s = .next (s.syncMode.modRec (fun r => { r with
      windows := setWindow { w with tokens := s.syncMode.setting 0x3A00 0x0B, since := s.syncMode.now, count := 0 } r.windows }))) ∧
  (∀ (s u : State) (source cause : Nat) (w : Window), s.syncMode.windowOf (source * 256 + cause) = some w → w.bucket = true → u = s.syncMode.record (s.syncMode.summaryOf w) →
    s.syncMode.setting 0x3A00 0x0B ≤ w.tokens + (s.syncMode.now - w.since) * s.syncMode.setting 0x3A00 0x0A / 1000000000 → 0 < w.count →
    exec (.tokenRefill source cause) s = .next (u.modRec (fun r => { r with
      windows := setWindow { w with tokens := s.syncMode.setting 0x3A00 0x0B, since := s.syncMode.now, count := 0 } r.windows }))) ∧
  (∀ (s : State) (src : Nat), assoc s.rec_.irq 0 = some src → assoc s.rec_.irqAt 0 = none → (assoc s.dict.i3c 0).isSome = true →
    ∃ t, exec (.mgmtInterruptTimer .i3c0) s = .next t ∧ OnlyChanges [.out, .recorder] s t ∧ t.out = s.out ++ [.mgmtIrq .i3c0 src] ∧ assoc t.rec_.irqAt 0 = some s.now) ∧
  (∀ (s : State) (rq : Req) (tag n v : Nat), MayPut s rq (0xB000 + n) 7 8 v →
    exec (.counterPreset rq tag n v) s = .next (((s.touch rq).modRec (fun r => { r with
      ctrs := modD r.ctrs n {} (fun c => { c with value := v }) })).respond rq (writeResp tag (0xB000 + n) 7 St.ok))) ∧
  (∀ (s : State) (rq : Req) (tag mask : Nat), MayPut s rq 0x3B00 1 4 mask →
    exec (.localFreezeWrite rq tag mask) s = .next (((s.touch rq).modRec (fun r => { r with localMask := BitVec.ofNat 32 mask })).respond rq (writeResp tag 0x3B00 1 St.ok))) ∧
  (∀ (s u : State), u = (List.range 4).foldl (fun s p => s.countPause p) s → u.rec_.sLostAt = none →
    exec .counterSweep s = .next (u.modRec (fun r => { r with ctrs := r.ctrs.map (fun e => (e.1, { e.2 with page := e.2.value })) }))) ∧
  (∀ (s : State) (m lane : Nat), exec (.ucieLaneFailure m lane) s =
    .next ((s.modPower (fun p => { p with ucieLanes := insertKey m lane p.ucieLanes })).raise 304 0 (leBytes 1 m ++ leBytes 1 lane))) ∧
  (∀ (s : State) (m cause : Nat), exec (.ucieRetrain m cause) s = .next (s.raise 305 0 (leBytes 1 m ++ leBytes 1 cause))) ∧
  (∀ (s : State) (m retries : Nat), exec (.ucieCrcRate m retries) s = .next (s.raise 306 0 (leBytes 1 m ++ leBytes 4 retries))) ∧
  (∀ (s : State) (m : Nat), exec (.ucieModuleFailure m) s = .next ((s.modPower (fun p => { p with ucie := delSet m p.ucie })).raise 307 0 (leBytes 1 m))) ∧
  (∀ (s : State), exec .timeBasePllLoss s = .next ((s.modPower (fun p => { p with pllLost := true })).raise 308 0 []))

/-- R121, R119: the counter page of a logical device, whose entries are what the central reader last copied, open where a session bound to it grants them. -/
def Obligations.CounterPageReads : Prop :=
  (∀ (s : State) (p ld c : Nat), s.counterOpen p ld c = true ↔ ∃ e ∈ s.host.sess, e.2.state ≠ 0 ∧ s.setting (0x4000 + e.1) 3 = p ∧
    s.setting (0x4000 + e.1) 4 = ld ∧ (s.setting (0x4000 + e.1) 0x0D).testBit (c / 32) = true) ∧
  (∀ (s : State) (p ld c : Nat), c < 1024 → s.counterOpen p ld c = true →
    ∃ v, s.barRead p ld 2 (0x20000 + 8 * c) 8 = some v ∧ v.getLsbD 63 = true ∧ v.extractLsb' 48 15 = 0 ∧
      v.extractLsb' 0 48 = BitVec.ofNat 48 (getD s.rec_.ctrs c {}).page) ∧
  (∀ (s : State) (p ld c : Nat), c < 1024 → s.counterOpen p ld c = false → s.barRead p ld 2 (0x20000 + 8 * c) 8 = some 0) ∧
  (∀ (s : State) (p ld off size : Nat), 0x20000 ≤ off → off < 0x22000 → (size ≠ 8 ∨ off % 8 ≠ 0) → s.barRead p ld 2 off size = some 0) ∧
  (∀ (off : Nat), 0x20000 ≤ off → off < 0x22000 → writeIgnored 2 off = true) ∧
  (∀ (s u : State), u = (List.range 4).foldl (fun s p => s.countPause p) s → u.rec_.sLostAt = none →
    ∃ t, exec .counterSweep s = .next t ∧ ∀ p ld c, c < 1024 → t.counterOpen p ld c = true →
      ∃ v, t.barRead p ld 2 (0x20000 + 8 * c) 8 = some v ∧ v.extractLsb' 0 48 = BitVec.ofNat 48 (getD u.rec_.ctrs c {}).value)
end

