-- ==== Sys2Proof/Laws/Memory.lean ====
section
/-! SUPPORT. The byte memory: its canonical form is kept by every operation, a read after a write, and what a write leaves alone. -/

set_option Elab.async false

namespace Sys2Proof.Laws

open Sys2Proof.Machine

/-- Every listed address lies beyond `a`. -/
def Beyond (a : Nat) (m : List Host.Cell) : Prop := ∀ c ∈ m, a < c.1

theorem wf_cons (k : Nat) (v : Byte) (m : List Host.Cell) :
    Memory.wf ((k, v) :: m) = true ↔ v ≠ 0 ∧ Beyond k m ∧ Memory.wf m = true := by
  induction m generalizing k v with
  | nil => simp [Memory.wf, Beyond]
  | cons c m ih =>
    obtain ⟨k', v'⟩ := c
    simp only [Memory.wf, Bool.and_eq_true, decide_eq_true_eq, bne_iff_ne]
    constructor
    · rintro ⟨⟨hk, hv⟩, hm⟩
      refine ⟨hv, ?_, hm⟩
      intro c hc
      rcases List.mem_cons.mp hc with rfl | hc
      · exact hk
      · exact Nat.lt_trans hk (((ih k' v').mp hm).2.1 c hc)
    · rintro ⟨hv, hb, hm⟩
      exact ⟨⟨hb (k', v') (by simp), hv⟩, hm⟩

theorem beyond_insertKey {a k : Nat} {v : Byte} {m : List Host.Cell} (hk : a < k) (h : Beyond a m) : Beyond a (insertKey k v m) := by
  induction m with
  | nil => intro c hc; simp [insertKey] at hc; subst hc; exact hk
  | cons c m ih =>
    obtain ⟨k', v'⟩ := c
    have h1 : a < k' := h (k', v') (by simp)
    have h2 : Beyond a m := fun c hc => h c (by simp [hc])
    unfold insertKey
    split
    · intro c hc
      rcases List.mem_cons.mp hc with rfl | hc
      · exact hk
      · exact h c hc
    · split
      · intro c hc
        rcases List.mem_cons.mp hc with rfl | hc
        · exact hk
        · exact h2 c hc
      · intro c hc
        rcases List.mem_cons.mp hc with rfl | hc
        · exact h1
        · exact ih h2 c hc

theorem beyond_eraseKey {a k : Nat} {m : List Host.Cell} (h : Beyond a m) : Beyond a (eraseKey k m) := by
  induction m with
  | nil => exact h
  | cons c m ih =>
    obtain ⟨k', v'⟩ := c
    have h2 : Beyond a m := fun c hc => h c (by simp [hc])
    unfold eraseKey
    split
    · exact h2
    · intro c hc
      rcases List.mem_cons.mp hc with rfl | hc
      · exact h (k', v') (by simp)
      · exact ih h2 c hc

theorem wf_insertKey {k : Nat} {v : Byte} {m : List Host.Cell} (hv : v ≠ 0) (h : Memory.wf m = true) :
    Memory.wf (insertKey k v m) = true := by
  induction m with
  | nil => exact (wf_cons k v []).mpr ⟨hv, (fun c hc => nomatch hc), rfl⟩
  | cons c m ih =>
    obtain ⟨k', v'⟩ := c
    obtain ⟨hv', hb, hm⟩ := (wf_cons k' v' m).mp h
    unfold insertKey
    split
    · rename_i hlt
      refine (wf_cons _ _ _).mpr ⟨hv, ?_, h⟩
      intro c hc
      rcases List.mem_cons.mp hc with rfl | hc
      · exact hlt
      · exact Nat.lt_trans hlt (hb c hc)
    · split
      · rename_i he
        subst he
        exact (wf_cons _ _ _).mpr ⟨hv, hb, hm⟩
      · rename_i h1 h2
        exact (wf_cons _ _ _).mpr ⟨hv', beyond_insertKey (by omega) hb, ih hm⟩

theorem wf_eraseKey {k : Nat} {m : List Host.Cell} (h : Memory.wf m = true) : Memory.wf (eraseKey k m) = true := by
  induction m with
  | nil => exact h
  | cons c m ih =>
    obtain ⟨k', v'⟩ := c
    obtain ⟨hv', hb, hm⟩ := (wf_cons k' v' m).mp h
    unfold eraseKey
    split
    · exact hm
    · exact (wf_cons _ _ _).mpr ⟨hv', beyond_eraseKey hb, ih hm⟩

/-- One byte stored keeps the canonical form. -/
theorem wf_write {m : List Host.Cell} (h : Memory.wf m = true) (a : Nat) (v : Byte) : Memory.wf (Memory.write m a v) = true := by
  unfold Memory.write putD
  split
  · exact wf_eraseKey h
  · rename_i hv
    exact wf_insertKey hv h

/-- A byte string stored keeps the canonical form. -/
theorem wf_writeBytes {m : List Host.Cell} (h : Memory.wf m = true) (a : Nat) (b : Bytes) : Memory.wf (Memory.writeBytes m a b) = true := by
  induction b generalizing m a with
  | nil => exact h
  | cons x b ih => exact ih (wf_write h a x) (a + 1)

/-- A line stored keeps the canonical form. -/
theorem wf_setLine {m : List Host.Cell} (h : Memory.wf m = true) (ln : Nat) (v : Line) : Memory.wf (Memory.setLine m ln v) = true :=
  wf_writeBytes h _ _

theorem wf_filter {m : List Host.Cell} (h : Memory.wf m = true) (p : Host.Cell → Bool) : Memory.wf (m.filter p) = true := by
  induction m with
  | nil => rfl
  | cons c m ih =>
    obtain ⟨k', v'⟩ := c
    obtain ⟨hv', hb, hm⟩ := (wf_cons k' v' m).mp h
    rw [List.filter_cons]
    split
    · exact (wf_cons _ _ _).mpr ⟨hv', fun c hc => hb c (List.mem_filter.mp hc).1, ih hm⟩
    · exact ih hm

/-- A range made zero keeps the canonical form. -/
theorem wf_clear {m : List Host.Cell} (h : Memory.wf m = true) (a n : Nat) : Memory.wf (Memory.clear m a n) = true := wf_filter h _

/-- A range copied keeps the canonical form. -/
theorem wf_copy {m : List Host.Cell} (h : Memory.wf m = true) (src dst n : Nat) : Memory.wf (Memory.copy m src dst n) = true := by
  unfold Memory.copy
  generalize Memory.shifted m src dst n = l
  have h0 := wf_clear h dst n
  generalize Memory.clear m dst n = m0 at h0
  induction l generalizing m0 with
  | nil => exact h0
  | cons c l ih => exact ih _ (wf_write h0 c.1 c.2)

/-! ### Reads and writes -/

theorem assoc_insertKey_same {α : Type} (k : Nat) (v : α) (m : List (Nat × α)) : assoc (insertKey k v m) k = some v := by
  induction m with
  | nil => simp [insertKey, assoc]
  | cons c m ih =>
    obtain ⟨k', v'⟩ := c
    unfold insertKey
    split
    · simp [assoc]
    · split
      · simp [assoc]
      · rename_i h1 h2
        simp [assoc, h2, ih]

theorem assoc_insertKey_other {α : Type} {k j : Nat} (hj : j ≠ k) (v : α) (m : List (Nat × α)) : assoc (insertKey k v m) j = assoc m j := by
  induction m with
  | nil => simp [insertKey, assoc, hj]
  | cons c m ih =>
    obtain ⟨k', v'⟩ := c
    unfold insertKey
    split
    · simp [assoc, hj]
    · split
      · rename_i h1 h2
        subst h2
        simp [assoc, hj]
      · simp [assoc, ih]

theorem assoc_beyond {a : Nat} {m : List Host.Cell} (h : Beyond a m) : assoc m a = none := by
  induction m with
  | nil => rfl
  | cons c m ih =>
    obtain ⟨k', v'⟩ := c
    have h1 : a < k' := h (k', v') (by simp)
    have h2 : Beyond a m := fun c hc => h c (by simp [hc])
    simp [assoc, Nat.ne_of_lt h1, ih h2]

theorem assoc_eraseKey_same {k : Nat} {m : List Host.Cell} (h : Memory.wf m = true) : assoc (eraseKey k m) k = none := by
  induction m with
  | nil => rfl
  | cons c m ih =>
    obtain ⟨k', v'⟩ := c
    obtain ⟨_, hb, hm⟩ := (wf_cons k' v' m).mp h
    unfold eraseKey
    split
    · rename_i he
      subst he
      exact assoc_beyond hb
    · rename_i he
      simp [assoc, he, ih hm]

theorem assoc_eraseKey_other {α : Type} {k j : Nat} (hj : j ≠ k) (m : List (Nat × α)) : assoc (eraseKey k m) j = assoc m j := by
  induction m with
  | nil => rfl
  | cons c m ih =>
    obtain ⟨k', v'⟩ := c
    unfold eraseKey
    split
    · rename_i he
      subst he
      simp [assoc, hj]
    · simp [assoc, ih]

/-- A read after a write of the same byte gives the value written. -/
theorem read_write_same {m : List Host.Cell} (h : Memory.wf m = true) (a : Nat) (v : Byte) : Memory.read (Memory.write m a v) a = v := by
  unfold Memory.read Memory.write putD getD
  split
  · rename_i hv
    simp [assoc_eraseKey_same h, hv]
  · simp [assoc_insertKey_same]

/-- A write leaves every other byte alone. -/
theorem read_write_other (m : List Host.Cell) {a b : Nat} (hb : b ≠ a) (v : Byte) : Memory.read (Memory.write m a v) b = Memory.read m b := by
  unfold Memory.read Memory.write putD getD
  split
  · simp [assoc_eraseKey_other hb]
  · simp [assoc_insertKey_other hb]

/-- A byte string stored leaves every byte outside it alone. -/
theorem read_writeBytes_outside (m : List Host.Cell) {a c : Nat} (b : Bytes) (hc : c < a ∨ a + b.length ≤ c) :
    Memory.read (Memory.writeBytes m a b) c = Memory.read m c := by
  induction b generalizing m a with
  | nil => rfl
  | cons x b ih =>
    have hne : c ≠ a := by
      simp at hc
      omega
    rw [Memory.writeBytes, ih _ (by simp at hc; omega), read_write_other m hne]

end Sys2Proof.Laws
end

