-- ==== Sys2Proof/Laws/Frame.lean ====
section
/-! SUPPORT. What no command does (it leaves the queue and the clock alone, never takes a free value twice, and keeps memory in its
canonical form), and which parts of the device it may change. The predicates, and the rules their proofs are built from. A set of
parts is a number, a bit a part. -/

set_option Elab.async false

namespace Sys2Proof.Laws

open Sys2Proof.Machine

/-- A part's bit. -/
def bit (p : Part) : Nat := p.ctorIdx

/-- From `s` to `t` at most the parts of the set `m` change; the queue and the clock stay, free values are taken in order, and
memory stays in its canonical form. -/
def Fr (m : Nat) (s t : State) : Prop :=
  t.pending = s.pending ∧ t.now = s.now ∧ s.fresh ≤ t.fresh ∧ (Memory.wf s.mem = true → Memory.wf t.mem = true) ∧
    ∀ p : Part, m.testBit (bit p) = false → p.same s t

/-- An outcome whose next state, where there is one, is so framed. -/
@[irreducible] def FrOut (m : Nat) (s : State) (o : Host.Outcome State Fault Refusal) : Prop := ∀ t, o = .next t → Fr m s t

/-- An optional next state that, where there is one, is so framed. -/
@[irreducible] def FrOpt (m : Nat) (s : State) (o : Option State) : Prop := ∀ t, o = some t → Fr m s t

theorem fr_refl {m : Nat} {s : State} : Fr m s s := ⟨rfl, rfl, Nat.le_refl _, id, fun p _ => by cases p <;> rfl⟩

/-- The set `a` lies in the set `m`. -/
def In (a m : Nat) : Prop := a &&& m = a

theorem in_of {a b m : Nat} (k : In b m) (h : In a b) : In a m := by
  unfold In at *
  rw [← h, Nat.and_assoc, k]

theorem in_self {a : Nat} : In a a := Nat.and_self a

theorem in_bit {a m i : Nat} (h : In a m) (hi : m.testBit i = false) : a.testBit i = false := by
  unfold In at h
  rw [← h, Nat.testBit_and, hi, Bool.and_false]

theorem fr_mono {a m : Nat} {s t : State} (hm : In a m) (h : Fr a s t) : Fr m s t :=
  ⟨h.1, h.2.1, h.2.2.1, h.2.2.2.1, fun p hp => h.2.2.2.2 p (in_bit hm hp)⟩

theorem same_trans {p : Part} {s t u : State} (h : p.same s t) (k : p.same t u) : p.same s u := by
  cases p <;> exact Eq.trans k h

theorem fr_trans {m : Nat} {s t u : State} (h : Fr m s t) (k : Fr m t u) : Fr m s u :=
  ⟨k.1.trans h.1, k.2.1.trans h.2.1, Nat.le_trans h.2.2.1 k.2.2.1, fun w => k.2.2.2.1 (h.2.2.2.1 w),
    fun p hp => same_trans (h.2.2.2.2 p hp) (k.2.2.2.2 p hp)⟩

theorem frOut_next {m : Nat} {s t : State} (h : Fr m s t) : FrOut m s (.next t) := by
  unfold FrOut
  intro t e
  cases e
  exact h

theorem frOut_fault {m : Nat} {s : State} (r : Fault) : FrOut m s (.fault r) := by
  unfold FrOut
  intro t e
  cases e

theorem frOut_elim {m : Nat} {s : State} {o : Host.Outcome State Fault Refusal} (h : FrOut m s o) : ∀ t, o = .next t → Fr m s t := by
  unfold FrOut at h
  exact h

theorem fr_of_frOut {m : Nat} {s t : State} (h : FrOut m s (.next t)) : Fr m s t := frOut_elim h t rfl

theorem frOpt_none {m : Nat} {s : State} : FrOpt m s none := by
  unfold FrOpt
  intro t e
  cases e

theorem frOpt_some {m : Nat} {s t : State} (h : Fr m s t) : FrOpt m s (some t) := by
  unfold FrOpt
  intro t e
  cases e
  exact h

theorem frOpt_ite {m : Nat} {s : State} {c : Prop} [Decidable c] {a b : Option State} (h : FrOpt m s a) (k : FrOpt m s b) :
    FrOpt m s (if c then a else b) := by
  split
  · exact h
  · exact k

theorem frOpt_elim {m : Nat} {s : State} {o : Option State} (h : FrOpt m s o) : ∀ t, o = some t → Fr m s t := by
  unfold FrOpt at h
  exact h

theorem fr_id {m : Nat} {s0 s : State} (h : Fr m s0 s) : Fr m s0 (id s) := h

theorem fr_fresh {m k : Nat} {s0 s : State} (h : Fr m s0 s) : Fr m s0 { s with fresh := s.fresh + k } :=
  ⟨h.1, h.2.1, Nat.le_trans h.2.2.1 (Nat.le_add_right _ _), h.2.2.2.1, fun p hp => by
    have := h.2.2.2.2 p hp
    cases p <;> exact this⟩

theorem wf_nil : Memory.wf [] = true := rfl

theorem fr_of_fst {α : Type} {m : Nat} {s : State} {x : State × α} {a : State} {b : α} (e : x = (a, b)) (h : Fr m s x.1) : Fr m s a := by
  rw [e] at h
  exact h

theorem fr_ite_fst {α : Type} {m : Nat} {s0 : State} {c : Prop} [Decidable c] {a b : State × α} (h : Fr m s0 a.1) (k : Fr m s0 b.1) :
    Fr m s0 (if c then a else b).1 := by
  split
  · exact h
  · exact k

theorem fr_if {m : Nat} {s0 : State} {c : Prop} [Decidable c] {s t : State} (k : Fr m s0 s → Fr m s0 t) (h : Fr m s0 s) :
    Fr m s0 (if c then t else s) := by
  split
  · exact k h
  · exact h

theorem fr_ifn {m : Nat} {s0 : State} {c : Prop} [Decidable c] {s t : State} (k : Fr m s0 s → Fr m s0 t) (h : Fr m s0 s) :
    Fr m s0 (if c then s else t) := by
  split
  · exact h
  · exact k h

theorem fr_foldl {α : Type} {m : Nat} {s0 : State} {f : State → α → State} (l : List α) {s : State}
    (hf : ∀ s a, Fr m s0 s → Fr m s0 (f s a)) (h : Fr m s0 s) : Fr m s0 (l.foldl f s) := by
  induction l generalizing s with
  | nil => exact h
  | cons a l ih => exact ih (hf s a h)

theorem fr_foldl_fst {α β : Type} {m : Nat} {s0 : State} {f : State × β → α → State × β} (l : List α) {s : State × β}
    (hf : ∀ s a, Fr m s0 s.1 → Fr m s0 (f s a).1) (h : Fr m s0 s.1) : Fr m s0 (l.foldl f s).1 := by
  induction l generalizing s with
  | nil => exact h
  | cons a l ih => exact ih (hf s a h)

/-- What a set of parts says in the terms claims use. -/
theorem onlyChanges_of_fr {m : Nat} {ps : List Part} {s t : State} (h : Fr m s t) (k : ∀ p, p ∉ ps → m.testBit (bit p) = false) :
    OnlyChanges ps s t := ⟨h.1, h.2.1, fun p hp => h.2.2.2.2 p (k p hp)⟩

end Sys2Proof.Laws
end

