-- ==== Sys2Proof/Laws/FrameOps.lean ====
section
/-! SUPPORT. Which parts of the device each operation may change (Laws/Frame.lean): the shared operations. -/

set_option Elab.async false

namespace Sys2Proof.Laws

open Sys2Proof Sys2Proof.Machine

/-! ### Machine/Ops.lean -/

theorem fr_modOut {m : Nat} {s0 s : State} (hm : In 1 m) (h : Fr m s0 s) (f : List Output → List Output) : Fr m s0 (s.modOut f) :=
  fr_trans h (fr_mono hm ⟨rfl, rfl, Nat.le_refl _, id, fun p hp => by
    cases p
    case out => exact absurd hp (by decide)
    all_goals rfl⟩)

theorem fr_modMem {m : Nat} {s0 s : State} (hm : In 2 m) (h : Fr m s0 s) {f : List Host.Cell → List Host.Cell}
    (hf : ∀ l, Memory.wf l = true → Memory.wf (f l) = true) : Fr m s0 (s.modMem f) :=
  fr_trans h (fr_mono hm ⟨rfl, rfl, Nat.le_refl _, hf _, fun p hp => by
    cases p
    case mem => exact absurd hp (by decide)
    all_goals rfl⟩)

theorem fr_modSettings {m : Nat} {s0 s : State} (hm : In 4 m) (h : Fr m s0 s) (f : List (Nat × Nat) → List (Nat × Nat)) : Fr m s0 (s.modSettings f) :=
  fr_trans h (fr_mono hm ⟨rfl, rfl, Nat.le_refl _, id, fun p hp => by
    cases p
    case settings => exact absurd hp (by decide)
    all_goals rfl⟩)

theorem fr_modDict {m : Nat} {s0 s : State} (hm : In 8 m) (h : Fr m s0 s) (f : Dict → Dict) : Fr m s0 (s.modDict f) :=
  fr_trans h (fr_mono hm ⟨rfl, rfl, Nat.le_refl _, id, fun p hp => by
    cases p
    case dict => exact absurd hp (by decide)
    all_goals rfl⟩)

theorem fr_modPace {m : Nat} {s0 s : State} (hm : In 16 m) (h : Fr m s0 s) (f : Pace → Pace) : Fr m s0 (s.modPace f) :=
  fr_trans h (fr_mono hm ⟨rfl, rfl, Nat.le_refl _, id, fun p hp => by
    cases p
    case pace => exact absurd hp (by decide)
    all_goals rfl⟩)

theorem fr_modHost {m : Nat} {s0 s : State} (hm : In 32 m) (h : Fr m s0 s) (f : HostSt → HostSt) : Fr m s0 (s.modHost f) :=
  fr_trans h (fr_mono hm ⟨rfl, rfl, Nat.le_refl _, id, fun p hp => by
    cases p
    case host => exact absurd hp (by decide)
    all_goals rfl⟩)

theorem fr_modRings {m : Nat} {s0 s : State} (hm : In 64 m) (h : Fr m s0 s) (f : Rings → Rings) : Fr m s0 (s.modRings f) :=
  fr_trans h (fr_mono hm ⟨rfl, rfl, Nat.le_refl _, id, fun p hp => by
    cases p
    case rings => exact absurd hp (by decide)
    all_goals rfl⟩)

theorem fr_modPlace {m : Nat} {s0 s : State} (hm : In 128 m) (h : Fr m s0 s) (f : Place → Place) : Fr m s0 (s.modPlace f) :=
  fr_trans h (fr_mono hm ⟨rfl, rfl, Nat.le_refl _, id, fun p hp => by
    cases p
    case place => exact absurd hp (by decide)
    all_goals rfl⟩)

theorem fr_modPersist {m : Nat} {s0 s : State} (hm : In 256 m) (h : Fr m s0 s) (f : Persist → Persist) : Fr m s0 (s.modPersist f) :=
  fr_trans h (fr_mono hm ⟨rfl, rfl, Nat.le_refl _, id, fun p hp => by
    cases p
    case persist => exact absurd hp (by decide)
    all_goals rfl⟩)

theorem fr_modTwin {m : Nat} {s0 s : State} (hm : In 512 m) (h : Fr m s0 s) (f : Twin → Twin) : Fr m s0 (s.modTwin f) :=
  fr_trans h (fr_mono hm ⟨rfl, rfl, Nat.le_refl _, id, fun p hp => by
    cases p
    case twin => exact absurd hp (by decide)
    all_goals rfl⟩)

theorem fr_modHinge {m : Nat} {s0 s : State} (hm : In 1024 m) (h : Fr m s0 s) (f : Hinge → Hinge) : Fr m s0 (s.modHinge f) :=
  fr_trans h (fr_mono hm ⟨rfl, rfl, Nat.le_refl _, id, fun p hp => by
    cases p
    case hinge => exact absurd hp (by decide)
    all_goals rfl⟩)

theorem fr_modPool {m : Nat} {s0 s : State} (hm : In 2048 m) (h : Fr m s0 s) (f : Pool → Pool) : Fr m s0 (s.modPool f) :=
  fr_trans h (fr_mono hm ⟨rfl, rfl, Nat.le_refl _, id, fun p hp => by
    cases p
    case pool => exact absurd hp (by decide)
    all_goals rfl⟩)

theorem fr_modLattice {m : Nat} {s0 s : State} (hm : In 4096 m) (h : Fr m s0 s) (f : Lattice → Lattice) : Fr m s0 (s.modLattice f) :=
  fr_trans h (fr_mono hm ⟨rfl, rfl, Nat.le_refl _, id, fun p hp => by
    cases p
    case lattice => exact absurd hp (by decide)
    all_goals rfl⟩)

theorem fr_modDram {m : Nat} {s0 s : State} (hm : In 8192 m) (h : Fr m s0 s) (f : Dram → Dram) : Fr m s0 (s.modDram f) :=
  fr_trans h (fr_mono hm ⟨rfl, rfl, Nat.le_refl _, id, fun p hp => by
    cases p
    case dram => exact absurd hp (by decide)
    all_goals rfl⟩)

theorem fr_modEcc {m : Nat} {s0 s : State} (hm : In 16384 m) (h : Fr m s0 s) (f : Ecc → Ecc) : Fr m s0 (s.modEcc f) :=
  fr_trans h (fr_mono hm ⟨rfl, rfl, Nat.le_refl _, id, fun p hp => by
    cases p
    case ecc => exact absurd hp (by decide)
    all_goals rfl⟩)

theorem fr_modCipher {m : Nat} {s0 s : State} (hm : In 32768 m) (h : Fr m s0 s) (f : Cipher → Cipher) : Fr m s0 (s.modCipher f) :=
  fr_trans h (fr_mono hm ⟨rfl, rfl, Nat.le_refl _, id, fun p hp => by
    cases p
    case cipher => exact absurd hp (by decide)
    all_goals rfl⟩)

theorem fr_modSteward {m : Nat} {s0 s : State} (hm : In 65536 m) (h : Fr m s0 s) (f : Steward → Steward) : Fr m s0 (s.modSteward f) :=
  fr_trans h (fr_mono hm ⟨rfl, rfl, Nat.le_refl _, id, fun p hp => by
    cases p
    case steward => exact absurd hp (by decide)
    all_goals rfl⟩)

theorem fr_modSbox {m : Nat} {s0 s : State} (hm : In 131072 m) (h : Fr m s0 s) (f : Strongbox → Strongbox) : Fr m s0 (s.modSbox f) :=
  fr_trans h (fr_mono hm ⟨rfl, rfl, Nat.le_refl _, id, fun p hp => by
    cases p
    case sbox => exact absurd hp (by decide)
    all_goals rfl⟩)

theorem fr_modRec {m : Nat} {s0 s : State} (hm : In 262144 m) (h : Fr m s0 s) (f : Recorder → Recorder) : Fr m s0 (s.modRec f) :=
  fr_trans h (fr_mono hm ⟨rfl, rfl, Nat.le_refl _, id, fun p hp => by
    cases p
    case recorder => exact absurd hp (by decide)
    all_goals rfl⟩)

theorem fr_modPower {m : Nat} {s0 s : State} (hm : In 524288 m) (h : Fr m s0 s) (f : Power → Power) : Fr m s0 (s.modPower f) :=
  fr_trans h (fr_mono hm ⟨rfl, rfl, Nat.le_refl _, id, fun p hp => by
    cases p
    case power => exact absurd hp (by decide)
    all_goals rfl⟩)

theorem fr_done {mm : Nat} {s0 s : State} (h : Fr mm s0 s) :
    FrOut mm s0 (done s) := by
  unfold done
  try dsimp only
  repeat'
    first
    | with_reducible assumption
    | with_reducible apply frOut_next

theorem fr_emit {mm : Nat} {s0 s : State} (hm : In 1 mm) (h : Fr mm s0 s) (o : Output) :
    Fr mm s0 (State.emit s o) := by
  unfold State.emit
  try dsimp only
  repeat'
    first
    | with_reducible assumption
    | (exact in_of hm rfl)
    | intro _
    | with_reducible apply fr_modOut

theorem fr_emits {mm : Nat} {s0 s : State} (hm : In 1 mm) (h : Fr mm s0 s) (os : List Output) :
    Fr mm s0 (State.emits s os) := by
  unfold State.emits
  try dsimp only
  repeat'
    first
    | with_reducible assumption
    | (exact in_of hm rfl)
    | intro _
    | with_reducible apply fr_modOut

theorem fr_tick {m : Nat} {s0 s : State} (h : Fr m s0 s) : Fr m s0 s.tick := fr_fresh h

theorem fr_setPoison {mm : Nat} {s0 s : State} (hm : In 16384 mm) (h : Fr mm s0 s) (ln : Nat) (p : Bool) :
    Fr mm s0 (State.setPoison s ln p) := by
  unfold State.setPoison
  try dsimp only
  repeat'
    first
    | with_reducible assumption
    | (exact in_of hm rfl)
    | intro _
    | with_reducible apply fr_modEcc

theorem fr_putLine {mm : Nat} {s0 s : State} (hm : In 16386 mm) (h : Fr mm s0 s) (ln : Nat) (v : Line) (p : Bool) :
    Fr mm s0 (State.putLine s ln v p) := by
  unfold State.putLine
  try dsimp only
  repeat'
    first
    | with_reducible assumption
    | (exact in_of hm rfl)
    | with_reducible apply wf_nil
    | intro _
    | with_reducible apply fr_modMem
    | with_reducible apply fr_setPoison
    | with_reducible apply wf_setLine

theorem fr_zeroSlot {mm : Nat} {s0 s : State} (hm : In 16386 mm) (h : Fr mm s0 s) (slot : Nat) :
    Fr mm s0 (State.zeroSlot s slot) := by
  unfold State.zeroSlot
  try dsimp only
  repeat'
    first
    | with_reducible assumption
    | (exact in_of hm rfl)
    | with_reducible apply wf_nil
    | intro _
    | with_reducible apply fr_modEcc
    | with_reducible apply fr_modMem
    | with_reducible apply wf_setLine
    | with_reducible apply wf_clear

theorem fr_copySlot {mm : Nat} {s0 s : State} (hm : In 16386 mm) (h : Fr mm s0 s) (src : Nat) (dst : Nat) :
    Fr mm s0 (State.copySlot s src dst) := by
  unfold State.copySlot
  try dsimp only
  repeat'
    first
    | with_reducible assumption
    | (exact in_of hm rfl)
    | with_reducible apply wf_nil
    | intro _
    | with_reducible apply fr_modEcc
    | with_reducible apply fr_modMem
    | with_reducible apply wf_setLine
    | with_reducible apply wf_clear
    | with_reducible apply wf_copy

/-! ### Machine/Operands.lean -/

theorem fr_setSetting {mm : Nat} {s0 s : State} (hm : In 4 mm) (h : Fr mm s0 s) (idx : Nat) (sub : Nat) (v : Nat) :
    Fr mm s0 (State.setSetting s idx sub v) := by
  unfold State.setSetting
  try dsimp only
  repeat'
    first
    | with_reducible assumption
    | (exact in_of hm rfl)
    | intro _
    | with_reducible apply fr_modSettings

/-! ### Machine/Flags.lean -/

theorem fr_record {mm : Nat} {s0 s : State} (hm : In 262144 mm) (h : Fr mm s0 s) (x : Rec) :
    Fr mm s0 (State.record s x) := by
  unfold State.record
  try dsimp only
  repeat'
    first
    | with_reducible assumption
    | (exact in_of hm rfl)
    | intro _
    | with_reducible apply fr_modRec

theorem fr_withhold {mm : Nat} {s0 s : State} (hm : In 262144 mm) (h : Fr mm s0 s) (w : Window) (src : Nat) (detail : Bytes) :
    Fr mm s0 (State.withhold s w src detail) := by
  unfold State.withhold
  try dsimp only
  repeat'
    first
    | with_reducible assumption
    | (exact in_of hm rfl)
    | intro _
    | with_reducible apply fr_modRec

theorem fr_closeWindows {mm : Nat} {s0 s : State} (hm : In 262144 mm) (h : Fr mm s0 s) :
    Fr mm s0 (State.closeWindows s) := by
  unfold State.closeWindows
  try dsimp only
  repeat'
    first
    | with_reducible assumption
    | (exact in_of hm rfl)
    | intro _
    | with_reducible apply fr_modRec
    | with_reducible apply fr_record
    | with_reducible apply fr_foldl

theorem fr_syncMode {mm : Nat} {s0 s : State} (hm : In 262144 mm) (h : Fr mm s0 s) :
    Fr mm s0 (State.syncMode s) := by
  unfold State.syncMode
  try dsimp only
  repeat'
    first
    | with_reducible assumption
    | (exact in_of hm rfl)
    | intro _
    | with_reducible apply fr_closeWindows
    | with_reducible apply fr_modRec
    | with_reducible apply fr_if

theorem fr_refillBucket {mm : Nat} {s0 s : State} (hm : In 262144 mm) (h : Fr mm s0 s) (w : Window) :
    Fr mm s0 (State.refillBucket s w).1 := by
  unfold State.refillBucket
  try dsimp only
  repeat'
    first
    | with_reducible assumption
    | (exact in_of hm rfl)
    | intro _
    | with_reducible apply fr_record
    | (refine fr_of_fst (by with_reducible assumption) ?_)
    | with_reducible apply fr_if
    | with_reducible apply fr_ifn
    | split

theorem fr_settleWindow {mm : Nat} {s0 s : State} (hm : In 262144 mm) (h : Fr mm s0 s) (code : Nat) :
    Fr mm s0 (State.settleWindow s code) := by
  unfold State.settleWindow
  try dsimp only
  repeat'
    first
    | with_reducible assumption
    | (exact in_of hm rfl)
    | intro _
    | with_reducible apply fr_modRec
    | with_reducible apply fr_record
    | with_reducible apply fr_if
    | with_reducible apply fr_ifn
    | split

theorem fr_offer {mm : Nat} {s0 s : State} (hm : In 262144 mm) (h : Fr mm s0 s) (src : Nat) (cause : Nat) (detail : Bytes) :
    Fr mm s0 (State.offer s src cause detail) := by
  unfold State.offer
  try dsimp only
  repeat'
    first
    | with_reducible assumption
    | (exact in_of hm rfl)
    | intro _
    | with_reducible apply fr_modRec
    | with_reducible apply fr_record
    | with_reducible apply fr_refillBucket
    | with_reducible apply fr_settleWindow
    | with_reducible apply fr_syncMode
    | with_reducible apply fr_withhold
    | (refine fr_of_fst (by with_reducible assumption) ?_)
    | with_reducible apply fr_if
    | with_reducible apply fr_ifn
    | split

theorem fr_capture {mm : Nat} {s0 s : State} (hm : In 262144 mm) (h : Fr mm s0 s) (n : Nat) (t : ReqTag) :
    Fr mm s0 (State.capture s n t) := by
  unfold State.capture
  try dsimp only
  repeat'
    first
    | with_reducible assumption
    | (exact in_of hm rfl)
    | intro _
    | with_reducible apply fr_modRec
    | with_reducible apply fr_tick
    | with_reducible apply fr_if

theorem fr_advance {mm : Nat} {s0 s : State} (hm : In 262144 mm) (h : Fr mm s0 s) (n : Nat) (k : Nat) (fuel : Nat) :
    Fr mm s0 (State.advance s n k fuel).1 := by
  induction fuel generalizing s n k with
  | zero =>
    unfold State.advance
    try dsimp only
    repeat'
      first
      | with_reducible assumption
      | (exact in_of hm rfl)
      | intro _
      | with_reducible apply fr_modRec
      | (refine fr_of_fst (by with_reducible assumption) ?_)
      | with_reducible apply fr_if
      | with_reducible apply fr_ifn
      | split
  | succ fuel ih =>
    unfold State.advance
    try dsimp only
    repeat'
      first
      | with_reducible assumption
      | with_reducible apply ih
      | (exact in_of hm rfl)
      | intro _
      | with_reducible apply fr_modRec
      | (refine fr_of_fst (by with_reducible assumption) ?_)
      | with_reducible apply fr_if
      | with_reducible apply fr_ifn
      | split

theorem fr_bump {mm : Nat} {s0 s : State} (hm : In 262144 mm) (h : Fr mm s0 s) (n : Nat) (k : Nat) (t : ReqTag) :
    Fr mm s0 (State.bump s n k t).1 := by
  unfold State.bump
  try dsimp only
  repeat'
    first
    | with_reducible assumption
    | (exact in_of hm rfl)
    | intro _
    | with_reducible apply fr_advance
    | with_reducible apply fr_capture
    | with_reducible apply fr_modRec
    | (refine fr_of_fst (by with_reducible assumption) ?_)
    | with_reducible apply fr_if
    | with_reducible apply fr_ifn
    | with_reducible apply fr_foldl
    | with_reducible apply fr_foldl_fst
    | split

theorem fr_bumps {mm : Nat} {s0 s : State} (hm : In 262144 mm) (h : Fr mm s0 s) (ns : List Nat) (k : Nat) (t : ReqTag) :
    Fr mm s0 (State.bumps s ns k t).1 := by
  unfold State.bumps
  try dsimp only
  repeat'
    first
    | with_reducible assumption
    | (exact in_of hm rfl)
    | intro _
    | with_reducible apply fr_bump
    | (refine fr_of_fst (by with_reducible assumption) ?_)
    | with_reducible apply fr_foldl
    | with_reducible apply fr_foldl_fst

theorem fr_occur {mm : Nat} {s0 s : State} (hm : In 262144 mm) (h : Fr mm s0 s) (src : Nat) (cause : Nat) (detail : Bytes) :
    Fr mm s0 (State.occur s src cause detail).1 := by
  unfold State.occur
  try dsimp only
  repeat'
    first
    | with_reducible assumption
    | (exact in_of hm rfl)
    | intro _
    | with_reducible apply fr_bumps
    | with_reducible apply fr_modRec
    | with_reducible apply fr_offer
    | (refine fr_of_fst (by with_reducible assumption) ?_)
    | with_reducible apply fr_if

theorem fr_wraps {mm : Nat} {s0 s : State} (hm : In 262144 mm) (h : Fr mm s0 s) (ns : List Nat) :
    Fr mm s0 (State.wraps s ns) := by
  unfold State.wraps
  try dsimp only
  repeat'
    first
    | with_reducible assumption
    | (exact in_of hm rfl)
    | intro _
    | with_reducible apply fr_occur
    | (refine fr_of_fst (by with_reducible assumption) ?_)
    | with_reducible apply fr_foldl

theorem fr_selfReport {mm : Nat} {s0 s : State} (hm : In 262144 mm) (h : Fr mm s0 s) (before : Recorder) :
    Fr mm s0 (State.selfReport s before) := by
  unfold State.selfReport
  try dsimp only
  repeat'
    first
    | with_reducible assumption
    | (exact in_of hm rfl)
    | intro _
    | with_reducible apply fr_modRec
    | with_reducible apply fr_occur
    | with_reducible apply fr_record
    | (refine fr_of_fst (by with_reducible assumption) ?_)
    | with_reducible apply fr_if

theorem fr_raise {mm : Nat} {s0 s : State} (hm : In 262144 mm) (h : Fr mm s0 s) (src : Nat) (cause : Nat) (detail : Bytes) :
    Fr mm s0 (State.raise s src cause detail) := by
  unfold State.raise
  try dsimp only
  repeat'
    first
    | with_reducible assumption
    | (exact in_of hm rfl)
    | intro _
    | with_reducible apply fr_occur
    | with_reducible apply fr_selfReport
    | with_reducible apply fr_wraps

theorem fr_countFor {mm : Nat} {s0 s : State} (hm : In 262144 mm) (h : Fr mm s0 s) (n : Nat) (k : Nat) (t : ReqTag) :
    Fr mm s0 (State.countFor s n k t) := by
  unfold State.countFor
  try dsimp only
  repeat'
    first
    | with_reducible assumption
    | (exact in_of hm rfl)
    | intro _
    | with_reducible apply fr_bump
    | with_reducible apply fr_bumps
    | with_reducible apply fr_wraps

theorem fr_count {mm : Nat} {s0 s : State} (hm : In 262144 mm) (h : Fr mm s0 s) (n : Nat) (k : Nat) :
    Fr mm s0 (State.count s n k) := by
  unfold State.count
  try dsimp only
  repeat'
    first
    | with_reducible assumption
    | (exact in_of hm rfl)
    | intro _
    | with_reducible apply fr_countFor

/-! ### Machine/Frames.lean -/

theorem fr_modXport {mm : Nat} {s0 s : State} (hm : In 1024 mm) (h : Fr mm s0 s) (p : Nat) (f : XPort → XPort) :
    Fr mm s0 (State.modXport s p f) := by
  unfold State.modXport
  try dsimp only
  repeat'
    first
    | with_reducible assumption
    | (exact in_of hm rfl)
    | intro _
    | with_reducible apply fr_modHinge

theorem fr_touchChan {mm : Nat} {s0 s : State} (hm : In 270336 mm) (h : Fr mm s0 s) (n : Nat) :
    Fr mm s0 (State.touchChan s n) := by
  unfold State.touchChan
  try dsimp only
  repeat'
    first
    | with_reducible assumption
    | (exact in_of hm rfl)
    | intro _
    | with_reducible apply fr_count
    | with_reducible apply fr_modDram
    | with_reducible apply fr_if
    | with_reducible apply fr_ifn
    | split

theorem fr_ask {mm : Nat} {s0 s : State} (hm : In 274432 mm) (h : Fr mm s0 s) (r : Nat) (src : Nat) (cls : Nat) (units : Nat) :
    Fr mm s0 (State.ask s r src cls units) := by
  unfold State.ask
  try dsimp only
  repeat'
    first
    | with_reducible assumption
    | (exact in_of hm rfl)
    | intro _
    | with_reducible apply fr_modLattice
    | with_reducible apply fr_touchChan
    | with_reducible apply fr_if

theorem fr_putConn {mm : Nat} {s0 s : State} (hm : In 1024 mm) (h : Fr mm s0 s) (c : Conn) :
    Fr mm s0 (State.putConn s c) := by
  unfold State.putConn
  try dsimp only
  repeat'
    first
    | with_reducible assumption
    | (exact in_of hm rfl)
    | intro _
    | with_reducible apply fr_modHinge

theorem fr_dropConn {mm : Nat} {s0 s : State} (hm : In 1024 mm) (h : Fr mm s0 s) (peer : Nat) (port : Nat) :
    Fr mm s0 (State.dropConn s peer port) := by
  unfold State.dropConn
  try dsimp only
  repeat'
    first
    | with_reducible assumption
    | (exact in_of hm rfl)
    | intro _
    | with_reducible apply fr_modHinge

theorem fr_nextEpoch {mm : Nat} {s0 s : State} (hm : In 1024 mm) (h : Fr mm s0 s) :
    Fr mm s0 (State.nextEpoch s) := by
  unfold State.nextEpoch
  try dsimp only
  repeat'
    first
    | with_reducible assumption
    | (exact in_of hm rfl)
    | intro _
    | with_reducible apply fr_modHinge

theorem fr_putDressed {mm : Nat} {s0 s : State} (hm : In 275457 mm) (h : Fr mm s0 s) (f : Frame) :
    Fr mm s0 (State.putDressed s f) := by
  unfold State.putDressed
  try dsimp only
  repeat'
    first
    | with_reducible assumption
    | (exact in_of hm rfl)
    | intro _
    | with_reducible apply fr_ask
    | with_reducible apply fr_count
    | with_reducible apply fr_countFor
    | with_reducible apply fr_emit
    | with_reducible apply fr_modXport
    | with_reducible apply fr_if
    | with_reducible apply fr_ifn
    | split

theorem fr_putFrame {mm : Nat} {s0 s : State} (hm : In 275457 mm) (h : Fr mm s0 s) (f : Frame) :
    Fr mm s0 (State.putFrame s f) := by
  unfold State.putFrame
  try dsimp only
  repeat'
    first
    | with_reducible assumption
    | (exact in_of hm rfl)
    | intro _
    | with_reducible apply fr_putDressed

theorem fr_firstSent {mm : Nat} {s0 s : State} (hm : In 308225 mm) (h : Fr mm s0 s) (f : Frame) :
    Fr mm s0 (State.firstSent s f) := by
  unfold State.firstSent
  try dsimp only
  repeat'
    first
    | with_reducible assumption
    | (exact in_of hm rfl)
    | intro _
    | with_reducible apply fr_modCipher
    | with_reducible apply fr_putFrame
    | with_reducible apply fr_if

theorem fr_pump {mm : Nat} {s0 s : State} (hm : In 308225 mm) (h : Fr mm s0 s) (peer : Nat) (port : Nat) (vc : Nat) (fuel : Nat) :
    Fr mm s0 (State.pump s peer port vc fuel) := by
  induction fuel generalizing s peer port vc with
  | zero =>
    unfold State.pump
    try dsimp only
    repeat'
      first
      | with_reducible assumption
  | succ fuel ih =>
    unfold State.pump
    try dsimp only
    repeat'
      first
      | with_reducible assumption
      | with_reducible apply ih
      | (exact in_of hm rfl)
      | intro _
      | with_reducible apply fr_firstSent
      | with_reducible apply fr_putConn
      | with_reducible apply fr_if
      | with_reducible apply fr_ifn
      | split

theorem fr_pumpAll {mm : Nat} {s0 s : State} (hm : In 308225 mm) (h : Fr mm s0 s) (peer : Nat) (port : Nat) (vc : Nat) :
    Fr mm s0 (State.pumpAll s peer port vc) := by
  unfold State.pumpAll
  try dsimp only
  repeat'
    first
    | with_reducible assumption
    | (exact in_of hm rfl)
    | intro _
    | with_reducible apply fr_pump

theorem fr_roomForConn {mm : Nat} {s0 s : State} (hm : In 275457 mm) (h : Fr mm s0 s) :
    Fr mm s0 (State.roomForConn s).1 := by
  unfold State.roomForConn
  try dsimp only
  repeat'
    first
    | with_reducible assumption
    | (exact in_of hm rfl)
    | intro _
    | with_reducible apply fr_dropConn
    | with_reducible apply fr_putFrame
    | (refine fr_of_fst (by with_reducible assumption) ?_)
    | with_reducible apply fr_if
    | with_reducible apply fr_ifn
    | split

theorem fr_openConn {mm : Nat} {s0 s : State} (hm : In 275457 mm) (h : Fr mm s0 s) (peer : Nat) (port : Nat) (waiting : List (List FBody)) :
    Fr mm s0 (State.openConn s peer port waiting) := by
  unfold State.openConn
  try dsimp only
  repeat'
    first
    | with_reducible assumption
    | (exact in_of hm rfl)
    | intro _
    | with_reducible apply fr_nextEpoch
    | with_reducible apply fr_putConn
    | with_reducible apply fr_putFrame
    | with_reducible apply fr_raise
    | with_reducible apply fr_roomForConn
    | (refine fr_of_fst (by with_reducible assumption) ?_)
    | with_reducible apply fr_if

theorem fr_openHeld {mm : Nat} {s0 s : State} (hm : In 275457 mm) (h : Fr mm s0 s) :
    Fr mm s0 (State.openHeld s) := by
  unfold State.openHeld
  try dsimp only
  repeat'
    first
    | with_reducible assumption
    | (exact in_of hm rfl)
    | intro _
    | with_reducible apply fr_openConn
    | with_reducible apply fr_foldl

theorem fr_queueOn {mm : Nat} {s0 s : State} (hm : In 308225 mm) (h : Fr mm s0 s) (peer : Nat) (port : Nat) (b : FBody) :
    Fr mm s0 (State.queueOn s peer port b) := by
  unfold State.queueOn
  try dsimp only
  repeat'
    first
    | with_reducible assumption
    | (exact in_of hm rfl)
    | intro _
    | with_reducible apply fr_openConn
    | with_reducible apply fr_pumpAll
    | with_reducible apply fr_putConn
    | (refine fr_of_fst (by with_reducible assumption) ?_)
    | with_reducible apply fr_if
    | with_reducible apply fr_ifn
    | split

theorem fr_sendOn {mm : Nat} {s0 s : State} (hm : In 308225 mm) (h : Fr mm s0 s) (peer : Nat) (port : Nat) (b : FBody) :
    Fr mm s0 (State.sendOn s peer port b) := by
  unfold State.sendOn
  try dsimp only
  repeat'
    first
    | with_reducible assumption
    | (exact in_of hm rfl)
    | intro _
    | with_reducible apply fr_putFrame
    | with_reducible apply fr_queueOn
    | with_reducible apply fr_if

theorem fr_send {mm : Nat} {s0 s : State} (hm : In 308225 mm) (h : Fr mm s0 s) (peer : Nat) (b : FBody) :
    Fr mm s0 (State.send s peer b) := by
  unfold State.send
  try dsimp only
  repeat'
    first
    | with_reducible assumption
    | (exact in_of hm rfl)
    | intro _
    | with_reducible apply fr_sendOn
    | split

theorem fr_sendAll {mm : Nat} {s0 s : State} (hm : In 308225 mm) (h : Fr mm s0 s) (peers : List Nat) (b : FBody) :
    Fr mm s0 (State.sendAll s peers b) := by
  unfold State.sendAll
  try dsimp only
  repeat'
    first
    | with_reducible assumption
    | (exact in_of hm rfl)
    | intro _
    | with_reducible apply fr_send
    | with_reducible apply fr_foldl

theorem fr_moveConn {mm : Nat} {s0 s : State} (hm : In 308225 mm) (h : Fr mm s0 s) (c : Conn) :
    Fr mm s0 (State.moveConn s c) := by
  unfold State.moveConn
  try dsimp only
  repeat'
    first
    | with_reducible assumption
    | (exact in_of hm rfl)
    | intro _
    | with_reducible apply fr_dropConn
    | with_reducible apply fr_openConn
    | with_reducible apply fr_pumpAll
    | with_reducible apply fr_putConn
    | with_reducible apply fr_if
    | with_reducible apply fr_ifn
    | with_reducible apply fr_foldl
    | with_reducible apply fr_foldl_fst
    | split

theorem fr_failConn {mm : Nat} {s0 s : State} (hm : In 308225 mm) (h : Fr mm s0 s) (c : Conn) (cause : Nat) (vc : Nat) :
    Fr mm s0 (State.failConn s c cause vc) := by
  unfold State.failConn
  try dsimp only
  repeat'
    first
    | with_reducible assumption
    | (exact in_of hm rfl)
    | intro _
    | with_reducible apply fr_moveConn
    | with_reducible apply fr_raise
    | with_reducible apply fr_if

theorem fr_sendAck {mm : Nat} {s0 s : State} (hm : In 275457 mm) (h : Fr mm s0 s) (peer : Nat) (port : Nat) :
    Fr mm s0 (State.sendAck s peer port) := by
  unfold State.sendAck
  try dsimp only
  repeat'
    first
    | with_reducible assumption
    | (exact in_of hm rfl)
    | intro _
    | with_reducible apply fr_putConn
    | with_reducible apply fr_putFrame
    | split

/-! ### Machine/Stream.lean -/

theorem fr_sendMirror {mm : Nat} {s0 s : State} (hm : In 308225 mm) (h : Fr mm s0 s) (stream : Nat) (r : Run) :
    Fr mm s0 (State.sendMirror s stream r) := by
  unfold State.sendMirror
  try dsimp only
  repeat'
    first
    | with_reducible assumption
    | (exact in_of hm rfl)
    | intro _
    | with_reducible apply fr_sendOn
    | with_reducible apply fr_if
    | with_reducible apply fr_ifn
    | split

theorem fr_resendStreams {mm : Nat} {s0 s : State} (hm : In 308225 mm) (h : Fr mm s0 s) (port : Nat) :
    Fr mm s0 (State.resendStreams s port) := by
  unfold State.resendStreams
  try dsimp only
  repeat'
    first
    | with_reducible assumption
    | (exact in_of hm rfl)
    | intro _
    | with_reducible apply fr_sendMirror
    | with_reducible apply fr_if
    | with_reducible apply fr_ifn
    | with_reducible apply fr_foldl

theorem fr_connFails {mm : Nat} {s0 s : State} (hm : In 308225 mm) (h : Fr mm s0 s) (c : Conn) (cause : Nat) (vc : Nat) :
    Fr mm s0 (State.connFails s c cause vc) := by
  unfold State.connFails
  try dsimp only
  repeat'
    first
    | with_reducible assumption
    | (exact in_of hm rfl)
    | intro _
    | with_reducible apply fr_failConn
    | with_reducible apply fr_resendStreams

theorem fr_syncHorizon {mm : Nat} {s0 s : State} (hm : In 256 mm) (h : Fr mm s0 s) :
    Fr mm s0 (State.syncHorizon s) := by
  unfold State.syncHorizon
  try dsimp only
  repeat'
    first
    | with_reducible assumption
    | (exact in_of hm rfl)
    | intro _
    | with_reducible apply fr_modPersist

theorem fr_mirrorRun {mm : Nat} {s0 s : State} (hm : In 308481 mm) (h : Fr mm s0 s) (slot : Nat) (seq : Nat) (r : Run) (sync : Bool) :
    Fr mm s0 (State.mirrorRun s slot seq r sync) := by
  unfold State.mirrorRun
  try dsimp only
  repeat'
    first
    | with_reducible assumption
    | (exact in_of hm rfl)
    | intro _
    | with_reducible apply fr_count
    | with_reducible apply fr_modPersist
    | with_reducible apply fr_sendMirror
    | with_reducible apply fr_if

/-! ### Machine/Vault.lean -/

theorem fr_askRead {mm : Nat} {s0 s : State} (hm : In 274432 mm) (h : Fr mm s0 s) (slot : Nat) (src : Nat) (cls : Nat) (n : Nat) :
    Fr mm s0 (State.askRead s slot src cls n) := by
  unfold State.askRead
  try dsimp only
  repeat'
    first
    | with_reducible assumption
    | (exact in_of hm rfl)
    | intro _
    | with_reducible apply fr_ask
    | with_reducible apply fr_countFor

theorem fr_askWrite {mm : Nat} {s0 s : State} (hm : In 274432 mm) (h : Fr mm s0 s) (slot : Nat) (src : Nat) (cls : Nat) (n : Nat) :
    Fr mm s0 (State.askWrite s slot src cls n) := by
  unfold State.askWrite
  try dsimp only
  repeat'
    first
    | with_reducible assumption
    | (exact in_of hm rfl)
    | intro _
    | with_reducible apply fr_ask
    | with_reducible apply fr_countFor

theorem fr_modChan {mm : Nat} {s0 s : State} (hm : In 8192 mm) (h : Fr mm s0 s) (n : Nat) (f : Chan → Chan) :
    Fr mm s0 (State.modChan s n f) := by
  unfold State.modChan
  try dsimp only
  repeat'
    first
    | with_reducible assumption
    | (exact in_of hm rfl)
    | intro _
    | with_reducible apply fr_modDram

theorem fr_metaSend {mm : Nat} {s0 s : State} (hm : In 308993 mm) (h : Fr mm s0 s) (u : MetaUpd) :
    Fr mm s0 (State.metaSend s u) := by
  unfold State.metaSend
  try dsimp only
  repeat'
    first
    | with_reducible assumption
    | (exact in_of hm rfl)
    | intro _
    | with_reducible apply fr_mirrorRun
    | with_reducible apply fr_modPersist
    | with_reducible apply fr_modTwin
    | with_reducible apply fr_syncHorizon
    | with_reducible apply fr_if

theorem fr_setUse {mm : Nat} {s0 s : State} (hm : In 309121 mm) (h : Fr mm s0 s) (slot : Nat) (u : Option SlotUse) :
    Fr mm s0 (State.setUse s slot u) := by
  unfold State.setUse
  try dsimp only
  repeat'
    first
    | with_reducible assumption
    | (exact in_of hm rfl)
    | intro _
    | with_reducible apply fr_metaSend
    | with_reducible apply fr_modPlace

theorem fr_putTomb {mm : Nat} {s0 s : State} (hm : In 309121 mm) (h : Fr mm s0 s) (t : Tomb) :
    Fr mm s0 (State.putTomb s t) := by
  unfold State.putTomb
  try dsimp only
  repeat'
    first
    | with_reducible assumption
    | (exact in_of hm rfl)
    | intro _
    | with_reducible apply fr_metaSend
    | with_reducible apply fr_modPlace

theorem fr_dropTomb {mm : Nat} {s0 s : State} (hm : In 309121 mm) (h : Fr mm s0 s) (key : Nat) :
    Fr mm s0 (State.dropTomb s key) := by
  unfold State.dropTomb
  try dsimp only
  repeat'
    first
    | with_reducible assumption
    | (exact in_of hm rfl)
    | intro _
    | with_reducible apply fr_metaSend
    | with_reducible apply fr_modPlace

theorem fr_putArrival {mm : Nat} {s0 s : State} (hm : In 308993 mm) (h : Fr mm s0 s) (a : Arrival) :
    Fr mm s0 (State.putArrival s a) := by
  unfold State.putArrival
  try dsimp only
  repeat'
    first
    | with_reducible assumption
    | (exact in_of hm rfl)
    | intro _
    | with_reducible apply fr_metaSend
    | with_reducible apply fr_modPersist

theorem fr_dropArrival {mm : Nat} {s0 s : State} (hm : In 308993 mm) (h : Fr mm s0 s) (slot : Nat) :
    Fr mm s0 (State.dropArrival s slot) := by
  unfold State.dropArrival
  try dsimp only
  repeat'
    first
    | with_reducible assumption
    | (exact in_of hm rfl)
    | intro _
    | with_reducible apply fr_metaSend
    | with_reducible apply fr_modPersist

theorem fr_overCheck {mm : Nat} {s0 s : State} (hm : In 262272 mm) (h : Fr mm s0 s) :
    Fr mm s0 (State.overCheck s) := by
  unfold State.overCheck
  try dsimp only
  repeat'
    first
    | with_reducible assumption
    | (exact in_of hm rfl)
    | intro _
    | with_reducible apply fr_modPlace
    | with_reducible apply fr_raise
    | with_reducible apply fr_if

theorem fr_takeSlot {mm : Nat} {s0 s : State} (hm : In 309121 mm) (h : Fr mm s0 s) (slot : Nat) (u : SlotUse) :
    Fr mm s0 (State.takeSlot s slot u) := by
  unfold State.takeSlot
  try dsimp only
  repeat'
    first
    | with_reducible assumption
    | (exact in_of hm rfl)
    | intro _
    | with_reducible apply fr_overCheck
    | with_reducible apply fr_setUse

theorem fr_forgetSlot {mm : Nat} {s0 s : State} (hm : In 17282 mm) (h : Fr mm s0 s) (slot : Nat) :
    Fr mm s0 (State.forgetSlot s slot) := by
  unfold State.forgetSlot
  try dsimp only
  repeat'
    first
    | with_reducible assumption
    | (exact in_of hm rfl)
    | intro _
    | with_reducible apply fr_modEcc
    | with_reducible apply fr_modPersist
    | with_reducible apply fr_modPlace
    | with_reducible apply fr_modTwin
    | with_reducible apply fr_zeroSlot
    | (refine fr_of_fst (by with_reducible assumption) ?_)
    | with_reducible apply fr_if

theorem fr_releaseSlot {mm : Nat} {s0 s : State} (hm : In 325507 mm) (h : Fr mm s0 s) (slot : Nat) :
    Fr mm s0 (State.releaseSlot s slot) := by
  unfold State.releaseSlot
  try dsimp only
  repeat'
    first
    | with_reducible assumption
    | (exact in_of hm rfl)
    | intro _
    | with_reducible apply fr_ask
    | with_reducible apply fr_askWrite
    | with_reducible apply fr_forgetSlot
    | with_reducible apply fr_overCheck
    | with_reducible apply fr_setUse

theorem fr_modDir {mm : Nat} {s0 s : State} (hm : In 309121 mm) (h : Fr mm s0 s) (key : Nat) (f : DirEnt → DirEnt) :
    Fr mm s0 (State.modDir s key f) := by
  unfold State.modDir
  try dsimp only
  repeat'
    first
    | with_reducible assumption
    | (exact in_of hm rfl)
    | intro _
    | with_reducible apply fr_metaSend
    | with_reducible apply fr_modPlace
    | with_reducible apply fr_if

theorem fr_lowerRoom {mm : Nat} {s0 s : State} (hm : In 128 mm) (h : Fr mm s0 s) (v : Nat) :
    Fr mm s0 (State.lowerRoom s v) := by
  unfold State.lowerRoom
  try dsimp only
  repeat'
    first
    | with_reducible assumption
    | (exact in_of hm rfl)
    | intro _
    | with_reducible apply fr_modPlace

theorem fr_heatTouch {mm : Nat} {s0 s : State} (hm : In 128 mm) (h : Fr mm s0 s) (slot : Nat) :
    Fr mm s0 (State.heatTouch s slot) := by
  unfold State.heatTouch
  try dsimp only
  repeat'
    first
    | with_reducible assumption
    | (exact in_of hm rfl)
    | intro _
    | with_reducible apply fr_modPlace

theorem fr_sample {mm : Nat} {s0 s : State} (hm : In 262272 mm) (h : Fr mm s0 s) (slot : Nat) (v : Nat) (write : Bool) (ring : Bool) :
    Fr mm s0 (State.sample s slot v write ring) := by
  unfold State.sample
  try dsimp only
  repeat'
    first
    | with_reducible assumption
    | (exact in_of hm rfl)
    | intro _
    | with_reducible apply fr_heatTouch
    | with_reducible apply fr_modPlace
    | with_reducible apply fr_raise
    | with_reducible apply fr_if

/-! ### Machine/WritePath.lean -/

theorem fr_modDrive {mm : Nat} {s0 s : State} (hm : In 256 mm) (h : Fr mm s0 s) (d : Nat) (f : Drive → Drive) :
    Fr mm s0 (State.modDrive s d f) := by
  unfold State.modDrive
  try dsimp only
  repeat'
    first
    | with_reducible assumption
    | (exact in_of hm rfl)
    | intro _
    | with_reducible apply fr_modPersist

theorem fr_throttleNotice {mm : Nat} {s0 s : State} (hm : In 308225 mm) (h : Fr mm s0 s) (kind : Nat) :
    Fr mm s0 (State.throttleNotice s kind) := by
  unfold State.throttleNotice
  try dsimp only
  repeat'
    first
    | with_reducible assumption
    | (exact in_of hm rfl)
    | intro _
    | with_reducible apply fr_sendAll

theorem fr_throttleCheck {mm : Nat} {s0 s : State} (hm : In 308481 mm) (h : Fr mm s0 s) :
    Fr mm s0 (State.throttleCheck s) := by
  unfold State.throttleCheck
  try dsimp only
  repeat'
    first
    | with_reducible assumption
    | (exact in_of hm rfl)
    | intro _
    | with_reducible apply fr_count
    | with_reducible apply fr_modPersist
    | with_reducible apply fr_raise
    | with_reducible apply fr_throttleNotice
    | with_reducible apply fr_if

theorem fr_ceilingCheck {mm : Nat} {s0 s : State} (hm : In 308481 mm) (h : Fr mm s0 s) (old : Nat) :
    Fr mm s0 (State.ceilingCheck s old) := by
  unfold State.ceilingCheck
  try dsimp only
  repeat'
    first
    | with_reducible assumption
    | (exact in_of hm rfl)
    | intro _
    | with_reducible apply fr_raise
    | with_reducible apply fr_throttleCheck
    | with_reducible apply fr_if

theorem fr_poisonEnterSpan {mm : Nat} {s0 s : State} (hm : In 325377 mm) (h : Fr mm s0 s) (ln : Nat) (cause : Nat) (span : Nat) :
    Fr mm s0 (State.poisonEnterSpan s ln cause span) := by
  unfold State.poisonEnterSpan
  try dsimp only
  repeat'
    first
    | with_reducible assumption
    | (exact in_of hm rfl)
    | intro _
    | with_reducible apply fr_count
    | with_reducible apply fr_metaSend
    | with_reducible apply fr_modEcc
    | with_reducible apply fr_raise
    | with_reducible apply fr_if

theorem fr_poisonEnter {mm : Nat} {s0 s : State} (hm : In 325377 mm) (h : Fr mm s0 s) (ln : Nat) (cause : Nat) :
    Fr mm s0 (State.poisonEnter s ln cause) := by
  unfold State.poisonEnter
  try dsimp only
  repeat'
    first
    | with_reducible assumption
    | (exact in_of hm rfl)
    | intro _
    | with_reducible apply fr_poisonEnterSpan

theorem fr_poisonDrop {mm : Nat} {s0 s : State} (hm : In 325377 mm) (h : Fr mm s0 s) (among : PoisonEnt → Bool) :
    Fr mm s0 (State.poisonDrop s among) := by
  unfold State.poisonDrop
  try dsimp only
  repeat'
    first
    | with_reducible assumption
    | (exact in_of hm rfl)
    | intro _
    | with_reducible apply fr_metaSend
    | with_reducible apply fr_modEcc
    | with_reducible apply fr_if
    | with_reducible apply fr_ifn
    | with_reducible apply fr_foldl

theorem fr_poisonLeave {mm : Nat} {s0 s : State} (hm : In 325377 mm) (h : Fr mm s0 s) (ln : Nat) :
    Fr mm s0 (State.poisonLeave s ln) := by
  unfold State.poisonLeave
  try dsimp only
  repeat'
    first
    | with_reducible assumption
    | (exact in_of hm rfl)
    | intro _
    | with_reducible apply fr_poisonDrop

theorem fr_poisonLines {mm : Nat} {s0 s : State} (hm : In 16384 mm) (h : Fr mm s0 s) (ln : Nat) (n : Nat) :
    Fr mm s0 (State.poisonLines s ln n) := by
  unfold State.poisonLines
  try dsimp only
  repeat'
    first
    | with_reducible assumption
    | (exact in_of hm rfl)
    | intro _
    | with_reducible apply fr_modEcc

theorem fr_markGran {mm : Nat} {s0 s : State} (hm : In 896 mm) (h : Fr mm s0 s) (g : Nat) (seq : Nat) :
    Fr mm s0 (State.markGran s g seq) := by
  unfold State.markGran
  try dsimp only
  repeat'
    first
    | with_reducible assumption
    | (exact in_of hm rfl)
    | intro _
    | with_reducible apply fr_modPersist
    | with_reducible apply fr_modPlace
    | with_reducible apply fr_modTwin
    | with_reducible apply fr_if

theorem fr_invalidate {mm : Nat} {s0 s : State} (hm : In 308353 mm) (h : Fr mm s0 s) (key : Nat) (ln : Nat) (write : Nat) :
    Fr mm s0 (State.invalidate s key ln write) := by
  unfold State.invalidate
  try dsimp only
  repeat'
    first
    | with_reducible assumption
    | (exact in_of hm rfl)
    | intro _
    | with_reducible apply fr_count
    | with_reducible apply fr_modPlace
    | with_reducible apply fr_send
    | with_reducible apply fr_foldl

theorem fr_lineCost {mm : Nat} {s0 s : State} (hm : In 262144 mm) (h : Fr mm s0 s) (ln : Nat) (full : Bool) (t : ReqTag) :
    Fr mm s0 (State.lineCost s ln full t) := by
  unfold State.lineCost
  try dsimp only
  repeat'
    first
    | with_reducible assumption
    | (exact in_of hm rfl)
    | intro _
    | with_reducible apply fr_countFor
    | with_reducible apply fr_if

theorem fr_mergeKeep {mm : Nat} {s0 s : State} (hm : In 16384 mm) (h : Fr mm s0 s) (ln : Nat) (full : Bool) :
    Fr mm s0 (State.mergeKeep s ln full) := by
  unfold State.mergeKeep
  try dsimp only
  repeat'
    first
    | with_reducible assumption
    | (exact in_of hm rfl)
    | intro _
    | with_reducible apply fr_modEcc

theorem fr_applyLine {mm : Nat} {s0 s : State} (hm : In 325507 mm) (h : Fr mm s0 s) (slot : Nat) (key : Nat) (off : Nat) (line : Line) (be : BitVec 64) (poison : Bool) (tag : Option (Nat × Nat)) (atomic : Option (Nat × Nat × Nat)) (write : Nat) (cause : Nat) :
    Fr mm s0 (State.applyLine s slot key off line be poison tag atomic write cause) := by
  unfold State.applyLine
  try dsimp only
  repeat'
    first
    | with_reducible assumption
    | (exact in_of hm rfl)
    | intro _
    | with_reducible apply fr_invalidate
    | with_reducible apply fr_markGran
    | with_reducible apply fr_mergeKeep
    | with_reducible apply fr_mirrorRun
    | with_reducible apply fr_modEcc
    | with_reducible apply fr_modPersist
    | with_reducible apply fr_poisonEnter
    | with_reducible apply fr_poisonLeave
    | with_reducible apply fr_putLine
    | with_reducible apply fr_syncHorizon
    | (refine fr_of_fst (by with_reducible assumption) ?_)
    | with_reducible apply fr_if

theorem fr_modWork {mm : Nat} {s0 s : State} (hm : In 64 mm) (h : Fr mm s0 s) (id : Nat) (f : Work → Work) :
    Fr mm s0 (State.modWork s id f) := by
  unfold State.modWork
  try dsimp only
  repeat'
    first
    | with_reducible assumption
    | (exact in_of hm rfl)
    | with_reducible apply fr_id
    | intro _
    | with_reducible apply fr_modRings

theorem fr_dropReq {mm : Nat} {s0 s : State} (hm : In 32 mm) (h : Fr mm s0 s) (num : Nat) :
    Fr mm s0 (State.dropReq s num) := by
  unfold State.dropReq
  try dsimp only
  repeat'
    first
    | with_reducible assumption
    | (exact in_of hm rfl)
    | intro _
    | with_reducible apply fr_modHost

theorem fr_endWrite {mm : Nat} {s0 s : State} (hm : In 97 mm) (h : Fr mm s0 s) (num : Nat) (status : Nat) :
    Fr mm s0 (State.endWrite s num status) := by
  unfold State.endWrite
  try dsimp only
  repeat'
    first
    | with_reducible assumption
    | (exact in_of hm rfl)
    | intro _
    | with_reducible apply fr_dropReq
    | with_reducible apply fr_emit
    | with_reducible apply fr_modHost
    | with_reducible apply fr_modWork
    | (refine fr_of_fst (by with_reducible assumption) ?_)
    | with_reducible apply fr_if
    | with_reducible apply fr_ifn
    | split

theorem fr_answer {mm : Nat} {s0 s : State} (hm : In 308321 mm) (h : Fr mm s0 s) (o : Origin) (status : Nat) :
    Fr mm s0 (State.answer s o status) := by
  unfold State.answer
  try dsimp only
  repeat'
    first
    | with_reducible assumption
    | (exact in_of hm rfl)
    | intro _
    | with_reducible apply fr_endWrite
    | with_reducible apply fr_send
    | split

theorem fr_granFailed {mm : Nat} {s0 s : State} (hm : In 308577 mm) (h : Fr mm s0 s) (g : Nat) :
    Fr mm s0 (State.granFailed s g) := by
  unfold State.granFailed
  try dsimp only
  repeat'
    first
    | with_reducible assumption
    | (exact in_of hm rfl)
    | with_reducible apply fr_id
    | intro _
    | with_reducible apply fr_answer
    | with_reducible apply fr_modPersist
    | with_reducible apply fr_modWork
    | (refine fr_of_fst (by with_reducible assumption) ?_)
    | with_reducible apply fr_if
    | with_reducible apply fr_ifn
    | with_reducible apply fr_foldl

theorem fr_sendHome {mm : Nat} {s0 s : State} (hm : In 274689 mm) (h : Fr mm s0 s) (g : Nat) (flush : Bool) :
    Fr mm s0 (State.sendHome s g flush) := by
  unfold State.sendHome
  try dsimp only
  repeat'
    first
    | with_reducible assumption
    | (exact in_of hm rfl)
    | with_reducible apply fr_id
    | intro _
    | with_reducible apply fr_ask
    | with_reducible apply fr_askRead
    | with_reducible apply fr_count
    | with_reducible apply fr_emit
    | with_reducible apply fr_modPersist
    | with_reducible apply fr_if
    | with_reducible apply fr_ifn
    | with_reducible apply fr_foldl

theorem fr_issueHome {mm : Nat} {s0 s : State} (hm : In 308577 mm) (h : Fr mm s0 s) (g : Nat) (flush : Bool) :
    Fr mm s0 (State.issueHome s g flush) := by
  unfold State.issueHome
  try dsimp only
  repeat'
    first
    | with_reducible assumption
    | (exact in_of hm rfl)
    | intro _
    | with_reducible apply fr_granFailed
    | with_reducible apply fr_raise
    | with_reducible apply fr_sendHome
    | with_reducible apply fr_if
    | with_reducible apply fr_ifn
    | split

theorem fr_pumpUrgent {mm : Nat} {s0 s : State} (hm : In 308577 mm) (h : Fr mm s0 s) :
    Fr mm s0 (State.pumpUrgent s) := by
  unfold State.pumpUrgent
  try dsimp only
  repeat'
    first
    | with_reducible assumption
    | (exact in_of hm rfl)
    | intro _
    | with_reducible apply fr_issueHome
    | with_reducible apply fr_if
    | with_reducible apply fr_ifn
    | with_reducible apply fr_foldl

theorem fr_completeWrites {mm : Nat} {s0 s : State} (hm : In 308577 mm) (h : Fr mm s0 s) :
    Fr mm s0 (State.completeWrites s) := by
  unfold State.completeWrites
  try dsimp only
  repeat'
    first
    | with_reducible assumption
    | (exact in_of hm rfl)
    | intro _
    | with_reducible apply fr_answer
    | with_reducible apply fr_count
    | with_reducible apply fr_modPersist
    | with_reducible apply fr_if
    | with_reducible apply fr_ifn
    | with_reducible apply fr_foldl

theorem fr_lineApplied {mm : Nat} {s0 s : State} (hm : In 64 mm) (h : Fr mm s0 s) (o : Origin) :
    Fr mm s0 (State.lineApplied s o) := by
  unfold State.lineApplied
  try dsimp only
  repeat'
    first
    | with_reducible assumption
    | (exact in_of hm rfl)
    | with_reducible apply fr_id
    | intro _
    | with_reducible apply fr_modWork
    | split

theorem fr_askDram {mm : Nat} {s0 s : State} (hm : In 274432 mm) (h : Fr mm s0 s) (h : HReq) (slot : Nat) (n : Nat) :
    Fr mm s0 (State.askDram s h slot n) := by
  unfold State.askDram
  try dsimp only
  repeat'
    first
    | with_reducible assumption
    | (exact in_of hm rfl)
    | intro _
    | with_reducible apply fr_ask

theorem fr_keepOrigin {mm : Nat} {s0 s : State} (hm : In 512 mm) (h : Fr mm s0 s) (o : Origin) :
    Fr mm s0 (State.keepOrigin s o) := by
  unfold State.keepOrigin
  try dsimp only
  repeat'
    first
    | with_reducible assumption
    | (exact in_of hm rfl)
    | intro _
    | with_reducible apply fr_modTwin
    | (refine fr_of_fst (by with_reducible assumption) ?_)
    | split

theorem fr_driveHeader {mm : Nat} {s0 s : State} (hm : In 262145 mm) (h : Fr mm s0 s) (d : Nat) :
    Fr mm s0 (State.driveHeader s d) := by
  unfold State.driveHeader
  try dsimp only
  repeat'
    first
    | with_reducible assumption
    | (exact in_of hm rfl)
    | intro _
    | with_reducible apply fr_count
    | with_reducible apply fr_emit
    | with_reducible apply fr_if

theorem fr_writeHeader {mm : Nat} {s0 s : State} (hm : In 262401 mm) (h : Fr mm s0 s) (f : Header → Header) :
    Fr mm s0 (State.writeHeader s f) := by
  unfold State.writeHeader
  try dsimp only
  repeat'
    first
    | with_reducible assumption
    | (exact in_of hm rfl)
    | intro _
    | with_reducible apply fr_driveHeader
    | with_reducible apply fr_modPersist
    | with_reducible apply fr_if
    | with_reducible apply fr_ifn
    | with_reducible apply fr_foldl

theorem fr_openHome {mm : Nat} {s0 s : State} (hm : In 308481 mm) (h : Fr mm s0 s) :
    Fr mm s0 (State.openHome s) := by
  unfold State.openHome
  try dsimp only
  repeat'
    first
    | with_reducible assumption
    | (exact in_of hm rfl)
    | intro _
    | with_reducible apply fr_modPersist
    | with_reducible apply fr_throttleNotice
    | with_reducible apply fr_writeHeader
    | with_reducible apply fr_if

theorem fr_applyPlain {mm : Nat} {s0 s : State} (hm : In 325603 mm) (h : Fr mm s0 s) (h : HReq) (slot : Nat) (tag : Option (Nat × Nat)) (atomic : Option (Nat × Nat × Nat)) :
    Fr mm s0 (State.applyPlain s h slot tag atomic) := by
  unfold State.applyPlain
  try dsimp only
  repeat'
    first
    | with_reducible assumption
    | (exact in_of hm rfl)
    | with_reducible apply fr_id
    | intro _
    | with_reducible apply fr_answer
    | with_reducible apply fr_applyLine
    | with_reducible apply fr_askDram
    | with_reducible apply fr_completeWrites
    | with_reducible apply fr_keepOrigin
    | with_reducible apply fr_lineApplied
    | with_reducible apply fr_lineCost
    | with_reducible apply fr_modPersist
    | with_reducible apply fr_pumpUrgent
    | with_reducible apply fr_sample
    | with_reducible apply fr_throttleCheck
    | (refine fr_of_fst (by with_reducible assumption) ?_)
    | with_reducible apply fr_if

theorem fr_applyAtomic {mm : Nat} {s0 s : State} (hm : In 325603 mm) (h : Fr mm s0 s) (h : HReq) (o : AtomOp) (slot : Nat) :
    Fr mm s0 (State.applyAtomic s h o slot) := by
  unfold State.applyAtomic
  try dsimp only
  repeat'
    first
    | with_reducible assumption
    | (exact in_of hm rfl)
    | intro _
    | with_reducible apply fr_answer
    | with_reducible apply fr_applyPlain
    | with_reducible apply fr_modWork
    | with_reducible apply fr_tick
    | (refine fr_of_fst (by with_reducible assumption) ?_)
    | with_reducible apply fr_if
    | with_reducible apply fr_ifn
    | split

theorem fr_applyWrite {mm : Nat} {s0 s : State} (hm : In 325603 mm) (h : Fr mm s0 s) (h : HReq) (slot : Nat) :
    Fr mm s0 (State.applyWrite s h slot) := by
  unfold State.applyWrite
  try dsimp only
  repeat'
    first
    | with_reducible assumption
    | (exact in_of hm rfl)
    | intro _
    | with_reducible apply fr_applyAtomic
    | with_reducible apply fr_applyPlain
    | with_reducible apply fr_openHome
    | with_reducible apply fr_if
    | with_reducible apply fr_ifn
    | split

theorem fr_writeHere {mm : Nat} {s0 s : State} (hm : In 325603 mm) (h : Fr mm s0 s) (h : HReq) (slot : Nat) :
    Fr mm s0 (State.writeHere s h slot) := by
  unfold State.writeHere
  try dsimp only
  repeat'
    first
    | with_reducible assumption
    | (exact in_of hm rfl)
    | intro _
    | with_reducible apply fr_applyWrite
    | with_reducible apply fr_modPersist
    | (refine fr_of_fst (by with_reducible assumption) ?_)
    | with_reducible apply fr_if

/-! ### Machine/EntryPath.lean -/

theorem fr_tcacheHit {mm : Nat} {s0 s : State} (hm : In 128 mm) (h : Fr mm s0 s) (key : Nat) :
    Fr mm s0 (State.tcacheHit s key) := by
  unfold State.tcacheHit
  try dsimp only
  repeat'
    first
    | with_reducible assumption
    | (exact in_of hm rfl)
    | intro _
    | with_reducible apply fr_modPlace

theorem fr_tcacheFill {mm : Nat} {s0 s : State} (hm : In 128 mm) (h : Fr mm s0 s) (key : Nat) (vault : Nat) (slot : Nat) (gen : Nat) :
    Fr mm s0 (State.tcacheFill s key vault slot gen) := by
  unfold State.tcacheFill
  try dsimp only
  repeat'
    first
    | with_reducible assumption
    | (exact in_of hm rfl)
    | intro _
    | with_reducible apply fr_modPlace

theorem fr_tcacheDrop {mm : Nat} {s0 s : State} (hm : In 128 mm) (h : Fr mm s0 s) (key : Nat) :
    Fr mm s0 (State.tcacheDrop s key) := by
  unfold State.tcacheDrop
  try dsimp only
  repeat'
    first
    | with_reducible assumption
    | (exact in_of hm rfl)
    | intro _
    | with_reducible apply fr_modPlace

theorem fr_modLdev {mm : Nat} {s0 s : State} (hm : In 32 mm) (h : Fr mm s0 s) (p : Nat) (l : Nat) (f : LDev → LDev) :
    Fr mm s0 (State.modLdev s p l f) := by
  unfold State.modLdev
  try dsimp only
  repeat'
    first
    | with_reducible assumption
    | (exact in_of hm rfl)
    | intro _
    | with_reducible apply fr_modHost

theorem fr_msix {mm : Nat} {s0 s : State} (hm : In 33 mm) (h : Fr mm s0 s) (p : Nat) (l : Nat) (v : Nat) :
    Fr mm s0 (State.msix s p l v) := by
  unfold State.msix
  try dsimp only
  repeat'
    first
    | with_reducible assumption
    | (exact in_of hm rfl)
    | intro _
    | with_reducible apply fr_emit
    | with_reducible apply fr_modLdev
    | (refine fr_of_fst (by with_reducible assumption) ?_)
    | with_reducible apply fr_if

theorem fr_logOnly {mm : Nat} {s0 s : State} (hm : In 33 mm) (h : Fr mm s0 s) (p : Nat) (l : Nat) (kind : Nat) (a : Nat) (len : Nat) :
    Fr mm s0 (State.logOnly s p l kind a len) := by
  unfold State.logOnly
  try dsimp only
  repeat'
    first
    | with_reducible assumption
    | (exact in_of hm rfl)
    | intro _
    | with_reducible apply fr_modLdev
    | with_reducible apply fr_msix
    | with_reducible apply fr_if

theorem fr_logEvent {mm : Nat} {s0 s : State} (hm : In 33 mm) (h : Fr mm s0 s) (p : Nat) (l : Nat) (kind : Nat) (a : Nat) (v : Nat) :
    Fr mm s0 (State.logEvent s p l kind a v) := by
  unfold State.logEvent
  try dsimp only
  repeat'
    first
    | with_reducible assumption
    | (exact in_of hm rfl)
    | intro _
    | with_reducible apply fr_logOnly
    | with_reducible apply fr_msix

theorem fr_modSess {mm : Nat} {s0 s : State} (hm : In 32 mm) (h : Fr mm s0 s) (n : Nat) (f : Sess → Sess) :
    Fr mm s0 (State.modSess s n f) := by
  unfold State.modSess
  try dsimp only
  repeat'
    first
    | with_reducible assumption
    | (exact in_of hm rfl)
    | intro _
    | with_reducible apply fr_modHost

theorem fr_countPort {mm : Nat} {s0 s : State} (hm : In 262144 mm) (h : Fr mm s0 s) (e : EReq) (i : Nat) (n : Nat) :
    Fr mm s0 (State.countPort s e i n) := by
  unfold State.countPort
  try dsimp only
  repeat'
    first
    | with_reducible assumption
    | (exact in_of hm rfl)
    | intro _
    | with_reducible apply fr_countFor
    | with_reducible apply fr_if

theorem fr_finishHostRead {mm : Nat} {s0 s : State} (hm : In 262177 mm) (h : Fr mm s0 s) (e : EReq) (line : Line) (poison : Bool) :
    Fr mm s0 (State.finishHostRead s e line poison) := by
  unfold State.finishHostRead
  try dsimp only
  repeat'
    first
    | with_reducible assumption
    | (exact in_of hm rfl)
    | intro _
    | with_reducible apply fr_countPort
    | with_reducible apply fr_dropReq
    | with_reducible apply fr_emit
    | with_reducible apply fr_logEvent
    | with_reducible apply fr_modSess
    | with_reducible apply fr_raise
    | with_reducible apply fr_tick
    | with_reducible apply fr_if

theorem fr_finishRead {mm : Nat} {s0 s : State} (hm : In 262241 mm) (h : Fr mm s0 s) (e : EReq) (line : Line) (poison : Bool) :
    Fr mm s0 (State.finishRead s e line poison) := by
  unfold State.finishRead
  try dsimp only
  repeat'
    first
    | with_reducible assumption
    | (exact in_of hm rfl)
    | intro _
    | with_reducible apply fr_dropReq
    | with_reducible apply fr_finishHostRead
    | with_reducible apply fr_modWork
    | (refine fr_of_fst (by with_reducible assumption) ?_)
    | split

theorem fr_pieceHere {mm : Nat} {s0 s : State} (hm : In 96 mm) (h : Fr mm s0 s) (e : EReq) :
    Fr mm s0 (State.pieceHere s e) := by
  unfold State.pieceHere
  try dsimp only
  repeat'
    first
    | with_reducible assumption
    | (exact in_of hm rfl)
    | intro _
    | with_reducible apply fr_dropReq
    | with_reducible apply fr_modWork
    | split

theorem fr_sendList {mm : Nat} {s0 s : State} (hm : In 308225 mm) (h : Fr mm s0 s) (d : Nat) (bs : List FBody) :
    Fr mm s0 (State.sendList s d bs) := by
  unfold State.sendList
  try dsimp only
  repeat'
    first
    | with_reducible assumption
    | (exact in_of hm rfl)
    | intro _
    | with_reducible apply fr_send
    | with_reducible apply fr_foldl

theorem fr_readHere {mm : Nat} {s0 s : State} (hm : In 308449 mm) (h : Fr mm s0 s) (h : HReq) (slot : Nat) :
    Fr mm s0 (State.readHere s h slot) := by
  unfold State.readHere
  try dsimp only
  repeat'
    first
    | with_reducible assumption
    | (exact in_of hm rfl)
    | intro _
    | with_reducible apply fr_askDram
    | with_reducible apply fr_countFor
    | with_reducible apply fr_finishRead
    | with_reducible apply fr_sample
    | with_reducible apply fr_sendList
    | split

theorem fr_writeOver {mm : Nat} {s0 s : State} (hm : In 325603 mm) (h : Fr mm s0 s) (h : HReq) (slot : Nat) :
    Fr mm s0 (State.writeOver s h slot) := by
  unfold State.writeOver
  try dsimp only
  repeat'
    first
    | with_reducible assumption
    | (exact in_of hm rfl)
    | intro _
    | with_reducible apply fr_readHere
    | with_reducible apply fr_writeHere
    | with_reducible apply fr_if
    | with_reducible apply fr_ifn
    | with_reducible apply fr_foldl

theorem fr_serveReq {mm : Nat} {s0 s : State} (hm : In 325603 mm) (h : Fr mm s0 s) (h : HReq) (slot : Nat) :
    Fr mm s0 (State.serveReq s h slot) := by
  unfold State.serveReq
  try dsimp only
  repeat'
    first
    | with_reducible assumption
    | (exact in_of hm rfl)
    | intro _
    | with_reducible apply fr_count
    | with_reducible apply fr_modDram
    | with_reducible apply fr_modEcc
    | with_reducible apply fr_modPersist
    | with_reducible apply fr_readHere
    | with_reducible apply fr_writeOver
    | with_reducible apply fr_if

theorem fr_admitWaiting {mm : Nat} {s0 s : State} (hm : In 325603 mm) (h : Fr mm s0 s) (fuel : Nat) :
    Fr mm s0 (State.admitWaiting s fuel) := by
  induction fuel generalizing s  with
  | zero =>
    unfold State.admitWaiting
    try dsimp only
    repeat'
      first
      | with_reducible assumption
  | succ fuel ih =>
    unfold State.admitWaiting
    try dsimp only
    repeat'
      first
      | with_reducible assumption
      | with_reducible apply ih
      | (exact in_of hm rfl)
      | intro _
      | with_reducible apply fr_applyWrite
      | with_reducible apply fr_modPersist
      | with_reducible apply fr_readHere
      | with_reducible apply fr_if
      | with_reducible apply fr_ifn
      | split

theorem fr_afterClean {mm : Nat} {s0 s : State} (hm : In 325603 mm) (h : Fr mm s0 s) :
    Fr mm s0 (State.afterClean s) := by
  unfold State.afterClean
  try dsimp only
  repeat'
    first
    | with_reducible assumption
    | (exact in_of hm rfl)
    | intro _
    | with_reducible apply fr_admitWaiting
    | with_reducible apply fr_throttleCheck

theorem fr_answerMoved {mm : Nat} {s0 s : State} (hm : In 308225 mm) (h : Fr mm s0 s) (peer : Nat) (entry : Nat) (num : Nat) (vault : Nat) (slot : Nat) (gen : Nat) :
    Fr mm s0 (State.answerMoved s peer entry num vault slot gen) := by
  unfold State.answerMoved
  try dsimp only
  repeat'
    first
    | with_reducible assumption
    | (exact in_of hm rfl)
    | intro _
    | with_reducible apply fr_count
    | with_reducible apply fr_send

theorem fr_arriveRemote {mm : Nat} {s0 s : State} (hm : In 325603 mm) (h : Fr mm s0 s) (h : HReq) (peer : Nat) (entry : Nat) (num : Nat) :
    Fr mm s0 (State.arriveRemote s h peer entry num) := by
  unfold State.arriveRemote
  try dsimp only
  repeat'
    first
    | with_reducible assumption
    | (exact in_of hm rfl)
    | intro _
    | with_reducible apply fr_answerMoved
    | with_reducible apply fr_count
    | with_reducible apply fr_modPlace
    | with_reducible apply fr_serveReq
    | with_reducible apply fr_if
    | with_reducible apply fr_ifn
    | split

theorem fr_tell {mm : Nat} {s0 s : State} (hm : In 308225 mm) (h : Fr mm s0 s) (v : Nat) (code : Nat) (m : PMsg) :
    Fr mm s0 (State.tell s v code m) := by
  unfold State.tell
  try dsimp only
  repeat'
    first
    | with_reducible assumption
    | (exact in_of hm rfl)
    | intro _
    | with_reducible apply fr_send

theorem fr_tellHome {mm : Nat} {s0 s : State} (hm : In 308225 mm) (h : Fr mm s0 s) (key : Nat) :
    Fr mm s0 (State.tellHome s key) := by
  unfold State.tellHome
  try dsimp only
  repeat'
    first
    | with_reducible assumption
    | (exact in_of hm rfl)
    | intro _
    | with_reducible apply fr_tell
    | with_reducible apply fr_if

theorem fr_groupHomed {mm : Nat} {s0 s : State} (hm : In 309121 mm) (h : Fr mm s0 s) (g : Nat) (v : Nat) :
    Fr mm s0 (State.groupHomed s g v) := by
  unfold State.groupHomed
  try dsimp only
  repeat'
    first
    | with_reducible assumption
    | (exact in_of hm rfl)
    | intro _
    | with_reducible apply fr_modDir
    | with_reducible apply fr_raise
    | with_reducible apply fr_if

theorem fr_homeEntry {mm : Nat} {s0 s : State} (hm : In 309121 mm) (h : Fr mm s0 s) (key : Nat) (v : Nat) (slot : Nat) :
    Fr mm s0 (State.homeEntry s key v slot) := by
  unfold State.homeEntry
  try dsimp only
  repeat'
    first
    | with_reducible assumption
    | (exact in_of hm rfl)
    | intro _
    | with_reducible apply fr_count
    | with_reducible apply fr_groupHomed
    | with_reducible apply fr_modDir
    | with_reducible apply fr_tell
    | with_reducible apply fr_tellHome
    | with_reducible apply fr_if

theorem fr_reserveHome {m : Nat} {s0 s t : State} {key : Nat} {above : Bool} {n : Nat} (e : s.reserveHome key above = some (t, n)) (hm : In 309121 m)
    (h : Fr m s0 s) : Fr m s0 t := by
  unfold State.reserveHome at e
  split at e
  · split at e
    · rename_i slot _
      have k := fr_modPlace (in_of hm rfl) (fr_takeSlot (in_of hm rfl) h slot (.home key)) (fun p => { p with heat := insertKey slot { homed := true } p.heat })
      cases e
      split
      · exact fr_raise (in_of hm rfl) (fr_count (in_of hm rfl) k _ _) _ _ _
      · exact k
    · cases e
  · cases e

theorem fr_allocWith {mm : Nat} {s0 s : State} (hm : In 309121 mm) (h : Fr mm s0 s) (key : Nat) (anchor : Nat) (fuel : Nat) :
    Fr mm s0 (State.allocWith s key anchor fuel) := by
  induction fuel generalizing s key anchor with
  | zero =>
    unfold State.allocWith
    try dsimp only
    repeat'
      first
      | with_reducible assumption
      | (exact in_of hm rfl)
      | intro _
      | (refine fr_reserveHome (by with_reducible assumption) ?_ ?_)
      | with_reducible apply fr_homeEntry
      | with_reducible apply fr_lowerRoom
      | with_reducible apply fr_modDir
  | succ fuel ih =>
    unfold State.allocWith
    try dsimp only
    repeat'
      first
      | with_reducible assumption
      | with_reducible apply ih
      | (exact in_of hm rfl)
      | intro _
      | (refine fr_reserveHome (by with_reducible assumption) ?_ ?_)
      | with_reducible apply fr_homeEntry
      | with_reducible apply fr_lowerRoom
      | with_reducible apply fr_modDir
      | with_reducible apply fr_tell
      | with_reducible apply fr_if
      | with_reducible apply fr_ifn
      | split

theorem fr_allocate {mm : Nat} {s0 s : State} (hm : In 309121 mm) (h : Fr mm s0 s) (key : Nat) :
    Fr mm s0 (State.allocate s key) := by
  unfold State.allocate
  try dsimp only
  repeat'
    first
    | with_reducible assumption
    | (exact in_of hm rfl)
    | intro _
    | with_reducible apply fr_allocWith
    | with_reducible apply fr_tell
    | with_reducible apply fr_if

theorem fr_dropLateWaits {mm : Nat} {s0 s : State} (hm : In 309121 mm) (h : Fr mm s0 s) (key : Nat) :
    Fr mm s0 (State.dropLateWaits s key) := by
  unfold State.dropLateWaits
  try dsimp only
  repeat'
    first
    | with_reducible assumption
    | (exact in_of hm rfl)
    | intro _
    | with_reducible apply fr_modDir
    | with_reducible apply fr_if

theorem fr_dirLookup {mm : Nat} {s0 s : State} (hm : In 309121 mm) (h : Fr mm s0 s) (key : Nat) (forWrite : Bool) (w : Nat × Nat × Nat) :
    Fr mm s0 (State.dirLookup s key forWrite w).1 := by
  unfold State.dirLookup
  try dsimp only
  repeat'
    first
    | with_reducible assumption
    | (exact in_of hm rfl)
    | intro _
    | with_reducible apply fr_allocate
    | with_reducible apply fr_count
    | with_reducible apply fr_dropLateWaits
    | with_reducible apply fr_modDir
    | with_reducible apply fr_raise
    | (refine fr_of_fst (by with_reducible assumption) ?_)
    | with_reducible apply fr_if
    | with_reducible apply fr_ifn
    | split

theorem fr_serveLookup {mm : Nat} {s0 s : State} (hm : In 309121 mm) (h : Fr mm s0 s) (key : Nat) (peer : Nat) (entry : Nat) (num : Nat) (forWrite : Bool) :
    Fr mm s0 (State.serveLookup s key peer entry num forWrite) := by
  unfold State.serveLookup
  try dsimp only
  repeat'
    first
    | with_reducible assumption
    | (exact in_of hm rfl)
    | intro _
    | with_reducible apply fr_dirLookup
    | with_reducible apply fr_modPlace
    | with_reducible apply fr_send
    | (refine fr_of_fst (by with_reducible assumption) ?_)
    | with_reducible apply fr_if
    | with_reducible apply fr_ifn
    | split

theorem fr_modReq {mm : Nat} {s0 s : State} (hm : In 32 mm) (h : Fr mm s0 s) (num : Nat) (f : EReq → EReq) :
    Fr mm s0 (State.modReq s num f) := by
  unfold State.modReq
  try dsimp only
  repeat'
    first
    | with_reducible assumption
    | (exact in_of hm rfl)
    | intro _
    | with_reducible apply fr_modHost

theorem fr_forwardReq {mm : Nat} {s0 s : State} (hm : In 308257 mm) (h : Fr mm s0 s) (e : EReq) (v : Nat) (slot : Nat) (gen : Nat) :
    Fr mm s0 (State.forwardReq s e v slot gen) := by
  unfold State.forwardReq
  try dsimp only
  repeat'
    first
    | with_reducible assumption
    | (exact in_of hm rfl)
    | intro _
    | with_reducible apply fr_modReq
    | with_reducible apply fr_send
    | with_reducible apply fr_if

theorem fr_holdForMove {mm : Nat} {s0 s : State} (hm : In 262272 mm) (h : Fr mm s0 s) (h : HReq) (dest : Bool) :
    Fr mm s0 (State.holdForMove s h dest) := by
  unfold State.holdForMove
  try dsimp only
  repeat'
    first
    | with_reducible assumption
    | (exact in_of hm rfl)
    | intro _
    | with_reducible apply fr_count
    | with_reducible apply fr_modPlace

theorem fr_foundHome {mm : Nat} {s0 s : State} (hm : In 96 mm) (h : Fr mm s0 s) (e : EReq) (home : Nat) :
    Fr mm s0 (State.foundHome s e home) := by
  unfold State.foundHome
  try dsimp only
  repeat'
    first
    | with_reducible assumption
    | (exact in_of hm rfl)
    | intro _
    | with_reducible apply fr_dropReq
    | with_reducible apply fr_modWork
    | (refine fr_of_fst (by with_reducible assumption) ?_)
    | split

theorem fr_unhomed {mm : Nat} {s0 s : State} (hm : In 262241 mm) (h : Fr mm s0 s) (e : EReq) :
    Fr mm s0 (State.unhomed s e) := by
  unfold State.unhomed
  try dsimp only
  repeat'
    first
    | with_reducible assumption
    | (exact in_of hm rfl)
    | intro _
    | with_reducible apply fr_finishRead
    | with_reducible apply fr_foundHome
    | with_reducible apply fr_pieceHere
    | with_reducible apply fr_if

theorem fr_follow {mm : Nat} {s0 s : State} (hm : In 325603 mm) (h : Fr mm s0 s) (num : Nat) (t : Option TEnt) (fuel : Nat) :
    Fr mm s0 (State.follow s num t fuel) := by
  induction fuel generalizing s num t with
  | zero =>
    unfold State.follow
    try dsimp only
    repeat'
      first
      | with_reducible assumption
  | succ fuel ih =>
    unfold State.follow
    try dsimp only
    repeat'
      first
      | with_reducible assumption
      | with_reducible apply ih
      | (exact in_of hm rfl)
      | intro _
      | with_reducible apply fr_askDram
      | with_reducible apply fr_count
      | with_reducible apply fr_countFor
      | with_reducible apply fr_countPort
      | with_reducible apply fr_dirLookup
      | with_reducible apply fr_endWrite
      | with_reducible apply fr_finishRead
      | with_reducible apply fr_forwardReq
      | with_reducible apply fr_foundHome
      | with_reducible apply fr_holdForMove
      | with_reducible apply fr_modReq
      | with_reducible apply fr_pieceHere
      | with_reducible apply fr_sample
      | with_reducible apply fr_send
      | with_reducible apply fr_serveReq
      | with_reducible apply fr_tcacheDrop
      | with_reducible apply fr_tcacheFill
      | with_reducible apply fr_tcacheHit
      | with_reducible apply fr_unhomed
      | (refine fr_of_fst (by with_reducible assumption) ?_)
      | with_reducible apply fr_if
      | with_reducible apply fr_ifn
      | split

theorem fr_route {mm : Nat} {s0 s : State} (hm : In 325603 mm) (h : Fr mm s0 s) (num : Nat) (fuel : Nat) :
    Fr mm s0 (State.route s num fuel) := by
  unfold State.route
  try dsimp only
  repeat'
    first
    | with_reducible assumption
    | (exact in_of hm rfl)
    | intro _
    | with_reducible apply fr_follow

theorem fr_routeTo {mm : Nat} {s0 s : State} (hm : In 325603 mm) (h : Fr mm s0 s) (num : Nat) (key : Nat) (vault : Nat) (slot : Nat) (gen : Nat) :
    Fr mm s0 (State.routeTo s num key vault slot gen) := by
  unfold State.routeTo
  try dsimp only
  repeat'
    first
    | with_reducible assumption
    | (exact in_of hm rfl)
    | intro _
    | with_reducible apply fr_follow
    | with_reducible apply fr_tcacheFill

theorem fr_startReq {mm : Nat} {s0 s : State} (hm : In 325603 mm) (h : Fr mm s0 s) (e : EReq) :
    Fr mm s0 (State.startReq s e) := by
  unfold State.startReq
  try dsimp only
  repeat'
    first
    | with_reducible assumption
    | (exact in_of hm rfl)
    | intro _
    | with_reducible apply fr_modHost
    | with_reducible apply fr_route

theorem fr_releaseWaits {mm : Nat} {s0 s : State} (hm : In 325603 mm) (h : Fr mm s0 s) (key : Nat) :
    Fr mm s0 (State.releaseWaits s key) := by
  unfold State.releaseWaits
  try dsimp only
  repeat'
    first
    | with_reducible assumption
    | (exact in_of hm rfl)
    | intro _
    | with_reducible apply fr_modDir
    | with_reducible apply fr_routeTo
    | with_reducible apply fr_send
    | (refine fr_of_fst (by with_reducible assumption) ?_)
    | with_reducible apply fr_if
    | with_reducible apply fr_ifn
    | with_reducible apply fr_foldl

theorem fr_resumeLookups {mm : Nat} {s0 s : State} (hm : In 325603 mm) (h : Fr mm s0 s) (keys : Nat → Bool) :
    Fr mm s0 (State.resumeLookups s keys) := by
  unfold State.resumeLookups
  try dsimp only
  repeat'
    first
    | with_reducible assumption
    | (exact in_of hm rfl)
    | intro _
    | with_reducible apply fr_modPlace
    | with_reducible apply fr_route
    | with_reducible apply fr_serveLookup
    | (refine fr_of_fst (by with_reducible assumption) ?_)
    | with_reducible apply fr_foldl

theorem fr_resume {mm : Nat} {s0 s : State} (hm : In 325603 mm) (h : Fr mm s0 s) (hs : List HReq) :
    Fr mm s0 (State.resume s hs) := by
  unfold State.resume
  try dsimp only
  repeat'
    first
    | with_reducible assumption
    | (exact in_of hm rfl)
    | intro _
    | with_reducible apply fr_arriveRemote
    | with_reducible apply fr_route
    | with_reducible apply fr_serveReq
    | with_reducible apply fr_foldl
    | with_reducible apply fr_foldl_fst
    | split

theorem fr_newWork {mm : Nat} {s0 s : State} (hm : In 64 mm) (h : Fr mm s0 s) (w : Work) :
    Fr mm s0 (State.newWork s w).1 := by
  unfold State.newWork
  try dsimp only
  repeat'
    first
    | with_reducible assumption
    | (exact in_of hm rfl)
    | with_reducible apply fr_id
    | intro _
    | with_reducible apply fr_modRings

theorem fr_startPiece {mm : Nat} {s0 s : State} (hm : In 64 mm) (h : Fr mm s0 s) (x : HeldPiece) :
    Fr mm s0 (State.startPiece s x) := by
  unfold State.startPiece
  try dsimp only
  repeat'
    first
    | with_reducible assumption
    | (exact in_of hm rfl)
    | with_reducible apply fr_id
    | intro _
    | with_reducible apply fr_newWork

theorem fr_arrivePiece {mm : Nat} {s0 s : State} (hm : In 308417 mm) (h : Fr mm s0 s) (x : HeldPiece) :
    Fr mm s0 (State.arrivePiece s x) := by
  unfold State.arrivePiece
  try dsimp only
  repeat'
    first
    | with_reducible assumption
    | (exact in_of hm rfl)
    | intro _
    | with_reducible apply fr_answerMoved
    | with_reducible apply fr_count
    | with_reducible apply fr_modPlace
    | with_reducible apply fr_startPiece
    | split

theorem fr_resumePieces {mm : Nat} {s0 s : State} (hm : In 308417 mm) (h : Fr mm s0 s) (key : Nat) :
    Fr mm s0 (State.resumePieces s key) := by
  unfold State.resumePieces
  try dsimp only
  repeat'
    first
    | with_reducible assumption
    | (exact in_of hm rfl)
    | intro _
    | with_reducible apply fr_arrivePiece
    | with_reducible apply fr_modPlace
    | with_reducible apply fr_foldl

theorem fr_piecesBack {mm : Nat} {s0 s : State} (hm : In 308353 mm) (h : Fr mm s0 s) (m : MigIn) (xs : List HeldPiece) :
    Fr mm s0 (State.piecesBack s m xs) := by
  unfold State.piecesBack
  try dsimp only
  repeat'
    first
    | with_reducible assumption
    | (exact in_of hm rfl)
    | intro _
    | with_reducible apply fr_answerMoved
    | with_reducible apply fr_modPlace
    | with_reducible apply fr_foldl

/-! ### Machine/TwinOps.lean -/

theorem fr_tellTwin {mm : Nat} {s0 s : State} (hm : In 308225 mm) (h : Fr mm s0 s) (k : Nat) (v : Nat) :
    Fr mm s0 (State.tellTwin s k v) := by
  unfold State.tellTwin
  try dsimp only
  repeat'
    first
    | with_reducible assumption
    | (exact in_of hm rfl)
    | intro _
    | with_reducible apply fr_send
    | with_reducible apply fr_if
    | with_reducible apply fr_ifn
    | split

theorem fr_tellRanks {mm : Nat} {s0 s : State} (hm : In 308225 mm) (h : Fr mm s0 s) (n : Nat) :
    Fr mm s0 (State.tellRanks s n) := by
  unfold State.tellRanks
  try dsimp only
  repeat'
    first
    | with_reducible assumption
    | (exact in_of hm rfl)
    | intro _
    | with_reducible apply fr_tellTwin

theorem fr_stopFlush {mm : Nat} {s0 s : State} (hm : In 262400 mm) (h : Fr mm s0 s) :
    Fr mm s0 (State.stopFlush s) := by
  unfold State.stopFlush
  try dsimp only
  repeat'
    first
    | with_reducible assumption
    | (exact in_of hm rfl)
    | intro _
    | with_reducible apply fr_modPersist
    | with_reducible apply fr_raise
    | with_reducible apply fr_if

theorem fr_fence {mm : Nat} {s0 s : State} (hm : In 279296 mm) (h : Fr mm s0 s) (cause : Nat) :
    Fr mm s0 (State.fence s cause) := by
  unfold State.fence
  try dsimp only
  repeat'
    first
    | with_reducible assumption
    | (exact in_of hm rfl)
    | intro _
    | with_reducible apply fr_count
    | with_reducible apply fr_modEcc
    | with_reducible apply fr_modTwin
    | with_reducible apply fr_raise
    | with_reducible apply fr_stopFlush
    | with_reducible apply fr_if

theorem fr_unfence {mm : Nat} {s0 s : State} (hm : In 512 mm) (h : Fr mm s0 s) (state : Nat) :
    Fr mm s0 (State.unfence s state) := by
  unfold State.unfence
  try dsimp only
  repeat'
    first
    | with_reducible assumption
    | (exact in_of hm rfl)
    | intro _
    | with_reducible apply fr_modTwin

theorem fr_depose {mm : Nat} {s0 s : State} (hm : In 325603 mm) (h : Fr mm s0 s) :
    Fr mm s0 (State.depose s) := by
  unfold State.depose
  try dsimp only
  repeat'
    first
    | with_reducible assumption
    | (exact in_of hm rfl)
    | intro _
    | with_reducible apply fr_modPersist
    | with_reducible apply fr_modTwin
    | with_reducible apply fr_raise
    | with_reducible apply fr_route
    | with_reducible apply fr_foldl

theorem fr_chanEvent {mm : Nat} {s0 s : State} (hm : In 262144 mm) (h : Fr mm s0 s) (n : Nat) (cause : Nat) (step : Nat) (rank : Nat) (poisoned : Nat) :
    Fr mm s0 (State.chanEvent s n cause step rank poisoned) := by
  unfold State.chanEvent
  try dsimp only
  repeat'
    first
    | with_reducible assumption
    | (exact in_of hm rfl)
    | intro _
    | with_reducible apply fr_raise

theorem fr_retireRank {mm : Nat} {s0 s : State} (hm : In 308225 mm) (h : Fr mm s0 s) (n : Nat) (r : Nat) :
    Fr mm s0 (State.retireRank s n r) := by
  unfold State.retireRank
  try dsimp only
  repeat'
    first
    | with_reducible assumption
    | (exact in_of hm rfl)
    | intro _
    | with_reducible apply fr_modChan
    | with_reducible apply fr_raise
    | with_reducible apply fr_tellRanks
    | (refine fr_of_fst (by with_reducible assumption) ?_)
    | with_reducible apply fr_if

theorem fr_goOffline {mm : Nat} {s0 s : State} (hm : In 308225 mm) (h : Fr mm s0 s) (n : Nat) (cause : Nat) (step : Nat) (rank : Nat) :
    Fr mm s0 (State.goOffline s n cause step rank) := by
  unfold State.goOffline
  try dsimp only
  repeat'
    first
    | with_reducible assumption
    | (exact in_of hm rfl)
    | intro _
    | with_reducible apply fr_chanEvent
    | with_reducible apply fr_modChan
    | with_reducible apply fr_modDram
    | with_reducible apply fr_retireRank
    | (refine fr_of_fst (by with_reducible assumption) ?_)
    | with_reducible apply fr_if
    | with_reducible apply fr_ifn
    | with_reducible apply fr_foldl

theorem fr_goRetrain {mm : Nat} {s0 s : State} (hm : In 270336 mm) (h : Fr mm s0 s) (n : Nat) (cause : Nat) :
    Fr mm s0 (State.goRetrain s n cause) := by
  unfold State.goRetrain
  try dsimp only
  repeat'
    first
    | with_reducible assumption
    | (exact in_of hm rfl)
    | intro _
    | with_reducible apply fr_chanEvent
    | with_reducible apply fr_count
    | with_reducible apply fr_modChan
    | with_reducible apply fr_modDram

theorem fr_leaveSync {mm : Nat} {s0 s : State} (hm : In 512 mm) (h : Fr mm s0 s) :
    Fr mm s0 (State.leaveSync s) := by
  unfold State.leaveSync
  try dsimp only
  repeat'
    first
    | with_reducible assumption
    | (exact in_of hm rfl)
    | intro _
    | with_reducible apply fr_modTwin
    | with_reducible apply fr_if

theorem fr_chanLeave {mm : Nat} {s0 s : State} (hm : In 308737 mm) (h : Fr mm s0 s) (n : Nat) (what : Nat) :
    Fr mm s0 (State.chanLeave s n what) := by
  unfold State.chanLeave
  try dsimp only
  repeat'
    first
    | with_reducible assumption
    | (exact in_of hm rfl)
    | intro _
    | with_reducible apply fr_goOffline
    | with_reducible apply fr_goRetrain
    | with_reducible apply fr_leaveSync
    | with_reducible apply fr_if

theorem fr_becomeStandby {mm : Nat} {s0 s : State} (hm : In 308993 mm) (h : Fr mm s0 s) :
    Fr mm s0 (State.becomeStandby s) := by
  unfold State.becomeStandby
  try dsimp only
  repeat'
    first
    | with_reducible assumption
    | (exact in_of hm rfl)
    | intro _
    | with_reducible apply fr_chanLeave
    | with_reducible apply fr_modPersist
    | with_reducible apply fr_modTwin
    | with_reducible apply fr_unfence
    | (refine fr_of_fst (by with_reducible assumption) ?_)
    | with_reducible apply fr_foldl

theorem fr_higherClaim {mm : Nat} {s0 s : State} (hm : In 325603 mm) (h : Fr mm s0 s) :
    Fr mm s0 (State.higherClaim s) := by
  unfold State.higherClaim
  try dsimp only
  repeat'
    first
    | with_reducible assumption
    | (exact in_of hm rfl)
    | intro _
    | with_reducible apply fr_becomeStandby
    | with_reducible apply fr_depose
    | with_reducible apply fr_fence
    | with_reducible apply fr_raise
    | with_reducible apply fr_if

theorem fr_learnClaim {mm : Nat} {s0 s : State} (hm : In 325603 mm) (h : Fr mm s0 s) (v : Nat) (c : Nat) :
    Fr mm s0 (State.learnClaim s v c) := by
  unfold State.learnClaim
  try dsimp only
  repeat'
    first
    | with_reducible assumption
    | (exact in_of hm rfl)
    | intro _
    | with_reducible apply fr_higherClaim
    | with_reducible apply fr_modPersist
    | with_reducible apply fr_modTwin
    | with_reducible apply fr_route
    | with_reducible apply fr_if
    | with_reducible apply fr_ifn
    | with_reducible apply fr_foldl

theorem fr_convertWrites {mm : Nat} {s0 s : State} (hm : In 308577 mm) (h : Fr mm s0 s) :
    Fr mm s0 (State.convertWrites s) := by
  unfold State.convertWrites
  try dsimp only
  repeat'
    first
    | with_reducible assumption
    | (exact in_of hm rfl)
    | with_reducible apply fr_id
    | intro _
    | with_reducible apply fr_answer
    | with_reducible apply fr_count
    | with_reducible apply fr_modPersist
    | with_reducible apply fr_raise
    | with_reducible apply fr_if
    | with_reducible apply fr_ifn
    | with_reducible apply fr_foldl

theorem fr_declareLost {mm : Nat} {s0 s : State} (hm : In 309089 mm) (h : Fr mm s0 s) (cause : Nat) :
    Fr mm s0 (State.declareLost s cause) := by
  unfold State.declareLost
  try dsimp only
  repeat'
    first
    | with_reducible assumption
    | (exact in_of hm rfl)
    | intro _
    | with_reducible apply fr_completeWrites
    | with_reducible apply fr_convertWrites
    | with_reducible apply fr_modPersist
    | with_reducible apply fr_modTwin
    | with_reducible apply fr_pumpUrgent
    | with_reducible apply fr_raise
    | with_reducible apply fr_if

theorem fr_claimBegin {mm : Nat} {s0 s : State} (hm : In 262656 mm) (h : Fr mm s0 s) (trigger : Nat) :
    Fr mm s0 (State.claimBegin s trigger) := by
  unfold State.claimBegin
  try dsimp only
  repeat'
    first
    | with_reducible assumption
    | (exact in_of hm rfl)
    | intro _
    | with_reducible apply fr_modTwin
    | with_reducible apply fr_raise

theorem fr_claimLost {mm : Nat} {s0 s : State} (hm : In 279296 mm) (h : Fr mm s0 s) :
    Fr mm s0 (State.claimLost s) := by
  unfold State.claimLost
  try dsimp only
  repeat'
    first
    | with_reducible assumption
    | (exact in_of hm rfl)
    | intro _
    | with_reducible apply fr_fence
    | with_reducible apply fr_raise

theorem fr_driveLost {mm : Nat} {s0 s : State} (hm : In 325603 mm) (h : Fr mm s0 s) (d : Nat) (status : Nat) (lba : Nat) :
    Fr mm s0 (State.driveLost s d status lba) := by
  unfold State.driveLost
  try dsimp only
  repeat'
    first
    | with_reducible assumption
    | (exact in_of hm rfl)
    | intro _
    | with_reducible apply fr_afterClean
    | with_reducible apply fr_ceilingCheck
    | with_reducible apply fr_modDrive
    | with_reducible apply fr_modPersist
    | with_reducible apply fr_raise
    | with_reducible apply fr_if

/-! ### Machine/Receive.lean -/

theorem fr_headerEvent {mm : Nat} {s0 s : State} (hm : In 263168 mm) (h : Fr mm s0 s) (p : Nat) (cause : Nat) (peer : Nat) (type : Nat) :
    Fr mm s0 (State.headerEvent s p cause peer type) := by
  unfold State.headerEvent
  try dsimp only
  repeat'
    first
    | with_reducible assumption
    | (exact in_of hm rfl)
    | intro _
    | with_reducible apply fr_modXport
    | with_reducible apply fr_raise
    | with_reducible apply fr_if

theorem fr_tagFailure {mm : Nat} {s0 s : State} (hm : In 308225 mm) (h : Fr mm s0 s) (peer : Nat) (p : Nat) (type : Nat) :
    Fr mm s0 (State.tagFailure s peer p type) := by
  unfold State.tagFailure
  try dsimp only
  repeat'
    first
    | with_reducible assumption
    | (exact in_of hm rfl)
    | intro _
    | with_reducible apply fr_connFails
    | with_reducible apply fr_count
    | with_reducible apply fr_headerEvent
    | with_reducible apply fr_putConn
    | with_reducible apply fr_putFrame
    | with_reducible apply fr_if
    | with_reducible apply fr_ifn
    | split

theorem fr_seqMiss {mm : Nat} {s0 s : State} (hm : In 275457 mm) (h : Fr mm s0 s) (h : Hdr) (vc : Nat) :
    Fr mm s0 (State.seqMiss s h vc) := by
  unfold State.seqMiss
  try dsimp only
  repeat'
    first
    | with_reducible assumption
    | (exact in_of hm rfl)
    | intro _
    | with_reducible apply fr_count
    | with_reducible apply fr_putConn
    | with_reducible apply fr_putFrame
    | with_reducible apply fr_sendAck
    | with_reducible apply fr_if
    | with_reducible apply fr_ifn
    | split

theorem fr_seqTake {mm : Nat} {s0 s : State} (hm : In 308225 mm) (h : Fr mm s0 s) (h : Hdr) (vc : Nat) :
    Fr mm s0 (State.seqTake s h vc) := by
  unfold State.seqTake
  try dsimp only
  repeat'
    first
    | with_reducible assumption
    | (exact in_of hm rfl)
    | intro _
    | with_reducible apply fr_pumpAll
    | with_reducible apply fr_putConn
    | with_reducible apply fr_sendAck
    | with_reducible apply fr_if
    | with_reducible apply fr_ifn
    | split

theorem fr_claimStep {mm : Nat} {s0 s : State} (hm : In 325603 mm) (h : Fr mm s0 s) (h : Hdr) (vc : Nat) :
    Fr mm s0 (State.claimStep s h vc).1 := by
  unfold State.claimStep
  try dsimp only
  repeat'
    first
    | with_reducible assumption
    | (exact in_of hm rfl)
    | intro _
    | with_reducible apply fr_count
    | with_reducible apply fr_learnClaim
    | with_reducible apply fr_raise
    | with_reducible apply fr_send
    | (refine fr_of_fst (by with_reducible assumption) ?_)
    | with_reducible apply fr_if
    | with_reducible apply fr_ifn
    | split

theorem fr_rx {mm : Nat} {s0 s : State} (hm : In 325603 mm) (h : Fr mm s0 s) (h : Hdr) (b : FBody) (join : Bool) :
    Fr mm s0 (State.rx s h b join).1 := by
  unfold State.rx
  try dsimp only
  repeat'
    first
    | with_reducible assumption
    | (exact in_of hm rfl)
    | intro _
    | with_reducible apply fr_claimStep
    | with_reducible apply fr_count
    | with_reducible apply fr_countFor
    | with_reducible apply fr_headerEvent
    | with_reducible apply fr_modCipher
    | with_reducible apply fr_seqMiss
    | with_reducible apply fr_seqTake
    | with_reducible apply fr_tagFailure
    | (refine fr_of_fst (by with_reducible assumption) ?_)
    | with_reducible apply fr_if
    | with_reducible apply fr_ifn
    | split

theorem fr_onFrame {mm : Nat} {s0 s : State} (hm : In 325603 mm) (h : Fr mm s0 s) (h : Hdr) (b : FBody) (f : State → State) (hf : ∀ (s : State), Fr mm s0 s → Fr mm s0 (f s)) :
    Fr mm s0 (State.onFrame s h b f) := by
  unfold State.onFrame
  try dsimp only
  repeat'
    first
    | with_reducible assumption
    | (exact in_of hm rfl)
    | intro _
    | with_reducible apply fr_rx
    | with_reducible apply hf
    | (refine fr_of_fst (by with_reducible assumption) ?_)
    | with_reducible apply fr_if

/-! ### Machine/DictOps.lean -/

theorem fr_modSlot {mm : Nat} {s0 s : State} (hm : In 8 mm) (h : Fr mm s0 s) (n : Nat) (f : Requester → Requester) :
    Fr mm s0 (State.modSlot s n f) := by
  unfold State.modSlot
  try dsimp only
  repeat'
    first
    | with_reducible assumption
    | (exact in_of hm rfl)
    | intro _
    | with_reducible apply fr_modDict

theorem fr_freeSlotOf {mm : Nat} {s0 s : State} (hm : In 308233 mm) (h : Fr mm s0 s) (n : Nat) :
    Fr mm s0 (State.freeSlotOf s n) := by
  unfold State.freeSlotOf
  try dsimp only
  repeat'
    first
    | with_reducible assumption
    | (exact in_of hm rfl)
    | intro _
    | with_reducible apply fr_modDict
    | with_reducible apply fr_send
    | (refine fr_of_fst (by with_reducible assumption) ?_)
    | with_reducible apply fr_foldl
    | with_reducible apply fr_foldl_fst
    | split

theorem fr_takeReqSlot {m : Nat} {s0 s t : State} {rq : Req} {n : Nat} (e : s.takeReqSlot rq = some (t, n)) (hm : In 308233 m) (h : Fr m s0 s) : Fr m s0 t := by
  unfold State.takeReqSlot at e
  split at e
  · cases e
    exact h
  · split at e
    · cases e
      exact fr_modDict (in_of hm rfl) h _
    · dsimp only at e
      split at e
      · cases e
        exact fr_modDict (in_of hm rfl) (fr_freeSlotOf (in_of hm rfl) h _) _
      · cases e

theorem fr_touch {mm : Nat} {s0 s : State} (hm : In 8 mm) (h : Fr mm s0 s) (rq : Req) :
    Fr mm s0 (State.touch s rq) := by
  unfold State.touch
  try dsimp only
  repeat'
    first
    | with_reducible assumption
    | (exact in_of hm rfl)
    | intro _
    | with_reducible apply fr_modSlot
    | split

theorem fr_segResp {mm : Nat} {s0 s : State} (hm : In 8 mm) (h : Fr mm s0 s) (rq : Req) (r : DictResp) :
    Fr mm s0 (State.segResp s rq r).1 := by
  unfold State.segResp
  try dsimp only
  repeat'
    first
    | with_reducible assumption
    | (exact in_of hm rfl)
    | intro _
    | with_reducible apply fr_modDict
    | (refine fr_of_fst (by with_reducible assumption) ?_)
    | with_reducible apply fr_if
    | with_reducible apply fr_ifn
    | split

theorem fr_respond {mm : Nat} {s0 s : State} (hm : In 308265 mm) (h : Fr mm s0 s) (rq : Req) (r : DictResp) :
    Fr mm s0 (State.respond s rq r) := by
  unfold State.respond
  try dsimp only
  repeat'
    first
    | with_reducible assumption
    | (exact in_of hm rfl)
    | intro _
    | with_reducible apply fr_emit
    | with_reducible apply fr_msix
    | with_reducible apply fr_segResp
    | with_reducible apply fr_send
    | (refine fr_of_fst (by with_reducible assumption) ?_)
    | split

theorem fr_discardMsg {mm : Nat} {s0 s : State} (hm : In 262152 mm) (h : Fr mm s0 s) (rq : Req) (m : DictMsg) :
    Fr mm s0 (State.discardMsg s rq m) := by
  unfold State.discardMsg
  try dsimp only
  repeat'
    first
    | with_reducible assumption
    | (exact in_of hm rfl)
    | intro _
    | with_reducible apply fr_modDict
    | with_reducible apply fr_raise

theorem fr_forward {mm : Nat} {s0 s : State} (hm : In 308265 mm) (h : Fr mm s0 s) (rq : Req) (m : DictMsg) :
    Fr mm s0 (State.forward s rq m) := by
  unfold State.forward
  try dsimp only
  repeat'
    first
    | with_reducible assumption
    | (exact in_of hm rfl)
    | intro _
    | (refine fr_takeReqSlot (by with_reducible assumption) ?_ ?_)
    | with_reducible apply fr_modDict
    | with_reducible apply fr_modSlot
    | with_reducible apply fr_respond
    | with_reducible apply fr_send
    | with_reducible apply fr_if
    | with_reducible apply fr_ifn
    | split

theorem fr_failedPresentation {mm : Nat} {s0 s : State} (hm : In 262144 mm) (h : Fr mm s0 s) (rq : Req) :
    Fr mm s0 (State.failedPresentation s rq) := by
  unfold State.failedPresentation
  try dsimp only
  repeat'
    first
    | with_reducible assumption
    | (exact in_of hm rfl)
    | intro _
    | with_reducible apply fr_raise

theorem fr_onMsg {mm : Nat} {s0 s : State} (hm : In 308265 mm) (h : Fr mm s0 s) (rq : Req) (m : DictMsg) (f : State → State) (hf : ∀ (s : State), Fr mm s0 s → Fr mm s0 (f s)) :
    Fr mm s0 (State.onMsg s rq m f) := by
  unfold State.onMsg
  try dsimp only
  repeat'
    first
    | with_reducible assumption
    | (exact in_of hm rfl)
    | intro _
    | with_reducible apply fr_discardMsg
    | with_reducible apply fr_failedPresentation
    | with_reducible apply fr_forward
    | with_reducible apply fr_respond
    | with_reducible apply fr_touch
    | with_reducible apply hf
    | with_reducible apply fr_if

theorem fr_writeObj {mm : Nat} {s0 s : State} (hm : In 308265 mm) (h : Fr mm s0 s) (rq : Req) (tag : Nat) (idx : Nat) (sub : Nat) (ty : Nat) (b : Bytes) (act : State → State × Nat) (hact : ∀ (s : State), Fr mm s0 s → Fr mm s0 (act s).1) :
    Fr mm s0 (State.writeObj s rq tag idx sub ty b act) := by
  unfold State.writeObj
  try dsimp only
  repeat'
    first
    | with_reducible assumption
    | (exact in_of hm rfl)
    | intro _
    | with_reducible apply fr_respond
    | with_reducible apply fr_touch
    | with_reducible apply hact
    | (refine fr_of_fst (by with_reducible assumption) ?_)
    | with_reducible apply fr_if

theorem fr_writeNum {mm : Nat} {s0 s : State} (hm : In 308265 mm) (h : Fr mm s0 s) (rq : Req) (tag : Nat) (idx : Nat) (sub : Nat) (n : Nat) (v : Nat) (act : State → State × Nat) (hact : ∀ (s : State), Fr mm s0 s → Fr mm s0 (act s).1) :
    Fr mm s0 (State.writeNum s rq tag idx sub n v act) := by
  unfold State.writeNum
  try dsimp only
  repeat'
    first
    | with_reducible assumption
    | (exact in_of hm rfl)
    | intro _
    | with_reducible apply fr_writeObj

theorem fr_stage {mm : Nat} {s0 s : State} (hm : In 308233 mm) (h : Fr mm s0 s) (rq : Req) (key : Nat) (b : Bytes) :
    Fr mm s0 (State.stage s rq key b).1 := by
  unfold State.stage
  try dsimp only
  repeat'
    first
    | with_reducible assumption
    | (exact in_of hm rfl)
    | intro _
    | (refine fr_takeReqSlot (by with_reducible assumption) ?_ ?_)
    | with_reducible apply fr_modSlot
    | (refine fr_of_fst (by with_reducible assumption) ?_)
    | with_reducible apply fr_if
    | with_reducible apply fr_ifn
    | split

/-! ### Machine/PlaceOps.lean -/

theorem fr_modHeat {mm : Nat} {s0 s : State} (hm : In 128 mm) (h : Fr mm s0 s) (slot : Nat) (f : Heat → Heat) :
    Fr mm s0 (State.modHeat s slot f) := by
  unfold State.modHeat
  try dsimp only
  repeat'
    first
    | with_reducible assumption
    | (exact in_of hm rfl)
    | intro _
    | with_reducible apply fr_heatTouch
    | with_reducible apply fr_modPlace

theorem fr_dirMove {mm : Nat} {s0 s : State} (hm : In 309121 mm) (h : Fr mm s0 s) (key : Nat) (src : Nat) (dst : Nat) (evac : Bool) :
    Fr mm s0 (State.dirMove s key src dst evac).1 := by
  unfold State.dirMove
  try dsimp only
  repeat'
    first
    | with_reducible assumption
    | (exact in_of hm rfl)
    | intro _
    | with_reducible apply fr_modDir
    | (refine fr_of_fst (by with_reducible assumption) ?_)
    | with_reducible apply fr_if
    | with_reducible apply fr_ifn
    | split

theorem fr_dirRelease {mm : Nat} {s0 s : State} (hm : In 309121 mm) (h : Fr mm s0 s) (key : Nat) :
    Fr mm s0 (State.dirRelease s key) := by
  unfold State.dirRelease
  try dsimp only
  repeat'
    first
    | with_reducible assumption
    | (exact in_of hm rfl)
    | intro _
    | with_reducible apply fr_modDir
    | with_reducible apply fr_if

theorem fr_dirHomed {mm : Nat} {s0 s : State} (hm : In 325603 mm) (h : Fr mm s0 s) (key : Nat) :
    Fr mm s0 (State.dirHomed s key) := by
  unfold State.dirHomed
  try dsimp only
  repeat'
    first
    | with_reducible assumption
    | (exact in_of hm rfl)
    | intro _
    | with_reducible apply fr_dirRelease
    | with_reducible apply fr_modDir
    | with_reducible apply fr_releaseWaits
    | with_reducible apply fr_if

theorem fr_dirCommit {mm : Nat} {s0 s : State} (hm : In 325603 mm) (h : Fr mm s0 s) (key : Nat) (v : Nat) (slot : Nat) (gen : Nat) (src : Nat) :
    Fr mm s0 (State.dirCommit s key v slot gen src) := by
  unfold State.dirCommit
  try dsimp only
  repeat'
    first
    | with_reducible assumption
    | (exact in_of hm rfl)
    | intro _
    | with_reducible apply fr_dirHomed
    | with_reducible apply fr_modDir
    | with_reducible apply fr_modPlace
    | with_reducible apply fr_tellHome
    | with_reducible apply fr_if

theorem fr_dirAbort {mm : Nat} {s0 s : State} (hm : In 325603 mm) (h : Fr mm s0 s) (key : Nat) :
    Fr mm s0 (State.dirAbort s key) := by
  unfold State.dirAbort
  try dsimp only
  repeat'
    first
    | with_reducible assumption
    | (exact in_of hm rfl)
    | intro _
    | with_reducible apply fr_dirHomed
    | with_reducible apply fr_modDir
    | with_reducible apply fr_if

theorem fr_dirCopy {mm : Nat} {s0 s : State} (hm : In 309121 mm) (h : Fr mm s0 s) (key : Nat) (c : Nat) :
    Fr mm s0 (State.dirCopy s key c).1 := by
  unfold State.dirCopy
  try dsimp only
  repeat'
    first
    | with_reducible assumption
    | (exact in_of hm rfl)
    | intro _
    | with_reducible apply fr_modDir
    | (refine fr_of_fst (by with_reducible assumption) ?_)
    | with_reducible apply fr_if
    | with_reducible apply fr_ifn
    | split

theorem fr_dirCopyDone {mm : Nat} {s0 s : State} (hm : In 325603 mm) (h : Fr mm s0 s) (key : Nat) (c : Nat) :
    Fr mm s0 (State.dirCopyDone s key c) := by
  unfold State.dirCopyDone
  try dsimp only
  repeat'
    first
    | with_reducible assumption
    | (exact in_of hm rfl)
    | intro _
    | with_reducible apply fr_dirHomed
    | with_reducible apply fr_modDir
    | with_reducible apply fr_if

theorem fr_dirCopyDrop {mm : Nat} {s0 s : State} (hm : In 309121 mm) (h : Fr mm s0 s) (key : Nat) (c : Nat) :
    Fr mm s0 (State.dirCopyDrop s key c).1 := by
  unfold State.dirCopyDrop
  try dsimp only
  repeat'
    first
    | with_reducible assumption
    | (exact in_of hm rfl)
    | intro _
    | with_reducible apply fr_modDir
    | (refine fr_of_fst (by with_reducible assumption) ?_)
    | with_reducible apply fr_if
    | with_reducible apply fr_ifn
    | split

theorem fr_noteDrop {mm : Nat} {s0 s : State} (hm : In 309121 mm) (h : Fr mm s0 s) (key : Nat) (c : Nat) :
    Fr mm s0 (State.noteDrop s key c) := by
  unfold State.noteDrop
  try dsimp only
  repeat'
    first
    | with_reducible assumption
    | (exact in_of hm rfl)
    | intro _
    | with_reducible apply fr_dirCopyDrop
    | with_reducible apply fr_modPlace
    | with_reducible apply fr_tell
    | (refine fr_of_fst (by with_reducible assumption) ?_)
    | with_reducible apply fr_if

theorem fr_endCooling {mm : Nat} {s0 s : State} (hm : In 309121 mm) (h : Fr mm s0 s) (test : DirEnt → Bool) :
    Fr mm s0 (State.endCooling s test) := by
  unfold State.endCooling
  try dsimp only
  repeat'
    first
    | with_reducible assumption
    | (exact in_of hm rfl)
    | intro _
    | with_reducible apply fr_modDir
    | with_reducible apply fr_modPlace
    | with_reducible apply fr_tellHome
    | with_reducible apply fr_foldl

theorem fr_clearCooling {mm : Nat} {s0 s : State} (hm : In 309121 mm) (h : Fr mm s0 s) :
    Fr mm s0 (State.clearCooling s) := by
  unfold State.clearCooling
  try dsimp only
  repeat'
    first
    | with_reducible assumption
    | (exact in_of hm rfl)
    | intro _
    | with_reducible apply fr_endCooling

theorem fr_modCopyOut {mm : Nat} {s0 s : State} (hm : In 309121 mm) (h : Fr mm s0 s) (key : Nat) (v : Nat) (f : CopyOut → CopyOut) :
    Fr mm s0 (State.modCopyOut s key v f) := by
  unfold State.modCopyOut
  try dsimp only
  repeat'
    first
    | with_reducible assumption
    | (exact in_of hm rfl)
    | intro _
    | with_reducible apply fr_metaSend
    | with_reducible apply fr_modPlace
    | with_reducible apply fr_if
    | with_reducible apply fr_ifn
    | split

theorem fr_loseCopyOut {mm : Nat} {s0 s : State} (hm : In 309121 mm) (h : Fr mm s0 s) (key : Nat) (v : Nat) :
    Fr mm s0 (State.loseCopyOut s key v) := by
  unfold State.loseCopyOut
  try dsimp only
  repeat'
    first
    | with_reducible assumption
    | (exact in_of hm rfl)
    | intro _
    | with_reducible apply fr_metaSend
    | with_reducible apply fr_modPlace
    | with_reducible apply fr_if

theorem fr_abortCopy {mm : Nat} {s0 s : State} (hm : In 325603 mm) (h : Fr mm s0 s) (c : CopyOut) (cause : Nat) :
    Fr mm s0 (State.abortCopy s c cause) := by
  unfold State.abortCopy
  try dsimp only
  repeat'
    first
    | with_reducible assumption
    | (exact in_of hm rfl)
    | intro _
    | with_reducible apply fr_completeWrites
    | with_reducible apply fr_dirAbort
    | with_reducible apply fr_loseCopyOut
    | with_reducible apply fr_raise
    | with_reducible apply fr_tell
    | with_reducible apply fr_if

theorem fr_dropCopiesOf {mm : Nat} {s0 s : State} (hm : In 325603 mm) (h : Fr mm s0 s) (key : Nat) :
    Fr mm s0 (State.dropCopiesOf s key) := by
  unfold State.dropCopiesOf
  try dsimp only
  repeat'
    first
    | with_reducible assumption
    | (exact in_of hm rfl)
    | intro _
    | with_reducible apply fr_abortCopy
    | with_reducible apply fr_modCopyOut
    | with_reducible apply fr_tell
    | with_reducible apply fr_if
    | with_reducible apply fr_ifn
    | with_reducible apply fr_foldl

theorem fr_dropCopyHere {mm : Nat} {s0 s : State} (hm : In 325507 mm) (h : Fr mm s0 s) (c : CopyIn) :
    Fr mm s0 (State.dropCopyHere s c) := by
  unfold State.dropCopyHere
  try dsimp only
  repeat'
    first
    | with_reducible assumption
    | (exact in_of hm rfl)
    | intro _
    | with_reducible apply fr_count
    | with_reducible apply fr_modPlace
    | with_reducible apply fr_noteDrop
    | with_reducible apply fr_releaseSlot
    | with_reducible apply fr_tell

theorem fr_makeCopyRoom {mm : Nat} {s0 s : State} (hm : In 325507 mm) (h : Fr mm s0 s) (fuel : Nat) :
    Fr mm s0 (State.makeCopyRoom s fuel) := by
  induction fuel generalizing s  with
  | zero =>
    unfold State.makeCopyRoom
    try dsimp only
    repeat'
      first
      | with_reducible assumption
  | succ fuel ih =>
    unfold State.makeCopyRoom
    try dsimp only
    repeat'
      first
      | with_reducible assumption
      | with_reducible apply ih
      | (exact in_of hm rfl)
      | intro _
      | with_reducible apply fr_dropCopyHere
      | with_reducible apply fr_if
      | with_reducible apply fr_ifn
      | split

theorem fr_keepHints {mm : Nat} {s0 s : State} (hm : In 309121 mm) (h : Fr mm s0 s) (key : Nat) (m : PMsg) :
    Fr mm s0 (State.keepHints s key m) := by
  unfold State.keepHints
  try dsimp only
  repeat'
    first
    | with_reducible assumption
    | (exact in_of hm rfl)
    | intro _
    | with_reducible apply fr_metaSend
    | with_reducible apply fr_modPlace

theorem fr_loseHints {mm : Nat} {s0 s : State} (hm : In 309121 mm) (h : Fr mm s0 s) (key : Nat) :
    Fr mm s0 (State.loseHints s key) := by
  unfold State.loseHints
  try dsimp only
  repeat'
    first
    | with_reducible assumption
    | (exact in_of hm rfl)
    | intro _
    | with_reducible apply fr_metaSend
    | with_reducible apply fr_modPlace
    | with_reducible apply fr_if

theorem fr_groupLeave {mm : Nat} {s0 s : State} (hm : In 309121 mm) (h : Fr mm s0 s) (g : Nat) :
    Fr mm s0 (State.groupLeave s g) := by
  unfold State.groupLeave
  try dsimp only
  repeat'
    first
    | with_reducible assumption
    | (exact in_of hm rfl)
    | intro _
    | with_reducible apply fr_modDir

theorem fr_groupJoin {mm : Nat} {s0 s : State} (hm : In 309121 mm) (h : Fr mm s0 s) (g : Nat) (home : Nat) :
    Fr mm s0 (State.groupJoin s g home).1 := by
  unfold State.groupJoin
  try dsimp only
  repeat'
    first
    | with_reducible assumption
    | (exact in_of hm rfl)
    | intro _
    | with_reducible apply fr_modDir
    | with_reducible apply fr_raise
    | (refine fr_of_fst (by with_reducible assumption) ?_)
    | with_reducible apply fr_if
    | with_reducible apply fr_ifn
    | split

theorem fr_leaveGroup {mm : Nat} {s0 s : State} (hm : In 309121 mm) (h : Fr mm s0 s) (key : Nat) :
    Fr mm s0 (State.leaveGroup s key) := by
  unfold State.leaveGroup
  try dsimp only
  repeat'
    first
    | with_reducible assumption
    | (exact in_of hm rfl)
    | intro _
    | with_reducible apply fr_groupLeave
    | with_reducible apply fr_modDir
    | with_reducible apply fr_tell
    | with_reducible apply fr_if

theorem fr_joined {mm : Nat} {s0 s : State} (hm : In 309121 mm) (h : Fr mm s0 s) (key : Nat) (g : Nat) :
    Fr mm s0 (State.joined s key g) := by
  unfold State.joined
  try dsimp only
  repeat'
    first
    | with_reducible assumption
    | (exact in_of hm rfl)
    | intro _
    | with_reducible apply fr_leaveGroup
    | with_reducible apply fr_modDir
    | with_reducible apply fr_tellHome

theorem fr_placeHint {mm : Nat} {s0 s : State} (hm : In 325603 mm) (h : Fr mm s0 s) (key : Nat) (kind : Nat) (group : Nat) (dev : Nat) :
    Fr mm s0 (State.placeHint s key kind group dev).1 := by
  unfold State.placeHint
  try dsimp only
  repeat'
    first
    | with_reducible assumption
    | (exact in_of hm rfl)
    | intro _
    | with_reducible apply fr_dropCopiesOf
    | with_reducible apply fr_groupJoin
    | with_reducible apply fr_joined
    | with_reducible apply fr_leaveGroup
    | with_reducible apply fr_modDir
    | with_reducible apply fr_raise
    | with_reducible apply fr_tell
    | with_reducible apply fr_tellHome
    | (refine fr_of_fst (by with_reducible assumption) ?_)
    | with_reducible apply fr_if
    | with_reducible apply fr_ifn
    | split

theorem fr_sendGranule {mm : Nat} {s0 s : State} (hm : In 308481 mm) (h : Fr mm s0 s) (g : Nat) (sync : Bool) :
    Fr mm s0 (State.sendGranule s g sync) := by
  unfold State.sendGranule
  try dsimp only
  repeat'
    first
    | with_reducible assumption
    | (exact in_of hm rfl)
    | intro _
    | with_reducible apply fr_askRead
    | with_reducible apply fr_mirrorRun
    | with_reducible apply fr_modPersist
    | with_reducible apply fr_syncHorizon

theorem fr_modMig {mm : Nat} {s0 s : State} (hm : In 128 mm) (h : Fr mm s0 s) (key : Nat) (f : Mig → Mig) :
    Fr mm s0 (State.modMig s key f) := by
  unfold State.modMig
  try dsimp only
  repeat'
    first
    | with_reducible assumption
    | (exact in_of hm rfl)
    | intro _
    | with_reducible apply fr_modPlace

theorem fr_mirrorMig {mm : Nat} {s0 s : State} (hm : In 308993 mm) (h : Fr mm s0 s) (key : Nat) :
    Fr mm s0 (State.mirrorMig s key) := by
  unfold State.mirrorMig
  try dsimp only
  repeat'
    first
    | with_reducible assumption
    | (exact in_of hm rfl)
    | intro _
    | with_reducible apply fr_metaSend
    | split

theorem fr_endMig {mm : Nat} {s0 s : State} (hm : In 309121 mm) (h : Fr mm s0 s) (key : Nat) :
    Fr mm s0 (State.endMig s key) := by
  unfold State.endMig
  try dsimp only
  repeat'
    first
    | with_reducible assumption
    | (exact in_of hm rfl)
    | intro _
    | with_reducible apply fr_metaSend
    | with_reducible apply fr_modPlace

theorem fr_copyGran {mm : Nat} {s0 s : State} (hm : In 16386 mm) (h : Fr mm s0 s) (src : Nat) (dst : Nat) :
    Fr mm s0 (State.copyGran s src dst) := by
  unfold State.copyGran
  try dsimp only
  repeat'
    first
    | with_reducible assumption
    | (exact in_of hm rfl)
    | with_reducible apply wf_nil
    | intro _
    | with_reducible apply fr_modEcc
    | with_reducible apply fr_modMem
    | with_reducible apply wf_setLine
    | with_reducible apply wf_clear
    | with_reducible apply wf_copy

theorem fr_sendGrans {mm : Nat} {s0 s : State} (hm : In 324995 mm) (h : Fr mm s0 s) (m : Mig) (gs : List Nat) :
    Fr mm s0 (State.sendGrans s m gs) := by
  unfold State.sendGrans
  try dsimp only
  repeat'
    first
    | with_reducible assumption
    | (exact in_of hm rfl)
    | intro _
    | with_reducible apply fr_ask
    | with_reducible apply fr_askRead
    | with_reducible apply fr_askWrite
    | with_reducible apply fr_copyGran
    | with_reducible apply fr_count
    | with_reducible apply fr_modMig
    | with_reducible apply fr_sendGranule
    | with_reducible apply fr_sendList
    | with_reducible apply fr_if
    | with_reducible apply fr_ifn
    | with_reducible apply fr_foldl

theorem fr_releaseFrozen {mm : Nat} {s0 s : State} (hm : In 325603 mm) (h : Fr mm s0 s) (key : Nat) :
    Fr mm s0 (State.releaseFrozen s key) := by
  unfold State.releaseFrozen
  try dsimp only
  repeat'
    first
    | with_reducible assumption
    | (exact in_of hm rfl)
    | intro _
    | with_reducible apply fr_modDram
    | with_reducible apply fr_modEcc
    | with_reducible apply fr_modPersist
    | with_reducible apply fr_modPlace
    | with_reducible apply fr_resume
    | with_reducible apply fr_resumePieces

theorem fr_abortMig {mm : Nat} {s0 s : State} (hm : In 325603 mm) (h : Fr mm s0 s) (m : Mig) (cause : Nat) :
    Fr mm s0 (State.abortMig s m cause) := by
  unfold State.abortMig
  try dsimp only
  repeat'
    first
    | with_reducible assumption
    | (exact in_of hm rfl)
    | intro _
    | with_reducible apply fr_count
    | with_reducible apply fr_dirAbort
    | with_reducible apply fr_dropTomb
    | with_reducible apply fr_endMig
    | with_reducible apply fr_raise
    | with_reducible apply fr_releaseFrozen
    | with_reducible apply fr_releaseSlot
    | with_reducible apply fr_tell
    | with_reducible apply fr_if

theorem fr_tombRoom {m : Nat} {s0 s t : State} (e : s.tombRoom = some t) (hm : In 309121 m) (h : Fr m s0 s) : Fr m s0 t := by
  unfold State.tombRoom at e
  split at e
  · cases e
    exact h
  · dsimp only at e
    split at e
    · cases e
      exact fr_raise (in_of hm rfl) (fr_dropTomb (in_of hm rfl) h _) _ _ _
    · cases e

theorem fr_keepSource {mm : Nat} {s0 s : State} (hm : In 325507 mm) (h : Fr mm s0 s) (key : Nat) (slot : Nat) :
    Fr mm s0 (State.keepSource s key slot) := by
  unfold State.keepSource
  try dsimp only
  repeat'
    first
    | with_reducible assumption
    | (exact in_of hm rfl)
    | intro _
    | with_reducible apply fr_releaseSlot
    | with_reducible apply fr_takeSlot
    | with_reducible apply fr_if

theorem fr_freeKept {mm : Nat} {s0 s : State} (hm : In 309121 mm) (h : Fr mm s0 s) (key : Nat) :
    Fr mm s0 (State.freeKept s key) := by
  unfold State.freeKept
  try dsimp only
  repeat'
    first
    | with_reducible assumption
    | (exact in_of hm rfl)
    | intro _
    | with_reducible apply fr_setUse
    | with_reducible apply fr_foldl

theorem fr_commitAcked {mm : Nat} {s0 s : State} (hm : In 325507 mm) (h : Fr mm s0 s) (key : Nat) (dst : Bool) (dir : Bool) :
    Fr mm s0 (State.commitAcked s key dst dir) := by
  unfold State.commitAcked
  try dsimp only
  repeat'
    first
    | with_reducible assumption
    | (exact in_of hm rfl)
    | intro _
    | with_reducible apply fr_endMig
    | with_reducible apply fr_keepSource
    | with_reducible apply fr_modMig
    | with_reducible apply fr_putTomb
    | with_reducible apply fr_if
    | with_reducible apply fr_ifn
    | with_reducible apply fr_foldl
    | with_reducible apply fr_foldl_fst
    | split

theorem fr_sendCommit {mm : Nat} {s0 s : State} (hm : In 325603 mm) (h : Fr mm s0 s) (m : Mig) :
    Fr mm s0 (State.sendCommit s m) := by
  unfold State.sendCommit
  try dsimp only
  repeat'
    first
    | with_reducible assumption
    | (exact in_of hm rfl)
    | intro _
    | with_reducible apply fr_commitAcked
    | with_reducible apply fr_dirCommit
    | with_reducible apply fr_tell
    | with_reducible apply fr_if

theorem fr_writeCommit {mm : Nat} {s0 s : State} (hm : In 309121 mm) (h : Fr mm s0 s) (m : Mig) :
    Fr mm s0 (State.writeCommit s m) := by
  unfold State.writeCommit
  try dsimp only
  repeat'
    first
    | with_reducible assumption
    | (exact in_of hm rfl)
    | intro _
    | (refine fr_tombRoom (by with_reducible assumption) ?_ ?_)
    | with_reducible apply fr_metaSend
    | with_reducible apply fr_modMig
    | with_reducible apply fr_putTomb
    | split

theorem fr_leaveSlot {mm : Nat} {s0 s : State} (hm : In 325505 mm) (h : Fr mm s0 s) (m : Mig) :
    Fr mm s0 (State.leaveSlot s m) := by
  unfold State.leaveSlot
  try dsimp only
  repeat'
    first
    | with_reducible assumption
    | (exact in_of hm rfl)
    | intro _
    | with_reducible apply fr_modEcc
    | with_reducible apply fr_modPersist
    | with_reducible apply fr_modPlace
    | with_reducible apply fr_takeSlot

theorem fr_commitMig {mm : Nat} {s0 s : State} (hm : In 325603 mm) (h : Fr mm s0 s) (m : Mig) :
    Fr mm s0 (State.commitMig s m) := by
  unfold State.commitMig
  try dsimp only
  repeat'
    first
    | with_reducible assumption
    | (exact in_of hm rfl)
    | intro _
    | with_reducible apply fr_afterClean
    | with_reducible apply fr_count
    | with_reducible apply fr_leaveSlot
    | with_reducible apply fr_loseHints
    | with_reducible apply fr_metaSend
    | with_reducible apply fr_modMig
    | with_reducible apply fr_modPlace
    | with_reducible apply fr_releaseFrozen
    | with_reducible apply fr_sendCommit
    | with_reducible apply fr_tcacheFill
    | with_reducible apply fr_foldl

theorem fr_commitReloc {mm : Nat} {s0 s : State} (hm : In 325603 mm) (h : Fr mm s0 s) (m : Mig) :
    Fr mm s0 (State.commitReloc s m) := by
  unfold State.commitReloc
  try dsimp only
  repeat'
    first
    | with_reducible assumption
    | (exact in_of hm rfl)
    | intro _
    | with_reducible apply fr_count
    | with_reducible apply fr_leaveSlot
    | with_reducible apply fr_metaSend
    | with_reducible apply fr_modEcc
    | with_reducible apply fr_modMig
    | with_reducible apply fr_modPersist
    | with_reducible apply fr_modPlace
    | with_reducible apply fr_putArrival
    | with_reducible apply fr_releaseFrozen
    | with_reducible apply fr_sendCommit
    | with_reducible apply fr_takeSlot
    | with_reducible apply fr_tcacheFill
    | with_reducible apply fr_throttleCheck
    | with_reducible apply fr_if
    | with_reducible apply fr_ifn
    | with_reducible apply fr_foldl

theorem fr_freezeStep {mm : Nat} {s0 s : State} (hm : In 325603 mm) (h : Fr mm s0 s) (m : Mig) :
    Fr mm s0 (State.freezeStep s m) := by
  unfold State.freezeStep
  try dsimp only
  repeat'
    first
    | with_reducible assumption
    | (exact in_of hm rfl)
    | intro _
    | with_reducible apply fr_commitMig
    | with_reducible apply fr_commitReloc
    | with_reducible apply fr_sendGrans
    | with_reducible apply fr_writeCommit
    | with_reducible apply fr_if
    | with_reducible apply fr_ifn
    | split

theorem fr_migStep {mm : Nat} {s0 s : State} (hm : In 325603 mm) (h : Fr mm s0 s) (key : Nat) :
    Fr mm s0 (State.migStep s key) := by
  unfold State.migStep
  try dsimp only
  repeat'
    first
    | with_reducible assumption
    | (exact in_of hm rfl)
    | intro _
    | (refine fr_tombRoom (by with_reducible assumption) ?_ ?_)
    | with_reducible apply fr_abortMig
    | with_reducible apply fr_freezeStep
    | with_reducible apply fr_mirrorMig
    | with_reducible apply fr_modMig
    | with_reducible apply fr_sendGrans
    | with_reducible apply fr_if
    | with_reducible apply fr_ifn
    | split

theorem fr_passesAfterPoint {mm : Nat} {s0 s : State} (hm : In 325603 mm) (h : Fr mm s0 s) :
    Fr mm s0 (State.passesAfterPoint s) := by
  unfold State.passesAfterPoint
  try dsimp only
  repeat'
    first
    | with_reducible assumption
    | (exact in_of hm rfl)
    | intro _
    | with_reducible apply fr_migStep
    | with_reducible apply fr_sendGrans
    | with_reducible apply fr_if
    | with_reducible apply fr_ifn
    | with_reducible apply fr_foldl

theorem fr_pumpMigs {mm : Nat} {s0 s : State} (hm : In 325603 mm) (h : Fr mm s0 s) :
    Fr mm s0 (State.pumpMigs s) := by
  unfold State.pumpMigs
  try dsimp only
  repeat'
    first
    | with_reducible assumption
    | (exact in_of hm rfl)
    | intro _
    | with_reducible apply fr_migStep
    | with_reducible apply fr_foldl

theorem fr_emptyPasses {mm : Nat} {s0 s : State} (hm : In 325603 mm) (h : Fr mm s0 s) :
    Fr mm s0 (State.emptyPasses s) := by
  unfold State.emptyPasses
  try dsimp only
  repeat'
    first
    | with_reducible assumption
    | (exact in_of hm rfl)
    | intro _
    | with_reducible apply fr_modPlace
    | with_reducible apply fr_pumpMigs

theorem fr_relocHome {mm : Nat} {s0 s : State} (hm : In 325377 mm) (h : Fr mm s0 s) (m : Mig) :
    Fr mm s0 (State.relocHome s m) := by
  unfold State.relocHome
  try dsimp only
  repeat'
    first
    | with_reducible assumption
    | (exact in_of hm rfl)
    | intro _
    | with_reducible apply fr_modPersist
    | with_reducible apply fr_poisonEnterSpan
    | with_reducible apply fr_poisonLines
    | with_reducible apply fr_foldl

theorem fr_readHome {mm : Nat} {s0 s : State} (hm : In 274433 mm) (h : Fr mm s0 s) (g : Nat) :
    Fr mm s0 (State.readHome s g) := by
  unfold State.readHome
  try dsimp only
  repeat'
    first
    | with_reducible assumption
    | (exact in_of hm rfl)
    | intro _
    | with_reducible apply fr_ask
    | with_reducible apply fr_count
    | with_reducible apply fr_emit
    | with_reducible apply fr_if
    | with_reducible apply fr_ifn
    | split

theorem fr_askGranule {mm : Nat} {s0 s : State} (hm : In 308481 mm) (h : Fr mm s0 s) (g : Nat) :
    Fr mm s0 (State.askGranule s g) := by
  unfold State.askGranule
  try dsimp only
  repeat'
    first
    | with_reducible assumption
    | (exact in_of hm rfl)
    | intro _
    | with_reducible apply fr_modPersist
    | with_reducible apply fr_readHome
    | with_reducible apply fr_send
    | split

theorem fr_relocStart {mm : Nat} {s0 s : State} (hm : In 325603 mm) (h : Fr mm s0 s) (key : Nat) (gen : Nat) :
    Fr mm s0 (State.relocStart s key gen) := by
  unfold State.relocStart
  try dsimp only
  repeat'
    first
    | with_reducible assumption
    | (exact in_of hm rfl)
    | intro _
    | with_reducible apply fr_abortMig
    | with_reducible apply fr_askGranule
    | with_reducible apply fr_commitReloc
    | with_reducible apply fr_migStep
    | with_reducible apply fr_mirrorMig
    | with_reducible apply fr_modMig
    | with_reducible apply fr_modPlace
    | with_reducible apply fr_relocHome
    | with_reducible apply fr_sendGrans
    | with_reducible apply fr_takeSlot
    | with_reducible apply fr_if
    | with_reducible apply fr_ifn
    | with_reducible apply fr_foldl
    | with_reducible apply fr_foldl_fst
    | split

theorem fr_moveAnswered {mm : Nat} {s0 s : State} (hm : In 325603 mm) (h : Fr mm s0 s) (key : Nat) (status : Nat) (gen : Nat) :
    Fr mm s0 (State.moveAnswered s key status gen) := by
  unfold State.moveAnswered
  try dsimp only
  repeat'
    first
    | with_reducible assumption
    | (exact in_of hm rfl)
    | intro _
    | with_reducible apply fr_count
    | with_reducible apply fr_endMig
    | with_reducible apply fr_mirrorMig
    | with_reducible apply fr_modMig
    | with_reducible apply fr_modPlace
    | with_reducible apply fr_relocStart
    | with_reducible apply fr_tell
    | with_reducible apply fr_if
    | with_reducible apply fr_ifn
    | split

theorem fr_startMove {mm : Nat} {s0 s : State} (hm : In 325603 mm) (h : Fr mm s0 s) (slot : Nat) (dst : Nat) (evac : Bool) :
    Fr mm s0 (State.startMove s slot dst evac) := by
  unfold State.startMove
  try dsimp only
  repeat'
    first
    | with_reducible assumption
    | (exact in_of hm rfl)
    | intro _
    | with_reducible apply fr_dirMove
    | with_reducible apply fr_mirrorMig
    | with_reducible apply fr_modPlace
    | with_reducible apply fr_moveAnswered
    | with_reducible apply fr_tell
    | (refine fr_of_fst (by with_reducible assumption) ?_)
    | with_reducible apply fr_if
    | with_reducible apply fr_ifn
    | split

theorem fr_rankGone {mm : Nat} {s0 s : State} (hm : In 308225 mm) (h : Fr mm s0 s) (n : Nat) (r : Nat) :
    Fr mm s0 (State.rankGone s n r) := by
  unfold State.rankGone
  try dsimp only
  repeat'
    first
    | with_reducible assumption
    | (exact in_of hm rfl)
    | intro _
    | with_reducible apply fr_modChan
    | with_reducible apply fr_raise
    | with_reducible apply fr_tellRanks
    | (refine fr_of_fst (by with_reducible assumption) ?_)
    | with_reducible apply fr_if

theorem fr_ranksGone {mm : Nat} {s0 s : State} (hm : In 308225 mm) (h : Fr mm s0 s) :
    Fr mm s0 (State.ranksGone s) := by
  unfold State.ranksGone
  try dsimp only
  repeat'
    first
    | with_reducible assumption
    | (exact in_of hm rfl)
    | intro _
    | with_reducible apply fr_rankGone
    | (refine fr_of_fst (by with_reducible assumption) ?_)
    | with_reducible apply fr_foldl

theorem fr_pumpRetire {mm : Nat} {s0 s : State} (hm : In 325603 mm) (h : Fr mm s0 s) :
    Fr mm s0 (State.pumpRetire s) := by
  unfold State.pumpRetire
  try dsimp only
  repeat'
    first
    | with_reducible assumption
    | (exact in_of hm rfl)
    | intro _
    | with_reducible apply fr_ranksGone
    | with_reducible apply fr_startMove
    | with_reducible apply fr_if
    | with_reducible apply fr_ifn
    | with_reducible apply fr_foldl

theorem fr_reserveDest {mm : Nat} {s0 s : State} (hm : In 325507 mm) (h : Fr mm s0 s) (key : Nat) (src : Nat) (sslot : Nat) :
    Fr mm s0 (State.reserveDest s key src sslot).1 := by
  unfold State.reserveDest
  try dsimp only
  repeat'
    first
    | with_reducible assumption
    | (exact in_of hm rfl)
    | intro _
    | with_reducible apply fr_dropCopyHere
    | with_reducible apply fr_makeCopyRoom
    | with_reducible apply fr_metaSend
    | with_reducible apply fr_modPlace
    | with_reducible apply fr_takeSlot
    | with_reducible apply fr_throttleCheck
    | (refine fr_of_fst (by with_reducible assumption) ?_)
    | with_reducible apply fr_if
    | with_reducible apply fr_ifn
    | split

theorem fr_movedBack {mm : Nat} {s0 s : State} (hm : In 325603 mm) (h : Fr mm s0 s) (m : MigIn) (hs : List HReq) :
    Fr mm s0 (State.movedBack s m hs) := by
  unfold State.movedBack
  try dsimp only
  repeat'
    first
    | with_reducible assumption
    | (exact in_of hm rfl)
    | intro _
    | with_reducible apply fr_answerMoved
    | with_reducible apply fr_count
    | with_reducible apply fr_routeTo
    | with_reducible apply fr_foldl
    | with_reducible apply fr_foldl_fst
    | split

theorem fr_abortIn {mm : Nat} {s0 s : State} (hm : In 325603 mm) (h : Fr mm s0 s) (m : MigIn) :
    Fr mm s0 (State.abortIn s m) := by
  unfold State.abortIn
  try dsimp only
  repeat'
    first
    | with_reducible assumption
    | (exact in_of hm rfl)
    | intro _
    | with_reducible apply fr_afterClean
    | with_reducible apply fr_loseHints
    | with_reducible apply fr_metaSend
    | with_reducible apply fr_modPlace
    | with_reducible apply fr_movedBack
    | with_reducible apply fr_piecesBack
    | with_reducible apply fr_releaseSlot

theorem fr_commitIn {mm : Nat} {s0 s : State} (hm : In 325603 mm) (h : Fr mm s0 s) (m : MigIn) (msg : PMsg) :
    Fr mm s0 (State.commitIn s m msg) := by
  unfold State.commitIn
  try dsimp only
  repeat'
    first
    | with_reducible assumption
    | (exact in_of hm rfl)
    | intro _
    | with_reducible apply fr_count
    | with_reducible apply fr_dropTomb
    | with_reducible apply fr_metaSend
    | with_reducible apply fr_modPersist
    | with_reducible apply fr_modPlace
    | with_reducible apply fr_putArrival
    | with_reducible apply fr_resume
    | with_reducible apply fr_resumePieces
    | with_reducible apply fr_takeSlot
    | with_reducible apply fr_tcacheFill
    | with_reducible apply fr_throttleCheck
    | (refine fr_of_fst (by with_reducible assumption) ?_)
    | with_reducible apply fr_if
    | with_reducible apply fr_ifn
    | with_reducible apply fr_foldl

theorem fr_putChunk {mm : Nat} {s0 s : State} (hm : In 325379 mm) (h : Fr mm s0 s) (slot : Nat) (line : Nat) (ls : List Line) (ps : List Bool) :
    Fr mm s0 (State.putChunk s slot line ls ps) := by
  unfold State.putChunk
  try dsimp only
  repeat'
    first
    | with_reducible assumption
    | (exact in_of hm rfl)
    | intro _
    | with_reducible apply fr_askWrite
    | with_reducible apply fr_mirrorRun
    | with_reducible apply fr_modPersist
    | with_reducible apply fr_poisonEnter
    | with_reducible apply fr_poisonLeave
    | with_reducible apply fr_putLine
    | with_reducible apply fr_syncHorizon
    | with_reducible apply fr_if
    | with_reducible apply fr_ifn
    | with_reducible apply fr_foldl

theorem fr_ackChunks {mm : Nat} {s0 s : State} (hm : In 308353 mm) (h : Fr mm s0 s) :
    Fr mm s0 (State.ackChunks s) := by
  unfold State.ackChunks
  try dsimp only
  repeat'
    first
    | with_reducible assumption
    | (exact in_of hm rfl)
    | intro _
    | with_reducible apply fr_modPlace
    | with_reducible apply fr_send
    | (refine fr_of_fst (by with_reducible assumption) ?_)
    | with_reducible apply fr_if
    | with_reducible apply fr_ifn
    | with_reducible apply fr_foldl

theorem fr_copyFailures {mm : Nat} {s0 s : State} (hm : In 325603 mm) (h : Fr mm s0 s) (v : Nat) :
    Fr mm s0 (State.copyFailures s v) := by
  unfold State.copyFailures
  try dsimp only
  repeat'
    first
    | with_reducible assumption
    | (exact in_of hm rfl)
    | intro _
    | with_reducible apply fr_abortCopy
    | with_reducible apply fr_foldl

theorem fr_copyAnswered {mm : Nat} {s0 s : State} (hm : In 309217 mm) (h : Fr mm s0 s) (key : Nat) (v : Nat) (status : Nat) :
    Fr mm s0 (State.copyAnswered s key v status) := by
  unfold State.copyAnswered
  try dsimp only
  repeat'
    first
    | with_reducible assumption
    | (exact in_of hm rfl)
    | intro _
    | with_reducible apply fr_completeWrites
    | with_reducible apply fr_count
    | with_reducible apply fr_loseCopyOut
    | with_reducible apply fr_modCopyOut
    | with_reducible apply fr_tell
    | with_reducible apply fr_if
    | with_reducible apply fr_ifn
    | split

theorem fr_startCopy {mm : Nat} {s0 s : State} (hm : In 309217 mm) (h : Fr mm s0 s) (slot : Nat) (v : Nat) :
    Fr mm s0 (State.startCopy s slot v) := by
  unfold State.startCopy
  try dsimp only
  repeat'
    first
    | with_reducible assumption
    | (exact in_of hm rfl)
    | intro _
    | with_reducible apply fr_copyAnswered
    | with_reducible apply fr_dirCopy
    | with_reducible apply fr_metaSend
    | with_reducible apply fr_modPlace
    | with_reducible apply fr_tell
    | (refine fr_of_fst (by with_reducible assumption) ?_)
    | with_reducible apply fr_if
    | with_reducible apply fr_ifn
    | split

theorem fr_reserveCopy {mm : Nat} {s0 s : State} (hm : In 309121 mm) (h : Fr mm s0 s) (key : Nat) (home : Nat) :
    Fr mm s0 (State.reserveCopy s key home).1 := by
  unfold State.reserveCopy
  try dsimp only
  repeat'
    first
    | with_reducible assumption
    | (exact in_of hm rfl)
    | intro _
    | with_reducible apply fr_modPlace
    | with_reducible apply fr_takeSlot
    | (refine fr_of_fst (by with_reducible assumption) ?_)
    | with_reducible apply fr_if
    | with_reducible apply fr_ifn
    | split

theorem fr_startFill {m : Nat} {s0 s : State} (hm : In 325603 m) (h : Fr m s0 s) (evac : Bool) (n : Nat) (l : List Nat) :
    Fr m s0 (s.startFill evac n l) := by
  induction l generalizing s n with
  | nil => exact h
  | cons slot l ih =>
    unfold State.startFill
    repeat'
      first
      | with_reducible assumption
      | (exact in_of hm rfl)
      | with_reducible apply ih
      | with_reducible apply fr_startMove
      | split
      | dsimp only

theorem fr_startQueued {mm : Nat} {s0 s : State} (hm : In 325603 mm) (h : Fr mm s0 s) (fuel : Nat) :
    Fr mm s0 (State.startQueued s fuel) := by
  induction fuel generalizing s  with
  | zero =>
    unfold State.startQueued
    try dsimp only
    repeat'
      first
      | with_reducible assumption
  | succ fuel ih =>
    unfold State.startQueued
    try dsimp only
    repeat'
      first
      | with_reducible assumption
      | with_reducible apply ih
      | (exact in_of hm rfl)
      | intro _
      | with_reducible apply fr_modPlace
      | with_reducible apply fr_startCopy
      | with_reducible apply fr_startMove
      | (refine fr_of_fst (by with_reducible assumption) ?_)
      | with_reducible apply fr_if
      | with_reducible apply fr_ifn
      | split

theorem fr_startActions {mm : Nat} {s0 s : State} (hm : In 325603 mm) (h : Fr mm s0 s) :
    Fr mm s0 (State.startActions s) := by
  unfold State.startActions
  try dsimp only
  repeat'
    first
    | with_reducible assumption
    | (exact in_of hm rfl)
    | intro _
    | with_reducible apply fr_startFill
    | with_reducible apply fr_startQueued
    | with_reducible apply fr_if

/-! ### Machine/PoolOps.lean -/

theorem fr_tree {mm : Nat} {s0 s : State} (hm : In 308225 mm) (h : Fr mm s0 s) (d : Nat) (op : Nat) (latch : Nat) (late : Bool) (b : TBody) :
    Fr mm s0 (State.tree s d op latch late b) := by
  unfold State.tree
  try dsimp only
  repeat'
    first
    | with_reducible assumption
    | (exact in_of hm rfl)
    | intro _
    | with_reducible apply fr_count
    | with_reducible apply fr_send

theorem fr_treeDown {mm : Nat} {s0 s : State} (hm : In 308225 mm) (h : Fr mm s0 s) (op : Nat) (latch : Nat) (b : TBody) :
    Fr mm s0 (State.treeDown s op latch b) := by
  unfold State.treeDown
  try dsimp only
  repeat'
    first
    | with_reducible assumption
    | (exact in_of hm rfl)
    | intro _
    | with_reducible apply fr_tree
    | with_reducible apply fr_foldl

theorem fr_sendHeld {mm : Nat} {s0 s : State} (hm : In 308233 mm) (h : Fr mm s0 s) :
    Fr mm s0 (State.sendHeld s) := by
  unfold State.sendHeld
  try dsimp only
  repeat'
    first
    | with_reducible assumption
    | (exact in_of hm rfl)
    | intro _
    | with_reducible apply fr_modDict
    | with_reducible apply fr_tree
    | (refine fr_of_fst (by with_reducible assumption) ?_)
    | with_reducible apply fr_if
    | with_reducible apply fr_ifn
    | with_reducible apply fr_foldl

theorem fr_takeTerm {mm : Nat} {s0 s : State} (hm : In 310281 mm) (h : Fr mm s0 s) (t : TreeHdr) :
    Fr mm s0 (State.takeTerm s t) := by
  unfold State.takeTerm
  try dsimp only
  repeat'
    first
    | with_reducible assumption
    | (exact in_of hm rfl)
    | intro _
    | with_reducible apply fr_modDict
    | with_reducible apply fr_modPool
    | with_reducible apply fr_sendHeld
    | with_reducible apply fr_if

theorem fr_rxTree {mm : Nat} {s0 s : State} (hm : In 327659 mm) (h : Fr mm s0 s) (h : Hdr) (t : TreeHdr) (down : Bool) (b : TBody) :
    Fr mm s0 (State.rxTree s h t down b).1 := by
  unfold State.rxTree
  try dsimp only
  repeat'
    first
    | with_reducible assumption
    | (exact in_of hm rfl)
    | with_reducible apply fr_id
    | intro _
    | with_reducible apply fr_count
    | with_reducible apply fr_modPool
    | with_reducible apply fr_rx
    | with_reducible apply fr_takeTerm
    | (refine fr_of_fst (by with_reducible assumption) ?_)
    | with_reducible apply fr_if
    | with_reducible apply fr_ifn
    | split

theorem fr_checkManifest {mm : Nat} {s0 s : State} (hm : In 264192 mm) (h : Fr mm s0 s) :
    Fr mm s0 (State.checkManifest s) := by
  unfold State.checkManifest
  try dsimp only
  repeat'
    first
    | with_reducible assumption
    | (exact in_of hm rfl)
    | intro _
    | with_reducible apply fr_modPool
    | with_reducible apply fr_raise
    | with_reducible apply fr_foldl

theorem fr_takeImage {mm : Nat} {s0 s : State} (hm : In 327663 mm) (h : Fr mm s0 s) (i : PoolImage) :
    Fr mm s0 (State.takeImage s i) := by
  unfold State.takeImage
  try dsimp only
  repeat'
    first
    | with_reducible assumption
    | (exact in_of hm rfl)
    | with_reducible apply fr_id
    | intro _
    | with_reducible apply fr_checkManifest
    | with_reducible apply fr_learnClaim
    | with_reducible apply fr_modDict
    | with_reducible apply fr_modPool
    | with_reducible apply fr_modSettings
    | (refine fr_of_fst (by with_reducible assumption) ?_)
    | with_reducible apply fr_foldl

theorem fr_sendState {mm : Nat} {s0 s : State} (hm : In 308225 mm) (h : Fr mm s0 s) (d : Nat) :
    Fr mm s0 (State.sendState s d) := by
  unfold State.sendState
  try dsimp only
  repeat'
    first
    | with_reducible assumption
    | (exact in_of hm rfl)
    | intro _
    | with_reducible apply fr_count
    | with_reducible apply fr_raise
    | with_reducible apply fr_tree

theorem fr_vaultsGone {mm : Nat} {s0 s : State} (hm : In 325603 mm) (h : Fr mm s0 s) (before : List Nat) :
    Fr mm s0 (State.vaultsGone s before) := by
  unfold State.vaultsGone
  try dsimp only
  repeat'
    first
    | with_reducible assumption
    | (exact in_of hm rfl)
    | intro _
    | with_reducible apply fr_abortMig
    | with_reducible apply fr_copyFailures
    | with_reducible apply fr_foldl

theorem fr_applyWave {mm : Nat} {s0 s : State} (hm : In 327651 mm) (h : Fr mm s0 s) (wave : Nat) (present : List Nat) :
    Fr mm s0 (State.applyWave s wave present) := by
  unfold State.applyWave
  try dsimp only
  repeat'
    first
    | with_reducible assumption
    | (exact in_of hm rfl)
    | intro _
    | with_reducible apply fr_count
    | with_reducible apply fr_modPersist
    | with_reducible apply fr_modPool
    | with_reducible apply fr_raise
    | with_reducible apply fr_vaultsGone
    | with_reducible apply fr_foldl

theorem fr_readyWave {mm : Nat} {s0 s : State} (hm : In 327651 mm) (h : Fr mm s0 s) :
    Fr mm s0 (State.readyWave s) := by
  unfold State.readyWave
  try dsimp only
  repeat'
    first
    | with_reducible assumption
    | (exact in_of hm rfl)
    | intro _
    | with_reducible apply fr_applyWave
    | with_reducible apply fr_modPool
    | with_reducible apply fr_raise
    | with_reducible apply fr_treeDown
    | (refine fr_of_fst (by with_reducible assumption) ?_)
    | with_reducible apply fr_if
    | with_reducible apply fr_ifn
    | with_reducible apply fr_foldl

theorem fr_closeGatherNow {mm : Nat} {s0 s : State} (hm : In 327651 mm) (h : Fr mm s0 s) (cause : Nat) :
    Fr mm s0 (State.closeGatherNow s cause) := by
  unfold State.closeGatherNow
  try dsimp only
  repeat'
    first
    | with_reducible assumption
    | (exact in_of hm rfl)
    | intro _
    | with_reducible apply fr_raise
    | with_reducible apply fr_readyWave
    | with_reducible apply fr_if

theorem fr_takeRoot {mm : Nat} {s0 s : State} (hm : In 327651 mm) (h : Fr mm s0 s) (cause : Nat) :
    Fr mm s0 (State.takeRoot s cause) := by
  unfold State.takeRoot
  try dsimp only
  repeat'
    first
    | with_reducible assumption
    | (exact in_of hm rfl)
    | intro _
    | with_reducible apply fr_closeGatherNow
    | with_reducible apply fr_modPool
    | with_reducible apply fr_raise
    | with_reducible apply fr_treeDown
    | with_reducible apply fr_if
    | with_reducible apply fr_ifn
    | with_reducible apply fr_foldl

theorem fr_freeCheck {mm : Nat} {s0 s : State} (hm : In 264192 mm) (h : Fr mm s0 s) :
    Fr mm s0 (State.freeCheck s) := by
  unfold State.freeCheck
  try dsimp only
  repeat'
    first
    | with_reducible assumption
    | (exact in_of hm rfl)
    | intro _
    | with_reducible apply fr_modPool
    | with_reducible apply fr_raise
    | with_reducible apply fr_if

theorem fr_modVol {mm : Nat} {s0 s : State} (hm : In 2048 mm) (h : Fr mm s0 s) (n : Nat) (f : Volume → Volume) :
    Fr mm s0 (State.modVol s n f) := by
  unfold State.modVol
  try dsimp only
  repeat'
    first
    | with_reducible assumption
    | (exact in_of hm rfl)
    | intro _
    | with_reducible apply fr_modPool

theorem fr_takeCensus {mm : Nat} {s0 s : State} (hm : In 2048 mm) (h : Fr mm s0 s) (d : Nat) (c : Census) :
    Fr mm s0 (State.takeCensus s d c) := by
  unfold State.takeCensus
  try dsimp only
  repeat'
    first
    | with_reducible assumption
    | (exact in_of hm rfl)
    | intro _
    | with_reducible apply fr_modPool

theorem fr_goneBeyond {mm : Nat} {s0 s : State} (hm : In 309121 mm) (h : Fr mm s0 s) (old : Place) (vol : Nat) (from_ : Nat) :
    Fr mm s0 (State.goneBeyond s old vol from_) := by
  unfold State.goneBeyond
  try dsimp only
  repeat'
    first
    | with_reducible assumption
    | (exact in_of hm rfl)
    | intro _
    | with_reducible apply fr_loseHints
    | with_reducible apply fr_metaSend
    | with_reducible apply fr_foldl

theorem fr_releaseRange {mm : Nat} {s0 s : State} (hm : In 325603 mm) (h : Fr mm s0 s) (vol : Nat) (from_ : Nat) :
    Fr mm s0 (State.releaseRange s vol from_) := by
  unfold State.releaseRange
  try dsimp only
  repeat'
    first
    | with_reducible assumption
    | (exact in_of hm rfl)
    | intro _
    | with_reducible apply fr_afterClean
    | with_reducible apply fr_completeWrites
    | with_reducible apply fr_dirRelease
    | with_reducible apply fr_dropTomb
    | with_reducible apply fr_goneBeyond
    | with_reducible apply fr_modPlace
    | with_reducible apply fr_releaseSlot
    | with_reducible apply fr_foldl

theorem fr_sendCensus {mm : Nat} {s0 s : State} (hm : In 310273 mm) (h : Fr mm s0 s) :
    Fr mm s0 (State.sendCensus s) := by
  unfold State.sendCensus
  try dsimp only
  repeat'
    first
    | with_reducible assumption
    | (exact in_of hm rfl)
    | intro _
    | with_reducible apply fr_takeCensus
    | with_reducible apply fr_tree
    | with_reducible apply fr_treeDown
    | with_reducible apply fr_if

theorem fr_notePoint {mm : Nat} {s0 s : State} (hm : In 2048 mm) (h : Fr mm s0 s) (op : Nat) (a : Action) :
    Fr mm s0 (State.notePoint s op a) := by
  unfold State.notePoint
  try dsimp only
  repeat'
    first
    | with_reducible assumption
    | (exact in_of hm rfl)
    | intro _
    | with_reducible apply fr_modPool
    | split

theorem fr_castOp {mm : Nat} {s0 s : State} (hm : In 310273 mm) (h : Fr mm s0 s) (o : LatchOp) :
    Fr mm s0 (State.castOp s o) := by
  unfold State.castOp
  try dsimp only
  repeat'
    first
    | with_reducible assumption
    | (exact in_of hm rfl)
    | intro _
    | with_reducible apply fr_modPool
    | with_reducible apply fr_treeDown
    | with_reducible apply fr_if

theorem fr_castOps {mm : Nat} {s0 s : State} (hm : In 310273 mm) (h : Fr mm s0 s) :
    Fr mm s0 (State.castOps s) := by
  unfold State.castOps
  try dsimp only
  repeat'
    first
    | with_reducible assumption
    | (exact in_of hm rfl)
    | intro _
    | with_reducible apply fr_castOp
    | with_reducible apply fr_if
    | with_reducible apply fr_ifn
    | with_reducible apply fr_foldl

theorem fr_issueOp {mm : Nat} {s0 s : State} (hm : In 310273 mm) (h : Fr mm s0 s) (a : Action) (dev : Nat) :
    Fr mm s0 (State.issueOp s a dev) := by
  unfold State.issueOp
  try dsimp only
  repeat'
    first
    | with_reducible assumption
    | (exact in_of hm rfl)
    | intro _
    | with_reducible apply fr_castOps
    | with_reducible apply fr_modPool
    | with_reducible apply fr_notePoint
    | with_reducible apply fr_tree
    | with_reducible apply fr_foldl

theorem fr_rootResult {mm : Nat} {s0 s : State} (hm : In 310273 mm) (h : Fr mm s0 s) (dev : Nat) (op : Nat) (st : Nat) :
    Fr mm s0 (State.rootResult s dev op st) := by
  unfold State.rootResult
  try dsimp only
  repeat'
    first
    | with_reducible assumption
    | (exact in_of hm rfl)
    | intro _
    | with_reducible apply fr_modPool
    | with_reducible apply fr_tree
    | with_reducible apply fr_if

theorem fr_refuseAction {mm : Nat} {s0 s : State} (hm : In 310273 mm) (h : Fr mm s0 s) (kind : Nat) (n : Nat) (act : Nat) (st : Nat) (dev : Nat) :
    Fr mm s0 (State.refuseAction s kind n act st dev) := by
  unfold State.refuseAction
  try dsimp only
  repeat'
    first
    | with_reducible assumption
    | (exact in_of hm rfl)
    | intro _
    | with_reducible apply fr_issueOp

theorem fr_rootCreate {mm : Nat} {s0 s : State} (hm : In 310273 mm) (h : Fr mm s0 s) (n : Nat) (size : Nat) (cls : Nat) (label : Nat) (dev : Nat) :
    Fr mm s0 (State.rootCreate s n size cls label dev) := by
  unfold State.rootCreate
  try dsimp only
  repeat'
    first
    | with_reducible assumption
    | (exact in_of hm rfl)
    | intro _
    | with_reducible apply fr_freeCheck
    | with_reducible apply fr_issueOp
    | with_reducible apply fr_modVol
    | with_reducible apply fr_refuseAction
    | with_reducible apply fr_if

theorem fr_rootResize {mm : Nat} {s0 s : State} (hm : In 310273 mm) (h : Fr mm s0 s) (n : Nat) (size : Nat) (dev : Nat) :
    Fr mm s0 (State.rootResize s n size dev) := by
  unfold State.rootResize
  try dsimp only
  repeat'
    first
    | with_reducible assumption
    | (exact in_of hm rfl)
    | intro _
    | with_reducible apply fr_freeCheck
    | with_reducible apply fr_issueOp
    | with_reducible apply fr_modVol
    | with_reducible apply fr_refuseAction
    | with_reducible apply fr_if

theorem fr_rootDelete {mm : Nat} {s0 s : State} (hm : In 310273 mm) (h : Fr mm s0 s) (n : Nat) (dev : Nat) :
    Fr mm s0 (State.rootDelete s n dev) := by
  unfold State.rootDelete
  try dsimp only
  repeat'
    first
    | with_reducible assumption
    | (exact in_of hm rfl)
    | intro _
    | with_reducible apply fr_issueOp
    | with_reducible apply fr_modVol
    | with_reducible apply fr_refuseAction
    | with_reducible apply fr_if

theorem fr_rootShare {mm : Nat} {s0 s : State} (hm : In 310273 mm) (h : Fr mm s0 s) (v : Nat) (sp : Nat) (c : Nat) (f : Nat) (dev : Nat) :
    Fr mm s0 (State.rootShare s v sp c f dev) := by
  unfold State.rootShare
  try dsimp only
  repeat'
    first
    | with_reducible assumption
    | (exact in_of hm rfl)
    | intro _
    | with_reducible apply fr_issueOp
    | with_reducible apply fr_refuseAction
    | with_reducible apply fr_if

theorem fr_rootManAdd {mm : Nat} {s0 s : State} (hm : In 310273 mm) (h : Fr mm s0 s) (e : MEntry) (dev : Nat) :
    Fr mm s0 (State.rootManAdd s e dev) := by
  unfold State.rootManAdd
  try dsimp only
  repeat'
    first
    | with_reducible assumption
    | (exact in_of hm rfl)
    | intro _
    | with_reducible apply fr_issueOp
    | with_reducible apply fr_refuseAction
    | with_reducible apply fr_if

theorem fr_rootManAddr {mm : Nat} {s0 s : State} (hm : In 310273 mm) (h : Fr mm s0 s) (e : MEntry) (dev : Nat) :
    Fr mm s0 (State.rootManAddr s e dev) := by
  unfold State.rootManAddr
  try dsimp only
  repeat'
    first
    | with_reducible assumption
    | (exact in_of hm rfl)
    | intro _
    | with_reducible apply fr_issueOp
    | with_reducible apply fr_refuseAction
    | with_reducible apply fr_if

theorem fr_rootManRemove {mm : Nat} {s0 s : State} (hm : In 310273 mm) (h : Fr mm s0 s) (d : Nat) (dev : Nat) :
    Fr mm s0 (State.rootManRemove s d dev) := by
  unfold State.rootManRemove
  try dsimp only
  repeat'
    first
    | with_reducible assumption
    | (exact in_of hm rfl)
    | intro _
    | with_reducible apply fr_issueOp
    | with_reducible apply fr_refuseAction
    | (refine fr_of_fst (by with_reducible assumption) ?_)
    | with_reducible apply fr_if

theorem fr_rootMap {mm : Nat} {s0 s : State} (hm : In 310273 mm) (h : Fr mm s0 s) (i : Nat) (v : Nat) (dev : Nat) :
    Fr mm s0 (State.rootMap s i v dev) := by
  unfold State.rootMap
  try dsimp only
  repeat'
    first
    | with_reducible assumption
    | (exact in_of hm rfl)
    | intro _
    | with_reducible apply fr_issueOp
    | with_reducible apply fr_rootResult
    | with_reducible apply fr_if

theorem fr_pointNext {mm : Nat} {s0 s : State} (hm : In 310529 mm) (h : Fr mm s0 s) :
    Fr mm s0 (State.pointNext s) := by
  unfold State.pointNext
  try dsimp only
  repeat'
    first
    | with_reducible assumption
    | (exact in_of hm rfl)
    | intro _
    | with_reducible apply fr_issueOp
    | with_reducible apply fr_modPersist
    | with_reducible apply fr_modPool
    | with_reducible apply fr_if

theorem fr_refuseBusy {mm : Nat} {s0 s : State} (hm : In 310273 mm) (h : Fr mm s0 s) (a : Action) (dev : Nat) :
    Fr mm s0 (State.refuseBusy s a dev) := by
  unfold State.refuseBusy
  try dsimp only
  repeat'
    first
    | with_reducible assumption
    | (exact in_of hm rfl)
    | intro _
    | with_reducible apply fr_refuseAction
    | with_reducible apply fr_rootResult
    | split

theorem fr_rootAct {mm : Nat} {s0 s : State} (hm : In 310657 mm) (h : Fr mm s0 s) (a : Action) (dev : Nat) :
    Fr mm s0 (State.rootAct s a dev) := by
  unfold State.rootAct
  try dsimp only
  repeat'
    first
    | with_reducible assumption
    | (exact in_of hm rfl)
    | intro _
    | with_reducible apply fr_issueOp
    | with_reducible apply fr_modPlace
    | with_reducible apply fr_modPool
    | with_reducible apply fr_pointNext
    | with_reducible apply fr_refuseBusy
    | with_reducible apply fr_rootCreate
    | with_reducible apply fr_rootDelete
    | with_reducible apply fr_rootManAdd
    | with_reducible apply fr_rootManAddr
    | with_reducible apply fr_rootManRemove
    | with_reducible apply fr_rootMap
    | with_reducible apply fr_rootResize
    | with_reducible apply fr_rootShare
    | with_reducible apply fr_takeCensus
    | with_reducible apply fr_treeDown
    | with_reducible apply fr_if
    | with_reducible apply fr_ifn
    | split

theorem fr_rootQueue {mm : Nat} {s0 s : State} (hm : In 310657 mm) (h : Fr mm s0 s) (fuel : Nat) :
    Fr mm s0 (State.rootQueue s fuel) := by
  induction fuel generalizing s  with
  | zero =>
    unfold State.rootQueue
    try dsimp only
    repeat'
      first
      | with_reducible assumption
  | succ fuel ih =>
    unfold State.rootQueue
    try dsimp only
    repeat'
      first
      | with_reducible assumption
      | with_reducible apply ih
      | (exact in_of hm rfl)
      | intro _
      | with_reducible apply fr_modPool
      | with_reducible apply fr_rootAct
      | (refine fr_of_fst (by with_reducible assumption) ?_)
      | with_reducible apply fr_if
      | with_reducible apply fr_ifn
      | split

theorem fr_action {mm : Nat} {s0 s : State} (hm : In 310665 mm) (h : Fr mm s0 s) (a : Action) (dev : Nat) :
    Fr mm s0 (State.action s a dev) := by
  unfold State.action
  try dsimp only
  repeat'
    first
    | with_reducible assumption
    | (exact in_of hm rfl)
    | intro _
    | with_reducible apply fr_modDict
    | with_reducible apply fr_modPool
    | with_reducible apply fr_rootAct
    | with_reducible apply fr_tree
    | with_reducible apply fr_if

theorem fr_ownHeld {mm : Nat} {s0 s : State} (hm : In 310665 mm) (h : Fr mm s0 s) :
    Fr mm s0 (State.ownHeld s) := by
  unfold State.ownHeld
  try dsimp only
  repeat'
    first
    | with_reducible assumption
    | (exact in_of hm rfl)
    | intro _
    | with_reducible apply fr_action
    | with_reducible apply fr_modDict
    | (refine fr_of_fst (by with_reducible assumption) ?_)
    | with_reducible apply fr_if
    | with_reducible apply fr_ifn
    | with_reducible apply fr_foldl

theorem fr_handToRoot {mm : Nat} {s0 s : State} (hm : In 310665 mm) (h : Fr mm s0 s) (a : Action) (ring : Option (Nat × Nat)) :
    Fr mm s0 (State.handToRoot s a ring) := by
  unfold State.handToRoot
  try dsimp only
  repeat'
    first
    | with_reducible assumption
    | (exact in_of hm rfl)
    | intro _
    | with_reducible apply fr_action
    | with_reducible apply fr_modPool

theorem fr_volOutcome {mm : Nat} {s0 s : State} (hm : In 264192 mm) (h : Fr mm s0 s) (n : Nat) (act : Nat) (st : Nat) (dev : Nat) :
    Fr mm s0 (State.volOutcome s n act st dev) := by
  unfold State.volOutcome
  try dsimp only
  repeat'
    first
    | with_reducible assumption
    | (exact in_of hm rfl)
    | intro _
    | with_reducible apply fr_modVol
    | with_reducible apply fr_raise
    | with_reducible apply fr_if

theorem fr_manifestChanged {mm : Nat} {s0 s : State} (hm : In 264192 mm) (h : Fr mm s0 s) (d : Nat) (act : Nat) :
    Fr mm s0 (State.manifestChanged s d act) := by
  unfold State.manifestChanged
  try dsimp only
  repeat'
    first
    | with_reducible assumption
    | (exact in_of hm rfl)
    | intro _
    | with_reducible apply fr_modPool
    | with_reducible apply fr_raise

theorem fr_twinJoins {mm : Nat} {s0 s : State} (hm : In 512 mm) (h : Fr mm s0 s) (d : Nat) :
    Fr mm s0 (State.twinJoins s d) := by
  unfold State.twinJoins
  try dsimp only
  repeat'
    first
    | with_reducible assumption
    | (exact in_of hm rfl)
    | intro _
    | with_reducible apply fr_modTwin
    | with_reducible apply fr_if

theorem fr_twinLeaves {mm : Nat} {s0 s : State} (hm : In 309089 mm) (h : Fr mm s0 s) (d : Nat) :
    Fr mm s0 (State.twinLeaves s d) := by
  unfold State.twinLeaves
  try dsimp only
  repeat'
    first
    | with_reducible assumption
    | (exact in_of hm rfl)
    | intro _
    | with_reducible apply fr_declareLost
    | with_reducible apply fr_modPersist
    | with_reducible apply fr_modTwin
    | with_reducible apply fr_if

theorem fr_leavePool {mm : Nat} {s0 s : State} (hm : In 2592 mm) (h : Fr mm s0 s) :
    Fr mm s0 (State.leavePool s) := by
  unfold State.leavePool
  try dsimp only
  repeat'
    first
    | with_reducible assumption
    | (exact in_of hm rfl)
    | intro _
    | with_reducible apply fr_modHost
    | with_reducible apply fr_modPool
    | with_reducible apply fr_modTwin

theorem fr_sendEnts {mm : Nat} {s0 s : State} (hm : In 308225 mm) (h : Fr mm s0 s) (d : Nat) (i : Nat) (fuel : Nat) (l : List MapEnt) :
    Fr mm s0 (State.sendEnts s d i fuel l) := by
  induction fuel generalizing s d i l with
  | zero =>
    unfold State.sendEnts
    try dsimp only
    repeat'
      first
      | with_reducible assumption
  | succ fuel ih =>
    unfold State.sendEnts
    try dsimp only
    repeat'
      first
      | with_reducible assumption
      | with_reducible apply ih
      | (exact in_of hm rfl)
      | intro _
      | with_reducible apply fr_send
      | with_reducible apply fr_if

theorem fr_mapChanged {mm : Nat} {s0 s : State} (hm : In 327651 mm) (h : Fr mm s0 s) (i : Nat) (v : Nat) :
    Fr mm s0 (State.mapChanged s i v) := by
  unfold State.mapChanged
  try dsimp only
  repeat'
    first
    | with_reducible assumption
    | (exact in_of hm rfl)
    | intro _
    | with_reducible apply fr_metaSend
    | with_reducible apply fr_modPlace
    | with_reducible apply fr_modPool
    | with_reducible apply fr_raise
    | with_reducible apply fr_route
    | with_reducible apply fr_sendEnts
    | (refine fr_of_fst (by with_reducible assumption) ?_)
    | with_reducible apply fr_if
    | with_reducible apply fr_ifn
    | with_reducible apply fr_foldl

theorem fr_endGrants {mm : Nat} {s0 s : State} (hm : In 8 mm) (h : Fr mm s0 s) :
    Fr mm s0 (State.endGrants s) := by
  unfold State.endGrants
  try dsimp only
  repeat'
    first
    | with_reducible assumption
    | (exact in_of hm rfl)
    | intro _
    | with_reducible apply fr_modDict

theorem fr_doAction {mm : Nat} {s0 s : State} (hm : In 327663 mm) (h : Fr mm s0 s) (a : Action) (dev : Nat) :
    Fr mm s0 (State.doAction s a dev) := by
  unfold State.doAction
  try dsimp only
  repeat'
    first
    | with_reducible assumption
    | (exact in_of hm rfl)
    | intro _
    | with_reducible apply fr_endGrants
    | with_reducible apply fr_leavePool
    | with_reducible apply fr_manifestChanged
    | with_reducible apply fr_mapChanged
    | with_reducible apply fr_modDict
    | with_reducible apply fr_modPool
    | with_reducible apply fr_modSettings
    | with_reducible apply fr_modVol
    | with_reducible apply fr_overCheck
    | with_reducible apply fr_raise
    | with_reducible apply fr_releaseRange
    | with_reducible apply fr_setSetting
    | with_reducible apply fr_twinJoins
    | with_reducible apply fr_twinLeaves
    | with_reducible apply fr_volOutcome
    | with_reducible apply fr_if
    | with_reducible apply fr_ifn
    | split

theorem fr_applyAction {mm : Nat} {s0 s : State} (hm : In 327663 mm) (h : Fr mm s0 s) (a : Action) (dev : Nat) :
    Fr mm s0 (State.applyAction s a dev) := by
  unfold State.applyAction
  try dsimp only
  repeat'
    first
    | with_reducible assumption
    | (exact in_of hm rfl)
    | intro _
    | with_reducible apply fr_doAction
    | with_reducible apply fr_freeCheck

theorem fr_announceVol {mm : Nat} {s0 s : State} (hm : In 2048 mm) (h : Fr mm s0 s) (a : Action) (dev : Nat) :
    Fr mm s0 (State.announceVol s a dev) := by
  unfold State.announceVol
  try dsimp only
  repeat'
    first
    | with_reducible assumption
    | (exact in_of hm rfl)
    | intro _
    | with_reducible apply fr_modVol
    | with_reducible apply fr_if
    | with_reducible apply fr_ifn
    | split

theorem fr_applyMissed {mm : Nat} {s0 s : State} (hm : In 327651 mm) (h : Fr mm s0 s) :
    Fr mm s0 (State.applyMissed s) := by
  unfold State.applyMissed
  try dsimp only
  repeat'
    first
    | with_reducible assumption
    | (exact in_of hm rfl)
    | intro _
    | with_reducible apply fr_modPool
    | with_reducible apply fr_releaseRange
    | with_reducible apply fr_foldl

theorem fr_barrierEnd {mm : Nat} {s0 s : State} (hm : In 310273 mm) (h : Fr mm s0 s) (op : Nat) (st : Nat) (absent : Nat) :
    Fr mm s0 (State.barrierEnd s op st absent) := by
  unfold State.barrierEnd
  try dsimp only
  repeat'
    first
    | with_reducible assumption
    | (exact in_of hm rfl)
    | intro _
    | with_reducible apply fr_count
    | with_reducible apply fr_modPool
    | with_reducible apply fr_raise
    | with_reducible apply fr_treeDown
    | with_reducible apply fr_if

theorem fr_barrierCheck {mm : Nat} {s0 s : State} (hm : In 310273 mm) (h : Fr mm s0 s) :
    Fr mm s0 (State.barrierCheck s) := by
  unfold State.barrierCheck
  try dsimp only
  repeat'
    first
    | with_reducible assumption
    | (exact in_of hm rfl)
    | intro _
    | with_reducible apply fr_barrierEnd
    | with_reducible apply fr_modPool
    | with_reducible apply fr_tree
    | with_reducible apply fr_if
    | with_reducible apply fr_ifn
    | split

theorem fr_modOp {mm : Nat} {s0 s : State} (hm : In 2048 mm) (h : Fr mm s0 s) (op : Nat) (f : LatchOp → LatchOp) :
    Fr mm s0 (State.modOp s op f) := by
  unfold State.modOp
  try dsimp only
  repeat'
    first
    | with_reducible assumption
    | (exact in_of hm rfl)
    | intro _
    | with_reducible apply fr_modPool

theorem fr_pointEnds {mm : Nat} {s0 s : State} (hm : In 310529 mm) (h : Fr mm s0 s) (n : Nat) (op : Nat) (status : Nat) (missed : Nat) :
    Fr mm s0 (State.pointEnds s n op status missed) := by
  unfold State.pointEnds
  try dsimp only
  repeat'
    first
    | with_reducible assumption
    | (exact in_of hm rfl)
    | intro _
    | with_reducible apply fr_modPersist
    | with_reducible apply fr_modPool
    | with_reducible apply fr_pointNext
    | with_reducible apply fr_raise
    | with_reducible apply fr_rootResult
    | with_reducible apply fr_if
    | with_reducible apply fr_ifn
    | with_reducible apply fr_foldl

theorem fr_opCheck {mm : Nat} {s0 s : State} (hm : In 310657 mm) (h : Fr mm s0 s) (op : Nat) :
    Fr mm s0 (State.opCheck s op) := by
  unfold State.opCheck
  try dsimp only
  repeat'
    first
    | with_reducible assumption
    | (exact in_of hm rfl)
    | intro _
    | with_reducible apply fr_modPool
    | with_reducible apply fr_pointEnds
    | with_reducible apply fr_rootQueue
    | with_reducible apply fr_rootResult
    | with_reducible apply fr_tree
    | with_reducible apply fr_if
    | with_reducible apply fr_ifn
    | split

theorem fr_opChecks {mm : Nat} {s0 s : State} (hm : In 310657 mm) (h : Fr mm s0 s) :
    Fr mm s0 (State.opChecks s) := by
  unfold State.opChecks
  try dsimp only
  repeat'
    first
    | with_reducible assumption
    | (exact in_of hm rfl)
    | intro _
    | with_reducible apply fr_opCheck
    | with_reducible apply fr_foldl

theorem fr_saveExtents {mm : Nat} {s0 s : State} (hm : In 310665 mm) (h : Fr mm s0 s) :
    Fr mm s0 (State.saveExtents s) := by
  unfold State.saveExtents
  try dsimp only
  repeat'
    first
    | with_reducible assumption
    | (exact in_of hm rfl)
    | intro _
    | with_reducible apply fr_action
    | with_reducible apply fr_if
    | with_reducible apply fr_ifn
    | split

theorem fr_enterRoom {mm : Nat} {s0 s : State} (hm : In 128 mm) (h : Fr mm s0 s) :
    Fr mm s0 (State.enterRoom s) := by
  unfold State.enterRoom
  try dsimp only
  repeat'
    first
    | with_reducible assumption
    | (exact in_of hm rfl)
    | intro _
    | with_reducible apply fr_modPlace
    | (refine fr_of_fst (by with_reducible assumption) ?_)
    | with_reducible apply fr_foldl

theorem fr_askRebuilds {mm : Nat} {s0 s : State} (hm : In 308225 mm) (h : Fr mm s0 s) :
    Fr mm s0 (State.askRebuilds s) := by
  unfold State.askRebuilds
  try dsimp only
  repeat'
    first
    | with_reducible assumption
    | (exact in_of hm rfl)
    | intro _
    | with_reducible apply fr_sendAll
    | with_reducible apply fr_if
    | with_reducible apply fr_ifn
    | with_reducible apply fr_foldl

theorem fr_afterWave {mm : Nat} {s0 s : State} (hm : In 310665 mm) (h : Fr mm s0 s) :
    Fr mm s0 (State.afterWave s) := by
  unfold State.afterWave
  try dsimp only
  repeat'
    first
    | with_reducible assumption
    | (exact in_of hm rfl)
    | intro _
    | with_reducible apply fr_askRebuilds
    | with_reducible apply fr_barrierCheck
    | with_reducible apply fr_enterRoom
    | with_reducible apply fr_opChecks
    | with_reducible apply fr_saveExtents
    | with_reducible apply fr_sendCensus

theorem fr_opLate {mm : Nat} {s0 s : State} (hm : In 264192 mm) (h : Fr mm s0 s) (o : LatchOp) :
    Fr mm s0 (State.opLate s o) := by
  unfold State.opLate
  try dsimp only
  repeat'
    first
    | with_reducible assumption
    | (exact in_of hm rfl)
    | intro _
    | with_reducible apply fr_count
    | with_reducible apply fr_modOp
    | with_reducible apply fr_raise
    | with_reducible apply fr_if

theorem fr_opDone {mm : Nat} {s0 s : State} (hm : In 310657 mm) (h : Fr mm s0 s) (op : Nat) (st : Nat) (missed : Nat) :
    Fr mm s0 (State.opDone s op st missed) := by
  unfold State.opDone
  try dsimp only
  repeat'
    first
    | with_reducible assumption
    | (exact in_of hm rfl)
    | intro _
    | with_reducible apply fr_modOp
    | with_reducible apply fr_opCheck

theorem fr_retryAllocation {mm : Nat} {s0 s : State} (hm : In 325603 mm) (h : Fr mm s0 s) (k : Nat) :
    Fr mm s0 (State.retryAllocation s k) := by
  unfold State.retryAllocation
  try dsimp only
  repeat'
    first
    | with_reducible assumption
    | (exact in_of hm rfl)
    | intro _
    | with_reducible apply fr_allocate
    | with_reducible apply fr_dirHomed
    | with_reducible apply fr_dropLateWaits
    | with_reducible apply fr_modDir
    | with_reducible apply fr_raise
    | with_reducible apply fr_if

theorem fr_retryAllocations {mm : Nat} {s0 s : State} (hm : In 325603 mm) (h : Fr mm s0 s) :
    Fr mm s0 (State.retryAllocations s) := by
  unfold State.retryAllocations
  try dsimp only
  repeat'
    first
    | with_reducible assumption
    | (exact in_of hm rfl)
    | intro _
    | with_reducible apply fr_retryAllocation
    | with_reducible apply fr_foldl

theorem fr_publishRoom {mm : Nat} {s0 s : State} (hm : In 325603 mm) (h : Fr mm s0 s) :
    Fr mm s0 (State.publishRoom s) := by
  unfold State.publishRoom
  try dsimp only
  repeat'
    first
    | with_reducible assumption
    | (exact in_of hm rfl)
    | intro _
    | with_reducible apply fr_modPlace
    | with_reducible apply fr_retryAllocations
    | with_reducible apply fr_tree
    | with_reducible apply fr_treeDown
    | (refine fr_of_fst (by with_reducible assumption) ?_)
    | with_reducible apply fr_if

theorem fr_placeState {mm : Nat} {s0 s : State} (hm : In 262272 mm) (h : Fr mm s0 s) (was : Nat) :
    Fr mm s0 (State.placeState s was) := by
  unfold State.placeState
  try dsimp only
  repeat'
    first
    | with_reducible assumption
    | (exact in_of hm rfl)
    | intro _
    | with_reducible apply fr_overCheck
    | with_reducible apply fr_raise
    | with_reducible apply fr_if

theorem fr_putVaultValue {mm : Nat} {s0 s : State} (hm : In 325607 mm) (h : Fr mm s0 s) (k : Nat) (v : Nat) :
    Fr mm s0 (State.putVaultValue s k v) := by
  unfold State.putVaultValue
  try dsimp only
  repeat'
    first
    | with_reducible assumption
    | (exact in_of hm rfl)
    | intro _
    | with_reducible apply fr_afterClean
    | with_reducible apply fr_ceilingCheck
    | with_reducible apply fr_modTwin
    | with_reducible apply fr_placeState
    | with_reducible apply fr_setSetting
    | with_reducible apply fr_if

theorem fr_sendVals {mm : Nat} {s0 s : State} (hm : In 308741 mm) (h : Fr mm s0 s) :
    Fr mm s0 (State.sendVals s) := by
  unfold State.sendVals
  try dsimp only
  repeat'
    first
    | with_reducible assumption
    | (exact in_of hm rfl)
    | intro _
    | with_reducible apply fr_modTwin
    | with_reducible apply fr_setSetting
    | with_reducible apply fr_tellTwin
    | (refine fr_of_fst (by with_reducible assumption) ?_)
    | with_reducible apply fr_foldl

theorem fr_takeVals {mm : Nat} {s0 s : State} (hm : In 516 mm) (h : Fr mm s0 s) :
    Fr mm s0 (State.takeVals s) := by
  unfold State.takeVals
  try dsimp only
  repeat'
    first
    | with_reducible assumption
    | (exact in_of hm rfl)
    | intro _
    | with_reducible apply fr_modTwin
    | with_reducible apply fr_setSetting
    | (refine fr_of_fst (by with_reducible assumption) ?_)
    | with_reducible apply fr_foldl

/-! ### Machine/RingOps.lean -/

theorem fr_ownReq {mm : Nat} {s0 s : State} (hm : In 325603 mm) (h : Fr mm s0 s) (e : EReq) :
    Fr mm s0 (State.ownReq s e) := by
  unfold State.ownReq
  try dsimp only
  repeat'
    first
    | with_reducible assumption
    | (exact in_of hm rfl)
    | intro _
    | with_reducible apply fr_modHost
    | with_reducible apply fr_startReq

theorem fr_volWrite {mm : Nat} {s0 s : State} (hm : In 325603 mm) (h : Fr mm s0 s) (port : Nat) (sess : Nat) (hpa : Nat) (b : Bytes) :
    Fr mm s0 (State.volWrite s port sess hpa b) := by
  unfold State.volWrite
  try dsimp only
  repeat'
    first
    | with_reducible assumption
    | (exact in_of hm rfl)
    | intro _
    | with_reducible apply fr_ownReq
    | (refine fr_of_fst (by with_reducible assumption) ?_)
    | with_reducible apply fr_foldl

theorem fr_modRing {mm : Nat} {s0 s : State} (hm : In 64 mm) (h : Fr mm s0 s) (r : Nat) (f : Ring → Ring) :
    Fr mm s0 (State.modRing s r f) := by
  unfold State.modRing
  try dsimp only
  repeat'
    first
    | with_reducible assumption
    | (exact in_of hm rfl)
    | intro _
    | with_reducible apply fr_modRings

theorem fr_publish {mm : Nat} {s0 s : State} (hm : In 325603 mm) (h : Fr mm s0 s) (n : Nat) :
    Fr mm s0 (State.publish s n) := by
  unfold State.publish
  try dsimp only
  repeat'
    first
    | with_reducible assumption
    | (exact in_of hm rfl)
    | intro _
    | with_reducible apply fr_volWrite
    | with_reducible apply fr_if

theorem fr_signal {mm : Nat} {s0 s : State} (hm : In 97 mm) (h : Fr mm s0 s) (n : Nat) :
    Fr mm s0 (State.signal s n) := by
  unfold State.signal
  try dsimp only
  repeat'
    first
    | with_reducible assumption
    | (exact in_of hm rfl)
    | intro _
    | with_reducible apply fr_modRing
    | with_reducible apply fr_msix
    | with_reducible apply fr_if

theorem fr_dropFetch {mm : Nat} {s0 s : State} (hm : In 64 mm) (h : Fr mm s0 s) (n : Nat) :
    Fr mm s0 (State.dropFetch s n) := by
  unfold State.dropFetch
  try dsimp only
  repeat'
    first
    | with_reducible assumption
    | (exact in_of hm rfl)
    | intro _
    | with_reducible apply fr_modRing
    | with_reducible apply fr_modRings

theorem fr_haltWith {mm : Nat} {s0 s : State} (hm : In 325603 mm) (h : Fr mm s0 s) (n : Nat) (status : Nat) (tell : Bool) :
    Fr mm s0 (State.haltWith s n status tell) := by
  unfold State.haltWith
  try dsimp only
  repeat'
    first
    | with_reducible assumption
    | (exact in_of hm rfl)
    | intro _
    | with_reducible apply fr_dropFetch
    | with_reducible apply fr_modRing
    | with_reducible apply fr_publish
    | with_reducible apply fr_raise
    | with_reducible apply fr_signal
    | with_reducible apply fr_if

theorem fr_haltRing {mm : Nat} {s0 s : State} (hm : In 325603 mm) (h : Fr mm s0 s) (n : Nat) (status : Nat) :
    Fr mm s0 (State.haltRing s n status) := by
  unfold State.haltRing
  try dsimp only
  repeat'
    first
    | with_reducible assumption
    | (exact in_of hm rfl)
    | intro _
    | with_reducible apply fr_haltWith

theorem fr_workReq {mm : Nat} {s0 s : State} (hm : In 325603 mm) (h : Fr mm s0 s) (w : Work) (e : EReq) :
    Fr mm s0 (State.workReq s w e) := by
  unfold State.workReq
  try dsimp only
  repeat'
    first
    | with_reducible assumption
    | (exact in_of hm rfl)
    | with_reducible apply fr_id
    | intro _
    | with_reducible apply fr_follow
    | with_reducible apply fr_modHost
    | with_reducible apply fr_modWork

theorem fr_workEnd {mm : Nat} {s0 s : State} (hm : In 64 mm) (h : Fr mm s0 s) (id : Nat) (status : Nat) (prog : Nat) (result : Nat) :
    Fr mm s0 (State.workEnd s id status prog result) := by
  unfold State.workEnd
  try dsimp only
  repeat'
    first
    | with_reducible assumption
    | (exact in_of hm rfl)
    | with_reducible apply fr_id
    | intro _
    | with_reducible apply fr_modWork

theorem fr_locate {mm : Nat} {s0 s : State} (hm : In 325603 mm) (h : Fr mm s0 s) (w : Work) (pa : Nat) (write : Bool) :
    Fr mm s0 (State.locate s w pa write) := by
  unfold State.locate
  try dsimp only
  repeat'
    first
    | with_reducible assumption
    | (exact in_of hm rfl)
    | intro _
    | with_reducible apply fr_workReq

theorem fr_readRange {mm : Nat} {s0 s : State} (hm : In 325603 mm) (h : Fr mm s0 s) (w : Work) (base : Nat) (pa : Nat) (len : Nat) :
    Fr mm s0 (State.readRange s w base pa len) := by
  unfold State.readRange
  try dsimp only
  repeat'
    first
    | with_reducible assumption
    | (exact in_of hm rfl)
    | intro _
    | with_reducible apply fr_workReq
    | with_reducible apply fr_foldl

theorem fr_issueLine {mm : Nat} {s0 s : State} (hm : In 325603 mm) (h : Fr mm s0 s) (w : Work) :
    Fr mm s0 (State.issueLine s w) := by
  unfold State.issueLine
  try dsimp only
  repeat'
    first
    | with_reducible assumption
    | (exact in_of hm rfl)
    | with_reducible apply fr_id
    | intro _
    | with_reducible apply fr_modWork
    | with_reducible apply fr_workReq
    | (refine fr_of_fst (by with_reducible assumption) ?_)
    | split

theorem fr_askFetch {mm : Nat} {s0 s : State} (hm : In 325603 mm) (h : Fr mm s0 s) (n : Nat) :
    Fr mm s0 (State.askFetch s n) := by
  unfold State.askFetch
  try dsimp only
  repeat'
    first
    | with_reducible assumption
    | (exact in_of hm rfl)
    | with_reducible apply fr_id
    | intro _
    | with_reducible apply fr_emit
    | with_reducible apply fr_modRing
    | with_reducible apply fr_newWork
    | with_reducible apply fr_readRange
    | (refine fr_of_fst (by with_reducible assumption) ?_)
    | with_reducible apply fr_if
    | with_reducible apply fr_ifn
    | split

theorem fr_volEntry {mm : Nat} {s0 s : State} (hm : In 325603 mm) (h : Fr mm s0 s) (n : Nat) (idx : Nat) (hpa : Nat) (e : Bytes) :
    Fr mm s0 (State.volEntry s n idx hpa e) := by
  unfold State.volEntry
  try dsimp only
  repeat'
    first
    | with_reducible assumption
    | (exact in_of hm rfl)
    | with_reducible apply fr_id
    | intro _
    | with_reducible apply fr_issueLine
    | with_reducible apply fr_newWork
    | (refine fr_of_fst (by with_reducible assumption) ?_)
    | split

theorem fr_writeCompletion {mm : Nat} {s0 s : State} (hm : In 325603 mm) (h : Fr mm s0 s) (n : Nat) (c : HeldCompletion) :
    Fr mm s0 (State.writeCompletion s n c) := by
  unfold State.writeCompletion
  try dsimp only
  repeat'
    first
    | with_reducible assumption
    | (exact in_of hm rfl)
    | intro _
    | with_reducible apply fr_emit
    | with_reducible apply fr_modRing
    | with_reducible apply fr_signal
    | with_reducible apply fr_volEntry
    | with_reducible apply fr_if

theorem fr_flushUpTo {mm : Nat} {s0 s : State} (hm : In 325603 mm) (h : Fr mm s0 s) (n : Nat) (fuel : Nat) :
    Fr mm s0 (State.flushUpTo s n fuel) := by
  induction fuel generalizing s n with
  | zero =>
    unfold State.flushUpTo
    try dsimp only
    repeat'
      first
      | with_reducible assumption
  | succ fuel ih =>
    unfold State.flushUpTo
    try dsimp only
    repeat'
      first
      | with_reducible assumption
      | with_reducible apply ih
      | (exact in_of hm rfl)
      | intro _
      | with_reducible apply fr_modRing
      | with_reducible apply fr_writeCompletion
      | with_reducible apply fr_if
      | with_reducible apply fr_ifn
      | split

theorem fr_flushHeld {mm : Nat} {s0 s : State} (hm : In 325603 mm) (h : Fr mm s0 s) (n : Nat) :
    Fr mm s0 (State.flushHeld s n) := by
  unfold State.flushHeld
  try dsimp only
  repeat'
    first
    | with_reducible assumption
    | (exact in_of hm rfl)
    | intro _
    | with_reducible apply fr_flushUpTo

theorem fr_freeRing {mm : Nat} {s0 s : State} (hm : In 325603 mm) (h : Fr mm s0 s) (n : Nat) :
    Fr mm s0 (State.freeRing s n) := by
  unfold State.freeRing
  try dsimp only
  repeat'
    first
    | with_reducible assumption
    | (exact in_of hm rfl)
    | intro _
    | with_reducible apply fr_modRing
    | with_reducible apply fr_modRings
    | with_reducible apply fr_publish
    | with_reducible apply fr_if

theorem fr_ringComplete {mm : Nat} {s0 s : State} (hm : In 325603 mm) (h : Fr mm s0 s) (n : Nat) (idx : Nat) (b : Bytes) (status : Nat) (result : Nat) :
    Fr mm s0 (State.ringComplete s n idx b status result) := by
  unfold State.ringComplete
  try dsimp only
  repeat'
    first
    | with_reducible assumption
    | (exact in_of hm rfl)
    | intro _
    | with_reducible apply fr_flushHeld
    | with_reducible apply fr_freeRing
    | with_reducible apply fr_haltWith
    | with_reducible apply fr_modCipher
    | with_reducible apply fr_modRing
    | with_reducible apply fr_modRings
    | (refine fr_of_fst (by with_reducible assumption) ?_)
    | with_reducible apply fr_if

theorem fr_completeFailing {mm : Nat} {s0 s : State} (hm : In 325603 mm) (h : Fr mm s0 s) (n : Nat) (fuel : Nat) :
    Fr mm s0 (State.completeFailing s n fuel) := by
  induction fuel generalizing s n with
  | zero =>
    unfold State.completeFailing
    try dsimp only
    repeat'
      first
      | with_reducible assumption
  | succ fuel ih =>
    unfold State.completeFailing
    try dsimp only
    repeat'
      first
      | with_reducible assumption
      | with_reducible apply ih
      | (exact in_of hm rfl)
      | intro _
      | with_reducible apply fr_modRing
      | with_reducible apply fr_ringComplete
      | with_reducible apply fr_if
      | with_reducible apply fr_ifn
      | split

theorem fr_ringStep {mm : Nat} {s0 s : State} (hm : In 325603 mm) (h : Fr mm s0 s) (n : Nat) :
    Fr mm s0 (State.ringStep s n) := by
  unfold State.ringStep
  try dsimp only
  repeat'
    first
    | with_reducible assumption
    | (exact in_of hm rfl)
    | intro _
    | with_reducible apply fr_askFetch
    | with_reducible apply fr_completeFailing

theorem fr_startOp {mm : Nat} {s0 s : State} (hm : In 325603 mm) (h : Fr mm s0 s) (n : Nat) (op : Nat) (f : State → Desc → State) (hf : ∀ (s : State) (x0 : Desc), Fr mm s0 s → Fr mm s0 (f s x0)) :
    Fr mm s0 (State.startOp s n op f) := by
  unfold State.startOp
  try dsimp only
  repeat'
    first
    | with_reducible assumption
    | (exact in_of hm rfl)
    | intro _
    | with_reducible apply fr_modRing
    | with_reducible apply fr_ringStep
    | with_reducible apply hf
    | with_reducible apply fr_if
    | with_reducible apply fr_ifn
    | split

theorem fr_modFlight {mm : Nat} {s0 s : State} (hm : In 64 mm) (h : Fr mm s0 s) (n : Nat) (idx : Nat) (f : Flight → Flight) :
    Fr mm s0 (State.modFlight s n idx f) := by
  unfold State.modFlight
  try dsimp only
  repeat'
    first
    | with_reducible assumption
    | (exact in_of hm rfl)
    | intro _
    | with_reducible apply fr_modRing

theorem fr_moverHalt {mm : Nat} {s0 s : State} (hm : In 262144 mm) (h : Fr mm s0 s) (w : Work) (pa : Nat) :
    Fr mm s0 (State.moverHalt s w pa) := by
  unfold State.moverHalt
  try dsimp only
  repeat'
    first
    | with_reducible assumption
    | (exact in_of hm rfl)
    | intro _
    | with_reducible apply fr_raise

theorem fr_makeSafe {mm : Nat} {s0 s : State} (hm : In 308577 mm) (h : Fr mm s0 s) (w : Work) (slot : Nat) (off : Nat) (len : Nat) :
    Fr mm s0 (State.makeSafe s w slot off len) := by
  unfold State.makeSafe
  try dsimp only
  repeat'
    first
    | with_reducible assumption
    | (exact in_of hm rfl)
    | with_reducible apply fr_id
    | intro _
    | with_reducible apply fr_modPersist
    | with_reducible apply fr_modWork
    | with_reducible apply fr_pumpUrgent
    | (refine fr_of_fst (by with_reducible assumption) ?_)
    | with_reducible apply fr_if
    | with_reducible apply fr_ifn
    | with_reducible apply fr_foldl
    | with_reducible apply fr_foldl_fst
    | split

theorem fr_writeRange {mm : Nat} {s0 s : State} (hm : In 308577 mm) (h : Fr mm s0 s) (w : Work) (pa : Nat) (b : List (Byte × Bool)) :
    Fr mm s0 (State.writeRange s w pa b) := by
  unfold State.writeRange
  try dsimp only
  repeat'
    first
    | with_reducible assumption
    | (exact in_of hm rfl)
    | with_reducible apply fr_id
    | intro _
    | with_reducible apply fr_makeSafe
    | with_reducible apply fr_modWork
    | (refine fr_of_fst (by with_reducible assumption) ?_)
    | with_reducible apply fr_if
    | with_reducible apply fr_ifn
    | split

theorem fr_askMover {mm : Nat} {s0 s : State} (hm : In 274432 mm) (h : Fr mm s0 s) (w : Work) :
    Fr mm s0 (State.askMover s w) := by
  unfold State.askMover
  try dsimp only
  repeat'
    first
    | with_reducible assumption
    | (exact in_of hm rfl)
    | with_reducible apply fr_id
    | intro _
    | with_reducible apply fr_ask
    | with_reducible apply fr_if

theorem fr_workInputs {mm : Nat} {s0 s : State} (hm : In 325603 mm) (h : Fr mm s0 s) (w : Work) :
    Fr mm s0 (State.workInputs s w) := by
  unfold State.workInputs
  try dsimp only
  repeat'
    first
    | with_reducible assumption
    | (exact in_of hm rfl)
    | with_reducible apply fr_id
    | intro _
    | with_reducible apply fr_askMover
    | with_reducible apply fr_modWork
    | with_reducible apply fr_readRange
    | with_reducible apply fr_if

theorem fr_workOutputs {mm : Nat} {s0 s : State} (hm : In 325603 mm) (h : Fr mm s0 s) (w : Work) :
    Fr mm s0 (State.workOutputs s w) := by
  unfold State.workOutputs
  try dsimp only
  repeat'
    first
    | with_reducible assumption
    | (exact in_of hm rfl)
    | with_reducible apply fr_id
    | intro _
    | with_reducible apply fr_emit
    | with_reducible apply fr_makeSafe
    | with_reducible apply fr_modWork
    | with_reducible apply fr_moverHalt
    | with_reducible apply fr_placeHint
    | with_reducible apply fr_workEnd
    | with_reducible apply fr_writeRange
    | (refine fr_of_fst (by with_reducible assumption) ?_)
    | with_reducible apply fr_if
    | with_reducible apply fr_ifn
    | split

theorem fr_workElement {mm : Nat} {s0 s : State} (hm : In 325603 mm) (h : Fr mm s0 s) (w : Work) :
    Fr mm s0 (State.workElement s w) := by
  unfold State.workElement
  try dsimp only
  repeat'
    first
    | with_reducible assumption
    | (exact in_of hm rfl)
    | intro _
    | with_reducible apply fr_workReq

theorem fr_elementDone {mm : Nat} {s0 s : State} (hm : In 325603 mm) (h : Fr mm s0 s) (w : Work) :
    Fr mm s0 (State.elementDone s w) := by
  unfold State.elementDone
  try dsimp only
  repeat'
    first
    | with_reducible assumption
    | (exact in_of hm rfl)
    | with_reducible apply fr_id
    | intro _
    | with_reducible apply fr_modWork
    | with_reducible apply fr_workElement
    | with_reducible apply fr_workEnd
    | (refine fr_of_fst (by with_reducible assumption) ?_)
    | with_reducible apply fr_if

theorem fr_writesDone {mm : Nat} {s0 s : State} (hm : In 64 mm) (h : Fr mm s0 s) (w : Work) :
    Fr mm s0 (State.writesDone s w) := by
  unfold State.writesDone
  try dsimp only
  repeat'
    first
    | with_reducible assumption
    | (exact in_of hm rfl)
    | with_reducible apply fr_id
    | intro _
    | with_reducible apply fr_modWork
    | with_reducible apply fr_workEnd
    | (refine fr_of_fst (by with_reducible assumption) ?_)
    | with_reducible apply fr_if
    | with_reducible apply fr_ifn
    | split

theorem fr_workStep {mm : Nat} {s0 s : State} (hm : In 325603 mm) (h : Fr mm s0 s) (id : Nat) (fuel : Nat) :
    Fr mm s0 (State.workStep s id fuel) := by
  induction fuel generalizing s id with
  | zero =>
    unfold State.workStep
    try dsimp only
    repeat'
      first
      | with_reducible assumption
  | succ fuel ih =>
    unfold State.workStep
    try dsimp only
    repeat'
      first
      | with_reducible assumption
      | with_reducible apply ih
      | (exact in_of hm rfl)
      | with_reducible apply fr_id
      | intro _
      | with_reducible apply fr_elementDone
      | with_reducible apply fr_issueLine
      | with_reducible apply fr_modWork
      | with_reducible apply fr_workEnd
      | with_reducible apply fr_workInputs
      | with_reducible apply fr_workOutputs
      | with_reducible apply fr_writesDone
      | (refine fr_of_fst (by with_reducible assumption) ?_)
      | with_reducible apply fr_if
      | with_reducible apply fr_ifn
      | split

theorem fr_workAnswer {mm : Nat} {s0 s : State} (hm : In 308289 mm) (h : Fr mm s0 s) (w : Work) :
    Fr mm s0 (State.workAnswer s w) := by
  unfold State.workAnswer
  try dsimp only
  repeat'
    first
    | with_reducible assumption
    | (exact in_of hm rfl)
    | with_reducible apply fr_id
    | intro _
    | with_reducible apply fr_modRings
    | with_reducible apply fr_send
    | with_reducible apply fr_if
    | with_reducible apply fr_ifn
    | split

theorem fr_stepWorks {mm : Nat} {s0 s : State} (hm : In 325603 mm) (h : Fr mm s0 s) :
    Fr mm s0 (State.stepWorks s) := by
  unfold State.stepWorks
  try dsimp only
  repeat'
    first
    | with_reducible assumption
    | (exact in_of hm rfl)
    | with_reducible apply fr_id
    | intro _
    | with_reducible apply fr_workAnswer
    | with_reducible apply fr_workStep
    | (refine fr_of_fst (by with_reducible assumption) ?_)
    | with_reducible apply fr_foldl

theorem fr_flightEnds {mm : Nat} {s0 s : State} (hm : In 325603 mm) (h : Fr mm s0 s) (n : Nat) (f : Flight) (status : Nat) (result : Nat) :
    Fr mm s0 (State.flightEnds s n f status result) := by
  unfold State.flightEnds
  try dsimp only
  repeat'
    first
    | with_reducible assumption
    | (exact in_of hm rfl)
    | with_reducible apply fr_id
    | intro _
    | with_reducible apply fr_emit
    | with_reducible apply fr_modFlight
    | with_reducible apply fr_newWork
    | with_reducible apply fr_ringComplete
    | (refine fr_of_fst (by with_reducible assumption) ?_)
    | with_reducible apply fr_if
    | with_reducible apply fr_ifn
    | with_reducible apply fr_foldl

theorem fr_sendPlace {mm : Nat} {s0 s : State} (hm : In 308321 mm) (h : Fr mm s0 s) (w : Work) (key : Nat) :
    Fr mm s0 (State.sendPlace s w key) := by
  unfold State.sendPlace
  try dsimp only
  repeat'
    first
    | with_reducible assumption
    | (exact in_of hm rfl)
    | with_reducible apply fr_id
    | intro _
    | with_reducible apply fr_modHost
    | with_reducible apply fr_modWork
    | with_reducible apply fr_send

theorem fr_nextPiece {mm : Nat} {s0 s : State} (hm : In 325603 mm) (h : Fr mm s0 s) (n : Nat) (idx : Nat) :
    Fr mm s0 (State.nextPiece s n idx) := by
  unfold State.nextPiece
  try dsimp only
  repeat'
    first
    | with_reducible assumption
    | (exact in_of hm rfl)
    | with_reducible apply fr_id
    | intro _
    | with_reducible apply fr_emit
    | with_reducible apply fr_flightEnds
    | with_reducible apply fr_locate
    | with_reducible apply fr_modFlight
    | with_reducible apply fr_modWork
    | with_reducible apply fr_newWork
    | with_reducible apply fr_ringComplete
    | with_reducible apply fr_sendPlace
    | with_reducible apply fr_stepWorks
    | (refine fr_of_fst (by with_reducible assumption) ?_)
    | with_reducible apply fr_if
    | with_reducible apply fr_ifn
    | split

theorem fr_pieceDone {mm : Nat} {s0 s : State} (hm : In 325603 mm) (h : Fr mm s0 s) (n : Nat) (idx : Nat) :
    Fr mm s0 (State.pieceDone s n idx) := by
  unfold State.pieceDone
  try dsimp only
  repeat'
    first
    | with_reducible assumption
    | (exact in_of hm rfl)
    | with_reducible apply fr_id
    | intro _
    | with_reducible apply fr_modFlight
    | with_reducible apply fr_modRings
    | with_reducible apply fr_nextPiece
    | (refine fr_of_fst (by with_reducible assumption) ?_)
    | with_reducible apply fr_if
    | with_reducible apply fr_ifn
    | split

theorem fr_findHomes {mm : Nat} {s0 s : State} (hm : In 325603 mm) (h : Fr mm s0 s) (n : Nat) (idx : Nat) (f : Flight) (buf : Bytes) (keys : List Nat) :
    Fr mm s0 (State.findHomes s n idx f buf keys) := by
  unfold State.findHomes
  try dsimp only
  repeat'
    first
    | with_reducible assumption
    | (exact in_of hm rfl)
    | with_reducible apply fr_id
    | intro _
    | with_reducible apply fr_modFlight
    | with_reducible apply fr_newWork
    | with_reducible apply fr_workReq
    | (refine fr_of_fst (by with_reducible assumption) ?_)
    | with_reducible apply fr_foldl
    | with_reducible apply fr_foldl_fst
    | split

theorem fr_batchIn {mm : Nat} {s0 s : State} (hm : In 325603 mm) (h : Fr mm s0 s) (n : Nat) (idx : Nat) (b : Bytes) :
    Fr mm s0 (State.batchIn s n idx b) := by
  unfold State.batchIn
  try dsimp only
  repeat'
    first
    | with_reducible assumption
    | (exact in_of hm rfl)
    | intro _
    | with_reducible apply fr_findHomes
    | with_reducible apply fr_ringComplete
    | with_reducible apply fr_if
    | with_reducible apply fr_ifn
    | split

theorem fr_askBatch {mm : Nat} {s0 s : State} (hm : In 65 mm) (h : Fr mm s0 s) (n : Nat) (idx : Nat) :
    Fr mm s0 (State.askBatch s n idx) := by
  unfold State.askBatch
  try dsimp only
  repeat'
    first
    | with_reducible assumption
    | (exact in_of hm rfl)
    | intro _
    | with_reducible apply fr_emit
    | with_reducible apply fr_modFlight
    | with_reducible apply fr_if
    | with_reducible apply fr_ifn
    | split

theorem fr_startFlight {mm : Nat} {s0 s : State} (hm : In 325603 mm) (h : Fr mm s0 s) (n : Nat) (d : Desc) :
    Fr mm s0 (State.startFlight s n d) := by
  unfold State.startFlight
  try dsimp only
  repeat'
    first
    | with_reducible assumption
    | (exact in_of hm rfl)
    | with_reducible apply fr_id
    | intro _
    | with_reducible apply fr_askBatch
    | with_reducible apply fr_modFlight
    | with_reducible apply fr_modRing
    | with_reducible apply fr_newWork
    | with_reducible apply fr_nextPiece
    | with_reducible apply fr_stepWorks
    | (refine fr_of_fst (by with_reducible assumption) ?_)
    | with_reducible apply fr_if

theorem fr_finishWork {mm : Nat} {s0 s : State} (hm : In 325603 mm) (h : Fr mm s0 s) (w : Work) :
    Fr mm s0 (State.finishWork s w) := by
  unfold State.finishWork
  try dsimp only
  repeat'
    first
    | with_reducible assumption
    | (exact in_of hm rfl)
    | with_reducible apply fr_id
    | intro _
    | with_reducible apply fr_flushHeld
    | with_reducible apply fr_freeRing
    | with_reducible apply fr_haltRing
    | with_reducible apply fr_modFlight
    | with_reducible apply fr_modRings
    | with_reducible apply fr_nextPiece
    | with_reducible apply fr_ringComplete
    | (refine fr_of_fst (by with_reducible assumption) ?_)
    | with_reducible apply fr_if
    | with_reducible apply fr_ifn
    | split

theorem fr_advanceWorks {mm : Nat} {s0 s : State} (hm : In 325603 mm) (h : Fr mm s0 s) :
    Fr mm s0 (State.advanceWorks s) := by
  unfold State.advanceWorks
  try dsimp only
  repeat'
    first
    | with_reducible assumption
    | (exact in_of hm rfl)
    | intro _
    | with_reducible apply fr_finishWork
    | with_reducible apply fr_stepWorks
    | with_reducible apply fr_foldl

theorem fr_ringsPortLost {mm : Nat} {s0 s : State} (hm : In 325603 mm) (h : Fr mm s0 s) (p : Nat) :
    Fr mm s0 (State.ringsPortLost s p) := by
  unfold State.ringsPortLost
  try dsimp only
  repeat'
    first
    | with_reducible assumption
    | (exact in_of hm rfl)
    | intro _
    | with_reducible apply fr_haltRing
    | with_reducible apply fr_foldl

theorem fr_answered {mm : Nat} {s0 s : State} (hm : In 327651 mm) (h : Fr mm s0 s) (op : Nat) (st : Nat) :
    Fr mm s0 (State.answered s op st) := by
  unfold State.answered
  try dsimp only
  repeat'
    first
    | with_reducible assumption
    | (exact in_of hm rfl)
    | intro _
    | with_reducible apply fr_modPool
    | with_reducible apply fr_ringComplete
    | with_reducible apply fr_ringStep
    | (refine fr_of_fst (by with_reducible assumption) ?_)
    | split

theorem fr_settle {mm : Nat} {s0 s : State} (hm : In 327651 mm) (h : Fr mm s0 s) (fuel : Nat) :
    Fr mm s0 (State.settle s fuel) := by
  induction fuel generalizing s  with
  | zero =>
    unfold State.settle
    try dsimp only
    repeat'
      first
      | with_reducible assumption
  | succ fuel ih =>
    unfold State.settle
    try dsimp only
    repeat'
      first
      | with_reducible assumption
      | with_reducible apply ih
      | (exact in_of hm rfl)
      | intro _
      | with_reducible apply fr_answered
      | with_reducible apply fr_modPool
      | (refine fr_of_fst (by with_reducible assumption) ?_)
      | split

theorem fr_settled {mm : Nat} {s0 s : State} (hm : In 327651 mm) (h : Fr mm s0 s) :
    Fr mm s0 (State.settled s) := by
  unfold State.settled
  try dsimp only
  repeat'
    first
    | with_reducible assumption
    | (exact in_of hm rfl)
    | intro _
    | with_reducible apply fr_settle

theorem fr_kickFlights {mm : Nat} {s0 s : State} (hm : In 325603 mm) (h : Fr mm s0 s) :
    Fr mm s0 (State.kickFlights s) := by
  unfold State.kickFlights
  try dsimp only
  repeat'
    first
    | with_reducible assumption
    | (exact in_of hm rfl)
    | intro _
    | with_reducible apply fr_askBatch
    | with_reducible apply fr_nextPiece
    | (refine fr_of_fst (by with_reducible assumption) ?_)
    | with_reducible apply fr_if
    | with_reducible apply fr_ifn
    | with_reducible apply fr_foldl

/-! ### Machine/Ports.lean -/

theorem fr_modPort {mm : Nat} {s0 s : State} (hm : In 32 mm) (h : Fr mm s0 s) (p : Nat) (f : HPort → HPort) :
    Fr mm s0 (State.modPort s p f) := by
  unfold State.modPort
  try dsimp only
  repeat'
    first
    | with_reducible assumption
    | (exact in_of hm rfl)
    | intro _
    | with_reducible apply fr_modHost

theorem fr_hostPortEvent {mm : Nat} {s0 s : State} (hm : In 262144 mm) (h : Fr mm s0 s) (p : Nat) (cause : Nat) :
    Fr mm s0 (State.hostPortEvent s p cause) := by
  unfold State.hostPortEvent
  try dsimp only
  repeat'
    first
    | with_reducible assumption
    | (exact in_of hm rfl)
    | intro _
    | with_reducible apply fr_raise

theorem fr_portGone {mm : Nat} {s0 s : State} (hm : In 325603 mm) (h : Fr mm s0 s) (p : Nat) (link : Nat) :
    Fr mm s0 (State.portGone s p link) := by
  unfold State.portGone
  try dsimp only
  repeat'
    first
    | with_reducible assumption
    | (exact in_of hm rfl)
    | intro _
    | with_reducible apply fr_modHost
    | with_reducible apply fr_modPort
    | with_reducible apply fr_ringsPortLost

theorem fr_portEvent {mm : Nat} {s0 s : State} (hm : In 262144 mm) (h : Fr mm s0 s) (p : Nat) (cause : Nat) :
    Fr mm s0 (State.portEvent s p cause) := by
  unfold State.portEvent
  try dsimp only
  repeat'
    first
    | with_reducible assumption
    | (exact in_of hm rfl)
    | intro _
    | with_reducible apply fr_raise

theorem fr_placePtp {mm : Nat} {s0 s : State} (hm : In 1024 mm) (h : Fr mm s0 s) :
    Fr mm s0 (State.placePtp s) := by
  unfold State.placePtp
  try dsimp only
  repeat'
    first
    | with_reducible assumption
    | (exact in_of hm rfl)
    | intro _
    | with_reducible apply fr_modHinge

theorem fr_ptpEvent {mm : Nat} {s0 s : State} (hm : In 262144 mm) (h : Fr mm s0 s) (before : Hinge) :
    Fr mm s0 (State.ptpEvent s before) := by
  unfold State.ptpEvent
  try dsimp only
  repeat'
    first
    | with_reducible assumption
    | (exact in_of hm rfl)
    | intro _
    | with_reducible apply fr_raise
    | with_reducible apply fr_if

theorem fr_ptpPortLost {mm : Nat} {s0 s : State} (hm : In 263168 mm) (h : Fr mm s0 s) (p : Nat) :
    Fr mm s0 (State.ptpPortLost s p) := by
  unfold State.ptpPortLost
  try dsimp only
  repeat'
    first
    | with_reducible assumption
    | (exact in_of hm rfl)
    | intro _
    | with_reducible apply fr_modHinge
    | with_reducible apply fr_ptpEvent
    | with_reducible apply fr_if

theorem fr_portSignal {mm : Nat} {s0 s : State} (hm : In 512 mm) (h : Fr mm s0 s) (p : Nat) (on : Bool) :
    Fr mm s0 (State.portSignal s p on) := by
  unfold State.portSignal
  try dsimp only
  repeat'
    first
    | with_reducible assumption
    | (exact in_of hm rfl)
    | intro _
    | with_reducible apply fr_modTwin
    | with_reducible apply fr_if

theorem fr_portLost {mm : Nat} {s0 s : State} (hm : In 308737 mm) (h : Fr mm s0 s) (p : Nat) (link : Nat) :
    Fr mm s0 (State.portLost s p link) := by
  unfold State.portLost
  try dsimp only
  repeat'
    first
    | with_reducible assumption
    | (exact in_of hm rfl)
    | intro _
    | with_reducible apply fr_connFails
    | with_reducible apply fr_modXport
    | with_reducible apply fr_moveConn
    | with_reducible apply fr_placePtp
    | with_reducible apply fr_portSignal
    | with_reducible apply fr_ptpPortLost
    | with_reducible apply fr_if
    | with_reducible apply fr_ifn
    | with_reducible apply fr_foldl

/-! ### Machine/CipherOps.lean -/

theorem fr_modKey {mm : Nat} {s0 s : State} (hm : In 32768 mm) (h : Fr mm s0 s) (n : Nat) (f : KeySlot → KeySlot) :
    Fr mm s0 (State.modKey s n f) := by
  unfold State.modKey
  try dsimp only
  repeat'
    first
    | with_reducible assumption
    | (exact in_of hm rfl)
    | intro _
    | with_reducible apply fr_modCipher

theorem fr_modCtx {mm : Nat} {s0 s : State} (hm : In 32768 mm) (h : Fr mm s0 s) (k : Nat) (f : CCtx → CCtx) :
    Fr mm s0 (State.modCtx s k f) := by
  unfold State.modCtx
  try dsimp only
  repeat'
    first
    | with_reducible assumption
    | (exact in_of hm rfl)
    | intro _
    | with_reducible apply fr_modCipher

theorem fr_startCipher {mm : Nat} {s0 s : State} (hm : In 325603 mm) (h : Fr mm s0 s) (n : Nat) (op : Nat) :
    Fr mm s0 (State.startCipher s n op) := by
  unfold State.startCipher
  try dsimp only
  repeat'
    first
    | with_reducible assumption
    | (exact in_of hm rfl)
    | intro _
    | with_reducible apply fr_ask
    | with_reducible apply fr_count
    | with_reducible apply fr_modCipher
    | with_reducible apply fr_modRing
    | with_reducible apply fr_ringComplete
    | with_reducible apply fr_ringStep
    | with_reducible apply fr_startFlight
    | (refine fr_of_fst (by with_reducible assumption) ?_)
    | with_reducible apply fr_if
    | with_reducible apply fr_ifn
    | split

theorem fr_cipherWrite {mm : Nat} {s0 s : State} (hm : In 325603 mm) (h : Fr mm s0 s) (n : Nat) (idx : Nat) (out : Bytes) (status : Nat) (result : Nat) :
    Fr mm s0 (State.cipherWrite s n idx out status result) := by
  unfold State.cipherWrite
  try dsimp only
  repeat'
    first
    | with_reducible assumption
    | (exact in_of hm rfl)
    | intro _
    | with_reducible apply fr_modFlight
    | with_reducible apply fr_nextPiece

theorem fr_cipherStop {mm : Nat} {s0 s : State} (hm : In 325603 mm) (h : Fr mm s0 s) (k : Nat) (c : CCtx) (f : Flight) (status : Nat) (at_ : Nat) (result : Nat) :
    Fr mm s0 (State.cipherStop s k c f status at_ result) := by
  unfold State.cipherStop
  try dsimp only
  repeat'
    first
    | with_reducible assumption
    | (exact in_of hm rfl)
    | with_reducible apply frOut_fault
    | intro _
    | with_reducible apply fr_cipherWrite
    | with_reducible apply fr_modCtx

theorem fr_cipherFinish {mm : Nat} {s0 s : State} (hm : In 325603 mm) (h : Fr mm s0 s) (k : Nat) (c : CCtx) (f : Flight) :
    Fr mm s0 (State.cipherFinish s k c f) := by
  unfold State.cipherFinish
  try dsimp only
  repeat'
    first
    | with_reducible assumption
    | (exact in_of hm rfl)
    | intro _
    | with_reducible apply fr_cipherWrite
    | with_reducible apply fr_count
    | with_reducible apply fr_modCtx
    | with_reducible apply fr_raise
    | with_reducible apply fr_if

theorem fr_gathered {mm : Nat} {s0 s : State} (hm : In 325603 mm) (h : Fr mm s0 s) (n : Nat) (idx : Nat) (f : Flight) (w : Work) :
    Fr mm s0 (State.gathered s n idx f w) := by
  unfold State.gathered
  try dsimp only
  repeat'
    first
    | with_reducible assumption
    | (exact in_of hm rfl)
    | with_reducible apply fr_id
    | intro _
    | with_reducible apply fr_batchIn
    | with_reducible apply fr_modFlight
    | with_reducible apply fr_modRings
    | with_reducible apply fr_ringComplete
    | with_reducible apply fr_if
    | with_reducible apply fr_ifn
    | split

theorem fr_endUsers {mm : Nat} {s0 s : State} (hm : In 325603 mm) (h : Fr mm s0 s) (slot : Nat) :
    Fr mm s0 (State.endUsers s slot) := by
  unfold State.endUsers
  try dsimp only
  repeat'
    first
    | with_reducible assumption
    | (exact in_of hm rfl)
    | intro _
    | with_reducible apply fr_cipherStop
    | with_reducible apply fr_count
    | with_reducible apply fr_modCipher
    | with_reducible apply fr_ringComplete
    | (refine fr_of_fst (by with_reducible assumption) ?_)
    | with_reducible apply fr_if
    | with_reducible apply fr_ifn
    | with_reducible apply fr_foldl
    | with_reducible apply fr_foldl_fst
    | split

end Sys2Proof.Laws
end

