-- ==== Sys2Proof/Laws/FramePool.lean ====
section
/-! SUPPORT. Which parts of the device each operation may change (Laws/Frame.lean): the rings, placement, the strongbox and the pool. -/

set_option Elab.async false

namespace Sys2Proof.Laws

open Sys2Proof Sys2Proof.Machine

/-! ### Machine/Rings.lean -/

theorem fr_rung {mm : Nat} {s0 s : State} (hm : In 325603 mm) (h : Fr mm s0 s) (n : Nat) :
    Fr mm s0 (State.rung s n) := by
  unfold State.rung
  try dsimp only
  repeat'
    first
    | with_reducible assumption
    | (exact in_of hm rfl)
    | intro _
    | with_reducible apply fr_haltRing
    | with_reducible apply fr_ringStep
    | with_reducible apply fr_if

theorem fr_setTail {mm : Nat} {s0 s : State} (hm : In 325603 mm) (h : Fr mm s0 s) (n : Nat) (tail : Nat) :
    Fr mm s0 (State.setTail s n tail) := by
  unfold State.setTail
  try dsimp only
  repeat'
    first
    | with_reducible assumption
    | (exact in_of hm rfl)
    | intro _
    | with_reducible apply fr_modRing
    | with_reducible apply fr_rung

theorem fr_setHead {mm : Nat} {s0 s : State} (hm : In 325603 mm) (h : Fr mm s0 s) (n : Nat) (head : Nat) :
    Fr mm s0 (State.setHead s n head) := by
  unfold State.setHead
  try dsimp only
  repeat'
    first
    | with_reducible assumption
    | (exact in_of hm rfl)
    | intro _
    | with_reducible apply fr_modRing
    | with_reducible apply fr_rung

theorem fr_restartRing {mm : Nat} {s0 s : State} (hm : In 325603 mm) (h : Fr mm s0 s) (n : Nat) :
    Fr mm s0 (State.restartRing s n) := by
  unfold State.restartRing
  try dsimp only
  repeat'
    first
    | with_reducible assumption
    | (exact in_of hm rfl)
    | intro _
    | with_reducible apply fr_modRing
    | with_reducible apply fr_publish
    | with_reducible apply fr_rung
    | with_reducible apply fr_if

theorem fr_strayBell {mm : Nat} {s0 s : State} (hm : In 262144 mm) (h : Fr mm s0 s) (p : Nat) (ld : Nat) (n : Nat) :
    Fr mm s0 (State.strayBell s p ld n) := by
  unfold State.strayBell
  try dsimp only
  repeat'
    first
    | with_reducible assumption
    | (exact in_of hm rfl)
    | intro _
    | with_reducible apply fr_raise

theorem fr_execDoorbellTailWrite {mm : Nat} {s0 s : State} (hm : In 325603 mm) (h : Fr mm s0 s) (p : Nat) (ld : Nat) (ring : Nat) (tail : Nat) (size : Nat) (head : Option Nat) :
    FrOut mm s0 (execDoorbellTailWrite p ld ring tail size head s) := by
  unfold execDoorbellTailWrite
  try dsimp only
  repeat'
    first
    | with_reducible assumption
    | (exact in_of hm rfl)
    | with_reducible apply frOut_next
    | intro _
    | with_reducible apply fr_modRing
    | with_reducible apply fr_setTail
    | with_reducible apply fr_strayBell
    | with_reducible apply fr_done
    | with_reducible apply fr_if
    | with_reducible apply fr_ifn
    | split

theorem fr_execCompletionHeadWrite {mm : Nat} {s0 s : State} (hm : In 325603 mm) (h : Fr mm s0 s) (p : Nat) (ld : Nat) (ring : Nat) (head : Nat) (size : Nat) :
    FrOut mm s0 (execCompletionHeadWrite p ld ring head size s) := by
  unfold execCompletionHeadWrite
  try dsimp only
  repeat'
    first
    | with_reducible assumption
    | (exact in_of hm rfl)
    | with_reducible apply frOut_next
    | intro _
    | with_reducible apply fr_setHead
    | with_reducible apply fr_strayBell
    | with_reducible apply fr_done
    | with_reducible apply fr_if

theorem fr_execDoorbellRestart {mm : Nat} {s0 s : State} (hm : In 325603 mm) (h : Fr mm s0 s) (p : Nat) (ld : Nat) (ring : Nat) :
    FrOut mm s0 (execDoorbellRestart p ld ring s) := by
  unfold execDoorbellRestart
  try dsimp only
  repeat'
    first
    | with_reducible assumption
    | (exact in_of hm rfl)
    | with_reducible apply frOut_next
    | intro _
    | with_reducible apply fr_restartRing
    | with_reducible apply fr_strayBell
    | with_reducible apply fr_done
    | with_reducible apply fr_if

theorem fr_lineRings {mm : Nat} {s0 s : State} (hm : In 325603 mm) (h : Fr mm s0 s) (pbr : Nat) (hpa : Nat) (line : Line) (be : BitVec 64) :
    Fr mm s0 (State.lineRings s pbr hpa line be) := by
  unfold State.lineRings
  try dsimp only
  repeat'
    first
    | with_reducible assumption
    | (exact in_of hm rfl)
    | intro _
    | with_reducible apply fr_modRing
    | with_reducible apply fr_restartRing
    | with_reducible apply fr_rung
    | with_reducible apply fr_setTail
    | with_reducible apply fr_if
    | with_reducible apply fr_ifn
    | split

theorem fr_execDoorbellLineWrite {mm : Nat} {s0 s : State} (hm : In 325603 mm) (h : Fr mm s0 s) (pbr : Nat) (hpa : Nat) (line : Line) (be : BitVec 64) :
    FrOut mm s0 (execDoorbellLineWrite pbr hpa line be s) := by
  unfold execDoorbellLineWrite
  try dsimp only
  repeat'
    first
    | with_reducible assumption
    | (exact in_of hm rfl)
    | with_reducible apply frOut_next
    | intro _
    | with_reducible apply fr_lineRings
    | with_reducible apply fr_ownReq
    | with_reducible apply fr_done
    | split

theorem fr_registerRing {mm : Nat} {s0 s : State} (hm : In 325603 mm) (h : Fr mm s0 s) (rq : Req) (b : Bytes) :
    Fr mm s0 (State.registerRing s rq b).1 := by
  unfold State.registerRing
  try dsimp only
  repeat'
    first
    | with_reducible assumption
    | (exact in_of hm rfl)
    | intro _
    | with_reducible apply fr_modRings
    | with_reducible apply fr_publish
    | (refine fr_of_fst (by with_reducible assumption) ?_)
    | with_reducible apply fr_if
    | with_reducible apply fr_ifn
    | split

theorem fr_execRingRegister {mm : Nat} {s0 s : State} (hm : In 325611 mm) (h : Fr mm s0 s) (rq : Req) (tag : Nat) (block : Bytes) :
    FrOut mm s0 (execRingRegister rq tag block s) := by
  unfold execRingRegister
  try dsimp only
  repeat'
    first
    | with_reducible assumption
    | (exact in_of hm rfl)
    | with_reducible apply frOut_next
    | intro _
    | with_reducible apply fr_registerRing
    | with_reducible apply fr_writeObj

theorem fr_unregisterRing {mm : Nat} {s0 s : State} (hm : In 325603 mm) (h : Fr mm s0 s) (n : Nat) :
    Fr mm s0 (State.unregisterRing s n) := by
  unfold State.unregisterRing
  try dsimp only
  repeat'
    first
    | with_reducible assumption
    | (exact in_of hm rfl)
    | intro _
    | with_reducible apply fr_dropFetch
    | with_reducible apply fr_freeRing
    | with_reducible apply fr_modRing
    | with_reducible apply fr_nextPiece
    | with_reducible apply fr_publish
    | with_reducible apply fr_if
    | with_reducible apply fr_ifn
    | with_reducible apply fr_foldl

theorem fr_execRingUnregister {mm : Nat} {s0 s : State} (hm : In 325611 mm) (h : Fr mm s0 s) (rq : Req) (tag : Nat) (ring : Nat) :
    FrOut mm s0 (execRingUnregister rq tag ring s) := by
  unfold execRingUnregister
  try dsimp only
  repeat'
    first
    | with_reducible assumption
    | (exact in_of hm rfl)
    | with_reducible apply frOut_next
    | intro _
    | with_reducible apply fr_unregisterRing
    | with_reducible apply fr_writeNum
    | with_reducible apply fr_done
    | with_reducible apply fr_if
    | with_reducible apply fr_ifn
    | split

theorem fr_execRingRestart {mm : Nat} {s0 s : State} (hm : In 325611 mm) (h : Fr mm s0 s) (rq : Req) (tag : Nat) (ring : Nat) :
    FrOut mm s0 (execRingRestart rq tag ring s) := by
  unfold execRingRestart
  try dsimp only
  repeat'
    first
    | with_reducible assumption
    | (exact in_of hm rfl)
    | with_reducible apply frOut_next
    | intro _
    | with_reducible apply fr_restartRing
    | with_reducible apply fr_writeNum
    | with_reducible apply fr_done
    | with_reducible apply fr_if
    | with_reducible apply fr_ifn
    | split

theorem fr_fetchedDesc {mm : Nat} {s0 s : State} (hm : In 325603 mm) (h : Fr mm s0 s) (n : Nat) (bytes : Bytes) (poisoned : Bool) :
    Fr mm s0 (State.fetchedDesc s n bytes poisoned) := by
  unfold State.fetchedDesc
  try dsimp only
  repeat'
    first
    | with_reducible assumption
    | (exact in_of hm rfl)
    | intro _
    | with_reducible apply fr_modRing
    | with_reducible apply fr_publish
    | with_reducible apply fr_raise
    | with_reducible apply fr_ringStep
    | with_reducible apply fr_if

theorem fr_fetchedVol {mm : Nat} {s0 s : State} (hm : In 325603 mm) (h : Fr mm s0 s) (n : Nat) :
    Fr mm s0 (State.fetchedVol s n) := by
  unfold State.fetchedVol
  try dsimp only
  repeat'
    first
    | with_reducible assumption
    | (exact in_of hm rfl)
    | with_reducible apply fr_id
    | intro _
    | with_reducible apply fr_fetchedDesc
    | with_reducible apply fr_haltRing
    | with_reducible apply fr_modRings
    | with_reducible apply fr_stepWorks
    | with_reducible apply fr_if
    | with_reducible apply fr_ifn
    | split

theorem fr_execDescriptorFetch {mm : Nat} {s0 s : State} (hm : In 325603 mm) (h : Fr mm s0 s) (ring : Nat) (bytes : Bytes) (poisoned : Bool) :
    FrOut mm s0 (execDescriptorFetch ring bytes poisoned s) := by
  unfold execDescriptorFetch
  try dsimp only
  repeat'
    first
    | with_reducible assumption
    | (exact in_of hm rfl)
    | with_reducible apply frOut_next
    | intro _
    | with_reducible apply fr_advanceWorks
    | with_reducible apply fr_fetchedDesc
    | with_reducible apply fr_fetchedVol
    | with_reducible apply fr_done
    | with_reducible apply fr_if

theorem fr_execCopy {mm : Nat} {s0 s : State} (hm : In 325603 mm) (h : Fr mm s0 s) (ring : Nat) :
    FrOut mm s0 (execCopy ring s) := by
  unfold execCopy
  try dsimp only
  repeat'
    first
    | with_reducible assumption
    | (exact in_of hm rfl)
    | with_reducible apply frOut_next
    | intro _
    | with_reducible apply fr_startFlight
    | with_reducible apply fr_startOp

theorem fr_execFill {mm : Nat} {s0 s : State} (hm : In 325603 mm) (h : Fr mm s0 s) (ring : Nat) :
    FrOut mm s0 (execFill ring s) := by
  unfold execFill
  try dsimp only
  repeat'
    first
    | with_reducible assumption
    | (exact in_of hm rfl)
    | with_reducible apply frOut_next
    | intro _
    | with_reducible apply fr_startFlight
    | with_reducible apply fr_startOp

theorem fr_execImportRange {mm : Nat} {s0 s : State} (hm : In 325603 mm) (h : Fr mm s0 s) (ring : Nat) :
    FrOut mm s0 (execImportRange ring s) := by
  unfold execImportRange
  try dsimp only
  repeat'
    first
    | with_reducible assumption
    | (exact in_of hm rfl)
    | with_reducible apply frOut_next
    | intro _
    | with_reducible apply fr_startFlight
    | with_reducible apply fr_startOp

theorem fr_execExportRange {mm : Nat} {s0 s : State} (hm : In 325603 mm) (h : Fr mm s0 s) (ring : Nat) :
    FrOut mm s0 (execExportRange ring s) := by
  unfold execExportRange
  try dsimp only
  repeat'
    first
    | with_reducible assumption
    | (exact in_of hm rfl)
    | with_reducible apply frOut_next
    | intro _
    | with_reducible apply fr_startFlight
    | with_reducible apply fr_startOp

theorem fr_execPersist {mm : Nat} {s0 s : State} (hm : In 325603 mm) (h : Fr mm s0 s) (ring : Nat) :
    FrOut mm s0 (execPersist ring s) := by
  unfold execPersist
  try dsimp only
  repeat'
    first
    | with_reducible assumption
    | (exact in_of hm rfl)
    | with_reducible apply frOut_next
    | intro _
    | with_reducible apply fr_startFlight
    | with_reducible apply fr_startOp

theorem fr_execPlace {mm : Nat} {s0 s : State} (hm : In 325603 mm) (h : Fr mm s0 s) (ring : Nat) :
    FrOut mm s0 (execPlace ring s) := by
  unfold execPlace
  try dsimp only
  repeat'
    first
    | with_reducible assumption
    | (exact in_of hm rfl)
    | with_reducible apply frOut_next
    | intro _
    | with_reducible apply fr_startFlight
    | with_reducible apply fr_startOp

theorem fr_execAtomic {mm : Nat} {s0 s : State} (hm : In 325603 mm) (h : Fr mm s0 s) (ring : Nat) :
    FrOut mm s0 (execAtomic ring s) := by
  unfold execAtomic
  try dsimp only
  repeat'
    first
    | with_reducible assumption
    | (exact in_of hm rfl)
    | with_reducible apply frOut_next
    | intro _
    | with_reducible apply fr_advanceWorks
    | with_reducible apply fr_startFlight
    | with_reducible apply fr_startOp

theorem fr_execCompare {mm : Nat} {s0 s : State} (hm : In 325603 mm) (h : Fr mm s0 s) (ring : Nat) :
    FrOut mm s0 (execCompare ring s) := by
  unfold execCompare
  try dsimp only
  repeat'
    first
    | with_reducible assumption
    | (exact in_of hm rfl)
    | with_reducible apply frOut_next
    | intro _
    | with_reducible apply fr_startFlight
    | with_reducible apply fr_startOp

theorem fr_execCrc32c {mm : Nat} {s0 s : State} (hm : In 325603 mm) (h : Fr mm s0 s) (ring : Nat) :
    FrOut mm s0 (execCrc32c ring s) := by
  unfold execCrc32c
  try dsimp only
  repeat'
    first
    | with_reducible assumption
    | (exact in_of hm rfl)
    | with_reducible apply frOut_next
    | intro _
    | with_reducible apply fr_startFlight
    | with_reducible apply fr_startOp

theorem fr_execEncrypt {mm : Nat} {s0 s : State} (hm : In 325603 mm) (h : Fr mm s0 s) (ring : Nat) :
    FrOut mm s0 (execEncrypt ring s) := by
  unfold execEncrypt
  try dsimp only
  repeat'
    first
    | with_reducible assumption
    | (exact in_of hm rfl)
    | with_reducible apply frOut_next
    | intro _
    | with_reducible apply fr_startCipher

theorem fr_execDecrypt {mm : Nat} {s0 s : State} (hm : In 325603 mm) (h : Fr mm s0 s) (ring : Nat) :
    FrOut mm s0 (execDecrypt ring s) := by
  unfold execDecrypt
  try dsimp only
  repeat'
    first
    | with_reducible assumption
    | (exact in_of hm rfl)
    | with_reducible apply frOut_next
    | intro _
    | with_reducible apply fr_startCipher

theorem fr_execPersistPoint {mm : Nat} {s0 s : State} (hm : In 327659 mm) (h : Fr mm s0 s) (ring : Nat) :
    FrOut mm s0 (execPersistPoint ring s) := by
  unfold execPersistPoint
  try dsimp only
  repeat'
    first
    | with_reducible assumption
    | (exact in_of hm rfl)
    | with_reducible apply frOut_next
    | intro _
    | with_reducible apply fr_handToRoot
    | with_reducible apply fr_modRing
    | with_reducible apply fr_settled
    | with_reducible apply fr_startOp

theorem fr_execFence {mm : Nat} {s0 s : State} (hm : In 325603 mm) (h : Fr mm s0 s) (ring : Nat) :
    FrOut mm s0 (execFence ring s) := by
  unfold execFence
  try dsimp only
  repeat'
    first
    | with_reducible assumption
    | (exact in_of hm rfl)
    | with_reducible apply frOut_next
    | intro _
    | with_reducible apply fr_ringComplete
    | with_reducible apply fr_startOp

theorem fr_execNop {mm : Nat} {s0 s : State} (hm : In 325603 mm) (h : Fr mm s0 s) (ring : Nat) :
    FrOut mm s0 (execNop ring s) := by
  unfold execNop
  try dsimp only
  repeat'
    first
    | with_reducible assumption
    | (exact in_of hm rfl)
    | with_reducible apply frOut_next
    | intro _
    | with_reducible apply fr_ringComplete
    | with_reducible apply fr_startOp

theorem fr_pieceEnds {mm : Nat} {s0 s : State} (hm : In 325603 mm) (h : Fr mm s0 s) (n : Nat) (idx : Nat) (off : Nat) :
    Fr mm s0 (State.pieceEnds s n idx off) := by
  unfold State.pieceEnds
  try dsimp only
  repeat'
    first
    | with_reducible assumption
    | (exact in_of hm rfl)
    | intro _
    | with_reducible apply fr_advanceWorks
    | with_reducible apply fr_gathered
    | with_reducible apply fr_kickFlights
    | with_reducible apply fr_pieceDone
    | with_reducible apply fr_ringStep
    | with_reducible apply fr_if
    | with_reducible apply fr_ifn
    | split

theorem fr_execPieceComplete {mm : Nat} {s0 s : State} (hm : In 325603 mm) (h : Fr mm s0 s) (ring : Nat) (idx : Nat) (off : Nat) :
    FrOut mm s0 (execPieceComplete ring idx off s) := by
  unfold execPieceComplete
  try dsimp only
  repeat'
    first
    | with_reducible assumption
    | (exact in_of hm rfl)
    | with_reducible apply frOut_next
    | intro _
    | with_reducible apply fr_pieceEnds

theorem fr_execModerationTimer {mm : Nat} {s0 s : State} (hm : In 97 mm) (h : Fr mm s0 s) (ring : Nat) :
    FrOut mm s0 (execModerationTimer ring s) := by
  unfold execModerationTimer
  try dsimp only
  repeat'
    first
    | with_reducible assumption
    | (exact in_of hm rfl)
    | with_reducible apply frOut_next
    | intro _
    | with_reducible apply fr_signal
    | with_reducible apply fr_done
    | with_reducible apply fr_if

theorem fr_throttlePiece {mm : Nat} {s0 s : State} (hm : In 308577 mm) (h : Fr mm s0 s) (ring : Nat) (idx : Nat) (off : Nat) :
    Fr mm s0 (State.throttlePiece s ring idx off) := by
  unfold State.throttlePiece
  try dsimp only
  repeat'
    first
    | with_reducible assumption
    | (exact in_of hm rfl)
    | intro _
    | with_reducible apply fr_answer
    | with_reducible apply fr_modPersist
    | with_reducible apply fr_if
    | with_reducible apply fr_ifn
    | with_reducible apply fr_foldl

theorem fr_execRingHoldLimit {mm : Nat} {s0 s : State} (hm : In 325603 mm) (h : Fr mm s0 s) (ring : Nat) (idx : Nat) (off : Nat) :
    FrOut mm s0 (execRingHoldLimit ring idx off s) := by
  unfold execRingHoldLimit
  try dsimp only
  repeat'
    first
    | with_reducible assumption
    | (exact in_of hm rfl)
    | with_reducible apply frOut_next
    | intro _
    | with_reducible apply fr_pieceEnds
    | with_reducible apply fr_throttlePiece

theorem fr_busFailed {mm : Nat} {s0 s : State} (hm : In 325603 mm) (h : Fr mm s0 s) (n : Nat) (idx : Nat) (f : Flight) (status : Nat) :
    Fr mm s0 (State.busFailed s n idx f status) := by
  unfold State.busFailed
  try dsimp only
  repeat'
    first
    | with_reducible assumption
    | (exact in_of hm rfl)
    | with_reducible apply fr_id
    | intro _
    | with_reducible apply fr_pieceEnds
    | with_reducible apply fr_ringComplete
    | with_reducible apply fr_ringStep
    | with_reducible apply fr_workEnd
    | with_reducible apply fr_if
    | with_reducible apply fr_ifn
    | split

theorem fr_ringFailed {mm : Nat} {s0 s : State} (hm : In 325603 mm) (h : Fr mm s0 s) (n : Nat) (status : Nat) :
    Fr mm s0 (State.ringFailed s n status) := by
  unfold State.ringFailed
  try dsimp only
  repeat'
    first
    | with_reducible assumption
    | (exact in_of hm rfl)
    | intro _
    | with_reducible apply fr_haltRing
    | with_reducible apply fr_if

theorem fr_busData {mm : Nat} {s0 s : State} (hm : In 325603 mm) (h : Fr mm s0 s) (n : Nat) (idx : Nat) (off : Nat) (f : Flight) (bytes : Bytes) (poison : Bool) :
    Fr mm s0 (State.busData s n idx off f bytes poison) := by
  unfold State.busData
  try dsimp only
  repeat'
    first
    | with_reducible assumption
    | (exact in_of hm rfl)
    | with_reducible apply fr_id
    | intro _
    | with_reducible apply fr_advanceWorks
    | with_reducible apply fr_batchIn
    | with_reducible apply fr_modWork
    | with_reducible apply fr_ringComplete
    | with_reducible apply fr_ringStep
    | with_reducible apply fr_if
    | with_reducible apply fr_ifn
    | split

theorem fr_execBusMasterReadCompletion {mm : Nat} {s0 s : State} (hm : In 325603 mm) (h : Fr mm s0 s) (ring : Nat) (idx : Nat) (off : Nat) (bytes : Bytes) (status : Nat) (poison : Bool) :
    FrOut mm s0 (execBusMasterReadCompletion ring idx off bytes status poison s) := by
  unfold execBusMasterReadCompletion
  try dsimp only
  repeat'
    first
    | with_reducible assumption
    | (exact in_of hm rfl)
    | with_reducible apply frOut_next
    | intro _
    | with_reducible apply fr_busData
    | with_reducible apply fr_busFailed
    | with_reducible apply fr_fetchedDesc
    | with_reducible apply fr_ringFailed
    | with_reducible apply fr_done
    | with_reducible apply fr_if
    | with_reducible apply fr_ifn
    | split

theorem fr_execBusMasterCompletionTimeout {mm : Nat} {s0 s : State} (hm : In 325603 mm) (h : Fr mm s0 s) (ring : Nat) (idx : Nat) :
    FrOut mm s0 (execBusMasterCompletionTimeout ring idx s) := by
  unfold execBusMasterCompletionTimeout
  try dsimp only
  repeat'
    first
    | with_reducible assumption
    | (exact in_of hm rfl)
    | with_reducible apply frOut_next
    | intro _
    | with_reducible apply fr_busFailed
    | with_reducible apply fr_ringFailed
    | with_reducible apply fr_done
    | split

theorem fr_busBack {mm : Nat} {s0 s : State} (hm : In 325603 mm) (h : Fr mm s0 s) (p : Nat) (ld : Nat) :
    Fr mm s0 (State.busBack s p ld) := by
  unfold State.busBack
  try dsimp only
  repeat'
    first
    | with_reducible assumption
    | (exact in_of hm rfl)
    | intro _
    | with_reducible apply fr_advanceWorks
    | with_reducible apply fr_flushHeld
    | with_reducible apply fr_freeRing
    | with_reducible apply fr_kickFlights
    | with_reducible apply fr_ringStep
    | with_reducible apply fr_foldl

theorem fr_execBusMasterEnableWrite {mm : Nat} {s0 s : State} (hm : In 325603 mm) (h : Fr mm s0 s) (p : Nat) (ld : Nat) (on : Bool) :
    FrOut mm s0 (execBusMasterEnableWrite p ld on s) := by
  unfold execBusMasterEnableWrite
  try dsimp only
  repeat'
    first
    | with_reducible assumption
    | (exact in_of hm rfl)
    | with_reducible apply frOut_next
    | intro _
    | with_reducible apply fr_busBack
    | with_reducible apply fr_modLdev
    | with_reducible apply fr_done
    | with_reducible apply fr_if

theorem fr_execMsixVectorMaskWrite {mm : Nat} {s0 s : State} (hm : In 33 mm) (h : Fr mm s0 s) (p : Nat) (ld : Nat) (v : Nat) (masked : Bool) :
    FrOut mm s0 (execMsixVectorMaskWrite p ld v masked s) := by
  unfold execMsixVectorMaskWrite
  try dsimp only
  repeat'
    first
    | with_reducible assumption
    | (exact in_of hm rfl)
    | with_reducible apply frOut_next
    | intro _
    | with_reducible apply fr_emit
    | with_reducible apply fr_modLdev
    | with_reducible apply fr_done
    | with_reducible apply fr_if

/-! ### Machine/Placement.lean -/

theorem fr_decayAll {mm : Nat} {s0 s : State} (hm : In 262272 mm) (h : Fr mm s0 s) :
    Fr mm s0 (State.decayAll s) := by
  unfold State.decayAll
  try dsimp only
  repeat'
    first
    | with_reducible assumption
    | (exact in_of hm rfl)
    | intro _
    | with_reducible apply fr_count
    | with_reducible apply fr_modPlace

theorem fr_evaluate {mm : Nat} {s0 s : State} (hm : In 262272 mm) (h : Fr mm s0 s) (slot : Nat) :
    Fr mm s0 (State.evaluate s slot) := by
  unfold State.evaluate
  try dsimp only
  repeat'
    first
    | with_reducible assumption
    | (exact in_of hm rfl)
    | intro _
    | with_reducible apply fr_count
    | with_reducible apply fr_modPlace
    | with_reducible apply fr_if
    | with_reducible apply fr_ifn
    | split

theorem fr_askAnchors {mm : Nat} {s0 s : State} (hm : In 308225 mm) (h : Fr mm s0 s) (gs : List Nat) :
    Fr mm s0 (State.askAnchors s gs) := by
  unfold State.askAnchors
  try dsimp only
  repeat'
    first
    | with_reducible assumption
    | (exact in_of hm rfl)
    | intro _
    | with_reducible apply fr_tell
    | with_reducible apply fr_foldl

theorem fr_evaluateAll {mm : Nat} {s0 s : State} (hm : In 308353 mm) (h : Fr mm s0 s) :
    Fr mm s0 (State.evaluateAll s) := by
  unfold State.evaluateAll
  try dsimp only
  repeat'
    first
    | with_reducible assumption
    | (exact in_of hm rfl)
    | intro _
    | with_reducible apply fr_askAnchors
    | with_reducible apply fr_count
    | with_reducible apply fr_evaluate
    | with_reducible apply fr_modPlace
    | (refine fr_of_fst (by with_reducible assumption) ?_)
    | with_reducible apply fr_if
    | with_reducible apply fr_ifn
    | with_reducible apply fr_foldl

theorem fr_dropCopies {mm : Nat} {s0 s : State} (hm : In 325603 mm) (h : Fr mm s0 s) :
    Fr mm s0 (State.dropCopies s) := by
  unfold State.dropCopies
  try dsimp only
  repeat'
    first
    | with_reducible assumption
    | (exact in_of hm rfl)
    | intro _
    | with_reducible apply fr_dropCopiesOf
    | with_reducible apply fr_dropCopyHere
    | with_reducible apply fr_modPlace
    | (refine fr_of_fst (by with_reducible assumption) ?_)
    | with_reducible apply fr_foldl

theorem fr_sendReports {mm : Nat} {s0 s : State} (hm : In 308225 mm) (h : Fr mm s0 s) :
    Fr mm s0 (State.sendReports s) := by
  unfold State.sendReports
  try dsimp only
  repeat'
    first
    | with_reducible assumption
    | (exact in_of hm rfl)
    | intro _
    | with_reducible apply fr_tell
    | with_reducible apply fr_foldl

theorem fr_waitEvents {mm : Nat} {s0 s : State} (hm : In 309121 mm) (h : Fr mm s0 s) :
    Fr mm s0 (State.waitEvents s) := by
  unfold State.waitEvents
  try dsimp only
  repeat'
    first
    | with_reducible assumption
    | (exact in_of hm rfl)
    | intro _
    | with_reducible apply fr_dropLateWaits
    | with_reducible apply fr_raise
    | (refine fr_of_fst (by with_reducible assumption) ?_)
    | with_reducible apply fr_foldl

theorem fr_resendDrops {mm : Nat} {s0 s : State} (hm : In 309121 mm) (h : Fr mm s0 s) :
    Fr mm s0 (State.resendDrops s) := by
  unfold State.resendDrops
  try dsimp only
  repeat'
    first
    | with_reducible assumption
    | (exact in_of hm rfl)
    | intro _
    | with_reducible apply fr_modPlace
    | with_reducible apply fr_noteDrop
    | (refine fr_of_fst (by with_reducible assumption) ?_)
    | with_reducible apply fr_foldl

theorem fr_endRebuilds {mm : Nat} {s0 s : State} (hm : In 325603 mm) (h : Fr mm s0 s) :
    Fr mm s0 (State.endRebuilds s) := by
  unfold State.endRebuilds
  try dsimp only
  repeat'
    first
    | with_reducible assumption
    | (exact in_of hm rfl)
    | intro _
    | with_reducible apply fr_modPlace
    | with_reducible apply fr_raise
    | with_reducible apply fr_resumeLookups
    | with_reducible apply fr_foldl

theorem fr_agentEpoch {mm : Nat} {s0 s : State} (hm : In 325603 mm) (h : Fr mm s0 s) :
    Fr mm s0 (State.agentEpoch s) := by
  unfold State.agentEpoch
  try dsimp only
  repeat'
    first
    | with_reducible assumption
    | (exact in_of hm rfl)
    | intro _
    | with_reducible apply fr_clearCooling
    | with_reducible apply fr_dropCopies
    | with_reducible apply fr_emptyPasses
    | with_reducible apply fr_endRebuilds
    | with_reducible apply fr_evaluateAll
    | with_reducible apply fr_resendDrops
    | with_reducible apply fr_sendCommit
    | with_reducible apply fr_sendReports
    | with_reducible apply fr_startActions
    | with_reducible apply fr_waitEvents
    | with_reducible apply fr_foldl

theorem fr_execEpochEnd {mm : Nat} {s0 s : State} (hm : In 327651 mm) (h : Fr mm s0 s) :
    FrOut mm s0 (execEpochEnd s) := by
  unfold execEpochEnd
  try dsimp only
  repeat'
    first
    | with_reducible assumption
    | (exact in_of hm rfl)
    | with_reducible apply frOut_next
    | intro _
    | with_reducible apply fr_advanceWorks
    | with_reducible apply fr_agentEpoch
    | with_reducible apply fr_decayAll
    | with_reducible apply fr_modPlace
    | with_reducible apply fr_publishRoom
    | with_reducible apply fr_sendCensus
    | with_reducible apply fr_done
    | with_reducible apply fr_if

theorem fr_execLookup {mm : Nat} {s0 s : State} (hm : In 325603 mm) (h : Fr mm s0 s) (h : Hdr) (q : ReqSub) (forWrite : Bool) :
    FrOut mm s0 (execLookup h q forWrite s) := by
  unfold execLookup
  try dsimp only
  repeat'
    first
    | with_reducible assumption
    | (exact in_of hm rfl)
    | with_reducible apply frOut_next
    | intro _
    | with_reducible apply fr_advanceWorks
    | with_reducible apply fr_onFrame
    | with_reducible apply fr_serveLookup
    | with_reducible apply fr_done
    | with_reducible apply fr_if

theorem fr_leaseAnswer {mm : Nat} {s0 s : State} (hm : In 325603 mm) (h : Fr mm s0 s) (key : Nat) :
    Fr mm s0 (State.leaseAnswer s key) := by
  unfold State.leaseAnswer
  try dsimp only
  repeat'
    first
    | with_reducible assumption
    | (exact in_of hm rfl)
    | intro _
    | with_reducible apply fr_dirAbort
    | with_reducible apply fr_dirCommit
    | (refine fr_of_fst (by with_reducible assumption) ?_)
    | with_reducible apply fr_if
    | with_reducible apply fr_ifn
    | split

theorem fr_execMoveLeaseExpiry {mm : Nat} {s0 s : State} (hm : In 325603 mm) (h : Fr mm s0 s) (key : Nat) :
    FrOut mm s0 (execMoveLeaseExpiry key s) := by
  unfold execMoveLeaseExpiry
  try dsimp only
  repeat'
    first
    | with_reducible assumption
    | (exact in_of hm rfl)
    | with_reducible apply frOut_next
    | intro _
    | with_reducible apply fr_leaseAnswer
    | with_reducible apply fr_modDir
    | with_reducible apply fr_tell
    | with_reducible apply fr_done
    | with_reducible apply fr_if

theorem fr_putCopy {mm : Nat} {s0 s : State} (hm : In 290946 mm) (h : Fr mm s0 s) (c : ChunkSub) (ls : List Line) (ps : List Bool) :
    Fr mm s0 (State.putCopy s c ls ps) := by
  unfold State.putCopy
  try dsimp only
  repeat'
    first
    | with_reducible assumption
    | (exact in_of hm rfl)
    | intro _
    | with_reducible apply fr_askWrite
    | with_reducible apply fr_modPlace
    | with_reducible apply fr_putLine
    | (refine fr_of_fst (by with_reducible assumption) ?_)
    | with_reducible apply fr_if
    | with_reducible apply fr_ifn
    | with_reducible apply fr_foldl

theorem fr_execChunk {mm : Nat} {s0 s : State} (hm : In 325603 mm) (h : Fr mm s0 s) (h : Hdr) (c : ChunkSub) (lines : List Line) :
    FrOut mm s0 (execChunk h c lines s) := by
  unfold execChunk
  try dsimp only
  repeat'
    first
    | with_reducible assumption
    | (exact in_of hm rfl)
    | with_reducible apply frOut_next
    | with_reducible apply frOut_fault
    | intro _
    | with_reducible apply fr_ackChunks
    | with_reducible apply fr_modPlace
    | with_reducible apply fr_putChunk
    | with_reducible apply fr_putCopy
    | with_reducible apply fr_rx
    | with_reducible apply fr_send
    | with_reducible apply fr_done
    | (refine fr_of_fst (by with_reducible assumption) ?_)
    | with_reducible apply fr_if
    | with_reducible apply fr_ifn
    | split

theorem fr_copyReady {mm : Nat} {s0 s : State} (hm : In 325603 mm) (h : Fr mm s0 s) (c : CopyOut) :
    Fr mm s0 (State.copyReady s c) := by
  unfold State.copyReady
  try dsimp only
  repeat'
    first
    | with_reducible assumption
    | (exact in_of hm rfl)
    | intro _
    | with_reducible apply fr_count
    | with_reducible apply fr_dirCopyDone
    | with_reducible apply fr_modCopyOut
    | with_reducible apply fr_tell
    | with_reducible apply fr_if

theorem fr_execChunkAck {mm : Nat} {s0 s : State} (hm : In 325603 mm) (h : Fr mm s0 s) (h : Hdr) (c : ChunkSub) :
    FrOut mm s0 (execChunkAck h c s) := by
  unfold execChunkAck
  try dsimp only
  repeat'
    first
    | with_reducible assumption
    | (exact in_of hm rfl)
    | with_reducible apply frOut_next
    | intro _
    | with_reducible apply fr_copyReady
    | with_reducible apply fr_migStep
    | with_reducible apply fr_modCopyOut
    | with_reducible apply fr_modMig
    | with_reducible apply fr_onFrame
    | with_reducible apply fr_startActions
    | with_reducible apply fr_done
    | with_reducible apply fr_if
    | with_reducible apply fr_ifn
    | split

theorem fr_heldTooLong {mm : Nat} {s0 s : State} (hm : In 325603 mm) (h : Fr mm s0 s) (key : Nat) :
    Fr mm s0 (State.heldTooLong s key) := by
  unfold State.heldTooLong
  try dsimp only
  repeat'
    first
    | with_reducible assumption
    | (exact in_of hm rfl)
    | intro _
    | with_reducible apply fr_modPlace
    | with_reducible apply fr_movedBack
    | with_reducible apply fr_piecesBack
    | with_reducible apply fr_if
    | with_reducible apply fr_ifn
    | split

theorem fr_execFreezeLimitExpiry {mm : Nat} {s0 s : State} (hm : In 325603 mm) (h : Fr mm s0 s) (key : Nat) :
    FrOut mm s0 (execFreezeLimitExpiry key s) := by
  unfold execFreezeLimitExpiry
  try dsimp only
  repeat'
    first
    | with_reducible assumption
    | (exact in_of hm rfl)
    | with_reducible apply frOut_next
    | intro _
    | with_reducible apply fr_abortMig
    | with_reducible apply fr_advanceWorks
    | with_reducible apply fr_heldTooLong
    | with_reducible apply fr_startActions
    | with_reducible apply fr_done
    | with_reducible apply fr_if
    | with_reducible apply fr_ifn
    | split

theorem fr_execTombstoneExpiry {mm : Nat} {s0 s : State} (hm : In 325603 mm) (h : Fr mm s0 s) (key : Nat) :
    FrOut mm s0 (execTombstoneExpiry key s) := by
  unfold execTombstoneExpiry
  try dsimp only
  repeat'
    first
    | with_reducible assumption
    | (exact in_of hm rfl)
    | with_reducible apply frOut_next
    | intro _
    | with_reducible apply fr_advanceWorks
    | with_reducible apply fr_dropTomb
    | with_reducible apply fr_pumpMigs
    | with_reducible apply fr_done
    | with_reducible apply fr_if

theorem fr_execTranslationCacheFlush {mm : Nat} {s0 s : State} (hm : In 308393 mm) (h : Fr mm s0 s) (rq : Req) (tag : Nat) :
    FrOut mm s0 (execTranslationCacheFlush rq tag s) := by
  unfold execTranslationCacheFlush
  try dsimp only
  repeat'
    first
    | with_reducible assumption
    | (exact in_of hm rfl)
    | with_reducible apply frOut_next
    | intro _
    | with_reducible apply fr_modPlace
    | with_reducible apply fr_writeNum

theorem fr_execInval {mm : Nat} {s0 s : State} (hm : In 325603 mm) (h : Fr mm s0 s) (h : Hdr) (key : Nat) (slot : Nat) (line : Nat) (count : Nat) (token : Nat) :
    FrOut mm s0 (execInval h key slot line count token s) := by
  unfold execInval
  try dsimp only
  repeat'
    first
    | with_reducible assumption
    | (exact in_of hm rfl)
    | with_reducible apply frOut_next
    | intro _
    | with_reducible apply fr_modHost
    | with_reducible apply fr_modPlace
    | with_reducible apply fr_onFrame
    | with_reducible apply fr_send

theorem fr_execInvalAck {mm : Nat} {s0 s : State} (hm : In 325603 mm) (h : Fr mm s0 s) (h : Hdr) (token : Nat) :
    FrOut mm s0 (execInvalAck h token s) := by
  unfold execInvalAck
  try dsimp only
  repeat'
    first
    | with_reducible assumption
    | (exact in_of hm rfl)
    | with_reducible apply frOut_next
    | intro _
    | with_reducible apply fr_advanceWorks
    | with_reducible apply fr_completeWrites
    | with_reducible apply fr_modPlace
    | with_reducible apply fr_onFrame

theorem fr_execCopyLeaseExpiry {mm : Nat} {s0 s : State} (hm : In 128 mm) (h : Fr mm s0 s) (slot : Nat) :
    FrOut mm s0 (execCopyLeaseExpiry slot s) := by
  unfold execCopyLeaseExpiry
  try dsimp only
  repeat'
    first
    | with_reducible assumption
    | (exact in_of hm rfl)
    | with_reducible apply frOut_next
    | intro _
    | with_reducible apply fr_modPlace

theorem fr_execCopyLeaseGuardExpiry {mm : Nat} {s0 s : State} (hm : In 325603 mm) (h : Fr mm s0 s) (key : Nat) (vault : Nat) :
    FrOut mm s0 (execCopyLeaseGuardExpiry key vault s) := by
  unfold execCopyLeaseGuardExpiry
  try dsimp only
  repeat'
    first
    | with_reducible assumption
    | (exact in_of hm rfl)
    | with_reducible apply frOut_next
    | intro _
    | with_reducible apply fr_abortCopy
    | with_reducible apply fr_advanceWorks
    | with_reducible apply fr_completeWrites
    | with_reducible apply fr_count
    | with_reducible apply fr_loseCopyOut
    | with_reducible apply fr_noteDrop
    | with_reducible apply fr_raise
    | with_reducible apply fr_startActions
    | with_reducible apply fr_done
    | with_reducible apply fr_if
    | with_reducible apply fr_ifn
    | split

theorem fr_execCopyLeaseRenewTimer {mm : Nat} {s0 s : State} (hm : In 309121 mm) (h : Fr mm s0 s) :
    FrOut mm s0 (execCopyLeaseRenewTimer s) := by
  unfold execCopyLeaseRenewTimer
  try dsimp only
  repeat'
    first
    | with_reducible assumption
    | (exact in_of hm rfl)
    | with_reducible apply frOut_next
    | intro _
    | with_reducible apply fr_modCopyOut
    | with_reducible apply fr_tell
    | with_reducible apply fr_done
    | with_reducible apply fr_if
    | with_reducible apply fr_ifn
    | with_reducible apply fr_foldl

theorem fr_onPlace {mm : Nat} {s0 s : State} (hm : In 325603 mm) (h : Fr mm s0 s) (h : Hdr) (code : Nat) (m : PMsg) (f : State → State) (hf : ∀ (s : State), Fr mm s0 s → Fr mm s0 (f s)) :
    Fr mm s0 (State.onPlace s h code m f) := by
  unfold State.onPlace
  try dsimp only
  repeat'
    first
    | with_reducible assumption
    | (exact in_of hm rfl)
    | intro _
    | with_reducible apply fr_advanceWorks
    | with_reducible apply fr_onFrame
    | with_reducible apply hf
    | with_reducible apply fr_if

theorem fr_execMoveRequest {mm : Nat} {s0 s : State} (hm : In 325603 mm) (h : Fr mm s0 s) (h : Hdr) (m : PMsg) :
    FrOut mm s0 (execMoveRequest h m s) := by
  unfold execMoveRequest
  try dsimp only
  repeat'
    first
    | with_reducible assumption
    | (exact in_of hm rfl)
    | with_reducible apply frOut_next
    | intro _
    | with_reducible apply fr_dirMove
    | with_reducible apply fr_onPlace
    | with_reducible apply fr_send
    | with_reducible apply fr_done
    | (refine fr_of_fst (by with_reducible assumption) ?_)
    | with_reducible apply fr_if
    | with_reducible apply fr_ifn
    | split

theorem fr_execMoveAnswer {mm : Nat} {s0 s : State} (hm : In 325603 mm) (h : Fr mm s0 s) (h : Hdr) (m : PMsg) :
    FrOut mm s0 (execMoveAnswer h m s) := by
  unfold execMoveAnswer
  try dsimp only
  repeat'
    first
    | with_reducible assumption
    | (exact in_of hm rfl)
    | with_reducible apply frOut_next
    | intro _
    | with_reducible apply fr_moveAnswered
    | with_reducible apply fr_onPlace
    | with_reducible apply fr_startActions

theorem fr_reserveAsked {mm : Nat} {s0 s : State} (hm : In 309121 mm) (h : Fr mm s0 s) (key : Nat) (above : Bool) :
    Fr mm s0 (State.reserveAsked s key above).1 := by
  unfold State.reserveAsked
  try dsimp only
  repeat'
    first
    | with_reducible assumption
    | (exact in_of hm rfl)
    | intro _
    | (refine fr_reserveHome (by with_reducible assumption) ?_ ?_)
    | (refine fr_of_fst (by with_reducible assumption) ?_)
    | split

theorem fr_execReserveRequest {mm : Nat} {s0 s : State} (hm : In 325603 mm) (h : Fr mm s0 s) (h : Hdr) (m : PMsg) :
    FrOut mm s0 (execReserveRequest h m s) := by
  unfold execReserveRequest
  try dsimp only
  repeat'
    first
    | with_reducible assumption
    | (exact in_of hm rfl)
    | with_reducible apply frOut_next
    | intro _
    | with_reducible apply fr_onPlace
    | with_reducible apply fr_reserveAsked
    | with_reducible apply fr_reserveDest
    | with_reducible apply fr_send
    | with_reducible apply fr_done
    | (refine fr_of_fst (by with_reducible assumption) ?_)
    | with_reducible apply fr_if
    | with_reducible apply fr_ifn
    | split

theorem fr_allocAnswer {mm : Nat} {s0 s : State} (hm : In 325603 mm) (h : Fr mm s0 s) (m : PMsg) :
    Fr mm s0 (State.allocAnswer s m) := by
  unfold State.allocAnswer
  try dsimp only
  repeat'
    first
    | with_reducible assumption
    | (exact in_of hm rfl)
    | intro _
    | with_reducible apply fr_allocate
    | with_reducible apply fr_dirHomed
    | with_reducible apply fr_homeEntry
    | with_reducible apply fr_modDir
    | with_reducible apply fr_tell
    | with_reducible apply fr_if

theorem fr_firstPass {mm : Nat} {s0 s : State} (hm : In 325507 mm) (h : Fr mm s0 s) (key : Nat) (slot : Nat) :
    Fr mm s0 (State.firstPass s key slot) := by
  unfold State.firstPass
  try dsimp only
  repeat'
    first
    | with_reducible assumption
    | (exact in_of hm rfl)
    | intro _
    | with_reducible apply fr_mirrorMig
    | with_reducible apply fr_modMig
    | with_reducible apply fr_sendGrans
    | split

theorem fr_copyPass {mm : Nat} {s0 s : State} (hm : In 309121 mm) (h : Fr mm s0 s) (key : Nat) (v : Nat) (slot : Nat) :
    Fr mm s0 (State.copyPass s key v slot) := by
  unfold State.copyPass
  try dsimp only
  repeat'
    first
    | with_reducible assumption
    | (exact in_of hm rfl)
    | intro _
    | with_reducible apply fr_ask
    | with_reducible apply fr_askRead
    | with_reducible apply fr_count
    | with_reducible apply fr_modCopyOut
    | with_reducible apply fr_sendList
    | split

theorem fr_execReserveAnswer {mm : Nat} {s0 s : State} (hm : In 325603 mm) (h : Fr mm s0 s) (h : Hdr) (m : PMsg) :
    FrOut mm s0 (execReserveAnswer h m s) := by
  unfold execReserveAnswer
  try dsimp only
  repeat'
    first
    | with_reducible assumption
    | (exact in_of hm rfl)
    | with_reducible apply frOut_next
    | intro _
    | with_reducible apply fr_abortCopy
    | with_reducible apply fr_abortMig
    | with_reducible apply fr_allocAnswer
    | with_reducible apply fr_copyPass
    | with_reducible apply fr_count
    | with_reducible apply fr_firstPass
    | with_reducible apply fr_modPlace
    | with_reducible apply fr_onPlace
    | with_reducible apply fr_startActions
    | with_reducible apply fr_done
    | with_reducible apply fr_if
    | with_reducible apply fr_ifn
    | split

theorem fr_execPlacementCommit {mm : Nat} {s0 s : State} (hm : In 325603 mm) (h : Fr mm s0 s) (h : Hdr) (m : PMsg) :
    FrOut mm s0 (execPlacementCommit h m s) := by
  unfold execPlacementCommit
  try dsimp only
  repeat'
    first
    | with_reducible assumption
    | (exact in_of hm rfl)
    | with_reducible apply frOut_next
    | intro _
    | with_reducible apply fr_commitIn
    | with_reducible apply fr_dirCommit
    | with_reducible apply fr_onPlace
    | with_reducible apply fr_send
    | with_reducible apply fr_done
    | with_reducible apply fr_if
    | with_reducible apply fr_ifn
    | split

theorem fr_execCommitAcknowledgement {mm : Nat} {s0 s : State} (hm : In 325603 mm) (h : Fr mm s0 s) (h : Hdr) (m : PMsg) :
    FrOut mm s0 (execCommitAcknowledgement h m s) := by
  unfold execCommitAcknowledgement
  try dsimp only
  repeat'
    first
    | with_reducible assumption
    | (exact in_of hm rfl)
    | with_reducible apply frOut_next
    | intro _
    | with_reducible apply fr_commitAcked
    | with_reducible apply fr_onPlace
    | with_reducible apply fr_pumpMigs
    | with_reducible apply fr_pumpRetire
    | with_reducible apply fr_startActions
    | with_reducible apply fr_done
    | split

theorem fr_execPlacementAbort {mm : Nat} {s0 s : State} (hm : In 325603 mm) (h : Fr mm s0 s) (h : Hdr) (m : PMsg) :
    FrOut mm s0 (execPlacementAbort h m s) := by
  unfold execPlacementAbort
  try dsimp only
  repeat'
    first
    | with_reducible assumption
    | (exact in_of hm rfl)
    | with_reducible apply frOut_next
    | intro _
    | with_reducible apply fr_abortIn
    | with_reducible apply fr_dirAbort
    | with_reducible apply fr_modPlace
    | with_reducible apply fr_onPlace
    | with_reducible apply fr_releaseSlot
    | with_reducible apply fr_done
    | with_reducible apply fr_if
    | with_reducible apply fr_ifn
    | split

theorem fr_execCopyGrant {mm : Nat} {s0 s : State} (hm : In 325603 mm) (h : Fr mm s0 s) (h : Hdr) (m : PMsg) :
    FrOut mm s0 (execCopyGrant h m s) := by
  unfold execCopyGrant
  try dsimp only
  repeat'
    first
    | with_reducible assumption
    | (exact in_of hm rfl)
    | with_reducible apply frOut_next
    | intro _
    | with_reducible apply fr_copyAnswered
    | with_reducible apply fr_dirCopy
    | with_reducible apply fr_onPlace
    | with_reducible apply fr_reserveCopy
    | with_reducible apply fr_send
    | with_reducible apply fr_done
    | (refine fr_of_fst (by with_reducible assumption) ?_)
    | with_reducible apply fr_if

theorem fr_giveLease {mm : Nat} {s0 s : State} (hm : In 128 mm) (h : Fr mm s0 s) (home : Nat) (m : PMsg) :
    Fr mm s0 (State.giveLease s home m) := by
  unfold State.giveLease
  try dsimp only
  repeat'
    first
    | with_reducible assumption
    | (exact in_of hm rfl)
    | intro _
    | with_reducible apply fr_modPlace

theorem fr_execCopyRegister {mm : Nat} {s0 s : State} (hm : In 325603 mm) (h : Fr mm s0 s) (h : Hdr) (m : PMsg) :
    FrOut mm s0 (execCopyRegister h m s) := by
  unfold execCopyRegister
  try dsimp only
  repeat'
    first
    | with_reducible assumption
    | (exact in_of hm rfl)
    | with_reducible apply frOut_next
    | intro _
    | with_reducible apply fr_dirCopyDone
    | with_reducible apply fr_giveLease
    | with_reducible apply fr_onPlace
    | with_reducible apply fr_done
    | with_reducible apply fr_if

theorem fr_execLeaseRenewal {mm : Nat} {s0 s : State} (hm : In 325603 mm) (h : Fr mm s0 s) (h : Hdr) (m : PMsg) :
    FrOut mm s0 (execLeaseRenewal h m s) := by
  unfold execLeaseRenewal
  try dsimp only
  repeat'
    first
    | with_reducible assumption
    | (exact in_of hm rfl)
    | with_reducible apply frOut_next
    | intro _
    | with_reducible apply fr_giveLease
    | with_reducible apply fr_onPlace
    | with_reducible apply fr_send
    | with_reducible apply fr_done
    | with_reducible apply fr_if

theorem fr_execCopyDropNotice {mm : Nat} {s0 s : State} (hm : In 325603 mm) (h : Fr mm s0 s) (h : Hdr) (m : PMsg) :
    FrOut mm s0 (execCopyDropNotice h m s) := by
  unfold execCopyDropNotice
  try dsimp only
  repeat'
    first
    | with_reducible assumption
    | (exact in_of hm rfl)
    | with_reducible apply frOut_next
    | intro _
    | with_reducible apply fr_completeWrites
    | with_reducible apply fr_dirCopyDrop
    | with_reducible apply fr_dropCopiesOf
    | with_reducible apply fr_dropCopyHere
    | with_reducible apply fr_loseCopyOut
    | with_reducible apply fr_modPlace
    | with_reducible apply fr_onPlace
    | with_reducible apply fr_send
    | with_reducible apply fr_tell
    | with_reducible apply fr_done
    | (refine fr_of_fst (by with_reducible assumption) ?_)
    | with_reducible apply fr_if
    | with_reducible apply fr_ifn
    | split

theorem fr_execHeatReport {mm : Nat} {s0 s : State} (hm : In 325603 mm) (h : Fr mm s0 s) (h : Hdr) (m : PMsg) :
    FrOut mm s0 (execHeatReport h m s) := by
  unfold execHeatReport
  try dsimp only
  repeat'
    first
    | with_reducible assumption
    | (exact in_of hm rfl)
    | with_reducible apply frOut_next
    | intro _
    | with_reducible apply fr_modPlace
    | with_reducible apply fr_onPlace

theorem fr_execArrivalReport {mm : Nat} {s0 s : State} (hm : In 325603 mm) (h : Fr mm s0 s) (h : Hdr) (m : PMsg) :
    FrOut mm s0 (execArrivalReport h m s) := by
  unfold execArrivalReport
  try dsimp only
  repeat'
    first
    | with_reducible assumption
    | (exact in_of hm rfl)
    | with_reducible apply frOut_next
    | intro _
    | with_reducible apply fr_freeKept
    | with_reducible apply fr_modDir
    | with_reducible apply fr_onPlace
    | with_reducible apply fr_done
    | with_reducible apply fr_if

theorem fr_anchorCame {mm : Nat} {s0 s : State} (hm : In 325603 mm) (h : Fr mm s0 s) (g : Nat) (anchor : Nat) :
    Fr mm s0 (State.anchorCame s g anchor) := by
  unfold State.anchorCame
  try dsimp only
  repeat'
    first
    | with_reducible assumption
    | (exact in_of hm rfl)
    | intro _
    | with_reducible apply fr_allocWith
    | with_reducible apply fr_dirHomed
    | with_reducible apply fr_evaluate
    | with_reducible apply fr_modPlace
    | with_reducible apply fr_startActions
    | with_reducible apply fr_if
    | with_reducible apply fr_ifn
    | with_reducible apply fr_foldl

theorem fr_joinAnswered {mm : Nat} {s0 s : State} (hm : In 309185 mm) (h : Fr mm s0 s) (key : Nat) (g : Nat) (st : Nat) :
    Fr mm s0 (State.joinAnswered s key g st) := by
  unfold State.joinAnswered
  try dsimp only
  repeat'
    first
    | with_reducible assumption
    | (exact in_of hm rfl)
    | with_reducible apply fr_id
    | intro _
    | with_reducible apply fr_joined
    | with_reducible apply fr_modWork
    | (refine fr_of_fst (by with_reducible assumption) ?_)
    | with_reducible apply fr_if
    | with_reducible apply fr_ifn
    | with_reducible apply fr_foldl

theorem fr_groupMsg {mm : Nat} {s0 s : State} (hm : In 325603 mm) (h : Fr mm s0 s) (src : Nat) (g : Nat) (m : PMsg) :
    Fr mm s0 (State.groupMsg s src g m) := by
  unfold State.groupMsg
  try dsimp only
  repeat'
    first
    | with_reducible assumption
    | (exact in_of hm rfl)
    | intro _
    | with_reducible apply fr_anchorCame
    | with_reducible apply fr_groupHomed
    | with_reducible apply fr_groupJoin
    | with_reducible apply fr_groupLeave
    | with_reducible apply fr_joinAnswered
    | with_reducible apply fr_send
    | (refine fr_of_fst (by with_reducible assumption) ?_)
    | with_reducible apply fr_if

theorem fr_rebuilt {mm : Nat} {s0 s : State} (hm : In 325603 mm) (h : Fr mm s0 s) (m : PMsg) :
    Fr mm s0 (State.rebuilt s m) := by
  unfold State.rebuilt
  try dsimp only
  repeat'
    first
    | with_reducible assumption
    | (exact in_of hm rfl)
    | intro _
    | with_reducible apply fr_dirHomed
    | with_reducible apply fr_modDir
    | with_reducible apply fr_modPlace
    | with_reducible apply fr_raise
    | with_reducible apply fr_resumeLookups
    | with_reducible apply fr_if

theorem fr_execRebuildQuery {mm : Nat} {s0 s : State} (hm : In 325603 mm) (h : Fr mm s0 s) (h : Hdr) (m : PMsg) :
    FrOut mm s0 (execRebuildQuery h m s) := by
  unfold execRebuildQuery
  try dsimp only
  repeat'
    first
    | with_reducible assumption
    | (exact in_of hm rfl)
    | with_reducible apply frOut_next
    | intro _
    | with_reducible apply fr_groupMsg
    | with_reducible apply fr_keepHints
    | with_reducible apply fr_onPlace
    | with_reducible apply fr_rebuilt
    | with_reducible apply fr_send
    | with_reducible apply fr_done
    | with_reducible apply fr_if
    | with_reducible apply fr_ifn
    | split

/-! ### Machine/SboxOps.lean -/

theorem fr_modSector {mm : Nat} {s0 s : State} (hm : In 131072 mm) (h : Fr mm s0 s) (p : Nat) (f : Sector → Sector) :
    Fr mm s0 (State.modSector s p f) := by
  unfold State.modSector
  try dsimp only
  repeat'
    first
    | with_reducible assumption
    | (exact in_of hm rfl)
    | intro _
    | with_reducible apply fr_modSbox

theorem fr_modPlane {mm : Nat} {s0 s : State} (hm : In 131072 mm) (h : Fr mm s0 s) (n : Nat) (f : Plane → Plane) :
    Fr mm s0 (State.modPlane s n f) := by
  unfold State.modPlane
  try dsimp only
  repeat'
    first
    | with_reducible assumption
    | (exact in_of hm rfl)
    | intro _
    | with_reducible apply fr_modSbox

theorem fr_bootRecord {mm : Nat} {s0 s : State} (hm : In 131072 mm) (h : Fr mm s0 s) :
    Fr mm s0 (State.bootRecord s) := by
  unfold State.bootRecord
  try dsimp only
  repeat'
    first
    | with_reducible assumption
    | (exact in_of hm rfl)
    | intro _
    | with_reducible apply fr_modSbox
    | with_reducible apply fr_modSector

theorem fr_sbComplete {mm : Nat} {s0 s : State} (hm : In 131073 mm) (h : Fr mm s0 s) (d : SbDesc) (status : Nat) (progress : Nat) (pulses : Nat) (retired : Bool) (weak : Bool) (data : Bytes) :
    Fr mm s0 (State.sbComplete s d status progress pulses retired weak data) := by
  unfold State.sbComplete
  try dsimp only
  repeat'
    first
    | with_reducible assumption
    | (exact in_of hm rfl)
    | intro _
    | with_reducible apply fr_emit
    | with_reducible apply fr_modSbox
    | with_reducible apply fr_if
    | with_reducible apply fr_ifn
    | split

theorem fr_suspend {mm : Nat} {s0 s : State} (hm : In 131072 mm) (h : Fr mm s0 s) (n : Nat) (urgent : Bool) :
    Fr mm s0 (State.suspend s n urgent) := by
  unfold State.suspend
  try dsimp only
  repeat'
    first
    | with_reducible assumption
    | (exact in_of hm rfl)
    | intro _
    | with_reducible apply fr_modPlane

theorem fr_resumeErase {mm : Nat} {s0 s : State} (hm : In 131072 mm) (h : Fr mm s0 s) (n : Nat) :
    Fr mm s0 (State.resumeErase s n) := by
  unfold State.resumeErase
  try dsimp only
  repeat'
    first
    | with_reducible assumption
    | (exact in_of hm rfl)
    | intro _
    | with_reducible apply fr_modPlane

theorem fr_suspendCheck {mm : Nat} {s0 s : State} (hm : In 131072 mm) (h : Fr mm s0 s) (n : Nat) :
    Fr mm s0 (State.suspendCheck s n) := by
  unfold State.suspendCheck
  try dsimp only
  repeat'
    first
    | with_reducible assumption
    | (exact in_of hm rfl)
    | intro _
    | with_reducible apply fr_resumeErase
    | with_reducible apply fr_if

theorem fr_takeSpare {mm : Nat} {s0 s : State} (hm : In 393216 mm) (h : Fr mm s0 s) (old : Nat) :
    Fr mm s0 (State.takeSpare s old) := by
  unfold State.takeSpare
  try dsimp only
  repeat'
    first
    | with_reducible assumption
    | (exact in_of hm rfl)
    | intro _
    | with_reducible apply fr_bootRecord
    | with_reducible apply fr_modSbox
    | with_reducible apply fr_raise
    | with_reducible apply fr_if

theorem fr_frameBad {mm : Nat} {s0 s : State} (hm : In 393224 mm) (h : Fr mm s0 s) (old : Nat) :
    Fr mm s0 (State.frameBad s old) := by
  unfold State.frameBad
  try dsimp only
  repeat'
    first
    | with_reducible assumption
    | (exact in_of hm rfl)
    | intro _
    | with_reducible apply fr_bootRecord
    | with_reducible apply fr_modDict
    | with_reducible apply fr_modSbox
    | with_reducible apply fr_raise
    | with_reducible apply fr_if

theorem fr_gapMove {mm : Nat} {s0 s : State} (hm : In 131072 mm) (h : Fr mm s0 s) :
    Fr mm s0 (State.gapMove s) := by
  unfold State.gapMove
  try dsimp only
  repeat'
    first
    | with_reducible assumption
    | (exact in_of hm rfl)
    | intro _
    | with_reducible apply fr_bootRecord
    | with_reducible apply fr_modSbox
    | with_reducible apply fr_modSector
    | with_reducible apply fr_if

theorem fr_countErase {mm : Nat} {s0 s : State} (hm : In 131072 mm) (h : Fr mm s0 s) :
    Fr mm s0 (State.countErase s) := by
  unfold State.countErase
  try dsimp only
  repeat'
    first
    | with_reducible assumption
    | (exact in_of hm rfl)
    | intro _
    | with_reducible apply fr_modSbox

theorem fr_sbReadNow {mm : Nat} {s0 s : State} (hm : In 393217 mm) (h : Fr mm s0 s) (e : SbEntry) :
    Fr mm s0 (State.sbReadNow s e) := by
  unfold State.sbReadNow
  try dsimp only
  repeat'
    first
    | with_reducible assumption
    | (exact in_of hm rfl)
    | intro _
    | with_reducible apply fr_modPlane
    | with_reducible apply fr_raise
    | with_reducible apply fr_sbComplete
    | with_reducible apply fr_suspendCheck
    | with_reducible apply fr_if
    | with_reducible apply fr_ifn
    | split
    | (refine fr_fresh ?_)

theorem fr_sbProgramNow {mm : Nat} {s0 s : State} (hm : In 131073 mm) (h : Fr mm s0 s) (e : SbEntry) :
    Fr mm s0 (State.sbProgramNow s e) := by
  unfold State.sbProgramNow
  try dsimp only
  repeat'
    first
    | with_reducible assumption
    | (exact in_of hm rfl)
    | intro _
    | with_reducible apply fr_modPlane
    | with_reducible apply fr_sbComplete
    | with_reducible apply fr_suspendCheck
    | with_reducible apply fr_if

theorem fr_sbEraseNow {mm : Nat} {s0 s : State} (hm : In 393217 mm) (h : Fr mm s0 s) (e : SbEntry) :
    Fr mm s0 (State.sbEraseNow s e) := by
  unfold State.sbEraseNow
  try dsimp only
  repeat'
    first
    | with_reducible assumption
    | (exact in_of hm rfl)
    | intro _
    | with_reducible apply fr_countErase
    | with_reducible apply fr_modPlane
    | with_reducible apply fr_sbComplete
    | with_reducible apply fr_takeSpare
    | with_reducible apply fr_if

theorem fr_sbSuspendNow {mm : Nat} {s0 s : State} (hm : In 393217 mm) (h : Fr mm s0 s) (d : SbDesc) :
    Fr mm s0 (State.sbSuspendNow s d) := by
  unfold State.sbSuspendNow
  try dsimp only
  repeat'
    first
    | with_reducible assumption
    | (exact in_of hm rfl)
    | intro _
    | with_reducible apply fr_raise
    | with_reducible apply fr_sbComplete
    | with_reducible apply fr_suspend
    | with_reducible apply fr_if

theorem fr_sbResumeNow {mm : Nat} {s0 s : State} (hm : In 131073 mm) (h : Fr mm s0 s) (d : SbDesc) :
    Fr mm s0 (State.sbResumeNow s d) := by
  unfold State.sbResumeNow
  try dsimp only
  repeat'
    first
    | with_reducible assumption
    | (exact in_of hm rfl)
    | intro _
    | with_reducible apply fr_resumeErase
    | with_reducible apply fr_sbComplete

theorem fr_sbUrge {mm : Nat} {s0 s : State} (hm : In 131072 mm) (h : Fr mm s0 s) (e : SbEntry) :
    Fr mm s0 (State.sbUrge s e) := by
  unfold State.sbUrge
  try dsimp only
  repeat'
    first
    | with_reducible assumption
    | (exact in_of hm rfl)
    | intro _
    | with_reducible apply fr_suspend
    | with_reducible apply fr_if

theorem fr_sbRun {mm : Nat} {s0 s : State} (hm : In 393217 mm) (h : Fr mm s0 s) (e : SbEntry) :
    Fr mm s0 (State.sbRun s e) := by
  unfold State.sbRun
  try dsimp only
  repeat'
    first
    | with_reducible assumption
    | (exact in_of hm rfl)
    | intro _
    | with_reducible apply fr_sbEraseNow
    | with_reducible apply fr_sbProgramNow
    | with_reducible apply fr_sbReadNow
    | with_reducible apply fr_if

theorem fr_sbPump {mm : Nat} {s0 s : State} (hm : In 393217 mm) (h : Fr mm s0 s) :
    Fr mm s0 (State.sbPump s) := by
  unfold State.sbPump
  try dsimp only
  repeat'
    first
    | with_reducible assumption
    | (exact in_of hm rfl)
    | intro _
    | with_reducible apply fr_gapMove
    | with_reducible apply fr_modSbox
    | with_reducible apply fr_sbRun
    | with_reducible apply fr_sbUrge
    | (refine fr_of_fst (by with_reducible assumption) ?_)
    | with_reducible apply fr_if
    | with_reducible apply fr_ifn
    | with_reducible apply fr_foldl
    | with_reducible apply fr_foldl_fst
    | split

theorem fr_sbHold {mm : Nat} {s0 s : State} (hm : In 131072 mm) (h : Fr mm s0 s) :
    Fr mm s0 (State.sbHold s) := by
  unfold State.sbHold
  try dsimp only
  repeat'
    first
    | with_reducible assumption
    | (exact in_of hm rfl)
    | intro _
    | with_reducible apply fr_modSbox

theorem fr_sbRelease {mm : Nat} {s0 s : State} (hm : In 393217 mm) (h : Fr mm s0 s) :
    Fr mm s0 (State.sbRelease s) := by
  unfold State.sbRelease
  try dsimp only
  repeat'
    first
    | with_reducible assumption
    | (exact in_of hm rfl)
    | intro _
    | with_reducible apply fr_resumeErase
    | with_reducible apply fr_sbPump
    | with_reducible apply fr_if
    | with_reducible apply fr_ifn
    | with_reducible apply fr_foldl

theorem fr_sbUnhold {mm : Nat} {s0 s : State} (hm : In 393217 mm) (h : Fr mm s0 s) :
    Fr mm s0 (State.sbUnhold s) := by
  unfold State.sbUnhold
  try dsimp only
  repeat'
    first
    | with_reducible assumption
    | (exact in_of hm rfl)
    | intro _
    | with_reducible apply fr_modSbox
    | with_reducible apply fr_sbRelease

/-! ### Machine/PersistOps.lean -/

theorem fr_arrivalWritten {mm : Nat} {s0 s : State} (hm : In 309121 mm) (h : Fr mm s0 s) (g : Nat) :
    Fr mm s0 (State.arrivalWritten s g) := by
  unfold State.arrivalWritten
  try dsimp only
  repeat'
    first
    | with_reducible assumption
    | (exact in_of hm rfl)
    | intro _
    | with_reducible apply fr_dropArrival
    | with_reducible apply fr_freeKept
    | with_reducible apply fr_modDir
    | with_reducible apply fr_putArrival
    | with_reducible apply fr_tell
    | with_reducible apply fr_if
    | with_reducible apply fr_ifn
    | split

theorem fr_rebuildCheck {mm : Nat} {s0 s : State} (hm : In 308481 mm) (h : Fr mm s0 s) (d : Nat) :
    Fr mm s0 (State.rebuildCheck s d) := by
  unfold State.rebuildCheck
  try dsimp only
  repeat'
    first
    | with_reducible assumption
    | (exact in_of hm rfl)
    | intro _
    | with_reducible apply fr_modDrive
    | with_reducible apply fr_modPersist
    | with_reducible apply fr_throttleCheck
    | with_reducible apply fr_if

theorem fr_rebuildWritten {mm : Nat} {s0 s : State} (hm : In 308481 mm) (h : Fr mm s0 s) (g : Nat) (ds : List Nat) :
    Fr mm s0 (State.rebuildWritten s g ds) := by
  unfold State.rebuildWritten
  try dsimp only
  repeat'
    first
    | with_reducible assumption
    | (exact in_of hm rfl)
    | intro _
    | with_reducible apply fr_modDrive
    | with_reducible apply fr_rebuildCheck
    | with_reducible apply fr_foldl

theorem fr_pointCheck {mm : Nat} {s0 s : State} (hm : In 327651 mm) (h : Fr mm s0 s) :
    Fr mm s0 (State.pointCheck s) := by
  unfold State.pointCheck
  try dsimp only
  repeat'
    first
    | with_reducible assumption
    | (exact in_of hm rfl)
    | intro _
    | with_reducible apply fr_ackChunks
    | with_reducible apply fr_modPersist
    | with_reducible apply fr_opDone
    | with_reducible apply fr_passesAfterPoint
    | with_reducible apply fr_raise
    | with_reducible apply fr_settled
    | with_reducible apply fr_if
    | with_reducible apply fr_ifn
    | split

theorem fr_startMap {mm : Nat} {s0 s : State} (hm : In 256 mm) (h : Fr mm s0 s) (active : Bool) (slots : List Nat) :
    Fr mm s0 (State.startMap s active slots) := by
  unfold State.startMap
  try dsimp only
  repeat'
    first
    | with_reducible assumption
    | (exact in_of hm rfl)
    | intro _
    | with_reducible apply fr_modPersist

theorem fr_pumpFlush {mm : Nat} {s0 s : State} (hm : In 308577 mm) (h : Fr mm s0 s) :
    Fr mm s0 (State.pumpFlush s) := by
  unfold State.pumpFlush
  try dsimp only
  repeat'
    first
    | with_reducible assumption
    | (exact in_of hm rfl)
    | intro _
    | with_reducible apply fr_issueHome
    | with_reducible apply fr_if
    | with_reducible apply fr_ifn
    | with_reducible apply fr_foldl

theorem fr_idleLinks {mm : Nat} {s0 s : State} (hm : In 325603 mm) (h : Fr mm s0 s) :
    Fr mm s0 (State.idleLinks s) := by
  unfold State.idleLinks
  try dsimp only
  repeat'
    first
    | with_reducible assumption
    | (exact in_of hm rfl)
    | intro _
    | with_reducible apply fr_hostPortEvent
    | with_reducible apply fr_modPersist
    | with_reducible apply fr_portEvent
    | with_reducible apply fr_portGone
    | with_reducible apply fr_portLost
    | (refine fr_of_fst (by with_reducible assumption) ?_)
    | with_reducible apply fr_if
    | with_reducible apply fr_ifn
    | with_reducible apply fr_foldl

theorem fr_park {mm : Nat} {s0 s : State} (hm : In 849891 mm) (h : Fr mm s0 s) :
    Fr mm s0 (State.park s) := by
  unfold State.park
  try dsimp only
  repeat'
    first
    | with_reducible assumption
    | (exact in_of hm rfl)
    | intro _
    | with_reducible apply fr_idleLinks
    | with_reducible apply fr_modDram
    | with_reducible apply fr_modPower
    | (refine fr_of_fst (by with_reducible assumption) ?_)
    | with_reducible apply fr_if

theorem fr_unpark {mm : Nat} {s0 s : State} (hm : In 532736 mm) (h : Fr mm s0 s) :
    Fr mm s0 (State.unpark s) := by
  unfold State.unpark
  try dsimp only
  repeat'
    first
    | with_reducible assumption
    | (exact in_of hm rfl)
    | intro _
    | with_reducible apply fr_modDram
    | with_reducible apply fr_modPersist
    | with_reducible apply fr_modPower
    | (refine fr_of_fst (by with_reducible assumption) ?_)
    | with_reducible apply fr_if

theorem fr_vmainStop {mm : Nat} {s0 s : State} (hm : In 796512 mm) (h : Fr mm s0 s) (keep : Bool) :
    Fr mm s0 (State.vmainStop s keep) := by
  unfold State.vmainStop
  try dsimp only
  repeat'
    first
    | with_reducible assumption
    | (exact in_of hm rfl)
    | intro _
    | with_reducible apply fr_modDram
    | with_reducible apply fr_modHinge
    | with_reducible apply fr_modHost
    | with_reducible apply fr_modPersist
    | with_reducible apply fr_modPower
    | with_reducible apply fr_modRings
    | with_reducible apply fr_modTwin
    | with_reducible apply fr_syncMode

theorem fr_afterSeal {mm : Nat} {s0 s : State} (hm : In 849891 mm) (h : Fr mm s0 s) :
    Fr mm s0 (State.afterSeal s) := by
  unfold State.afterSeal
  try dsimp only
  repeat'
    first
    | with_reducible assumption
    | (exact in_of hm rfl)
    | intro _
    | with_reducible apply fr_park
    | with_reducible apply fr_vmainStop
    | with_reducible apply fr_if

theorem fr_seal {mm : Nat} {s0 s : State} (hm : In 983011 mm) (h : Fr mm s0 s) :
    Fr mm s0 (State.seal s) := by
  unfold State.seal
  try dsimp only
  repeat'
    first
    | with_reducible assumption
    | (exact in_of hm rfl)
    | intro _
    | with_reducible apply fr_afterSeal
    | with_reducible apply fr_modPersist
    | with_reducible apply fr_modRings
    | with_reducible apply fr_pointCheck
    | with_reducible apply fr_raise
    | with_reducible apply fr_sbRelease
    | with_reducible apply fr_send
    | with_reducible apply fr_writeHeader
    | with_reducible apply fr_if

theorem fr_sealCheck {mm : Nat} {s0 s : State} (hm : In 983011 mm) (h : Fr mm s0 s) :
    Fr mm s0 (State.sealCheck s) := by
  unfold State.sealCheck
  try dsimp only
  repeat'
    first
    | with_reducible assumption
    | (exact in_of hm rfl)
    | intro _
    | with_reducible apply fr_seal
    | with_reducible apply fr_if

theorem fr_progressHeader {mm : Nat} {s0 s : State} (hm : In 262401 mm) (h : Fr mm s0 s) (left : Nat) :
    Fr mm s0 (State.progressHeader s left) := by
  unfold State.progressHeader
  try dsimp only
  repeat'
    first
    | with_reducible assumption
    | (exact in_of hm rfl)
    | intro _
    | with_reducible apply fr_writeHeader
    | with_reducible apply fr_if
    | with_reducible apply fr_ifn
    | split

theorem fr_afterHome {mm : Nat} {s0 s : State} (hm : In 983011 mm) (h : Fr mm s0 s) :
    Fr mm s0 (State.afterHome s) := by
  unfold State.afterHome
  try dsimp only
  repeat'
    first
    | with_reducible assumption
    | (exact in_of hm rfl)
    | intro _
    | with_reducible apply fr_advanceWorks
    | with_reducible apply fr_afterClean
    | with_reducible apply fr_completeWrites
    | with_reducible apply fr_pointCheck
    | with_reducible apply fr_pumpFlush
    | with_reducible apply fr_pumpUrgent
    | with_reducible apply fr_sealCheck
    | with_reducible apply fr_if

theorem fr_cleanNotice {mm : Nat} {s0 s : State} (hm : In 308225 mm) (h : Fr mm s0 s) (g : Nat) :
    Fr mm s0 (State.cleanNotice s g) := by
  unfold State.cleanNotice
  try dsimp only
  repeat'
    first
    | with_reducible assumption
    | (exact in_of hm rfl)
    | intro _
    | with_reducible apply fr_count
    | with_reducible apply fr_sendOn
    | with_reducible apply fr_if
    | with_reducible apply fr_ifn
    | split

theorem fr_clearTable {mm : Nat} {s0 s : State} (hm : In 257 mm) (h : Fr mm s0 s) (g : Nat) (ds : List Nat) :
    Fr mm s0 (State.clearTable s g ds) := by
  unfold State.clearTable
  try dsimp only
  repeat'
    first
    | with_reducible assumption
    | (exact in_of hm rfl)
    | intro _
    | with_reducible apply fr_emits
    | with_reducible apply fr_modPersist

theorem fr_homeWritten {mm : Nat} {s0 s : State} (hm : In 983011 mm) (h : Fr mm s0 s) (w : HomeW) :
    Fr mm s0 (State.homeWritten s w) := by
  unfold State.homeWritten
  try dsimp only
  repeat'
    first
    | with_reducible assumption
    | (exact in_of hm rfl)
    | with_reducible apply fr_id
    | intro _
    | with_reducible apply fr_afterHome
    | with_reducible apply fr_arrivalWritten
    | with_reducible apply fr_cleanNotice
    | with_reducible apply fr_clearTable
    | with_reducible apply fr_count
    | with_reducible apply fr_modPersist
    | with_reducible apply fr_modRings
    | with_reducible apply fr_progressHeader
    | with_reducible apply fr_rebuildWritten
    | (refine fr_of_fst (by with_reducible assumption) ?_)
    | with_reducible apply fr_if

theorem fr_endNeedsHome {mm : Nat} {s0 s : State} (hm : In 308577 mm) (h : Fr mm s0 s) :
    Fr mm s0 (State.endNeedsHome s) := by
  unfold State.endNeedsHome
  try dsimp only
  repeat'
    first
    | with_reducible assumption
    | (exact in_of hm rfl)
    | intro _
    | with_reducible apply fr_granFailed
    | with_reducible apply fr_if
    | with_reducible apply fr_ifn
    | with_reducible apply fr_foldl

theorem fr_driveGone {mm : Nat} {s0 s : State} (hm : In 983011 mm) (h : Fr mm s0 s) (d : Nat) (status : Nat) (lba : Nat) :
    Fr mm s0 (State.driveGone s d status lba) := by
  unfold State.driveGone
  try dsimp only
  repeat'
    first
    | with_reducible assumption
    | (exact in_of hm rfl)
    | intro _
    | with_reducible apply fr_afterHome
    | with_reducible apply fr_driveLost
    | with_reducible apply fr_endNeedsHome
    | with_reducible apply fr_granFailed
    | with_reducible apply fr_modPersist
    | with_reducible apply fr_foldl

theorem fr_homeFail {mm : Nat} {s0 s : State} (hm : In 983011 mm) (h : Fr mm s0 s) (w : HomeW) (d : Nat) (status : Nat) :
    Fr mm s0 (State.homeFail s w d status) := by
  unfold State.homeFail
  try dsimp only
  repeat'
    first
    | with_reducible assumption
    | (exact in_of hm rfl)
    | with_reducible apply fr_id
    | intro _
    | with_reducible apply fr_count
    | with_reducible apply fr_driveGone
    | with_reducible apply fr_emit
    | with_reducible apply fr_modDrive
    | with_reducible apply fr_modPersist
    | with_reducible apply fr_if

theorem fr_setOverride {mm : Nat} {s0 s : State} (hm : In 266240 mm) (h : Fr mm s0 s) (on : Bool) :
    Fr mm s0 (State.setOverride s on) := by
  unfold State.setOverride
  try dsimp only
  repeat'
    first
    | with_reducible assumption
    | (exact in_of hm rfl)
    | intro _
    | with_reducible apply fr_modLattice
    | with_reducible apply fr_raise
    | with_reducible apply fr_if

theorem fr_commitFlush {mm : Nat} {s0 s : State} (hm : In 983011 mm) (h : Fr mm s0 s) :
    Fr mm s0 (State.commitFlush s) := by
  unfold State.commitFlush
  try dsimp only
  repeat'
    first
    | with_reducible assumption
    | (exact in_of hm rfl)
    | intro _
    | with_reducible apply fr_modHost
    | with_reducible apply fr_modPersist
    | with_reducible apply fr_raise
    | with_reducible apply fr_sbHold
    | with_reducible apply fr_seal
    | with_reducible apply fr_send
    | with_reducible apply fr_setOverride
    | with_reducible apply fr_startMap
    | with_reducible apply fr_throttleNotice
    | with_reducible apply fr_if

theorem fr_flushSnapshot {mm : Nat} {s0 s : State} (hm : In 983011 mm) (h : Fr mm s0 s) :
    Fr mm s0 (State.flushSnapshot s) := by
  unfold State.flushSnapshot
  try dsimp only
  repeat'
    first
    | with_reducible assumption
    | (exact in_of hm rfl)
    | intro _
    | with_reducible apply fr_modPersist
    | with_reducible apply fr_pumpFlush
    | with_reducible apply fr_seal
    | with_reducible apply fr_sealCheck
    | with_reducible apply fr_startMap
    | with_reducible apply fr_if

theorem fr_resumeService {mm : Nat} {s0 s : State} (hm : In 983011 mm) (h : Fr mm s0 s) :
    Fr mm s0 (State.resumeService s) := by
  unfold State.resumeService
  try dsimp only
  repeat'
    first
    | with_reducible assumption
    | (exact in_of hm rfl)
    | intro _
    | with_reducible apply fr_afterHome
    | with_reducible apply fr_count
    | with_reducible apply fr_modHost
    | with_reducible apply fr_modPersist
    | with_reducible apply fr_openHome
    | with_reducible apply fr_raise
    | with_reducible apply fr_sbUnhold
    | with_reducible apply fr_setOverride
    | with_reducible apply fr_unpark
    | with_reducible apply fr_if

theorem fr_poisonSuspect {mm : Nat} {s0 s : State} (hm : In 16384 mm) (h : Fr mm s0 s) (g : Nat) :
    Fr mm s0 (State.poisonSuspect s g) := by
  unfold State.poisonSuspect
  try dsimp only
  repeat'
    first
    | with_reducible assumption
    | (exact in_of hm rfl)
    | intro _
    | with_reducible apply fr_poisonLines
    | with_reducible apply fr_if

theorem fr_markSuspect {mm : Nat} {s0 s : State} (hm : In 325377 mm) (h : Fr mm s0 s) (slot : Nat) :
    Fr mm s0 (State.markSuspect s slot) := by
  unfold State.markSuspect
  try dsimp only
  repeat'
    first
    | with_reducible assumption
    | (exact in_of hm rfl)
    | intro _
    | with_reducible apply fr_modPersist
    | with_reducible apply fr_poisonEnterSpan
    | with_reducible apply fr_poisonSuspect
    | with_reducible apply fr_raise
    | with_reducible apply fr_if
    | with_reducible apply fr_ifn
    | with_reducible apply fr_foldl

theorem fr_restoreOpen {mm : Nat} {s0 s : State} (hm : In 325603 mm) (h : Fr mm s0 s) :
    Fr mm s0 (State.restoreOpen s) := by
  unfold State.restoreOpen
  try dsimp only
  repeat'
    first
    | with_reducible assumption
    | (exact in_of hm rfl)
    | intro _
    | with_reducible apply fr_afterClean
    | with_reducible apply fr_openHome
    | with_reducible apply fr_if

theorem fr_rebuildDir {mm : Nat} {s0 s : State} (hm : In 325603 mm) (h : Fr mm s0 s) (key : Nat) :
    Fr mm s0 (State.rebuildDir s key) := by
  unfold State.rebuildDir
  try dsimp only
  repeat'
    first
    | with_reducible assumption
    | (exact in_of hm rfl)
    | intro _
    | with_reducible apply fr_modDir
    | with_reducible apply fr_modPlace
    | with_reducible apply fr_rebuilt
    | with_reducible apply fr_sendAll
    | (refine fr_of_fst (by with_reducible assumption) ?_)
    | split

theorem fr_rebuildAll {mm : Nat} {s0 s : State} (hm : In 325603 mm) (h : Fr mm s0 s) :
    Fr mm s0 (State.rebuildAll s) := by
  unfold State.rebuildAll
  try dsimp only
  repeat'
    first
    | with_reducible assumption
    | (exact in_of hm rfl)
    | intro _
    | with_reducible apply fr_rebuildDir
    | with_reducible apply fr_foldl

theorem fr_rebuildMeta {mm : Nat} {s0 s : State} (hm : In 325603 mm) (h : Fr mm s0 s) :
    Fr mm s0 (State.rebuildMeta s) := by
  unfold State.rebuildMeta
  try dsimp only
  repeat'
    first
    | with_reducible assumption
    | (exact in_of hm rfl)
    | intro _
    | with_reducible apply fr_modEcc
    | with_reducible apply fr_modPersist
    | with_reducible apply fr_modPlace
    | with_reducible apply fr_rebuildAll

theorem fr_restoreArrivals {mm : Nat} {s0 s : State} (hm : In 256 mm) (h : Fr mm s0 s) (c : Nat) :
    Fr mm s0 (State.restoreArrivals s c) := by
  unfold State.restoreArrivals
  try dsimp only
  repeat'
    first
    | with_reducible assumption
    | (exact in_of hm rfl)
    | intro _
    | with_reducible apply fr_modPersist
    | with_reducible apply fr_if

theorem fr_restoreEvent {mm : Nat} {s0 s : State} (hm : In 262144 mm) (h : Fr mm s0 s) (c : Nat) (extents : Nat) :
    Fr mm s0 (State.restoreEvent s c extents) := by
  unfold State.restoreEvent
  try dsimp only
  repeat'
    first
    | with_reducible assumption
    | (exact in_of hm rfl)
    | intro _
    | with_reducible apply fr_raise

theorem fr_granRestored {mm : Nat} {s0 s : State} (hm : In 325603 mm) (h : Fr mm s0 s) (g : Nat) :
    Fr mm s0 (State.granRestored s g) := by
  unfold State.granRestored
  try dsimp only
  repeat'
    first
    | with_reducible assumption
    | (exact in_of hm rfl)
    | intro _
    | with_reducible apply fr_advanceWorks
    | with_reducible apply fr_count
    | with_reducible apply fr_modPersist
    | with_reducible apply fr_poisonSuspect
    | with_reducible apply fr_restoreEvent
    | with_reducible apply fr_restoreOpen
    | with_reducible apply fr_resume
    | (refine fr_of_fst (by with_reducible assumption) ?_)
    | with_reducible apply fr_if

theorem fr_putGranule {mm : Nat} {s0 s : State} (hm : In 325379 mm) (h : Fr mm s0 s) (g : Nat) (b : Bytes) (bad : List Nat) :
    Fr mm s0 (State.putGranule s g b bad) := by
  unfold State.putGranule
  try dsimp only
  repeat'
    first
    | with_reducible assumption
    | (exact in_of hm rfl)
    | intro _
    | with_reducible apply fr_askWrite
    | with_reducible apply fr_poisonEnter
    | with_reducible apply fr_putLine
    | (refine fr_of_fst (by with_reducible assumption) ?_)
    | with_reducible apply fr_if
    | with_reducible apply fr_ifn
    | with_reducible apply fr_foldl

theorem fr_granUnreadable {mm : Nat} {s0 s : State} (hm : In 325603 mm) (h : Fr mm s0 s) (g : Nat) :
    Fr mm s0 (State.granUnreadable s g) := by
  unfold State.granUnreadable
  try dsimp only
  repeat'
    first
    | with_reducible assumption
    | (exact in_of hm rfl)
    | intro _
    | with_reducible apply fr_granRestored
    | with_reducible apply fr_modPersist
    | with_reducible apply fr_poisonEnter
    | with_reducible apply fr_poisonLines
    | with_reducible apply fr_raise
    | with_reducible apply fr_if
    | with_reducible apply fr_ifn
    | with_reducible apply fr_foldl

theorem fr_endUnreadable {mm : Nat} {s0 s : State} (hm : In 325603 mm) (h : Fr mm s0 s) :
    Fr mm s0 (State.endUnreadable s) := by
  unfold State.endUnreadable
  try dsimp only
  repeat'
    first
    | with_reducible assumption
    | (exact in_of hm rfl)
    | intro _
    | with_reducible apply fr_granUnreadable
    | with_reducible apply fr_modPersist
    | with_reducible apply fr_raise
    | with_reducible apply fr_if
    | with_reducible apply fr_ifn
    | with_reducible apply fr_foldl

theorem fr_restoreReads {mm : Nat} {s0 s : State} (hm : In 325603 mm) (h : Fr mm s0 s) :
    Fr mm s0 (State.restoreReads s) := by
  unfold State.restoreReads
  try dsimp only
  repeat'
    first
    | with_reducible assumption
    | (exact in_of hm rfl)
    | intro _
    | with_reducible apply fr_askGranule
    | with_reducible apply fr_endUnreadable
    | with_reducible apply fr_restoreOpen
    | with_reducible apply fr_foldl

theorem fr_restoreStart {mm : Nat} {s0 s : State} (hm : In 325603 mm) (h : Fr mm s0 s) :
    Fr mm s0 (State.restoreStart s) := by
  unfold State.restoreStart
  try dsimp only
  repeat'
    first
    | with_reducible assumption
    | (exact in_of hm rfl)
    | intro _
    | with_reducible apply fr_endCooling
    | with_reducible apply fr_markSuspect
    | with_reducible apply fr_modPersist
    | with_reducible apply fr_openHome
    | with_reducible apply fr_rebuildAll
    | with_reducible apply fr_rebuildMeta
    | with_reducible apply fr_restoreArrivals
    | with_reducible apply fr_restoreEvent
    | with_reducible apply fr_restoreOpen
    | with_reducible apply fr_restoreReads
    | with_reducible apply fr_if
    | with_reducible apply fr_ifn
    | with_reducible apply fr_foldl

theorem fr_startRestore {mm : Nat} {s0 s : State} (hm : In 983011 mm) (h : Fr mm s0 s) :
    Fr mm s0 (State.startRestore s) := by
  unfold State.startRestore
  try dsimp only
  repeat'
    first
    | with_reducible assumption
    | (exact in_of hm rfl)
    | intro _
    | with_reducible apply fr_afterHome
    | with_reducible apply fr_restoreStart
    | with_reducible apply fr_if

/-! ### Machine/Strongbox.lean -/

theorem fr_sbSubmit {mm : Nat} {s0 s : State} (hm : In 393217 mm) (h : Fr mm s0 s) (op : Nat) (d : SbDesc) (bad : List Nat) :
    Fr mm s0 (State.sbSubmit s op d bad).1 := by
  unfold State.sbSubmit
  try dsimp only
  repeat'
    first
    | with_reducible assumption
    | (exact in_of hm rfl)
    | intro _
    | with_reducible apply fr_emit
    | with_reducible apply fr_modSbox
    | with_reducible apply fr_raise
    | with_reducible apply fr_sbComplete
    | with_reducible apply fr_sbPump
    | with_reducible apply fr_sbResumeNow
    | with_reducible apply fr_sbSuspendNow
    | (refine fr_of_fst (by with_reducible assumption) ?_)
    | with_reducible apply fr_if
    | with_reducible apply fr_ifn
    | split

theorem fr_execSbRead {mm : Nat} {s0 s : State} (hm : In 393217 mm) (h : Fr mm s0 s) (d : SbDesc) (bad : List Nat) :
    FrOut mm s0 (execSbRead d bad s) := by
  unfold execSbRead
  try dsimp only
  repeat'
    first
    | with_reducible assumption
    | (exact in_of hm rfl)
    | with_reducible apply frOut_next
    | intro _
    | with_reducible apply fr_sbSubmit

theorem fr_execSbProgram {mm : Nat} {s0 s : State} (hm : In 393217 mm) (h : Fr mm s0 s) (d : SbDesc) :
    FrOut mm s0 (execSbProgram d s) := by
  unfold execSbProgram
  try dsimp only
  repeat'
    first
    | with_reducible assumption
    | (exact in_of hm rfl)
    | with_reducible apply frOut_next
    | intro _
    | with_reducible apply fr_sbSubmit

theorem fr_execSbErase {mm : Nat} {s0 s : State} (hm : In 393217 mm) (h : Fr mm s0 s) (d : SbDesc) :
    FrOut mm s0 (execSbErase d s) := by
  unfold execSbErase
  try dsimp only
  repeat'
    first
    | with_reducible assumption
    | (exact in_of hm rfl)
    | with_reducible apply frOut_next
    | intro _
    | with_reducible apply fr_sbSubmit

theorem fr_execSbSuspend {mm : Nat} {s0 s : State} (hm : In 393217 mm) (h : Fr mm s0 s) (d : SbDesc) :
    FrOut mm s0 (execSbSuspend d s) := by
  unfold execSbSuspend
  try dsimp only
  repeat'
    first
    | with_reducible assumption
    | (exact in_of hm rfl)
    | with_reducible apply frOut_next
    | intro _
    | with_reducible apply fr_sbSubmit

theorem fr_execSbResume {mm : Nat} {s0 s : State} (hm : In 393217 mm) (h : Fr mm s0 s) (d : SbDesc) :
    FrOut mm s0 (execSbResume d s) := by
  unfold execSbResume
  try dsimp only
  repeat'
    first
    | with_reducible assumption
    | (exact in_of hm rfl)
    | with_reducible apply frOut_next
    | intro _
    | with_reducible apply fr_sbSubmit

theorem fr_execSbMarginRead {mm : Nat} {s0 s : State} (hm : In 393217 mm) (h : Fr mm s0 s) (d : SbDesc) (bad : List Nat) :
    FrOut mm s0 (execSbMarginRead d bad s) := by
  unfold execSbMarginRead
  try dsimp only
  repeat'
    first
    | with_reducible assumption
    | (exact in_of hm rfl)
    | with_reducible apply frOut_next
    | intro _
    | with_reducible apply fr_sbSubmit

theorem fr_compact {mm : Nat} {s0 s : State} (hm : In 131072 mm) (h : Fr mm s0 s) :
    Fr mm s0 (State.compact s) := by
  unfold State.compact
  try dsimp only
  repeat'
    first
    | with_reducible assumption
    | (exact in_of hm rfl)
    | intro _
    | with_reducible apply fr_modSbox
    | with_reducible apply fr_modSector
    | (refine fr_of_fst (by with_reducible assumption) ?_)
    | with_reducible apply fr_if
    | with_reducible apply fr_ifn
    | split

theorem fr_recorderFailed {mm : Nat} {s0 s : State} (hm : In 262144 mm) (h : Fr mm s0 s) (l : Nat) (page : Nat) (status : Nat) :
    Fr mm s0 (State.recorderFailed s l page status) := by
  unfold State.recorderFailed
  try dsimp only
  repeat'
    first
    | with_reducible assumption
    | (exact in_of hm rfl)
    | intro _
    | with_reducible apply fr_raise
    | with_reducible apply fr_if

theorem fr_progEnds {mm : Nat} {s0 s : State} (hm : In 393217 mm) (h : Fr mm s0 s) (n : Nat) (g : SbProg) (status : Nat) :
    Fr mm s0 (State.progEnds s n g status) := by
  unfold State.progEnds
  try dsimp only
  repeat'
    first
    | with_reducible assumption
    | (exact in_of hm rfl)
    | intro _
    | with_reducible apply fr_modPlane
    | with_reducible apply fr_modSector
    | with_reducible apply fr_sbComplete
    | with_reducible apply fr_sbPump
    | with_reducible apply fr_suspendCheck
    | with_reducible apply fr_if

theorem fr_execPagePulseDone {mm : Nat} {s0 s : State} (hm : In 393217 mm) (h : Fr mm s0 s) (plane : Nat) (verified : Bool) :
    FrOut mm s0 (execPagePulseDone plane verified s) := by
  unfold execPagePulseDone
  try dsimp only
  repeat'
    first
    | with_reducible assumption
    | (exact in_of hm rfl)
    | with_reducible apply frOut_next
    | intro _
    | with_reducible apply fr_compact
    | with_reducible apply fr_modPlane
    | with_reducible apply fr_modSector
    | with_reducible apply fr_progEnds
    | with_reducible apply fr_raise
    | with_reducible apply fr_recorderFailed
    | with_reducible apply fr_done
    | with_reducible apply fr_if
    | with_reducible apply fr_ifn
    | split

theorem fr_eraseFailed {mm : Nat} {s0 s : State} (hm : In 393225 mm) (h : Fr mm s0 s) (n : Nat) :
    Fr mm s0 (State.eraseFailed s n) := by
  unfold State.eraseFailed
  try dsimp only
  repeat'
    first
    | with_reducible assumption
    | (exact in_of hm rfl)
    | intro _
    | with_reducible apply fr_countErase
    | with_reducible apply fr_frameBad
    | with_reducible apply fr_modPlane
    | with_reducible apply fr_modSector
    | with_reducible apply fr_recorderFailed
    | with_reducible apply fr_sbComplete
    | with_reducible apply fr_sbPump
    | with_reducible apply fr_takeSpare
    | with_reducible apply fr_if
    | with_reducible apply fr_ifn
    | split

theorem fr_mapSectorErased {mm : Nat} {s0 s : State} (hm : In 131328 mm) (h : Fr mm s0 s) (l : Nat) :
    Fr mm s0 (State.mapSectorErased s l) := by
  unfold State.mapSectorErased
  try dsimp only
  repeat'
    first
    | with_reducible assumption
    | (exact in_of hm rfl)
    | intro _
    | with_reducible apply fr_modPersist
    | with_reducible apply fr_modSbox
    | with_reducible apply fr_if

theorem fr_mapNowReady {mm : Nat} {s0 s : State} (hm : In 983011 mm) (h : Fr mm s0 s) :
    Fr mm s0 (State.mapNowReady s) := by
  unfold State.mapNowReady
  try dsimp only
  repeat'
    first
    | with_reducible assumption
    | (exact in_of hm rfl)
    | intro _
    | with_reducible apply fr_restoreOpen
    | with_reducible apply fr_resumeService
    | with_reducible apply fr_if

theorem fr_eraseDone {mm : Nat} {s0 s : State} (hm : In 983011 mm) (h : Fr mm s0 s) (n : Nat) :
    Fr mm s0 (State.eraseDone s n) := by
  unfold State.eraseDone
  try dsimp only
  repeat'
    first
    | with_reducible assumption
    | (exact in_of hm rfl)
    | intro _
    | with_reducible apply fr_countErase
    | with_reducible apply fr_mapNowReady
    | with_reducible apply fr_mapSectorErased
    | with_reducible apply fr_modPlane
    | with_reducible apply fr_modSbox
    | with_reducible apply fr_modSector
    | with_reducible apply fr_raise
    | with_reducible apply fr_sbComplete
    | with_reducible apply fr_sbPump
    | with_reducible apply fr_if
    | with_reducible apply fr_ifn
    | split

theorem fr_execErasePulseDone {mm : Nat} {s0 s : State} (hm : In 393225 mm) (h : Fr mm s0 s) (plane : Nat) (verified : Bool) :
    FrOut mm s0 (execErasePulseDone plane verified s) := by
  unfold execErasePulseDone
  try dsimp only
  repeat'
    first
    | with_reducible assumption
    | (exact in_of hm rfl)
    | with_reducible apply frOut_next
    | intro _
    | with_reducible apply fr_eraseFailed
    | with_reducible apply fr_modPlane
    | with_reducible apply fr_done
    | with_reducible apply fr_if

theorem fr_execFlagCellPulseDone {mm : Nat} {s0 s : State} (hm : In 983019 mm) (h : Fr mm s0 s) (plane : Nat) (verified : Bool) :
    FrOut mm s0 (execFlagCellPulseDone plane verified s) := by
  unfold execFlagCellPulseDone
  try dsimp only
  repeat'
    first
    | with_reducible assumption
    | (exact in_of hm rfl)
    | with_reducible apply frOut_next
    | intro _
    | with_reducible apply fr_eraseDone
    | with_reducible apply fr_eraseFailed
    | with_reducible apply fr_modPlane
    | with_reducible apply fr_modSector
    | with_reducible apply fr_done
    | with_reducible apply fr_if

theorem fr_execSuspendHoldExpiry {mm : Nat} {s0 s : State} (hm : In 393217 mm) (h : Fr mm s0 s) (plane : Nat) :
    FrOut mm s0 (execSuspendHoldExpiry plane s) := by
  unfold execSuspendHoldExpiry
  try dsimp only
  repeat'
    first
    | with_reducible assumption
    | (exact in_of hm rfl)
    | with_reducible apply frOut_next
    | intro _
    | with_reducible apply fr_resumeErase
    | with_reducible apply fr_sbPump
    | with_reducible apply fr_done
    | with_reducible apply fr_if

theorem fr_execMinRunTimeElapsed {mm : Nat} {s0 s : State} (hm : In 393217 mm) (h : Fr mm s0 s) (plane : Nat) :
    FrOut mm s0 (execMinRunTimeElapsed plane s) := by
  unfold execMinRunTimeElapsed
  try dsimp only
  repeat'
    first
    | with_reducible assumption
    | (exact in_of hm rfl)
    | with_reducible apply frOut_next
    | intro _
    | with_reducible apply fr_sbPump
    | with_reducible apply fr_done
    | with_reducible apply fr_if

theorem fr_sbCut {mm : Nat} {s0 s : State} (hm : In 131072 mm) (h : Fr mm s0 s) :
    Fr mm s0 (State.sbCut s) := by
  unfold State.sbCut
  try dsimp only
  repeat'
    first
    | with_reducible assumption
    | (exact in_of hm rfl)
    | intro _
    | with_reducible apply fr_modSbox
    | with_reducible apply fr_modSector
    | with_reducible apply fr_tick
    | (refine fr_of_fst (by with_reducible assumption) ?_)
    | with_reducible apply fr_if
    | with_reducible apply fr_ifn
    | with_reducible apply fr_foldl

theorem fr_journalCheck {mm : Nat} {s0 s : State} (hm : In 393216 mm) (h : Fr mm s0 s) :
    Fr mm s0 (State.journalCheck s) := by
  unfold State.journalCheck
  try dsimp only
  repeat'
    first
    | with_reducible assumption
    | (exact in_of hm rfl)
    | intro _
    | with_reducible apply fr_modSbox
    | with_reducible apply fr_modSector
    | with_reducible apply fr_raise
    | with_reducible apply fr_if
    | with_reducible apply fr_ifn
    | with_reducible apply fr_foldl

theorem fr_sbCheck {mm : Nat} {s0 s : State} (hm : In 393472 mm) (h : Fr mm s0 s) :
    Fr mm s0 (State.sbCheck s) := by
  unfold State.sbCheck
  try dsimp only
  repeat'
    first
    | with_reducible assumption
    | (exact in_of hm rfl)
    | intro _
    | with_reducible apply fr_journalCheck
    | with_reducible apply fr_mapSectorErased
    | with_reducible apply fr_modSbox
    | with_reducible apply fr_modSector
    | with_reducible apply fr_raise
    | with_reducible apply fr_if
    | with_reducible apply fr_ifn
    | with_reducible apply fr_foldl

/-! ### Machine/Pool.lean -/

theorem fr_atRoot {mm : Nat} {s0 s : State} (hm : In 327659 mm) (h : Fr mm s0 s) (a : Action) (dev : Nat) :
    Fr mm s0 (State.atRoot s a dev) := by
  unfold State.atRoot
  try dsimp only
  repeat'
    first
    | with_reducible assumption
    | (exact in_of hm rfl)
    | intro _
    | with_reducible apply fr_action
    | with_reducible apply fr_settled
    | with_reducible apply fr_if

theorem fr_execVolumeCreate {mm : Nat} {s0 s : State} (hm : In 327659 mm) (h : Fr mm s0 s) (n : Nat) (size : Nat) (cls : Nat) (label : Nat) (dev : Nat) :
    FrOut mm s0 (execVolumeCreate n size cls label dev s) := by
  unfold execVolumeCreate
  try dsimp only
  repeat'
    first
    | with_reducible assumption
    | (exact in_of hm rfl)
    | with_reducible apply frOut_next
    | intro _
    | with_reducible apply fr_atRoot

theorem fr_execVolumeResize {mm : Nat} {s0 s : State} (hm : In 327659 mm) (h : Fr mm s0 s) (n : Nat) (size : Nat) (dev : Nat) :
    FrOut mm s0 (execVolumeResize n size dev s) := by
  unfold execVolumeResize
  try dsimp only
  repeat'
    first
    | with_reducible assumption
    | (exact in_of hm rfl)
    | with_reducible apply frOut_next
    | intro _
    | with_reducible apply fr_atRoot

theorem fr_execVolumeDelete {mm : Nat} {s0 s : State} (hm : In 327659 mm) (h : Fr mm s0 s) (n : Nat) (dev : Nat) :
    FrOut mm s0 (execVolumeDelete n dev s) := by
  unfold execVolumeDelete
  try dsimp only
  repeat'
    first
    | with_reducible assumption
    | (exact in_of hm rfl)
    | with_reducible apply frOut_next
    | intro _
    | with_reducible apply fr_atRoot

theorem fr_execZeroFillComplete {mm : Nat} {s0 s : State} (hm : In 264192 mm) (h : Fr mm s0 s) (n : Nat) :
    FrOut mm s0 (execZeroFillComplete n s) := by
  unfold execZeroFillComplete
  try dsimp only
  repeat'
    first
    | with_reducible assumption
    | (exact in_of hm rfl)
    | with_reducible apply frOut_next
    | intro _
    | with_reducible apply fr_freeCheck
    | with_reducible apply fr_modVol
    | with_reducible apply fr_volOutcome
    | with_reducible apply fr_done
    | with_reducible apply fr_if

theorem fr_execCapacityShareChange {mm : Nat} {s0 s : State} (hm : In 327659 mm) (h : Fr mm s0 s) (vault : Nat) (spare : Nat) (copy : Nat) (fill : Nat) (dev : Nat) :
    FrOut mm s0 (execCapacityShareChange vault spare copy fill dev s) := by
  unfold execCapacityShareChange
  try dsimp only
  repeat'
    first
    | with_reducible assumption
    | (exact in_of hm rfl)
    | with_reducible apply frOut_next
    | intro _
    | with_reducible apply fr_atRoot

theorem fr_execManifestAdd {mm : Nat} {s0 s : State} (hm : In 327659 mm) (h : Fr mm s0 s) (e : MEntry) (dev : Nat) :
    FrOut mm s0 (execManifestAdd e dev s) := by
  unfold execManifestAdd
  try dsimp only
  repeat'
    first
    | with_reducible assumption
    | (exact in_of hm rfl)
    | with_reducible apply frOut_next
    | intro _
    | with_reducible apply fr_atRoot

theorem fr_execManifestChangeAddresses {mm : Nat} {s0 s : State} (hm : In 327659 mm) (h : Fr mm s0 s) (e : MEntry) (dev : Nat) :
    FrOut mm s0 (execManifestChangeAddresses e dev s) := by
  unfold execManifestChangeAddresses
  try dsimp only
  repeat'
    first
    | with_reducible assumption
    | (exact in_of hm rfl)
    | with_reducible apply frOut_next
    | intro _
    | with_reducible apply fr_atRoot

theorem fr_execManifestRemove {mm : Nat} {s0 s : State} (hm : In 327659 mm) (h : Fr mm s0 s) (n : Nat) (dev : Nat) :
    FrOut mm s0 (execManifestRemove n dev s) := by
  unfold execManifestRemove
  try dsimp only
  repeat'
    first
    | with_reducible assumption
    | (exact in_of hm rfl)
    | with_reducible apply frOut_next
    | intro _
    | with_reducible apply fr_atRoot

theorem fr_execDirectoryMapChange {mm : Nat} {s0 s : State} (hm : In 327659 mm) (h : Fr mm s0 s) (i : Nat) (vault : Nat) (dev : Nat) :
    FrOut mm s0 (execDirectoryMapChange i vault dev s) := by
  unfold execDirectoryMapChange
  try dsimp only
  repeat'
    first
    | with_reducible assumption
    | (exact in_of hm rfl)
    | with_reducible apply frOut_next
    | intro _
    | with_reducible apply fr_atRoot

theorem fr_onTree {mm : Nat} {s0 s : State} (hm : In 327659 mm) (h : Fr mm s0 s) (h : Hdr) (t : TreeHdr) (down : Bool) (b : TBody) (f : State → State) (hf : ∀ (s : State), Fr mm s0 s → Fr mm s0 (f s)) :
    Fr mm s0 (State.onTree s h t down b f) := by
  unfold State.onTree
  try dsimp only
  repeat'
    first
    | with_reducible assumption
    | (exact in_of hm rfl)
    | intro _
    | with_reducible apply fr_castOps
    | with_reducible apply fr_rxTree
    | with_reducible apply hf
    | (refine fr_of_fst (by with_reducible assumption) ?_)
    | with_reducible apply fr_if

theorem fr_execTreeGather {mm : Nat} {s0 s : State} (hm : In 327659 mm) (h : Fr mm s0 s) (h : Hdr) (t : TreeHdr) (gen : Nat) (ranks : List (Nat × Bool)) :
    FrOut mm s0 (execTreeGather h t gen ranks s) := by
  unfold execTreeGather
  try dsimp only
  repeat'
    first
    | with_reducible assumption
    | (exact in_of hm rfl)
    | with_reducible apply frOut_next
    | intro _
    | with_reducible apply fr_afterWave
    | with_reducible apply fr_closeGatherNow
    | with_reducible apply fr_modPool
    | with_reducible apply fr_onTree
    | with_reducible apply fr_sendState
    | with_reducible apply fr_settled
    | with_reducible apply fr_done
    | (refine fr_of_fst (by with_reducible assumption) ?_)
    | with_reducible apply fr_if

theorem fr_execTreeReady {mm : Nat} {s0 s : State} (hm : In 327659 mm) (h : Fr mm s0 s) (h : Hdr) (t : TreeHdr) (segment : Nat) (present : List Nat) :
    FrOut mm s0 (execTreeReady h t segment present s) := by
  unfold execTreeReady
  try dsimp only
  repeat'
    first
    | with_reducible assumption
    | (exact in_of hm rfl)
    | with_reducible apply frOut_next
    | intro _
    | with_reducible apply fr_afterWave
    | with_reducible apply fr_applyWave
    | with_reducible apply fr_modPool
    | with_reducible apply fr_onTree
    | with_reducible apply fr_settled
    | with_reducible apply fr_treeDown
    | with_reducible apply fr_done
    | with_reducible apply fr_if

theorem fr_attach {mm : Nat} {s0 s : State} (hm : In 2048 mm) (h : Fr mm s0 s) (d : Nat) :
    Fr mm s0 (State.attach s d) := by
  unfold State.attach
  try dsimp only
  repeat'
    first
    | with_reducible assumption
    | (exact in_of hm rfl)
    | intro _
    | with_reducible apply fr_modPool
    | with_reducible apply fr_if

theorem fr_execTreeTick {mm : Nat} {s0 s : State} (hm : In 327659 mm) (h : Fr mm s0 s) (h : Hdr) (t : TreeHdr) :
    FrOut mm s0 (execTreeTick h t s) := by
  unfold execTreeTick
  try dsimp only
  repeat'
    first
    | with_reducible assumption
    | (exact in_of hm rfl)
    | with_reducible apply frOut_next
    | intro _
    | with_reducible apply fr_attach
    | with_reducible apply fr_modPool
    | with_reducible apply fr_onTree
    | with_reducible apply fr_treeDown
    | with_reducible apply fr_done
    | with_reducible apply fr_if

theorem fr_sendGather {mm : Nat} {s0 s : State} (hm : In 308225 mm) (h : Fr mm s0 s) (d : Nat) (fuel : Nat) (l : List (Nat × Bool)) :
    Fr mm s0 (State.sendGather s d fuel l) := by
  induction fuel generalizing s d l with
  | zero =>
    unfold State.sendGather
    try dsimp only
    repeat'
      first
      | with_reducible assumption
  | succ fuel ih =>
    unfold State.sendGather
    try dsimp only
    repeat'
      first
      | with_reducible assumption
      | with_reducible apply ih
      | (exact in_of hm rfl)
      | intro _
      | with_reducible apply fr_count
      | with_reducible apply fr_send
      | with_reducible apply fr_tree
      | (refine fr_of_fst (by with_reducible assumption) ?_)
      | with_reducible apply fr_if

theorem fr_execGatherSendTimer {mm : Nat} {s0 s : State} (hm : In 310273 mm) (h : Fr mm s0 s) :
    FrOut mm s0 (execGatherSendTimer s) := by
  unfold execGatherSendTimer
  try dsimp only
  repeat'
    first
    | with_reducible assumption
    | (exact in_of hm rfl)
    | with_reducible apply frOut_next
    | intro _
    | with_reducible apply fr_modPool
    | with_reducible apply fr_sendGather
    | with_reducible apply fr_done
    | with_reducible apply fr_if

theorem fr_execGatherTimeout {mm : Nat} {s0 s : State} (hm : In 327659 mm) (h : Fr mm s0 s) :
    FrOut mm s0 (execGatherTimeout s) := by
  unfold execGatherTimeout
  try dsimp only
  repeat'
    first
    | with_reducible assumption
    | (exact in_of hm rfl)
    | with_reducible apply frOut_next
    | intro _
    | with_reducible apply fr_afterWave
    | with_reducible apply fr_closeGatherNow
    | with_reducible apply fr_settled
    | with_reducible apply fr_done
    | with_reducible apply fr_if

theorem fr_execCloseGather {mm : Nat} {s0 s : State} (hm : In 327659 mm) (h : Fr mm s0 s) (rq : Req) (tag : Nat) :
    FrOut mm s0 (execCloseGather rq tag s) := by
  unfold execCloseGather
  try dsimp only
  repeat'
    first
    | with_reducible assumption
    | (exact in_of hm rfl)
    | with_reducible apply frOut_next
    | intro _
    | with_reducible apply fr_afterWave
    | with_reducible apply fr_closeGatherNow
    | with_reducible apply fr_settled
    | with_reducible apply fr_writeNum
    | with_reducible apply fr_done
    | with_reducible apply fr_if
    | with_reducible apply fr_ifn
    | split

theorem fr_execReadyWaveSend {mm : Nat} {s0 s : State} (hm : In 327659 mm) (h : Fr mm s0 s) :
    FrOut mm s0 (execReadyWaveSend s) := by
  unfold execReadyWaveSend
  try dsimp only
  repeat'
    first
    | with_reducible assumption
    | (exact in_of hm rfl)
    | with_reducible apply frOut_next
    | intro _
    | with_reducible apply fr_afterWave
    | with_reducible apply fr_modPool
    | with_reducible apply fr_readyWave
    | with_reducible apply fr_settled
    | with_reducible apply fr_done
    | with_reducible apply fr_if

theorem fr_execTickTimer {mm : Nat} {s0 s : State} (hm : In 310273 mm) (h : Fr mm s0 s) :
    FrOut mm s0 (execTickTimer s) := by
  unfold execTickTimer
  try dsimp only
  repeat'
    first
    | with_reducible assumption
    | (exact in_of hm rfl)
    | with_reducible apply frOut_next
    | intro _
    | with_reducible apply fr_modPool
    | with_reducible apply fr_treeDown
    | with_reducible apply fr_done
    | with_reducible apply fr_if

theorem fr_reattach {mm : Nat} {s0 s : State} (hm : In 2048 mm) (h : Fr mm s0 s) :
    Fr mm s0 (State.reattach s) := by
  unfold State.reattach
  try dsimp only
  repeat'
    first
    | with_reducible assumption
    | (exact in_of hm rfl)
    | intro _
    | with_reducible apply fr_attach
    | with_reducible apply fr_modPool
    | with_reducible apply fr_if

theorem fr_execTickMissed {mm : Nat} {s0 s : State} (hm : In 2048 mm) (h : Fr mm s0 s) :
    FrOut mm s0 (execTickMissed s) := by
  unfold execTickMissed
  try dsimp only
  repeat'
    first
    | with_reducible assumption
    | (exact in_of hm rfl)
    | with_reducible apply frOut_next
    | intro _
    | with_reducible apply fr_reattach
    | with_reducible apply fr_done
    | with_reducible apply fr_if

theorem fr_execParentUnreachable {mm : Nat} {s0 s : State} (hm : In 2048 mm) (h : Fr mm s0 s) :
    FrOut mm s0 (execParentUnreachable s) := by
  unfold execParentUnreachable
  try dsimp only
  repeat'
    first
    | with_reducible assumption
    | (exact in_of hm rfl)
    | with_reducible apply frOut_next
    | intro _
    | with_reducible apply fr_reattach
    | with_reducible apply fr_done
    | with_reducible apply fr_if

theorem fr_execSuccessionWaitExpiry {mm : Nat} {s0 s : State} (hm : In 327659 mm) (h : Fr mm s0 s) :
    FrOut mm s0 (execSuccessionWaitExpiry s) := by
  unfold execSuccessionWaitExpiry
  try dsimp only
  repeat'
    first
    | with_reducible assumption
    | (exact in_of hm rfl)
    | with_reducible apply frOut_next
    | intro _
    | with_reducible apply fr_afterWave
    | with_reducible apply fr_ownHeld
    | with_reducible apply fr_settled
    | with_reducible apply fr_takeRoot
    | with_reducible apply fr_done
    | with_reducible apply fr_if
    | with_reducible apply fr_ifn
    | split

theorem fr_execTreeArrive {mm : Nat} {s0 s : State} (hm : In 327659 mm) (h : Fr mm s0 s) (h : Hdr) (t : TreeHdr) (arrived : Nat) (absent : Nat) :
    FrOut mm s0 (execTreeArrive h t arrived absent s) := by
  unfold execTreeArrive
  try dsimp only
  repeat'
    first
    | with_reducible assumption
    | (exact in_of hm rfl)
    | with_reducible apply frOut_next
    | intro _
    | with_reducible apply fr_barrierCheck
    | with_reducible apply fr_modPool
    | with_reducible apply fr_onTree
    | with_reducible apply fr_done
    | (refine fr_of_fst (by with_reducible assumption) ?_)
    | with_reducible apply fr_if

theorem fr_execTreeRelease {mm : Nat} {s0 s : State} (hm : In 327659 mm) (h : Fr mm s0 s) (h : Hdr) (t : TreeHdr) (st : Nat) :
    FrOut mm s0 (execTreeRelease h t st s) := by
  unfold execTreeRelease
  try dsimp only
  repeat'
    first
    | with_reducible assumption
    | (exact in_of hm rfl)
    | with_reducible apply frOut_next
    | intro _
    | with_reducible apply fr_count
    | with_reducible apply fr_modPool
    | with_reducible apply fr_onTree
    | with_reducible apply fr_treeDown

theorem fr_execBarrierLimit {mm : Nat} {s0 s : State} (hm : In 310273 mm) (h : Fr mm s0 s) :
    FrOut mm s0 (execBarrierLimit s) := by
  unfold execBarrierLimit
  try dsimp only
  repeat'
    first
    | with_reducible assumption
    | (exact in_of hm rfl)
    | with_reducible apply frOut_next
    | intro _
    | with_reducible apply fr_barrierEnd
    | with_reducible apply fr_done
    | with_reducible apply fr_if
    | with_reducible apply fr_ifn
    | split

theorem fr_execTreeBroadcast {mm : Nat} {s0 s : State} (hm : In 327659 mm) (h : Fr mm s0 s) (h : Hdr) (t : TreeHdr) (rooms : List (Nat × Nat × Nat × Nat)) (m : Bytes × List (Nat × Census)) :
    FrOut mm s0 (execTreeBroadcast h t rooms m s) := by
  unfold execTreeBroadcast
  try dsimp only
  repeat'
    first
    | with_reducible assumption
    | (exact in_of hm rfl)
    | with_reducible apply frOut_next
    | intro _
    | with_reducible apply fr_count
    | with_reducible apply fr_modPlace
    | with_reducible apply fr_onTree
    | with_reducible apply fr_retryAllocations
    | with_reducible apply fr_takeCensus
    | with_reducible apply fr_treeDown
    | with_reducible apply fr_done
    | (refine fr_of_fst (by with_reducible assumption) ?_)
    | with_reducible apply fr_if
    | with_reducible apply fr_ifn
    | with_reducible apply fr_foldl

theorem fr_execTreeAnnounce {mm : Nat} {s0 s : State} (hm : In 327659 mm) (h : Fr mm s0 s) (h : Hdr) (t : TreeHdr) (a : Action) (dev : Nat) :
    FrOut mm s0 (execTreeAnnounce h t a dev s) := by
  unfold execTreeAnnounce
  try dsimp only
  repeat'
    first
    | with_reducible assumption
    | (exact in_of hm rfl)
    | with_reducible apply frOut_next
    | intro _
    | with_reducible apply fr_announceVol
    | with_reducible apply fr_freeCheck
    | with_reducible apply fr_modPool
    | with_reducible apply fr_notePoint
    | with_reducible apply fr_onTree
    | with_reducible apply fr_treeDown
    | with_reducible apply fr_done
    | with_reducible apply fr_if

theorem fr_execTreeDone {mm : Nat} {s0 s : State} (hm : In 327659 mm) (h : Fr mm s0 s) (h : Hdr) (t : TreeHdr) (st : Nat) (covered : Nat) (missed : Nat) (firstMissed : Nat) :
    FrOut mm s0 (execTreeDone h t st covered missed firstMissed s) := by
  unfold execTreeDone
  try dsimp only
  repeat'
    first
    | with_reducible assumption
    | (exact in_of hm rfl)
    | with_reducible apply frOut_next
    | intro _
    | with_reducible apply fr_modOp
    | with_reducible apply fr_onTree
    | with_reducible apply fr_opCheck
    | with_reducible apply fr_settled

theorem fr_execTreeAction {mm : Nat} {s0 s : State} (hm : In 327659 mm) (h : Fr mm s0 s) (h : Hdr) (t : TreeHdr) (a : Action) (dev : Nat) :
    FrOut mm s0 (execTreeAction h t a dev s) := by
  unfold execTreeAction
  try dsimp only
  repeat'
    first
    | with_reducible assumption
    | (exact in_of hm rfl)
    | with_reducible apply frOut_next
    | intro _
    | with_reducible apply fr_action
    | with_reducible apply fr_onTree
    | with_reducible apply fr_settled

theorem fr_execTreeResult {mm : Nat} {s0 s : State} (hm : In 327659 mm) (h : Fr mm s0 s) (h : Hdr) (t : TreeHdr) (st : Nat) :
    FrOut mm s0 (execTreeResult h t st s) := by
  unfold execTreeResult
  try dsimp only
  repeat'
    first
    | with_reducible assumption
    | (exact in_of hm rfl)
    | with_reducible apply frOut_next
    | intro _
    | with_reducible apply fr_answered
    | with_reducible apply fr_onTree

theorem fr_onLatch {mm : Nat} {s0 s : State} (hm : In 264192 mm) (h : Fr mm s0 s) (p : Action → Bool) (f : State → LatchOp → State) (hf : ∀ (s : State) (x0 : LatchOp), Fr mm s0 s → Fr mm s0 (f s x0)) :
    Fr mm s0 (State.onLatch s p f) := by
  unfold State.onLatch
  try dsimp only
  repeat'
    first
    | with_reducible assumption
    | (exact in_of hm rfl)
    | intro _
    | with_reducible apply fr_opLate
    | with_reducible apply hf
    | split

theorem fr_execCounterFreeze {mm : Nat} {s0 s : State} (hm : In 327651 mm) (h : Fr mm s0 s) :
    FrOut mm s0 (execCounterFreeze s) := by
  unfold execCounterFreeze
  try dsimp only
  repeat'
    first
    | with_reducible assumption
    | (exact in_of hm rfl)
    | with_reducible apply frOut_next
    | intro _
    | with_reducible apply fr_modRec
    | with_reducible apply fr_onLatch
    | with_reducible apply fr_opDone
    | with_reducible apply fr_settled
    | with_reducible apply fr_done
    | split

theorem fr_execCounterRelease {mm : Nat} {s0 s : State} (hm : In 327651 mm) (h : Fr mm s0 s) :
    FrOut mm s0 (execCounterRelease s) := by
  unfold execCounterRelease
  try dsimp only
  repeat'
    first
    | with_reducible assumption
    | (exact in_of hm rfl)
    | with_reducible apply frOut_next
    | intro _
    | with_reducible apply fr_modRec
    | with_reducible apply fr_onLatch
    | with_reducible apply fr_opDone
    | with_reducible apply fr_settled
    | with_reducible apply fr_done
    | split

theorem fr_execPoolStateApply {mm : Nat} {s0 s : State} (hm : In 327663 mm) (h : Fr mm s0 s) :
    FrOut mm s0 (execPoolStateApply s) := by
  unfold execPoolStateApply
  try dsimp only
  repeat'
    first
    | with_reducible assumption
    | (exact in_of hm rfl)
    | with_reducible apply frOut_next
    | intro _
    | with_reducible apply fr_applyAction
    | with_reducible apply fr_onLatch
    | with_reducible apply fr_opDone
    | with_reducible apply fr_settled

theorem fr_poolResetLatch {mm : Nat} {s0 s : State} (hm : In 264224 mm) (h : Fr mm s0 s) (cold : Bool) :
    Fr mm s0 (State.poolResetLatch s cold) := by
  unfold State.poolResetLatch
  try dsimp only
  repeat'
    first
    | with_reducible assumption
    | (exact in_of hm rfl)
    | intro _
    | with_reducible apply fr_modHost
    | with_reducible apply fr_modPool
    | with_reducible apply fr_onLatch
    | with_reducible apply fr_raise

theorem fr_execPoolResetWarm {mm : Nat} {s0 s : State} (hm : In 264224 mm) (h : Fr mm s0 s) :
    FrOut mm s0 (execPoolResetWarm s) := by
  unfold execPoolResetWarm
  try dsimp only
  repeat'
    first
    | with_reducible assumption
    | (exact in_of hm rfl)
    | with_reducible apply frOut_next
    | intro _
    | with_reducible apply fr_poolResetLatch

theorem fr_execPoolResetCold {mm : Nat} {s0 s : State} (hm : In 264224 mm) (h : Fr mm s0 s) :
    FrOut mm s0 (execPoolResetCold s) := by
  unfold execPoolResetCold
  try dsimp only
  repeat'
    first
    | with_reducible assumption
    | (exact in_of hm rfl)
    | with_reducible apply frOut_next
    | intro _
    | with_reducible apply fr_poolResetLatch

theorem fr_execJoinStart {mm : Nat} {s0 s : State} (hm : In 310313 mm) (h : Fr mm s0 s) (rq : Req) (tag : Nat) :
    FrOut mm s0 (execJoinStart rq tag s) := by
  unfold execJoinStart
  try dsimp only
  repeat'
    first
    | with_reducible assumption
    | (exact in_of hm rfl)
    | with_reducible apply frOut_next
    | intro _
    | with_reducible apply fr_count
    | with_reducible apply fr_modPool
    | with_reducible apply fr_send
    | with_reducible apply fr_writeNum
    | with_reducible apply fr_done
    | with_reducible apply fr_if
    | with_reducible apply fr_ifn
    | split

theorem fr_execTreeJoin {mm : Nat} {s0 s : State} (hm : In 325603 mm) (h : Fr mm s0 s) (h : Hdr) (t : TreeHdr) (ident : Nat) (number : Nat) (mac : Nat) :
    FrOut mm s0 (execTreeJoin h t ident number mac s) := by
  unfold execTreeJoin
  try dsimp only
  repeat'
    first
    | with_reducible assumption
    | (exact in_of hm rfl)
    | with_reducible apply frOut_next
    | with_reducible apply fr_id
    | intro _
    | with_reducible apply fr_count
    | with_reducible apply fr_putFrame
    | with_reducible apply fr_raise
    | with_reducible apply fr_rx
    | with_reducible apply fr_sendOn
    | with_reducible apply fr_done
    | (refine fr_of_fst (by with_reducible assumption) ?_)
    | with_reducible apply fr_if
    | with_reducible apply fr_ifn
    | split

theorem fr_findNumber {mm : Nat} {s0 s : State} (hm : In 2048 mm) (h : Fr mm s0 s) :
    Fr mm s0 (State.findNumber s) := by
  unfold State.findNumber
  try dsimp only
  repeat'
    first
    | with_reducible assumption
    | (exact in_of hm rfl)
    | intro _
    | with_reducible apply fr_modPool
    | split

theorem fr_execTreeState {mm : Nat} {s0 s : State} (hm : In 327663 mm) (h : Fr mm s0 s) (h : Hdr) (t : TreeHdr) (img : PoolImage) :
    FrOut mm s0 (execTreeState h t img s) := by
  unfold execTreeState
  try dsimp only
  repeat'
    first
    | with_reducible assumption
    | (exact in_of hm rfl)
    | with_reducible apply frOut_next
    | with_reducible apply fr_id
    | intro _
    | with_reducible apply fr_applyMissed
    | with_reducible apply fr_count
    | with_reducible apply fr_findNumber
    | with_reducible apply fr_modPool
    | with_reducible apply fr_raise
    | with_reducible apply fr_rx
    | with_reducible apply fr_sendState
    | with_reducible apply fr_takeImage
    | with_reducible apply fr_done
    | (refine fr_of_fst (by with_reducible assumption) ?_)
    | with_reducible apply fr_if
    | with_reducible apply fr_ifn
    | with_reducible apply fr_foldl

theorem fr_takeEnt {mm : Nat} {s0 s : State} (hm : In 309121 mm) (h : Fr mm s0 s) (e : MapEnt) :
    Fr mm s0 (State.takeEnt s e) := by
  unfold State.takeEnt
  try dsimp only
  repeat'
    first
    | with_reducible assumption
    | (exact in_of hm rfl)
    | intro _
    | with_reducible apply fr_modDir
    | with_reducible apply fr_tellHome

theorem fr_execMapTransferEntries {mm : Nat} {s0 s : State} (hm : In 327651 mm) (h : Fr mm s0 s) (h : Hdr) (i : Nat) (ents : List MapEnt) (last : Bool) :
    FrOut mm s0 (execMapTransferEntries h i ents last s) := by
  unfold execMapTransferEntries
  try dsimp only
  repeat'
    first
    | with_reducible assumption
    | (exact in_of hm rfl)
    | with_reducible apply frOut_next
    | intro _
    | with_reducible apply fr_modPool
    | with_reducible apply fr_onFrame
    | with_reducible apply fr_raise
    | with_reducible apply fr_resumeLookups
    | with_reducible apply fr_takeEnt
    | with_reducible apply fr_done
    | (refine fr_of_fst (by with_reducible assumption) ?_)
    | with_reducible apply fr_if
    | with_reducible apply fr_ifn
    | with_reducible apply fr_foldl

end Sys2Proof.Laws
end

