-- ==== Sys2Proof/Laws/FrameVault.lean ====
section
/-! SUPPORT. Which parts of the device each operation may change (Laws/Frame.lean): persistence, the twin, the Hinge, the recorder, the lattice, DRAM, the checkers, the ciphers and the Steward. -/

set_option Elab.async false

namespace Sys2Proof.Laws

open Sys2Proof Sys2Proof.Machine

/-! ### Machine/EccOps.lean -/

theorem fr_pumpRepairs {mm : Nat} {s0 s : State} (hm : In 324609 mm) (h : Fr mm s0 s) :
    Fr mm s0 (State.pumpRepairs s) := by
  unfold State.pumpRepairs
  try dsimp only
  repeat'
    first
    | with_reducible assumption
    | (exact in_of hm rfl)
    | intro _
    | with_reducible apply fr_modEcc
    | with_reducible apply fr_send
    | with_reducible apply fr_if
    | with_reducible apply fr_ifn
    | with_reducible apply fr_foldl

theorem fr_wakeRepair {mm : Nat} {s0 s : State} (hm : In 325603 mm) (h : Fr mm s0 s) (r : Repair) :
    Fr mm s0 (State.wakeRepair s r) := by
  unfold State.wakeRepair
  try dsimp only
  repeat'
    first
    | with_reducible assumption
    | (exact in_of hm rfl)
    | intro _
    | with_reducible apply fr_serveReq
    | with_reducible apply fr_foldl

theorem fr_askAgain {mm : Nat} {s0 s : State} (hm : In 308225 mm) (h : Fr mm s0 s) (g : Nat) :
    Fr mm s0 (State.askAgain s g) := by
  unfold State.askAgain
  try dsimp only
  repeat'
    first
    | with_reducible assumption
    | (exact in_of hm rfl)
    | intro _
    | with_reducible apply fr_send

theorem fr_poisonLost {mm : Nat} {s0 s : State} (hm : In 278528 mm) (h : Fr mm s0 s) :
    Fr mm s0 (State.poisonLost s) := by
  unfold State.poisonLost
  try dsimp only
  repeat'
    first
    | with_reducible assumption
    | (exact in_of hm rfl)
    | intro _
    | with_reducible apply fr_modEcc
    | with_reducible apply fr_raise

theorem fr_heatZero {mm : Nat} {s0 s : State} (hm : In 128 mm) (h : Fr mm s0 s) (slot : Nat) :
    Fr mm s0 (State.heatZero s slot) := by
  unfold State.heatZero
  try dsimp only
  repeat'
    first
    | with_reducible assumption
    | (exact in_of hm rfl)
    | intro _
    | with_reducible apply fr_modHeat
    | split

theorem fr_rebuildSlots {mm : Nat} {s0 s : State} (hm : In 309121 mm) (h : Fr mm s0 s) :
    Fr mm s0 (State.rebuildSlots s) := by
  unfold State.rebuildSlots
  try dsimp only
  repeat'
    first
    | with_reducible assumption
    | (exact in_of hm rfl)
    | intro _
    | with_reducible apply fr_setUse
    | (refine fr_of_fst (by with_reducible assumption) ?_)
    | with_reducible apply fr_if
    | with_reducible apply fr_ifn
    | with_reducible apply fr_foldl

theorem fr_metaReplace {mm : Nat} {s0 s : State} (hm : In 325603 mm) (h : Fr mm s0 s) :
    Fr mm s0 (State.metaReplace s) := by
  unfold State.metaReplace
  try dsimp only
  repeat'
    first
    | with_reducible assumption
    | (exact in_of hm rfl)
    | intro _
    | with_reducible apply fr_dropTomb
    | with_reducible apply fr_heatZero
    | with_reducible apply fr_modDir
    | with_reducible apply fr_modPersist
    | with_reducible apply fr_modTwin
    | with_reducible apply fr_poisonLost
    | with_reducible apply fr_putArrival
    | with_reducible apply fr_rebuildDir
    | with_reducible apply fr_rebuildSlots
    | with_reducible apply fr_tick
    | (refine fr_of_fst (by with_reducible assumption) ?_)
    | with_reducible apply fr_if
    | with_reducible apply fr_ifn
    | with_reducible apply fr_foldl
    | with_reducible apply fr_foldl_fst
    | split

theorem fr_failRepair {mm : Nat} {s0 s : State} (hm : In 325603 mm) (h : Fr mm s0 s) (r : Repair) :
    Fr mm s0 (State.failRepair s r) := by
  unfold State.failRepair
  try dsimp only
  repeat'
    first
    | with_reducible assumption
    | (exact in_of hm rfl)
    | with_reducible apply fr_id
    | intro _
    | with_reducible apply fr_applyLine
    | with_reducible apply fr_count
    | with_reducible apply fr_lineCost
    | with_reducible apply fr_metaReplace
    | with_reducible apply fr_modEcc
    | with_reducible apply fr_modPersist
    | with_reducible apply fr_raise
    | with_reducible apply fr_throttleCheck
    | with_reducible apply fr_wakeRepair
    | with_reducible apply fr_if

theorem fr_failRepairs {mm : Nat} {s0 s : State} (hm : In 325603 mm) (h : Fr mm s0 s) :
    Fr mm s0 (State.failRepairs s) := by
  unfold State.failRepairs
  try dsimp only
  repeat'
    first
    | with_reducible assumption
    | (exact in_of hm rfl)
    | intro _
    | with_reducible apply fr_failRepair
    | with_reducible apply fr_foldl

theorem fr_startRepair {mm : Nat} {s0 s : State} (hm : In 325603 mm) (h : Fr mm s0 s) (ln : Nat) (waiters : List HReq) :
    Fr mm s0 (State.startRepair s ln waiters) := by
  unfold State.startRepair
  try dsimp only
  repeat'
    first
    | with_reducible assumption
    | (exact in_of hm rfl)
    | intro _
    | with_reducible apply fr_failRepair
    | with_reducible apply fr_modEcc
    | with_reducible apply fr_pumpRepairs
    | with_reducible apply fr_if

theorem fr_lineRewritten {mm : Nat} {s0 s : State} (hm : In 262144 mm) (h : Fr mm s0 s) (ln : Nat) :
    Fr mm s0 (State.lineRewritten s ln) := by
  unfold State.lineRewritten
  try dsimp only
  repeat'
    first
    | with_reducible assumption
    | (exact in_of hm rfl)
    | intro _
    | with_reducible apply fr_count

theorem fr_repairAnswered {mm : Nat} {s0 s : State} (hm : In 325603 mm) (h : Fr mm s0 s) (ln : Nat) (v : Line) (poison : Bool) :
    Fr mm s0 (State.repairAnswered s ln v poison) := by
  unfold State.repairAnswered
  try dsimp only
  repeat'
    first
    | with_reducible assumption
    | (exact in_of hm rfl)
    | intro _
    | with_reducible apply fr_count
    | with_reducible apply fr_lineRewritten
    | with_reducible apply fr_modEcc
    | with_reducible apply fr_poisonEnter
    | with_reducible apply fr_pumpRepairs
    | with_reducible apply fr_putLine
    | with_reducible apply fr_raise
    | with_reducible apply fr_wakeRepair
    | with_reducible apply fr_if
    | with_reducible apply fr_ifn
    | split

/-! ### Machine/Persistence.lean -/

theorem fr_mirrorLine {mm : Nat} {s0 s : State} (hm : In 278786 mm) (h : Fr mm s0 s) (ln : Nat) (v : Line) (be : BitVec 64) (poison : Bool) :
    Fr mm s0 (State.mirrorLine s ln v be poison) := by
  unfold State.mirrorLine
  try dsimp only
  repeat'
    first
    | with_reducible assumption
    | (exact in_of hm rfl)
    | intro _
    | with_reducible apply fr_lineCost
    | with_reducible apply fr_mergeKeep
    | with_reducible apply fr_modPersist
    | with_reducible apply fr_putLine

theorem fr_keepTag {mm : Nat} {s0 s : State} (hm : In 512 mm) (h : Fr mm s0 s) (r : Run) :
    Fr mm s0 (State.keepTag s r) := by
  unfold State.keepTag
  try dsimp only
  repeat'
    first
    | with_reducible assumption
    | (exact in_of hm rfl)
    | intro _
    | with_reducible apply fr_modTwin

theorem fr_applyUpd {mm : Nat} {s0 s : State} (hm : In 17282 mm) (h : Fr mm s0 s) (u : MetaUpd) :
    Fr mm s0 (State.applyUpd s u) := by
  unfold State.applyUpd
  try dsimp only
  repeat'
    first
    | with_reducible assumption
    | (exact in_of hm rfl)
    | intro _
    | with_reducible apply fr_forgetSlot
    | with_reducible apply fr_modEcc
    | with_reducible apply fr_modPersist
    | with_reducible apply fr_modPlace
    | with_reducible apply fr_if
    | with_reducible apply fr_ifn
    | with_reducible apply fr_foldl
    | with_reducible apply fr_foldl_fst
    | split

theorem fr_applyRun {mm : Nat} {s0 s : State} (hm : In 325507 mm) (h : Fr mm s0 s) (r : Run) :
    Fr mm s0 (State.applyRun s r) := by
  unfold State.applyRun
  try dsimp only
  repeat'
    first
    | with_reducible assumption
    | (exact in_of hm rfl)
    | intro _
    | with_reducible apply fr_applyUpd
    | with_reducible apply fr_ask
    | with_reducible apply fr_keepTag
    | with_reducible apply fr_mirrorLine
    | with_reducible apply fr_modEcc
    | with_reducible apply fr_modPersist
    | with_reducible apply fr_modTwin
    | with_reducible apply fr_ranksGone
    | (refine fr_of_fst (by with_reducible assumption) ?_)
    | with_reducible apply fr_if
    | with_reducible apply fr_ifn
    | with_reducible apply fr_foldl
    | with_reducible apply fr_foldl_fst
    | split

theorem fr_applyRuns {mm : Nat} {s0 s : State} (hm : In 325507 mm) (h : Fr mm s0 s) (st : Nat) (fuel : Nat) :
    Fr mm s0 (State.applyRuns s st fuel) := by
  induction fuel generalizing s st with
  | zero =>
    unfold State.applyRuns
    try dsimp only
    repeat'
      first
      | with_reducible assumption
  | succ fuel ih =>
    unfold State.applyRuns
    try dsimp only
    repeat'
      first
      | with_reducible assumption
      | with_reducible apply ih
      | (exact in_of hm rfl)
      | intro _
      | with_reducible apply fr_applyRun
      | with_reducible apply fr_modPersist
      | with_reducible apply fr_if
      | with_reducible apply fr_ifn
      | split

theorem fr_ackStream {mm : Nat} {s0 s : State} (hm : In 308225 mm) (h : Fr mm s0 s) (st : Nat) :
    Fr mm s0 (State.ackStream s st) := by
  unfold State.ackStream
  try dsimp only
  repeat'
    first
    | with_reducible assumption
    | (exact in_of hm rfl)
    | intro _
    | with_reducible apply fr_sendOn
    | (refine fr_of_fst (by with_reducible assumption) ?_)
    | split

theorem fr_standbyGoesOn {mm : Nat} {s0 s : State} (hm : In 325507 mm) (h : Fr mm s0 s) :
    Fr mm s0 (State.standbyGoesOn s) := by
  unfold State.standbyGoesOn
  try dsimp only
  repeat'
    first
    | with_reducible assumption
    | (exact in_of hm rfl)
    | intro _
    | with_reducible apply fr_ackStream
    | with_reducible apply fr_applyRuns
    | with_reducible apply fr_if

theorem fr_execMirror {mm : Nat} {s0 s : State} (hm : In 325603 mm) (h : Fr mm s0 s) (h : Hdr) (stream : Nat) (runs : List Run) :
    FrOut mm s0 (execMirror h stream runs s) := by
  unfold execMirror
  try dsimp only
  repeat'
    first
    | with_reducible assumption
    | (exact in_of hm rfl)
    | with_reducible apply frOut_next
    | with_reducible apply frOut_fault
    | intro _
    | with_reducible apply fr_ackStream
    | with_reducible apply fr_applyRuns
    | with_reducible apply fr_modPersist
    | with_reducible apply fr_rx
    | with_reducible apply fr_done
    | (refine fr_of_fst (by with_reducible assumption) ?_)
    | with_reducible apply fr_if
    | with_reducible apply fr_ifn
    | with_reducible apply fr_foldl
    | with_reducible apply fr_foldl_fst
    | split

theorem fr_followTable {mm : Nat} {s0 s : State} (hm : In 256 mm) (h : Fr mm s0 s) (g : Nat) :
    Fr mm s0 (State.followTable s g) := by
  unfold State.followTable
  try dsimp only
  repeat'
    first
    | with_reducible assumption
    | (exact in_of hm rfl)
    | intro _
    | with_reducible apply fr_modPersist

theorem fr_execClean {mm : Nat} {s0 s : State} (hm : In 325603 mm) (h : Fr mm s0 s) (h : Hdr) (stream : Nat) (entries : List (Nat × Nat)) :
    FrOut mm s0 (execClean h stream entries s) := by
  unfold execClean
  try dsimp only
  repeat'
    first
    | with_reducible assumption
    | (exact in_of hm rfl)
    | with_reducible apply frOut_next
    | intro _
    | with_reducible apply fr_followTable
    | with_reducible apply fr_modPersist
    | with_reducible apply fr_onFrame
    | with_reducible apply fr_done
    | (refine fr_of_fst (by with_reducible assumption) ?_)
    | with_reducible apply fr_if
    | with_reducible apply fr_ifn
    | with_reducible apply fr_foldl

theorem fr_resyncCheck {mm : Nat} {s0 s : State} (hm : In 262656 mm) (h : Fr mm s0 s) :
    Fr mm s0 (State.resyncCheck s) := by
  unfold State.resyncCheck
  try dsimp only
  repeat'
    first
    | with_reducible assumption
    | (exact in_of hm rfl)
    | intro _
    | with_reducible apply fr_modTwin
    | with_reducible apply fr_raise
    | with_reducible apply fr_if

theorem fr_afterHorizon {mm : Nat} {s0 s : State} (hm : In 325603 mm) (h : Fr mm s0 s) :
    Fr mm s0 (State.afterHorizon s) := by
  unfold State.afterHorizon
  try dsimp only
  repeat'
    first
    | with_reducible assumption
    | (exact in_of hm rfl)
    | intro _
    | with_reducible apply fr_ackChunks
    | with_reducible apply fr_advanceWorks
    | with_reducible apply fr_completeWrites
    | with_reducible apply fr_pumpMigs
    | with_reducible apply fr_pumpRepairs
    | with_reducible apply fr_pumpRetire
    | with_reducible apply fr_pumpUrgent
    | with_reducible apply fr_resyncCheck
    | with_reducible apply fr_syncHorizon
    | with_reducible apply fr_if

theorem fr_execMirrorAck {mm : Nat} {s0 s : State} (hm : In 325603 mm) (h : Fr mm s0 s) (h : Hdr) (stream : Nat) (seq : Nat) :
    FrOut mm s0 (execMirrorAck h stream seq s) := by
  unfold execMirrorAck
  try dsimp only
  repeat'
    first
    | with_reducible assumption
    | (exact in_of hm rfl)
    | with_reducible apply frOut_next
    | intro _
    | with_reducible apply fr_afterHorizon
    | with_reducible apply fr_modPersist
    | with_reducible apply fr_modTwin
    | with_reducible apply fr_onFrame
    | with_reducible apply fr_done
    | with_reducible apply fr_if

theorem fr_execWritebackVisit {mm : Nat} {s0 s : State} (hm : In 983011 mm) (h : Fr mm s0 s) (slot : Nat) (granule : Nat) :
    FrOut mm s0 (execWritebackVisit slot granule s) := by
  unfold execWritebackVisit
  try dsimp only
  repeat'
    first
    | with_reducible assumption
    | (exact in_of hm rfl)
    | with_reducible apply frOut_next
    | intro _
    | with_reducible apply fr_afterHome
    | with_reducible apply fr_issueHome
    | with_reducible apply fr_modPersist
    | with_reducible apply fr_done
    | with_reducible apply fr_if

theorem fr_execHomeWriteComplete {mm : Nat} {s0 s : State} (hm : In 983011 mm) (h : Fr mm s0 s) (id : Nat) :
    FrOut mm s0 (execHomeWriteComplete id s) := by
  unfold execHomeWriteComplete
  try dsimp only
  repeat'
    first
    | with_reducible assumption
    | (exact in_of hm rfl)
    | with_reducible apply frOut_next
    | with_reducible apply fr_id
    | intro _
    | with_reducible apply fr_homeWritten
    | with_reducible apply fr_modPersist
    | with_reducible apply fr_done
    | with_reducible apply fr_if
    | with_reducible apply fr_ifn
    | split

theorem fr_execHomeWriteFailed {mm : Nat} {s0 s : State} (hm : In 983011 mm) (h : Fr mm s0 s) (id : Nat) (drive : Nat) (conflict : Bool) :
    FrOut mm s0 (execHomeWriteFailed id drive conflict s) := by
  unfold execHomeWriteFailed
  try dsimp only
  repeat'
    first
    | with_reducible assumption
    | (exact in_of hm rfl)
    | with_reducible apply frOut_next
    | with_reducible apply fr_id
    | intro _
    | with_reducible apply fr_count
    | with_reducible apply fr_fence
    | with_reducible apply fr_homeFail
    | with_reducible apply fr_modPersist
    | with_reducible apply fr_raise
    | with_reducible apply fr_done
    | with_reducible apply fr_if
    | with_reducible apply fr_ifn
    | split

theorem fr_execDriveTimeout {mm : Nat} {s0 s : State} (hm : In 983011 mm) (h : Fr mm s0 s) (id : Nat) (drive : Nat) :
    FrOut mm s0 (execDriveTimeout id drive s) := by
  unfold execDriveTimeout
  try dsimp only
  repeat'
    first
    | with_reducible assumption
    | (exact in_of hm rfl)
    | with_reducible apply frOut_next
    | with_reducible apply fr_id
    | intro _
    | with_reducible apply fr_homeFail
    | with_reducible apply fr_done
    | with_reducible apply fr_if
    | with_reducible apply fr_ifn
    | split

theorem fr_execDriveOutOfService {mm : Nat} {s0 s : State} (hm : In 983019 mm) (h : Fr mm s0 s) (rq : Req) (tag : Nat) (d : Nat) :
    FrOut mm s0 (execDriveOutOfService rq tag d s) := by
  unfold execDriveOutOfService
  try dsimp only
  repeat'
    first
    | with_reducible assumption
    | (exact in_of hm rfl)
    | with_reducible apply frOut_next
    | intro _
    | with_reducible apply fr_driveGone
    | with_reducible apply fr_writeNum
    | with_reducible apply fr_done
    | with_reducible apply fr_if

theorem fr_rejectDrive {mm : Nat} {s0 s : State} (hm : In 262400 mm) (h : Fr mm s0 s) (d : Nat) (check : Nat) :
    Fr mm s0 (State.rejectDrive s d check) := by
  unfold State.rejectDrive
  try dsimp only
  repeat'
    first
    | with_reducible assumption
    | (exact in_of hm rfl)
    | intro _
    | with_reducible apply fr_modDrive
    | with_reducible apply fr_raise

theorem fr_holdDrive {mm : Nat} {s0 s : State} (hm : In 257 mm) (h : Fr mm s0 s) (d : Nat) :
    Fr mm s0 (State.holdDrive s d) := by
  unfold State.holdDrive
  try dsimp only
  repeat'
    first
    | with_reducible assumption
    | (exact in_of hm rfl)
    | intro _
    | with_reducible apply fr_emits
    | with_reducible apply fr_modDrive
    | with_reducible apply fr_if

theorem fr_execDriveInsert {mm : Nat} {s0 s : State} (hm : In 308521 mm) (h : Fr mm s0 s) (rq : Req) (tag : Nat) (d : Nat) (info : DriveInfo) :
    FrOut mm s0 (execDriveInsert rq tag d info s) := by
  unfold execDriveInsert
  try dsimp only
  repeat'
    first
    | with_reducible assumption
    | (exact in_of hm rfl)
    | with_reducible apply frOut_next
    | intro _
    | with_reducible apply fr_ceilingCheck
    | with_reducible apply fr_driveHeader
    | with_reducible apply fr_holdDrive
    | with_reducible apply fr_modDrive
    | with_reducible apply fr_modPersist
    | with_reducible apply fr_rebuildCheck
    | with_reducible apply fr_rejectDrive
    | with_reducible apply fr_writeNum
    | with_reducible apply fr_done
    | (refine fr_of_fst (by with_reducible assumption) ?_)
    | with_reducible apply fr_if
    | with_reducible apply fr_ifn
    | split

theorem fr_execRebuildBatch {mm : Nat} {s0 s : State} (hm : In 308481 mm) (h : Fr mm s0 s) (d : Nat) :
    FrOut mm s0 (execRebuildBatch d s) := by
  unfold execRebuildBatch
  try dsimp only
  repeat'
    first
    | with_reducible assumption
    | (exact in_of hm rfl)
    | with_reducible apply frOut_next
    | intro _
    | with_reducible apply fr_modDrive
    | with_reducible apply fr_modPersist
    | with_reducible apply fr_rebuildCheck
    | with_reducible apply fr_throttleCheck
    | with_reducible apply fr_done
    | with_reducible apply fr_if

theorem fr_execFlushSnapshot {mm : Nat} {s0 s : State} (hm : In 983011 mm) (h : Fr mm s0 s) :
    FrOut mm s0 (execFlushSnapshot s) := by
  unfold execFlushSnapshot
  try dsimp only
  repeat'
    first
    | with_reducible assumption
    | (exact in_of hm rfl)
    | with_reducible apply frOut_next
    | intro _
    | with_reducible apply fr_afterHome
    | with_reducible apply fr_flushSnapshot
    | with_reducible apply fr_done
    | with_reducible apply fr_if

theorem fr_execDirtyMapWritten {mm : Nat} {s0 s : State} (hm : In 393473 mm) (h : Fr mm s0 s) (incomplete : Bool) (overflow : Bool) (remapped : Nat) :
    FrOut mm s0 (execDirtyMapWritten incomplete overflow remapped s) := by
  unfold execDirtyMapWritten
  try dsimp only
  repeat'
    first
    | with_reducible assumption
    | (exact in_of hm rfl)
    | with_reducible apply frOut_next
    | intro _
    | with_reducible apply fr_modPersist
    | with_reducible apply fr_modRec
    | with_reducible apply fr_raise
    | with_reducible apply fr_sbRelease
    | with_reducible apply fr_done
    | with_reducible apply fr_if
    | with_reducible apply fr_ifn
    | split

theorem fr_answerRemote {mm : Nat} {s0 s : State} (hm : In 308481 mm) (h : Fr mm s0 s) (g : Nat) (b : Bytes) (bad : List Nat) :
    Fr mm s0 (State.answerRemote s g b bad) := by
  unfold State.answerRemote
  try dsimp only
  repeat'
    first
    | with_reducible assumption
    | (exact in_of hm rfl)
    | intro _
    | with_reducible apply fr_modPersist
    | with_reducible apply fr_sendList
    | (refine fr_of_fst (by with_reducible assumption) ?_)
    | with_reducible apply fr_foldl

theorem fr_execRestoreReadComplete {mm : Nat} {s0 s : State} (hm : In 325603 mm) (h : Fr mm s0 s) (slot : Nat) (granule : Nat) (bytes : Bytes) (poisonLines : List Nat) :
    FrOut mm s0 (execRestoreReadComplete slot granule bytes poisonLines s) := by
  unfold execRestoreReadComplete
  try dsimp only
  repeat'
    first
    | with_reducible assumption
    | (exact in_of hm rfl)
    | with_reducible apply frOut_next
    | intro _
    | with_reducible apply fr_answerRemote
    | with_reducible apply fr_count
    | with_reducible apply fr_granRestored
    | with_reducible apply fr_putGranule
    | with_reducible apply fr_standbyGoesOn
    | with_reducible apply fr_done
    | (refine fr_of_fst (by with_reducible assumption) ?_)
    | with_reducible apply fr_if

theorem fr_homeLost {mm : Nat} {s0 s : State} (hm : In 325603 mm) (h : Fr mm s0 s) (slot : Nat) (g : Nat) :
    Fr mm s0 (State.homeLost s slot g) := by
  unfold State.homeLost
  try dsimp only
  repeat'
    first
    | with_reducible assumption
    | (exact in_of hm rfl)
    | intro _
    | with_reducible apply fr_granUnreadable
    | with_reducible apply fr_metaReplace
    | with_reducible apply fr_modPersist
    | with_reducible apply fr_send
    | with_reducible apply fr_standbyGoesOn
    | (refine fr_of_fst (by with_reducible assumption) ?_)
    | with_reducible apply fr_if
    | with_reducible apply fr_ifn
    | with_reducible apply fr_foldl

theorem fr_execRestoreReadFailed {mm : Nat} {s0 s : State} (hm : In 983011 mm) (h : Fr mm s0 s) (slot : Nat) (granule : Nat) (d : Nat) :
    FrOut mm s0 (execRestoreReadFailed slot granule d s) := by
  unfold execRestoreReadFailed
  try dsimp only
  repeat'
    first
    | with_reducible assumption
    | (exact in_of hm rfl)
    | with_reducible apply frOut_next
    | intro _
    | with_reducible apply fr_ask
    | with_reducible apply fr_count
    | with_reducible apply fr_driveGone
    | with_reducible apply fr_emit
    | with_reducible apply fr_homeLost
    | with_reducible apply fr_modPersist
    | with_reducible apply fr_readHome
    | with_reducible apply fr_done
    | (refine fr_of_fst (by with_reducible assumption) ?_)
    | with_reducible apply fr_if

theorem fr_execRestoreSourceWaitExpiry {mm : Nat} {s0 s : State} (hm : In 325603 mm) (h : Fr mm s0 s) (slot : Nat) (granule : Nat) :
    FrOut mm s0 (execRestoreSourceWaitExpiry slot granule s) := by
  unfold execRestoreSourceWaitExpiry
  try dsimp only
  repeat'
    first
    | with_reducible assumption
    | (exact in_of hm rfl)
    | with_reducible apply frOut_next
    | intro _
    | with_reducible apply fr_homeLost
    | with_reducible apply fr_markSuspect
    | with_reducible apply fr_modPersist
    | with_reducible apply fr_readHome
    | with_reducible apply fr_done
    | (refine fr_of_fst (by with_reducible assumption) ?_)
    | with_reducible apply fr_if
    | with_reducible apply fr_ifn
    | split

theorem fr_execPointPeriod {mm : Nat} {s0 s : State} (hm : In 327659 mm) (h : Fr mm s0 s) :
    FrOut mm s0 (execPointPeriod s) := by
  unfold execPointPeriod
  try dsimp only
  repeat'
    first
    | with_reducible assumption
    | (exact in_of hm rfl)
    | with_reducible apply frOut_next
    | intro _
    | with_reducible apply fr_action
    | with_reducible apply fr_settled
    | with_reducible apply fr_done
    | with_reducible apply fr_if

theorem fr_execPointTimeout {mm : Nat} {s0 s : State} (hm : In 327651 mm) (h : Fr mm s0 s) :
    FrOut mm s0 (execPointTimeout s) := by
  unfold execPointTimeout
  try dsimp only
  repeat'
    first
    | with_reducible assumption
    | (exact in_of hm rfl)
    | with_reducible apply frOut_next
    | intro _
    | with_reducible apply fr_modPool
    | with_reducible apply fr_pointEnds
    | with_reducible apply fr_raise
    | with_reducible apply fr_rootQueue
    | with_reducible apply fr_settled
    | with_reducible apply fr_done
    | with_reducible apply fr_if
    | with_reducible apply fr_ifn
    | with_reducible apply fr_foldl
    | with_reducible apply fr_foldl_fst
    | split

theorem fr_execPoolPersistPoint {mm : Nat} {s0 s : State} (hm : In 983011 mm) (h : Fr mm s0 s) :
    FrOut mm s0 (execPoolPersistPoint s) := by
  unfold execPoolPersistPoint
  try dsimp only
  repeat'
    first
    | with_reducible assumption
    | (exact in_of hm rfl)
    | with_reducible apply frOut_next
    | intro _
    | with_reducible apply fr_afterHome
    | with_reducible apply fr_count
    | with_reducible apply fr_modPersist
    | with_reducible apply fr_opDone
    | with_reducible apply fr_opLate
    | with_reducible apply fr_raise
    | with_reducible apply fr_settled
    | with_reducible apply fr_done
    | with_reducible apply fr_if
    | with_reducible apply fr_ifn
    | with_reducible apply fr_foldl
    | with_reducible apply fr_foldl_fst
    | split

theorem fr_execNvmeLinkChange {mm : Nat} {s0 s : State} (hm : In 983011 mm) (h : Fr mm s0 s) (d : Nat) (up : Bool) (reserved : Bool) :
    FrOut mm s0 (execNvmeLinkChange d up reserved s) := by
  unfold execNvmeLinkChange
  try dsimp only
  repeat'
    first
    | with_reducible assumption
    | (exact in_of hm rfl)
    | with_reducible apply frOut_next
    | intro _
    | with_reducible apply fr_driveGone
    | with_reducible apply fr_modDrive
    | with_reducible apply fr_raise
    | with_reducible apply fr_done
    | with_reducible apply fr_if

/-! ### Machine/Twin.lean -/

theorem fr_silenceCheck {mm : Nat} {s0 s : State} (hm : In 262144 mm) (h : Fr mm s0 s) (before : Bool) :
    Fr mm s0 (State.silenceCheck s before) := by
  unfold State.silenceCheck
  try dsimp only
  repeat'
    first
    | with_reducible assumption
    | (exact in_of hm rfl)
    | intro _
    | with_reducible apply fr_count
    | with_reducible apply fr_raise
    | with_reducible apply fr_if

theorem fr_setBeat {mm : Nat} {s0 s : State} (hm : In 262656 mm) (h : Fr mm s0 s) (c : BeatClass) (interval : Nat) :
    Fr mm s0 (State.setBeat s c interval) := by
  unfold State.setBeat
  try dsimp only
  repeat'
    first
    | with_reducible assumption
    | (exact in_of hm rfl)
    | intro _
    | with_reducible apply fr_modTwin
    | with_reducible apply fr_raise
    | with_reducible apply fr_silenceCheck
    | with_reducible apply fr_if

theorem fr_alive {mm : Nat} {s0 s : State} (hm : In 512 mm) (h : Fr mm s0 s) :
    Fr mm s0 (State.alive s) := by
  unfold State.alive
  try dsimp only
  repeat'
    first
    | with_reducible assumption
    | (exact in_of hm rfl)
    | intro _
    | with_reducible apply fr_modTwin

theorem fr_execHeartbeatSend {mm : Nat} {s0 s : State} (hm : In 308741 mm) (h : Fr mm s0 s) :
    FrOut mm s0 (execHeartbeatSend s) := by
  unfold execHeartbeatSend
  try dsimp only
  repeat'
    first
    | with_reducible assumption
    | (exact in_of hm rfl)
    | with_reducible apply frOut_next
    | intro _
    | with_reducible apply fr_modTwin
    | with_reducible apply fr_sendOn
    | with_reducible apply fr_sendVals
    | with_reducible apply fr_done
    | with_reducible apply fr_if
    | with_reducible apply fr_ifn
    | with_reducible apply fr_foldl

theorem fr_stopResync {mm : Nat} {s0 s : State} (hm : In 325603 mm) (h : Fr mm s0 s) :
    Fr mm s0 (State.stopResync s) := by
  unfold State.stopResync
  try dsimp only
  repeat'
    first
    | with_reducible assumption
    | (exact in_of hm rfl)
    | intro _
    | with_reducible apply fr_afterHorizon
    | with_reducible apply fr_modPersist
    | with_reducible apply fr_modTwin
    | with_reducible apply fr_if

theorem fr_loseTwin {mm : Nat} {s0 s : State} (hm : In 325603 mm) (h : Fr mm s0 s) (cause : Nat) :
    Fr mm s0 (State.loseTwin s cause) := by
  unfold State.loseTwin
  try dsimp only
  repeat'
    first
    | with_reducible assumption
    | (exact in_of hm rfl)
    | intro _
    | with_reducible apply fr_afterHorizon
    | with_reducible apply fr_declareLost
    | with_reducible apply fr_failRepairs
    | with_reducible apply fr_if

theorem fr_activeHears {mm : Nat} {s0 s : State} (hm : In 325603 mm) (h : Fr mm s0 s) (h : Hdr) (b : Beat) :
    Fr mm s0 (State.activeHears s h b) := by
  unfold State.activeHears
  try dsimp only
  repeat'
    first
    | with_reducible assumption
    | (exact in_of hm rfl)
    | intro _
    | with_reducible apply fr_loseTwin
    | with_reducible apply fr_stopResync
    | with_reducible apply fr_if

theorem fr_standbyHears {mm : Nat} {s0 s : State} (hm : In 325507 mm) (h : Fr mm s0 s) (b : Beat) :
    Fr mm s0 (State.standbyHears s b) := by
  unfold State.standbyHears
  try dsimp only
  repeat'
    first
    | with_reducible assumption
    | (exact in_of hm rfl)
    | intro _
    | with_reducible apply fr_claimBegin
    | with_reducible apply fr_modTwin
    | with_reducible apply fr_standbyGoesOn
    | (refine fr_of_fst (by with_reducible assumption) ?_)
    | with_reducible apply fr_if

theorem fr_execHeartbeat {mm : Nat} {s0 s : State} (hm : In 325607 mm) (h : Fr mm s0 s) (h : Hdr) (b : Beat) :
    FrOut mm s0 (execHeartbeat h b s) := by
  unfold execHeartbeat
  try dsimp only
  repeat'
    first
    | with_reducible assumption
    | (exact in_of hm rfl)
    | with_reducible apply frOut_next
    | intro _
    | with_reducible apply fr_activeHears
    | with_reducible apply fr_alive
    | with_reducible apply fr_count
    | with_reducible apply fr_modPersist
    | with_reducible apply fr_modTwin
    | with_reducible apply fr_raise
    | with_reducible apply fr_rx
    | with_reducible apply fr_standbyHears
    | with_reducible apply fr_takeVals
    | with_reducible apply fr_unfence
    | with_reducible apply fr_done
    | (refine fr_of_fst (by with_reducible assumption) ?_)
    | with_reducible apply fr_if

theorem fr_execBeatEdge {mm : Nat} {s0 s : State} (hm : In 262656 mm) (h : Fr mm s0 s) (interval : Nat) :
    FrOut mm s0 (execBeatEdge interval s) := by
  unfold execBeatEdge
  try dsimp only
  repeat'
    first
    | with_reducible assumption
    | (exact in_of hm rfl)
    | with_reducible apply frOut_next
    | intro _
    | with_reducible apply fr_alive
    | with_reducible apply fr_count
    | with_reducible apply fr_modTwin
    | with_reducible apply fr_setBeat
    | with_reducible apply fr_done
    | with_reducible apply fr_if
    | with_reducible apply fr_ifn
    | split

theorem fr_execBeatPathTimeout {mm : Nat} {s0 s : State} (hm : In 262656 mm) (h : Fr mm s0 s) (cls : BeatClass) :
    FrOut mm s0 (execBeatPathTimeout cls s) := by
  unfold execBeatPathTimeout
  try dsimp only
  repeat'
    first
    | with_reducible assumption
    | (exact in_of hm rfl)
    | with_reducible apply frOut_next
    | intro _
    | with_reducible apply fr_modTwin
    | with_reducible apply fr_setBeat
    | with_reducible apply fr_done
    | with_reducible apply fr_if

theorem fr_execFramePathSilent {mm : Nat} {s0 s : State} (hm : In 262656 mm) (h : Fr mm s0 s) :
    FrOut mm s0 (execFramePathSilent s) := by
  unfold execFramePathSilent
  try dsimp only
  repeat'
    first
    | with_reducible assumption
    | (exact in_of hm rfl)
    | with_reducible apply frOut_next
    | intro _
    | with_reducible apply fr_modTwin
    | with_reducible apply fr_raise
    | with_reducible apply fr_silenceCheck
    | with_reducible apply fr_done
    | with_reducible apply fr_if

theorem fr_execHearingWindowExpiry {mm : Nat} {s0 s : State} (hm : In 512 mm) (h : Fr mm s0 s) :
    FrOut mm s0 (execHearingWindowExpiry s) := by
  unfold execHearingWindowExpiry
  try dsimp only
  repeat'
    first
    | with_reducible assumption
    | (exact in_of hm rfl)
    | with_reducible apply frOut_next
    | intro _
    | with_reducible apply fr_modTwin
    | with_reducible apply fr_done
    | with_reducible apply fr_if

theorem fr_execTwinAbsentDetected {mm : Nat} {s0 s : State} (hm : In 512 mm) (h : Fr mm s0 s) :
    FrOut mm s0 (execTwinAbsentDetected s) := by
  unfold execTwinAbsentDetected
  try dsimp only
  repeat'
    first
    | with_reducible assumption
    | (exact in_of hm rfl)
    | with_reducible apply frOut_next
    | intro _
    | with_reducible apply fr_modTwin
    | with_reducible apply fr_done
    | with_reducible apply fr_if
    | with_reducible apply fr_ifn
    | split

theorem fr_placementTakeover {mm : Nat} {s0 s : State} (hm : In 325603 mm) (h : Fr mm s0 s) :
    Fr mm s0 (State.placementTakeover s) := by
  unfold State.placementTakeover
  try dsimp only
  repeat'
    first
    | with_reducible assumption
    | (exact in_of hm rfl)
    | intro _
    | with_reducible apply fr_abortCopy
    | with_reducible apply fr_abortMig
    | with_reducible apply fr_commitMig
    | with_reducible apply fr_commitReloc
    | with_reducible apply fr_count
    | with_reducible apply fr_modPlace
    | with_reducible apply fr_noteDrop
    | with_reducible apply fr_raise
    | with_reducible apply fr_releaseSlot
    | with_reducible apply fr_sendCommit
    | (refine fr_of_fst (by with_reducible assumption) ?_)
    | with_reducible apply fr_if
    | with_reducible apply fr_ifn
    | with_reducible apply fr_foldl

theorem fr_claimComplete {mm : Nat} {s0 s : State} (hm : In 983011 mm) (h : Fr mm s0 s) :
    Fr mm s0 (State.claimComplete s) := by
  unfold State.claimComplete
  try dsimp only
  repeat'
    first
    | with_reducible assumption
    | (exact in_of hm rfl)
    | intro _
    | with_reducible apply fr_count
    | with_reducible apply fr_endWrite
    | with_reducible apply fr_modHost
    | with_reducible apply fr_modPersist
    | with_reducible apply fr_modTwin
    | with_reducible apply fr_placementTakeover
    | with_reducible apply fr_raise
    | with_reducible apply fr_route
    | with_reducible apply fr_send
    | with_reducible apply fr_sendAll
    | with_reducible apply fr_startRestore
    | with_reducible apply fr_throttleNotice
    | with_reducible apply fr_unfence
    | (refine fr_of_fst (by with_reducible assumption) ?_)
    | with_reducible apply fr_if
    | with_reducible apply fr_ifn
    | with_reducible apply fr_foldl

theorem fr_claimCheck {mm : Nat} {s0 s : State} (hm : In 983011 mm) (h : Fr mm s0 s) :
    Fr mm s0 (State.claimCheck s) := by
  unfold State.claimCheck
  try dsimp only
  repeat'
    first
    | with_reducible assumption
    | (exact in_of hm rfl)
    | intro _
    | with_reducible apply fr_claimComplete
    | with_reducible apply fr_if

theorem fr_execSelfFence {mm : Nat} {s0 s : State} (hm : In 279296 mm) (h : Fr mm s0 s) :
    FrOut mm s0 (execSelfFence s) := by
  unfold execSelfFence
  try dsimp only
  repeat'
    first
    | with_reducible assumption
    | (exact in_of hm rfl)
    | with_reducible apply frOut_next
    | intro _
    | with_reducible apply fr_fence
    | with_reducible apply fr_done
    | with_reducible apply fr_if

theorem fr_execClaimStart {mm : Nat} {s0 s : State} (hm : In 262656 mm) (h : Fr mm s0 s) :
    FrOut mm s0 (execClaimStart s) := by
  unfold execClaimStart
  try dsimp only
  repeat'
    first
    | with_reducible assumption
    | (exact in_of hm rfl)
    | with_reducible apply frOut_next
    | intro _
    | with_reducible apply fr_claimBegin
    | with_reducible apply fr_done
    | with_reducible apply fr_if

theorem fr_execClaimRecordWritten {mm : Nat} {s0 s : State} (hm : In 983011 mm) (h : Fr mm s0 s) :
    FrOut mm s0 (execClaimRecordWritten s) := by
  unfold execClaimRecordWritten
  try dsimp only
  repeat'
    first
    | with_reducible assumption
    | (exact in_of hm rfl)
    | with_reducible apply frOut_next
    | intro _
    | with_reducible apply fr_advanceWorks
    | with_reducible apply fr_claimCheck
    | with_reducible apply fr_emits
    | with_reducible apply fr_modTwin
    | with_reducible apply fr_done
    | with_reducible apply fr_if

theorem fr_execReservationComplete {mm : Nat} {s0 s : State} (hm : In 983011 mm) (h : Fr mm s0 s) (d : Nat) (holder : Nat) (r : ResvResult) :
    FrOut mm s0 (execReservationComplete d holder r s) := by
  unfold execReservationComplete
  try dsimp only
  repeat'
    first
    | with_reducible assumption
    | (exact in_of hm rfl)
    | with_reducible apply frOut_next
    | intro _
    | with_reducible apply fr_advanceWorks
    | with_reducible apply fr_claimCheck
    | with_reducible apply fr_claimLost
    | with_reducible apply fr_count
    | with_reducible apply fr_driveGone
    | with_reducible apply fr_emits
    | with_reducible apply fr_modDrive
    | with_reducible apply fr_modTwin
    | with_reducible apply fr_done
    | with_reducible apply fr_if

theorem fr_execClaimLimitExpiry {mm : Nat} {s0 s : State} (hm : In 279296 mm) (h : Fr mm s0 s) :
    FrOut mm s0 (execClaimLimitExpiry s) := by
  unfold execClaimLimitExpiry
  try dsimp only
  repeat'
    first
    | with_reducible assumption
    | (exact in_of hm rfl)
    | with_reducible apply frOut_next
    | intro _
    | with_reducible apply fr_claimLost
    | with_reducible apply fr_done
    | with_reducible apply fr_if

theorem fr_execTwinLost {mm : Nat} {s0 s : State} (hm : In 325603 mm) (h : Fr mm s0 s) :
    FrOut mm s0 (execTwinLost s) := by
  unfold execTwinLost
  try dsimp only
  repeat'
    first
    | with_reducible assumption
    | (exact in_of hm rfl)
    | with_reducible apply frOut_next
    | intro _
    | with_reducible apply fr_loseTwin
    | with_reducible apply fr_stopResync
    | with_reducible apply fr_done
    | with_reducible apply fr_if

theorem fr_execInSyncTimeout {mm : Nat} {s0 s : State} (hm : In 512 mm) (h : Fr mm s0 s) :
    FrOut mm s0 (execInSyncTimeout s) := by
  unfold execInSyncTimeout
  try dsimp only
  repeat'
    first
    | with_reducible assumption
    | (exact in_of hm rfl)
    | with_reducible apply frOut_next
    | intro _
    | with_reducible apply fr_modTwin
    | with_reducible apply fr_done
    | with_reducible apply fr_if

theorem fr_execWatchdogRefresh {mm : Nat} {s0 s : State} (hm : In 512 mm) (h : Fr mm s0 s) :
    FrOut mm s0 (execWatchdogRefresh s) := by
  unfold execWatchdogRefresh
  try dsimp only
  repeat'
    first
    | with_reducible assumption
    | (exact in_of hm rfl)
    | with_reducible apply frOut_next
    | intro _
    | with_reducible apply fr_modTwin

theorem fr_execWatchdogExpiry {mm : Nat} {s0 s : State} (hm : In 279296 mm) (h : Fr mm s0 s) :
    FrOut mm s0 (execWatchdogExpiry s) := by
  unfold execWatchdogExpiry
  try dsimp only
  repeat'
    first
    | with_reducible assumption
    | (exact in_of hm rfl)
    | with_reducible apply frOut_next
    | intro _
    | with_reducible apply fr_fence
    | with_reducible apply fr_modTwin
    | with_reducible apply fr_raise
    | with_reducible apply fr_done
    | with_reducible apply fr_if

theorem fr_vaultClaimed {mm : Nat} {s0 s : State} (hm : In 325603 mm) (h : Fr mm s0 s) (v : Nat) :
    Fr mm s0 (State.vaultClaimed s v) := by
  unfold State.vaultClaimed
  try dsimp only
  repeat'
    first
    | with_reducible assumption
    | (exact in_of hm rfl)
    | intro _
    | with_reducible apply fr_copyFailures
    | with_reducible apply fr_sendCommit
    | with_reducible apply fr_if
    | with_reducible apply fr_ifn
    | with_reducible apply fr_foldl

theorem fr_execClaimFrame {mm : Nat} {s0 s : State} (hm : In 325603 mm) (h : Fr mm s0 s) (h : Hdr) (vault : Nat) (claim : Nat) :
    FrOut mm s0 (execClaimFrame h vault claim s) := by
  unfold execClaimFrame
  try dsimp only
  repeat'
    first
    | with_reducible assumption
    | (exact in_of hm rfl)
    | with_reducible apply frOut_next
    | intro _
    | with_reducible apply fr_advanceWorks
    | with_reducible apply fr_learnClaim
    | with_reducible apply fr_onFrame
    | with_reducible apply fr_vaultClaimed
    | with_reducible apply fr_done
    | with_reducible apply fr_if

theorem fr_execReclaimDelayExpiry {mm : Nat} {s0 s : State} (hm : In 262912 mm) (h : Fr mm s0 s) (keysOwn : Bool) :
    FrOut mm s0 (execReclaimDelayExpiry keysOwn s) := by
  unfold execReclaimDelayExpiry
  try dsimp only
  repeat'
    first
    | with_reducible assumption
    | (exact in_of hm rfl)
    | with_reducible apply frOut_next
    | intro _
    | with_reducible apply fr_claimBegin
    | with_reducible apply fr_modPersist
    | with_reducible apply fr_modTwin
    | with_reducible apply fr_done
    | with_reducible apply fr_if

theorem fr_execHandover {mm : Nat} {s0 s : State} (hm : In 308777 mm) (h : Fr mm s0 s) (rq : Req) (tag : Nat) :
    FrOut mm s0 (execHandover rq tag s) := by
  unfold execHandover
  try dsimp only
  repeat'
    first
    | with_reducible assumption
    | (exact in_of hm rfl)
    | with_reducible apply frOut_next
    | intro _
    | with_reducible apply fr_modTwin
    | with_reducible apply fr_writeNum
    | with_reducible apply fr_done
    | with_reducible apply fr_if
    | with_reducible apply fr_ifn
    | split

theorem fr_execHandoverDrained {mm : Nat} {s0 s : State} (hm : In 262656 mm) (h : Fr mm s0 s) :
    FrOut mm s0 (execHandoverDrained s) := by
  unfold execHandoverDrained
  try dsimp only
  repeat'
    first
    | with_reducible assumption
    | (exact in_of hm rfl)
    | with_reducible apply frOut_next
    | intro _
    | with_reducible apply fr_count
    | with_reducible apply fr_modTwin
    | with_reducible apply fr_raise
    | with_reducible apply fr_done
    | with_reducible apply fr_if

theorem fr_execHandoverHoldExpiry {mm : Nat} {s0 s : State} (hm : In 325603 mm) (h : Fr mm s0 s) :
    FrOut mm s0 (execHandoverHoldExpiry s) := by
  unfold execHandoverHoldExpiry
  try dsimp only
  repeat'
    first
    | with_reducible assumption
    | (exact in_of hm rfl)
    | with_reducible apply frOut_next
    | intro _
    | with_reducible apply fr_afterHorizon
    | with_reducible apply fr_emits
    | with_reducible apply fr_modDrive
    | with_reducible apply fr_modTwin
    | with_reducible apply fr_raise
    | with_reducible apply fr_sendAll
    | with_reducible apply fr_unfence
    | with_reducible apply fr_done
    | with_reducible apply fr_if
    | with_reducible apply fr_ifn
    | with_reducible apply fr_foldl

theorem fr_startResync {mm : Nat} {s0 s : State} (hm : In 308993 mm) (h : Fr mm s0 s) :
    Fr mm s0 (State.startResync s) := by
  unfold State.startResync
  try dsimp only
  repeat'
    first
    | with_reducible assumption
    | (exact in_of hm rfl)
    | intro _
    | with_reducible apply fr_modPersist
    | with_reducible apply fr_modTwin
    | with_reducible apply fr_raise
    | with_reducible apply fr_resyncCheck
    | with_reducible apply fr_sendOn
    | (refine fr_of_fst (by with_reducible assumption) ?_)
    | with_reducible apply fr_if
    | with_reducible apply fr_ifn
    | with_reducible apply fr_foldl
    | with_reducible apply fr_foldl_fst
    | split

theorem fr_execResyncStart {mm : Nat} {s0 s : State} (hm : In 325603 mm) (h : Fr mm s0 s) :
    FrOut mm s0 (execResyncStart s) := by
  unfold execResyncStart
  try dsimp only
  repeat'
    first
    | with_reducible assumption
    | (exact in_of hm rfl)
    | with_reducible apply frOut_next
    | intro _
    | with_reducible apply fr_afterHorizon
    | with_reducible apply fr_startResync
    | with_reducible apply fr_done
    | with_reducible apply fr_if

theorem fr_execResyncGranuleSend {mm : Nat} {s0 s : State} (hm : In 308993 mm) (h : Fr mm s0 s) (slot : Nat) (granule : Nat) :
    FrOut mm s0 (execResyncGranuleSend slot granule s) := by
  unfold execResyncGranuleSend
  try dsimp only
  repeat'
    first
    | with_reducible assumption
    | (exact in_of hm rfl)
    | with_reducible apply frOut_next
    | intro _
    | with_reducible apply fr_count
    | with_reducible apply fr_modTwin
    | with_reducible apply fr_sendGranule
    | with_reducible apply fr_done
    | with_reducible apply fr_if

theorem fr_emptyMeta {mm : Nat} {s0 s : State} (hm : In 16768 mm) (h : Fr mm s0 s) :
    Fr mm s0 (State.emptyMeta s) := by
  unfold State.emptyMeta
  try dsimp only
  repeat'
    first
    | with_reducible assumption
    | (exact in_of hm rfl)
    | intro _
    | with_reducible apply fr_modEcc
    | with_reducible apply fr_modPersist
    | with_reducible apply fr_modPlace

theorem fr_execMetaFrame {mm : Nat} {s0 s : State} (hm : In 325603 mm) (h : Fr mm s0 s) (h : Hdr) (part : Nat) (off : Nat) (m : List Line × List MetaUpd) :
    FrOut mm s0 (execMetaFrame h part off m s) := by
  unfold execMetaFrame
  try dsimp only
  repeat'
    first
    | with_reducible assumption
    | (exact in_of hm rfl)
    | with_reducible apply frOut_next
    | with_reducible apply frOut_fault
    | intro _
    | with_reducible apply fr_applyUpd
    | with_reducible apply fr_emptyMeta
    | with_reducible apply fr_putLine
    | with_reducible apply fr_ranksGone
    | with_reducible apply fr_rx
    | with_reducible apply fr_done
    | (refine fr_of_fst (by with_reducible assumption) ?_)
    | with_reducible apply fr_if
    | with_reducible apply fr_ifn
    | with_reducible apply fr_foldl
    | with_reducible apply fr_foldl_fst
    | split

/-! ### Machine/Hinge.lean -/

theorem fr_portServes {mm : Nat} {s0 s : State} (hm : In 308737 mm) (h : Fr mm s0 s) (p : Nat) (mode : Nat) (lanes : Nat) (cause : Nat) :
    Fr mm s0 (State.portServes s p mode lanes cause) := by
  unfold State.portServes
  try dsimp only
  repeat'
    first
    | with_reducible assumption
    | (exact in_of hm rfl)
    | intro _
    | with_reducible apply fr_modXport
    | with_reducible apply fr_placePtp
    | with_reducible apply fr_portEvent
    | with_reducible apply fr_portSignal
    | with_reducible apply fr_resendStreams

theorem fr_execHingeLinkUp {mm : Nat} {s0 s : State} (hm : In 308737 mm) (h : Fr mm s0 s) (p : Nat) (mode : Nat) (lanes : Nat) :
    FrOut mm s0 (execHingeLinkUp p mode lanes s) := by
  unfold execHingeLinkUp
  try dsimp only
  repeat'
    first
    | with_reducible assumption
    | (exact in_of hm rfl)
    | with_reducible apply frOut_next
    | intro _
    | with_reducible apply fr_portServes
    | with_reducible apply fr_done
    | (refine fr_of_fst (by with_reducible assumption) ?_)
    | with_reducible apply fr_if

theorem fr_execHingeLinkDown {mm : Nat} {s0 s : State} (hm : In 308737 mm) (h : Fr mm s0 s) (p : Nat) :
    FrOut mm s0 (execHingeLinkDown p s) := by
  unfold execHingeLinkDown
  try dsimp only
  repeat'
    first
    | with_reducible assumption
    | (exact in_of hm rfl)
    | with_reducible apply frOut_next
    | intro _
    | with_reducible apply fr_portEvent
    | with_reducible apply fr_portLost
    | with_reducible apply fr_done
    | with_reducible apply fr_if

theorem fr_execHingeLaneFailure {mm : Nat} {s0 s : State} (hm : In 308737 mm) (h : Fr mm s0 s) (p : Nat) (lane : Nat) (partnerModes : List (Nat × Nat)) :
    FrOut mm s0 (execHingeLaneFailure p lane partnerModes s) := by
  unfold execHingeLaneFailure
  try dsimp only
  repeat'
    first
    | with_reducible assumption
    | (exact in_of hm rfl)
    | with_reducible apply frOut_next
    | intro _
    | with_reducible apply fr_modXport
    | with_reducible apply fr_portEvent
    | with_reducible apply fr_portLost
    | with_reducible apply fr_portServes
    | with_reducible apply fr_done
    | (refine fr_of_fst (by with_reducible assumption) ?_)
    | with_reducible apply fr_if
    | with_reducible apply fr_ifn
    | split

theorem fr_execHingeRetrain {mm : Nat} {s0 s : State} (hm : In 308777 mm) (h : Fr mm s0 s) (rq : Req) (tag : Nat) (p : Nat) :
    FrOut mm s0 (execHingeRetrain rq tag p s) := by
  unfold execHingeRetrain
  try dsimp only
  repeat'
    first
    | with_reducible assumption
    | (exact in_of hm rfl)
    | with_reducible apply frOut_next
    | intro _
    | with_reducible apply fr_modXport
    | with_reducible apply fr_portLost
    | with_reducible apply fr_writeNum
    | with_reducible apply fr_done
    | with_reducible apply fr_if
    | with_reducible apply fr_ifn
    | split

theorem fr_execHingePortEnableWrite {mm : Nat} {s0 s : State} (hm : In 308781 mm) (h : Fr mm s0 s) (rq : Req) (tag : Nat) (p : Nat) (on : Bool) :
    FrOut mm s0 (execHingePortEnableWrite rq tag p on s) := by
  unfold execHingePortEnableWrite
  try dsimp only
  repeat'
    first
    | with_reducible assumption
    | (exact in_of hm rfl)
    | with_reducible apply frOut_next
    | intro _
    | with_reducible apply fr_modXport
    | with_reducible apply fr_portEvent
    | with_reducible apply fr_portLost
    | with_reducible apply fr_setSetting
    | with_reducible apply fr_writeNum
    | with_reducible apply fr_done
    | with_reducible apply fr_if
    | with_reducible apply fr_ifn
    | split

theorem fr_refuseReq {mm : Nat} {s0 s : State} (hm : In 308225 mm) (h : Fr mm s0 s) (peer : Nat) (q : ReqSub) (status : Nat) :
    Fr mm s0 (State.refuseReq s peer q status) := by
  unfold State.refuseReq
  try dsimp only
  repeat'
    first
    | with_reducible assumption
    | (exact in_of hm rfl)
    | intro _
    | with_reducible apply fr_send

theorem fr_homeRead {mm : Nat} {s0 s : State} (hm : In 308481 mm) (h : Fr mm s0 s) (peer : Nat) (q : ReqSub) :
    Fr mm s0 (State.homeRead s peer q) := by
  unfold State.homeRead
  try dsimp only
  repeat'
    first
    | with_reducible assumption
    | (exact in_of hm rfl)
    | intro _
    | with_reducible apply fr_modPersist
    | with_reducible apply fr_readHome
    | with_reducible apply fr_refuseReq
    | with_reducible apply fr_if
    | with_reducible apply fr_ifn
    | split

theorem fr_readFrame {mm : Nat} {s0 s : State} (hm : In 325603 mm) (h : Fr mm s0 s) (peer : Nat) (q : ReqSub) :
    Fr mm s0 (State.readFrame s peer q) := by
  unfold State.readFrame
  try dsimp only
  repeat'
    first
    | with_reducible assumption
    | (exact in_of hm rfl)
    | intro _
    | with_reducible apply fr_arriveRemote
    | with_reducible apply fr_askDram
    | with_reducible apply fr_countFor
    | with_reducible apply fr_homeRead
    | with_reducible apply fr_modPlace
    | with_reducible apply fr_refuseReq
    | with_reducible apply fr_sample
    | with_reducible apply fr_sendGranule
    | with_reducible apply fr_sendList
    | with_reducible apply fr_if
    | with_reducible apply fr_ifn
    | split

theorem fr_execHingeRead {mm : Nat} {s0 s : State} (hm : In 325603 mm) (h : Fr mm s0 s) (h : Hdr) (q : ReqSub) :
    FrOut mm s0 (execHingeRead h q s) := by
  unfold execHingeRead
  try dsimp only
  repeat'
    first
    | with_reducible assumption
    | (exact in_of hm rfl)
    | with_reducible apply frOut_next
    | intro _
    | with_reducible apply fr_onFrame
    | with_reducible apply fr_readFrame

theorem fr_completeKnown {mm : Nat} {s0 s : State} (hm : In 308577 mm) (h : Fr mm s0 s) (peer : Nat) (q : ReqSub) :
    Fr mm s0 (State.completeKnown s peer q) := by
  unfold State.completeKnown
  try dsimp only
  repeat'
    first
    | with_reducible assumption
    | (exact in_of hm rfl)
    | with_reducible apply fr_id
    | intro _
    | with_reducible apply fr_answer
    | with_reducible apply fr_completeWrites
    | with_reducible apply fr_modPersist
    | with_reducible apply fr_pumpUrgent
    | with_reducible apply fr_if
    | with_reducible apply fr_ifn
    | split

theorem fr_writeFrame {mm : Nat} {s0 s : State} (hm : In 325603 mm) (h : Fr mm s0 s) (h : Hdr) (q : ReqSub) (lines : List Line) (resend : Bool) :
    Fr mm s0 (State.writeFrame s h q lines resend) := by
  unfold State.writeFrame
  try dsimp only
  repeat'
    first
    | with_reducible assumption
    | (exact in_of hm rfl)
    | intro _
    | with_reducible apply fr_answerMoved
    | with_reducible apply fr_arriveRemote
    | with_reducible apply fr_completeKnown
    | with_reducible apply fr_raise
    | with_reducible apply fr_refuseReq
    | (refine fr_of_fst (by with_reducible assumption) ?_)
    | with_reducible apply fr_if
    | with_reducible apply fr_ifn
    | with_reducible apply fr_foldl
    | with_reducible apply fr_foldl_fst
    | split

theorem fr_execHingeWrite {mm : Nat} {s0 s : State} (hm : In 325603 mm) (h : Fr mm s0 s) (h : Hdr) (q : ReqSub) (lines : List Line) (resend : Bool) :
    FrOut mm s0 (execHingeWrite h q lines resend s) := by
  unfold execHingeWrite
  try dsimp only
  repeat'
    first
    | with_reducible assumption
    | (exact in_of hm rfl)
    | with_reducible apply frOut_next
    | intro _
    | with_reducible apply fr_advanceWorks
    | with_reducible apply fr_onFrame
    | with_reducible apply fr_writeFrame

theorem fr_pieceFrame {mm : Nat} {s0 s : State} (hm : In 325603 mm) (h : Fr mm s0 s) (peer : Nat) (q : ReqSub) (desc : Bytes) (off : Nat) (len : Nat) :
    Fr mm s0 (State.pieceFrame s peer q desc off len) := by
  unfold State.pieceFrame
  try dsimp only
  repeat'
    first
    | with_reducible assumption
    | (exact in_of hm rfl)
    | intro _
    | with_reducible apply fr_advanceWorks
    | with_reducible apply fr_answerMoved
    | with_reducible apply fr_arrivePiece
    | with_reducible apply fr_refuseReq
    | with_reducible apply fr_startPiece
    | with_reducible apply fr_if

theorem fr_execPiece {mm : Nat} {s0 s : State} (hm : In 325603 mm) (h : Fr mm s0 s) (h : Hdr) (q : ReqSub) (desc : Bytes) (off : Nat) (len : Nat) :
    FrOut mm s0 (execPiece h q desc off len s) := by
  unfold execPiece
  try dsimp only
  repeat'
    first
    | with_reducible assumption
    | (exact in_of hm rfl)
    | with_reducible apply frOut_next
    | intro _
    | with_reducible apply fr_onFrame
    | with_reducible apply fr_pieceFrame

theorem fr_pieceAnswered {mm : Nat} {s0 s : State} (hm : In 96 mm) (h : Fr mm s0 s) (e : EReq) (r : RespSub) (b : Bytes) :
    Fr mm s0 (State.pieceAnswered s e r b) := by
  unfold State.pieceAnswered
  try dsimp only
  repeat'
    first
    | with_reducible assumption
    | (exact in_of hm rfl)
    | with_reducible apply fr_id
    | intro _
    | with_reducible apply fr_dropReq
    | with_reducible apply fr_modWork
    | with_reducible apply fr_workEnd
    | with_reducible apply fr_if
    | with_reducible apply fr_ifn
    | split

theorem fr_turnedAway {mm : Nat} {s0 s : State} (hm : In 325603 mm) (h : Fr mm s0 s) (e : EReq) (peer : Nat) (r : RespSub) :
    Fr mm s0 (State.turnedAway s e peer r) := by
  unfold State.turnedAway
  try dsimp only
  repeat'
    first
    | with_reducible assumption
    | (exact in_of hm rfl)
    | intro _
    | with_reducible apply fr_endWrite
    | with_reducible apply fr_pieceAnswered
    | with_reducible apply fr_route
    | with_reducible apply fr_if

theorem fr_putPart {mm : Nat} {s0 s : State} (hm : In 325379 mm) (h : Fr mm s0 s) (g : Nat) (off : Nat) (ls : List Line) (ps : List Bool) :
    Fr mm s0 (State.putPart s g off ls ps) := by
  unfold State.putPart
  try dsimp only
  repeat'
    first
    | with_reducible assumption
    | (exact in_of hm rfl)
    | intro _
    | with_reducible apply fr_askWrite
    | with_reducible apply fr_poisonEnter
    | with_reducible apply fr_putLine
    | with_reducible apply fr_if
    | with_reducible apply fr_ifn
    | with_reducible apply fr_foldl

theorem fr_servedBy {mm : Nat} {s0 s : State} (hm : In 262144 mm) (h : Fr mm s0 s) (e : EReq) (peer : Nat) :
    Fr mm s0 (State.servedBy s e peer) := by
  unfold State.servedBy
  try dsimp only
  repeat'
    first
    | with_reducible assumption
    | (exact in_of hm rfl)
    | intro _
    | with_reducible apply fr_countPort
    | with_reducible apply fr_if

theorem fr_refill {mm : Nat} {s0 s : State} (hm : In 290946 mm) (h : Fr mm s0 s) (e : EReq) (line : Line) (poison : Bool) :
    Fr mm s0 (State.refill s e line poison) := by
  unfold State.refill
  try dsimp only
  repeat'
    first
    | with_reducible assumption
    | (exact in_of hm rfl)
    | intro _
    | with_reducible apply fr_askWrite
    | with_reducible apply fr_modPlace
    | with_reducible apply fr_putLine
    | with_reducible apply fr_if
    | with_reducible apply fr_ifn
    | split

theorem fr_dataFor {mm : Nat} {s0 s : State} (hm : In 325603 mm) (h : Fr mm s0 s) (peer : Nat) (r : RespSub) (ls : List Line) (ps : List Bool) :
    Fr mm s0 (State.dataFor s peer r ls ps) := by
  unfold State.dataFor
  try dsimp only
  repeat'
    first
    | with_reducible assumption
    | (exact in_of hm rfl)
    | intro _
    | with_reducible apply fr_finishRead
    | with_reducible apply fr_granRestored
    | with_reducible apply fr_pieceAnswered
    | with_reducible apply fr_putPart
    | with_reducible apply fr_refill
    | with_reducible apply fr_repairAnswered
    | with_reducible apply fr_servedBy
    | with_reducible apply fr_standbyGoesOn
    | with_reducible apply fr_if
    | with_reducible apply fr_ifn
    | split

theorem fr_execDataFrame {mm : Nat} {s0 s : State} (hm : In 325603 mm) (h : Fr mm s0 s) (h : Hdr) (r : RespSub) (lines : List Line) :
    FrOut mm s0 (execDataFrame h r lines s) := by
  unfold execDataFrame
  try dsimp only
  repeat'
    first
    | with_reducible assumption
    | (exact in_of hm rfl)
    | with_reducible apply frOut_next
    | intro _
    | with_reducible apply fr_advanceWorks
    | with_reducible apply fr_dataFor
    | with_reducible apply fr_onFrame

theorem fr_busyFor {mm : Nat} {s0 s : State} (hm : In 96 mm) (h : Fr mm s0 s) (e : EReq) (r : RespSub) :
    Fr mm s0 (State.busyFor s e r) := by
  unfold State.busyFor
  try dsimp only
  repeat'
    first
    | with_reducible assumption
    | (exact in_of hm rfl)
    | intro _
    | with_reducible apply fr_modReq
    | with_reducible apply fr_pieceAnswered
    | with_reducible apply fr_if

theorem fr_busyAgain {mm : Nat} {s0 s : State} (hm : In 325603 mm) (h : Fr mm s0 s) :
    Fr mm s0 (State.busyAgain s) := by
  unfold State.busyAgain
  try dsimp only
  repeat'
    first
    | with_reducible assumption
    | (exact in_of hm rfl)
    | intro _
    | with_reducible apply fr_modReq
    | with_reducible apply fr_route
    | with_reducible apply fr_foldl

theorem fr_movedFor {mm : Nat} {s0 s : State} (hm : In 325603 mm) (h : Fr mm s0 s) (e : EReq) (r : RespSub) :
    Fr mm s0 (State.movedFor s e r) := by
  unfold State.movedFor
  try dsimp only
  repeat'
    first
    | with_reducible assumption
    | (exact in_of hm rfl)
    | intro _
    | with_reducible apply fr_endWrite
    | with_reducible apply fr_pieceAnswered
    | with_reducible apply fr_route
    | with_reducible apply fr_routeTo
    | with_reducible apply fr_tcacheDrop
    | with_reducible apply fr_tcacheFill
    | with_reducible apply fr_if

theorem fr_statusFor {mm : Nat} {s0 s : State} (hm : In 325603 mm) (h : Fr mm s0 s) (peer : Nat) (r : RespSub) :
    Fr mm s0 (State.statusFor s peer r) := by
  unfold State.statusFor
  try dsimp only
  repeat'
    first
    | with_reducible assumption
    | (exact in_of hm rfl)
    | intro _
    | with_reducible apply fr_busyFor
    | with_reducible apply fr_endWrite
    | with_reducible apply fr_failRepair
    | with_reducible apply fr_finishRead
    | with_reducible apply fr_movedFor
    | with_reducible apply fr_pieceAnswered
    | with_reducible apply fr_routeTo
    | with_reducible apply fr_servedBy
    | with_reducible apply fr_turnedAway
    | with_reducible apply fr_unhomed
    | with_reducible apply fr_if
    | with_reducible apply fr_ifn
    | split

theorem fr_execStatus {mm : Nat} {s0 s : State} (hm : In 325603 mm) (h : Fr mm s0 s) (h : Hdr) (r : RespSub) :
    FrOut mm s0 (execStatus h r s) := by
  unfold execStatus
  try dsimp only
  repeat'
    first
    | with_reducible assumption
    | (exact in_of hm rfl)
    | with_reducible apply frOut_next
    | intro _
    | with_reducible apply fr_advanceWorks
    | with_reducible apply fr_onFrame
    | with_reducible apply fr_statusFor

theorem fr_onControl {mm : Nat} {s0 s : State} (hm : In 325603 mm) (h : Fr mm s0 s) (h : Hdr) (b : FBody) (f : State → State) (hf : ∀ (s : State), Fr mm s0 s → Fr mm s0 (f s)) :
    Fr mm s0 (State.onControl s h b f) := by
  unfold State.onControl
  try dsimp only
  repeat'
    first
    | with_reducible assumption
    | (exact in_of hm rfl)
    | intro _
    | with_reducible apply fr_rx
    | with_reducible apply hf
    | (refine fr_of_fst (by with_reducible assumption) ?_)
    | with_reducible apply fr_if

theorem fr_execAck {mm : Nat} {s0 s : State} (hm : In 327651 mm) (h : Fr mm s0 s) (h : Hdr) (next : List Nat) (credits : List Nat) :
    FrOut mm s0 (execAck h next credits s) := by
  unfold execAck
  try dsimp only
  repeat'
    first
    | with_reducible assumption
    | (exact in_of hm rfl)
    | with_reducible apply frOut_next
    | intro _
    | with_reducible apply fr_castOps
    | with_reducible apply fr_onControl
    | with_reducible apply fr_openHeld
    | with_reducible apply fr_pumpAll
    | with_reducible apply fr_putConn
    | with_reducible apply fr_done
    | with_reducible apply fr_if
    | with_reducible apply fr_ifn
    | with_reducible apply fr_foldl
    | with_reducible apply fr_foldl_fst
    | split

theorem fr_retransmit {mm : Nat} {s0 s : State} (hm : In 308225 mm) (h : Fr mm s0 s) (c : Conn) (vc : Nat) :
    Fr mm s0 (State.retransmit s c vc) := by
  unfold State.retransmit
  try dsimp only
  repeat'
    first
    | with_reducible assumption
    | (exact in_of hm rfl)
    | intro _
    | with_reducible apply fr_connFails
    | with_reducible apply fr_count
    | with_reducible apply fr_putConn
    | with_reducible apply fr_putFrame
    | with_reducible apply fr_if
    | with_reducible apply fr_ifn
    | with_reducible apply fr_foldl

theorem fr_execNak {mm : Nat} {s0 s : State} (hm : In 325603 mm) (h : Fr mm s0 s) (h : Hdr) (vc : Nat) (next : Nat) :
    FrOut mm s0 (execNak h vc next s) := by
  unfold execNak
  try dsimp only
  repeat'
    first
    | with_reducible assumption
    | (exact in_of hm rfl)
    | with_reducible apply frOut_next
    | intro _
    | with_reducible apply fr_onControl
    | with_reducible apply fr_putConn
    | with_reducible apply fr_retransmit
    | with_reducible apply fr_done
    | with_reducible apply fr_if
    | with_reducible apply fr_ifn
    | split

theorem fr_connEvent {mm : Nat} {s0 s : State} (hm : In 262144 mm) (h : Fr mm s0 s) (peer : Nat) (p : Nat) (cause : Nat) :
    Fr mm s0 (State.connEvent s peer p cause) := by
  unfold State.connEvent
  try dsimp only
  repeat'
    first
    | with_reducible assumption
    | (exact in_of hm rfl)
    | intro _
    | with_reducible apply fr_raise

theorem fr_opens {mm : Nat} {s0 s : State} (hm : In 308225 mm) (h : Fr mm s0 s) (c : Conn) (b : ConnBody) :
    Fr mm s0 (State.opens s c b) := by
  unfold State.opens
  try dsimp only
  repeat'
    first
    | with_reducible assumption
    | (exact in_of hm rfl)
    | intro _
    | with_reducible apply fr_modHinge
    | with_reducible apply fr_pumpAll
    | with_reducible apply fr_putConn
    | (refine fr_of_fst (by with_reducible assumption) ?_)
    | with_reducible apply fr_foldl

theorem fr_answerConn {mm : Nat} {s0 s : State} (hm : In 1024 mm) (h : Fr mm s0 s) (peer : Nat) (p : Nat) (rport : Nat) (waiting : List (List FBody)) :
    Fr mm s0 (State.answerConn s peer p rport waiting).1 := by
  unfold State.answerConn
  try dsimp only
  repeat'
    first
    | with_reducible assumption
    | (exact in_of hm rfl)
    | intro _
    | with_reducible apply fr_nextEpoch

theorem fr_connectFrom {mm : Nat} {s0 s : State} (hm : In 308225 mm) (h : Fr mm s0 s) (peer : Nat) (p : Nat) (rport : Nat) (b : ConnBody) :
    Fr mm s0 (State.connectFrom s peer p rport b) := by
  unfold State.connectFrom
  try dsimp only
  repeat'
    first
    | with_reducible assumption
    | (exact in_of hm rfl)
    | intro _
    | with_reducible apply fr_answerConn
    | with_reducible apply fr_connEvent
    | with_reducible apply fr_connFails
    | with_reducible apply fr_opens
    | with_reducible apply fr_putConn
    | with_reducible apply fr_putFrame
    | with_reducible apply fr_roomForConn
    | (refine fr_of_fst (by with_reducible assumption) ?_)
    | with_reducible apply fr_if
    | with_reducible apply fr_ifn
    | split

theorem fr_execConnect {mm : Nat} {s0 s : State} (hm : In 325603 mm) (h : Fr mm s0 s) (h : Hdr) (b : ConnBody) :
    FrOut mm s0 (execConnect h b s) := by
  unfold execConnect
  try dsimp only
  repeat'
    first
    | with_reducible assumption
    | (exact in_of hm rfl)
    | with_reducible apply frOut_next
    | intro _
    | with_reducible apply fr_connectFrom
    | with_reducible apply fr_onControl

theorem fr_execAccept {mm : Nat} {s0 s : State} (hm : In 327651 mm) (h : Fr mm s0 s) (h : Hdr) (b : ConnBody) :
    FrOut mm s0 (execAccept h b s) := by
  unfold execAccept
  try dsimp only
  repeat'
    first
    | with_reducible assumption
    | (exact in_of hm rfl)
    | with_reducible apply frOut_next
    | intro _
    | with_reducible apply fr_connEvent
    | with_reducible apply fr_modPool
    | with_reducible apply fr_onControl
    | with_reducible apply fr_opens
    | with_reducible apply fr_putConn
    | with_reducible apply fr_done
    | with_reducible apply fr_if
    | with_reducible apply fr_ifn
    | split

theorem fr_execClose {mm : Nat} {s0 s : State} (hm : In 327651 mm) (h : Fr mm s0 s) (h : Hdr) (why : Nat) :
    FrOut mm s0 (execClose h why s) := by
  unfold execClose
  try dsimp only
  repeat'
    first
    | with_reducible assumption
    | (exact in_of hm rfl)
    | with_reducible apply frOut_next
    | intro _
    | with_reducible apply fr_connEvent
    | with_reducible apply fr_dropConn
    | with_reducible apply fr_modPool
    | with_reducible apply fr_moveConn
    | with_reducible apply fr_onControl
    | with_reducible apply fr_openHeld
    | with_reducible apply fr_putConn
    | with_reducible apply fr_raise
    | with_reducible apply fr_resendStreams
    | with_reducible apply fr_done
    | with_reducible apply fr_if
    | with_reducible apply fr_ifn
    | split

theorem fr_execRetransmitTimeout {mm : Nat} {s0 s : State} (hm : In 308225 mm) (h : Fr mm s0 s) (peer : Nat) (port : Nat) (vc : Nat) :
    FrOut mm s0 (execRetransmitTimeout peer port vc s) := by
  unfold execRetransmitTimeout
  try dsimp only
  repeat'
    first
    | with_reducible assumption
    | (exact in_of hm rfl)
    | with_reducible apply frOut_next
    | intro _
    | with_reducible apply fr_retransmit
    | with_reducible apply fr_done
    | with_reducible apply fr_if
    | with_reducible apply fr_ifn
    | split

theorem fr_execAckTimer {mm : Nat} {s0 s : State} (hm : In 275457 mm) (h : Fr mm s0 s) (peer : Nat) (port : Nat) (vc : Nat) :
    FrOut mm s0 (execAckTimer peer port vc s) := by
  unfold execAckTimer
  try dsimp only
  repeat'
    first
    | with_reducible assumption
    | (exact in_of hm rfl)
    | with_reducible apply frOut_next
    | intro _
    | with_reducible apply fr_sendAck
    | with_reducible apply fr_done
    | with_reducible apply fr_if
    | with_reducible apply fr_ifn
    | split

theorem fr_peerGone {mm : Nat} {s0 s : State} (hm : In 308225 mm) (h : Fr mm s0 s) (c : Conn) :
    Fr mm s0 (State.peerGone s c) := by
  unfold State.peerGone
  try dsimp only
  repeat'
    first
    | with_reducible assumption
    | (exact in_of hm rfl)
    | intro _
    | with_reducible apply fr_connEvent
    | with_reducible apply fr_dropConn
    | with_reducible apply fr_modHinge
    | with_reducible apply fr_moveConn
    | with_reducible apply fr_resendStreams
    | with_reducible apply fr_if

theorem fr_execConnectTimeout {mm : Nat} {s0 s : State} (hm : In 327651 mm) (h : Fr mm s0 s) (peer : Nat) (port : Nat) :
    FrOut mm s0 (execConnectTimeout peer port s) := by
  unfold execConnectTimeout
  try dsimp only
  repeat'
    first
    | with_reducible assumption
    | (exact in_of hm rfl)
    | with_reducible apply frOut_next
    | intro _
    | with_reducible apply fr_barrierCheck
    | with_reducible apply fr_castOps
    | with_reducible apply fr_opChecks
    | with_reducible apply fr_openHeld
    | with_reducible apply fr_peerGone
    | with_reducible apply fr_putConn
    | with_reducible apply fr_putFrame
    | with_reducible apply fr_settled
    | with_reducible apply fr_done
    | with_reducible apply fr_if
    | with_reducible apply fr_ifn
    | split

theorem fr_execIdleCloseTimer {mm : Nat} {s0 s : State} (hm : In 275457 mm) (h : Fr mm s0 s) (peer : Nat) (port : Nat) :
    FrOut mm s0 (execIdleCloseTimer peer port s) := by
  unfold execIdleCloseTimer
  try dsimp only
  repeat'
    first
    | with_reducible assumption
    | (exact in_of hm rfl)
    | with_reducible apply frOut_next
    | intro _
    | with_reducible apply fr_dropConn
    | with_reducible apply fr_openHeld
    | with_reducible apply fr_putFrame
    | with_reducible apply fr_done
    | with_reducible apply fr_if
    | with_reducible apply fr_ifn
    | split

theorem fr_raiseCredits {mm : Nat} {s0 s : State} (hm : In 1024 mm) (h : Fr mm s0 s) (peer : Nat) (p : Nat) (vc : Nat) :
    Fr mm s0 (State.raiseCredits s peer p vc) := by
  unfold State.raiseCredits
  try dsimp only
  repeat'
    first
    | with_reducible assumption
    | (exact in_of hm rfl)
    | intro _
    | with_reducible apply fr_putConn
    | with_reducible apply fr_if
    | with_reducible apply fr_ifn
    | split

theorem fr_execCreditWindow {mm : Nat} {s0 s : State} (hm : In 325603 mm) (h : Fr mm s0 s) (p : Nat) :
    FrOut mm s0 (execCreditWindow p s) := by
  unfold execCreditWindow
  try dsimp only
  repeat'
    first
    | with_reducible assumption
    | (exact in_of hm rfl)
    | with_reducible apply frOut_next
    | intro _
    | with_reducible apply fr_advanceWorks
    | with_reducible apply fr_busyAgain
    | with_reducible apply fr_modXport
    | with_reducible apply fr_pumpAll
    | with_reducible apply fr_raiseCredits
    | with_reducible apply fr_sendAck
    | with_reducible apply fr_done
    | with_reducible apply fr_if
    | with_reducible apply fr_ifn
    | with_reducible apply fr_foldl

theorem fr_countPause {mm : Nat} {s0 s : State} (hm : In 263168 mm) (h : Fr mm s0 s) (p : Nat) :
    Fr mm s0 (State.countPause s p) := by
  unfold State.countPause
  try dsimp only
  repeat'
    first
    | with_reducible assumption
    | (exact in_of hm rfl)
    | intro _
    | with_reducible apply fr_count
    | with_reducible apply fr_modXport

theorem fr_execPfcPause {mm : Nat} {s0 s : State} (hm : In 308225 mm) (h : Fr mm s0 s) (p : Nat) (prio : Nat) (quanta : Nat) :
    FrOut mm s0 (execPfcPause p prio quanta s) := by
  unfold execPfcPause
  try dsimp only
  repeat'
    first
    | with_reducible assumption
    | (exact in_of hm rfl)
    | with_reducible apply frOut_next
    | intro _
    | with_reducible apply fr_countPause
    | with_reducible apply fr_modXport
    | with_reducible apply fr_pumpAll
    | with_reducible apply fr_done
    | (refine fr_of_fst (by with_reducible assumption) ?_)
    | with_reducible apply fr_if
    | with_reducible apply fr_ifn
    | with_reducible apply fr_foldl

theorem fr_execNeighborSolicitation {mm : Nat} {s0 s : State} (hm : In 275457 mm) (h : Fr mm s0 s) (p : Nat) (solicit : Bool) (addr : Nat) (mac : Nat) :
    FrOut mm s0 (execNeighborSolicitation p solicit addr mac s) := by
  unfold execNeighborSolicitation
  try dsimp only
  repeat'
    first
    | with_reducible assumption
    | (exact in_of hm rfl)
    | with_reducible apply frOut_next
    | intro _
    | with_reducible apply fr_emit
    | with_reducible apply fr_modXport
    | with_reducible apply fr_putDressed
    | with_reducible apply fr_done
    | (refine fr_of_fst (by with_reducible assumption) ?_)
    | with_reducible apply fr_if
    | with_reducible apply fr_ifn
    | with_reducible apply fr_foldl
    | with_reducible apply fr_foldl_fst
    | split

theorem fr_execNdCacheExpiry {mm : Nat} {s0 s : State} (hm : In 1024 mm) (h : Fr mm s0 s) (p : Nat) (addr : Nat) :
    FrOut mm s0 (execNdCacheExpiry p addr s) := by
  unfold execNdCacheExpiry
  try dsimp only
  repeat'
    first
    | with_reducible assumption
    | (exact in_of hm rfl)
    | with_reducible apply frOut_next
    | intro _
    | with_reducible apply fr_modXport

theorem fr_execThrottleNotice {mm : Nat} {s0 s : State} (hm : In 325603 mm) (h : Fr mm s0 s) (h : Hdr) (vault : Nat) (dirty : Nat) :
    FrOut mm s0 (execThrottleNotice h vault dirty s) := by
  unfold execThrottleNotice
  try dsimp only
  repeat'
    first
    | with_reducible assumption
    | (exact in_of hm rfl)
    | with_reducible apply frOut_next
    | intro _
    | with_reducible apply fr_modPersist
    | with_reducible apply fr_onFrame
    | with_reducible apply fr_done
    | with_reducible apply fr_if

theorem fr_execThrottleReleaseNotice {mm : Nat} {s0 s : State} (hm : In 325603 mm) (h : Fr mm s0 s) (h : Hdr) (vault : Nat) (dirty : Nat) :
    FrOut mm s0 (execThrottleReleaseNotice h vault dirty s) := by
  unfold execThrottleReleaseNotice
  try dsimp only
  repeat'
    first
    | with_reducible assumption
    | (exact in_of hm rfl)
    | with_reducible apply frOut_next
    | intro _
    | with_reducible apply fr_modPersist
    | with_reducible apply fr_onFrame
    | with_reducible apply fr_done
    | with_reducible apply fr_if

theorem fr_execFlushNotice {mm : Nat} {s0 s : State} (hm : In 325603 mm) (h : Fr mm s0 s) (h : Hdr) (vault : Nat) (dirty : Nat) :
    FrOut mm s0 (execFlushNotice h vault dirty s) := by
  unfold execFlushNotice
  try dsimp only
  repeat'
    first
    | with_reducible assumption
    | (exact in_of hm rfl)
    | with_reducible apply frOut_next
    | with_reducible apply fr_id
    | intro _
    | with_reducible apply fr_onFrame

theorem fr_execSealedNotice {mm : Nat} {s0 s : State} (hm : In 325603 mm) (h : Fr mm s0 s) (h : Hdr) (vault : Nat) (dirty : Nat) :
    FrOut mm s0 (execSealedNotice h vault dirty s) := by
  unfold execSealedNotice
  try dsimp only
  repeat'
    first
    | with_reducible assumption
    | (exact in_of hm rfl)
    | with_reducible apply frOut_next
    | intro _
    | with_reducible apply fr_modPersist
    | with_reducible apply fr_onFrame
    | with_reducible apply fr_done
    | with_reducible apply fr_if

theorem fr_follows {mm : Nat} {s0 s : State} (hm : In 1024 mm) (h : Fr mm s0 s) (state : Nat) (acc : Nat) (c : PtpClock) :
    Fr mm s0 (State.follows s state acc c) := by
  unfold State.follows
  try dsimp only
  repeat'
    first
    | with_reducible assumption
    | (exact in_of hm rfl)
    | intro _
    | with_reducible apply fr_modHinge

theorem fr_announced {mm : Nat} {s0 s : State} (hm : In 1024 mm) (h : Fr mm s0 s) (c : PtpClock) :
    Fr mm s0 (State.announced s c) := by
  unfold State.announced
  try dsimp only
  repeat'
    first
    | with_reducible assumption
    | (exact in_of hm rfl)
    | intro _
    | with_reducible apply fr_follows
    | with_reducible apply fr_if

theorem fr_synced {mm : Nat} {s0 s : State} (hm : In 1152 mm) (h : Fr mm s0 s) (offset : Int) (delay : Nat) :
    Fr mm s0 (State.synced s offset delay) := by
  unfold State.synced
  try dsimp only
  repeat'
    first
    | with_reducible assumption
    | (exact in_of hm rfl)
    | intro _
    | with_reducible apply fr_modHinge
    | with_reducible apply fr_modPlace
    | with_reducible apply fr_if

theorem fr_execPtpMessage {mm : Nat} {s0 s : State} (hm : In 263297 mm) (h : Fr mm s0 s) (m : Nat × PtpMsg) :
    FrOut mm s0 (execPtpMessage m s) := by
  unfold execPtpMessage
  try dsimp only
  repeat'
    first
    | with_reducible assumption
    | (exact in_of hm rfl)
    | with_reducible apply frOut_next
    | intro _
    | with_reducible apply fr_announced
    | with_reducible apply fr_emit
    | with_reducible apply fr_ptpEvent
    | with_reducible apply fr_synced
    | with_reducible apply fr_done
    | with_reducible apply fr_if
    | with_reducible apply fr_ifn
    | split

theorem fr_announce {mm : Nat} {s0 s : State} (hm : In 1025 mm) (h : Fr mm s0 s) :
    Fr mm s0 (State.announce s) := by
  unfold State.announce
  try dsimp only
  repeat'
    first
    | with_reducible assumption
    | (exact in_of hm rfl)
    | intro _
    | with_reducible apply fr_emit
    | with_reducible apply fr_modHinge
    | with_reducible apply fr_if

theorem fr_execPtpSyncInterval {mm : Nat} {s0 s : State} (hm : In 1025 mm) (h : Fr mm s0 s) :
    FrOut mm s0 (execPtpSyncInterval s) := by
  unfold execPtpSyncInterval
  try dsimp only
  repeat'
    first
    | with_reducible assumption
    | (exact in_of hm rfl)
    | with_reducible apply frOut_next
    | intro _
    | with_reducible apply fr_announce
    | with_reducible apply fr_emit
    | with_reducible apply fr_modHinge
    | with_reducible apply fr_done
    | with_reducible apply fr_if

theorem fr_execPtpDelayRequestInterval {mm : Nat} {s0 s : State} (hm : In 1025 mm) (h : Fr mm s0 s) :
    FrOut mm s0 (execPtpDelayRequestInterval s) := by
  unfold execPtpDelayRequestInterval
  try dsimp only
  repeat'
    first
    | with_reducible assumption
    | (exact in_of hm rfl)
    | with_reducible apply frOut_next
    | intro _
    | with_reducible apply fr_emit
    | with_reducible apply fr_modHinge
    | with_reducible apply fr_done
    | with_reducible apply fr_if

theorem fr_execTimeBaseStep {mm : Nat} {s0 s : State} (hm : In 267392 mm) (h : Fr mm s0 s) (offset : Int) :
    FrOut mm s0 (execTimeBaseStep offset s) := by
  unfold execTimeBaseStep
  try dsimp only
  repeat'
    first
    | with_reducible assumption
    | (exact in_of hm rfl)
    | with_reducible apply frOut_next
    | intro _
    | with_reducible apply fr_modHinge
    | with_reducible apply fr_modLattice
    | with_reducible apply fr_modPlace
    | with_reducible apply fr_raise
    | with_reducible apply fr_done
    | with_reducible apply fr_if

theorem fr_execPtpAnnounceTimeout {mm : Nat} {s0 s : State} (hm : In 263168 mm) (h : Fr mm s0 s) :
    FrOut mm s0 (execPtpAnnounceTimeout s) := by
  unfold execPtpAnnounceTimeout
  try dsimp only
  repeat'
    first
    | with_reducible assumption
    | (exact in_of hm rfl)
    | with_reducible apply frOut_next
    | intro _
    | with_reducible apply fr_follows
    | with_reducible apply fr_modHinge
    | with_reducible apply fr_ptpEvent
    | with_reducible apply fr_done
    | with_reducible apply fr_if

/-! ### Machine/Recorder.lean -/

theorem fr_execAcknowledgeSource {mm : Nat} {s0 s : State} (hm : In 308265 mm) (h : Fr mm s0 s) (rq : Req) (tag : Nat) (n : Nat) :
    FrOut mm s0 (execAcknowledgeSource rq tag n s) := by
  unfold execAcknowledgeSource
  try dsimp only
  repeat'
    first
    | with_reducible assumption
    | (exact in_of hm rfl)
    | with_reducible apply frOut_next
    | intro _
    | with_reducible apply fr_modRec
    | with_reducible apply fr_writeNum

theorem fr_execAcknowledgeAll {mm : Nat} {s0 s : State} (hm : In 308265 mm) (h : Fr mm s0 s) (rq : Req) (tag : Nat) :
    FrOut mm s0 (execAcknowledgeAll rq tag s) := by
  unfold execAcknowledgeAll
  try dsimp only
  repeat'
    first
    | with_reducible assumption
    | (exact in_of hm rfl)
    | with_reducible apply frOut_next
    | intro _
    | with_reducible apply fr_modRec
    | with_reducible apply fr_writeNum

theorem fr_execRecorderFlush {mm : Nat} {s0 s : State} (hm : In 308265 mm) (h : Fr mm s0 s) (rq : Req) (tag : Nat) :
    FrOut mm s0 (execRecorderFlush rq tag s) := by
  unfold execRecorderFlush
  try dsimp only
  repeat'
    first
    | with_reducible assumption
    | (exact in_of hm rfl)
    | with_reducible apply frOut_next
    | intro _
    | with_reducible apply fr_modRec
    | with_reducible apply fr_writeNum
    | with_reducible apply fr_done
    | with_reducible apply fr_if

theorem fr_execClearFirstArea {mm : Nat} {s0 s : State} (hm : In 308265 mm) (h : Fr mm s0 s) (rq : Req) (tag : Nat) :
    FrOut mm s0 (execClearFirstArea rq tag s) := by
  unfold execClearFirstArea
  try dsimp only
  repeat'
    first
    | with_reducible assumption
    | (exact in_of hm rfl)
    | with_reducible apply frOut_next
    | intro _
    | with_reducible apply fr_modRec
    | with_reducible apply fr_raise
    | with_reducible apply fr_writeNum

theorem fr_execRepeatWindowExpiry {mm : Nat} {s0 s : State} (hm : In 262144 mm) (h : Fr mm s0 s) (source : Nat) (cause : Nat) :
    FrOut mm s0 (execRepeatWindowExpiry source cause s) := by
  unfold execRepeatWindowExpiry
  try dsimp only
  repeat'
    first
    | with_reducible assumption
    | (exact in_of hm rfl)
    | with_reducible apply frOut_next
    | intro _
    | with_reducible apply fr_modRec
    | with_reducible apply fr_settleWindow
    | with_reducible apply fr_syncMode
    | with_reducible apply fr_done
    | with_reducible apply fr_if
    | with_reducible apply fr_ifn
    | split

theorem fr_execTokenRefill {mm : Nat} {s0 s : State} (hm : In 262144 mm) (h : Fr mm s0 s) (source : Nat) (cause : Nat) :
    FrOut mm s0 (execTokenRefill source cause s) := by
  unfold execTokenRefill
  try dsimp only
  repeat'
    first
    | with_reducible assumption
    | (exact in_of hm rfl)
    | with_reducible apply frOut_next
    | intro _
    | with_reducible apply fr_modRec
    | with_reducible apply fr_refillBucket
    | with_reducible apply fr_syncMode
    | with_reducible apply fr_done
    | (refine fr_of_fst (by with_reducible assumption) ?_)
    | with_reducible apply fr_if
    | with_reducible apply fr_ifn
    | split

theorem fr_execMgmtInterruptTimer {mm : Nat} {s0 s : State} (hm : In 262177 mm) (h : Fr mm s0 s) (p : Path) :
    FrOut mm s0 (execMgmtInterruptTimer p s) := by
  unfold execMgmtInterruptTimer
  try dsimp only
  repeat'
    first
    | with_reducible assumption
    | (exact in_of hm rfl)
    | with_reducible apply frOut_next
    | intro _
    | with_reducible apply fr_emit
    | with_reducible apply fr_modRec
    | with_reducible apply fr_msix
    | with_reducible apply fr_done
    | with_reducible apply fr_if
    | with_reducible apply fr_ifn
    | split

theorem fr_execCounterPreset {mm : Nat} {s0 s : State} (hm : In 308265 mm) (h : Fr mm s0 s) (rq : Req) (tag : Nat) (n : Nat) (v : Nat) :
    FrOut mm s0 (execCounterPreset rq tag n v s) := by
  unfold execCounterPreset
  try dsimp only
  repeat'
    first
    | with_reducible assumption
    | (exact in_of hm rfl)
    | with_reducible apply frOut_next
    | intro _
    | with_reducible apply fr_modRec
    | with_reducible apply fr_writeNum

theorem fr_execLocalFreezeWrite {mm : Nat} {s0 s : State} (hm : In 308265 mm) (h : Fr mm s0 s) (rq : Req) (tag : Nat) (mask : Nat) :
    FrOut mm s0 (execLocalFreezeWrite rq tag mask s) := by
  unfold execLocalFreezeWrite
  try dsimp only
  repeat'
    first
    | with_reducible assumption
    | (exact in_of hm rfl)
    | with_reducible apply frOut_next
    | intro _
    | with_reducible apply fr_modRec
    | with_reducible apply fr_writeNum

theorem fr_execCounterSweep {mm : Nat} {s0 s : State} (hm : In 263168 mm) (h : Fr mm s0 s) :
    FrOut mm s0 (execCounterSweep s) := by
  unfold execCounterSweep
  try dsimp only
  repeat'
    first
    | with_reducible assumption
    | (exact in_of hm rfl)
    | with_reducible apply frOut_next
    | intro _
    | with_reducible apply fr_countPause
    | with_reducible apply fr_modRec
    | with_reducible apply fr_raise
    | with_reducible apply fr_done
    | (refine fr_of_fst (by with_reducible assumption) ?_)
    | with_reducible apply fr_if
    | with_reducible apply fr_ifn
    | with_reducible apply fr_foldl
    | with_reducible apply fr_foldl_fst
    | split

theorem fr_execUcieLaneFailure {mm : Nat} {s0 s : State} (hm : In 786432 mm) (h : Fr mm s0 s) (m : Nat) (lane : Nat) :
    FrOut mm s0 (execUcieLaneFailure m lane s) := by
  unfold execUcieLaneFailure
  try dsimp only
  repeat'
    first
    | with_reducible assumption
    | (exact in_of hm rfl)
    | with_reducible apply frOut_next
    | intro _
    | with_reducible apply fr_modPower
    | with_reducible apply fr_raise

theorem fr_execUcieRetrain {mm : Nat} {s0 s : State} (hm : In 262144 mm) (h : Fr mm s0 s) (m : Nat) (cause : Nat) :
    FrOut mm s0 (execUcieRetrain m cause s) := by
  unfold execUcieRetrain
  try dsimp only
  repeat'
    first
    | with_reducible assumption
    | (exact in_of hm rfl)
    | with_reducible apply frOut_next
    | intro _
    | with_reducible apply fr_raise

theorem fr_execUcieCrcRate {mm : Nat} {s0 s : State} (hm : In 262144 mm) (h : Fr mm s0 s) (m : Nat) (retries : Nat) :
    FrOut mm s0 (execUcieCrcRate m retries s) := by
  unfold execUcieCrcRate
  try dsimp only
  repeat'
    first
    | with_reducible assumption
    | (exact in_of hm rfl)
    | with_reducible apply frOut_next
    | intro _
    | with_reducible apply fr_raise

theorem fr_execUcieModuleFailure {mm : Nat} {s0 s : State} (hm : In 786432 mm) (h : Fr mm s0 s) (m : Nat) :
    FrOut mm s0 (execUcieModuleFailure m s) := by
  unfold execUcieModuleFailure
  try dsimp only
  repeat'
    first
    | with_reducible assumption
    | (exact in_of hm rfl)
    | with_reducible apply frOut_next
    | intro _
    | with_reducible apply fr_modPower
    | with_reducible apply fr_raise

theorem fr_execTimeBasePllLoss {mm : Nat} {s0 s : State} (hm : In 786432 mm) (h : Fr mm s0 s) :
    FrOut mm s0 (execTimeBasePllLoss s) := by
  unfold execTimeBasePllLoss
  try dsimp only
  repeat'
    first
    | with_reducible assumption
    | (exact in_of hm rfl)
    | with_reducible apply frOut_next
    | intro _
    | with_reducible apply fr_modPower
    | with_reducible apply fr_raise

/-! ### Machine/Lattice.lean -/

theorem fr_modArb {mm : Nat} {s0 s : State} (hm : In 4096 mm) (h : Fr mm s0 s) (r : Nat) (f : Arb → Arb) :
    Fr mm s0 (State.modArb s r f) := by
  unfold State.modArb
  try dsimp only
  repeat'
    first
    | with_reducible assumption
    | (exact in_of hm rfl)
    | intro _
    | with_reducible apply fr_modLattice

theorem fr_pendSwap {mm : Nat} {s0 s : State} (hm : In 4096 mm) (h : Fr mm s0 s) (tables : List (Nat × List Nat)) (senior : Option (List Nat)) :
    Fr mm s0 (State.pendSwap s tables senior) := by
  unfold State.pendSwap
  try dsimp only
  repeat'
    first
    | with_reducible assumption
    | (exact in_of hm rfl)
    | intro _
    | with_reducible apply fr_modArb
    | with_reducible apply fr_modLattice
    | (refine fr_of_fst (by with_reducible assumption) ?_)
    | with_reducible apply fr_foldl

theorem fr_grant {mm : Nat} {s0 s : State} (hm : In 266240 mm) (h : Fr mm s0 s) (r : Nat) (q : LReq) (owner : Nat) :
    Fr mm s0 (State.grant s r q owner) := by
  unfold State.grant
  try dsimp only
  repeat'
    first
    | with_reducible assumption
    | (exact in_of hm rfl)
    | intro _
    | with_reducible apply fr_count
    | with_reducible apply fr_modArb
    | with_reducible apply fr_if

theorem fr_lockEnds {mm : Nat} {s0 s : State} (hm : In 266240 mm) (h : Fr mm s0 s) (r : Nat) (src : Nat) :
    Fr mm s0 (State.lockEnds s r src) := by
  unfold State.lockEnds
  try dsimp only
  repeat'
    first
    | with_reducible assumption
    | (exact in_of hm rfl)
    | intro _
    | with_reducible apply fr_count
    | with_reducible apply fr_modArb
    | with_reducible apply fr_raise
    | with_reducible apply fr_if

theorem fr_startLock {mm : Nat} {s0 s : State} (hm : In 266240 mm) (h : Fr mm s0 s) (r : Nat) (q : LReq) :
    Fr mm s0 (State.startLock s r q) := by
  unfold State.startLock
  try dsimp only
  repeat'
    first
    | with_reducible assumption
    | (exact in_of hm rfl)
    | intro _
    | with_reducible apply fr_count
    | with_reducible apply fr_modArb

theorem fr_grantLocked {mm : Nat} {s0 s : State} (hm : In 266240 mm) (h : Fr mm s0 s) (r : Nat) (src : Nat) :
    Fr mm s0 (State.grantLocked s r src) := by
  unfold State.grantLocked
  try dsimp only
  repeat'
    first
    | with_reducible assumption
    | (exact in_of hm rfl)
    | intro _
    | with_reducible apply fr_grant
    | with_reducible apply fr_lockEnds
    | with_reducible apply fr_modArb
    | with_reducible apply fr_if
    | with_reducible apply fr_ifn
    | split

theorem fr_grantRule {mm : Nat} {s0 s : State} (hm : In 266240 mm) (h : Fr mm s0 s) (r : Nat) (owner : Nat) (lend : Bool) :
    Fr mm s0 (State.grantRule s r owner lend) := by
  unfold State.grantRule
  try dsimp only
  repeat'
    first
    | with_reducible assumption
    | (exact in_of hm rfl)
    | intro _
    | with_reducible apply fr_count
    | with_reducible apply fr_grant
    | with_reducible apply fr_modArb
    | with_reducible apply fr_startLock
    | with_reducible apply fr_if
    | with_reducible apply fr_ifn
    | split

theorem fr_execArbitrate {mm : Nat} {s0 s : State} (hm : In 266240 mm) (h : Fr mm s0 s) (r : Nat) (entryParityOk : Bool) :
    FrOut mm s0 (execArbitrate r entryParityOk s) := by
  unfold execArbitrate
  try dsimp only
  repeat'
    first
    | with_reducible assumption
    | (exact in_of hm rfl)
    | with_reducible apply frOut_next
    | intro _
    | with_reducible apply fr_count
    | with_reducible apply fr_grantLocked
    | with_reducible apply fr_grantRule
    | with_reducible apply fr_lockEnds
    | with_reducible apply fr_modArb
    | with_reducible apply fr_raise
    | with_reducible apply fr_done
    | (refine fr_of_fst (by with_reducible assumption) ?_)
    | with_reducible apply fr_if
    | with_reducible apply fr_ifn
    | split

theorem fr_execTableSwap {mm : Nat} {s0 s : State} (hm : In 266240 mm) (h : Fr mm s0 s) :
    FrOut mm s0 (execTableSwap s) := by
  unfold execTableSwap
  try dsimp only
  repeat'
    first
    | with_reducible assumption
    | (exact in_of hm rfl)
    | with_reducible apply frOut_next
    | intro _
    | with_reducible apply fr_count
    | with_reducible apply fr_modArb
    | with_reducible apply fr_modLattice
    | with_reducible apply fr_raise
    | with_reducible apply fr_done
    | with_reducible apply fr_if
    | with_reducible apply fr_ifn
    | with_reducible apply fr_foldl

theorem fr_satEvent {mm : Nat} {s0 s : State} (hm : In 266240 mm) (h : Fr mm s0 s) (r : Nat) (q : LReq) :
    Fr mm s0 (State.satEvent s r q) := by
  unfold State.satEvent
  try dsimp only
  repeat'
    first
    | with_reducible assumption
    | (exact in_of hm rfl)
    | intro _
    | with_reducible apply fr_count
    | with_reducible apply fr_modArb
    | with_reducible apply fr_raise
    | with_reducible apply fr_if

theorem fr_execAgeInspection {mm : Nat} {s0 s : State} (hm : In 266240 mm) (h : Fr mm s0 s) (r : Nat) :
    FrOut mm s0 (execAgeInspection r s) := by
  unfold execAgeInspection
  try dsimp only
  repeat'
    first
    | with_reducible assumption
    | (exact in_of hm rfl)
    | with_reducible apply frOut_next
    | intro _
    | with_reducible apply fr_modArb
    | with_reducible apply fr_satEvent
    | with_reducible apply fr_done
    | with_reducible apply fr_if
    | with_reducible apply fr_ifn
    | with_reducible apply fr_foldl

theorem fr_execArbiterStatsClear {mm : Nat} {s0 s : State} (hm : In 308265 mm) (h : Fr mm s0 s) (rq : Req) (tag : Nat) (r : Nat) :
    FrOut mm s0 (execArbiterStatsClear rq tag r s) := by
  unfold execArbiterStatsClear
  try dsimp only
  repeat'
    first
    | with_reducible assumption
    | (exact in_of hm rfl)
    | with_reducible apply frOut_next
    | intro _
    | with_reducible apply fr_modArb
    | with_reducible apply fr_writeNum

/-! ### Machine/Dram.lean -/

theorem fr_captureHistory {mm : Nat} {s0 s : State} (hm : In 8192 mm) (h : Fr mm s0 s) (n : Nat) :
    Fr mm s0 (State.captureHistory s n) := by
  unfold State.captureHistory
  try dsimp only
  repeat'
    first
    | with_reducible assumption
    | (exact in_of hm rfl)
    | intro _
    | with_reducible apply fr_modChan
    | with_reducible apply fr_tick

theorem fr_chanLost {mm : Nat} {s0 s : State} (hm : In 325603 mm) (h : Fr mm s0 s) (n : Nat) (cause : Nat) (frozen : Bool) :
    Fr mm s0 (State.chanLost s n cause frozen) := by
  unfold State.chanLost
  try dsimp only
  repeat'
    first
    | with_reducible assumption
    | (exact in_of hm rfl)
    | intro _
    | with_reducible apply fr_captureHistory
    | with_reducible apply fr_chanEvent
    | with_reducible apply fr_fence
    | with_reducible apply fr_goOffline
    | with_reducible apply fr_goRetrain
    | with_reducible apply fr_leaveSync
    | with_reducible apply fr_modChan
    | with_reducible apply fr_modDram
    | with_reducible apply fr_pumpRetire
    | with_reducible apply fr_if

theorem fr_freezeOr {mm : Nat} {s0 s : State} (hm : In 325603 mm) (h : Fr mm s0 s) (n : Nat) (trigger : Nat) (f : State → State) (hf : ∀ (s : State), Fr mm s0 s → Fr mm s0 (f s)) :
    Fr mm s0 (State.freezeOr s n trigger f) := by
  unfold State.freezeOr
  try dsimp only
  repeat'
    first
    | with_reducible assumption
    | (exact in_of hm rfl)
    | intro _
    | with_reducible apply fr_chanLost
    | with_reducible apply fr_fence
    | with_reducible apply fr_goOffline
    | with_reducible apply fr_leaveSync
    | with_reducible apply fr_pumpRetire
    | with_reducible apply hf
    | (refine fr_of_fst (by with_reducible assumption) ?_)
    | with_reducible apply fr_if

theorem fr_askLeave {mm : Nat} {s0 s : State} (hm : In 325603 mm) (h : Fr mm s0 s) (n : Nat) (what : Nat) :
    Fr mm s0 (State.askLeave s n what).1 := by
  unfold State.askLeave
  try dsimp only
  repeat'
    first
    | with_reducible assumption
    | (exact in_of hm rfl)
    | intro _
    | with_reducible apply fr_chanLeave
    | with_reducible apply fr_goOffline
    | with_reducible apply fr_modChan
    | with_reducible apply fr_modTwin
    | with_reducible apply fr_pumpRetire
    | (refine fr_of_fst (by with_reducible assumption) ?_)
    | with_reducible apply fr_if
    | with_reducible apply fr_ifn
    | split

theorem fr_askStale {mm : Nat} {s0 s : State} (hm : In 308225 mm) (h : Fr mm s0 s) (n : Nat) :
    Fr mm s0 (State.askStale s n) := by
  unfold State.askStale
  try dsimp only
  repeat'
    first
    | with_reducible assumption
    | (exact in_of hm rfl)
    | intro _
    | with_reducible apply fr_askAgain
    | with_reducible apply fr_foldl

theorem fr_chanBack {mm : Nat} {s0 s : State} (hm : In 325603 mm) (h : Fr mm s0 s) (n : Nat) :
    Fr mm s0 (State.chanBack s n) := by
  unfold State.chanBack
  try dsimp only
  repeat'
    first
    | with_reducible assumption
    | (exact in_of hm rfl)
    | intro _
    | with_reducible apply fr_advanceWorks
    | with_reducible apply fr_askStale
    | with_reducible apply fr_modChan
    | with_reducible apply fr_modDram
    | with_reducible apply fr_serveReq
    | with_reducible apply fr_standbyGoesOn
    | with_reducible apply fr_if
    | with_reducible apply fr_ifn
    | with_reducible apply fr_foldl

theorem fr_execTrainingComplete {mm : Nat} {s0 s : State} (hm : In 325603 mm) (h : Fr mm s0 s) (n : Nat) (ok : Bool) (step : Nat) (rank : Nat) :
    FrOut mm s0 (execTrainingComplete n ok step rank s) := by
  unfold execTrainingComplete
  try dsimp only
  repeat'
    first
    | with_reducible assumption
    | (exact in_of hm rfl)
    | with_reducible apply frOut_next
    | intro _
    | with_reducible apply fr_chanBack
    | with_reducible apply fr_goOffline
    | with_reducible apply fr_modChan
    | with_reducible apply fr_pumpRetire
    | with_reducible apply fr_done
    | with_reducible apply fr_if

theorem fr_execRetrainComplete {mm : Nat} {s0 s : State} (hm : In 325603 mm) (h : Fr mm s0 s) (n : Nat) (ok : Bool) :
    FrOut mm s0 (execRetrainComplete n ok s) := by
  unfold execRetrainComplete
  try dsimp only
  repeat'
    first
    | with_reducible assumption
    | (exact in_of hm rfl)
    | with_reducible apply frOut_next
    | intro _
    | with_reducible apply fr_chanBack
    | with_reducible apply fr_chanEvent
    | with_reducible apply fr_goOffline
    | with_reducible apply fr_leaveSync
    | with_reducible apply fr_modChan
    | with_reducible apply fr_modTwin
    | with_reducible apply fr_done
    | (refine fr_of_fst (by with_reducible assumption) ?_)
    | with_reducible apply fr_if

theorem fr_execRefreshDue {mm : Nat} {s0 s : State} (hm : In 270336 mm) (h : Fr mm s0 s) (n : Nat) (rank : Nat) (queued : Bool) :
    FrOut mm s0 (execRefreshDue n rank queued s) := by
  unfold execRefreshDue
  try dsimp only
  repeat'
    first
    | with_reducible assumption
    | (exact in_of hm rfl)
    | with_reducible apply frOut_next
    | intro _
    | with_reducible apply fr_count
    | with_reducible apply fr_modChan
    | with_reducible apply fr_done
    | (refine fr_of_fst (by with_reducible assumption) ?_)
    | with_reducible apply fr_if

theorem fr_execMr4Poll {mm : Nat} {s0 s : State} (hm : In 270336 mm) (h : Fr mm s0 s) (n : Nat) (rank : Nat) (hot : Bool × Bool) (temp : Int) :
    FrOut mm s0 (execMr4Poll n rank hot temp s) := by
  unfold execMr4Poll
  try dsimp only
  repeat'
    first
    | with_reducible assumption
    | (exact in_of hm rfl)
    | with_reducible apply frOut_next
    | intro _
    | with_reducible apply fr_modChan
    | with_reducible apply fr_raise
    | with_reducible apply fr_done
    | with_reducible apply fr_if

theorem fr_execDriftCheck {mm : Nat} {s0 s : State} (hm : In 325603 mm) (h : Fr mm s0 s) (n : Nat) (absorbed : Bool) :
    FrOut mm s0 (execDriftCheck n absorbed s) := by
  unfold execDriftCheck
  try dsimp only
  repeat'
    first
    | with_reducible assumption
    | (exact in_of hm rfl)
    | with_reducible apply frOut_next
    | intro _
    | with_reducible apply fr_ask
    | with_reducible apply fr_chanLost
    | with_reducible apply fr_freezeOr
    | with_reducible apply fr_modChan
    | with_reducible apply fr_done
    | with_reducible apply fr_if

theorem fr_execRcdAlert {mm : Nat} {s0 s : State} (hm : In 8192 mm) (h : Fr mm s0 s) (n : Nat) (sub : Nat) :
    FrOut mm s0 (execRcdAlert n sub s) := by
  unfold execRcdAlert
  try dsimp only
  repeat'
    first
    | with_reducible assumption
    | (exact in_of hm rfl)
    | with_reducible apply frOut_next
    | intro _
    | with_reducible apply fr_modChan
    | with_reducible apply fr_done
    | with_reducible apply fr_if

theorem fr_execRetryReplay {mm : Nat} {s0 s : State} (hm : In 325603 mm) (h : Fr mm s0 s) (n : Nat) (alert : Bool) :
    FrOut mm s0 (execRetryReplay n alert s) := by
  unfold execRetryReplay
  try dsimp only
  repeat'
    first
    | with_reducible assumption
    | (exact in_of hm rfl)
    | with_reducible apply frOut_next
    | intro _
    | with_reducible apply fr_captureHistory
    | with_reducible apply fr_chanLost
    | with_reducible apply fr_count
    | with_reducible apply fr_freezeOr
    | with_reducible apply fr_modChan
    | with_reducible apply fr_raise
    | with_reducible apply fr_done
    | with_reducible apply fr_if

theorem fr_execIdleSelfRefresh {mm : Nat} {s0 s : State} (hm : In 270336 mm) (h : Fr mm s0 s) (n : Nat) :
    FrOut mm s0 (execIdleSelfRefresh n s) := by
  unfold execIdleSelfRefresh
  try dsimp only
  repeat'
    first
    | with_reducible assumption
    | (exact in_of hm rfl)
    | with_reducible apply frOut_next
    | intro _
    | with_reducible apply fr_count
    | with_reducible apply fr_modChan
    | with_reducible apply fr_done
    | (refine fr_of_fst (by with_reducible assumption) ?_)
    | with_reducible apply fr_if

theorem fr_execChannelRetrain {mm : Nat} {s0 s : State} (hm : In 325611 mm) (h : Fr mm s0 s) (rq : Req) (tag : Nat) (n : Nat) :
    FrOut mm s0 (execChannelRetrain rq tag n s) := by
  unfold execChannelRetrain
  try dsimp only
  repeat'
    first
    | with_reducible assumption
    | (exact in_of hm rfl)
    | with_reducible apply frOut_next
    | intro _
    | with_reducible apply fr_askLeave
    | with_reducible apply fr_writeNum
    | with_reducible apply fr_done
    | with_reducible apply fr_if
    | with_reducible apply fr_ifn
    | split

theorem fr_execChannelOffline {mm : Nat} {s0 s : State} (hm : In 325611 mm) (h : Fr mm s0 s) (rq : Req) (tag : Nat) (n : Nat) :
    FrOut mm s0 (execChannelOffline rq tag n s) := by
  unfold execChannelOffline
  try dsimp only
  repeat'
    first
    | with_reducible assumption
    | (exact in_of hm rfl)
    | with_reducible apply frOut_next
    | intro _
    | with_reducible apply fr_askLeave
    | with_reducible apply fr_writeNum
    | with_reducible apply fr_done
    | with_reducible apply fr_if
    | with_reducible apply fr_ifn
    | split

theorem fr_execChannelReturn {mm : Nat} {s0 s : State} (hm : In 325611 mm) (h : Fr mm s0 s) (rq : Req) (tag : Nat) (n : Nat) (checksPass : Bool) :
    FrOut mm s0 (execChannelReturn rq tag n checksPass s) := by
  unfold execChannelReturn
  try dsimp only
  repeat'
    first
    | with_reducible assumption
    | (exact in_of hm rfl)
    | with_reducible apply frOut_next
    | intro _
    | with_reducible apply fr_askLeave
    | with_reducible apply fr_chanBack
    | with_reducible apply fr_chanEvent
    | with_reducible apply fr_goRetrain
    | with_reducible apply fr_leaveSync
    | with_reducible apply fr_writeNum
    | with_reducible apply fr_done
    | with_reducible apply fr_if
    | with_reducible apply fr_ifn
    | split

theorem fr_execRetireRank {mm : Nat} {s0 s : State} (hm : In 325611 mm) (h : Fr mm s0 s) (rq : Req) (tag : Nat) (n : Nat) (rank : Nat) :
    FrOut mm s0 (execRetireRank rq tag n rank s) := by
  unfold execRetireRank
  try dsimp only
  repeat'
    first
    | with_reducible assumption
    | (exact in_of hm rfl)
    | with_reducible apply frOut_next
    | intro _
    | with_reducible apply fr_pumpRetire
    | with_reducible apply fr_retireRank
    | with_reducible apply fr_writeNum
    | with_reducible apply fr_done
    | with_reducible apply fr_if
    | with_reducible apply fr_ifn
    | split

theorem fr_execFreezeChannel {mm : Nat} {s0 s : State} (hm : In 325611 mm) (h : Fr mm s0 s) (rq : Req) (tag : Nat) (n : Nat) :
    FrOut mm s0 (execFreezeChannel rq tag n s) := by
  unfold execFreezeChannel
  try dsimp only
  repeat'
    first
    | with_reducible assumption
    | (exact in_of hm rfl)
    | with_reducible apply frOut_next
    | with_reducible apply fr_id
    | intro _
    | with_reducible apply fr_freezeOr
    | with_reducible apply fr_writeNum

theorem fr_execFreezeRead {mm : Nat} {s0 s : State} (hm : In 308265 mm) (h : Fr mm s0 s) (rq : Req) (tag : Nat) (addr : Nat) :
    FrOut mm s0 (execFreezeRead rq tag addr s) := by
  unfold execFreezeRead
  try dsimp only
  repeat'
    first
    | with_reducible assumption
    | (exact in_of hm rfl)
    | with_reducible apply frOut_next
    | intro _
    | with_reducible apply fr_emit
    | with_reducible apply fr_modDram
    | with_reducible apply fr_writeNum
    | with_reducible apply fr_done
    | with_reducible apply fr_if
    | with_reducible apply fr_ifn
    | split

theorem fr_execFreezeReadDone {mm : Nat} {s0 s : State} (hm : In 8192 mm) (h : Fr mm s0 s) (bytes : Bytes) :
    FrOut mm s0 (execFreezeReadDone bytes s) := by
  unfold execFreezeReadDone
  try dsimp only
  repeat'
    first
    | with_reducible assumption
    | (exact in_of hm rfl)
    | with_reducible apply frOut_next
    | intro _
    | with_reducible apply fr_modDram
    | with_reducible apply fr_done
    | with_reducible apply fr_if

/-! ### Machine/Ecc.lean -/

theorem fr_modEccChan {mm : Nat} {s0 s : State} (hm : In 16384 mm) (h : Fr mm s0 s) (n : Nat) (f : EccChan → EccChan) :
    Fr mm s0 (State.modEccChan s n f) := by
  unfold State.modEccChan
  try dsimp only
  repeat'
    first
    | with_reducible assumption
    | (exact in_of hm rfl)
    | intro _
    | with_reducible apply fr_modEcc

theorem fr_askRetire {mm : Nat} {s0 s : State} (hm : In 325603 mm) (h : Fr mm s0 s) (n : Nat) (r : Nat) (j : Nat) :
    Fr mm s0 (State.askRetire s n r j) := by
  unfold State.askRetire
  try dsimp only
  repeat'
    first
    | with_reducible assumption
    | (exact in_of hm rfl)
    | intro _
    | with_reducible apply fr_pumpRetire
    | with_reducible apply fr_raise
    | with_reducible apply fr_retireRank
    | with_reducible apply fr_if

theorem fr_markBad {mm : Nat} {s0 s : State} (hm : In 325603 mm) (h : Fr mm s0 s) (n : Nat) (rs : Nat) (j : Nat) :
    Fr mm s0 (State.markBad s n rs j) := by
  unfold State.markBad
  try dsimp only
  repeat'
    first
    | with_reducible assumption
    | (exact in_of hm rfl)
    | intro _
    | with_reducible apply fr_askRetire
    | with_reducible apply fr_modEcc
    | with_reducible apply fr_modEccChan
    | with_reducible apply fr_raise
    | (refine fr_of_fst (by with_reducible assumption) ?_)
    | with_reducible apply fr_if

theorem fr_attribute {mm : Nat} {s0 s : State} (hm : In 325603 mm) (h : Fr mm s0 s) (n : Nat) (rs : Nat) (j : Nat) :
    Fr mm s0 (State.attribute s n rs j) := by
  unfold State.attribute
  try dsimp only
  repeat'
    first
    | with_reducible assumption
    | (exact in_of hm rfl)
    | intro _
    | with_reducible apply fr_askRetire
    | with_reducible apply fr_markBad
    | with_reducible apply fr_modEccChan
    | with_reducible apply fr_if
    | with_reducible apply fr_ifn
    | split

theorem fr_askResend {mm : Nat} {s0 s : State} (hm : In 324609 mm) (h : Fr mm s0 s) (g : Nat) :
    Fr mm s0 (State.askResend s g) := by
  unfold State.askResend
  try dsimp only
  repeat'
    first
    | with_reducible assumption
    | (exact in_of hm rfl)
    | intro _
    | with_reducible apply fr_askAgain
    | with_reducible apply fr_modEcc
    | with_reducible apply fr_raise
    | (refine fr_of_fst (by with_reducible assumption) ?_)
    | with_reducible apply fr_if

theorem fr_badLine {mm : Nat} {s0 s : State} (hm : In 325603 mm) (h : Fr mm s0 s) (ln : Nat) (reader : Nat) :
    Fr mm s0 (State.badLine s ln reader) := by
  unfold State.badLine
  try dsimp only
  repeat'
    first
    | with_reducible assumption
    | (exact in_of hm rfl)
    | intro _
    | with_reducible apply fr_askResend
    | with_reducible apply fr_metaReplace
    | with_reducible apply fr_modPlace
    | with_reducible apply fr_putLine
    | with_reducible apply fr_raise
    | with_reducible apply fr_send
    | with_reducible apply fr_setPoison
    | with_reducible apply fr_startRepair
    | with_reducible apply fr_if
    | with_reducible apply fr_ifn
    | split

theorem fr_uncorrectable {mm : Nat} {s0 s : State} (hm : In 325603 mm) (h : Fr mm s0 s) (ln : Nat) (reader : Nat) :
    Fr mm s0 (State.uncorrectable s ln reader) := by
  unfold State.uncorrectable
  try dsimp only
  repeat'
    first
    | with_reducible assumption
    | (exact in_of hm rfl)
    | intro _
    | with_reducible apply fr_badLine
    | with_reducible apply fr_chanLost
    | with_reducible apply fr_count
    | with_reducible apply fr_freezeOr
    | with_reducible apply fr_modEccChan
    | with_reducible apply fr_raise
    | with_reducible apply fr_if

theorem fr_corrected {mm : Nat} {s0 s : State} (hm : In 325603 mm) (h : Fr mm s0 s) (ln : Nat) (reader : Nat) (a : Half) (b : Half) :
    Fr mm s0 (State.corrected s ln reader a b) := by
  unfold State.corrected
  try dsimp only
  repeat'
    first
    | with_reducible assumption
    | (exact in_of hm rfl)
    | with_reducible apply fr_id
    | intro _
    | with_reducible apply fr_attribute
    | with_reducible apply fr_count
    | with_reducible apply fr_modEccChan
    | with_reducible apply fr_raise
    | with_reducible apply fr_if
    | with_reducible apply fr_ifn
    | with_reducible apply fr_foldl

theorem fr_readX8 {mm : Nat} {s0 s : State} (hm : In 325603 mm) (h : Fr mm s0 s) (ln : Nat) (v : Line) :
    Fr mm s0 (State.readX8 s ln v) := by
  unfold State.readX8
  try dsimp only
  repeat'
    first
    | with_reducible assumption
    | (exact in_of hm rfl)
    | intro _
    | with_reducible apply fr_modEccChan
    | with_reducible apply fr_putLine
    | with_reducible apply fr_raise
    | with_reducible apply fr_startRepair
    | with_reducible apply fr_if

theorem fr_lineRead {mm : Nat} {s0 s : State} (hm : In 325603 mm) (h : Fr mm s0 s) (ln : Nat) (reader : Nat) (beats : List Nat) :
    Fr mm s0 (State.lineRead s ln reader beats) := by
  unfold State.lineRead
  try dsimp only
  repeat'
    first
    | with_reducible assumption
    | (exact in_of hm rfl)
    | intro _
    | with_reducible apply fr_corrected
    | with_reducible apply fr_lineRewritten
    | with_reducible apply fr_putLine
    | with_reducible apply fr_readX8
    | with_reducible apply fr_setPoison
    | with_reducible apply fr_startRepair
    | with_reducible apply fr_uncorrectable
    | with_reducible apply fr_if

theorem fr_execDramReadComplete {mm : Nat} {s0 s : State} (hm : In 325603 mm) (h : Fr mm s0 s) (line : Nat) (first last : List Nat) (standby : Bool) :
    FrOut mm s0 (execDramReadComplete line first last standby s) := by
  unfold execDramReadComplete
  try dsimp only
  repeat'
    first
    | with_reducible assumption
    | (exact in_of hm rfl)
    | with_reducible apply frOut_next
    | intro _
    | with_reducible apply fr_lineRead
    | with_reducible apply fr_done
    | with_reducible apply fr_if

theorem fr_execMarkDeviceBad {mm : Nat} {s0 s : State} (hm : In 325611 mm) (h : Fr mm s0 s) (rq : Req) (tag : Nat) (n : Nat) (v : Nat) :
    FrOut mm s0 (execMarkDeviceBad rq tag n v s) := by
  unfold execMarkDeviceBad
  try dsimp only
  repeat'
    first
    | with_reducible assumption
    | (exact in_of hm rfl)
    | with_reducible apply frOut_next
    | intro _
    | with_reducible apply fr_markBad
    | with_reducible apply fr_writeNum
    | with_reducible apply fr_done
    | with_reducible apply fr_if
    | with_reducible apply fr_ifn
    | split

theorem fr_execClearErasure {mm : Nat} {s0 s : State} (hm : In 324649 mm) (h : Fr mm s0 s) (rq : Req) (tag : Nat) (n : Nat) (v : Nat) :
    FrOut mm s0 (execClearErasure rq tag n v s) := by
  unfold execClearErasure
  try dsimp only
  repeat'
    first
    | with_reducible assumption
    | (exact in_of hm rfl)
    | with_reducible apply frOut_next
    | intro _
    | with_reducible apply fr_modEcc
    | with_reducible apply fr_modEccChan
    | with_reducible apply fr_raise
    | with_reducible apply fr_writeNum
    | with_reducible apply fr_done
    | (refine fr_of_fst (by with_reducible assumption) ?_)
    | split

theorem fr_execDeviceBadWindow {mm : Nat} {s0 s : State} (hm : In 16384 mm) (h : Fr mm s0 s) (n : Nat) :
    FrOut mm s0 (execDeviceBadWindow n s) := by
  unfold execDeviceBadWindow
  try dsimp only
  repeat'
    first
    | with_reducible assumption
    | (exact in_of hm rfl)
    | with_reducible apply frOut_next
    | intro _
    | with_reducible apply fr_modEccChan
    | with_reducible apply fr_done
    | with_reducible apply fr_if

theorem fr_execRepairWaitExpiry {mm : Nat} {s0 s : State} (hm : In 325603 mm) (h : Fr mm s0 s) (line : Nat) :
    FrOut mm s0 (execRepairWaitExpiry line s) := by
  unfold execRepairWaitExpiry
  try dsimp only
  repeat'
    first
    | with_reducible assumption
    | (exact in_of hm rfl)
    | with_reducible apply frOut_next
    | intro _
    | with_reducible apply fr_advanceWorks
    | with_reducible apply fr_failRepair
    | with_reducible apply fr_pumpRepairs
    | with_reducible apply fr_done
    | with_reducible apply fr_if
    | with_reducible apply fr_ifn
    | split

theorem fr_execStandbyResendWaitExpiry {mm : Nat} {s0 s : State} (hm : In 262656 mm) (h : Fr mm s0 s) (slot : Nat) (granule : Nat) :
    FrOut mm s0 (execStandbyResendWaitExpiry slot granule s) := by
  unfold execStandbyResendWaitExpiry
  try dsimp only
  repeat'
    first
    | with_reducible assumption
    | (exact in_of hm rfl)
    | with_reducible apply frOut_next
    | intro _
    | with_reducible apply fr_leaveSync
    | with_reducible apply fr_modTwin
    | with_reducible apply fr_raise
    | with_reducible apply fr_done
    | (refine fr_of_fst (by with_reducible assumption) ?_)
    | with_reducible apply fr_if
    | with_reducible apply fr_ifn
    | split

theorem fr_passEnds {mm : Nat} {s0 s : State} (hm : In 278528 mm) (h : Fr mm s0 s) (n : Nat) :
    Fr mm s0 (State.passEnds s n) := by
  unfold State.passEnds
  try dsimp only
  repeat'
    first
    | with_reducible assumption
    | (exact in_of hm rfl)
    | intro _
    | with_reducible apply fr_modEcc
    | with_reducible apply fr_modEccChan
    | with_reducible apply fr_raise

theorem fr_scrubPoison {mm : Nat} {s0 s : State} (hm : In 325377 mm) (h : Fr mm s0 s) (n : Nat) (ln : Nat) :
    Fr mm s0 (State.scrubPoison s n ln) := by
  unfold State.scrubPoison
  try dsimp only
  repeat'
    first
    | with_reducible assumption
    | (exact in_of hm rfl)
    | intro _
    | with_reducible apply fr_metaSend
    | with_reducible apply fr_modEcc
    | with_reducible apply fr_modEccChan
    | with_reducible apply fr_if

theorem fr_scrubLeave {mm : Nat} {s0 s : State} (hm : In 325377 mm) (h : Fr mm s0 s) (ln : Nat) :
    Fr mm s0 (State.scrubLeave s ln) := by
  unfold State.scrubLeave
  try dsimp only
  repeat'
    first
    | with_reducible assumption
    | (exact in_of hm rfl)
    | intro _
    | with_reducible apply fr_poisonDrop
    | with_reducible apply fr_if

theorem fr_execScrubLine {mm : Nat} {s0 s : State} (hm : In 325603 mm) (h : Fr mm s0 s) (n : Nat) (first last : List Nat) :
    FrOut mm s0 (execScrubLine n first last s) := by
  unfold execScrubLine
  try dsimp only
  repeat'
    first
    | with_reducible assumption
    | (exact in_of hm rfl)
    | with_reducible apply frOut_next
    | intro _
    | with_reducible apply fr_askRead
    | with_reducible apply fr_count
    | with_reducible apply fr_lineRead
    | with_reducible apply fr_modEcc
    | with_reducible apply fr_modEccChan
    | with_reducible apply fr_passEnds
    | with_reducible apply fr_scrubLeave
    | with_reducible apply fr_scrubPoison
    | with_reducible apply fr_done
    | with_reducible apply fr_if

/-! ### Machine/Cipher.lean -/

theorem fr_keyEvent {mm : Nat} {s0 s : State} (hm : In 262144 mm) (h : Fr mm s0 s) (n : Nat) (kind : Nat) (gen : Nat) (status : Nat) :
    Fr mm s0 (State.keyEvent s n kind gen status) := by
  unfold State.keyEvent
  try dsimp only
  repeat'
    first
    | with_reducible assumption
    | (exact in_of hm rfl)
    | intro _
    | with_reducible apply fr_raise

theorem fr_rekeyConn {mm : Nat} {s0 s : State} (hm : In 308225 mm) (h : Fr mm s0 s) (c : Conn) :
    Fr mm s0 (State.rekeyConn s c) := by
  unfold State.rekeyConn
  try dsimp only
  repeat'
    first
    | with_reducible assumption
    | (exact in_of hm rfl)
    | intro _
    | with_reducible apply fr_dropConn
    | with_reducible apply fr_openConn
    | with_reducible apply fr_resendStreams

theorem fr_homeKeyFails {mm : Nat} {s0 s : State} (hm : In 983011 mm) (h : Fr mm s0 s) :
    Fr mm s0 (State.homeKeyFails s) := by
  unfold State.homeKeyFails
  try dsimp only
  repeat'
    first
    | with_reducible assumption
    | (exact in_of hm rfl)
    | intro _
    | with_reducible apply fr_afterHome
    | with_reducible apply fr_endNeedsHome
    | with_reducible apply fr_endUnreadable
    | with_reducible apply fr_modPersist
    | with_reducible apply fr_send
    | (refine fr_of_fst (by with_reducible assumption) ?_)
    | with_reducible apply fr_foldl

theorem fr_hingeKeyNew {mm : Nat} {s0 s : State} (hm : In 308225 mm) (h : Fr mm s0 s) (old : Nat) :
    Fr mm s0 (State.hingeKeyNew s old) := by
  unfold State.hingeKeyNew
  try dsimp only
  repeat'
    first
    | with_reducible assumption
    | (exact in_of hm rfl)
    | intro _
    | with_reducible apply fr_modHinge
    | with_reducible apply fr_rekeyConn
    | with_reducible apply fr_if
    | with_reducible apply fr_ifn
    | with_reducible apply fr_foldl

theorem fr_keyArrived {mm : Nat} {s0 s : State} (hm : In 983011 mm) (h : Fr mm s0 s) (n : Nat) (old : Nat) :
    Fr mm s0 (State.keyArrived s n old) := by
  unfold State.keyArrived
  try dsimp only
  repeat'
    first
    | with_reducible assumption
    | (exact in_of hm rfl)
    | intro _
    | with_reducible apply fr_afterHome
    | with_reducible apply fr_hingeKeyNew
    | with_reducible apply fr_homeKeyFails
    | with_reducible apply fr_readHome
    | with_reducible apply fr_restoreReads
    | with_reducible apply fr_if
    | with_reducible apply fr_ifn
    | with_reducible apply fr_foldl

theorem fr_execKeyLoad {mm : Nat} {s0 s : State} (hm : In 983019 mm) (h : Fr mm s0 s) (rq : Req) (tag : Nat) (n : Nat) (block : Bytes) :
    FrOut mm s0 (execKeyLoad rq tag n block s) := by
  unfold execKeyLoad
  try dsimp only
  repeat'
    first
    | with_reducible assumption
    | (exact in_of hm rfl)
    | with_reducible apply frOut_next
    | intro _
    | with_reducible apply fr_count
    | with_reducible apply fr_keyArrived
    | with_reducible apply fr_keyEvent
    | with_reducible apply fr_modKey
    | with_reducible apply fr_writeObj
    | with_reducible apply fr_done
    | with_reducible apply fr_if
    | with_reducible apply fr_ifn
    | split

theorem fr_hingeKeyGone {mm : Nat} {s0 s : State} (hm : In 275457 mm) (h : Fr mm s0 s) (n : Nat) :
    Fr mm s0 (State.hingeKeyGone s n) := by
  unfold State.hingeKeyGone
  try dsimp only
  repeat'
    first
    | with_reducible assumption
    | (exact in_of hm rfl)
    | intro _
    | with_reducible apply fr_dropConn
    | with_reducible apply fr_putFrame
    | with_reducible apply fr_if
    | with_reducible apply fr_ifn
    | with_reducible apply fr_foldl

theorem fr_homeKeyGone {mm : Nat} {s0 s : State} (hm : In 983011 mm) (h : Fr mm s0 s) (n : Nat) :
    Fr mm s0 (State.homeKeyGone s n) := by
  unfold State.homeKeyGone
  try dsimp only
  repeat'
    first
    | with_reducible assumption
    | (exact in_of hm rfl)
    | intro _
    | with_reducible apply fr_homeKeyFails
    | with_reducible apply fr_if

theorem fr_execKeyErase {mm : Nat} {s0 s : State} (hm : In 983019 mm) (h : Fr mm s0 s) (rq : Req) (tag : Nat) (n : Nat) :
    FrOut mm s0 (execKeyErase rq tag n s) := by
  unfold execKeyErase
  try dsimp only
  repeat'
    first
    | with_reducible assumption
    | (exact in_of hm rfl)
    | with_reducible apply frOut_next
    | intro _
    | with_reducible apply fr_count
    | with_reducible apply fr_endUsers
    | with_reducible apply fr_hingeKeyGone
    | with_reducible apply fr_homeKeyGone
    | with_reducible apply fr_keyEvent
    | with_reducible apply fr_modKey
    | with_reducible apply fr_writeNum

theorem fr_execKeyWaitReminder {mm : Nat} {s0 s : State} (hm : In 294912 mm) (h : Fr mm s0 s) (slot : Nat) (hinge : Bool) :
    FrOut mm s0 (execKeyWaitReminder slot hinge s) := by
  unfold execKeyWaitReminder
  try dsimp only
  repeat'
    first
    | with_reducible assumption
    | (exact in_of hm rfl)
    | with_reducible apply frOut_next
    | intro _
    | with_reducible apply fr_modCipher
    | with_reducible apply fr_raise
    | with_reducible apply fr_done
    | with_reducible apply fr_if

theorem fr_execContextAcquired {mm : Nat} {s0 s : State} (hm : In 325603 mm) (h : Fr mm s0 s) (user : CipherUser) (slot : Nat) (mode : Nat) (gen : Nat) (ring : Nat) (idx : Nat) (len : Nat) :
    FrOut mm s0 (execContextAcquired user slot mode gen ring idx len s) := by
  unfold execContextAcquired
  try dsimp only
  repeat'
    first
    | with_reducible assumption
    | (exact in_of hm rfl)
    | with_reducible apply frOut_next
    | intro _
    | with_reducible apply fr_ask
    | with_reducible apply fr_kickFlights
    | with_reducible apply fr_modCipher
    | with_reducible apply fr_startCipher
    | with_reducible apply fr_done
    | with_reducible apply fr_if
    | with_reducible apply fr_ifn
    | split

theorem fr_freeContext {mm : Nat} {s0 s : State} (hm : In 32768 mm) (h : Fr mm s0 s) (k : Nat) :
    Fr mm s0 (State.freeContext s k) := by
  unfold State.freeContext
  try dsimp only
  repeat'
    first
    | with_reducible assumption
    | (exact in_of hm rfl)
    | intro _
    | with_reducible apply fr_modCipher

theorem fr_pipeFault {mm : Nat} {s0 s : State} (hm : In 294912 mm) (h : Fr mm s0 s) (pipe : Nat) (u : CipherUser) :
    Fr mm s0 (State.pipeFault s pipe u) := by
  unfold State.pipeFault
  try dsimp only
  repeat'
    first
    | with_reducible assumption
    | (exact in_of hm rfl)
    | with_reducible apply frOut_fault
    | intro _
    | with_reducible apply fr_count
    | with_reducible apply fr_modCipher
    | with_reducible apply fr_raise
    | with_reducible apply fr_tick
    | with_reducible apply fr_if

theorem fr_loseFrame {mm : Nat} {s0 s : State} (hm : In 32768 mm) (h : Fr mm s0 s) (k : Nat) (c : CCtx) (received : Nat) :
    Fr mm s0 (State.loseFrame s k c received) := by
  unfold State.loseFrame
  try dsimp only
  repeat'
    first
    | with_reducible assumption
    | (exact in_of hm rfl)
    | intro _
    | with_reducible apply fr_freeContext
    | with_reducible apply fr_modCipher

theorem fr_cipherFault {mm : Nat} {s0 s : State} (hm : In 325603 mm) (h : Fr mm s0 s) (k : Nat) (c : CCtx) :
    Fr mm s0 (State.cipherFault s k c) := by
  unfold State.cipherFault
  try dsimp only
  repeat'
    first
    | with_reducible assumption
    | (exact in_of hm rfl)
    | with_reducible apply frOut_fault
    | intro _
    | with_reducible apply fr_cipherStop
    | with_reducible apply fr_freeContext
    | with_reducible apply fr_loseFrame
    | with_reducible apply fr_modCtx
    | with_reducible apply fr_if
    | with_reducible apply fr_ifn
    | split

theorem fr_ringBlock {mm : Nat} {s0 s : State} (hm : In 325603 mm) (h : Fr mm s0 s) (k : Nat) (c : CCtx) (f : Flight) :
    Fr mm s0 (State.ringBlock s k c f) := by
  unfold State.ringBlock
  try dsimp only
  repeat'
    first
    | with_reducible assumption
    | (exact in_of hm rfl)
    | intro _
    | with_reducible apply fr_cipherFinish
    | with_reducible apply fr_cipherStop
    | with_reducible apply fr_count
    | with_reducible apply fr_modCtx
    | with_reducible apply fr_raise
    | with_reducible apply fr_if
    | with_reducible apply fr_ifn
    | split

theorem fr_execCipherBlockDone {mm : Nat} {s0 s : State} (hm : In 325603 mm) (h : Fr mm s0 s) (ctx : Nat) (pipe : Nat) (stageOk keyOk hashOk : Bool) :
    FrOut mm s0 (execCipherBlockDone ctx pipe stageOk keyOk hashOk s) := by
  unfold execCipherBlockDone
  try dsimp only
  repeat'
    first
    | with_reducible assumption
    | (exact in_of hm rfl)
    | with_reducible apply frOut_next
    | with_reducible apply frOut_fault
    | intro _
    | with_reducible apply fr_cipherFault
    | with_reducible apply fr_freeContext
    | with_reducible apply fr_kickFlights
    | with_reducible apply fr_modCtx
    | with_reducible apply fr_pipeFault
    | with_reducible apply fr_ringBlock
    | with_reducible apply fr_done
    | (refine fr_of_fst (by with_reducible assumption) ?_)
    | with_reducible apply fr_if
    | with_reducible apply fr_ifn
    | split

theorem fr_execReturnPipelines {mm : Nat} {s0 s : State} (hm : In 308265 mm) (h : Fr mm s0 s) (rq : Req) (tag : Nat) (passed : BitVec 16) :
    FrOut mm s0 (execReturnPipelines rq tag passed s) := by
  unfold execReturnPipelines
  try dsimp only
  repeat'
    first
    | with_reducible assumption
    | (exact in_of hm rfl)
    | with_reducible apply frOut_next
    | intro _
    | with_reducible apply fr_count
    | with_reducible apply fr_modCipher
    | with_reducible apply fr_raise
    | with_reducible apply fr_tick
    | with_reducible apply fr_writeNum
    | with_reducible apply fr_done
    | (refine fr_of_fst (by with_reducible assumption) ?_)
    | with_reducible apply fr_foldl

/-! ### Machine/Cache.lean -/

theorem fr_modCluster {mm : Nat} {s0 s : State} (hm : In 65536 mm) (h : Fr mm s0 s) (c : Nat) (f : Cluster → Cluster) :
    Fr mm s0 (State.modCluster s c f) := by
  unfold State.modCluster
  try dsimp only
  repeat'
    first
    | with_reducible assumption
    | (exact in_of hm rfl)
    | intro _
    | with_reducible apply fr_modSteward

theorem fr_drainEntry {mm : Nat} {s0 s : State} (hm : In 290819 mm) (h : Fr mm s0 s) (c : Nat) (e : MEnt) :
    Fr mm s0 (State.drainEntry s c e) := by
  unfold State.drainEntry
  try dsimp only
  repeat'
    first
    | with_reducible assumption
    | (exact in_of hm rfl)
    | intro _
    | with_reducible apply fr_askWrite
    | with_reducible apply fr_emit
    | with_reducible apply fr_putLine
    | (refine fr_of_fst (by with_reducible assumption) ?_)
    | with_reducible apply fr_if

theorem fr_drainFirst {mm : Nat} {s0 s : State} (hm : In 356355 mm) (h : Fr mm s0 s) (c : Nat) (n : Nat) :
    Fr mm s0 (State.drainFirst s c n) := by
  unfold State.drainFirst
  try dsimp only
  repeat'
    first
    | with_reducible assumption
    | (exact in_of hm rfl)
    | intro _
    | with_reducible apply fr_drainEntry
    | with_reducible apply fr_modCluster
    | with_reducible apply fr_foldl

theorem fr_drainAll {mm : Nat} {s0 s : State} (hm : In 356355 mm) (h : Fr mm s0 s) (c : Nat) :
    Fr mm s0 (State.drainAll s c) := by
  unfold State.drainAll
  try dsimp only
  repeat'
    first
    | with_reducible assumption
    | (exact in_of hm rfl)
    | intro _
    | with_reducible apply fr_drainFirst

theorem fr_fetchLine {mm : Nat} {s0 s : State} (hm : In 274433 mm) (h : Fr mm s0 s) (c : Nat) (ln : Nat) :
    Fr mm s0 (State.fetchLine s c ln) := by
  unfold State.fetchLine
  try dsimp only
  repeat'
    first
    | with_reducible assumption
    | (exact in_of hm rfl)
    | intro _
    | with_reducible apply fr_askRead
    | with_reducible apply fr_emit
    | with_reducible apply fr_if

theorem fr_issueFill {mm : Nat} {s0 s : State} (hm : In 339969 mm) (h : Fr mm s0 s) (c : Nat) (ln : Nat) (kind : Nat) (waiters : List Nat) :
    Fr mm s0 (State.issueFill s c ln kind waiters) := by
  unfold State.issueFill
  try dsimp only
  repeat'
    first
    | with_reducible assumption
    | (exact in_of hm rfl)
    | intro _
    | with_reducible apply fr_fetchLine
    | with_reducible apply fr_modCluster

theorem fr_prefetchNext {mm : Nat} {s0 s : State} (hm : In 339969 mm) (h : Fr mm s0 s) (c : Nat) (ln : Nat) (streaming : Bool) :
    Fr mm s0 (State.prefetchNext s c ln streaming) := by
  unfold State.prefetchNext
  try dsimp only
  repeat'
    first
    | with_reducible assumption
    | (exact in_of hm rfl)
    | intro _
    | with_reducible apply fr_issueFill
    | with_reducible apply fr_if

theorem fr_missLoad {mm : Nat} {s0 s : State} (hm : In 339969 mm) (h : Fr mm s0 s) (c : Nat) (e : Nat) (ln : Nat) (streaming : Bool) :
    Fr mm s0 (State.missLoad s c e ln streaming) := by
  unfold State.missLoad
  try dsimp only
  repeat'
    first
    | with_reducible assumption
    | (exact in_of hm rfl)
    | intro _
    | with_reducible apply fr_count
    | with_reducible apply fr_issueFill
    | with_reducible apply fr_modCluster
    | with_reducible apply fr_prefetchNext
    | with_reducible apply fr_if

theorem fr_execCacheLoad {mm : Nat} {s0 s : State} (hm : In 339969 mm) (h : Fr mm s0 s) (e : Nat) (addr : Nat) (attr : CacheAttr) (wordOk : Bool) :
    FrOut mm s0 (execCacheLoad e addr attr wordOk s) := by
  unfold execCacheLoad
  try dsimp only
  repeat'
    first
    | with_reducible assumption
    | (exact in_of hm rfl)
    | with_reducible apply frOut_next
    | intro _
    | with_reducible apply fr_count
    | with_reducible apply fr_emit
    | with_reducible apply fr_fetchLine
    | with_reducible apply fr_missLoad
    | with_reducible apply fr_modCluster
    | with_reducible apply fr_raise
    | with_reducible apply fr_done
    | with_reducible apply fr_if
    | with_reducible apply fr_ifn
    | split

theorem fr_execCacheStore {mm : Nat} {s0 s : State} (hm : In 356355 mm) (h : Fr mm s0 s) (e : Nat) (addr : Nat) (line : Line) (be : BitVec 64) (attr : CacheAttr) :
    FrOut mm s0 (execCacheStore e addr line be attr s) := by
  unfold execCacheStore
  try dsimp only
  repeat'
    first
    | with_reducible assumption
    | (exact in_of hm rfl)
    | with_reducible apply frOut_next
    | intro _
    | with_reducible apply fr_count
    | with_reducible apply fr_drainAll
    | with_reducible apply fr_drainFirst
    | with_reducible apply fr_modCluster
    | with_reducible apply fr_done
    | with_reducible apply fr_if
    | with_reducible apply fr_ifn
    | split

theorem fr_execMergeEntryTimeout {mm : Nat} {s0 s : State} (hm : In 356355 mm) (h : Fr mm s0 s) (c : Nat) :
    FrOut mm s0 (execMergeEntryTimeout c s) := by
  unfold execMergeEntryTimeout
  try dsimp only
  repeat'
    first
    | with_reducible assumption
    | (exact in_of hm rfl)
    | with_reducible apply frOut_next
    | intro _
    | with_reducible apply fr_drainFirst

theorem fr_execCacheFillComplete {mm : Nat} {s0 s : State} (hm : In 65537 mm) (h : Fr mm s0 s) (c : Nat) (addr : Nat) (line : Line) (poison : Bool) :
    FrOut mm s0 (execCacheFillComplete c addr line poison s) := by
  unfold execCacheFillComplete
  try dsimp only
  repeat'
    first
    | with_reducible assumption
    | (exact in_of hm rfl)
    | with_reducible apply frOut_next
    | intro _
    | with_reducible apply fr_emits
    | with_reducible apply fr_modCluster
    | with_reducible apply fr_done
    | (refine fr_of_fst (by with_reducible assumption) ?_)
    | with_reducible apply fr_if
    | with_reducible apply fr_ifn
    | split

theorem fr_execInvalidateLine {mm : Nat} {s0 s : State} (hm : In 65536 mm) (h : Fr mm s0 s) (c : Nat) (addr : Nat) :
    FrOut mm s0 (execInvalidateLine c addr s) := by
  unfold execInvalidateLine
  try dsimp only
  repeat'
    first
    | with_reducible assumption
    | (exact in_of hm rfl)
    | with_reducible apply frOut_next
    | intro _
    | with_reducible apply fr_modCluster

theorem fr_execInvalidateAll {mm : Nat} {s0 s : State} (hm : In 65536 mm) (h : Fr mm s0 s) (c : Nat) :
    FrOut mm s0 (execInvalidateAll c s) := by
  unfold execInvalidateAll
  try dsimp only
  repeat'
    first
    | with_reducible assumption
    | (exact in_of hm rfl)
    | with_reducible apply frOut_next
    | intro _
    | with_reducible apply fr_modCluster

theorem fr_execInvalidateAllLocked {mm : Nat} {s0 s : State} (hm : In 65536 mm) (h : Fr mm s0 s) (c : Nat) :
    FrOut mm s0 (execInvalidateAllLocked c s) := by
  unfold execInvalidateAllLocked
  try dsimp only
  repeat'
    first
    | with_reducible assumption
    | (exact in_of hm rfl)
    | with_reducible apply frOut_next
    | intro _
    | with_reducible apply fr_modCluster

theorem fr_execDrain {mm : Nat} {s0 s : State} (hm : In 356355 mm) (h : Fr mm s0 s) (c : Nat) :
    FrOut mm s0 (execDrain c s) := by
  unfold execDrain
  try dsimp only
  repeat'
    first
    | with_reducible assumption
    | (exact in_of hm rfl)
    | with_reducible apply frOut_next
    | intro _
    | with_reducible apply fr_drainAll

theorem fr_execLockFill {mm : Nat} {s0 s : State} (hm : In 339969 mm) (h : Fr mm s0 s) (c : Nat) (way : Nat) (addr : Nat) :
    FrOut mm s0 (execLockFill c way addr s) := by
  unfold execLockFill
  try dsimp only
  repeat'
    first
    | with_reducible assumption
    | (exact in_of hm rfl)
    | with_reducible apply frOut_next
    | intro _
    | with_reducible apply fr_fetchLine
    | with_reducible apply fr_modCluster
    | with_reducible apply fr_done
    | with_reducible apply fr_if
    | with_reducible apply fr_ifn
    | split

theorem fr_execLockWay {mm : Nat} {s0 s : State} (hm : In 65536 mm) (h : Fr mm s0 s) (c : Nat) (way : Nat) :
    FrOut mm s0 (execLockWay c way s) := by
  unfold execLockWay
  try dsimp only
  repeat'
    first
    | with_reducible assumption
    | (exact in_of hm rfl)
    | with_reducible apply frOut_next
    | intro _
    | with_reducible apply fr_modCluster
    | with_reducible apply fr_done
    | with_reducible apply fr_if

theorem fr_execUnlockWay {mm : Nat} {s0 s : State} (hm : In 65536 mm) (h : Fr mm s0 s) (c : Nat) (way : Nat) :
    FrOut mm s0 (execUnlockWay c way s) := by
  unfold execUnlockWay
  try dsimp only
  repeat'
    first
    | with_reducible assumption
    | (exact in_of hm rfl)
    | with_reducible apply frOut_next
    | intro _
    | with_reducible apply fr_modCluster

theorem fr_execCacheDisable {mm : Nat} {s0 s : State} (hm : In 390191 mm) (h : Fr mm s0 s) (rq : Req) (tag : Nat) (c : Nat) :
    FrOut mm s0 (execCacheDisable rq tag c s) := by
  unfold execCacheDisable
  try dsimp only
  repeat'
    first
    | with_reducible assumption
    | (exact in_of hm rfl)
    | with_reducible apply frOut_next
    | intro _
    | with_reducible apply fr_drainAll
    | with_reducible apply fr_setSetting
    | with_reducible apply fr_writeNum

theorem fr_execCacheEnable {mm : Nat} {s0 s : State} (hm : In 373805 mm) (h : Fr mm s0 s) (rq : Req) (tag : Nat) (c : Nat) :
    FrOut mm s0 (execCacheEnable rq tag c s) := by
  unfold execCacheEnable
  try dsimp only
  repeat'
    first
    | with_reducible assumption
    | (exact in_of hm rfl)
    | with_reducible apply frOut_next
    | intro _
    | with_reducible apply fr_modCluster
    | with_reducible apply fr_setSetting
    | with_reducible apply fr_writeNum

/-! ### Machine/Steward.lean -/

theorem fr_modEngine {mm : Nat} {s0 s : State} (hm : In 65536 mm) (h : Fr mm s0 s) (e : Nat) (f : Engine → Engine) :
    Fr mm s0 (State.modEngine s e f) := by
  unfold State.modEngine
  try dsimp only
  repeat'
    first
    | with_reducible assumption
    | (exact in_of hm rfl)
    | intro _
    | with_reducible apply fr_modSteward

theorem fr_setEngines {mm : Nat} {s0 s : State} (hm : In 65536 mm) (h : Fr mm s0 s) (c : Nat) (st : Nat) :
    Fr mm s0 (State.setEngines s c st) := by
  unfold State.setEngines
  try dsimp only
  repeat'
    first
    | with_reducible assumption
    | (exact in_of hm rfl)
    | intro _
    | with_reducible apply fr_modEngine
    | with_reducible apply fr_if
    | with_reducible apply fr_ifn
    | with_reducible apply fr_foldl

theorem fr_modImage {mm : Nat} {s0 s : State} (hm : In 65536 mm) (h : Fr mm s0 s) (i : Nat) (f : Image → Image) :
    Fr mm s0 (State.modImage s i f) := by
  unfold State.modImage
  try dsimp only
  repeat'
    first
    | with_reducible assumption
    | (exact in_of hm rfl)
    | intro _
    | with_reducible apply fr_modSteward

theorem fr_clusterEvent {mm : Nat} {s0 s : State} (hm : In 262144 mm) (h : Fr mm s0 s) (c : Nat) (cause : Nat) (status : Nat) :
    Fr mm s0 (State.clusterEvent s c cause status) := by
  unfold State.clusterEvent
  try dsimp only
  repeat'
    first
    | with_reducible assumption
    | (exact in_of hm rfl)
    | intro _
    | with_reducible apply fr_raise

theorem fr_clusterCheck {mm : Nat} {s0 s : State} (hm : In 327680 mm) (h : Fr mm s0 s) (c : Nat) :
    Fr mm s0 (State.clusterCheck s c) := by
  unfold State.clusterCheck
  try dsimp only
  repeat'
    first
    | with_reducible assumption
    | (exact in_of hm rfl)
    | intro _
    | with_reducible apply fr_clusterEvent
    | with_reducible apply fr_modCluster
    | with_reducible apply fr_if

theorem fr_updateCluster {mm : Nat} {s0 s : State} (hm : In 356355 mm) (h : Fr mm s0 s) (c : Nat) (image : Nat) :
    Fr mm s0 (State.updateCluster s c image) := by
  unfold State.updateCluster
  try dsimp only
  repeat'
    first
    | with_reducible assumption
    | (exact in_of hm rfl)
    | intro _
    | with_reducible apply fr_clusterEvent
    | with_reducible apply fr_drainAll
    | with_reducible apply fr_modCluster
    | with_reducible apply fr_modSteward
    | with_reducible apply fr_setEngines

theorem fr_rollBackFrom {mm : Nat} {s0 s : State} (hm : In 356355 mm) (h : Fr mm s0 s) (c : Nat) (bad : Nat) :
    Fr mm s0 (State.rollBackFrom s c bad) := by
  unfold State.rollBackFrom
  try dsimp only
  repeat'
    first
    | with_reducible assumption
    | (exact in_of hm rfl)
    | intro _
    | with_reducible apply fr_modSteward
    | with_reducible apply fr_updateCluster

theorem fr_rollEnds {mm : Nat} {s0 s : State} (hm : In 65536 mm) (h : Fr mm s0 s) (status : Nat) :
    Fr mm s0 (State.rollEnds s status) := by
  unfold State.rollEnds
  try dsimp only
  repeat'
    first
    | with_reducible assumption
    | (exact in_of hm rfl)
    | intro _
    | with_reducible apply fr_modSteward

theorem fr_clusterServes {mm : Nat} {s0 s : State} (hm : In 65536 mm) (h : Fr mm s0 s) (c : Nat) :
    Fr mm s0 (State.clusterServes s c) := by
  unfold State.clusterServes
  try dsimp only
  repeat'
    first
    | with_reducible assumption
    | (exact in_of hm rfl)
    | intro _
    | with_reducible apply fr_modCluster
    | with_reducible apply fr_setEngines

theorem fr_execActivateRolling {mm : Nat} {s0 s : State} (hm : In 390187 mm) (h : Fr mm s0 s) (rq : Req) (tag : Nat) :
    FrOut mm s0 (execActivateRolling rq tag s) := by
  unfold execActivateRolling
  try dsimp only
  repeat'
    first
    | with_reducible assumption
    | (exact in_of hm rfl)
    | with_reducible apply frOut_next
    | intro _
    | with_reducible apply fr_modSteward
    | with_reducible apply fr_updateCluster
    | with_reducible apply fr_writeNum
    | with_reducible apply fr_done
    | (refine fr_of_fst (by with_reducible assumption) ?_)
    | with_reducible apply fr_if
    | with_reducible apply fr_ifn
    | split

theorem fr_execActivateAtReset {mm : Nat} {s0 s : State} (hm : In 373801 mm) (h : Fr mm s0 s) (rq : Req) (tag : Nat) :
    FrOut mm s0 (execActivateAtReset rq tag s) := by
  unfold execActivateAtReset
  try dsimp only
  repeat'
    first
    | with_reducible assumption
    | (exact in_of hm rfl)
    | with_reducible apply frOut_next
    | intro _
    | with_reducible apply fr_modImage
    | with_reducible apply fr_writeNum
    | with_reducible apply fr_done
    | with_reducible apply fr_if
    | with_reducible apply fr_ifn
    | split

theorem fr_execActivateRollback {mm : Nat} {s0 s : State} (hm : In 373801 mm) (h : Fr mm s0 s) (rq : Req) (tag : Nat) :
    FrOut mm s0 (execActivateRollback rq tag s) := by
  unfold execActivateRollback
  try dsimp only
  repeat'
    first
    | with_reducible assumption
    | (exact in_of hm rfl)
    | with_reducible apply frOut_next
    | intro _
    | with_reducible apply fr_modImage
    | with_reducible apply fr_writeNum
    | with_reducible apply fr_done
    | with_reducible apply fr_if
    | with_reducible apply fr_ifn
    | split

theorem fr_execClusterUpdateDone {mm : Nat} {s0 s : State} (hm : In 356355 mm) (h : Fr mm s0 s) (passed : Bool) :
    FrOut mm s0 (execClusterUpdateDone passed s) := by
  unfold execClusterUpdateDone
  try dsimp only
  repeat'
    first
    | with_reducible assumption
    | (exact in_of hm rfl)
    | with_reducible apply frOut_next
    | intro _
    | with_reducible apply fr_clusterEvent
    | with_reducible apply fr_clusterServes
    | with_reducible apply fr_modCluster
    | with_reducible apply fr_modImage
    | with_reducible apply fr_modSteward
    | with_reducible apply fr_rollBackFrom
    | with_reducible apply fr_rollEnds
    | with_reducible apply fr_updateCluster
    | with_reducible apply fr_done
    | with_reducible apply fr_if
    | with_reducible apply fr_ifn
    | split

theorem fr_trapEngine {mm : Nat} {s0 s : State} (hm : In 356355 mm) (h : Fr mm s0 s) (e : Nat) (cause : Nat) (addr : Nat) :
    Fr mm s0 (State.trapEngine s e cause addr) := by
  unfold State.trapEngine
  try dsimp only
  repeat'
    first
    | with_reducible assumption
    | (exact in_of hm rfl)
    | intro _
    | with_reducible apply fr_clusterCheck
    | with_reducible apply fr_count
    | with_reducible apply fr_modEngine
    | with_reducible apply fr_raise
    | with_reducible apply fr_rollBackFrom
    | with_reducible apply fr_if

theorem fr_execEngineTrap {mm : Nat} {s0 s : State} (hm : In 356355 mm) (h : Fr mm s0 s) (e : Nat) (cause : Nat) (addr : Nat) :
    FrOut mm s0 (execEngineTrap e cause addr s) := by
  unfold execEngineTrap
  try dsimp only
  repeat'
    first
    | with_reducible assumption
    | (exact in_of hm rfl)
    | with_reducible apply frOut_next
    | intro _
    | with_reducible apply fr_trapEngine

theorem fr_execEngineWatchdogExpiry {mm : Nat} {s0 s : State} (hm : In 356355 mm) (h : Fr mm s0 s) (e : Nat) :
    FrOut mm s0 (execEngineWatchdogExpiry e s) := by
  unfold execEngineWatchdogExpiry
  try dsimp only
  repeat'
    first
    | with_reducible assumption
    | (exact in_of hm rfl)
    | with_reducible apply frOut_next
    | intro _
    | with_reducible apply fr_trapEngine

theorem fr_execEngineRestart {mm : Nat} {s0 s : State} (hm : In 65536 mm) (h : Fr mm s0 s) (e : Nat) :
    FrOut mm s0 (execEngineRestart e s) := by
  unfold execEngineRestart
  try dsimp only
  repeat'
    first
    | with_reducible assumption
    | (exact in_of hm rfl)
    | with_reducible apply frOut_next
    | intro _
    | with_reducible apply fr_modEngine
    | with_reducible apply fr_done
    | with_reducible apply fr_if

theorem fr_imageBegin {mm : Nat} {s0 s : State} (hm : In 65536 mm) (h : Fr mm s0 s) :
    Fr mm s0 (State.imageBegin s).1 := by
  unfold State.imageBegin
  try dsimp only
  repeat'
    first
    | with_reducible assumption
    | (exact in_of hm rfl)
    | intro _
    | with_reducible apply fr_modImage
    | (refine fr_of_fst (by with_reducible assumption) ?_)
    | with_reducible apply fr_if
    | with_reducible apply fr_ifn
    | split

theorem fr_imageEnd {mm : Nat} {s0 s : State} (hm : In 327680 mm) (h : Fr mm s0 s) (checksOk : Bool) (programOk : Bool) (version : Nat) (interface : Nat) (size : Nat) :
    Fr mm s0 (State.imageEnd s checksOk programOk version interface size).1 := by
  unfold State.imageEnd
  try dsimp only
  repeat'
    first
    | with_reducible assumption
    | (exact in_of hm rfl)
    | intro _
    | with_reducible apply fr_modImage
    | with_reducible apply fr_raise

theorem fr_imageCut {mm : Nat} {s0 s : State} (hm : In 327680 mm) (h : Fr mm s0 s) :
    Fr mm s0 (State.imageCut s) := by
  unfold State.imageCut
  try dsimp only
  repeat'
    first
    | with_reducible assumption
    | (exact in_of hm rfl)
    | intro _
    | with_reducible apply fr_modImage
    | with_reducible apply fr_raise
    | with_reducible apply fr_if

end Sys2Proof.Laws
end

