-- ==== Sys2Proof/Laws/FrameDevice.lean ====
section
/-! SUPPORT. Which parts of the device each operation may change (Laws/Frame.lean): the host ports, power and resets, and the dictionary. -/

set_option Elab.async false

namespace Sys2Proof.Laws

open Sys2Proof Sys2Proof.Machine

/-! ### Machine/Words.lean -/

theorem fr_clusterWord {mm : Nat} {s0 s : State} (hm : In 356355 mm) (h : Fr mm s0 s) (a : Nat) :
    Fr mm s0 (State.clusterWord s a) := by
  unfold State.clusterWord
  try dsimp only
  repeat'
    first
    | with_reducible assumption
    | (exact in_of hm rfl)
    | intro _
    | with_reducible apply fr_modCluster
    | with_reducible apply fr_trapEngine
    | (refine fr_of_fst (by with_reducible assumption) ?_)
    | with_reducible apply fr_if

theorem fr_wordLost {mm : Nat} {s0 s : State} (hm : In 391147 mm) (h : Fr mm s0 s) (mem : OnDie) (a : Nat) :
    Fr mm s0 (State.wordLost s mem a) := by
  unfold State.wordLost
  try dsimp only
  repeat'
    first
    | with_reducible assumption
    | (exact in_of hm rfl)
    | with_reducible apply frOut_fault
    | intro _
    | with_reducible apply fr_cipherFault
    | with_reducible apply fr_clusterWord
    | with_reducible apply fr_heatZero
    | with_reducible apply fr_kickFlights
    | with_reducible apply fr_modEcc
    | with_reducible apply fr_modFlight
    | with_reducible apply fr_modHost
    | with_reducible apply fr_modKey
    | with_reducible apply fr_modPlace
    | with_reducible apply fr_modSlot
    | with_reducible apply fr_raise
    | (refine fr_of_fst (by with_reducible assumption) ?_)
    | with_reducible apply fr_if
    | with_reducible apply fr_ifn
    | split

theorem fr_execWordScrub {mm : Nat} {s0 s : State} (hm : In 391147 mm) (h : Fr mm s0 s) (mem : OnDie) (addr : Nat) (word : BitVec 80) :
    FrOut mm s0 (execWordScrub mem addr word s) := by
  unfold execWordScrub
  try dsimp only
  repeat'
    first
    | with_reducible assumption
    | (exact in_of hm rfl)
    | with_reducible apply frOut_next
    | intro _
    | with_reducible apply fr_count
    | with_reducible apply fr_raise
    | with_reducible apply fr_wordLost
    | with_reducible apply fr_done
    | split

/-! ### Machine/Host.lean -/

theorem fr_execPortLinkTrained {mm : Nat} {s0 s : State} (hm : In 325603 mm) (h : Fr mm s0 s) (p : Nat) (speed : Nat) (width : Nat) :
    FrOut mm s0 (execPortLinkTrained p speed width s) := by
  unfold execPortLinkTrained
  try dsimp only
  repeat'
    first
    | with_reducible assumption
    | (exact in_of hm rfl)
    | with_reducible apply frOut_next
    | intro _
    | with_reducible apply fr_advanceWorks
    | with_reducible apply fr_busBack
    | with_reducible apply fr_hostPortEvent
    | with_reducible apply fr_modPort
    | with_reducible apply fr_done
    | with_reducible apply fr_if
    | with_reducible apply fr_ifn
    | with_reducible apply fr_foldl

theorem fr_execPortLinkDown {mm : Nat} {s0 s : State} (hm : In 325603 mm) (h : Fr mm s0 s) (p : Nat) :
    FrOut mm s0 (execPortLinkDown p s) := by
  unfold execPortLinkDown
  try dsimp only
  repeat'
    first
    | with_reducible assumption
    | (exact in_of hm rfl)
    | with_reducible apply frOut_next
    | intro _
    | with_reducible apply fr_hostPortEvent
    | with_reducible apply fr_portGone
    | with_reducible apply fr_done
    | with_reducible apply fr_if

theorem fr_execPortRetrain {mm : Nat} {s0 s : State} (hm : In 325611 mm) (h : Fr mm s0 s) (rq : Req) (tag : Nat) (p : Nat) :
    FrOut mm s0 (execPortRetrain rq tag p s) := by
  unfold execPortRetrain
  try dsimp only
  repeat'
    first
    | with_reducible assumption
    | (exact in_of hm rfl)
    | with_reducible apply frOut_next
    | intro _
    | with_reducible apply fr_modPort
    | with_reducible apply fr_portGone
    | with_reducible apply fr_writeNum
    | with_reducible apply fr_done
    | with_reducible apply fr_if
    | with_reducible apply fr_ifn
    | split

theorem fr_execPortEnableWrite {mm : Nat} {s0 s : State} (hm : In 325615 mm) (h : Fr mm s0 s) (rq : Req) (tag : Nat) (p : Nat) (on : Bool) :
    FrOut mm s0 (execPortEnableWrite rq tag p on s) := by
  unfold execPortEnableWrite
  try dsimp only
  repeat'
    first
    | with_reducible assumption
    | (exact in_of hm rfl)
    | with_reducible apply frOut_next
    | intro _
    | with_reducible apply fr_hostPortEvent
    | with_reducible apply fr_modPort
    | with_reducible apply fr_portGone
    | with_reducible apply fr_setSetting
    | with_reducible apply fr_writeNum
    | with_reducible apply fr_done
    | with_reducible apply fr_if
    | with_reducible apply fr_ifn
    | split

theorem fr_execCxlPerst {mm : Nat} {s0 s : State} (hm : In 325603 mm) (h : Fr mm s0 s) (p : Nat) :
    FrOut mm s0 (execCxlPerst p s) := by
  unfold execCxlPerst
  try dsimp only
  repeat'
    first
    | with_reducible assumption
    | (exact in_of hm rfl)
    | with_reducible apply frOut_next
    | intro _
    | with_reducible apply fr_hostPortEvent
    | with_reducible apply fr_portGone
    | with_reducible apply fr_done
    | (refine fr_of_fst (by with_reducible assumption) ?_)
    | with_reducible apply fr_if

theorem fr_execHdmDecoderCommit {mm : Nat} {s0 s : State} (hm : In 32 mm) (h : Fr mm s0 s) (p : Nat) (ld : Nat) (i : Nat) (base : Nat) (size : Nat) (ways : Nat) (gran : Nat) (dpaBase : Nat) (commit : Bool) :
    FrOut mm s0 (execHdmDecoderCommit p ld i base size ways gran dpaBase commit s) := by
  unfold execHdmDecoderCommit
  try dsimp only
  repeat'
    first
    | with_reducible assumption
    | (exact in_of hm rfl)
    | with_reducible apply frOut_next
    | intro _
    | with_reducible apply fr_modLdev

theorem fr_accessRefused {mm : Nat} {s0 s : State} (hm : In 262177 mm) (h : Fr mm s0 s) (p : Nat) (host : Nat) (dpa : Nat) (n : Option Nat) :
    Fr mm s0 (State.accessRefused s p host dpa n) := by
  unfold State.accessRefused
  try dsimp only
  repeat'
    first
    | with_reducible assumption
    | (exact in_of hm rfl)
    | intro _
    | with_reducible apply fr_countFor
    | with_reducible apply fr_logEvent
    | with_reducible apply fr_modSess
    | with_reducible apply fr_raise
    | split

theorem fr_acceptReq {mm : Nat} {s0 s : State} (hm : In 325603 mm) (h : Fr mm s0 s) (e : EReq) :
    Fr mm s0 (State.acceptReq s e) := by
  unfold State.acceptReq
  try dsimp only
  repeat'
    first
    | with_reducible assumption
    | (exact in_of hm rfl)
    | intro _
    | with_reducible apply fr_advanceWorks
    | with_reducible apply fr_modHost
    | with_reducible apply fr_startReq

theorem fr_execHostRead {mm : Nat} {s0 s : State} (hm : In 325603 mm) (h : Fr mm s0 s) (p : Nat) (host : Nat) (hpa : Nat) (tag : Nat) :
    FrOut mm s0 (execHostRead p host hpa tag s) := by
  unfold execHostRead
  try dsimp only
  repeat'
    first
    | with_reducible assumption
    | (exact in_of hm rfl)
    | with_reducible apply frOut_next
    | intro _
    | with_reducible apply fr_acceptReq
    | with_reducible apply fr_accessRefused
    | with_reducible apply fr_countFor
    | with_reducible apply fr_emit
    | with_reducible apply fr_modSess
    | with_reducible apply fr_tick
    | with_reducible apply fr_done
    | with_reducible apply fr_if
    | with_reducible apply fr_ifn
    | split

theorem fr_acceptWrite {mm : Nat} {s0 s : State} (hm : In 325603 mm) (h : Fr mm s0 s) (e : EReq) :
    Fr mm s0 (State.acceptWrite s e) := by
  unfold State.acceptWrite
  try dsimp only
  repeat'
    first
    | with_reducible assumption
    | (exact in_of hm rfl)
    | intro _
    | with_reducible apply fr_acceptReq
    | with_reducible apply fr_accessRefused
    | with_reducible apply fr_advanceWorks
    | with_reducible apply fr_emit
    | with_reducible apply fr_lineRings
    | with_reducible apply fr_modHost
    | with_reducible apply fr_modSess
    | with_reducible apply fr_raise
    | with_reducible apply fr_if
    | with_reducible apply fr_ifn
    | split

theorem fr_arriveWrite {mm : Nat} {s0 s : State} (hm : In 325603 mm) (h : Fr mm s0 s) (e : EReq) :
    Fr mm s0 (State.arriveWrite s e) := by
  unfold State.arriveWrite
  try dsimp only
  repeat'
    first
    | with_reducible assumption
    | (exact in_of hm rfl)
    | intro _
    | with_reducible apply fr_acceptWrite
    | with_reducible apply fr_modHost
    | with_reducible apply fr_if

theorem fr_execHostWrite {mm : Nat} {s0 s : State} (hm : In 325603 mm) (h : Fr mm s0 s) (p : Nat) (host : Nat) (hpa : Nat) (line : Line) (be : BitVec 64) (poison : Bool) (tag : Nat) :
    FrOut mm s0 (execHostWrite p host hpa line be poison tag s) := by
  unfold execHostWrite
  try dsimp only
  repeat'
    first
    | with_reducible assumption
    | (exact in_of hm rfl)
    | with_reducible apply frOut_next
    | intro _
    | with_reducible apply fr_arriveWrite
    | with_reducible apply fr_countFor
    | with_reducible apply fr_emit
    | with_reducible apply fr_done
    | with_reducible apply fr_if
    | with_reducible apply fr_ifn
    | split

theorem fr_execHeldWriteAdmitted {mm : Nat} {s0 s : State} (hm : In 325603 mm) (h : Fr mm s0 s) (p : Nat) :
    FrOut mm s0 (execHeldWriteAdmitted p s) := by
  unfold execHeldWriteAdmitted
  try dsimp only
  repeat'
    first
    | with_reducible assumption
    | (exact in_of hm rfl)
    | with_reducible apply frOut_next
    | intro _
    | with_reducible apply fr_acceptWrite
    | with_reducible apply fr_count
    | with_reducible apply fr_modHost
    | with_reducible apply fr_done
    | with_reducible apply fr_if
    | with_reducible apply fr_ifn
    | split

theorem fr_execWriteHoldThreshold {mm : Nat} {s0 s : State} (hm : In 262176 mm) (h : Fr mm s0 s) (p : Nat) :
    FrOut mm s0 (execWriteHoldThreshold p s) := by
  unfold execWriteHoldThreshold
  try dsimp only
  repeat'
    first
    | with_reducible assumption
    | (exact in_of hm rfl)
    | with_reducible apply frOut_next
    | intro _
    | with_reducible apply fr_modHost
    | with_reducible apply fr_raise
    | with_reducible apply fr_done
    | with_reducible apply fr_if
    | with_reducible apply fr_ifn
    | with_reducible apply fr_foldl

theorem fr_execTranslationTimeLimit {mm : Nat} {s0 s : State} (hm : In 325603 mm) (h : Fr mm s0 s) (num : Nat) :
    FrOut mm s0 (execTranslationTimeLimit num s) := by
  unfold execTranslationTimeLimit
  try dsimp only
  repeat'
    first
    | with_reducible assumption
    | (exact in_of hm rfl)
    | with_reducible apply frOut_next
    | intro _
    | with_reducible apply fr_advanceWorks
    | with_reducible apply fr_dropReq
    | with_reducible apply fr_emit
    | with_reducible apply fr_modReq
    | with_reducible apply fr_modWork
    | with_reducible apply fr_raise
    | with_reducible apply fr_tick
    | with_reducible apply fr_workEnd
    | with_reducible apply fr_done
    | (refine fr_of_fst (by with_reducible assumption) ?_)
    | with_reducible apply fr_if
    | with_reducible apply fr_ifn
    | split

theorem fr_execGpfPhase1 {mm : Nat} {s0 s : State} (hm : In 1 mm) (h : Fr mm s0 s) (p : Nat) :
    FrOut mm s0 (execGpfPhase1 p s) := by
  unfold execGpfPhase1
  try dsimp only
  repeat'
    first
    | with_reducible assumption
    | (exact in_of hm rfl)
    | with_reducible apply frOut_next
    | intro _
    | with_reducible apply fr_emit
    | with_reducible apply fr_done
    | with_reducible apply fr_if

theorem fr_execGpfPhase2 {mm : Nat} {s0 s : State} (hm : In 32 mm) (h : Fr mm s0 s) (p : Nat) :
    FrOut mm s0 (execGpfPhase2 p s) := by
  unfold execGpfPhase2
  try dsimp only
  repeat'
    first
    | with_reducible assumption
    | (exact in_of hm rfl)
    | with_reducible apply frOut_next
    | intro _
    | with_reducible apply fr_modHost
    | with_reducible apply fr_done
    | with_reducible apply fr_if

theorem fr_execGpfPhase2Answer {mm : Nat} {s0 s : State} (hm : In 33 mm) (h : Fr mm s0 s) (p : Nat) :
    FrOut mm s0 (execGpfPhase2Answer p s) := by
  unfold execGpfPhase2Answer
  try dsimp only
  repeat'
    first
    | with_reducible assumption
    | (exact in_of hm rfl)
    | with_reducible apply frOut_next
    | intro _
    | with_reducible apply fr_emit
    | with_reducible apply fr_modHost
    | with_reducible apply fr_done
    | with_reducible apply fr_if
    | with_reducible apply fr_ifn
    | split

theorem fr_bindSession {mm : Nat} {s0 s : State} (hm : In 32 mm) (h : Fr mm s0 s) (n : Nat) :
    Fr mm s0 (State.bindSession s n) := by
  unfold State.bindSession
  try dsimp only
  repeat'
    first
    | with_reducible assumption
    | (exact in_of hm rfl)
    | intro _
    | with_reducible apply fr_modSess

theorem fr_unbindSession {mm : Nat} {s0 s : State} (hm : In 32 mm) (h : Fr mm s0 s) (n : Nat) (waiter : List (Req × Nat)) (rebind : Bool) :
    Fr mm s0 (State.unbindSession s n waiter rebind) := by
  unfold State.unbindSession
  try dsimp only
  repeat'
    first
    | with_reducible assumption
    | (exact in_of hm rfl)
    | intro _
    | with_reducible apply fr_modHost
    | with_reducible apply fr_modSess

theorem fr_answerWaiter {mm : Nat} {s0 s : State} (hm : In 308265 mm) (h : Fr mm s0 s) (w : Req × Nat) :
    Fr mm s0 (State.answerWaiter s w) := by
  unfold State.answerWaiter
  try dsimp only
  repeat'
    first
    | with_reducible assumption
    | (exact in_of hm rfl)
    | intro _
    | with_reducible apply fr_respond
    | (refine fr_of_fst (by with_reducible assumption) ?_)
    | with_reducible apply fr_if

theorem fr_execSessionUnbindDone {mm : Nat} {s0 s : State} (hm : In 310313 mm) (h : Fr mm s0 s) (n : Nat) :
    FrOut mm s0 (execSessionUnbindDone n s) := by
  unfold execSessionUnbindDone
  try dsimp only
  repeat'
    first
    | with_reducible assumption
    | (exact in_of hm rfl)
    | with_reducible apply frOut_next
    | intro _
    | with_reducible apply fr_answerWaiter
    | with_reducible apply fr_bindSession
    | with_reducible apply fr_modSess
    | with_reducible apply fr_sendCensus
    | with_reducible apply fr_done
    | with_reducible apply fr_if
    | with_reducible apply fr_ifn
    | with_reducible apply fr_foldl

theorem fr_offerEnds {mm : Nat} {s0 s : State} (hm : In 262180 mm) (h : Fr mm s0 s) (n : Nat) :
    Fr mm s0 (State.offerEnds s n) := by
  unfold State.offerEnds
  try dsimp only
  repeat'
    first
    | with_reducible assumption
    | (exact in_of hm rfl)
    | intro _
    | with_reducible apply fr_modSess
    | with_reducible apply fr_raise
    | with_reducible apply fr_setSetting

theorem fr_execCapacityOfferTimeout {mm : Nat} {s0 s : State} (hm : In 262180 mm) (h : Fr mm s0 s) (n : Nat) :
    FrOut mm s0 (execCapacityOfferTimeout n s) := by
  unfold execCapacityOfferTimeout
  try dsimp only
  repeat'
    first
    | with_reducible assumption
    | (exact in_of hm rfl)
    | with_reducible apply frOut_next
    | intro _
    | with_reducible apply fr_offerEnds
    | with_reducible apply fr_done
    | with_reducible apply fr_if

theorem fr_execReleaseCapacityDone {mm : Nat} {s0 s : State} (hm : In 37 mm) (h : Fr mm s0 s) (n : Nat) :
    FrOut mm s0 (execReleaseCapacityDone n s) := by
  unfold execReleaseCapacityDone
  try dsimp only
  repeat'
    first
    | with_reducible assumption
    | (exact in_of hm rfl)
    | with_reducible apply frOut_next
    | intro _
    | with_reducible apply fr_emit
    | with_reducible apply fr_modSess
    | with_reducible apply fr_msix
    | with_reducible apply fr_setSetting
    | with_reducible apply fr_done
    | with_reducible apply fr_if
    | with_reducible apply fr_ifn
    | split

/-! ### Machine/Mailbox.lean -/

theorem fr_mbox {mm : Nat} {s0 s : State} (hm : In 33 mm) (h : Fr mm s0 s) (p : Nat) (ld : Nat) (opcode : Nat) (ret : Nat) (out : List Nat) :
    Fr mm s0 (State.mbox s p ld opcode ret out) := by
  unfold State.mbox
  try dsimp only
  repeat'
    first
    | with_reducible assumption
    | (exact in_of hm rfl)
    | intro _
    | with_reducible apply fr_emit
    | with_reducible apply fr_msix

theorem fr_onMbox {mm : Nat} {s0 s : State} (hm : In 33 mm) (h : Fr mm s0 s) (p : Nat) (ld : Nat) (opcode : Nat) (f : State → State × Nat × List Nat) (hf : ∀ (s : State), Fr mm s0 s → Fr mm s0 (f s).1) :
    Fr mm s0 (State.onMbox s p ld opcode f) := by
  unfold State.onMbox
  try dsimp only
  repeat'
    first
    | with_reducible assumption
    | (exact in_of hm rfl)
    | intro _
    | with_reducible apply fr_mbox
    | with_reducible apply hf
    | (refine fr_of_fst (by with_reducible assumption) ?_)
    | with_reducible apply fr_if

theorem fr_execIdentify {mm : Nat} {s0 s : State} (hm : In 33 mm) (h : Fr mm s0 s) (p : Nat) (ld : Nat) :
    FrOut mm s0 (execIdentify p ld s) := by
  unfold execIdentify
  try dsimp only
  repeat'
    first
    | with_reducible assumption
    | (exact in_of hm rfl)
    | with_reducible apply frOut_next
    | intro _
    | with_reducible apply fr_onMbox

theorem fr_execGetEventRecords {mm : Nat} {s0 s : State} (hm : In 33 mm) (h : Fr mm s0 s) (p : Nat) (ld : Nat) (log : Nat) :
    FrOut mm s0 (execGetEventRecords p ld log s) := by
  unfold execGetEventRecords
  try dsimp only
  repeat'
    first
    | with_reducible assumption
    | (exact in_of hm rfl)
    | with_reducible apply frOut_next
    | intro _
    | with_reducible apply fr_onMbox
    | with_reducible apply fr_done
    | (refine fr_of_fst (by with_reducible assumption) ?_)
    | with_reducible apply fr_if
    | with_reducible apply fr_ifn
    | split

theorem fr_execClearEventRecords {mm : Nat} {s0 s : State} (hm : In 33 mm) (h : Fr mm s0 s) (p : Nat) (ld : Nat) (log : Nat) (all : Bool) (handles : List Nat) :
    FrOut mm s0 (execClearEventRecords p ld log all handles s) := by
  unfold execClearEventRecords
  try dsimp only
  repeat'
    first
    | with_reducible assumption
    | (exact in_of hm rfl)
    | with_reducible apply frOut_next
    | intro _
    | with_reducible apply fr_modLdev
    | with_reducible apply fr_onMbox
    | with_reducible apply fr_done
    | (refine fr_of_fst (by with_reducible assumption) ?_)
    | with_reducible apply fr_if
    | with_reducible apply fr_ifn
    | split

theorem fr_execGetEventInterruptPolicy {mm : Nat} {s0 s : State} (hm : In 33 mm) (h : Fr mm s0 s) (p : Nat) (ld : Nat) :
    FrOut mm s0 (execGetEventInterruptPolicy p ld s) := by
  unfold execGetEventInterruptPolicy
  try dsimp only
  repeat'
    first
    | with_reducible assumption
    | (exact in_of hm rfl)
    | with_reducible apply frOut_next
    | intro _
    | with_reducible apply fr_onMbox

theorem fr_execSetEventInterruptPolicy {mm : Nat} {s0 s : State} (hm : In 33 mm) (h : Fr mm s0 s) (p : Nat) (ld : Nat) (policy : Nat) :
    FrOut mm s0 (execSetEventInterruptPolicy p ld policy s) := by
  unfold execSetEventInterruptPolicy
  try dsimp only
  repeat'
    first
    | with_reducible assumption
    | (exact in_of hm rfl)
    | with_reducible apply frOut_next
    | intro _
    | with_reducible apply fr_modLdev
    | with_reducible apply fr_onMbox
    | with_reducible apply fr_done
    | with_reducible apply fr_if
    | with_reducible apply fr_ifn
    | split

theorem fr_execGetFwInfo {mm : Nat} {s0 s : State} (hm : In 33 mm) (h : Fr mm s0 s) (p : Nat) (ld : Nat) :
    FrOut mm s0 (execGetFwInfo p ld s) := by
  unfold execGetFwInfo
  try dsimp only
  repeat'
    first
    | with_reducible assumption
    | (exact in_of hm rfl)
    | with_reducible apply frOut_next
    | intro _
    | with_reducible apply fr_onMbox

theorem fr_execGetTimestamp {mm : Nat} {s0 s : State} (hm : In 33 mm) (h : Fr mm s0 s) (p : Nat) (ld : Nat) :
    FrOut mm s0 (execGetTimestamp p ld s) := by
  unfold execGetTimestamp
  try dsimp only
  repeat'
    first
    | with_reducible assumption
    | (exact in_of hm rfl)
    | with_reducible apply frOut_next
    | intro _
    | with_reducible apply fr_onMbox

theorem fr_execSetTimestamp {mm : Nat} {s0 s : State} (hm : In 33 mm) (h : Fr mm s0 s) (p : Nat) (ld : Nat) (_t : Nat) :
    FrOut mm s0 (execSetTimestamp p ld _t s) := by
  unfold execSetTimestamp
  try dsimp only
  repeat'
    first
    | with_reducible assumption
    | (exact in_of hm rfl)
    | with_reducible apply frOut_next
    | intro _
    | with_reducible apply fr_onMbox

theorem fr_execGetSupportedLogs {mm : Nat} {s0 s : State} (hm : In 33 mm) (h : Fr mm s0 s) (p : Nat) (ld : Nat) :
    FrOut mm s0 (execGetSupportedLogs p ld s) := by
  unfold execGetSupportedLogs
  try dsimp only
  repeat'
    first
    | with_reducible assumption
    | (exact in_of hm rfl)
    | with_reducible apply frOut_next
    | intro _
    | with_reducible apply fr_onMbox

theorem fr_execGetLog {mm : Nat} {s0 s : State} (hm : In 33 mm) (h : Fr mm s0 s) (p : Nat) (ld : Nat) (off : Nat) (len : Nat) :
    FrOut mm s0 (execGetLog p ld off len s) := by
  unfold execGetLog
  try dsimp only
  repeat'
    first
    | with_reducible assumption
    | (exact in_of hm rfl)
    | with_reducible apply frOut_next
    | intro _
    | with_reducible apply fr_onMbox
    | with_reducible apply fr_done
    | with_reducible apply fr_if
    | with_reducible apply fr_ifn
    | split

theorem fr_execIdentifyMemoryDevice {mm : Nat} {s0 s : State} (hm : In 33 mm) (h : Fr mm s0 s) (p : Nat) (ld : Nat) :
    FrOut mm s0 (execIdentifyMemoryDevice p ld s) := by
  unfold execIdentifyMemoryDevice
  try dsimp only
  repeat'
    first
    | with_reducible assumption
    | (exact in_of hm rfl)
    | with_reducible apply frOut_next
    | intro _
    | with_reducible apply fr_onMbox

theorem fr_execGetPartitionInfo {mm : Nat} {s0 s : State} (hm : In 33 mm) (h : Fr mm s0 s) (p : Nat) (ld : Nat) :
    FrOut mm s0 (execGetPartitionInfo p ld s) := by
  unfold execGetPartitionInfo
  try dsimp only
  repeat'
    first
    | with_reducible assumption
    | (exact in_of hm rfl)
    | with_reducible apply frOut_next
    | intro _
    | with_reducible apply fr_onMbox

theorem fr_execGetHealthInfo {mm : Nat} {s0 s : State} (hm : In 33 mm) (h : Fr mm s0 s) (p : Nat) (ld : Nat) :
    FrOut mm s0 (execGetHealthInfo p ld s) := by
  unfold execGetHealthInfo
  try dsimp only
  repeat'
    first
    | with_reducible assumption
    | (exact in_of hm rfl)
    | with_reducible apply frOut_next
    | intro _
    | with_reducible apply fr_onMbox

theorem fr_execGetAlertConfiguration {mm : Nat} {s0 s : State} (hm : In 33 mm) (h : Fr mm s0 s) (p : Nat) (ld : Nat) :
    FrOut mm s0 (execGetAlertConfiguration p ld s) := by
  unfold execGetAlertConfiguration
  try dsimp only
  repeat'
    first
    | with_reducible assumption
    | (exact in_of hm rfl)
    | with_reducible apply frOut_next
    | intro _
    | with_reducible apply fr_onMbox

theorem fr_execSetAlertConfiguration {mm : Nat} {s0 s : State} (hm : In 33 mm) (h : Fr mm s0 s) (p : Nat) (ld : Nat) (cfg : Nat) :
    FrOut mm s0 (execSetAlertConfiguration p ld cfg s) := by
  unfold execSetAlertConfiguration
  try dsimp only
  repeat'
    first
    | with_reducible assumption
    | (exact in_of hm rfl)
    | with_reducible apply frOut_next
    | intro _
    | with_reducible apply fr_modLdev
    | with_reducible apply fr_onMbox

theorem fr_execGetShutdownState {mm : Nat} {s0 s : State} (hm : In 33 mm) (h : Fr mm s0 s) (p : Nat) (ld : Nat) :
    FrOut mm s0 (execGetShutdownState p ld s) := by
  unfold execGetShutdownState
  try dsimp only
  repeat'
    first
    | with_reducible assumption
    | (exact in_of hm rfl)
    | with_reducible apply frOut_next
    | intro _
    | with_reducible apply fr_onMbox

theorem fr_execSetShutdownState {mm : Nat} {s0 s : State} (hm : In 33 mm) (h : Fr mm s0 s) (p : Nat) (ld : Nat) (v : Nat) :
    FrOut mm s0 (execSetShutdownState p ld v s) := by
  unfold execSetShutdownState
  try dsimp only
  repeat'
    first
    | with_reducible assumption
    | (exact in_of hm rfl)
    | with_reducible apply frOut_next
    | intro _
    | with_reducible apply fr_modLdev
    | with_reducible apply fr_onMbox

theorem fr_execMailboxUnsupported {mm : Nat} {s0 s : State} (hm : In 33 mm) (h : Fr mm s0 s) (p : Nat) (ld : Nat) (opcode : Nat) :
    FrOut mm s0 (execMailboxUnsupported p ld opcode s) := by
  unfold execMailboxUnsupported
  try dsimp only
  repeat'
    first
    | with_reducible assumption
    | (exact in_of hm rfl)
    | with_reducible apply frOut_next
    | intro _
    | with_reducible apply fr_onMbox

theorem fr_execGetPoisonList {mm : Nat} {s0 s : State} (hm : In 33 mm) (h : Fr mm s0 s) (p : Nat) (ld : Nat) (start : Nat) (len : Nat) (others : List (Nat × Nat × Nat)) (overflow : Bool) :
    FrOut mm s0 (execGetPoisonList p ld start len others overflow s) := by
  unfold execGetPoisonList
  try dsimp only
  repeat'
    first
    | with_reducible assumption
    | (exact in_of hm rfl)
    | with_reducible apply frOut_next
    | intro _
    | with_reducible apply fr_onMbox

theorem fr_mboxWrite {mm : Nat} {s0 s : State} (hm : In 325603 mm) (h : Fr mm s0 s) (p : Nat) (ld : Nat) (opcode : Nat) (dpa : Nat) (line : Line) (poison : Bool) :
    Fr mm s0 (State.mboxWrite s p ld opcode dpa line poison) := by
  unfold State.mboxWrite
  try dsimp only
  repeat'
    first
    | with_reducible assumption
    | (exact in_of hm rfl)
    | intro _
    | with_reducible apply fr_arriveWrite
    | with_reducible apply fr_mbox
    | with_reducible apply fr_if
    | with_reducible apply fr_ifn
    | split

theorem fr_execInjectPoison {mm : Nat} {s0 s : State} (hm : In 325603 mm) (h : Fr mm s0 s) (p : Nat) (ld : Nat) (dpa : Nat) :
    FrOut mm s0 (execInjectPoison p ld dpa s) := by
  unfold execInjectPoison
  try dsimp only
  repeat'
    first
    | with_reducible assumption
    | (exact in_of hm rfl)
    | with_reducible apply frOut_next
    | intro _
    | with_reducible apply fr_mboxWrite
    | with_reducible apply fr_onMbox
    | with_reducible apply fr_tick
    | with_reducible apply fr_done
    | with_reducible apply fr_if

theorem fr_execClearPoison {mm : Nat} {s0 s : State} (hm : In 325603 mm) (h : Fr mm s0 s) (p : Nat) (ld : Nat) (dpa : Nat) (line : Line) :
    FrOut mm s0 (execClearPoison p ld dpa line s) := by
  unfold execClearPoison
  try dsimp only
  repeat'
    first
    | with_reducible assumption
    | (exact in_of hm rfl)
    | with_reducible apply frOut_next
    | intro _
    | with_reducible apply fr_mboxWrite

theorem fr_execPoisonCommandAnswer {mm : Nat} {s0 s : State} (hm : In 33 mm) (h : Fr mm s0 s) (num : Nat) :
    FrOut mm s0 (execPoisonCommandAnswer num s) := by
  unfold execPoisonCommandAnswer
  try dsimp only
  repeat'
    first
    | with_reducible assumption
    | (exact in_of hm rfl)
    | with_reducible apply frOut_next
    | intro _
    | with_reducible apply fr_dropReq
    | with_reducible apply fr_logOnly
    | with_reducible apply fr_mbox
    | with_reducible apply fr_done
    | with_reducible apply fr_if
    | with_reducible apply fr_ifn
    | split

theorem fr_execGetDynamicCapacityConfiguration {mm : Nat} {s0 s : State} (hm : In 33 mm) (h : Fr mm s0 s) (p : Nat) (ld : Nat) :
    FrOut mm s0 (execGetDynamicCapacityConfiguration p ld s) := by
  unfold execGetDynamicCapacityConfiguration
  try dsimp only
  repeat'
    first
    | with_reducible assumption
    | (exact in_of hm rfl)
    | with_reducible apply frOut_next
    | intro _
    | with_reducible apply fr_onMbox

theorem fr_execGetDynamicCapacityExtentList {mm : Nat} {s0 s : State} (hm : In 33 mm) (h : Fr mm s0 s) (p : Nat) (ld : Nat) :
    FrOut mm s0 (execGetDynamicCapacityExtentList p ld s) := by
  unfold execGetDynamicCapacityExtentList
  try dsimp only
  repeat'
    first
    | with_reducible assumption
    | (exact in_of hm rfl)
    | with_reducible apply frOut_next
    | intro _
    | with_reducible apply fr_onMbox

theorem fr_execAddDynamicCapacityResponse {mm : Nat} {s0 s : State} (hm : In 262181 mm) (h : Fr mm s0 s) (p : Nat) (ld : Nat) (extents : List (Nat × Nat)) :
    FrOut mm s0 (execAddDynamicCapacityResponse p ld extents s) := by
  unfold execAddDynamicCapacityResponse
  try dsimp only
  repeat'
    first
    | with_reducible assumption
    | (exact in_of hm rfl)
    | with_reducible apply frOut_next
    | intro _
    | with_reducible apply fr_modSess
    | with_reducible apply fr_offerEnds
    | with_reducible apply fr_onMbox
    | with_reducible apply fr_done
    | (refine fr_of_fst (by with_reducible assumption) ?_)
    | with_reducible apply fr_if
    | with_reducible apply fr_ifn
    | split

theorem fr_execReleaseDynamicCapacity {mm : Nat} {s0 s : State} (hm : In 33 mm) (h : Fr mm s0 s) (p : Nat) (ld : Nat) (start : Nat) (len : Nat) :
    FrOut mm s0 (execReleaseDynamicCapacity p ld start len s) := by
  unfold execReleaseDynamicCapacity
  try dsimp only
  repeat'
    first
    | with_reducible assumption
    | (exact in_of hm rfl)
    | with_reducible apply frOut_next
    | intro _
    | with_reducible apply fr_mbox
    | with_reducible apply fr_modSess
    | with_reducible apply fr_done
    | (refine fr_of_fst (by with_reducible assumption) ?_)
    | with_reducible apply fr_if
    | with_reducible apply fr_ifn
    | split

theorem fr_execGetLdInfo {mm : Nat} {s0 s : State} (hm : In 1 mm) (h : Fr mm s0 s) (p : Nat) :
    FrOut mm s0 (execGetLdInfo p s) := by
  unfold execGetLdInfo
  try dsimp only
  repeat'
    first
    | with_reducible assumption
    | (exact in_of hm rfl)
    | with_reducible apply frOut_next
    | intro _
    | with_reducible apply fr_emit
    | with_reducible apply fr_done
    | with_reducible apply fr_if

theorem fr_execGetLdAllocations {mm : Nat} {s0 s : State} (hm : In 1 mm) (h : Fr mm s0 s) (p : Nat) :
    FrOut mm s0 (execGetLdAllocations p s) := by
  unfold execGetLdAllocations
  try dsimp only
  repeat'
    first
    | with_reducible assumption
    | (exact in_of hm rfl)
    | with_reducible apply frOut_next
    | intro _
    | with_reducible apply fr_emit
    | with_reducible apply fr_done
    | with_reducible apply fr_if

theorem fr_execSetLdAllocations {mm : Nat} {s0 s : State} (hm : In 1 mm) (h : Fr mm s0 s) (p : Nat) (opcode : Nat) :
    FrOut mm s0 (execSetLdAllocations p opcode s) := by
  unfold execSetLdAllocations
  try dsimp only
  repeat'
    first
    | with_reducible assumption
    | (exact in_of hm rfl)
    | with_reducible apply frOut_next
    | intro _
    | with_reducible apply fr_emit
    | with_reducible apply fr_done
    | with_reducible apply fr_if

/-! ### Machine/ResetOps.lean -/

theorem fr_loadSaved {mm : Nat} {s0 s : State} (hm : In 262148 mm) (h : Fr mm s0 s) :
    Fr mm s0 (State.loadSaved s) := by
  unfold State.loadSaved
  try dsimp only
  repeat'
    first
    | with_reducible assumption
    | (exact in_of hm rfl)
    | intro _
    | with_reducible apply fr_modSettings
    | with_reducible apply fr_raise
    | (refine fr_of_fst (by with_reducible assumption) ?_)
    | with_reducible apply fr_foldl
    | with_reducible apply fr_foldl_fst
    | split

theorem fr_dropOddSessions {mm : Nat} {s0 s : State} (hm : In 262148 mm) (h : Fr mm s0 s) :
    Fr mm s0 (State.dropOddSessions s) := by
  unfold State.dropOddSessions
  try dsimp only
  repeat'
    first
    | with_reducible assumption
    | (exact in_of hm rfl)
    | intro _
    | with_reducible apply fr_raise
    | with_reducible apply fr_setSetting
    | with_reducible apply fr_if
    | with_reducible apply fr_ifn
    | with_reducible apply fr_foldl

theorem fr_bindSaved {mm : Nat} {s0 s : State} (hm : In 32 mm) (h : Fr mm s0 s) :
    Fr mm s0 (State.bindSaved s) := by
  unfold State.bindSaved
  try dsimp only
  repeat'
    first
    | with_reducible assumption
    | (exact in_of hm rfl)
    | intro _
    | with_reducible apply fr_bindSession
    | (refine fr_of_fst (by with_reducible assumption) ?_)
    | with_reducible apply fr_foldl

theorem fr_pendSaved {mm : Nat} {s0 s : State} (hm : In 4096 mm) (h : Fr mm s0 s) :
    Fr mm s0 (State.pendSaved s) := by
  unfold State.pendSaved
  try dsimp only
  repeat'
    first
    | with_reducible assumption
    | (exact in_of hm rfl)
    | intro _
    | with_reducible apply fr_pendSwap
    | (refine fr_of_fst (by with_reducible assumption) ?_)
    | with_reducible apply fr_if

theorem fr_enterReset {m : Nat} {s0 s : State} (hm : In 1048574 m) (h : Fr m s0 s) (cold : Bool) (cause : Nat) : Fr m s0 (s.enterReset cold cause) := by
  unfold State.enterReset
  split
  · exact h
  · refine fr_trans (fr_sbCut (in_of hm rfl) h) (fr_mono hm ⟨rfl, rfl, Nat.le_refl _, fun w => ?_, fun p hp => ?_⟩)
    · dsimp only
      split
      · rfl
      · exact w
    · cases p <;> first | rfl | exact absurd hp (by decide)

theorem fr_flushedReset {mm : Nat} {s0 s : State} (hm : In 1048574 mm) (h : Fr mm s0 s) (cold : Bool) (cause : Nat) :
    Fr mm s0 (State.flushedReset s cold cause) := by
  unfold State.flushedReset
  try dsimp only
  repeat'
    first
    | with_reducible assumption
    | (exact in_of hm rfl)
    | intro _
    | with_reducible apply fr_enterReset
    | with_reducible apply fr_modRec

theorem fr_askReset {mm : Nat} {s0 s : State} (hm : In 1048574 mm) (h : Fr mm s0 s) (cold : Bool) (cause : Nat) :
    Fr mm s0 (State.askReset s cold cause) := by
  unfold State.askReset
  try dsimp only
  repeat'
    first
    | with_reducible assumption
    | (exact in_of hm rfl)
    | intro _
    | with_reducible apply fr_flushedReset
    | with_reducible apply fr_modPower
    | with_reducible apply fr_if

theorem fr_failStep {mm : Nat} {s0 s : State} (hm : In 524288 mm) (h : Fr mm s0 s) (step : Nat) (block : Bool) :
    Fr mm s0 (State.failStep s step block) := by
  unfold State.failStep
  try dsimp only
  repeat'
    first
    | with_reducible assumption
    | (exact in_of hm rfl)
    | intro _
    | with_reducible apply fr_modPower

theorem fr_startUcie {mm : Nat} {s0 s : State} (hm : In 786432 mm) (h : Fr mm s0 s) (failed : List Nat) :
    Fr mm s0 (State.startUcie s failed) := by
  unfold State.startUcie
  try dsimp only
  repeat'
    first
    | with_reducible assumption
    | (exact in_of hm rfl)
    | intro _
    | with_reducible apply fr_failStep
    | with_reducible apply fr_modPower
    | with_reducible apply fr_raise
    | with_reducible apply fr_if

theorem fr_startSteward {mm : Nat} {s0 s : State} (hm : In 851968 mm) (h : Fr mm s0 s) (failed : List Nat) :
    Fr mm s0 (State.startSteward s failed) := by
  unfold State.startSteward
  try dsimp only
  repeat'
    first
    | with_reducible assumption
    | (exact in_of hm rfl)
    | intro _
    | with_reducible apply fr_failStep
    | with_reducible apply fr_modCluster
    | with_reducible apply fr_raise
    | (refine fr_of_fst (by with_reducible assumption) ?_)
    | with_reducible apply fr_if
    | with_reducible apply fr_ifn
    | with_reducible apply fr_foldl

theorem fr_bootHalts {mm : Nat} {s0 s : State} (hm : In 786432 mm) (h : Fr mm s0 s) (step : Nat) :
    Fr mm s0 (State.bootHalts s step) := by
  unfold State.bootHalts
  try dsimp only
  repeat'
    first
    | with_reducible assumption
    | (exact in_of hm rfl)
    | intro _
    | with_reducible apply fr_failStep
    | with_reducible apply fr_modRec

theorem fr_bootImage {mm : Nat} {s0 s : State} (hm : In 851968 mm) (h : Fr mm s0 s) (failed : List Nat) :
    Fr mm s0 (State.bootImage s failed) := by
  unfold State.bootImage
  try dsimp only
  repeat'
    first
    | with_reducible assumption
    | (exact in_of hm rfl)
    | intro _
    | with_reducible apply fr_bootHalts
    | with_reducible apply fr_failStep
    | with_reducible apply fr_modImage
    | with_reducible apply fr_modSteward
    | with_reducible apply fr_raise
    | with_reducible apply fr_if
    | with_reducible apply fr_ifn
    | with_reducible apply fr_foldl

theorem fr_startCheckers {mm : Nat} {s0 s : State} (hm : In 802816 mm) (h : Fr mm s0 s) (failed : List Nat) :
    Fr mm s0 (State.startCheckers s failed) := by
  unfold State.startCheckers
  try dsimp only
  repeat'
    first
    | with_reducible assumption
    | (exact in_of hm rfl)
    | intro _
    | with_reducible apply fr_failStep
    | with_reducible apply fr_modEcc
    | with_reducible apply fr_raise
    | with_reducible apply fr_if

theorem fr_startPipes {mm : Nat} {s0 s : State} (hm : In 819200 mm) (h : Fr mm s0 s) (failed : List Nat) :
    Fr mm s0 (State.startPipes s failed) := by
  unfold State.startPipes
  try dsimp only
  repeat'
    first
    | with_reducible assumption
    | (exact in_of hm rfl)
    | intro _
    | with_reducible apply fr_failStep
    | with_reducible apply fr_modCipher
    | with_reducible apply fr_raise
    | with_reducible apply fr_if
    | with_reducible apply fr_ifn
    | with_reducible apply fr_foldl

theorem fr_takeRoles {mm : Nat} {s0 s : State} (hm : In 263172 mm) (h : Fr mm s0 s) :
    Fr mm s0 (State.takeRoles s) := by
  unfold State.takeRoles
  try dsimp only
  repeat'
    first
    | with_reducible assumption
    | (exact in_of hm rfl)
    | intro _
    | with_reducible apply fr_modHinge
    | with_reducible apply fr_raise
    | with_reducible apply fr_setSetting
    | with_reducible apply fr_if

theorem fr_coldSettings {mm : Nat} {s0 s : State} (hm : In 263204 mm) (h : Fr mm s0 s) :
    Fr mm s0 (State.coldSettings s) := by
  unfold State.coldSettings
  try dsimp only
  repeat'
    first
    | with_reducible assumption
    | (exact in_of hm rfl)
    | intro _
    | with_reducible apply fr_modHinge
    | with_reducible apply fr_modHost
    | with_reducible apply fr_takeRoles

theorem fr_holdPorts {mm : Nat} {s0 s : State} (hm : In 32 mm) (h : Fr mm s0 s) :
    Fr mm s0 (State.holdPorts s) := by
  unfold State.holdPorts
  try dsimp only
  repeat'
    first
    | with_reducible assumption
    | (exact in_of hm rfl)
    | intro _
    | with_reducible apply fr_modPort
    | with_reducible apply fr_foldl

theorem fr_phase1 {mm : Nat} {s0 s : State} (hm : In 1038244 mm) (h : Fr mm s0 s) (failed : List Nat) :
    Fr mm s0 (State.phase1 s failed) := by
  unfold State.phase1
  try dsimp only
  repeat'
    first
    | with_reducible assumption
    | (exact in_of hm rfl)
    | intro _
    | with_reducible apply fr_bindSaved
    | with_reducible apply fr_bootHalts
    | with_reducible apply fr_bootImage
    | with_reducible apply fr_coldSettings
    | with_reducible apply fr_dropOddSessions
    | with_reducible apply fr_holdPorts
    | with_reducible apply fr_loadSaved
    | with_reducible apply fr_modHinge
    | with_reducible apply fr_modPlace
    | with_reducible apply fr_modPower
    | with_reducible apply fr_modRec
    | with_reducible apply fr_modTwin
    | with_reducible apply fr_pendSaved
    | with_reducible apply fr_raise
    | with_reducible apply fr_sbCheck
    | with_reducible apply fr_startCheckers
    | with_reducible apply fr_startPipes
    | with_reducible apply fr_startSteward
    | with_reducible apply fr_startUcie
    | (refine fr_of_fst (by with_reducible assumption) ?_)
    | with_reducible apply fr_if

theorem fr_populate {mm : Nat} {s0 s : State} (hm : In 811008 mm) (h : Fr mm s0 s) (spds : List (List Nat)) :
    Fr mm s0 (State.populate s spds) := by
  unfold State.populate
  try dsimp only
  repeat'
    first
    | with_reducible assumption
    | (exact in_of hm rfl)
    | intro _
    | with_reducible apply fr_chanEvent
    | with_reducible apply fr_modDram
    | with_reducible apply fr_modEcc
    | with_reducible apply fr_modPower
    | (refine fr_of_fst (by with_reducible assumption) ?_)
    | with_reducible apply fr_if
    | with_reducible apply fr_ifn
    | with_reducible apply fr_foldl

theorem fr_startDrives {mm : Nat} {s0 s : State} (hm : In 262400 mm) (h : Fr mm s0 s) (drives : List (Nat × DriveInfo)) :
    Fr mm s0 (State.startDrives s drives) := by
  unfold State.startDrives
  try dsimp only
  repeat'
    first
    | with_reducible assumption
    | (exact in_of hm rfl)
    | intro _
    | with_reducible apply fr_modDrive
    | with_reducible apply fr_modPersist
    | with_reducible apply fr_raise
    | with_reducible apply fr_rejectDrive
    | (refine fr_of_fst (by with_reducible assumption) ?_)
    | with_reducible apply fr_if
    | with_reducible apply fr_ifn
    | with_reducible apply fr_foldl

theorem fr_holdDrives {mm : Nat} {s0 s : State} (hm : In 257 mm) (h : Fr mm s0 s) :
    Fr mm s0 (State.holdDrives s) := by
  unfold State.holdDrives
  try dsimp only
  repeat'
    first
    | with_reducible assumption
    | (exact in_of hm rfl)
    | intro _
    | with_reducible apply fr_holdDrive
    | with_reducible apply fr_foldl

theorem fr_startActive {mm : Nat} {s0 s : State} (hm : In 769 mm) (h : Fr mm s0 s) :
    Fr mm s0 (State.startActive s) := by
  unfold State.startActive
  try dsimp only
  repeat'
    first
    | with_reducible assumption
    | (exact in_of hm rfl)
    | intro _
    | with_reducible apply fr_holdDrives
    | with_reducible apply fr_modPersist
    | with_reducible apply fr_modTwin
    | with_reducible apply fr_unfence

theorem fr_startStandby {mm : Nat} {s0 s : State} (hm : In 512 mm) (h : Fr mm s0 s) :
    Fr mm s0 (State.startStandby s) := by
  unfold State.startStandby
  try dsimp only
  repeat'
    first
    | with_reducible assumption
    | (exact in_of hm rfl)
    | intro _
    | with_reducible apply fr_unfence

theorem fr_takeRole {mm : Nat} {s0 s : State} (hm : In 325603 mm) (h : Fr mm s0 s) (keys : List (Nat × Nat)) :
    Fr mm s0 (State.takeRole s keys) := by
  unfold State.takeRole
  try dsimp only
  repeat'
    first
    | with_reducible assumption
    | (exact in_of hm rfl)
    | intro _
    | with_reducible apply fr_learnClaim
    | with_reducible apply fr_modDrive
    | with_reducible apply fr_modTwin
    | with_reducible apply fr_startActive
    | with_reducible apply fr_startStandby
    | (refine fr_of_fst (by with_reducible assumption) ?_)
    | with_reducible apply fr_if
    | with_reducible apply fr_ifn
    | with_reducible apply fr_foldl
    | with_reducible apply fr_foldl_fst
    | split

theorem fr_settleRole {mm : Nat} {s0 s : State} (hm : In 325603 mm) (h : Fr mm s0 s) (keys : List (Nat × Nat)) :
    Fr mm s0 (State.settleRole s keys) := by
  unfold State.settleRole
  try dsimp only
  repeat'
    first
    | with_reducible assumption
    | (exact in_of hm rfl)
    | intro _
    | with_reducible apply fr_raise
    | with_reducible apply fr_takeRole
    | with_reducible apply fr_tellRanks
    | (refine fr_of_fst (by with_reducible assumption) ?_)
    | with_reducible apply fr_foldl

/-! ### Machine/Power.lean -/

theorem fr_execPaceWindow {mm : Nat} {s0 s : State} (hm : In 262160 mm) (h : Fr mm s0 s) (vault : List Nat) (steward : List Nat) :
    FrOut mm s0 (execPaceWindow vault steward s) := by
  unfold execPaceWindow
  try dsimp only
  repeat'
    first
    | with_reducible assumption
    | (exact in_of hm rfl)
    | with_reducible apply frOut_next
    | intro _
    | with_reducible apply fr_modPace
    | with_reducible apply fr_raise
    | with_reducible apply fr_done
    | with_reducible apply fr_if
    | with_reducible apply fr_ifn
    | with_reducible apply fr_foldl
    | with_reducible apply fr_foldl_fst
    | split

theorem fr_execPaceTargetMissed {mm : Nat} {s0 s : State} (hm : In 262160 mm) (h : Fr mm s0 s) :
    FrOut mm s0 (execPaceTargetMissed s) := by
  unfold execPaceTargetMissed
  try dsimp only
  repeat'
    first
    | with_reducible assumption
    | (exact in_of hm rfl)
    | with_reducible apply frOut_next
    | intro _
    | with_reducible apply fr_modPace
    | with_reducible apply fr_raise
    | with_reducible apply fr_done
    | with_reducible apply fr_if
    | with_reducible apply fr_ifn
    | split

theorem fr_voltStep {mm : Nat} {s0 s : State} (hm : In 16 mm) (h : Fr mm s0 s) :
    Fr mm s0 (State.voltStep s) := by
  unfold State.voltStep
  try dsimp only
  repeat'
    first
    | with_reducible assumption
    | (exact in_of hm rfl)
    | with_reducible apply frOut_fault
    | intro _
    | with_reducible apply fr_modPace
    | with_reducible apply fr_if

theorem fr_execVoltageStep {mm : Nat} {s0 s : State} (hm : In 16 mm) (h : Fr mm s0 s) :
    FrOut mm s0 (execVoltageStep s) := by
  unfold execVoltageStep
  try dsimp only
  repeat'
    first
    | with_reducible assumption
    | (exact in_of hm rfl)
    | with_reducible apply frOut_next
    | intro _
    | with_reducible apply fr_voltStep

theorem fr_execPowerLimitCheck {mm : Nat} {s0 s : State} (hm : In 786448 mm) (h : Fr mm s0 s) (watts : Nat) :
    FrOut mm s0 (execPowerLimitCheck watts s) := by
  unfold execPowerLimitCheck
  try dsimp only
  repeat'
    first
    | with_reducible assumption
    | (exact in_of hm rfl)
    | with_reducible apply frOut_next
    | intro _
    | with_reducible apply fr_modPower
    | with_reducible apply fr_raise
    | with_reducible apply fr_voltStep
    | with_reducible apply fr_done
    | with_reducible apply fr_if

theorem fr_execRegulatorFault {mm : Nat} {s0 s : State} (hm : In 786448 mm) (h : Fr mm s0 s) (measured : Nat) :
    FrOut mm s0 (execRegulatorFault measured s) := by
  unfold execRegulatorFault
  try dsimp only
  repeat'
    first
    | with_reducible assumption
    | (exact in_of hm rfl)
    | with_reducible apply frOut_next
    | with_reducible apply frOut_fault
    | intro _
    | with_reducible apply fr_modPace
    | with_reducible apply fr_modPower
    | with_reducible apply fr_raise
    | with_reducible apply fr_done
    | with_reducible apply fr_if

theorem fr_failing {mm : Nat} {s0 s : State} (hm : In 1048547 mm) (h : Fr mm s0 s) :
    Fr mm s0 (State.failing s) := by
  unfold State.failing
  try dsimp only
  repeat'
    first
    | with_reducible assumption
    | (exact in_of hm rfl)
    | intro _
    | with_reducible apply fr_commitFlush
    | with_reducible apply fr_modSteward
    | with_reducible apply fr_if

theorem fr_pfailEvent {mm : Nat} {s0 s : State} (hm : In 262144 mm) (h : Fr mm s0 s) (cause : Nat) :
    Fr mm s0 (State.pfailEvent s cause) := by
  unfold State.pfailEvent
  try dsimp only
  repeat'
    first
    | with_reducible assumption
    | (exact in_of hm rfl)
    | intro _
    | with_reducible apply fr_raise

theorem fr_qualified {mm : Nat} {s0 s : State} (hm : In 1048547 mm) (h : Fr mm s0 s) (pin : Nat) :
    Fr mm s0 (State.qualified s pin) := by
  unfold State.qualified
  try dsimp only
  repeat'
    first
    | with_reducible assumption
    | (exact in_of hm rfl)
    | intro _
    | with_reducible apply fr_failing
    | with_reducible apply fr_modPower
    | with_reducible apply fr_pfailEvent
    | with_reducible apply fr_if

theorem fr_execPfailAsserted {mm : Nat} {s0 s : State} (hm : In 1048547 mm) (h : Fr mm s0 s) :
    FrOut mm s0 (execPfailAsserted s) := by
  unfold execPfailAsserted
  try dsimp only
  repeat'
    first
    | with_reducible assumption
    | (exact in_of hm rfl)
    | with_reducible apply frOut_next
    | intro _
    | with_reducible apply fr_modPower
    | with_reducible apply fr_qualified
    | with_reducible apply fr_done
    | with_reducible apply fr_if

theorem fr_execPfailDeasserted {mm : Nat} {s0 s : State} (hm : In 524288 mm) (h : Fr mm s0 s) :
    FrOut mm s0 (execPfailDeasserted s) := by
  unfold execPfailDeasserted
  try dsimp only
  repeat'
    first
    | with_reducible assumption
    | (exact in_of hm rfl)
    | with_reducible apply frOut_next
    | intro _
    | with_reducible apply fr_modPower
    | with_reducible apply fr_done
    | with_reducible apply fr_if

theorem fr_execUnsteadyRelease {mm : Nat} {s0 s : State} (hm : In 524288 mm) (h : Fr mm s0 s) :
    FrOut mm s0 (execUnsteadyRelease s) := by
  unfold execUnsteadyRelease
  try dsimp only
  repeat'
    first
    | with_reducible assumption
    | (exact in_of hm rfl)
    | with_reducible apply frOut_next
    | intro _
    | with_reducible apply fr_modPower
    | with_reducible apply fr_done
    | with_reducible apply fr_if
    | with_reducible apply fr_ifn
    | split

theorem fr_execResumeDelayExpiry {mm : Nat} {s0 s : State} (hm : In 983011 mm) (h : Fr mm s0 s) :
    FrOut mm s0 (execResumeDelayExpiry s) := by
  unfold execResumeDelayExpiry
  try dsimp only
  repeat'
    first
    | with_reducible assumption
    | (exact in_of hm rfl)
    | with_reducible apply frOut_next
    | intro _
    | with_reducible apply fr_modPersist
    | with_reducible apply fr_modPower
    | with_reducible apply fr_resumeService
    | with_reducible apply fr_sbUnhold
    | with_reducible apply fr_startRestore
    | with_reducible apply fr_done
    | with_reducible apply fr_if
    | with_reducible apply fr_ifn
    | split

theorem fr_execPfailStartReminder {mm : Nat} {s0 s : State} (hm : In 786432 mm) (h : Fr mm s0 s) :
    FrOut mm s0 (execPfailStartReminder s) := by
  unfold execPfailStartReminder
  try dsimp only
  repeat'
    first
    | with_reducible assumption
    | (exact in_of hm rfl)
    | with_reducible apply frOut_next
    | intro _
    | with_reducible apply fr_modPower
    | with_reducible apply fr_pfailEvent
    | with_reducible apply fr_done
    | with_reducible apply fr_if
    | with_reducible apply fr_ifn
    | split

theorem fr_execVauxRise {mm : Nat} {s0 s : State} (hm : In 1048574 mm) (h : Fr mm s0 s) :
    FrOut mm s0 (execVauxRise s) := by
  unfold execVauxRise
  try dsimp only
  repeat'
    first
    | with_reducible assumption
    | (exact in_of hm rfl)
    | with_reducible apply frOut_next
    | intro _
    | with_reducible apply fr_enterReset
    | with_reducible apply fr_modPower
    | with_reducible apply fr_done
    | with_reducible apply fr_if

theorem fr_execVauxLoss {mm : Nat} {s0 s : State} (hm : In 1048574 mm) (h : Fr mm s0 s) :
    FrOut mm s0 (execVauxLoss s) := by
  unfold execVauxLoss
  try dsimp only
  repeat'
    first
    | with_reducible assumption
    | (exact in_of hm rfl)
    | with_reducible apply frOut_next
    | intro _
    | with_reducible apply fr_enterReset
    | with_reducible apply fr_modDict
    | with_reducible apply fr_modPower
    | with_reducible apply fr_done
    | with_reducible apply fr_if

theorem fr_execVauxOutOfRange {mm : Nat} {s0 s : State} (hm : In 786432 mm) (h : Fr mm s0 s) (mv : Nat) :
    FrOut mm s0 (execVauxOutOfRange mv s) := by
  unfold execVauxOutOfRange
  try dsimp only
  repeat'
    first
    | with_reducible assumption
    | (exact in_of hm rfl)
    | with_reducible apply frOut_next
    | intro _
    | with_reducible apply fr_modPower
    | with_reducible apply fr_raise
    | with_reducible apply fr_done
    | with_reducible apply fr_if

theorem fr_execPowerGoodRise {mm : Nat} {s0 s : State} (hm : In 1048574 mm) (h : Fr mm s0 s) :
    FrOut mm s0 (execPowerGoodRise s) := by
  unfold execPowerGoodRise
  try dsimp only
  repeat'
    first
    | with_reducible assumption
    | (exact in_of hm rfl)
    | with_reducible apply frOut_next
    | intro _
    | with_reducible apply fr_enterReset
    | with_reducible apply fr_modPower
    | with_reducible apply fr_done
    | with_reducible apply fr_if

theorem fr_railEvent {mm : Nat} {s0 s : State} (hm : In 262144 mm) (h : Fr mm s0 s) (cause : Nat) :
    Fr mm s0 (State.railEvent s cause) := by
  unfold State.railEvent
  try dsimp only
  repeat'
    first
    | with_reducible assumption
    | (exact in_of hm rfl)
    | intro _
    | with_reducible apply fr_raise

theorem fr_execPowerGoodFall {mm : Nat} {s0 s : State} (hm : In 1048547 mm) (h : Fr mm s0 s) :
    FrOut mm s0 (execPowerGoodFall s) := by
  unfold execPowerGoodFall
  try dsimp only
  repeat'
    first
    | with_reducible assumption
    | (exact in_of hm rfl)
    | with_reducible apply frOut_next
    | intro _
    | with_reducible apply fr_modPower
    | with_reducible apply fr_qualified
    | with_reducible apply fr_railEvent
    | with_reducible apply fr_vmainStop
    | with_reducible apply fr_done
    | with_reducible apply fr_if

theorem fr_execVmainUndervoltage {mm : Nat} {s0 s : State} (hm : In 1048547 mm) (h : Fr mm s0 s) (mv : Nat) :
    FrOut mm s0 (execVmainUndervoltage mv s) := by
  unfold execVmainUndervoltage
  try dsimp only
  repeat'
    first
    | with_reducible assumption
    | (exact in_of hm rfl)
    | with_reducible apply frOut_next
    | intro _
    | with_reducible apply fr_modPower
    | with_reducible apply fr_qualified
    | with_reducible apply fr_railEvent
    | with_reducible apply fr_done
    | with_reducible apply fr_if

theorem fr_execBrownOut {mm : Nat} {s0 s : State} (hm : In 796512 mm) (h : Fr mm s0 s) (mv : Nat) :
    FrOut mm s0 (execBrownOut mv s) := by
  unfold execBrownOut
  try dsimp only
  repeat'
    first
    | with_reducible assumption
    | (exact in_of hm rfl)
    | with_reducible apply frOut_next
    | intro _
    | with_reducible apply fr_modPower
    | with_reducible apply fr_railEvent
    | with_reducible apply fr_vmainStop
    | with_reducible apply fr_done
    | with_reducible apply fr_if

theorem fr_execPorstAssert {mm : Nat} {s0 s : State} (hm : In 1048574 mm) (h : Fr mm s0 s) :
    FrOut mm s0 (execPorstAssert s) := by
  unfold execPorstAssert
  try dsimp only
  repeat'
    first
    | with_reducible assumption
    | (exact in_of hm rfl)
    | with_reducible apply frOut_next
    | intro _
    | with_reducible apply fr_enterReset
    | with_reducible apply fr_done
    | with_reducible apply fr_if

theorem fr_execPorstRelease {mm : Nat} {s0 s : State} (hm : In 1046436 mm) (h : Fr mm s0 s) (spds : List (List Nat)) (failed : List Nat) :
    FrOut mm s0 (execPorstRelease spds failed s) := by
  unfold execPorstRelease
  try dsimp only
  repeat'
    first
    | with_reducible assumption
    | (exact in_of hm rfl)
    | with_reducible apply frOut_next
    | intro _
    | with_reducible apply fr_phase1
    | with_reducible apply fr_populate
    | with_reducible apply fr_done
    | with_reducible apply fr_if

theorem fr_execWrstAssert {mm : Nat} {s0 s : State} (hm : In 1048574 mm) (h : Fr mm s0 s) :
    FrOut mm s0 (execWrstAssert s) := by
  unfold execWrstAssert
  try dsimp only
  repeat'
    first
    | with_reducible assumption
    | (exact in_of hm rfl)
    | with_reducible apply frOut_next
    | intro _
    | with_reducible apply fr_askReset
    | with_reducible apply fr_done
    | with_reducible apply fr_if

theorem fr_warmChecks {mm : Nat} {s0 s : State} (hm : In 287490 mm) (h : Fr mm s0 s) (pass : List Bool) :
    Fr mm s0 (State.warmChecks s pass) := by
  unfold State.warmChecks
  try dsimp only
  repeat'
    first
    | with_reducible assumption
    | (exact in_of hm rfl)
    | with_reducible apply wf_nil
    | intro _
    | with_reducible apply fr_chanEvent
    | with_reducible apply fr_modChan
    | with_reducible apply fr_modDram
    | with_reducible apply fr_modEcc
    | with_reducible apply fr_modMem
    | with_reducible apply fr_modPersist
    | with_reducible apply fr_modTwin
    | with_reducible apply wf_setLine
    | with_reducible apply wf_clear
    | with_reducible apply wf_copy
    | with_reducible apply wf_writeBytes
    | (refine fr_of_fst (by with_reducible assumption) ?_)
    | with_reducible apply fr_if
    | with_reducible apply fr_ifn
    | with_reducible apply fr_foldl

theorem fr_execWrstRelease {mm : Nat} {s0 s : State} (hm : In 1046438 mm) (h : Fr mm s0 s) (checksPass : List Bool) (failed : List Nat) :
    FrOut mm s0 (execWrstRelease checksPass failed s) := by
  unfold execWrstRelease
  try dsimp only
  repeat'
    first
    | with_reducible assumption
    | (exact in_of hm rfl)
    | with_reducible apply frOut_next
    | intro _
    | with_reducible apply fr_phase1
    | with_reducible apply fr_warmChecks
    | with_reducible apply fr_done
    | with_reducible apply fr_if

theorem fr_execJtagReset {mm : Nat} {s0 s : State} (hm : In 1048574 mm) (h : Fr mm s0 s) :
    FrOut mm s0 (execJtagReset s) := by
  unfold execJtagReset
  try dsimp only
  repeat'
    first
    | with_reducible assumption
    | (exact in_of hm rfl)
    | with_reducible apply frOut_next
    | intro _
    | with_reducible apply fr_enterReset
    | with_reducible apply fr_done
    | with_reducible apply fr_if

theorem fr_execDeferredReset {mm : Nat} {s0 s : State} (hm : In 1048574 mm) (h : Fr mm s0 s) :
    FrOut mm s0 (execDeferredReset s) := by
  unfold execDeferredReset
  try dsimp only
  repeat'
    first
    | with_reducible assumption
    | (exact in_of hm rfl)
    | with_reducible apply frOut_next
    | intro _
    | with_reducible apply fr_flushedReset
    | with_reducible apply fr_done
    | with_reducible apply fr_if
    | with_reducible apply fr_ifn
    | split

theorem fr_execPoolResetFire {mm : Nat} {s0 s : State} (hm : In 1048574 mm) (h : Fr mm s0 s) :
    FrOut mm s0 (execPoolResetFire s) := by
  unfold execPoolResetFire
  try dsimp only
  repeat'
    first
    | with_reducible assumption
    | (exact in_of hm rfl)
    | with_reducible apply frOut_next
    | intro _
    | with_reducible apply fr_askReset
    | with_reducible apply fr_modPool
    | with_reducible apply fr_done
    | with_reducible apply fr_if
    | with_reducible apply fr_ifn
    | split

theorem fr_heatEvent {mm : Nat} {s0 s : State} (hm : In 262144 mm) (h : Fr mm s0 s) (cause : Nat) :
    Fr mm s0 (State.heatEvent s cause) := by
  unfold State.heatEvent
  try dsimp only
  repeat'
    first
    | with_reducible assumption
    | (exact in_of hm rfl)
    | intro _
    | with_reducible apply fr_raise

theorem fr_thermalTrip {mm : Nat} {s0 s : State} (hm : In 1048574 mm) (h : Fr mm s0 s) :
    Fr mm s0 (State.thermalTrip s) := by
  unfold State.thermalTrip
  try dsimp only
  repeat'
    first
    | with_reducible assumption
    | (exact in_of hm rfl)
    | intro _
    | with_reducible apply fr_enterReset
    | with_reducible apply fr_heatEvent
    | with_reducible apply fr_modPower
    | with_reducible apply fr_modRec

theorem fr_evacuate {mm : Nat} {s0 s : State} (hm : In 983011 mm) (h : Fr mm s0 s) :
    Fr mm s0 (State.evacuate s) := by
  unfold State.evacuate
  try dsimp only
  repeat'
    first
    | with_reducible assumption
    | (exact in_of hm rfl)
    | intro _
    | with_reducible apply fr_commitFlush
    | with_reducible apply fr_leaveSync
    | with_reducible apply fr_modTwin
    | with_reducible apply fr_vmainStop
    | with_reducible apply fr_if

theorem fr_execThermalSample {mm : Nat} {s0 s : State} (hm : In 1048575 mm) (h : Fr mm s0 s) (vault : List Int) (steward : List Int) :
    FrOut mm s0 (execThermalSample vault steward s) := by
  unfold execThermalSample
  try dsimp only
  repeat'
    first
    | with_reducible assumption
    | (exact in_of hm rfl)
    | with_reducible apply frOut_next
    | intro _
    | with_reducible apply fr_evacuate
    | with_reducible apply fr_heatEvent
    | with_reducible apply fr_modPower
    | with_reducible apply fr_raise
    | with_reducible apply fr_thermalTrip
    | with_reducible apply fr_done
    | with_reducible apply fr_if
    | with_reducible apply fr_ifn
    | with_reducible apply fr_foldl
    | with_reducible apply fr_foldl_fst
    | split

theorem fr_execStartPhaseAdvance {mm : Nat} {s0 s : State} (hm : In 983019 mm) (h : Fr mm s0 s) (drives : List (Nat × DriveInfo)) (keys : List (Nat × Nat)) (heads : List HeadRead) (twinMap : Option DirtyMap) :
    FrOut mm s0 (execStartPhaseAdvance drives keys heads twinMap s) := by
  unfold execStartPhaseAdvance
  try dsimp only
  repeat'
    first
    | with_reducible assumption
    | (exact in_of hm rfl)
    | with_reducible apply frOut_next
    | intro _
    | with_reducible apply fr_afterWave
    | with_reducible apply fr_checkManifest
    | with_reducible apply fr_findNumber
    | with_reducible apply fr_modPersist
    | with_reducible apply fr_modPool
    | with_reducible apply fr_modPower
    | with_reducible apply fr_ownHeld
    | with_reducible apply fr_settleRole
    | with_reducible apply fr_settled
    | with_reducible apply fr_startDrives
    | with_reducible apply fr_startRestore
    | with_reducible apply fr_takeRoot
    | with_reducible apply fr_done
    | (refine fr_of_fst (by with_reducible assumption) ?_)
    | with_reducible apply fr_if

theorem fr_execHostServiceOpen {mm : Nat} {s0 s : State} (hm : In 786464 mm) (h : Fr mm s0 s) :
    FrOut mm s0 (execHostServiceOpen s) := by
  unfold execHostServiceOpen
  try dsimp only
  repeat'
    first
    | with_reducible assumption
    | (exact in_of hm rfl)
    | with_reducible apply frOut_next
    | intro _
    | with_reducible apply fr_modHost
    | with_reducible apply fr_modPower
    | with_reducible apply fr_syncMode
    | with_reducible apply fr_done
    | with_reducible apply fr_if

theorem fr_execI3cDynamicAddress {mm : Nat} {s0 s : State} (hm : In 8 mm) (h : Fr mm s0 s) (port : Nat) (addr : Nat) :
    FrOut mm s0 (execI3cDynamicAddress port addr s) := by
  unfold execI3cDynamicAddress
  try dsimp only
  repeat'
    first
    | with_reducible assumption
    | (exact in_of hm rfl)
    | with_reducible apply frOut_next
    | intro _
    | with_reducible apply fr_modDict

theorem fr_execJtagFactoryAccess {mm : Nat} {s0 s : State} (hm : In 262152 mm) (h : Fr mm s0 s) (take : Bool) :
    FrOut mm s0 (execJtagFactoryAccess take s) := by
  unfold execJtagFactoryAccess
  try dsimp only
  repeat'
    first
    | with_reducible assumption
    | (exact in_of hm rfl)
    | with_reducible apply frOut_next
    | intro _
    | with_reducible apply fr_modDict
    | with_reducible apply fr_syncMode

/-! ### Machine/Commit.lean -/

theorem fr_lengthAfter {mm : Nat} {s0 s : State} (hm : In 33 mm) (h : Fr mm s0 s) (n : Nat) :
    Fr mm s0 (State.lengthAfter s n) := by
  unfold State.lengthAfter
  try dsimp only
  repeat'
    first
    | with_reducible assumption
    | (exact in_of hm rfl)
    | intro _
    | with_reducible apply fr_logOnly
    | with_reducible apply fr_modSess
    | with_reducible apply fr_if

theorem fr_sessAfter {mm : Nat} {s0 s : State} (hm : In 33 mm) (h : Fr mm s0 s) (old : State) (rq : Req) (tag : Nat) (n : Nat) (hold : Fr mm s0 old) :
    Fr mm s0 (State.sessAfter s old rq tag n) := by
  unfold State.sessAfter
  try dsimp only
  repeat'
    first
    | with_reducible assumption
    | (exact in_of hm rfl)
    | intro _
    | with_reducible apply fr_bindSession
    | with_reducible apply fr_lengthAfter
    | with_reducible apply fr_modSess
    | with_reducible apply fr_unbindSession
    | with_reducible apply fr_if

theorem fr_volAfter {mm : Nat} {s0 s : State} (hm : In 310665 mm) (h : Fr mm s0 s) (set : List (Nat × Bytes)) (n : Nat) :
    Fr mm s0 (State.volAfter s set n) := by
  unfold State.volAfter
  try dsimp only
  repeat'
    first
    | with_reducible assumption
    | (exact in_of hm rfl)
    | intro _
    | with_reducible apply fr_handToRoot
    | (refine fr_of_fst (by with_reducible assumption) ?_)
    | with_reducible apply fr_if
    | with_reducible apply fr_ifn
    | split

theorem fr_actionsAfter {mm : Nat} {s0 s : State} (hm : In 310665 mm) (h : Fr mm s0 s) (set : List (Nat × Bytes)) :
    Fr mm s0 (State.actionsAfter s set) := by
  unfold State.actionsAfter
  try dsimp only
  repeat'
    first
    | with_reducible assumption
    | (exact in_of hm rfl)
    | intro _
    | with_reducible apply fr_handToRoot
    | (refine fr_of_fst (by with_reducible assumption) ?_)
    | with_reducible apply fr_if
    | with_reducible apply fr_ifn
    | with_reducible apply fr_foldl
    | with_reducible apply fr_foldl_fst
    | split

theorem fr_latticeAfter {mm : Nat} {s0 s : State} (hm : In 4096 mm) (h : Fr mm s0 s) (set : List (Nat × Bytes)) :
    Fr mm s0 (State.latticeAfter s set) := by
  unfold State.latticeAfter
  try dsimp only
  repeat'
    first
    | with_reducible assumption
    | (exact in_of hm rfl)
    | intro _
    | with_reducible apply fr_pendSwap
    | (refine fr_of_fst (by with_reducible assumption) ?_)
    | with_reducible apply fr_if

theorem fr_applySet {mm : Nat} {s0 s : State} (hm : In 327663 mm) (h : Fr mm s0 s) (rq : Req) (tag : Nat) (set : List (Nat × Bytes)) :
    Fr mm s0 (State.applySet s rq tag set) := by
  unfold State.applySet
  try dsimp only
  repeat'
    first
    | with_reducible assumption
    | (exact in_of hm rfl)
    | intro _
    | with_reducible apply fr_actionsAfter
    | with_reducible apply fr_advanceWorks
    | with_reducible apply fr_afterClean
    | with_reducible apply fr_ceilingCheck
    | with_reducible apply fr_latticeAfter
    | with_reducible apply fr_modTwin
    | with_reducible apply fr_placeState
    | with_reducible apply fr_sendCensus
    | with_reducible apply fr_sessAfter
    | with_reducible apply fr_setSetting
    | with_reducible apply fr_tellTwin
    | with_reducible apply fr_volAfter
    | (refine fr_of_fst (by with_reducible assumption) ?_)
    | with_reducible apply fr_foldl

theorem fr_commitDone {mm : Nat} {s0 s : State} (hm : In 8 mm) (h : Fr mm s0 s) (n : Nat) (code : Nat) (key : Nat) :
    Fr mm s0 (State.commitDone s n code key) := by
  unfold State.commitDone
  try dsimp only
  repeat'
    first
    | with_reducible assumption
    | (exact in_of hm rfl)
    | intro _
    | with_reducible apply fr_modSlot

theorem fr_swapRefused {mm : Nat} {s0 s : State} (hm : In 266240 mm) (h : Fr mm s0 s) (code : Nat) (key : Nat) :
    Fr mm s0 (State.swapRefused s code key) := by
  unfold State.swapRefused
  try dsimp only
  repeat'
    first
    | with_reducible assumption
    | (exact in_of hm rfl)
    | intro _
    | with_reducible apply fr_modLattice
    | with_reducible apply fr_raise
    | with_reducible apply fr_if

theorem fr_commitNow {mm : Nat} {s0 s : State} (hm : In 327663 mm) (h : Fr mm s0 s) (rq : Req) (tag : Nat) :
    Fr mm s0 (State.commitNow s rq tag) := by
  unfold State.commitNow
  try dsimp only
  repeat'
    first
    | with_reducible assumption
    | (exact in_of hm rfl)
    | intro _
    | with_reducible apply fr_applySet
    | with_reducible apply fr_commitDone
    | with_reducible apply fr_respond
    | with_reducible apply fr_swapRefused
    | (refine fr_of_fst (by with_reducible assumption) ?_)
    | with_reducible apply fr_if
    | with_reducible apply fr_ifn
    | split

theorem fr_discardSet {mm : Nat} {s0 s : State} (hm : In 8 mm) (h : Fr mm s0 s) (rq : Req) :
    Fr mm s0 (State.discardSet s rq) := by
  unfold State.discardSet
  try dsimp only
  repeat'
    first
    | with_reducible assumption
    | (exact in_of hm rfl)
    | intro _
    | with_reducible apply fr_modSlot
    | split

/-! ### Machine/Serve.lean -/

theorem fr_nextOr {m : Nat} {s0 s : State} (h : Fr m s0 s) {o : Host.Outcome State Fault Refusal} (ho : FrOut m s0 o) : Fr m s0 (nextOr s o) := by
  unfold nextOr
  split
  · exact fr_of_frOut ho
  · exact h
  · exact h

theorem fr_thenTick {m : Nat} {s0 s : State} (h : Fr m s0 s) {o : Host.Outcome State Fault Refusal} (ho : FrOut m s0 o) : Fr m s0 (s.thenTick o) := by
  unfold State.thenTick
  exact fr_tick (fr_nextOr h ho)

theorem fr_maintain {mm : Nat} {s0 s : State} (hm : In 356355 mm) (h : Fr mm s0 s) (c : Nat) (b : Bytes) :
    Fr mm s0 (State.maintain s c b).1 := by
  unfold State.maintain
  try dsimp only
  repeat'
    first
    | with_reducible assumption
    | (exact in_of hm rfl)
    | intro _
    | with_reducible apply fr_execDrain
    | with_reducible apply fr_execInvalidateAll
    | with_reducible apply fr_execInvalidateAllLocked
    | with_reducible apply fr_execInvalidateLine
    | with_reducible apply fr_execLockFill
    | with_reducible apply fr_execLockWay
    | with_reducible apply fr_execUnlockWay
    | with_reducible apply fr_nextOr
    | (refine fr_of_fst (by with_reducible assumption) ?_)
    | with_reducible apply fr_if
    | with_reducible apply fr_ifn
    | split

theorem fr_ptpEnable {mm : Nat} {s0 s : State} (hm : In 1028 mm) (h : Fr mm s0 s) (on : Bool) :
    Fr mm s0 (State.ptpEnable s on) := by
  unfold State.ptpEnable
  try dsimp only
  repeat'
    first
    | with_reducible assumption
    | (exact in_of hm rfl)
    | intro _
    | with_reducible apply fr_modHinge
    | with_reducible apply fr_setSetting
    | with_reducible apply fr_if

theorem fr_keepValue {mm : Nat} {s0 s : State} (hm : In 308485 mm) (h : Fr mm s0 s) (idx : Nat) (sub : Nat) (b : Bytes) :
    Fr mm s0 (State.keepValue s idx sub b).1 := by
  unfold State.keepValue
  try dsimp only
  repeat'
    first
    | with_reducible assumption
    | (exact in_of hm rfl)
    | intro _
    | with_reducible apply fr_ceilingCheck
    | with_reducible apply fr_setSetting
    | with_reducible apply fr_tellTwin
    | (refine fr_of_fst (by with_reducible assumption) ?_)
    | with_reducible apply fr_if
    | with_reducible apply fr_ifn
    | split

theorem fr_plainWrite {mm : Nat} {s0 s : State} (hm : In 521991 mm) (h : Fr mm s0 s) (rq : Req) (idx : Nat) (sub : Nat) (b : Bytes) :
    Fr mm s0 (State.plainWrite s rq idx sub b).1 := by
  unfold State.plainWrite
  try dsimp only
  repeat'
    first
    | with_reducible assumption
    | (exact in_of hm rfl)
    | intro _
    | with_reducible apply fr_bootRecord
    | with_reducible apply fr_keepValue
    | with_reducible apply fr_maintain
    | with_reducible apply fr_modRec
    | with_reducible apply fr_ptpEnable
    | with_reducible apply fr_sbSubmit
    | with_reducible apply fr_startResync
    | with_reducible apply fr_tick
    | (refine fr_of_fst (by with_reducible assumption) ?_)
    | with_reducible apply fr_if
    | with_reducible apply fr_ifn
    | with_reducible apply fr_ite_fst

theorem frOpt_rowWrite {m : Nat} {s0 s : State} (hm : In 1048559 m) (h : Fr m s0 s) (rq : Req) (tag idx sub : Nat) (b : Bytes) :
    FrOpt m s0 (s.rowWrite rq tag idx sub b) := by
  unfold State.rowWrite
  dsimp only
  repeat'
    first
    | with_reducible apply frOpt_none
    | with_reducible apply frOpt_some
    | with_reducible apply frOpt_ite
    | with_reducible assumption
    | (exact in_of hm rfl)
    | with_reducible apply fr_thenTick
    | with_reducible apply fr_execAcknowledgeAll
    | with_reducible apply fr_execAcknowledgeSource
    | with_reducible apply fr_execActivateAtReset
    | with_reducible apply fr_execActivateRollback
    | with_reducible apply fr_execActivateRolling
    | with_reducible apply fr_execArbiterStatsClear
    | with_reducible apply fr_execCacheDisable
    | with_reducible apply fr_execCacheEnable
    | with_reducible apply fr_execChannelOffline
    | with_reducible apply fr_execChannelRetrain
    | with_reducible apply fr_execChannelReturn
    | with_reducible apply fr_execClearErasure
    | with_reducible apply fr_execClearFirstArea
    | with_reducible apply fr_execCloseGather
    | with_reducible apply fr_execCounterPreset
    | with_reducible apply fr_execDriveInsert
    | with_reducible apply fr_execDriveOutOfService
    | with_reducible apply fr_execFreezeChannel
    | with_reducible apply fr_execFreezeRead
    | with_reducible apply fr_execHandover
    | with_reducible apply fr_execHingePortEnableWrite
    | with_reducible apply fr_execHingeRetrain
    | with_reducible apply fr_execJoinStart
    | with_reducible apply fr_execKeyErase
    | with_reducible apply fr_execKeyLoad
    | with_reducible apply fr_execLocalFreezeWrite
    | with_reducible apply fr_execMarkDeviceBad
    | with_reducible apply fr_execPortEnableWrite
    | with_reducible apply fr_execPortRetrain
    | with_reducible apply fr_execRecorderFlush
    | with_reducible apply fr_execRetireRank
    | with_reducible apply fr_execReturnPipelines
    | with_reducible apply fr_execRingRegister
    | with_reducible apply fr_execRingRestart
    | with_reducible apply fr_execRingUnregister
    | with_reducible apply fr_execTranslationCacheFlush
    | with_reducible apply fr_nextOr
    | split

theorem fr_rowWrite {m : Nat} {s0 s t : State} {rq : Req} {tag idx sub : Nat} {b : Bytes} (e : s.rowWrite rq tag idx sub b = some t)
    (hm : In 1048559 m) (h : Fr m s0 s) : Fr m s0 t :=
  frOpt_elim (frOpt_rowWrite hm h rq tag idx sub b) t e

/-! ### Machine/Dictionary.lean -/

theorem fr_execCommit {mm : Nat} {s0 s : State} (hm : In 327663 mm) (h : Fr mm s0 s) (rq : Req) (tag : Nat) :
    FrOut mm s0 (execCommit rq tag s) := by
  unfold execCommit
  try dsimp only
  repeat'
    first
    | with_reducible assumption
    | (exact in_of hm rfl)
    | with_reducible apply frOut_next
    | intro _
    | with_reducible apply fr_commitNow
    | with_reducible apply fr_respond
    | with_reducible apply fr_touch
    | with_reducible apply fr_done
    | with_reducible apply fr_if

theorem fr_execDiscardStaged {mm : Nat} {s0 s : State} (hm : In 308265 mm) (h : Fr mm s0 s) (rq : Req) (tag : Nat) :
    FrOut mm s0 (execDiscardStaged rq tag s) := by
  unfold execDiscardStaged
  try dsimp only
  repeat'
    first
    | with_reducible assumption
    | (exact in_of hm rfl)
    | with_reducible apply frOut_next
    | intro _
    | with_reducible apply fr_discardSet
    | with_reducible apply fr_writeNum

theorem fr_execSave {mm : Nat} {s0 s : State} (hm : In 308265 mm) (h : Fr mm s0 s) (rq : Req) (tag : Nat) :
    FrOut mm s0 (execSave rq tag s) := by
  unfold execSave
  try dsimp only
  repeat'
    first
    | with_reducible assumption
    | (exact in_of hm rfl)
    | with_reducible apply frOut_next
    | intro _
    | with_reducible apply fr_modDict
    | with_reducible apply fr_writeNum
    | with_reducible apply fr_done
    | (refine fr_of_fst (by with_reducible assumption) ?_)
    | with_reducible apply fr_if
    | with_reducible apply fr_ifn
    | split

theorem fr_execSaveComplete {mm : Nat} {s0 s : State} (hm : In 262152 mm) (h : Fr mm s0 s) (ok : Bool) :
    FrOut mm s0 (execSaveComplete ok s) := by
  unfold execSaveComplete
  try dsimp only
  repeat'
    first
    | with_reducible assumption
    | (exact in_of hm rfl)
    | with_reducible apply frOut_next
    | intro _
    | with_reducible apply fr_modDict
    | with_reducible apply fr_raise
    | with_reducible apply fr_done
    | with_reducible apply fr_if
    | with_reducible apply fr_ifn
    | split

theorem fr_execRestoreDefaults {mm : Nat} {s0 s : State} (hm : In 308265 mm) (h : Fr mm s0 s) (rq : Req) (tag : Nat) :
    FrOut mm s0 (execRestoreDefaults rq tag s) := by
  unfold execRestoreDefaults
  try dsimp only
  repeat'
    first
    | with_reducible assumption
    | (exact in_of hm rfl)
    | with_reducible apply frOut_next
    | intro _
    | with_reducible apply fr_modDict
    | with_reducible apply fr_writeNum
    | with_reducible apply fr_done
    | with_reducible apply fr_if
    | with_reducible apply fr_ifn
    | split

theorem fr_resetLater {mm : Nat} {s0 s : State} (hm : In 8 mm) (h : Fr mm s0 s) (cold : Bool) :
    Fr mm s0 (State.resetLater s cold).1 := by
  unfold State.resetLater
  try dsimp only
  repeat'
    first
    | with_reducible assumption
    | (exact in_of hm rfl)
    | intro _
    | with_reducible apply fr_modDict
    | (refine fr_of_fst (by with_reducible assumption) ?_)
    | with_reducible apply fr_if
    | with_reducible apply fr_ifn
    | split

theorem fr_execResetWarm {mm : Nat} {s0 s : State} (hm : In 308265 mm) (h : Fr mm s0 s) (rq : Req) (tag : Nat) :
    FrOut mm s0 (execResetWarm rq tag s) := by
  unfold execResetWarm
  try dsimp only
  repeat'
    first
    | with_reducible assumption
    | (exact in_of hm rfl)
    | with_reducible apply frOut_next
    | intro _
    | with_reducible apply fr_resetLater
    | with_reducible apply fr_writeNum

theorem fr_execResetCold {mm : Nat} {s0 s : State} (hm : In 308265 mm) (h : Fr mm s0 s) (rq : Req) (tag : Nat) :
    FrOut mm s0 (execResetCold rq tag s) := by
  unfold execResetCold
  try dsimp only
  repeat'
    first
    | with_reducible assumption
    | (exact in_of hm rfl)
    | with_reducible apply frOut_next
    | intro _
    | with_reducible apply fr_resetLater
    | with_reducible apply fr_writeNum

theorem fr_execResetStartDelay {mm : Nat} {s0 s : State} (hm : In 1048574 mm) (h : Fr mm s0 s) :
    FrOut mm s0 (execResetStartDelay s) := by
  unfold execResetStartDelay
  try dsimp only
  repeat'
    first
    | with_reducible assumption
    | (exact in_of hm rfl)
    | with_reducible apply frOut_next
    | intro _
    | with_reducible apply fr_askReset
    | with_reducible apply fr_modDict
    | with_reducible apply fr_done
    | with_reducible apply fr_if
    | with_reducible apply fr_ifn
    | split

theorem fr_execPresentPassword {mm : Nat} {s0 s : State} (hm : In 308265 mm) (h : Fr mm s0 s) (rq : Req) (tag : Nat) (pw : Bytes) :
    FrOut mm s0 (execPresentPassword rq tag pw s) := by
  unfold execPresentPassword
  try dsimp only
  repeat'
    first
    | with_reducible assumption
    | (exact in_of hm rfl)
    | with_reducible apply frOut_next
    | intro _
    | (refine fr_takeReqSlot (by with_reducible assumption) ?_ ?_)
    | with_reducible apply fr_failedPresentation
    | with_reducible apply fr_modDict
    | with_reducible apply fr_modSlot
    | with_reducible apply fr_touch
    | with_reducible apply fr_writeObj
    | with_reducible apply fr_done
    | with_reducible apply fr_if
    | with_reducible apply fr_ifn
    | split

theorem fr_execPresentationRefusalEnd {mm : Nat} {s0 s : State} (hm : In 8 mm) (h : Fr mm s0 s) :
    FrOut mm s0 (execPresentationRefusalEnd s) := by
  unfold execPresentationRefusalEnd
  try dsimp only
  repeat'
    first
    | with_reducible assumption
    | (exact in_of hm rfl)
    | with_reducible apply frOut_next
    | intro _
    | with_reducible apply fr_modDict
    | with_reducible apply fr_done
    | with_reducible apply fr_if

theorem fr_execOwnerLock {mm : Nat} {s0 s : State} (hm : In 308265 mm) (h : Fr mm s0 s) (rq : Req) (tag : Nat) :
    FrOut mm s0 (execOwnerLock rq tag s) := by
  unfold execOwnerLock
  try dsimp only
  repeat'
    first
    | with_reducible assumption
    | (exact in_of hm rfl)
    | with_reducible apply frOut_next
    | intro _
    | with_reducible apply fr_modSlot
    | with_reducible apply fr_writeNum
    | with_reducible apply fr_done
    | split

theorem fr_execElevationTimeout {mm : Nat} {s0 s : State} (hm : In 8 mm) (h : Fr mm s0 s) (slot : Nat) :
    FrOut mm s0 (execElevationTimeout slot s) := by
  unfold execElevationTimeout
  try dsimp only
  repeat'
    first
    | with_reducible assumption
    | (exact in_of hm rfl)
    | with_reducible apply frOut_next
    | intro _
    | with_reducible apply fr_modSlot
    | with_reducible apply fr_done
    | with_reducible apply fr_if
    | with_reducible apply fr_ifn
    | split

theorem fr_execNewPassword {mm : Nat} {s0 s : State} (hm : In 310697 mm) (h : Fr mm s0 s) (rq : Req) (tag : Nat) (pw : Bytes) :
    FrOut mm s0 (execNewPassword rq tag pw s) := by
  unfold execNewPassword
  try dsimp only
  repeat'
    first
    | with_reducible assumption
    | (exact in_of hm rfl)
    | with_reducible apply frOut_next
    | intro _
    | with_reducible apply fr_handToRoot
    | with_reducible apply fr_tick
    | with_reducible apply fr_writeObj

theorem fr_execStageTimeout {mm : Nat} {s0 s : State} (hm : In 262152 mm) (h : Fr mm s0 s) (slot : Nat) :
    FrOut mm s0 (execStageTimeout slot s) := by
  unfold execStageTimeout
  try dsimp only
  repeat'
    first
    | with_reducible assumption
    | (exact in_of hm rfl)
    | with_reducible apply frOut_next
    | intro _
    | with_reducible apply fr_modSlot
    | with_reducible apply fr_raise
    | with_reducible apply fr_done
    | with_reducible apply fr_if
    | with_reducible apply fr_ifn
    | split

theorem fr_execRequesterSlotTimeout {mm : Nat} {s0 s : State} (hm : In 308233 mm) (h : Fr mm s0 s) (slot : Nat) :
    FrOut mm s0 (execRequesterSlotTimeout slot s) := by
  unfold execRequesterSlotTimeout
  try dsimp only
  repeat'
    first
    | with_reducible assumption
    | (exact in_of hm rfl)
    | with_reducible apply frOut_next
    | intro _
    | with_reducible apply fr_freeSlotOf
    | with_reducible apply fr_done
    | with_reducible apply fr_if
    | with_reducible apply fr_ifn
    | split

theorem fr_closeXfer {mm : Nat} {s0 s : State} (hm : In 327688 mm) (h : Fr mm s0 s) (rq : Req) (tag : Nat) :
    Fr mm s0 (State.closeXfer s rq tag) := by
  unfold State.closeXfer
  try dsimp only
  repeat'
    first
    | with_reducible assumption
    | (exact in_of hm rfl)
    | intro _
    | with_reducible apply fr_imageCut
    | with_reducible apply fr_modDict
    | with_reducible apply fr_if

theorem fr_putXfer {mm : Nat} {s0 s : State} (hm : In 8 mm) (h : Fr mm s0 s) (x : Xfer) :
    Fr mm s0 (State.putXfer s x) := by
  unfold State.putXfer
  try dsimp only
  repeat'
    first
    | with_reducible assumption
    | (exact in_of hm rfl)
    | intro _
    | with_reducible apply fr_modDict

theorem fr_serveRead {mm : Nat} {s0 s : State} (hm : In 373801 mm) (h : Fr mm s0 s) (rq : Req) (m : DictMsg) :
    Fr mm s0 (State.serveRead s rq m) := by
  unfold State.serveRead
  try dsimp only
  repeat'
    first
    | with_reducible assumption
    | (exact in_of hm rfl)
    | intro _
    | with_reducible apply fr_closeXfer
    | with_reducible apply fr_putXfer
    | with_reducible apply fr_respond
    | with_reducible apply fr_tick
    | with_reducible apply fr_if

theorem fr_execDictRead {mm : Nat} {s0 s : State} (hm : In 373801 mm) (h : Fr mm s0 s) (rq : Req) (m : DictMsg) :
    FrOut mm s0 (execDictRead rq m s) := by
  unfold execDictRead
  try dsimp only
  repeat'
    first
    | with_reducible assumption
    | (exact in_of hm rfl)
    | with_reducible apply frOut_next
    | intro _
    | with_reducible apply fr_onMsg
    | with_reducible apply fr_respond
    | with_reducible apply fr_serveRead
    | with_reducible apply fr_done
    | with_reducible apply fr_if

theorem fr_serveReadSegment {mm : Nat} {s0 s : State} (hm : In 373801 mm) (h : Fr mm s0 s) (rq : Req) (m : DictMsg) :
    Fr mm s0 (State.serveReadSegment s rq m) := by
  unfold State.serveReadSegment
  try dsimp only
  repeat'
    first
    | with_reducible assumption
    | (exact in_of hm rfl)
    | intro _
    | with_reducible apply fr_closeXfer
    | with_reducible apply fr_putXfer
    | with_reducible apply fr_respond
    | with_reducible apply fr_if
    | with_reducible apply fr_ifn
    | split

theorem fr_execDictReadSegment {mm : Nat} {s0 s : State} (hm : In 373801 mm) (h : Fr mm s0 s) (rq : Req) (m : DictMsg) :
    FrOut mm s0 (execDictReadSegment rq m s) := by
  unfold execDictReadSegment
  try dsimp only
  repeat'
    first
    | with_reducible assumption
    | (exact in_of hm rfl)
    | with_reducible apply frOut_next
    | intro _
    | with_reducible apply fr_onMsg
    | with_reducible apply fr_respond
    | with_reducible apply fr_serveReadSegment
    | with_reducible apply fr_done
    | with_reducible apply fr_if

theorem fr_serveWrite {mm : Nat} {s0 s : State} (hm : In 1048559 mm) (h : Fr mm s0 s) (rq : Req) (m : DictMsg) :
    Fr mm s0 (State.serveWrite s rq m) := by
  unfold State.serveWrite
  try dsimp only
  repeat'
    first
    | with_reducible assumption
    | (exact in_of hm rfl)
    | with_reducible apply frOut_fault
    | intro _
    | (refine fr_rowWrite (by with_reducible assumption) ?_ ?_)
    | with_reducible apply fr_plainWrite
    | with_reducible apply fr_respond
    | with_reducible apply fr_stage
    | with_reducible apply fr_execCommit
    | with_reducible apply fr_execDiscardStaged
    | with_reducible apply fr_execNewPassword
    | with_reducible apply fr_execOwnerLock
    | with_reducible apply fr_execPresentPassword
    | with_reducible apply fr_execResetCold
    | with_reducible apply fr_execResetWarm
    | with_reducible apply fr_execRestoreDefaults
    | with_reducible apply fr_execSave
    | with_reducible apply fr_nextOr
    | (refine fr_of_fst (by with_reducible assumption) ?_)
    | with_reducible apply fr_if
    | with_reducible apply fr_ifn
    | split

theorem fr_execDictWrite {mm : Nat} {s0 s : State} (hm : In 1048559 mm) (h : Fr mm s0 s) (rq : Req) (m : DictMsg) :
    FrOut mm s0 (execDictWrite rq m s) := by
  unfold execDictWrite
  try dsimp only
  repeat'
    first
    | with_reducible assumption
    | (exact in_of hm rfl)
    | with_reducible apply frOut_next
    | intro _
    | with_reducible apply fr_onMsg
    | with_reducible apply fr_respond
    | with_reducible apply fr_serveWrite
    | with_reducible apply fr_done
    | with_reducible apply fr_if

theorem fr_execRegisterWrite {mm : Nat} {s0 s : State} (hm : In 1048559 mm) (h : Fr mm s0 s) (rq : Req) (m : DictMsg) :
    FrOut mm s0 (execRegisterWrite rq m s) := by
  unfold execRegisterWrite
  try dsimp only
  repeat'
    first
    | with_reducible assumption
    | (exact in_of hm rfl)
    | with_reducible apply frOut_next
    | intro _
    | with_reducible apply fr_onMsg
    | with_reducible apply fr_respond
    | with_reducible apply fr_serveWrite
    | with_reducible apply fr_done
    | with_reducible apply fr_if

theorem fr_segmentsWhole {mm : Nat} {s0 s : State} (hm : In 1048559 mm) (h : Fr mm s0 s) (rq : Req) (m : DictMsg) (x : Xfer) (load : Bool × Bool × Nat × Nat × Nat) :
    Fr mm s0 (State.segmentsWhole s rq m x load) := by
  unfold State.segmentsWhole
  try dsimp only
  repeat'
    first
    | with_reducible assumption
    | (exact in_of hm rfl)
    | intro _
    | with_reducible apply fr_imageEnd
    | with_reducible apply fr_modDict
    | with_reducible apply fr_modSbox
    | with_reducible apply fr_respond
    | with_reducible apply fr_serveWrite
    | (refine fr_of_fst (by with_reducible assumption) ?_)
    | with_reducible apply fr_if
    | with_reducible apply fr_ifn
    | split

theorem fr_takeSegment {mm : Nat} {s0 s : State} (hm : In 1048559 mm) (h : Fr mm s0 s) (rq : Req) (m : DictMsg) (x : Xfer) (load : Bool × Bool × Nat × Nat × Nat) :
    Fr mm s0 (State.takeSegment s rq m x load) := by
  unfold State.takeSegment
  try dsimp only
  repeat'
    first
    | with_reducible assumption
    | (exact in_of hm rfl)
    | intro _
    | with_reducible apply fr_closeXfer
    | with_reducible apply fr_modDict
    | with_reducible apply fr_putXfer
    | with_reducible apply fr_respond
    | with_reducible apply fr_segmentsWhole
    | (refine fr_of_fst (by with_reducible assumption) ?_)
    | with_reducible apply fr_if

theorem fr_serveWriteSegment {mm : Nat} {s0 s : State} (hm : In 1048559 mm) (h : Fr mm s0 s) (rq : Req) (m : DictMsg) (load : Bool × Bool × Nat × Nat × Nat) :
    Fr mm s0 (State.serveWriteSegment s rq m load) := by
  unfold State.serveWriteSegment
  try dsimp only
  repeat'
    first
    | with_reducible assumption
    | (exact in_of hm rfl)
    | intro _
    | with_reducible apply fr_closeXfer
    | with_reducible apply fr_imageBegin
    | with_reducible apply fr_respond
    | with_reducible apply fr_takeSegment
    | (refine fr_of_fst (by with_reducible assumption) ?_)
    | with_reducible apply fr_if
    | with_reducible apply fr_ifn
    | split

theorem fr_execDictWriteSegment {mm : Nat} {s0 s : State} (hm : In 1048559 mm) (h : Fr mm s0 s) (rq : Req) (m : DictMsg) :
    FrOut mm s0 (execDictWriteSegment rq m s) := by
  unfold execDictWriteSegment
  try dsimp only
  repeat'
    first
    | with_reducible assumption
    | (exact in_of hm rfl)
    | with_reducible apply frOut_next
    | intro _
    | with_reducible apply fr_onMsg
    | with_reducible apply fr_respond
    | with_reducible apply fr_serveWriteSegment
    | with_reducible apply fr_tick
    | with_reducible apply fr_done
    | with_reducible apply fr_if

theorem fr_execImageLoad {mm : Nat} {s0 s : State} (hm : In 1048559 mm) (h : Fr mm s0 s) (rq : Req) (m : DictMsg) (checksOk : Bool) (programOk : Bool) (version : Nat) (interface : Nat) (size : Nat) :
    FrOut mm s0 (execImageLoad rq m checksOk programOk version interface size s) := by
  unfold execImageLoad
  try dsimp only
  repeat'
    first
    | with_reducible assumption
    | (exact in_of hm rfl)
    | with_reducible apply frOut_next
    | intro _
    | with_reducible apply fr_onMsg
    | with_reducible apply fr_respond
    | with_reducible apply fr_serveWriteSegment
    | with_reducible apply fr_done
    | with_reducible apply fr_if

theorem fr_execDictAbortTransfer {mm : Nat} {s0 s : State} (hm : In 373801 mm) (h : Fr mm s0 s) (rq : Req) (m : DictMsg) :
    FrOut mm s0 (execDictAbortTransfer rq m s) := by
  unfold execDictAbortTransfer
  try dsimp only
  repeat'
    first
    | with_reducible assumption
    | (exact in_of hm rfl)
    | with_reducible apply frOut_next
    | intro _
    | with_reducible apply fr_closeXfer
    | with_reducible apply fr_onMsg
    | with_reducible apply fr_respond
    | with_reducible apply fr_done
    | with_reducible apply fr_if

theorem fr_execTransferIdleTimeout {mm : Nat} {s0 s : State} (hm : In 327688 mm) (h : Fr mm s0 s) (rq : Req) (tag : Nat) :
    FrOut mm s0 (execTransferIdleTimeout rq tag s) := by
  unfold execTransferIdleTimeout
  try dsimp only
  repeat'
    first
    | with_reducible assumption
    | (exact in_of hm rfl)
    | with_reducible apply frOut_next
    | intro _
    | with_reducible apply fr_closeXfer
    | with_reducible apply fr_done
    | with_reducible apply fr_if

theorem fr_execDictDescribe {mm : Nat} {s0 s : State} (hm : In 308265 mm) (h : Fr mm s0 s) (rq : Req) (m : DictMsg) :
    FrOut mm s0 (execDictDescribe rq m s) := by
  unfold execDictDescribe
  try dsimp only
  repeat'
    first
    | with_reducible assumption
    | (exact in_of hm rfl)
    | with_reducible apply frOut_next
    | intro _
    | with_reducible apply fr_onMsg
    | with_reducible apply fr_respond
    | with_reducible apply fr_done
    | with_reducible apply fr_if
    | with_reducible apply fr_ifn
    | split

theorem fr_execDictEnumerate {mm : Nat} {s0 s : State} (hm : In 308265 mm) (h : Fr mm s0 s) (rq : Req) (m : DictMsg) :
    FrOut mm s0 (execDictEnumerate rq m s) := by
  unfold execDictEnumerate
  try dsimp only
  repeat'
    first
    | with_reducible assumption
    | (exact in_of hm rfl)
    | with_reducible apply frOut_next
    | intro _
    | with_reducible apply fr_onMsg
    | with_reducible apply fr_respond
    | with_reducible apply fr_done
    | with_reducible apply fr_if
    | with_reducible apply fr_ifn
    | split

theorem fr_onMctp {mm : Nat} {s0 s : State} (h : Fr mm s0 s) (p : Path) (f : State → State) (hf : ∀ (s : State), Fr mm s0 s → Fr mm s0 (f s)) :
    Fr mm s0 (State.onMctp s p f) := by
  unfold State.onMctp
  try dsimp only
  repeat'
    first
    | with_reducible assumption
    | intro _
    | with_reducible apply hf
    | with_reducible apply fr_if

theorem fr_execSetEndpointId {mm : Nat} {s0 s : State} (hm : In 9 mm) (h : Fr mm s0 s) (p : Path) (eid : Nat) :
    FrOut mm s0 (execSetEndpointId p eid s) := by
  unfold execSetEndpointId
  try dsimp only
  repeat'
    first
    | with_reducible assumption
    | (exact in_of hm rfl)
    | with_reducible apply frOut_next
    | intro _
    | with_reducible apply fr_emit
    | with_reducible apply fr_modDict
    | with_reducible apply fr_onMctp
    | with_reducible apply fr_done
    | with_reducible apply fr_if

theorem fr_execGetEndpointId {mm : Nat} {s0 s : State} (hm : In 1 mm) (h : Fr mm s0 s) (p : Path) :
    FrOut mm s0 (execGetEndpointId p s) := by
  unfold execGetEndpointId
  try dsimp only
  repeat'
    first
    | with_reducible assumption
    | (exact in_of hm rfl)
    | with_reducible apply frOut_next
    | intro _
    | with_reducible apply fr_emit
    | with_reducible apply fr_onMctp

theorem fr_execGetEndpointUuid {mm : Nat} {s0 s : State} (hm : In 1 mm) (h : Fr mm s0 s) (p : Path) :
    FrOut mm s0 (execGetEndpointUuid p s) := by
  unfold execGetEndpointUuid
  try dsimp only
  repeat'
    first
    | with_reducible assumption
    | (exact in_of hm rfl)
    | with_reducible apply frOut_next
    | intro _
    | with_reducible apply fr_emit
    | with_reducible apply fr_onMctp

theorem fr_execGetMctpVersionSupport {mm : Nat} {s0 s : State} (hm : In 1 mm) (h : Fr mm s0 s) (p : Path) :
    FrOut mm s0 (execGetMctpVersionSupport p s) := by
  unfold execGetMctpVersionSupport
  try dsimp only
  repeat'
    first
    | with_reducible assumption
    | (exact in_of hm rfl)
    | with_reducible apply frOut_next
    | intro _
    | with_reducible apply fr_emit
    | with_reducible apply fr_onMctp

theorem fr_execGetMessageTypeSupport {mm : Nat} {s0 s : State} (hm : In 1 mm) (h : Fr mm s0 s) (p : Path) :
    FrOut mm s0 (execGetMessageTypeSupport p s) := by
  unfold execGetMessageTypeSupport
  try dsimp only
  repeat'
    first
    | with_reducible assumption
    | (exact in_of hm rfl)
    | with_reducible apply frOut_next
    | intro _
    | with_reducible apply fr_emit
    | with_reducible apply fr_onMctp

theorem fr_execGetVendorDefinedMessageSupport {mm : Nat} {s0 s : State} (hm : In 1 mm) (h : Fr mm s0 s) (p : Path) :
    FrOut mm s0 (execGetVendorDefinedMessageSupport p s) := by
  unfold execGetVendorDefinedMessageSupport
  try dsimp only
  repeat'
    first
    | with_reducible assumption
    | (exact in_of hm rfl)
    | with_reducible apply frOut_next
    | intro _
    | with_reducible apply fr_emit
    | with_reducible apply fr_onMctp

theorem fr_serveMsg {mm : Nat} {s0 s : State} (hm : In 1048559 mm) (h : Fr mm s0 s) (rq : Req) (m : DictMsg) :
    Fr mm s0 (State.serveMsg s rq m) := by
  unfold State.serveMsg
  try dsimp only
  repeat'
    first
    | with_reducible assumption
    | (exact in_of hm rfl)
    | intro _
    | with_reducible apply fr_onMsg
    | with_reducible apply fr_respond
    | with_reducible apply fr_execDictAbortTransfer
    | with_reducible apply fr_execDictDescribe
    | with_reducible apply fr_execDictEnumerate
    | with_reducible apply fr_execDictRead
    | with_reducible apply fr_execDictReadSegment
    | with_reducible apply fr_execDictWrite
    | with_reducible apply fr_execDictWriteSegment
    | with_reducible apply fr_nextOr
    | split

theorem fr_execForwardRequest {mm : Nat} {s0 s : State} (hm : In 1048559 mm) (h : Fr mm s0 s) (rq : Req) (m : DictMsg) :
    FrOut mm s0 (execForwardRequest rq m s) := by
  unfold execForwardRequest
  try dsimp only
  repeat'
    first
    | with_reducible assumption
    | (exact in_of hm rfl)
    | with_reducible apply frOut_next
    | intro _
    | with_reducible apply fr_serveMsg

theorem fr_execForwardResponse {mm : Nat} {s0 s : State} (hm : In 325611 mm) (h : Fr mm s0 s) (h : Hdr) (pre : FwdPrefix) (r : DictResp) :
    FrOut mm s0 (execForwardResponse h pre r s) := by
  unfold execForwardResponse
  try dsimp only
  repeat'
    first
    | with_reducible assumption
    | (exact in_of hm rfl)
    | with_reducible apply frOut_next
    | intro _
    | with_reducible apply fr_modDict
    | with_reducible apply fr_onFrame
    | with_reducible apply fr_respond
    | with_reducible apply fr_done
    | split

theorem fr_execForwardTimeout {mm : Nat} {s0 s : State} (hm : In 308265 mm) (h : Fr mm s0 s) (slot : Nat) (tag : Nat) :
    FrOut mm s0 (execForwardTimeout slot tag s) := by
  unfold execForwardTimeout
  try dsimp only
  repeat'
    first
    | with_reducible assumption
    | (exact in_of hm rfl)
    | with_reducible apply frOut_next
    | intro _
    | with_reducible apply fr_modDict
    | with_reducible apply fr_respond
    | with_reducible apply fr_done
    | split

theorem fr_takeTold {mm : Nat} {s0 s : State} (hm : In 325607 mm) (h : Fr mm s0 s) (m : DictMsg) :
    Fr mm s0 (State.takeTold s m) := by
  unfold State.takeTold
  try dsimp only
  repeat'
    first
    | with_reducible assumption
    | (exact in_of hm rfl)
    | intro _
    | with_reducible apply fr_modDram
    | with_reducible apply fr_pumpRetire
    | with_reducible apply fr_putVaultValue
    | with_reducible apply fr_if
    | with_reducible apply fr_ifn
    | split

theorem fr_execMgmtFrame {mm : Nat} {s0 s : State} (hm : In 1048559 mm) (h : Fr mm s0 s) (h : Hdr) (pre : FwdPrefix) (m : DictMsg) :
    FrOut mm s0 (execMgmtFrame h pre m s) := by
  unfold execMgmtFrame
  try dsimp only
  repeat'
    first
    | with_reducible assumption
    | (exact in_of hm rfl)
    | with_reducible apply frOut_next
    | with_reducible apply fr_id
    | intro _
    | with_reducible apply fr_discardMsg
    | with_reducible apply fr_modDict
    | with_reducible apply fr_onFrame
    | with_reducible apply fr_onMsg
    | with_reducible apply fr_respond
    | with_reducible apply fr_serveMsg
    | with_reducible apply fr_takeTold
    | with_reducible apply fr_done
    | with_reducible apply fr_if

theorem fr_execDictionaryMessage {mm : Nat} {s0 s : State} (hm : In 1048559 mm) (h : Fr mm s0 s) (p : Nat) (ld : Nat) (m : DictMsg) :
    FrOut mm s0 (execDictionaryMessage p ld m s) := by
  unfold execDictionaryMessage
  try dsimp only
  repeat'
    first
    | with_reducible assumption
    | (exact in_of hm rfl)
    | with_reducible apply frOut_next
    | intro _
    | with_reducible apply fr_discardMsg
    | with_reducible apply fr_mbox
    | with_reducible apply fr_serveMsg
    | with_reducible apply fr_done
    | with_reducible apply fr_if

end Sys2Proof.Laws
end

