-- ==== Sys2Proof/Laws/State.lean ====
section
/-! SUPPORT. One lemma per updater and field of the state, so that no proof unfolds a record update. -/

set_option Elab.async false

namespace Sys2Proof.Machine

/-! #### `modOut` -/

@[simp] theorem State.modOut_pending (s : State) (f : List Output → List Output) : (s.modOut f).pending = s.pending := rfl
@[simp] theorem State.modOut_now (s : State) (f : List Output → List Output) : (s.modOut f).now = s.now := rfl
@[simp] theorem State.modOut_fresh (s : State) (f : List Output → List Output) : (s.modOut f).fresh = s.fresh := rfl
@[simp] theorem State.modOut_out (s : State) (f : List Output → List Output) : (s.modOut f).out = f s.out := rfl
@[simp] theorem State.modOut_mem (s : State) (f : List Output → List Output) : (s.modOut f).mem = s.mem := rfl
@[simp] theorem State.modOut_settings (s : State) (f : List Output → List Output) : (s.modOut f).settings = s.settings := rfl
@[simp] theorem State.modOut_dict (s : State) (f : List Output → List Output) : (s.modOut f).dict = s.dict := rfl
@[simp] theorem State.modOut_pace (s : State) (f : List Output → List Output) : (s.modOut f).pace = s.pace := rfl
@[simp] theorem State.modOut_host (s : State) (f : List Output → List Output) : (s.modOut f).host = s.host := rfl
@[simp] theorem State.modOut_rings (s : State) (f : List Output → List Output) : (s.modOut f).rings = s.rings := rfl
@[simp] theorem State.modOut_place (s : State) (f : List Output → List Output) : (s.modOut f).place = s.place := rfl
@[simp] theorem State.modOut_persist (s : State) (f : List Output → List Output) : (s.modOut f).persist = s.persist := rfl
@[simp] theorem State.modOut_twin (s : State) (f : List Output → List Output) : (s.modOut f).twin = s.twin := rfl
@[simp] theorem State.modOut_hinge (s : State) (f : List Output → List Output) : (s.modOut f).hinge = s.hinge := rfl
@[simp] theorem State.modOut_pool (s : State) (f : List Output → List Output) : (s.modOut f).pool = s.pool := rfl
@[simp] theorem State.modOut_lattice (s : State) (f : List Output → List Output) : (s.modOut f).lattice = s.lattice := rfl
@[simp] theorem State.modOut_dram (s : State) (f : List Output → List Output) : (s.modOut f).dram = s.dram := rfl
@[simp] theorem State.modOut_ecc (s : State) (f : List Output → List Output) : (s.modOut f).ecc = s.ecc := rfl
@[simp] theorem State.modOut_cipher (s : State) (f : List Output → List Output) : (s.modOut f).cipher = s.cipher := rfl
@[simp] theorem State.modOut_steward (s : State) (f : List Output → List Output) : (s.modOut f).steward = s.steward := rfl
@[simp] theorem State.modOut_sbox (s : State) (f : List Output → List Output) : (s.modOut f).sbox = s.sbox := rfl
@[simp] theorem State.modOut_rec_ (s : State) (f : List Output → List Output) : (s.modOut f).rec_ = s.rec_ := rfl
@[simp] theorem State.modOut_power (s : State) (f : List Output → List Output) : (s.modOut f).power = s.power := rfl
/-- Two changes of one part are one. -/
theorem State.modOut_modOut (s : State) (f g : List Output → List Output) : (s.modOut f).modOut g = s.modOut (fun x => g (f x)) := rfl

/-! #### `modMem` -/

@[simp] theorem State.modMem_pending (s : State) (f : List Host.Cell → List Host.Cell) : (s.modMem f).pending = s.pending := rfl
@[simp] theorem State.modMem_now (s : State) (f : List Host.Cell → List Host.Cell) : (s.modMem f).now = s.now := rfl
@[simp] theorem State.modMem_fresh (s : State) (f : List Host.Cell → List Host.Cell) : (s.modMem f).fresh = s.fresh := rfl
@[simp] theorem State.modMem_out (s : State) (f : List Host.Cell → List Host.Cell) : (s.modMem f).out = s.out := rfl
@[simp] theorem State.modMem_mem (s : State) (f : List Host.Cell → List Host.Cell) : (s.modMem f).mem = f s.mem := rfl
@[simp] theorem State.modMem_settings (s : State) (f : List Host.Cell → List Host.Cell) : (s.modMem f).settings = s.settings := rfl
@[simp] theorem State.modMem_dict (s : State) (f : List Host.Cell → List Host.Cell) : (s.modMem f).dict = s.dict := rfl
@[simp] theorem State.modMem_pace (s : State) (f : List Host.Cell → List Host.Cell) : (s.modMem f).pace = s.pace := rfl
@[simp] theorem State.modMem_host (s : State) (f : List Host.Cell → List Host.Cell) : (s.modMem f).host = s.host := rfl
@[simp] theorem State.modMem_rings (s : State) (f : List Host.Cell → List Host.Cell) : (s.modMem f).rings = s.rings := rfl
@[simp] theorem State.modMem_place (s : State) (f : List Host.Cell → List Host.Cell) : (s.modMem f).place = s.place := rfl
@[simp] theorem State.modMem_persist (s : State) (f : List Host.Cell → List Host.Cell) : (s.modMem f).persist = s.persist := rfl
@[simp] theorem State.modMem_twin (s : State) (f : List Host.Cell → List Host.Cell) : (s.modMem f).twin = s.twin := rfl
@[simp] theorem State.modMem_hinge (s : State) (f : List Host.Cell → List Host.Cell) : (s.modMem f).hinge = s.hinge := rfl
@[simp] theorem State.modMem_pool (s : State) (f : List Host.Cell → List Host.Cell) : (s.modMem f).pool = s.pool := rfl
@[simp] theorem State.modMem_lattice (s : State) (f : List Host.Cell → List Host.Cell) : (s.modMem f).lattice = s.lattice := rfl
@[simp] theorem State.modMem_dram (s : State) (f : List Host.Cell → List Host.Cell) : (s.modMem f).dram = s.dram := rfl
@[simp] theorem State.modMem_ecc (s : State) (f : List Host.Cell → List Host.Cell) : (s.modMem f).ecc = s.ecc := rfl
@[simp] theorem State.modMem_cipher (s : State) (f : List Host.Cell → List Host.Cell) : (s.modMem f).cipher = s.cipher := rfl
@[simp] theorem State.modMem_steward (s : State) (f : List Host.Cell → List Host.Cell) : (s.modMem f).steward = s.steward := rfl
@[simp] theorem State.modMem_sbox (s : State) (f : List Host.Cell → List Host.Cell) : (s.modMem f).sbox = s.sbox := rfl
@[simp] theorem State.modMem_rec_ (s : State) (f : List Host.Cell → List Host.Cell) : (s.modMem f).rec_ = s.rec_ := rfl
@[simp] theorem State.modMem_power (s : State) (f : List Host.Cell → List Host.Cell) : (s.modMem f).power = s.power := rfl
/-- Two changes of one part are one. -/
theorem State.modMem_modMem (s : State) (f g : List Host.Cell → List Host.Cell) : (s.modMem f).modMem g = s.modMem (fun x => g (f x)) := rfl

/-! #### `modSettings` -/

@[simp] theorem State.modSettings_pending (s : State) (f : List (Nat × Nat) → List (Nat × Nat)) : (s.modSettings f).pending = s.pending := rfl
@[simp] theorem State.modSettings_now (s : State) (f : List (Nat × Nat) → List (Nat × Nat)) : (s.modSettings f).now = s.now := rfl
@[simp] theorem State.modSettings_fresh (s : State) (f : List (Nat × Nat) → List (Nat × Nat)) : (s.modSettings f).fresh = s.fresh := rfl
@[simp] theorem State.modSettings_out (s : State) (f : List (Nat × Nat) → List (Nat × Nat)) : (s.modSettings f).out = s.out := rfl
@[simp] theorem State.modSettings_mem (s : State) (f : List (Nat × Nat) → List (Nat × Nat)) : (s.modSettings f).mem = s.mem := rfl
@[simp] theorem State.modSettings_settings (s : State) (f : List (Nat × Nat) → List (Nat × Nat)) : (s.modSettings f).settings = f s.settings := rfl
@[simp] theorem State.modSettings_dict (s : State) (f : List (Nat × Nat) → List (Nat × Nat)) : (s.modSettings f).dict = s.dict := rfl
@[simp] theorem State.modSettings_pace (s : State) (f : List (Nat × Nat) → List (Nat × Nat)) : (s.modSettings f).pace = s.pace := rfl
@[simp] theorem State.modSettings_host (s : State) (f : List (Nat × Nat) → List (Nat × Nat)) : (s.modSettings f).host = s.host := rfl
@[simp] theorem State.modSettings_rings (s : State) (f : List (Nat × Nat) → List (Nat × Nat)) : (s.modSettings f).rings = s.rings := rfl
@[simp] theorem State.modSettings_place (s : State) (f : List (Nat × Nat) → List (Nat × Nat)) : (s.modSettings f).place = s.place := rfl
@[simp] theorem State.modSettings_persist (s : State) (f : List (Nat × Nat) → List (Nat × Nat)) : (s.modSettings f).persist = s.persist := rfl
@[simp] theorem State.modSettings_twin (s : State) (f : List (Nat × Nat) → List (Nat × Nat)) : (s.modSettings f).twin = s.twin := rfl
@[simp] theorem State.modSettings_hinge (s : State) (f : List (Nat × Nat) → List (Nat × Nat)) : (s.modSettings f).hinge = s.hinge := rfl
@[simp] theorem State.modSettings_pool (s : State) (f : List (Nat × Nat) → List (Nat × Nat)) : (s.modSettings f).pool = s.pool := rfl
@[simp] theorem State.modSettings_lattice (s : State) (f : List (Nat × Nat) → List (Nat × Nat)) : (s.modSettings f).lattice = s.lattice := rfl
@[simp] theorem State.modSettings_dram (s : State) (f : List (Nat × Nat) → List (Nat × Nat)) : (s.modSettings f).dram = s.dram := rfl
@[simp] theorem State.modSettings_ecc (s : State) (f : List (Nat × Nat) → List (Nat × Nat)) : (s.modSettings f).ecc = s.ecc := rfl
@[simp] theorem State.modSettings_cipher (s : State) (f : List (Nat × Nat) → List (Nat × Nat)) : (s.modSettings f).cipher = s.cipher := rfl
@[simp] theorem State.modSettings_steward (s : State) (f : List (Nat × Nat) → List (Nat × Nat)) : (s.modSettings f).steward = s.steward := rfl
@[simp] theorem State.modSettings_sbox (s : State) (f : List (Nat × Nat) → List (Nat × Nat)) : (s.modSettings f).sbox = s.sbox := rfl
@[simp] theorem State.modSettings_rec_ (s : State) (f : List (Nat × Nat) → List (Nat × Nat)) : (s.modSettings f).rec_ = s.rec_ := rfl
@[simp] theorem State.modSettings_power (s : State) (f : List (Nat × Nat) → List (Nat × Nat)) : (s.modSettings f).power = s.power := rfl
/-- Two changes of one part are one. -/
theorem State.modSettings_modSettings (s : State) (f g : List (Nat × Nat) → List (Nat × Nat)) : (s.modSettings f).modSettings g = s.modSettings (fun x => g (f x)) := rfl

/-! #### `modDict` -/

@[simp] theorem State.modDict_pending (s : State) (f : Dict → Dict) : (s.modDict f).pending = s.pending := rfl
@[simp] theorem State.modDict_now (s : State) (f : Dict → Dict) : (s.modDict f).now = s.now := rfl
@[simp] theorem State.modDict_fresh (s : State) (f : Dict → Dict) : (s.modDict f).fresh = s.fresh := rfl
@[simp] theorem State.modDict_out (s : State) (f : Dict → Dict) : (s.modDict f).out = s.out := rfl
@[simp] theorem State.modDict_mem (s : State) (f : Dict → Dict) : (s.modDict f).mem = s.mem := rfl
@[simp] theorem State.modDict_settings (s : State) (f : Dict → Dict) : (s.modDict f).settings = s.settings := rfl
@[simp] theorem State.modDict_dict (s : State) (f : Dict → Dict) : (s.modDict f).dict = f s.dict := rfl
@[simp] theorem State.modDict_pace (s : State) (f : Dict → Dict) : (s.modDict f).pace = s.pace := rfl
@[simp] theorem State.modDict_host (s : State) (f : Dict → Dict) : (s.modDict f).host = s.host := rfl
@[simp] theorem State.modDict_rings (s : State) (f : Dict → Dict) : (s.modDict f).rings = s.rings := rfl
@[simp] theorem State.modDict_place (s : State) (f : Dict → Dict) : (s.modDict f).place = s.place := rfl
@[simp] theorem State.modDict_persist (s : State) (f : Dict → Dict) : (s.modDict f).persist = s.persist := rfl
@[simp] theorem State.modDict_twin (s : State) (f : Dict → Dict) : (s.modDict f).twin = s.twin := rfl
@[simp] theorem State.modDict_hinge (s : State) (f : Dict → Dict) : (s.modDict f).hinge = s.hinge := rfl
@[simp] theorem State.modDict_pool (s : State) (f : Dict → Dict) : (s.modDict f).pool = s.pool := rfl
@[simp] theorem State.modDict_lattice (s : State) (f : Dict → Dict) : (s.modDict f).lattice = s.lattice := rfl
@[simp] theorem State.modDict_dram (s : State) (f : Dict → Dict) : (s.modDict f).dram = s.dram := rfl
@[simp] theorem State.modDict_ecc (s : State) (f : Dict → Dict) : (s.modDict f).ecc = s.ecc := rfl
@[simp] theorem State.modDict_cipher (s : State) (f : Dict → Dict) : (s.modDict f).cipher = s.cipher := rfl
@[simp] theorem State.modDict_steward (s : State) (f : Dict → Dict) : (s.modDict f).steward = s.steward := rfl
@[simp] theorem State.modDict_sbox (s : State) (f : Dict → Dict) : (s.modDict f).sbox = s.sbox := rfl
@[simp] theorem State.modDict_rec_ (s : State) (f : Dict → Dict) : (s.modDict f).rec_ = s.rec_ := rfl
@[simp] theorem State.modDict_power (s : State) (f : Dict → Dict) : (s.modDict f).power = s.power := rfl
/-- Two changes of one part are one. -/
theorem State.modDict_modDict (s : State) (f g : Dict → Dict) : (s.modDict f).modDict g = s.modDict (fun x => g (f x)) := rfl

/-! #### `modPace` -/

@[simp] theorem State.modPace_pending (s : State) (f : Pace → Pace) : (s.modPace f).pending = s.pending := rfl
@[simp] theorem State.modPace_now (s : State) (f : Pace → Pace) : (s.modPace f).now = s.now := rfl
@[simp] theorem State.modPace_fresh (s : State) (f : Pace → Pace) : (s.modPace f).fresh = s.fresh := rfl
@[simp] theorem State.modPace_out (s : State) (f : Pace → Pace) : (s.modPace f).out = s.out := rfl
@[simp] theorem State.modPace_mem (s : State) (f : Pace → Pace) : (s.modPace f).mem = s.mem := rfl
@[simp] theorem State.modPace_settings (s : State) (f : Pace → Pace) : (s.modPace f).settings = s.settings := rfl
@[simp] theorem State.modPace_dict (s : State) (f : Pace → Pace) : (s.modPace f).dict = s.dict := rfl
@[simp] theorem State.modPace_pace (s : State) (f : Pace → Pace) : (s.modPace f).pace = f s.pace := rfl
@[simp] theorem State.modPace_host (s : State) (f : Pace → Pace) : (s.modPace f).host = s.host := rfl
@[simp] theorem State.modPace_rings (s : State) (f : Pace → Pace) : (s.modPace f).rings = s.rings := rfl
@[simp] theorem State.modPace_place (s : State) (f : Pace → Pace) : (s.modPace f).place = s.place := rfl
@[simp] theorem State.modPace_persist (s : State) (f : Pace → Pace) : (s.modPace f).persist = s.persist := rfl
@[simp] theorem State.modPace_twin (s : State) (f : Pace → Pace) : (s.modPace f).twin = s.twin := rfl
@[simp] theorem State.modPace_hinge (s : State) (f : Pace → Pace) : (s.modPace f).hinge = s.hinge := rfl
@[simp] theorem State.modPace_pool (s : State) (f : Pace → Pace) : (s.modPace f).pool = s.pool := rfl
@[simp] theorem State.modPace_lattice (s : State) (f : Pace → Pace) : (s.modPace f).lattice = s.lattice := rfl
@[simp] theorem State.modPace_dram (s : State) (f : Pace → Pace) : (s.modPace f).dram = s.dram := rfl
@[simp] theorem State.modPace_ecc (s : State) (f : Pace → Pace) : (s.modPace f).ecc = s.ecc := rfl
@[simp] theorem State.modPace_cipher (s : State) (f : Pace → Pace) : (s.modPace f).cipher = s.cipher := rfl
@[simp] theorem State.modPace_steward (s : State) (f : Pace → Pace) : (s.modPace f).steward = s.steward := rfl
@[simp] theorem State.modPace_sbox (s : State) (f : Pace → Pace) : (s.modPace f).sbox = s.sbox := rfl
@[simp] theorem State.modPace_rec_ (s : State) (f : Pace → Pace) : (s.modPace f).rec_ = s.rec_ := rfl
@[simp] theorem State.modPace_power (s : State) (f : Pace → Pace) : (s.modPace f).power = s.power := rfl
/-- Two changes of one part are one. -/
theorem State.modPace_modPace (s : State) (f g : Pace → Pace) : (s.modPace f).modPace g = s.modPace (fun x => g (f x)) := rfl

/-! #### `modHost` -/

@[simp] theorem State.modHost_pending (s : State) (f : HostSt → HostSt) : (s.modHost f).pending = s.pending := rfl
@[simp] theorem State.modHost_now (s : State) (f : HostSt → HostSt) : (s.modHost f).now = s.now := rfl
@[simp] theorem State.modHost_fresh (s : State) (f : HostSt → HostSt) : (s.modHost f).fresh = s.fresh := rfl
@[simp] theorem State.modHost_out (s : State) (f : HostSt → HostSt) : (s.modHost f).out = s.out := rfl
@[simp] theorem State.modHost_mem (s : State) (f : HostSt → HostSt) : (s.modHost f).mem = s.mem := rfl
@[simp] theorem State.modHost_settings (s : State) (f : HostSt → HostSt) : (s.modHost f).settings = s.settings := rfl
@[simp] theorem State.modHost_dict (s : State) (f : HostSt → HostSt) : (s.modHost f).dict = s.dict := rfl
@[simp] theorem State.modHost_pace (s : State) (f : HostSt → HostSt) : (s.modHost f).pace = s.pace := rfl
@[simp] theorem State.modHost_host (s : State) (f : HostSt → HostSt) : (s.modHost f).host = f s.host := rfl
@[simp] theorem State.modHost_rings (s : State) (f : HostSt → HostSt) : (s.modHost f).rings = s.rings := rfl
@[simp] theorem State.modHost_place (s : State) (f : HostSt → HostSt) : (s.modHost f).place = s.place := rfl
@[simp] theorem State.modHost_persist (s : State) (f : HostSt → HostSt) : (s.modHost f).persist = s.persist := rfl
@[simp] theorem State.modHost_twin (s : State) (f : HostSt → HostSt) : (s.modHost f).twin = s.twin := rfl
@[simp] theorem State.modHost_hinge (s : State) (f : HostSt → HostSt) : (s.modHost f).hinge = s.hinge := rfl
@[simp] theorem State.modHost_pool (s : State) (f : HostSt → HostSt) : (s.modHost f).pool = s.pool := rfl
@[simp] theorem State.modHost_lattice (s : State) (f : HostSt → HostSt) : (s.modHost f).lattice = s.lattice := rfl
@[simp] theorem State.modHost_dram (s : State) (f : HostSt → HostSt) : (s.modHost f).dram = s.dram := rfl
@[simp] theorem State.modHost_ecc (s : State) (f : HostSt → HostSt) : (s.modHost f).ecc = s.ecc := rfl
@[simp] theorem State.modHost_cipher (s : State) (f : HostSt → HostSt) : (s.modHost f).cipher = s.cipher := rfl
@[simp] theorem State.modHost_steward (s : State) (f : HostSt → HostSt) : (s.modHost f).steward = s.steward := rfl
@[simp] theorem State.modHost_sbox (s : State) (f : HostSt → HostSt) : (s.modHost f).sbox = s.sbox := rfl
@[simp] theorem State.modHost_rec_ (s : State) (f : HostSt → HostSt) : (s.modHost f).rec_ = s.rec_ := rfl
@[simp] theorem State.modHost_power (s : State) (f : HostSt → HostSt) : (s.modHost f).power = s.power := rfl
/-- Two changes of one part are one. -/
theorem State.modHost_modHost (s : State) (f g : HostSt → HostSt) : (s.modHost f).modHost g = s.modHost (fun x => g (f x)) := rfl

/-! #### `modRings` -/

@[simp] theorem State.modRings_pending (s : State) (f : Rings → Rings) : (s.modRings f).pending = s.pending := rfl
@[simp] theorem State.modRings_now (s : State) (f : Rings → Rings) : (s.modRings f).now = s.now := rfl
@[simp] theorem State.modRings_fresh (s : State) (f : Rings → Rings) : (s.modRings f).fresh = s.fresh := rfl
@[simp] theorem State.modRings_out (s : State) (f : Rings → Rings) : (s.modRings f).out = s.out := rfl
@[simp] theorem State.modRings_mem (s : State) (f : Rings → Rings) : (s.modRings f).mem = s.mem := rfl
@[simp] theorem State.modRings_settings (s : State) (f : Rings → Rings) : (s.modRings f).settings = s.settings := rfl
@[simp] theorem State.modRings_dict (s : State) (f : Rings → Rings) : (s.modRings f).dict = s.dict := rfl
@[simp] theorem State.modRings_pace (s : State) (f : Rings → Rings) : (s.modRings f).pace = s.pace := rfl
@[simp] theorem State.modRings_host (s : State) (f : Rings → Rings) : (s.modRings f).host = s.host := rfl
@[simp] theorem State.modRings_rings (s : State) (f : Rings → Rings) : (s.modRings f).rings = f s.rings := rfl
@[simp] theorem State.modRings_place (s : State) (f : Rings → Rings) : (s.modRings f).place = s.place := rfl
@[simp] theorem State.modRings_persist (s : State) (f : Rings → Rings) : (s.modRings f).persist = s.persist := rfl
@[simp] theorem State.modRings_twin (s : State) (f : Rings → Rings) : (s.modRings f).twin = s.twin := rfl
@[simp] theorem State.modRings_hinge (s : State) (f : Rings → Rings) : (s.modRings f).hinge = s.hinge := rfl
@[simp] theorem State.modRings_pool (s : State) (f : Rings → Rings) : (s.modRings f).pool = s.pool := rfl
@[simp] theorem State.modRings_lattice (s : State) (f : Rings → Rings) : (s.modRings f).lattice = s.lattice := rfl
@[simp] theorem State.modRings_dram (s : State) (f : Rings → Rings) : (s.modRings f).dram = s.dram := rfl
@[simp] theorem State.modRings_ecc (s : State) (f : Rings → Rings) : (s.modRings f).ecc = s.ecc := rfl
@[simp] theorem State.modRings_cipher (s : State) (f : Rings → Rings) : (s.modRings f).cipher = s.cipher := rfl
@[simp] theorem State.modRings_steward (s : State) (f : Rings → Rings) : (s.modRings f).steward = s.steward := rfl
@[simp] theorem State.modRings_sbox (s : State) (f : Rings → Rings) : (s.modRings f).sbox = s.sbox := rfl
@[simp] theorem State.modRings_rec_ (s : State) (f : Rings → Rings) : (s.modRings f).rec_ = s.rec_ := rfl
@[simp] theorem State.modRings_power (s : State) (f : Rings → Rings) : (s.modRings f).power = s.power := rfl
/-- Two changes of one part are one. -/
theorem State.modRings_modRings (s : State) (f g : Rings → Rings) : (s.modRings f).modRings g = s.modRings (fun x => g (f x)) := rfl

/-! #### `modPlace` -/

@[simp] theorem State.modPlace_pending (s : State) (f : Place → Place) : (s.modPlace f).pending = s.pending := rfl
@[simp] theorem State.modPlace_now (s : State) (f : Place → Place) : (s.modPlace f).now = s.now := rfl
@[simp] theorem State.modPlace_fresh (s : State) (f : Place → Place) : (s.modPlace f).fresh = s.fresh := rfl
@[simp] theorem State.modPlace_out (s : State) (f : Place → Place) : (s.modPlace f).out = s.out := rfl
@[simp] theorem State.modPlace_mem (s : State) (f : Place → Place) : (s.modPlace f).mem = s.mem := rfl
@[simp] theorem State.modPlace_settings (s : State) (f : Place → Place) : (s.modPlace f).settings = s.settings := rfl
@[simp] theorem State.modPlace_dict (s : State) (f : Place → Place) : (s.modPlace f).dict = s.dict := rfl
@[simp] theorem State.modPlace_pace (s : State) (f : Place → Place) : (s.modPlace f).pace = s.pace := rfl
@[simp] theorem State.modPlace_host (s : State) (f : Place → Place) : (s.modPlace f).host = s.host := rfl
@[simp] theorem State.modPlace_rings (s : State) (f : Place → Place) : (s.modPlace f).rings = s.rings := rfl
@[simp] theorem State.modPlace_place (s : State) (f : Place → Place) : (s.modPlace f).place = f s.place := rfl
@[simp] theorem State.modPlace_persist (s : State) (f : Place → Place) : (s.modPlace f).persist = s.persist := rfl
@[simp] theorem State.modPlace_twin (s : State) (f : Place → Place) : (s.modPlace f).twin = s.twin := rfl
@[simp] theorem State.modPlace_hinge (s : State) (f : Place → Place) : (s.modPlace f).hinge = s.hinge := rfl
@[simp] theorem State.modPlace_pool (s : State) (f : Place → Place) : (s.modPlace f).pool = s.pool := rfl
@[simp] theorem State.modPlace_lattice (s : State) (f : Place → Place) : (s.modPlace f).lattice = s.lattice := rfl
@[simp] theorem State.modPlace_dram (s : State) (f : Place → Place) : (s.modPlace f).dram = s.dram := rfl
@[simp] theorem State.modPlace_ecc (s : State) (f : Place → Place) : (s.modPlace f).ecc = s.ecc := rfl
@[simp] theorem State.modPlace_cipher (s : State) (f : Place → Place) : (s.modPlace f).cipher = s.cipher := rfl
@[simp] theorem State.modPlace_steward (s : State) (f : Place → Place) : (s.modPlace f).steward = s.steward := rfl
@[simp] theorem State.modPlace_sbox (s : State) (f : Place → Place) : (s.modPlace f).sbox = s.sbox := rfl
@[simp] theorem State.modPlace_rec_ (s : State) (f : Place → Place) : (s.modPlace f).rec_ = s.rec_ := rfl
@[simp] theorem State.modPlace_power (s : State) (f : Place → Place) : (s.modPlace f).power = s.power := rfl
/-- Two changes of one part are one. -/
theorem State.modPlace_modPlace (s : State) (f g : Place → Place) : (s.modPlace f).modPlace g = s.modPlace (fun x => g (f x)) := rfl

/-! #### `modPersist` -/

@[simp] theorem State.modPersist_pending (s : State) (f : Persist → Persist) : (s.modPersist f).pending = s.pending := rfl
@[simp] theorem State.modPersist_now (s : State) (f : Persist → Persist) : (s.modPersist f).now = s.now := rfl
@[simp] theorem State.modPersist_fresh (s : State) (f : Persist → Persist) : (s.modPersist f).fresh = s.fresh := rfl
@[simp] theorem State.modPersist_out (s : State) (f : Persist → Persist) : (s.modPersist f).out = s.out := rfl
@[simp] theorem State.modPersist_mem (s : State) (f : Persist → Persist) : (s.modPersist f).mem = s.mem := rfl
@[simp] theorem State.modPersist_settings (s : State) (f : Persist → Persist) : (s.modPersist f).settings = s.settings := rfl
@[simp] theorem State.modPersist_dict (s : State) (f : Persist → Persist) : (s.modPersist f).dict = s.dict := rfl
@[simp] theorem State.modPersist_pace (s : State) (f : Persist → Persist) : (s.modPersist f).pace = s.pace := rfl
@[simp] theorem State.modPersist_host (s : State) (f : Persist → Persist) : (s.modPersist f).host = s.host := rfl
@[simp] theorem State.modPersist_rings (s : State) (f : Persist → Persist) : (s.modPersist f).rings = s.rings := rfl
@[simp] theorem State.modPersist_place (s : State) (f : Persist → Persist) : (s.modPersist f).place = s.place := rfl
@[simp] theorem State.modPersist_persist (s : State) (f : Persist → Persist) : (s.modPersist f).persist = f s.persist := rfl
@[simp] theorem State.modPersist_twin (s : State) (f : Persist → Persist) : (s.modPersist f).twin = s.twin := rfl
@[simp] theorem State.modPersist_hinge (s : State) (f : Persist → Persist) : (s.modPersist f).hinge = s.hinge := rfl
@[simp] theorem State.modPersist_pool (s : State) (f : Persist → Persist) : (s.modPersist f).pool = s.pool := rfl
@[simp] theorem State.modPersist_lattice (s : State) (f : Persist → Persist) : (s.modPersist f).lattice = s.lattice := rfl
@[simp] theorem State.modPersist_dram (s : State) (f : Persist → Persist) : (s.modPersist f).dram = s.dram := rfl
@[simp] theorem State.modPersist_ecc (s : State) (f : Persist → Persist) : (s.modPersist f).ecc = s.ecc := rfl
@[simp] theorem State.modPersist_cipher (s : State) (f : Persist → Persist) : (s.modPersist f).cipher = s.cipher := rfl
@[simp] theorem State.modPersist_steward (s : State) (f : Persist → Persist) : (s.modPersist f).steward = s.steward := rfl
@[simp] theorem State.modPersist_sbox (s : State) (f : Persist → Persist) : (s.modPersist f).sbox = s.sbox := rfl
@[simp] theorem State.modPersist_rec_ (s : State) (f : Persist → Persist) : (s.modPersist f).rec_ = s.rec_ := rfl
@[simp] theorem State.modPersist_power (s : State) (f : Persist → Persist) : (s.modPersist f).power = s.power := rfl
/-- Two changes of one part are one. -/
theorem State.modPersist_modPersist (s : State) (f g : Persist → Persist) : (s.modPersist f).modPersist g = s.modPersist (fun x => g (f x)) := rfl

/-! #### `modTwin` -/

@[simp] theorem State.modTwin_pending (s : State) (f : Twin → Twin) : (s.modTwin f).pending = s.pending := rfl
@[simp] theorem State.modTwin_now (s : State) (f : Twin → Twin) : (s.modTwin f).now = s.now := rfl
@[simp] theorem State.modTwin_fresh (s : State) (f : Twin → Twin) : (s.modTwin f).fresh = s.fresh := rfl
@[simp] theorem State.modTwin_out (s : State) (f : Twin → Twin) : (s.modTwin f).out = s.out := rfl
@[simp] theorem State.modTwin_mem (s : State) (f : Twin → Twin) : (s.modTwin f).mem = s.mem := rfl
@[simp] theorem State.modTwin_settings (s : State) (f : Twin → Twin) : (s.modTwin f).settings = s.settings := rfl
@[simp] theorem State.modTwin_dict (s : State) (f : Twin → Twin) : (s.modTwin f).dict = s.dict := rfl
@[simp] theorem State.modTwin_pace (s : State) (f : Twin → Twin) : (s.modTwin f).pace = s.pace := rfl
@[simp] theorem State.modTwin_host (s : State) (f : Twin → Twin) : (s.modTwin f).host = s.host := rfl
@[simp] theorem State.modTwin_rings (s : State) (f : Twin → Twin) : (s.modTwin f).rings = s.rings := rfl
@[simp] theorem State.modTwin_place (s : State) (f : Twin → Twin) : (s.modTwin f).place = s.place := rfl
@[simp] theorem State.modTwin_persist (s : State) (f : Twin → Twin) : (s.modTwin f).persist = s.persist := rfl
@[simp] theorem State.modTwin_twin (s : State) (f : Twin → Twin) : (s.modTwin f).twin = f s.twin := rfl
@[simp] theorem State.modTwin_hinge (s : State) (f : Twin → Twin) : (s.modTwin f).hinge = s.hinge := rfl
@[simp] theorem State.modTwin_pool (s : State) (f : Twin → Twin) : (s.modTwin f).pool = s.pool := rfl
@[simp] theorem State.modTwin_lattice (s : State) (f : Twin → Twin) : (s.modTwin f).lattice = s.lattice := rfl
@[simp] theorem State.modTwin_dram (s : State) (f : Twin → Twin) : (s.modTwin f).dram = s.dram := rfl
@[simp] theorem State.modTwin_ecc (s : State) (f : Twin → Twin) : (s.modTwin f).ecc = s.ecc := rfl
@[simp] theorem State.modTwin_cipher (s : State) (f : Twin → Twin) : (s.modTwin f).cipher = s.cipher := rfl
@[simp] theorem State.modTwin_steward (s : State) (f : Twin → Twin) : (s.modTwin f).steward = s.steward := rfl
@[simp] theorem State.modTwin_sbox (s : State) (f : Twin → Twin) : (s.modTwin f).sbox = s.sbox := rfl
@[simp] theorem State.modTwin_rec_ (s : State) (f : Twin → Twin) : (s.modTwin f).rec_ = s.rec_ := rfl
@[simp] theorem State.modTwin_power (s : State) (f : Twin → Twin) : (s.modTwin f).power = s.power := rfl
/-- Two changes of one part are one. -/
theorem State.modTwin_modTwin (s : State) (f g : Twin → Twin) : (s.modTwin f).modTwin g = s.modTwin (fun x => g (f x)) := rfl

/-! #### `modHinge` -/

@[simp] theorem State.modHinge_pending (s : State) (f : Hinge → Hinge) : (s.modHinge f).pending = s.pending := rfl
@[simp] theorem State.modHinge_now (s : State) (f : Hinge → Hinge) : (s.modHinge f).now = s.now := rfl
@[simp] theorem State.modHinge_fresh (s : State) (f : Hinge → Hinge) : (s.modHinge f).fresh = s.fresh := rfl
@[simp] theorem State.modHinge_out (s : State) (f : Hinge → Hinge) : (s.modHinge f).out = s.out := rfl
@[simp] theorem State.modHinge_mem (s : State) (f : Hinge → Hinge) : (s.modHinge f).mem = s.mem := rfl
@[simp] theorem State.modHinge_settings (s : State) (f : Hinge → Hinge) : (s.modHinge f).settings = s.settings := rfl
@[simp] theorem State.modHinge_dict (s : State) (f : Hinge → Hinge) : (s.modHinge f).dict = s.dict := rfl
@[simp] theorem State.modHinge_pace (s : State) (f : Hinge → Hinge) : (s.modHinge f).pace = s.pace := rfl
@[simp] theorem State.modHinge_host (s : State) (f : Hinge → Hinge) : (s.modHinge f).host = s.host := rfl
@[simp] theorem State.modHinge_rings (s : State) (f : Hinge → Hinge) : (s.modHinge f).rings = s.rings := rfl
@[simp] theorem State.modHinge_place (s : State) (f : Hinge → Hinge) : (s.modHinge f).place = s.place := rfl
@[simp] theorem State.modHinge_persist (s : State) (f : Hinge → Hinge) : (s.modHinge f).persist = s.persist := rfl
@[simp] theorem State.modHinge_twin (s : State) (f : Hinge → Hinge) : (s.modHinge f).twin = s.twin := rfl
@[simp] theorem State.modHinge_hinge (s : State) (f : Hinge → Hinge) : (s.modHinge f).hinge = f s.hinge := rfl
@[simp] theorem State.modHinge_pool (s : State) (f : Hinge → Hinge) : (s.modHinge f).pool = s.pool := rfl
@[simp] theorem State.modHinge_lattice (s : State) (f : Hinge → Hinge) : (s.modHinge f).lattice = s.lattice := rfl
@[simp] theorem State.modHinge_dram (s : State) (f : Hinge → Hinge) : (s.modHinge f).dram = s.dram := rfl
@[simp] theorem State.modHinge_ecc (s : State) (f : Hinge → Hinge) : (s.modHinge f).ecc = s.ecc := rfl
@[simp] theorem State.modHinge_cipher (s : State) (f : Hinge → Hinge) : (s.modHinge f).cipher = s.cipher := rfl
@[simp] theorem State.modHinge_steward (s : State) (f : Hinge → Hinge) : (s.modHinge f).steward = s.steward := rfl
@[simp] theorem State.modHinge_sbox (s : State) (f : Hinge → Hinge) : (s.modHinge f).sbox = s.sbox := rfl
@[simp] theorem State.modHinge_rec_ (s : State) (f : Hinge → Hinge) : (s.modHinge f).rec_ = s.rec_ := rfl
@[simp] theorem State.modHinge_power (s : State) (f : Hinge → Hinge) : (s.modHinge f).power = s.power := rfl
/-- Two changes of one part are one. -/
theorem State.modHinge_modHinge (s : State) (f g : Hinge → Hinge) : (s.modHinge f).modHinge g = s.modHinge (fun x => g (f x)) := rfl

/-! #### `modPool` -/

@[simp] theorem State.modPool_pending (s : State) (f : Pool → Pool) : (s.modPool f).pending = s.pending := rfl
@[simp] theorem State.modPool_now (s : State) (f : Pool → Pool) : (s.modPool f).now = s.now := rfl
@[simp] theorem State.modPool_fresh (s : State) (f : Pool → Pool) : (s.modPool f).fresh = s.fresh := rfl
@[simp] theorem State.modPool_out (s : State) (f : Pool → Pool) : (s.modPool f).out = s.out := rfl
@[simp] theorem State.modPool_mem (s : State) (f : Pool → Pool) : (s.modPool f).mem = s.mem := rfl
@[simp] theorem State.modPool_settings (s : State) (f : Pool → Pool) : (s.modPool f).settings = s.settings := rfl
@[simp] theorem State.modPool_dict (s : State) (f : Pool → Pool) : (s.modPool f).dict = s.dict := rfl
@[simp] theorem State.modPool_pace (s : State) (f : Pool → Pool) : (s.modPool f).pace = s.pace := rfl
@[simp] theorem State.modPool_host (s : State) (f : Pool → Pool) : (s.modPool f).host = s.host := rfl
@[simp] theorem State.modPool_rings (s : State) (f : Pool → Pool) : (s.modPool f).rings = s.rings := rfl
@[simp] theorem State.modPool_place (s : State) (f : Pool → Pool) : (s.modPool f).place = s.place := rfl
@[simp] theorem State.modPool_persist (s : State) (f : Pool → Pool) : (s.modPool f).persist = s.persist := rfl
@[simp] theorem State.modPool_twin (s : State) (f : Pool → Pool) : (s.modPool f).twin = s.twin := rfl
@[simp] theorem State.modPool_hinge (s : State) (f : Pool → Pool) : (s.modPool f).hinge = s.hinge := rfl
@[simp] theorem State.modPool_pool (s : State) (f : Pool → Pool) : (s.modPool f).pool = f s.pool := rfl
@[simp] theorem State.modPool_lattice (s : State) (f : Pool → Pool) : (s.modPool f).lattice = s.lattice := rfl
@[simp] theorem State.modPool_dram (s : State) (f : Pool → Pool) : (s.modPool f).dram = s.dram := rfl
@[simp] theorem State.modPool_ecc (s : State) (f : Pool → Pool) : (s.modPool f).ecc = s.ecc := rfl
@[simp] theorem State.modPool_cipher (s : State) (f : Pool → Pool) : (s.modPool f).cipher = s.cipher := rfl
@[simp] theorem State.modPool_steward (s : State) (f : Pool → Pool) : (s.modPool f).steward = s.steward := rfl
@[simp] theorem State.modPool_sbox (s : State) (f : Pool → Pool) : (s.modPool f).sbox = s.sbox := rfl
@[simp] theorem State.modPool_rec_ (s : State) (f : Pool → Pool) : (s.modPool f).rec_ = s.rec_ := rfl
@[simp] theorem State.modPool_power (s : State) (f : Pool → Pool) : (s.modPool f).power = s.power := rfl
/-- Two changes of one part are one. -/
theorem State.modPool_modPool (s : State) (f g : Pool → Pool) : (s.modPool f).modPool g = s.modPool (fun x => g (f x)) := rfl

/-! #### `modLattice` -/

@[simp] theorem State.modLattice_pending (s : State) (f : Lattice → Lattice) : (s.modLattice f).pending = s.pending := rfl
@[simp] theorem State.modLattice_now (s : State) (f : Lattice → Lattice) : (s.modLattice f).now = s.now := rfl
@[simp] theorem State.modLattice_fresh (s : State) (f : Lattice → Lattice) : (s.modLattice f).fresh = s.fresh := rfl
@[simp] theorem State.modLattice_out (s : State) (f : Lattice → Lattice) : (s.modLattice f).out = s.out := rfl
@[simp] theorem State.modLattice_mem (s : State) (f : Lattice → Lattice) : (s.modLattice f).mem = s.mem := rfl
@[simp] theorem State.modLattice_settings (s : State) (f : Lattice → Lattice) : (s.modLattice f).settings = s.settings := rfl
@[simp] theorem State.modLattice_dict (s : State) (f : Lattice → Lattice) : (s.modLattice f).dict = s.dict := rfl
@[simp] theorem State.modLattice_pace (s : State) (f : Lattice → Lattice) : (s.modLattice f).pace = s.pace := rfl
@[simp] theorem State.modLattice_host (s : State) (f : Lattice → Lattice) : (s.modLattice f).host = s.host := rfl
@[simp] theorem State.modLattice_rings (s : State) (f : Lattice → Lattice) : (s.modLattice f).rings = s.rings := rfl
@[simp] theorem State.modLattice_place (s : State) (f : Lattice → Lattice) : (s.modLattice f).place = s.place := rfl
@[simp] theorem State.modLattice_persist (s : State) (f : Lattice → Lattice) : (s.modLattice f).persist = s.persist := rfl
@[simp] theorem State.modLattice_twin (s : State) (f : Lattice → Lattice) : (s.modLattice f).twin = s.twin := rfl
@[simp] theorem State.modLattice_hinge (s : State) (f : Lattice → Lattice) : (s.modLattice f).hinge = s.hinge := rfl
@[simp] theorem State.modLattice_pool (s : State) (f : Lattice → Lattice) : (s.modLattice f).pool = s.pool := rfl
@[simp] theorem State.modLattice_lattice (s : State) (f : Lattice → Lattice) : (s.modLattice f).lattice = f s.lattice := rfl
@[simp] theorem State.modLattice_dram (s : State) (f : Lattice → Lattice) : (s.modLattice f).dram = s.dram := rfl
@[simp] theorem State.modLattice_ecc (s : State) (f : Lattice → Lattice) : (s.modLattice f).ecc = s.ecc := rfl
@[simp] theorem State.modLattice_cipher (s : State) (f : Lattice → Lattice) : (s.modLattice f).cipher = s.cipher := rfl
@[simp] theorem State.modLattice_steward (s : State) (f : Lattice → Lattice) : (s.modLattice f).steward = s.steward := rfl
@[simp] theorem State.modLattice_sbox (s : State) (f : Lattice → Lattice) : (s.modLattice f).sbox = s.sbox := rfl
@[simp] theorem State.modLattice_rec_ (s : State) (f : Lattice → Lattice) : (s.modLattice f).rec_ = s.rec_ := rfl
@[simp] theorem State.modLattice_power (s : State) (f : Lattice → Lattice) : (s.modLattice f).power = s.power := rfl
/-- Two changes of one part are one. -/
theorem State.modLattice_modLattice (s : State) (f g : Lattice → Lattice) : (s.modLattice f).modLattice g = s.modLattice (fun x => g (f x)) := rfl

/-! #### `modDram` -/

@[simp] theorem State.modDram_pending (s : State) (f : Dram → Dram) : (s.modDram f).pending = s.pending := rfl
@[simp] theorem State.modDram_now (s : State) (f : Dram → Dram) : (s.modDram f).now = s.now := rfl
@[simp] theorem State.modDram_fresh (s : State) (f : Dram → Dram) : (s.modDram f).fresh = s.fresh := rfl
@[simp] theorem State.modDram_out (s : State) (f : Dram → Dram) : (s.modDram f).out = s.out := rfl
@[simp] theorem State.modDram_mem (s : State) (f : Dram → Dram) : (s.modDram f).mem = s.mem := rfl
@[simp] theorem State.modDram_settings (s : State) (f : Dram → Dram) : (s.modDram f).settings = s.settings := rfl
@[simp] theorem State.modDram_dict (s : State) (f : Dram → Dram) : (s.modDram f).dict = s.dict := rfl
@[simp] theorem State.modDram_pace (s : State) (f : Dram → Dram) : (s.modDram f).pace = s.pace := rfl
@[simp] theorem State.modDram_host (s : State) (f : Dram → Dram) : (s.modDram f).host = s.host := rfl
@[simp] theorem State.modDram_rings (s : State) (f : Dram → Dram) : (s.modDram f).rings = s.rings := rfl
@[simp] theorem State.modDram_place (s : State) (f : Dram → Dram) : (s.modDram f).place = s.place := rfl
@[simp] theorem State.modDram_persist (s : State) (f : Dram → Dram) : (s.modDram f).persist = s.persist := rfl
@[simp] theorem State.modDram_twin (s : State) (f : Dram → Dram) : (s.modDram f).twin = s.twin := rfl
@[simp] theorem State.modDram_hinge (s : State) (f : Dram → Dram) : (s.modDram f).hinge = s.hinge := rfl
@[simp] theorem State.modDram_pool (s : State) (f : Dram → Dram) : (s.modDram f).pool = s.pool := rfl
@[simp] theorem State.modDram_lattice (s : State) (f : Dram → Dram) : (s.modDram f).lattice = s.lattice := rfl
@[simp] theorem State.modDram_dram (s : State) (f : Dram → Dram) : (s.modDram f).dram = f s.dram := rfl
@[simp] theorem State.modDram_ecc (s : State) (f : Dram → Dram) : (s.modDram f).ecc = s.ecc := rfl
@[simp] theorem State.modDram_cipher (s : State) (f : Dram → Dram) : (s.modDram f).cipher = s.cipher := rfl
@[simp] theorem State.modDram_steward (s : State) (f : Dram → Dram) : (s.modDram f).steward = s.steward := rfl
@[simp] theorem State.modDram_sbox (s : State) (f : Dram → Dram) : (s.modDram f).sbox = s.sbox := rfl
@[simp] theorem State.modDram_rec_ (s : State) (f : Dram → Dram) : (s.modDram f).rec_ = s.rec_ := rfl
@[simp] theorem State.modDram_power (s : State) (f : Dram → Dram) : (s.modDram f).power = s.power := rfl
/-- Two changes of one part are one. -/
theorem State.modDram_modDram (s : State) (f g : Dram → Dram) : (s.modDram f).modDram g = s.modDram (fun x => g (f x)) := rfl

/-! #### `modEcc` -/

@[simp] theorem State.modEcc_pending (s : State) (f : Ecc → Ecc) : (s.modEcc f).pending = s.pending := rfl
@[simp] theorem State.modEcc_now (s : State) (f : Ecc → Ecc) : (s.modEcc f).now = s.now := rfl
@[simp] theorem State.modEcc_fresh (s : State) (f : Ecc → Ecc) : (s.modEcc f).fresh = s.fresh := rfl
@[simp] theorem State.modEcc_out (s : State) (f : Ecc → Ecc) : (s.modEcc f).out = s.out := rfl
@[simp] theorem State.modEcc_mem (s : State) (f : Ecc → Ecc) : (s.modEcc f).mem = s.mem := rfl
@[simp] theorem State.modEcc_settings (s : State) (f : Ecc → Ecc) : (s.modEcc f).settings = s.settings := rfl
@[simp] theorem State.modEcc_dict (s : State) (f : Ecc → Ecc) : (s.modEcc f).dict = s.dict := rfl
@[simp] theorem State.modEcc_pace (s : State) (f : Ecc → Ecc) : (s.modEcc f).pace = s.pace := rfl
@[simp] theorem State.modEcc_host (s : State) (f : Ecc → Ecc) : (s.modEcc f).host = s.host := rfl
@[simp] theorem State.modEcc_rings (s : State) (f : Ecc → Ecc) : (s.modEcc f).rings = s.rings := rfl
@[simp] theorem State.modEcc_place (s : State) (f : Ecc → Ecc) : (s.modEcc f).place = s.place := rfl
@[simp] theorem State.modEcc_persist (s : State) (f : Ecc → Ecc) : (s.modEcc f).persist = s.persist := rfl
@[simp] theorem State.modEcc_twin (s : State) (f : Ecc → Ecc) : (s.modEcc f).twin = s.twin := rfl
@[simp] theorem State.modEcc_hinge (s : State) (f : Ecc → Ecc) : (s.modEcc f).hinge = s.hinge := rfl
@[simp] theorem State.modEcc_pool (s : State) (f : Ecc → Ecc) : (s.modEcc f).pool = s.pool := rfl
@[simp] theorem State.modEcc_lattice (s : State) (f : Ecc → Ecc) : (s.modEcc f).lattice = s.lattice := rfl
@[simp] theorem State.modEcc_dram (s : State) (f : Ecc → Ecc) : (s.modEcc f).dram = s.dram := rfl
@[simp] theorem State.modEcc_ecc (s : State) (f : Ecc → Ecc) : (s.modEcc f).ecc = f s.ecc := rfl
@[simp] theorem State.modEcc_cipher (s : State) (f : Ecc → Ecc) : (s.modEcc f).cipher = s.cipher := rfl
@[simp] theorem State.modEcc_steward (s : State) (f : Ecc → Ecc) : (s.modEcc f).steward = s.steward := rfl
@[simp] theorem State.modEcc_sbox (s : State) (f : Ecc → Ecc) : (s.modEcc f).sbox = s.sbox := rfl
@[simp] theorem State.modEcc_rec_ (s : State) (f : Ecc → Ecc) : (s.modEcc f).rec_ = s.rec_ := rfl
@[simp] theorem State.modEcc_power (s : State) (f : Ecc → Ecc) : (s.modEcc f).power = s.power := rfl
/-- Two changes of one part are one. -/
theorem State.modEcc_modEcc (s : State) (f g : Ecc → Ecc) : (s.modEcc f).modEcc g = s.modEcc (fun x => g (f x)) := rfl

/-! #### `modCipher` -/

@[simp] theorem State.modCipher_pending (s : State) (f : Cipher → Cipher) : (s.modCipher f).pending = s.pending := rfl
@[simp] theorem State.modCipher_now (s : State) (f : Cipher → Cipher) : (s.modCipher f).now = s.now := rfl
@[simp] theorem State.modCipher_fresh (s : State) (f : Cipher → Cipher) : (s.modCipher f).fresh = s.fresh := rfl
@[simp] theorem State.modCipher_out (s : State) (f : Cipher → Cipher) : (s.modCipher f).out = s.out := rfl
@[simp] theorem State.modCipher_mem (s : State) (f : Cipher → Cipher) : (s.modCipher f).mem = s.mem := rfl
@[simp] theorem State.modCipher_settings (s : State) (f : Cipher → Cipher) : (s.modCipher f).settings = s.settings := rfl
@[simp] theorem State.modCipher_dict (s : State) (f : Cipher → Cipher) : (s.modCipher f).dict = s.dict := rfl
@[simp] theorem State.modCipher_pace (s : State) (f : Cipher → Cipher) : (s.modCipher f).pace = s.pace := rfl
@[simp] theorem State.modCipher_host (s : State) (f : Cipher → Cipher) : (s.modCipher f).host = s.host := rfl
@[simp] theorem State.modCipher_rings (s : State) (f : Cipher → Cipher) : (s.modCipher f).rings = s.rings := rfl
@[simp] theorem State.modCipher_place (s : State) (f : Cipher → Cipher) : (s.modCipher f).place = s.place := rfl
@[simp] theorem State.modCipher_persist (s : State) (f : Cipher → Cipher) : (s.modCipher f).persist = s.persist := rfl
@[simp] theorem State.modCipher_twin (s : State) (f : Cipher → Cipher) : (s.modCipher f).twin = s.twin := rfl
@[simp] theorem State.modCipher_hinge (s : State) (f : Cipher → Cipher) : (s.modCipher f).hinge = s.hinge := rfl
@[simp] theorem State.modCipher_pool (s : State) (f : Cipher → Cipher) : (s.modCipher f).pool = s.pool := rfl
@[simp] theorem State.modCipher_lattice (s : State) (f : Cipher → Cipher) : (s.modCipher f).lattice = s.lattice := rfl
@[simp] theorem State.modCipher_dram (s : State) (f : Cipher → Cipher) : (s.modCipher f).dram = s.dram := rfl
@[simp] theorem State.modCipher_ecc (s : State) (f : Cipher → Cipher) : (s.modCipher f).ecc = s.ecc := rfl
@[simp] theorem State.modCipher_cipher (s : State) (f : Cipher → Cipher) : (s.modCipher f).cipher = f s.cipher := rfl
@[simp] theorem State.modCipher_steward (s : State) (f : Cipher → Cipher) : (s.modCipher f).steward = s.steward := rfl
@[simp] theorem State.modCipher_sbox (s : State) (f : Cipher → Cipher) : (s.modCipher f).sbox = s.sbox := rfl
@[simp] theorem State.modCipher_rec_ (s : State) (f : Cipher → Cipher) : (s.modCipher f).rec_ = s.rec_ := rfl
@[simp] theorem State.modCipher_power (s : State) (f : Cipher → Cipher) : (s.modCipher f).power = s.power := rfl
/-- Two changes of one part are one. -/
theorem State.modCipher_modCipher (s : State) (f g : Cipher → Cipher) : (s.modCipher f).modCipher g = s.modCipher (fun x => g (f x)) := rfl

/-! #### `modSteward` -/

@[simp] theorem State.modSteward_pending (s : State) (f : Steward → Steward) : (s.modSteward f).pending = s.pending := rfl
@[simp] theorem State.modSteward_now (s : State) (f : Steward → Steward) : (s.modSteward f).now = s.now := rfl
@[simp] theorem State.modSteward_fresh (s : State) (f : Steward → Steward) : (s.modSteward f).fresh = s.fresh := rfl
@[simp] theorem State.modSteward_out (s : State) (f : Steward → Steward) : (s.modSteward f).out = s.out := rfl
@[simp] theorem State.modSteward_mem (s : State) (f : Steward → Steward) : (s.modSteward f).mem = s.mem := rfl
@[simp] theorem State.modSteward_settings (s : State) (f : Steward → Steward) : (s.modSteward f).settings = s.settings := rfl
@[simp] theorem State.modSteward_dict (s : State) (f : Steward → Steward) : (s.modSteward f).dict = s.dict := rfl
@[simp] theorem State.modSteward_pace (s : State) (f : Steward → Steward) : (s.modSteward f).pace = s.pace := rfl
@[simp] theorem State.modSteward_host (s : State) (f : Steward → Steward) : (s.modSteward f).host = s.host := rfl
@[simp] theorem State.modSteward_rings (s : State) (f : Steward → Steward) : (s.modSteward f).rings = s.rings := rfl
@[simp] theorem State.modSteward_place (s : State) (f : Steward → Steward) : (s.modSteward f).place = s.place := rfl
@[simp] theorem State.modSteward_persist (s : State) (f : Steward → Steward) : (s.modSteward f).persist = s.persist := rfl
@[simp] theorem State.modSteward_twin (s : State) (f : Steward → Steward) : (s.modSteward f).twin = s.twin := rfl
@[simp] theorem State.modSteward_hinge (s : State) (f : Steward → Steward) : (s.modSteward f).hinge = s.hinge := rfl
@[simp] theorem State.modSteward_pool (s : State) (f : Steward → Steward) : (s.modSteward f).pool = s.pool := rfl
@[simp] theorem State.modSteward_lattice (s : State) (f : Steward → Steward) : (s.modSteward f).lattice = s.lattice := rfl
@[simp] theorem State.modSteward_dram (s : State) (f : Steward → Steward) : (s.modSteward f).dram = s.dram := rfl
@[simp] theorem State.modSteward_ecc (s : State) (f : Steward → Steward) : (s.modSteward f).ecc = s.ecc := rfl
@[simp] theorem State.modSteward_cipher (s : State) (f : Steward → Steward) : (s.modSteward f).cipher = s.cipher := rfl
@[simp] theorem State.modSteward_steward (s : State) (f : Steward → Steward) : (s.modSteward f).steward = f s.steward := rfl
@[simp] theorem State.modSteward_sbox (s : State) (f : Steward → Steward) : (s.modSteward f).sbox = s.sbox := rfl
@[simp] theorem State.modSteward_rec_ (s : State) (f : Steward → Steward) : (s.modSteward f).rec_ = s.rec_ := rfl
@[simp] theorem State.modSteward_power (s : State) (f : Steward → Steward) : (s.modSteward f).power = s.power := rfl
/-- Two changes of one part are one. -/
theorem State.modSteward_modSteward (s : State) (f g : Steward → Steward) : (s.modSteward f).modSteward g = s.modSteward (fun x => g (f x)) := rfl

/-! #### `modSbox` -/

@[simp] theorem State.modSbox_pending (s : State) (f : Strongbox → Strongbox) : (s.modSbox f).pending = s.pending := rfl
@[simp] theorem State.modSbox_now (s : State) (f : Strongbox → Strongbox) : (s.modSbox f).now = s.now := rfl
@[simp] theorem State.modSbox_fresh (s : State) (f : Strongbox → Strongbox) : (s.modSbox f).fresh = s.fresh := rfl
@[simp] theorem State.modSbox_out (s : State) (f : Strongbox → Strongbox) : (s.modSbox f).out = s.out := rfl
@[simp] theorem State.modSbox_mem (s : State) (f : Strongbox → Strongbox) : (s.modSbox f).mem = s.mem := rfl
@[simp] theorem State.modSbox_settings (s : State) (f : Strongbox → Strongbox) : (s.modSbox f).settings = s.settings := rfl
@[simp] theorem State.modSbox_dict (s : State) (f : Strongbox → Strongbox) : (s.modSbox f).dict = s.dict := rfl
@[simp] theorem State.modSbox_pace (s : State) (f : Strongbox → Strongbox) : (s.modSbox f).pace = s.pace := rfl
@[simp] theorem State.modSbox_host (s : State) (f : Strongbox → Strongbox) : (s.modSbox f).host = s.host := rfl
@[simp] theorem State.modSbox_rings (s : State) (f : Strongbox → Strongbox) : (s.modSbox f).rings = s.rings := rfl
@[simp] theorem State.modSbox_place (s : State) (f : Strongbox → Strongbox) : (s.modSbox f).place = s.place := rfl
@[simp] theorem State.modSbox_persist (s : State) (f : Strongbox → Strongbox) : (s.modSbox f).persist = s.persist := rfl
@[simp] theorem State.modSbox_twin (s : State) (f : Strongbox → Strongbox) : (s.modSbox f).twin = s.twin := rfl
@[simp] theorem State.modSbox_hinge (s : State) (f : Strongbox → Strongbox) : (s.modSbox f).hinge = s.hinge := rfl
@[simp] theorem State.modSbox_pool (s : State) (f : Strongbox → Strongbox) : (s.modSbox f).pool = s.pool := rfl
@[simp] theorem State.modSbox_lattice (s : State) (f : Strongbox → Strongbox) : (s.modSbox f).lattice = s.lattice := rfl
@[simp] theorem State.modSbox_dram (s : State) (f : Strongbox → Strongbox) : (s.modSbox f).dram = s.dram := rfl
@[simp] theorem State.modSbox_ecc (s : State) (f : Strongbox → Strongbox) : (s.modSbox f).ecc = s.ecc := rfl
@[simp] theorem State.modSbox_cipher (s : State) (f : Strongbox → Strongbox) : (s.modSbox f).cipher = s.cipher := rfl
@[simp] theorem State.modSbox_steward (s : State) (f : Strongbox → Strongbox) : (s.modSbox f).steward = s.steward := rfl
@[simp] theorem State.modSbox_sbox (s : State) (f : Strongbox → Strongbox) : (s.modSbox f).sbox = f s.sbox := rfl
@[simp] theorem State.modSbox_rec_ (s : State) (f : Strongbox → Strongbox) : (s.modSbox f).rec_ = s.rec_ := rfl
@[simp] theorem State.modSbox_power (s : State) (f : Strongbox → Strongbox) : (s.modSbox f).power = s.power := rfl
/-- Two changes of one part are one. -/
theorem State.modSbox_modSbox (s : State) (f g : Strongbox → Strongbox) : (s.modSbox f).modSbox g = s.modSbox (fun x => g (f x)) := rfl

/-! #### `modRec` -/

@[simp] theorem State.modRec_pending (s : State) (f : Recorder → Recorder) : (s.modRec f).pending = s.pending := rfl
@[simp] theorem State.modRec_now (s : State) (f : Recorder → Recorder) : (s.modRec f).now = s.now := rfl
@[simp] theorem State.modRec_fresh (s : State) (f : Recorder → Recorder) : (s.modRec f).fresh = s.fresh := rfl
@[simp] theorem State.modRec_out (s : State) (f : Recorder → Recorder) : (s.modRec f).out = s.out := rfl
@[simp] theorem State.modRec_mem (s : State) (f : Recorder → Recorder) : (s.modRec f).mem = s.mem := rfl
@[simp] theorem State.modRec_settings (s : State) (f : Recorder → Recorder) : (s.modRec f).settings = s.settings := rfl
@[simp] theorem State.modRec_dict (s : State) (f : Recorder → Recorder) : (s.modRec f).dict = s.dict := rfl
@[simp] theorem State.modRec_pace (s : State) (f : Recorder → Recorder) : (s.modRec f).pace = s.pace := rfl
@[simp] theorem State.modRec_host (s : State) (f : Recorder → Recorder) : (s.modRec f).host = s.host := rfl
@[simp] theorem State.modRec_rings (s : State) (f : Recorder → Recorder) : (s.modRec f).rings = s.rings := rfl
@[simp] theorem State.modRec_place (s : State) (f : Recorder → Recorder) : (s.modRec f).place = s.place := rfl
@[simp] theorem State.modRec_persist (s : State) (f : Recorder → Recorder) : (s.modRec f).persist = s.persist := rfl
@[simp] theorem State.modRec_twin (s : State) (f : Recorder → Recorder) : (s.modRec f).twin = s.twin := rfl
@[simp] theorem State.modRec_hinge (s : State) (f : Recorder → Recorder) : (s.modRec f).hinge = s.hinge := rfl
@[simp] theorem State.modRec_pool (s : State) (f : Recorder → Recorder) : (s.modRec f).pool = s.pool := rfl
@[simp] theorem State.modRec_lattice (s : State) (f : Recorder → Recorder) : (s.modRec f).lattice = s.lattice := rfl
@[simp] theorem State.modRec_dram (s : State) (f : Recorder → Recorder) : (s.modRec f).dram = s.dram := rfl
@[simp] theorem State.modRec_ecc (s : State) (f : Recorder → Recorder) : (s.modRec f).ecc = s.ecc := rfl
@[simp] theorem State.modRec_cipher (s : State) (f : Recorder → Recorder) : (s.modRec f).cipher = s.cipher := rfl
@[simp] theorem State.modRec_steward (s : State) (f : Recorder → Recorder) : (s.modRec f).steward = s.steward := rfl
@[simp] theorem State.modRec_sbox (s : State) (f : Recorder → Recorder) : (s.modRec f).sbox = s.sbox := rfl
@[simp] theorem State.modRec_rec_ (s : State) (f : Recorder → Recorder) : (s.modRec f).rec_ = f s.rec_ := rfl
@[simp] theorem State.modRec_power (s : State) (f : Recorder → Recorder) : (s.modRec f).power = s.power := rfl
/-- Two changes of one part are one. -/
theorem State.modRec_modRec (s : State) (f g : Recorder → Recorder) : (s.modRec f).modRec g = s.modRec (fun x => g (f x)) := rfl

/-! #### `modPower` -/

@[simp] theorem State.modPower_pending (s : State) (f : Power → Power) : (s.modPower f).pending = s.pending := rfl
@[simp] theorem State.modPower_now (s : State) (f : Power → Power) : (s.modPower f).now = s.now := rfl
@[simp] theorem State.modPower_fresh (s : State) (f : Power → Power) : (s.modPower f).fresh = s.fresh := rfl
@[simp] theorem State.modPower_out (s : State) (f : Power → Power) : (s.modPower f).out = s.out := rfl
@[simp] theorem State.modPower_mem (s : State) (f : Power → Power) : (s.modPower f).mem = s.mem := rfl
@[simp] theorem State.modPower_settings (s : State) (f : Power → Power) : (s.modPower f).settings = s.settings := rfl
@[simp] theorem State.modPower_dict (s : State) (f : Power → Power) : (s.modPower f).dict = s.dict := rfl
@[simp] theorem State.modPower_pace (s : State) (f : Power → Power) : (s.modPower f).pace = s.pace := rfl
@[simp] theorem State.modPower_host (s : State) (f : Power → Power) : (s.modPower f).host = s.host := rfl
@[simp] theorem State.modPower_rings (s : State) (f : Power → Power) : (s.modPower f).rings = s.rings := rfl
@[simp] theorem State.modPower_place (s : State) (f : Power → Power) : (s.modPower f).place = s.place := rfl
@[simp] theorem State.modPower_persist (s : State) (f : Power → Power) : (s.modPower f).persist = s.persist := rfl
@[simp] theorem State.modPower_twin (s : State) (f : Power → Power) : (s.modPower f).twin = s.twin := rfl
@[simp] theorem State.modPower_hinge (s : State) (f : Power → Power) : (s.modPower f).hinge = s.hinge := rfl
@[simp] theorem State.modPower_pool (s : State) (f : Power → Power) : (s.modPower f).pool = s.pool := rfl
@[simp] theorem State.modPower_lattice (s : State) (f : Power → Power) : (s.modPower f).lattice = s.lattice := rfl
@[simp] theorem State.modPower_dram (s : State) (f : Power → Power) : (s.modPower f).dram = s.dram := rfl
@[simp] theorem State.modPower_ecc (s : State) (f : Power → Power) : (s.modPower f).ecc = s.ecc := rfl
@[simp] theorem State.modPower_cipher (s : State) (f : Power → Power) : (s.modPower f).cipher = s.cipher := rfl
@[simp] theorem State.modPower_steward (s : State) (f : Power → Power) : (s.modPower f).steward = s.steward := rfl
@[simp] theorem State.modPower_sbox (s : State) (f : Power → Power) : (s.modPower f).sbox = s.sbox := rfl
@[simp] theorem State.modPower_rec_ (s : State) (f : Power → Power) : (s.modPower f).rec_ = s.rec_ := rfl
@[simp] theorem State.modPower_power (s : State) (f : Power → Power) : (s.modPower f).power = f s.power := rfl
/-- Two changes of one part are one. -/
theorem State.modPower_modPower (s : State) (f g : Power → Power) : (s.modPower f).modPower g = s.modPower (fun x => g (f x)) := rfl

/-! #### `emit`, `emits`, `tick` -/

@[simp] theorem State.emit_pending (s : State) (o : Output) : (s.emit o).pending = s.pending := rfl
@[simp] theorem State.emit_now (s : State) (o : Output) : (s.emit o).now = s.now := rfl
@[simp] theorem State.emit_fresh (s : State) (o : Output) : (s.emit o).fresh = s.fresh := rfl
@[simp] theorem State.emit_out (s : State) (o : Output) : (s.emit o).out = s.out ++ [o] := rfl
@[simp] theorem State.emit_mem (s : State) (o : Output) : (s.emit o).mem = s.mem := rfl
@[simp] theorem State.emit_settings (s : State) (o : Output) : (s.emit o).settings = s.settings := rfl
@[simp] theorem State.emit_dict (s : State) (o : Output) : (s.emit o).dict = s.dict := rfl
@[simp] theorem State.emit_pace (s : State) (o : Output) : (s.emit o).pace = s.pace := rfl
@[simp] theorem State.emit_host (s : State) (o : Output) : (s.emit o).host = s.host := rfl
@[simp] theorem State.emit_rings (s : State) (o : Output) : (s.emit o).rings = s.rings := rfl
@[simp] theorem State.emit_place (s : State) (o : Output) : (s.emit o).place = s.place := rfl
@[simp] theorem State.emit_persist (s : State) (o : Output) : (s.emit o).persist = s.persist := rfl
@[simp] theorem State.emit_twin (s : State) (o : Output) : (s.emit o).twin = s.twin := rfl
@[simp] theorem State.emit_hinge (s : State) (o : Output) : (s.emit o).hinge = s.hinge := rfl
@[simp] theorem State.emit_pool (s : State) (o : Output) : (s.emit o).pool = s.pool := rfl
@[simp] theorem State.emit_lattice (s : State) (o : Output) : (s.emit o).lattice = s.lattice := rfl
@[simp] theorem State.emit_dram (s : State) (o : Output) : (s.emit o).dram = s.dram := rfl
@[simp] theorem State.emit_ecc (s : State) (o : Output) : (s.emit o).ecc = s.ecc := rfl
@[simp] theorem State.emit_cipher (s : State) (o : Output) : (s.emit o).cipher = s.cipher := rfl
@[simp] theorem State.emit_steward (s : State) (o : Output) : (s.emit o).steward = s.steward := rfl
@[simp] theorem State.emit_sbox (s : State) (o : Output) : (s.emit o).sbox = s.sbox := rfl
@[simp] theorem State.emit_rec_ (s : State) (o : Output) : (s.emit o).rec_ = s.rec_ := rfl
@[simp] theorem State.emit_power (s : State) (o : Output) : (s.emit o).power = s.power := rfl

@[simp] theorem State.emits_pending (s : State) (os : List Output) : (s.emits os).pending = s.pending := rfl
@[simp] theorem State.emits_now (s : State) (os : List Output) : (s.emits os).now = s.now := rfl
@[simp] theorem State.emits_fresh (s : State) (os : List Output) : (s.emits os).fresh = s.fresh := rfl
@[simp] theorem State.emits_out (s : State) (os : List Output) : (s.emits os).out = s.out ++ os := rfl
@[simp] theorem State.emits_mem (s : State) (os : List Output) : (s.emits os).mem = s.mem := rfl
@[simp] theorem State.emits_settings (s : State) (os : List Output) : (s.emits os).settings = s.settings := rfl
@[simp] theorem State.emits_dict (s : State) (os : List Output) : (s.emits os).dict = s.dict := rfl
@[simp] theorem State.emits_pace (s : State) (os : List Output) : (s.emits os).pace = s.pace := rfl
@[simp] theorem State.emits_host (s : State) (os : List Output) : (s.emits os).host = s.host := rfl
@[simp] theorem State.emits_rings (s : State) (os : List Output) : (s.emits os).rings = s.rings := rfl
@[simp] theorem State.emits_place (s : State) (os : List Output) : (s.emits os).place = s.place := rfl
@[simp] theorem State.emits_persist (s : State) (os : List Output) : (s.emits os).persist = s.persist := rfl
@[simp] theorem State.emits_twin (s : State) (os : List Output) : (s.emits os).twin = s.twin := rfl
@[simp] theorem State.emits_hinge (s : State) (os : List Output) : (s.emits os).hinge = s.hinge := rfl
@[simp] theorem State.emits_pool (s : State) (os : List Output) : (s.emits os).pool = s.pool := rfl
@[simp] theorem State.emits_lattice (s : State) (os : List Output) : (s.emits os).lattice = s.lattice := rfl
@[simp] theorem State.emits_dram (s : State) (os : List Output) : (s.emits os).dram = s.dram := rfl
@[simp] theorem State.emits_ecc (s : State) (os : List Output) : (s.emits os).ecc = s.ecc := rfl
@[simp] theorem State.emits_cipher (s : State) (os : List Output) : (s.emits os).cipher = s.cipher := rfl
@[simp] theorem State.emits_steward (s : State) (os : List Output) : (s.emits os).steward = s.steward := rfl
@[simp] theorem State.emits_sbox (s : State) (os : List Output) : (s.emits os).sbox = s.sbox := rfl
@[simp] theorem State.emits_rec_ (s : State) (os : List Output) : (s.emits os).rec_ = s.rec_ := rfl
@[simp] theorem State.emits_power (s : State) (os : List Output) : (s.emits os).power = s.power := rfl

@[simp] theorem State.tick_pending (s : State) : (s.tick).pending = s.pending := rfl
@[simp] theorem State.tick_now (s : State) : (s.tick).now = s.now := rfl
@[simp] theorem State.tick_fresh (s : State) : (s.tick).fresh = s.fresh + 1 := rfl
@[simp] theorem State.tick_out (s : State) : (s.tick).out = s.out := rfl
@[simp] theorem State.tick_mem (s : State) : (s.tick).mem = s.mem := rfl
@[simp] theorem State.tick_settings (s : State) : (s.tick).settings = s.settings := rfl
@[simp] theorem State.tick_dict (s : State) : (s.tick).dict = s.dict := rfl
@[simp] theorem State.tick_pace (s : State) : (s.tick).pace = s.pace := rfl
@[simp] theorem State.tick_host (s : State) : (s.tick).host = s.host := rfl
@[simp] theorem State.tick_rings (s : State) : (s.tick).rings = s.rings := rfl
@[simp] theorem State.tick_place (s : State) : (s.tick).place = s.place := rfl
@[simp] theorem State.tick_persist (s : State) : (s.tick).persist = s.persist := rfl
@[simp] theorem State.tick_twin (s : State) : (s.tick).twin = s.twin := rfl
@[simp] theorem State.tick_hinge (s : State) : (s.tick).hinge = s.hinge := rfl
@[simp] theorem State.tick_pool (s : State) : (s.tick).pool = s.pool := rfl
@[simp] theorem State.tick_lattice (s : State) : (s.tick).lattice = s.lattice := rfl
@[simp] theorem State.tick_dram (s : State) : (s.tick).dram = s.dram := rfl
@[simp] theorem State.tick_ecc (s : State) : (s.tick).ecc = s.ecc := rfl
@[simp] theorem State.tick_cipher (s : State) : (s.tick).cipher = s.cipher := rfl
@[simp] theorem State.tick_steward (s : State) : (s.tick).steward = s.steward := rfl
@[simp] theorem State.tick_sbox (s : State) : (s.tick).sbox = s.sbox := rfl
@[simp] theorem State.tick_rec_ (s : State) : (s.tick).rec_ = s.rec_ := rfl
@[simp] theorem State.tick_power (s : State) : (s.tick).power = s.power := rfl

end Sys2Proof.Machine
end

