-- ==== Sys2Proof/Laws/Shared.lean ====
section
/-! SUPPORT. What the shared operations leave alone, a lemma a part: raising an event, counting, sending, answering, and the changes of
one entry of a table. -/

set_option Elab.async false

namespace Sys2Proof.Machine

theorem State.raise_fr (s : State) (src : Nat) (cause : Nat) (detail : Bytes) : Laws.Fr 262144 s (s.raise src cause detail) := Laws.fr_raise Laws.in_self Laws.fr_refl _ _ _
@[simp] theorem State.raise_pending (s : State) (src : Nat) (cause : Nat) (detail : Bytes) : (s.raise src cause detail).pending = s.pending := (s.raise_fr _ _ _).1
@[simp] theorem State.raise_now (s : State) (src : Nat) (cause : Nat) (detail : Bytes) : (s.raise src cause detail).now = s.now := (s.raise_fr _ _ _).2.1
@[simp] theorem State.raise_out (s : State) (src : Nat) (cause : Nat) (detail : Bytes) : (s.raise src cause detail).out = s.out := (s.raise_fr _ _ _).2.2.2.2 .out rfl
@[simp] theorem State.raise_mem (s : State) (src : Nat) (cause : Nat) (detail : Bytes) : (s.raise src cause detail).mem = s.mem := (s.raise_fr _ _ _).2.2.2.2 .mem rfl
@[simp] theorem State.raise_settings (s : State) (src : Nat) (cause : Nat) (detail : Bytes) : (s.raise src cause detail).settings = s.settings := (s.raise_fr _ _ _).2.2.2.2 .settings rfl
@[simp] theorem State.raise_dict (s : State) (src : Nat) (cause : Nat) (detail : Bytes) : (s.raise src cause detail).dict = s.dict := (s.raise_fr _ _ _).2.2.2.2 .dict rfl
@[simp] theorem State.raise_pace (s : State) (src : Nat) (cause : Nat) (detail : Bytes) : (s.raise src cause detail).pace = s.pace := (s.raise_fr _ _ _).2.2.2.2 .pace rfl
@[simp] theorem State.raise_host (s : State) (src : Nat) (cause : Nat) (detail : Bytes) : (s.raise src cause detail).host = s.host := (s.raise_fr _ _ _).2.2.2.2 .host rfl
@[simp] theorem State.raise_rings (s : State) (src : Nat) (cause : Nat) (detail : Bytes) : (s.raise src cause detail).rings = s.rings := (s.raise_fr _ _ _).2.2.2.2 .rings rfl
@[simp] theorem State.raise_place (s : State) (src : Nat) (cause : Nat) (detail : Bytes) : (s.raise src cause detail).place = s.place := (s.raise_fr _ _ _).2.2.2.2 .place rfl
@[simp] theorem State.raise_persist (s : State) (src : Nat) (cause : Nat) (detail : Bytes) : (s.raise src cause detail).persist = s.persist := (s.raise_fr _ _ _).2.2.2.2 .persist rfl
@[simp] theorem State.raise_twin (s : State) (src : Nat) (cause : Nat) (detail : Bytes) : (s.raise src cause detail).twin = s.twin := (s.raise_fr _ _ _).2.2.2.2 .twin rfl
@[simp] theorem State.raise_hinge (s : State) (src : Nat) (cause : Nat) (detail : Bytes) : (s.raise src cause detail).hinge = s.hinge := (s.raise_fr _ _ _).2.2.2.2 .hinge rfl
@[simp] theorem State.raise_pool (s : State) (src : Nat) (cause : Nat) (detail : Bytes) : (s.raise src cause detail).pool = s.pool := (s.raise_fr _ _ _).2.2.2.2 .pool rfl
@[simp] theorem State.raise_lattice (s : State) (src : Nat) (cause : Nat) (detail : Bytes) : (s.raise src cause detail).lattice = s.lattice := (s.raise_fr _ _ _).2.2.2.2 .lattice rfl
@[simp] theorem State.raise_dram (s : State) (src : Nat) (cause : Nat) (detail : Bytes) : (s.raise src cause detail).dram = s.dram := (s.raise_fr _ _ _).2.2.2.2 .dram rfl
@[simp] theorem State.raise_ecc (s : State) (src : Nat) (cause : Nat) (detail : Bytes) : (s.raise src cause detail).ecc = s.ecc := (s.raise_fr _ _ _).2.2.2.2 .ecc rfl
@[simp] theorem State.raise_cipher (s : State) (src : Nat) (cause : Nat) (detail : Bytes) : (s.raise src cause detail).cipher = s.cipher := (s.raise_fr _ _ _).2.2.2.2 .cipher rfl
@[simp] theorem State.raise_steward (s : State) (src : Nat) (cause : Nat) (detail : Bytes) : (s.raise src cause detail).steward = s.steward := (s.raise_fr _ _ _).2.2.2.2 .steward rfl
@[simp] theorem State.raise_sbox (s : State) (src : Nat) (cause : Nat) (detail : Bytes) : (s.raise src cause detail).sbox = s.sbox := (s.raise_fr _ _ _).2.2.2.2 .sbox rfl
@[simp] theorem State.raise_power (s : State) (src : Nat) (cause : Nat) (detail : Bytes) : (s.raise src cause detail).power = s.power := (s.raise_fr _ _ _).2.2.2.2 .power rfl
@[simp] theorem State.raise_setting (s : State) (src : Nat) (cause : Nat) (detail : Bytes) (idx sub : Nat) : (s.raise src cause detail).setting idx sub = s.setting idx sub := by simp only [State.setting, State.raise_settings, State.raise_hinge]

theorem State.count_fr (s : State) (n : Nat) (k : Nat) : Laws.Fr 262144 s (s.count n k) := Laws.fr_count Laws.in_self Laws.fr_refl _ _
@[simp] theorem State.count_pending (s : State) (n : Nat) (k : Nat) : (s.count n k).pending = s.pending := (s.count_fr _ _).1
@[simp] theorem State.count_now (s : State) (n : Nat) (k : Nat) : (s.count n k).now = s.now := (s.count_fr _ _).2.1
@[simp] theorem State.count_out (s : State) (n : Nat) (k : Nat) : (s.count n k).out = s.out := (s.count_fr _ _).2.2.2.2 .out rfl
@[simp] theorem State.count_mem (s : State) (n : Nat) (k : Nat) : (s.count n k).mem = s.mem := (s.count_fr _ _).2.2.2.2 .mem rfl
@[simp] theorem State.count_settings (s : State) (n : Nat) (k : Nat) : (s.count n k).settings = s.settings := (s.count_fr _ _).2.2.2.2 .settings rfl
@[simp] theorem State.count_dict (s : State) (n : Nat) (k : Nat) : (s.count n k).dict = s.dict := (s.count_fr _ _).2.2.2.2 .dict rfl
@[simp] theorem State.count_pace (s : State) (n : Nat) (k : Nat) : (s.count n k).pace = s.pace := (s.count_fr _ _).2.2.2.2 .pace rfl
@[simp] theorem State.count_host (s : State) (n : Nat) (k : Nat) : (s.count n k).host = s.host := (s.count_fr _ _).2.2.2.2 .host rfl
@[simp] theorem State.count_rings (s : State) (n : Nat) (k : Nat) : (s.count n k).rings = s.rings := (s.count_fr _ _).2.2.2.2 .rings rfl
@[simp] theorem State.count_place (s : State) (n : Nat) (k : Nat) : (s.count n k).place = s.place := (s.count_fr _ _).2.2.2.2 .place rfl
@[simp] theorem State.count_persist (s : State) (n : Nat) (k : Nat) : (s.count n k).persist = s.persist := (s.count_fr _ _).2.2.2.2 .persist rfl
@[simp] theorem State.count_twin (s : State) (n : Nat) (k : Nat) : (s.count n k).twin = s.twin := (s.count_fr _ _).2.2.2.2 .twin rfl
@[simp] theorem State.count_hinge (s : State) (n : Nat) (k : Nat) : (s.count n k).hinge = s.hinge := (s.count_fr _ _).2.2.2.2 .hinge rfl
@[simp] theorem State.count_pool (s : State) (n : Nat) (k : Nat) : (s.count n k).pool = s.pool := (s.count_fr _ _).2.2.2.2 .pool rfl
@[simp] theorem State.count_lattice (s : State) (n : Nat) (k : Nat) : (s.count n k).lattice = s.lattice := (s.count_fr _ _).2.2.2.2 .lattice rfl
@[simp] theorem State.count_dram (s : State) (n : Nat) (k : Nat) : (s.count n k).dram = s.dram := (s.count_fr _ _).2.2.2.2 .dram rfl
@[simp] theorem State.count_ecc (s : State) (n : Nat) (k : Nat) : (s.count n k).ecc = s.ecc := (s.count_fr _ _).2.2.2.2 .ecc rfl
@[simp] theorem State.count_cipher (s : State) (n : Nat) (k : Nat) : (s.count n k).cipher = s.cipher := (s.count_fr _ _).2.2.2.2 .cipher rfl
@[simp] theorem State.count_steward (s : State) (n : Nat) (k : Nat) : (s.count n k).steward = s.steward := (s.count_fr _ _).2.2.2.2 .steward rfl
@[simp] theorem State.count_sbox (s : State) (n : Nat) (k : Nat) : (s.count n k).sbox = s.sbox := (s.count_fr _ _).2.2.2.2 .sbox rfl
@[simp] theorem State.count_power (s : State) (n : Nat) (k : Nat) : (s.count n k).power = s.power := (s.count_fr _ _).2.2.2.2 .power rfl
@[simp] theorem State.count_setting (s : State) (n : Nat) (k : Nat) (idx sub : Nat) : (s.count n k).setting idx sub = s.setting idx sub := by simp only [State.setting, State.count_settings, State.count_hinge]

theorem State.countFor_fr (s : State) (n : Nat) (k : Nat) (t : ReqTag) : Laws.Fr 262144 s (s.countFor n k t) := Laws.fr_countFor Laws.in_self Laws.fr_refl _ _ _
@[simp] theorem State.countFor_pending (s : State) (n : Nat) (k : Nat) (t : ReqTag) : (s.countFor n k t).pending = s.pending := (s.countFor_fr _ _ _).1
@[simp] theorem State.countFor_now (s : State) (n : Nat) (k : Nat) (t : ReqTag) : (s.countFor n k t).now = s.now := (s.countFor_fr _ _ _).2.1
@[simp] theorem State.countFor_out (s : State) (n : Nat) (k : Nat) (t : ReqTag) : (s.countFor n k t).out = s.out := (s.countFor_fr _ _ _).2.2.2.2 .out rfl
@[simp] theorem State.countFor_mem (s : State) (n : Nat) (k : Nat) (t : ReqTag) : (s.countFor n k t).mem = s.mem := (s.countFor_fr _ _ _).2.2.2.2 .mem rfl
@[simp] theorem State.countFor_settings (s : State) (n : Nat) (k : Nat) (t : ReqTag) : (s.countFor n k t).settings = s.settings := (s.countFor_fr _ _ _).2.2.2.2 .settings rfl
@[simp] theorem State.countFor_dict (s : State) (n : Nat) (k : Nat) (t : ReqTag) : (s.countFor n k t).dict = s.dict := (s.countFor_fr _ _ _).2.2.2.2 .dict rfl
@[simp] theorem State.countFor_pace (s : State) (n : Nat) (k : Nat) (t : ReqTag) : (s.countFor n k t).pace = s.pace := (s.countFor_fr _ _ _).2.2.2.2 .pace rfl
@[simp] theorem State.countFor_host (s : State) (n : Nat) (k : Nat) (t : ReqTag) : (s.countFor n k t).host = s.host := (s.countFor_fr _ _ _).2.2.2.2 .host rfl
@[simp] theorem State.countFor_rings (s : State) (n : Nat) (k : Nat) (t : ReqTag) : (s.countFor n k t).rings = s.rings := (s.countFor_fr _ _ _).2.2.2.2 .rings rfl
@[simp] theorem State.countFor_place (s : State) (n : Nat) (k : Nat) (t : ReqTag) : (s.countFor n k t).place = s.place := (s.countFor_fr _ _ _).2.2.2.2 .place rfl
@[simp] theorem State.countFor_persist (s : State) (n : Nat) (k : Nat) (t : ReqTag) : (s.countFor n k t).persist = s.persist := (s.countFor_fr _ _ _).2.2.2.2 .persist rfl
@[simp] theorem State.countFor_twin (s : State) (n : Nat) (k : Nat) (t : ReqTag) : (s.countFor n k t).twin = s.twin := (s.countFor_fr _ _ _).2.2.2.2 .twin rfl
@[simp] theorem State.countFor_hinge (s : State) (n : Nat) (k : Nat) (t : ReqTag) : (s.countFor n k t).hinge = s.hinge := (s.countFor_fr _ _ _).2.2.2.2 .hinge rfl
@[simp] theorem State.countFor_pool (s : State) (n : Nat) (k : Nat) (t : ReqTag) : (s.countFor n k t).pool = s.pool := (s.countFor_fr _ _ _).2.2.2.2 .pool rfl
@[simp] theorem State.countFor_lattice (s : State) (n : Nat) (k : Nat) (t : ReqTag) : (s.countFor n k t).lattice = s.lattice := (s.countFor_fr _ _ _).2.2.2.2 .lattice rfl
@[simp] theorem State.countFor_dram (s : State) (n : Nat) (k : Nat) (t : ReqTag) : (s.countFor n k t).dram = s.dram := (s.countFor_fr _ _ _).2.2.2.2 .dram rfl
@[simp] theorem State.countFor_ecc (s : State) (n : Nat) (k : Nat) (t : ReqTag) : (s.countFor n k t).ecc = s.ecc := (s.countFor_fr _ _ _).2.2.2.2 .ecc rfl
@[simp] theorem State.countFor_cipher (s : State) (n : Nat) (k : Nat) (t : ReqTag) : (s.countFor n k t).cipher = s.cipher := (s.countFor_fr _ _ _).2.2.2.2 .cipher rfl
@[simp] theorem State.countFor_steward (s : State) (n : Nat) (k : Nat) (t : ReqTag) : (s.countFor n k t).steward = s.steward := (s.countFor_fr _ _ _).2.2.2.2 .steward rfl
@[simp] theorem State.countFor_sbox (s : State) (n : Nat) (k : Nat) (t : ReqTag) : (s.countFor n k t).sbox = s.sbox := (s.countFor_fr _ _ _).2.2.2.2 .sbox rfl
@[simp] theorem State.countFor_power (s : State) (n : Nat) (k : Nat) (t : ReqTag) : (s.countFor n k t).power = s.power := (s.countFor_fr _ _ _).2.2.2.2 .power rfl
@[simp] theorem State.countFor_setting (s : State) (n : Nat) (k : Nat) (t : ReqTag) (idx sub : Nat) : (s.countFor n k t).setting idx sub = s.setting idx sub := by simp only [State.setting, State.countFor_settings, State.countFor_hinge]

theorem State.ask_fr (s : State) (r : Nat) (src : Nat) (cls : Nat) (units : Nat) : Laws.Fr 274432 s (s.ask r src cls units) := Laws.fr_ask Laws.in_self Laws.fr_refl _ _ _ _
@[simp] theorem State.ask_pending (s : State) (r : Nat) (src : Nat) (cls : Nat) (units : Nat) : (s.ask r src cls units).pending = s.pending := (s.ask_fr _ _ _ _).1
@[simp] theorem State.ask_now (s : State) (r : Nat) (src : Nat) (cls : Nat) (units : Nat) : (s.ask r src cls units).now = s.now := (s.ask_fr _ _ _ _).2.1
@[simp] theorem State.ask_out (s : State) (r : Nat) (src : Nat) (cls : Nat) (units : Nat) : (s.ask r src cls units).out = s.out := (s.ask_fr _ _ _ _).2.2.2.2 .out rfl
@[simp] theorem State.ask_mem (s : State) (r : Nat) (src : Nat) (cls : Nat) (units : Nat) : (s.ask r src cls units).mem = s.mem := (s.ask_fr _ _ _ _).2.2.2.2 .mem rfl
@[simp] theorem State.ask_settings (s : State) (r : Nat) (src : Nat) (cls : Nat) (units : Nat) : (s.ask r src cls units).settings = s.settings := (s.ask_fr _ _ _ _).2.2.2.2 .settings rfl
@[simp] theorem State.ask_dict (s : State) (r : Nat) (src : Nat) (cls : Nat) (units : Nat) : (s.ask r src cls units).dict = s.dict := (s.ask_fr _ _ _ _).2.2.2.2 .dict rfl
@[simp] theorem State.ask_pace (s : State) (r : Nat) (src : Nat) (cls : Nat) (units : Nat) : (s.ask r src cls units).pace = s.pace := (s.ask_fr _ _ _ _).2.2.2.2 .pace rfl
@[simp] theorem State.ask_host (s : State) (r : Nat) (src : Nat) (cls : Nat) (units : Nat) : (s.ask r src cls units).host = s.host := (s.ask_fr _ _ _ _).2.2.2.2 .host rfl
@[simp] theorem State.ask_rings (s : State) (r : Nat) (src : Nat) (cls : Nat) (units : Nat) : (s.ask r src cls units).rings = s.rings := (s.ask_fr _ _ _ _).2.2.2.2 .rings rfl
@[simp] theorem State.ask_place (s : State) (r : Nat) (src : Nat) (cls : Nat) (units : Nat) : (s.ask r src cls units).place = s.place := (s.ask_fr _ _ _ _).2.2.2.2 .place rfl
@[simp] theorem State.ask_persist (s : State) (r : Nat) (src : Nat) (cls : Nat) (units : Nat) : (s.ask r src cls units).persist = s.persist := (s.ask_fr _ _ _ _).2.2.2.2 .persist rfl
@[simp] theorem State.ask_twin (s : State) (r : Nat) (src : Nat) (cls : Nat) (units : Nat) : (s.ask r src cls units).twin = s.twin := (s.ask_fr _ _ _ _).2.2.2.2 .twin rfl
@[simp] theorem State.ask_hinge (s : State) (r : Nat) (src : Nat) (cls : Nat) (units : Nat) : (s.ask r src cls units).hinge = s.hinge := (s.ask_fr _ _ _ _).2.2.2.2 .hinge rfl
@[simp] theorem State.ask_pool (s : State) (r : Nat) (src : Nat) (cls : Nat) (units : Nat) : (s.ask r src cls units).pool = s.pool := (s.ask_fr _ _ _ _).2.2.2.2 .pool rfl
@[simp] theorem State.ask_ecc (s : State) (r : Nat) (src : Nat) (cls : Nat) (units : Nat) : (s.ask r src cls units).ecc = s.ecc := (s.ask_fr _ _ _ _).2.2.2.2 .ecc rfl
@[simp] theorem State.ask_cipher (s : State) (r : Nat) (src : Nat) (cls : Nat) (units : Nat) : (s.ask r src cls units).cipher = s.cipher := (s.ask_fr _ _ _ _).2.2.2.2 .cipher rfl
@[simp] theorem State.ask_steward (s : State) (r : Nat) (src : Nat) (cls : Nat) (units : Nat) : (s.ask r src cls units).steward = s.steward := (s.ask_fr _ _ _ _).2.2.2.2 .steward rfl
@[simp] theorem State.ask_sbox (s : State) (r : Nat) (src : Nat) (cls : Nat) (units : Nat) : (s.ask r src cls units).sbox = s.sbox := (s.ask_fr _ _ _ _).2.2.2.2 .sbox rfl
@[simp] theorem State.ask_power (s : State) (r : Nat) (src : Nat) (cls : Nat) (units : Nat) : (s.ask r src cls units).power = s.power := (s.ask_fr _ _ _ _).2.2.2.2 .power rfl
@[simp] theorem State.ask_setting (s : State) (r : Nat) (src : Nat) (cls : Nat) (units : Nat) (idx sub : Nat) : (s.ask r src cls units).setting idx sub = s.setting idx sub := by simp only [State.setting, State.ask_settings, State.ask_hinge]

theorem State.putFrame_fr (s : State) (f : Frame) : Laws.Fr 275457 s (s.putFrame f) := Laws.fr_putFrame Laws.in_self Laws.fr_refl _
@[simp] theorem State.putFrame_pending (s : State) (f : Frame) : (s.putFrame f).pending = s.pending := (s.putFrame_fr _).1
@[simp] theorem State.putFrame_now (s : State) (f : Frame) : (s.putFrame f).now = s.now := (s.putFrame_fr _).2.1
@[simp] theorem State.putFrame_mem (s : State) (f : Frame) : (s.putFrame f).mem = s.mem := (s.putFrame_fr _).2.2.2.2 .mem rfl
@[simp] theorem State.putFrame_settings (s : State) (f : Frame) : (s.putFrame f).settings = s.settings := (s.putFrame_fr _).2.2.2.2 .settings rfl
@[simp] theorem State.putFrame_dict (s : State) (f : Frame) : (s.putFrame f).dict = s.dict := (s.putFrame_fr _).2.2.2.2 .dict rfl
@[simp] theorem State.putFrame_pace (s : State) (f : Frame) : (s.putFrame f).pace = s.pace := (s.putFrame_fr _).2.2.2.2 .pace rfl
@[simp] theorem State.putFrame_host (s : State) (f : Frame) : (s.putFrame f).host = s.host := (s.putFrame_fr _).2.2.2.2 .host rfl
@[simp] theorem State.putFrame_rings (s : State) (f : Frame) : (s.putFrame f).rings = s.rings := (s.putFrame_fr _).2.2.2.2 .rings rfl
@[simp] theorem State.putFrame_place (s : State) (f : Frame) : (s.putFrame f).place = s.place := (s.putFrame_fr _).2.2.2.2 .place rfl
@[simp] theorem State.putFrame_persist (s : State) (f : Frame) : (s.putFrame f).persist = s.persist := (s.putFrame_fr _).2.2.2.2 .persist rfl
@[simp] theorem State.putFrame_twin (s : State) (f : Frame) : (s.putFrame f).twin = s.twin := (s.putFrame_fr _).2.2.2.2 .twin rfl
@[simp] theorem State.putFrame_pool (s : State) (f : Frame) : (s.putFrame f).pool = s.pool := (s.putFrame_fr _).2.2.2.2 .pool rfl
@[simp] theorem State.putFrame_ecc (s : State) (f : Frame) : (s.putFrame f).ecc = s.ecc := (s.putFrame_fr _).2.2.2.2 .ecc rfl
@[simp] theorem State.putFrame_cipher (s : State) (f : Frame) : (s.putFrame f).cipher = s.cipher := (s.putFrame_fr _).2.2.2.2 .cipher rfl
@[simp] theorem State.putFrame_steward (s : State) (f : Frame) : (s.putFrame f).steward = s.steward := (s.putFrame_fr _).2.2.2.2 .steward rfl
@[simp] theorem State.putFrame_sbox (s : State) (f : Frame) : (s.putFrame f).sbox = s.sbox := (s.putFrame_fr _).2.2.2.2 .sbox rfl
@[simp] theorem State.putFrame_power (s : State) (f : Frame) : (s.putFrame f).power = s.power := (s.putFrame_fr _).2.2.2.2 .power rfl

theorem State.send_fr (s : State) (peer : Nat) (b : FBody) : Laws.Fr 308225 s (s.send peer b) := Laws.fr_send Laws.in_self Laws.fr_refl _ _
@[simp] theorem State.send_pending (s : State) (peer : Nat) (b : FBody) : (s.send peer b).pending = s.pending := (s.send_fr _ _).1
@[simp] theorem State.send_now (s : State) (peer : Nat) (b : FBody) : (s.send peer b).now = s.now := (s.send_fr _ _).2.1
@[simp] theorem State.send_mem (s : State) (peer : Nat) (b : FBody) : (s.send peer b).mem = s.mem := (s.send_fr _ _).2.2.2.2 .mem rfl
@[simp] theorem State.send_settings (s : State) (peer : Nat) (b : FBody) : (s.send peer b).settings = s.settings := (s.send_fr _ _).2.2.2.2 .settings rfl
@[simp] theorem State.send_dict (s : State) (peer : Nat) (b : FBody) : (s.send peer b).dict = s.dict := (s.send_fr _ _).2.2.2.2 .dict rfl
@[simp] theorem State.send_pace (s : State) (peer : Nat) (b : FBody) : (s.send peer b).pace = s.pace := (s.send_fr _ _).2.2.2.2 .pace rfl
@[simp] theorem State.send_host (s : State) (peer : Nat) (b : FBody) : (s.send peer b).host = s.host := (s.send_fr _ _).2.2.2.2 .host rfl
@[simp] theorem State.send_rings (s : State) (peer : Nat) (b : FBody) : (s.send peer b).rings = s.rings := (s.send_fr _ _).2.2.2.2 .rings rfl
@[simp] theorem State.send_place (s : State) (peer : Nat) (b : FBody) : (s.send peer b).place = s.place := (s.send_fr _ _).2.2.2.2 .place rfl
@[simp] theorem State.send_persist (s : State) (peer : Nat) (b : FBody) : (s.send peer b).persist = s.persist := (s.send_fr _ _).2.2.2.2 .persist rfl
@[simp] theorem State.send_twin (s : State) (peer : Nat) (b : FBody) : (s.send peer b).twin = s.twin := (s.send_fr _ _).2.2.2.2 .twin rfl
@[simp] theorem State.send_pool (s : State) (peer : Nat) (b : FBody) : (s.send peer b).pool = s.pool := (s.send_fr _ _).2.2.2.2 .pool rfl
@[simp] theorem State.send_ecc (s : State) (peer : Nat) (b : FBody) : (s.send peer b).ecc = s.ecc := (s.send_fr _ _).2.2.2.2 .ecc rfl
@[simp] theorem State.send_steward (s : State) (peer : Nat) (b : FBody) : (s.send peer b).steward = s.steward := (s.send_fr _ _).2.2.2.2 .steward rfl
@[simp] theorem State.send_sbox (s : State) (peer : Nat) (b : FBody) : (s.send peer b).sbox = s.sbox := (s.send_fr _ _).2.2.2.2 .sbox rfl
@[simp] theorem State.send_power (s : State) (peer : Nat) (b : FBody) : (s.send peer b).power = s.power := (s.send_fr _ _).2.2.2.2 .power rfl

theorem State.respond_fr (s : State) (rq : Req) (r : DictResp) : Laws.Fr 308265 s (s.respond rq r) := Laws.fr_respond Laws.in_self Laws.fr_refl _ _
@[simp] theorem State.respond_pending (s : State) (rq : Req) (r : DictResp) : (s.respond rq r).pending = s.pending := (s.respond_fr _ _).1
@[simp] theorem State.respond_now (s : State) (rq : Req) (r : DictResp) : (s.respond rq r).now = s.now := (s.respond_fr _ _).2.1
@[simp] theorem State.respond_mem (s : State) (rq : Req) (r : DictResp) : (s.respond rq r).mem = s.mem := (s.respond_fr _ _).2.2.2.2 .mem rfl
@[simp] theorem State.respond_settings (s : State) (rq : Req) (r : DictResp) : (s.respond rq r).settings = s.settings := (s.respond_fr _ _).2.2.2.2 .settings rfl
@[simp] theorem State.respond_pace (s : State) (rq : Req) (r : DictResp) : (s.respond rq r).pace = s.pace := (s.respond_fr _ _).2.2.2.2 .pace rfl
@[simp] theorem State.respond_rings (s : State) (rq : Req) (r : DictResp) : (s.respond rq r).rings = s.rings := (s.respond_fr _ _).2.2.2.2 .rings rfl
@[simp] theorem State.respond_place (s : State) (rq : Req) (r : DictResp) : (s.respond rq r).place = s.place := (s.respond_fr _ _).2.2.2.2 .place rfl
@[simp] theorem State.respond_persist (s : State) (rq : Req) (r : DictResp) : (s.respond rq r).persist = s.persist := (s.respond_fr _ _).2.2.2.2 .persist rfl
@[simp] theorem State.respond_twin (s : State) (rq : Req) (r : DictResp) : (s.respond rq r).twin = s.twin := (s.respond_fr _ _).2.2.2.2 .twin rfl
@[simp] theorem State.respond_pool (s : State) (rq : Req) (r : DictResp) : (s.respond rq r).pool = s.pool := (s.respond_fr _ _).2.2.2.2 .pool rfl
@[simp] theorem State.respond_ecc (s : State) (rq : Req) (r : DictResp) : (s.respond rq r).ecc = s.ecc := (s.respond_fr _ _).2.2.2.2 .ecc rfl
@[simp] theorem State.respond_steward (s : State) (rq : Req) (r : DictResp) : (s.respond rq r).steward = s.steward := (s.respond_fr _ _).2.2.2.2 .steward rfl
@[simp] theorem State.respond_sbox (s : State) (rq : Req) (r : DictResp) : (s.respond rq r).sbox = s.sbox := (s.respond_fr _ _).2.2.2.2 .sbox rfl
@[simp] theorem State.respond_power (s : State) (rq : Req) (r : DictResp) : (s.respond rq r).power = s.power := (s.respond_fr _ _).2.2.2.2 .power rfl

theorem State.msix_fr (s : State) (p : Nat) (l : Nat) (v : Nat) : Laws.Fr 33 s (s.msix p l v) := Laws.fr_msix Laws.in_self Laws.fr_refl _ _ _
@[simp] theorem State.msix_pending (s : State) (p : Nat) (l : Nat) (v : Nat) : (s.msix p l v).pending = s.pending := (s.msix_fr _ _ _).1
@[simp] theorem State.msix_now (s : State) (p : Nat) (l : Nat) (v : Nat) : (s.msix p l v).now = s.now := (s.msix_fr _ _ _).2.1
@[simp] theorem State.msix_mem (s : State) (p : Nat) (l : Nat) (v : Nat) : (s.msix p l v).mem = s.mem := (s.msix_fr _ _ _).2.2.2.2 .mem rfl
@[simp] theorem State.msix_settings (s : State) (p : Nat) (l : Nat) (v : Nat) : (s.msix p l v).settings = s.settings := (s.msix_fr _ _ _).2.2.2.2 .settings rfl
@[simp] theorem State.msix_dict (s : State) (p : Nat) (l : Nat) (v : Nat) : (s.msix p l v).dict = s.dict := (s.msix_fr _ _ _).2.2.2.2 .dict rfl
@[simp] theorem State.msix_pace (s : State) (p : Nat) (l : Nat) (v : Nat) : (s.msix p l v).pace = s.pace := (s.msix_fr _ _ _).2.2.2.2 .pace rfl
@[simp] theorem State.msix_rings (s : State) (p : Nat) (l : Nat) (v : Nat) : (s.msix p l v).rings = s.rings := (s.msix_fr _ _ _).2.2.2.2 .rings rfl
@[simp] theorem State.msix_place (s : State) (p : Nat) (l : Nat) (v : Nat) : (s.msix p l v).place = s.place := (s.msix_fr _ _ _).2.2.2.2 .place rfl
@[simp] theorem State.msix_persist (s : State) (p : Nat) (l : Nat) (v : Nat) : (s.msix p l v).persist = s.persist := (s.msix_fr _ _ _).2.2.2.2 .persist rfl
@[simp] theorem State.msix_twin (s : State) (p : Nat) (l : Nat) (v : Nat) : (s.msix p l v).twin = s.twin := (s.msix_fr _ _ _).2.2.2.2 .twin rfl
@[simp] theorem State.msix_hinge (s : State) (p : Nat) (l : Nat) (v : Nat) : (s.msix p l v).hinge = s.hinge := (s.msix_fr _ _ _).2.2.2.2 .hinge rfl
@[simp] theorem State.msix_pool (s : State) (p : Nat) (l : Nat) (v : Nat) : (s.msix p l v).pool = s.pool := (s.msix_fr _ _ _).2.2.2.2 .pool rfl
@[simp] theorem State.msix_lattice (s : State) (p : Nat) (l : Nat) (v : Nat) : (s.msix p l v).lattice = s.lattice := (s.msix_fr _ _ _).2.2.2.2 .lattice rfl
@[simp] theorem State.msix_dram (s : State) (p : Nat) (l : Nat) (v : Nat) : (s.msix p l v).dram = s.dram := (s.msix_fr _ _ _).2.2.2.2 .dram rfl
@[simp] theorem State.msix_ecc (s : State) (p : Nat) (l : Nat) (v : Nat) : (s.msix p l v).ecc = s.ecc := (s.msix_fr _ _ _).2.2.2.2 .ecc rfl
@[simp] theorem State.msix_cipher (s : State) (p : Nat) (l : Nat) (v : Nat) : (s.msix p l v).cipher = s.cipher := (s.msix_fr _ _ _).2.2.2.2 .cipher rfl
@[simp] theorem State.msix_steward (s : State) (p : Nat) (l : Nat) (v : Nat) : (s.msix p l v).steward = s.steward := (s.msix_fr _ _ _).2.2.2.2 .steward rfl
@[simp] theorem State.msix_sbox (s : State) (p : Nat) (l : Nat) (v : Nat) : (s.msix p l v).sbox = s.sbox := (s.msix_fr _ _ _).2.2.2.2 .sbox rfl
@[simp] theorem State.msix_rec_ (s : State) (p : Nat) (l : Nat) (v : Nat) : (s.msix p l v).rec_ = s.rec_ := (s.msix_fr _ _ _).2.2.2.2 .recorder rfl
@[simp] theorem State.msix_power (s : State) (p : Nat) (l : Nat) (v : Nat) : (s.msix p l v).power = s.power := (s.msix_fr _ _ _).2.2.2.2 .power rfl
@[simp] theorem State.msix_setting (s : State) (p : Nat) (l : Nat) (v : Nat) (idx sub : Nat) : (s.msix p l v).setting idx sub = s.setting idx sub := by simp only [State.setting, State.msix_settings, State.msix_hinge]

theorem State.touch_fr (s : State) (rq : Req) : Laws.Fr 8 s (s.touch rq) := Laws.fr_touch Laws.in_self Laws.fr_refl _
@[simp] theorem State.touch_pending (s : State) (rq : Req) : (s.touch rq).pending = s.pending := (s.touch_fr _).1
@[simp] theorem State.touch_now (s : State) (rq : Req) : (s.touch rq).now = s.now := (s.touch_fr _).2.1
@[simp] theorem State.touch_out (s : State) (rq : Req) : (s.touch rq).out = s.out := (s.touch_fr _).2.2.2.2 .out rfl
@[simp] theorem State.touch_mem (s : State) (rq : Req) : (s.touch rq).mem = s.mem := (s.touch_fr _).2.2.2.2 .mem rfl
@[simp] theorem State.touch_settings (s : State) (rq : Req) : (s.touch rq).settings = s.settings := (s.touch_fr _).2.2.2.2 .settings rfl
@[simp] theorem State.touch_pace (s : State) (rq : Req) : (s.touch rq).pace = s.pace := (s.touch_fr _).2.2.2.2 .pace rfl
@[simp] theorem State.touch_host (s : State) (rq : Req) : (s.touch rq).host = s.host := (s.touch_fr _).2.2.2.2 .host rfl
@[simp] theorem State.touch_rings (s : State) (rq : Req) : (s.touch rq).rings = s.rings := (s.touch_fr _).2.2.2.2 .rings rfl
@[simp] theorem State.touch_place (s : State) (rq : Req) : (s.touch rq).place = s.place := (s.touch_fr _).2.2.2.2 .place rfl
@[simp] theorem State.touch_persist (s : State) (rq : Req) : (s.touch rq).persist = s.persist := (s.touch_fr _).2.2.2.2 .persist rfl
@[simp] theorem State.touch_twin (s : State) (rq : Req) : (s.touch rq).twin = s.twin := (s.touch_fr _).2.2.2.2 .twin rfl
@[simp] theorem State.touch_hinge (s : State) (rq : Req) : (s.touch rq).hinge = s.hinge := (s.touch_fr _).2.2.2.2 .hinge rfl
@[simp] theorem State.touch_pool (s : State) (rq : Req) : (s.touch rq).pool = s.pool := (s.touch_fr _).2.2.2.2 .pool rfl
@[simp] theorem State.touch_lattice (s : State) (rq : Req) : (s.touch rq).lattice = s.lattice := (s.touch_fr _).2.2.2.2 .lattice rfl
@[simp] theorem State.touch_dram (s : State) (rq : Req) : (s.touch rq).dram = s.dram := (s.touch_fr _).2.2.2.2 .dram rfl
@[simp] theorem State.touch_ecc (s : State) (rq : Req) : (s.touch rq).ecc = s.ecc := (s.touch_fr _).2.2.2.2 .ecc rfl
@[simp] theorem State.touch_cipher (s : State) (rq : Req) : (s.touch rq).cipher = s.cipher := (s.touch_fr _).2.2.2.2 .cipher rfl
@[simp] theorem State.touch_steward (s : State) (rq : Req) : (s.touch rq).steward = s.steward := (s.touch_fr _).2.2.2.2 .steward rfl
@[simp] theorem State.touch_sbox (s : State) (rq : Req) : (s.touch rq).sbox = s.sbox := (s.touch_fr _).2.2.2.2 .sbox rfl
@[simp] theorem State.touch_rec_ (s : State) (rq : Req) : (s.touch rq).rec_ = s.rec_ := (s.touch_fr _).2.2.2.2 .recorder rfl
@[simp] theorem State.touch_power (s : State) (rq : Req) : (s.touch rq).power = s.power := (s.touch_fr _).2.2.2.2 .power rfl
@[simp] theorem State.touch_setting (s : State) (rq : Req) (idx sub : Nat) : (s.touch rq).setting idx sub = s.setting idx sub := by simp only [State.setting, State.touch_settings, State.touch_hinge]

theorem State.tell_fr (s : State) (v : Nat) (code : Nat) (m : PMsg) : Laws.Fr 308225 s (s.tell v code m) := Laws.fr_tell Laws.in_self Laws.fr_refl _ _ _
@[simp] theorem State.tell_pending (s : State) (v : Nat) (code : Nat) (m : PMsg) : (s.tell v code m).pending = s.pending := (s.tell_fr _ _ _).1
@[simp] theorem State.tell_now (s : State) (v : Nat) (code : Nat) (m : PMsg) : (s.tell v code m).now = s.now := (s.tell_fr _ _ _).2.1
@[simp] theorem State.tell_mem (s : State) (v : Nat) (code : Nat) (m : PMsg) : (s.tell v code m).mem = s.mem := (s.tell_fr _ _ _).2.2.2.2 .mem rfl
@[simp] theorem State.tell_settings (s : State) (v : Nat) (code : Nat) (m : PMsg) : (s.tell v code m).settings = s.settings := (s.tell_fr _ _ _).2.2.2.2 .settings rfl
@[simp] theorem State.tell_dict (s : State) (v : Nat) (code : Nat) (m : PMsg) : (s.tell v code m).dict = s.dict := (s.tell_fr _ _ _).2.2.2.2 .dict rfl
@[simp] theorem State.tell_pace (s : State) (v : Nat) (code : Nat) (m : PMsg) : (s.tell v code m).pace = s.pace := (s.tell_fr _ _ _).2.2.2.2 .pace rfl
@[simp] theorem State.tell_host (s : State) (v : Nat) (code : Nat) (m : PMsg) : (s.tell v code m).host = s.host := (s.tell_fr _ _ _).2.2.2.2 .host rfl
@[simp] theorem State.tell_rings (s : State) (v : Nat) (code : Nat) (m : PMsg) : (s.tell v code m).rings = s.rings := (s.tell_fr _ _ _).2.2.2.2 .rings rfl
@[simp] theorem State.tell_place (s : State) (v : Nat) (code : Nat) (m : PMsg) : (s.tell v code m).place = s.place := (s.tell_fr _ _ _).2.2.2.2 .place rfl
@[simp] theorem State.tell_persist (s : State) (v : Nat) (code : Nat) (m : PMsg) : (s.tell v code m).persist = s.persist := (s.tell_fr _ _ _).2.2.2.2 .persist rfl
@[simp] theorem State.tell_twin (s : State) (v : Nat) (code : Nat) (m : PMsg) : (s.tell v code m).twin = s.twin := (s.tell_fr _ _ _).2.2.2.2 .twin rfl
@[simp] theorem State.tell_pool (s : State) (v : Nat) (code : Nat) (m : PMsg) : (s.tell v code m).pool = s.pool := (s.tell_fr _ _ _).2.2.2.2 .pool rfl
@[simp] theorem State.tell_ecc (s : State) (v : Nat) (code : Nat) (m : PMsg) : (s.tell v code m).ecc = s.ecc := (s.tell_fr _ _ _).2.2.2.2 .ecc rfl
@[simp] theorem State.tell_steward (s : State) (v : Nat) (code : Nat) (m : PMsg) : (s.tell v code m).steward = s.steward := (s.tell_fr _ _ _).2.2.2.2 .steward rfl
@[simp] theorem State.tell_sbox (s : State) (v : Nat) (code : Nat) (m : PMsg) : (s.tell v code m).sbox = s.sbox := (s.tell_fr _ _ _).2.2.2.2 .sbox rfl
@[simp] theorem State.tell_power (s : State) (v : Nat) (code : Nat) (m : PMsg) : (s.tell v code m).power = s.power := (s.tell_fr _ _ _).2.2.2.2 .power rfl

theorem State.modXport_fr (s : State) (p : Nat) (f : XPort → XPort) : Laws.Fr 1024 s (s.modXport p f) := Laws.fr_modXport Laws.in_self Laws.fr_refl _ _
@[simp] theorem State.modXport_pending (s : State) (p : Nat) (f : XPort → XPort) : (s.modXport p f).pending = s.pending := (s.modXport_fr _ _).1
@[simp] theorem State.modXport_now (s : State) (p : Nat) (f : XPort → XPort) : (s.modXport p f).now = s.now := (s.modXport_fr _ _).2.1
@[simp] theorem State.modXport_out (s : State) (p : Nat) (f : XPort → XPort) : (s.modXport p f).out = s.out := (s.modXport_fr _ _).2.2.2.2 .out rfl
@[simp] theorem State.modXport_mem (s : State) (p : Nat) (f : XPort → XPort) : (s.modXport p f).mem = s.mem := (s.modXport_fr _ _).2.2.2.2 .mem rfl
@[simp] theorem State.modXport_settings (s : State) (p : Nat) (f : XPort → XPort) : (s.modXport p f).settings = s.settings := (s.modXport_fr _ _).2.2.2.2 .settings rfl
@[simp] theorem State.modXport_dict (s : State) (p : Nat) (f : XPort → XPort) : (s.modXport p f).dict = s.dict := (s.modXport_fr _ _).2.2.2.2 .dict rfl
@[simp] theorem State.modXport_pace (s : State) (p : Nat) (f : XPort → XPort) : (s.modXport p f).pace = s.pace := (s.modXport_fr _ _).2.2.2.2 .pace rfl
@[simp] theorem State.modXport_host (s : State) (p : Nat) (f : XPort → XPort) : (s.modXport p f).host = s.host := (s.modXport_fr _ _).2.2.2.2 .host rfl
@[simp] theorem State.modXport_rings (s : State) (p : Nat) (f : XPort → XPort) : (s.modXport p f).rings = s.rings := (s.modXport_fr _ _).2.2.2.2 .rings rfl
@[simp] theorem State.modXport_place (s : State) (p : Nat) (f : XPort → XPort) : (s.modXport p f).place = s.place := (s.modXport_fr _ _).2.2.2.2 .place rfl
@[simp] theorem State.modXport_persist (s : State) (p : Nat) (f : XPort → XPort) : (s.modXport p f).persist = s.persist := (s.modXport_fr _ _).2.2.2.2 .persist rfl
@[simp] theorem State.modXport_twin (s : State) (p : Nat) (f : XPort → XPort) : (s.modXport p f).twin = s.twin := (s.modXport_fr _ _).2.2.2.2 .twin rfl
@[simp] theorem State.modXport_pool (s : State) (p : Nat) (f : XPort → XPort) : (s.modXport p f).pool = s.pool := (s.modXport_fr _ _).2.2.2.2 .pool rfl
@[simp] theorem State.modXport_lattice (s : State) (p : Nat) (f : XPort → XPort) : (s.modXport p f).lattice = s.lattice := (s.modXport_fr _ _).2.2.2.2 .lattice rfl
@[simp] theorem State.modXport_dram (s : State) (p : Nat) (f : XPort → XPort) : (s.modXport p f).dram = s.dram := (s.modXport_fr _ _).2.2.2.2 .dram rfl
@[simp] theorem State.modXport_ecc (s : State) (p : Nat) (f : XPort → XPort) : (s.modXport p f).ecc = s.ecc := (s.modXport_fr _ _).2.2.2.2 .ecc rfl
@[simp] theorem State.modXport_cipher (s : State) (p : Nat) (f : XPort → XPort) : (s.modXport p f).cipher = s.cipher := (s.modXport_fr _ _).2.2.2.2 .cipher rfl
@[simp] theorem State.modXport_steward (s : State) (p : Nat) (f : XPort → XPort) : (s.modXport p f).steward = s.steward := (s.modXport_fr _ _).2.2.2.2 .steward rfl
@[simp] theorem State.modXport_sbox (s : State) (p : Nat) (f : XPort → XPort) : (s.modXport p f).sbox = s.sbox := (s.modXport_fr _ _).2.2.2.2 .sbox rfl
@[simp] theorem State.modXport_rec_ (s : State) (p : Nat) (f : XPort → XPort) : (s.modXport p f).rec_ = s.rec_ := (s.modXport_fr _ _).2.2.2.2 .recorder rfl
@[simp] theorem State.modXport_power (s : State) (p : Nat) (f : XPort → XPort) : (s.modXport p f).power = s.power := (s.modXport_fr _ _).2.2.2.2 .power rfl

theorem State.putConn_fr (s : State) (c : Conn) : Laws.Fr 1024 s (s.putConn c) := Laws.fr_putConn Laws.in_self Laws.fr_refl _
@[simp] theorem State.putConn_pending (s : State) (c : Conn) : (s.putConn c).pending = s.pending := (s.putConn_fr _).1
@[simp] theorem State.putConn_now (s : State) (c : Conn) : (s.putConn c).now = s.now := (s.putConn_fr _).2.1
@[simp] theorem State.putConn_out (s : State) (c : Conn) : (s.putConn c).out = s.out := (s.putConn_fr _).2.2.2.2 .out rfl
@[simp] theorem State.putConn_mem (s : State) (c : Conn) : (s.putConn c).mem = s.mem := (s.putConn_fr _).2.2.2.2 .mem rfl
@[simp] theorem State.putConn_settings (s : State) (c : Conn) : (s.putConn c).settings = s.settings := (s.putConn_fr _).2.2.2.2 .settings rfl
@[simp] theorem State.putConn_dict (s : State) (c : Conn) : (s.putConn c).dict = s.dict := (s.putConn_fr _).2.2.2.2 .dict rfl
@[simp] theorem State.putConn_pace (s : State) (c : Conn) : (s.putConn c).pace = s.pace := (s.putConn_fr _).2.2.2.2 .pace rfl
@[simp] theorem State.putConn_host (s : State) (c : Conn) : (s.putConn c).host = s.host := (s.putConn_fr _).2.2.2.2 .host rfl
@[simp] theorem State.putConn_rings (s : State) (c : Conn) : (s.putConn c).rings = s.rings := (s.putConn_fr _).2.2.2.2 .rings rfl
@[simp] theorem State.putConn_place (s : State) (c : Conn) : (s.putConn c).place = s.place := (s.putConn_fr _).2.2.2.2 .place rfl
@[simp] theorem State.putConn_persist (s : State) (c : Conn) : (s.putConn c).persist = s.persist := (s.putConn_fr _).2.2.2.2 .persist rfl
@[simp] theorem State.putConn_twin (s : State) (c : Conn) : (s.putConn c).twin = s.twin := (s.putConn_fr _).2.2.2.2 .twin rfl
@[simp] theorem State.putConn_pool (s : State) (c : Conn) : (s.putConn c).pool = s.pool := (s.putConn_fr _).2.2.2.2 .pool rfl
@[simp] theorem State.putConn_lattice (s : State) (c : Conn) : (s.putConn c).lattice = s.lattice := (s.putConn_fr _).2.2.2.2 .lattice rfl
@[simp] theorem State.putConn_dram (s : State) (c : Conn) : (s.putConn c).dram = s.dram := (s.putConn_fr _).2.2.2.2 .dram rfl
@[simp] theorem State.putConn_ecc (s : State) (c : Conn) : (s.putConn c).ecc = s.ecc := (s.putConn_fr _).2.2.2.2 .ecc rfl
@[simp] theorem State.putConn_cipher (s : State) (c : Conn) : (s.putConn c).cipher = s.cipher := (s.putConn_fr _).2.2.2.2 .cipher rfl
@[simp] theorem State.putConn_steward (s : State) (c : Conn) : (s.putConn c).steward = s.steward := (s.putConn_fr _).2.2.2.2 .steward rfl
@[simp] theorem State.putConn_sbox (s : State) (c : Conn) : (s.putConn c).sbox = s.sbox := (s.putConn_fr _).2.2.2.2 .sbox rfl
@[simp] theorem State.putConn_rec_ (s : State) (c : Conn) : (s.putConn c).rec_ = s.rec_ := (s.putConn_fr _).2.2.2.2 .recorder rfl
@[simp] theorem State.putConn_power (s : State) (c : Conn) : (s.putConn c).power = s.power := (s.putConn_fr _).2.2.2.2 .power rfl

theorem State.dropConn_fr (s : State) (peer : Nat) (port : Nat) : Laws.Fr 1024 s (s.dropConn peer port) := Laws.fr_dropConn Laws.in_self Laws.fr_refl _ _
@[simp] theorem State.dropConn_pending (s : State) (peer : Nat) (port : Nat) : (s.dropConn peer port).pending = s.pending := (s.dropConn_fr _ _).1
@[simp] theorem State.dropConn_now (s : State) (peer : Nat) (port : Nat) : (s.dropConn peer port).now = s.now := (s.dropConn_fr _ _).2.1
@[simp] theorem State.dropConn_out (s : State) (peer : Nat) (port : Nat) : (s.dropConn peer port).out = s.out := (s.dropConn_fr _ _).2.2.2.2 .out rfl
@[simp] theorem State.dropConn_mem (s : State) (peer : Nat) (port : Nat) : (s.dropConn peer port).mem = s.mem := (s.dropConn_fr _ _).2.2.2.2 .mem rfl
@[simp] theorem State.dropConn_settings (s : State) (peer : Nat) (port : Nat) : (s.dropConn peer port).settings = s.settings := (s.dropConn_fr _ _).2.2.2.2 .settings rfl
@[simp] theorem State.dropConn_dict (s : State) (peer : Nat) (port : Nat) : (s.dropConn peer port).dict = s.dict := (s.dropConn_fr _ _).2.2.2.2 .dict rfl
@[simp] theorem State.dropConn_pace (s : State) (peer : Nat) (port : Nat) : (s.dropConn peer port).pace = s.pace := (s.dropConn_fr _ _).2.2.2.2 .pace rfl
@[simp] theorem State.dropConn_host (s : State) (peer : Nat) (port : Nat) : (s.dropConn peer port).host = s.host := (s.dropConn_fr _ _).2.2.2.2 .host rfl
@[simp] theorem State.dropConn_rings (s : State) (peer : Nat) (port : Nat) : (s.dropConn peer port).rings = s.rings := (s.dropConn_fr _ _).2.2.2.2 .rings rfl
@[simp] theorem State.dropConn_place (s : State) (peer : Nat) (port : Nat) : (s.dropConn peer port).place = s.place := (s.dropConn_fr _ _).2.2.2.2 .place rfl
@[simp] theorem State.dropConn_persist (s : State) (peer : Nat) (port : Nat) : (s.dropConn peer port).persist = s.persist := (s.dropConn_fr _ _).2.2.2.2 .persist rfl
@[simp] theorem State.dropConn_twin (s : State) (peer : Nat) (port : Nat) : (s.dropConn peer port).twin = s.twin := (s.dropConn_fr _ _).2.2.2.2 .twin rfl
@[simp] theorem State.dropConn_pool (s : State) (peer : Nat) (port : Nat) : (s.dropConn peer port).pool = s.pool := (s.dropConn_fr _ _).2.2.2.2 .pool rfl
@[simp] theorem State.dropConn_lattice (s : State) (peer : Nat) (port : Nat) : (s.dropConn peer port).lattice = s.lattice := (s.dropConn_fr _ _).2.2.2.2 .lattice rfl
@[simp] theorem State.dropConn_dram (s : State) (peer : Nat) (port : Nat) : (s.dropConn peer port).dram = s.dram := (s.dropConn_fr _ _).2.2.2.2 .dram rfl
@[simp] theorem State.dropConn_ecc (s : State) (peer : Nat) (port : Nat) : (s.dropConn peer port).ecc = s.ecc := (s.dropConn_fr _ _).2.2.2.2 .ecc rfl
@[simp] theorem State.dropConn_cipher (s : State) (peer : Nat) (port : Nat) : (s.dropConn peer port).cipher = s.cipher := (s.dropConn_fr _ _).2.2.2.2 .cipher rfl
@[simp] theorem State.dropConn_steward (s : State) (peer : Nat) (port : Nat) : (s.dropConn peer port).steward = s.steward := (s.dropConn_fr _ _).2.2.2.2 .steward rfl
@[simp] theorem State.dropConn_sbox (s : State) (peer : Nat) (port : Nat) : (s.dropConn peer port).sbox = s.sbox := (s.dropConn_fr _ _).2.2.2.2 .sbox rfl
@[simp] theorem State.dropConn_rec_ (s : State) (peer : Nat) (port : Nat) : (s.dropConn peer port).rec_ = s.rec_ := (s.dropConn_fr _ _).2.2.2.2 .recorder rfl
@[simp] theorem State.dropConn_power (s : State) (peer : Nat) (port : Nat) : (s.dropConn peer port).power = s.power := (s.dropConn_fr _ _).2.2.2.2 .power rfl

theorem State.modChan_fr (s : State) (n : Nat) (f : Chan → Chan) : Laws.Fr 8192 s (s.modChan n f) := Laws.fr_modChan Laws.in_self Laws.fr_refl _ _
@[simp] theorem State.modChan_pending (s : State) (n : Nat) (f : Chan → Chan) : (s.modChan n f).pending = s.pending := (s.modChan_fr _ _).1
@[simp] theorem State.modChan_now (s : State) (n : Nat) (f : Chan → Chan) : (s.modChan n f).now = s.now := (s.modChan_fr _ _).2.1
@[simp] theorem State.modChan_out (s : State) (n : Nat) (f : Chan → Chan) : (s.modChan n f).out = s.out := (s.modChan_fr _ _).2.2.2.2 .out rfl
@[simp] theorem State.modChan_mem (s : State) (n : Nat) (f : Chan → Chan) : (s.modChan n f).mem = s.mem := (s.modChan_fr _ _).2.2.2.2 .mem rfl
@[simp] theorem State.modChan_settings (s : State) (n : Nat) (f : Chan → Chan) : (s.modChan n f).settings = s.settings := (s.modChan_fr _ _).2.2.2.2 .settings rfl
@[simp] theorem State.modChan_dict (s : State) (n : Nat) (f : Chan → Chan) : (s.modChan n f).dict = s.dict := (s.modChan_fr _ _).2.2.2.2 .dict rfl
@[simp] theorem State.modChan_pace (s : State) (n : Nat) (f : Chan → Chan) : (s.modChan n f).pace = s.pace := (s.modChan_fr _ _).2.2.2.2 .pace rfl
@[simp] theorem State.modChan_host (s : State) (n : Nat) (f : Chan → Chan) : (s.modChan n f).host = s.host := (s.modChan_fr _ _).2.2.2.2 .host rfl
@[simp] theorem State.modChan_rings (s : State) (n : Nat) (f : Chan → Chan) : (s.modChan n f).rings = s.rings := (s.modChan_fr _ _).2.2.2.2 .rings rfl
@[simp] theorem State.modChan_place (s : State) (n : Nat) (f : Chan → Chan) : (s.modChan n f).place = s.place := (s.modChan_fr _ _).2.2.2.2 .place rfl
@[simp] theorem State.modChan_persist (s : State) (n : Nat) (f : Chan → Chan) : (s.modChan n f).persist = s.persist := (s.modChan_fr _ _).2.2.2.2 .persist rfl
@[simp] theorem State.modChan_twin (s : State) (n : Nat) (f : Chan → Chan) : (s.modChan n f).twin = s.twin := (s.modChan_fr _ _).2.2.2.2 .twin rfl
@[simp] theorem State.modChan_hinge (s : State) (n : Nat) (f : Chan → Chan) : (s.modChan n f).hinge = s.hinge := (s.modChan_fr _ _).2.2.2.2 .hinge rfl
@[simp] theorem State.modChan_pool (s : State) (n : Nat) (f : Chan → Chan) : (s.modChan n f).pool = s.pool := (s.modChan_fr _ _).2.2.2.2 .pool rfl
@[simp] theorem State.modChan_lattice (s : State) (n : Nat) (f : Chan → Chan) : (s.modChan n f).lattice = s.lattice := (s.modChan_fr _ _).2.2.2.2 .lattice rfl
@[simp] theorem State.modChan_ecc (s : State) (n : Nat) (f : Chan → Chan) : (s.modChan n f).ecc = s.ecc := (s.modChan_fr _ _).2.2.2.2 .ecc rfl
@[simp] theorem State.modChan_cipher (s : State) (n : Nat) (f : Chan → Chan) : (s.modChan n f).cipher = s.cipher := (s.modChan_fr _ _).2.2.2.2 .cipher rfl
@[simp] theorem State.modChan_steward (s : State) (n : Nat) (f : Chan → Chan) : (s.modChan n f).steward = s.steward := (s.modChan_fr _ _).2.2.2.2 .steward rfl
@[simp] theorem State.modChan_sbox (s : State) (n : Nat) (f : Chan → Chan) : (s.modChan n f).sbox = s.sbox := (s.modChan_fr _ _).2.2.2.2 .sbox rfl
@[simp] theorem State.modChan_rec_ (s : State) (n : Nat) (f : Chan → Chan) : (s.modChan n f).rec_ = s.rec_ := (s.modChan_fr _ _).2.2.2.2 .recorder rfl
@[simp] theorem State.modChan_power (s : State) (n : Nat) (f : Chan → Chan) : (s.modChan n f).power = s.power := (s.modChan_fr _ _).2.2.2.2 .power rfl
@[simp] theorem State.modChan_setting (s : State) (n : Nat) (f : Chan → Chan) (idx sub : Nat) : (s.modChan n f).setting idx sub = s.setting idx sub := by simp only [State.setting, State.modChan_settings, State.modChan_hinge]

theorem State.modDir_fr (s : State) (key : Nat) (f : DirEnt → DirEnt) : Laws.Fr 309121 s (s.modDir key f) := Laws.fr_modDir Laws.in_self Laws.fr_refl _ _
@[simp] theorem State.modDir_pending (s : State) (key : Nat) (f : DirEnt → DirEnt) : (s.modDir key f).pending = s.pending := (s.modDir_fr _ _).1
@[simp] theorem State.modDir_now (s : State) (key : Nat) (f : DirEnt → DirEnt) : (s.modDir key f).now = s.now := (s.modDir_fr _ _).2.1
@[simp] theorem State.modDir_mem (s : State) (key : Nat) (f : DirEnt → DirEnt) : (s.modDir key f).mem = s.mem := (s.modDir_fr _ _).2.2.2.2 .mem rfl
@[simp] theorem State.modDir_settings (s : State) (key : Nat) (f : DirEnt → DirEnt) : (s.modDir key f).settings = s.settings := (s.modDir_fr _ _).2.2.2.2 .settings rfl
@[simp] theorem State.modDir_dict (s : State) (key : Nat) (f : DirEnt → DirEnt) : (s.modDir key f).dict = s.dict := (s.modDir_fr _ _).2.2.2.2 .dict rfl
@[simp] theorem State.modDir_pace (s : State) (key : Nat) (f : DirEnt → DirEnt) : (s.modDir key f).pace = s.pace := (s.modDir_fr _ _).2.2.2.2 .pace rfl
@[simp] theorem State.modDir_host (s : State) (key : Nat) (f : DirEnt → DirEnt) : (s.modDir key f).host = s.host := (s.modDir_fr _ _).2.2.2.2 .host rfl
@[simp] theorem State.modDir_rings (s : State) (key : Nat) (f : DirEnt → DirEnt) : (s.modDir key f).rings = s.rings := (s.modDir_fr _ _).2.2.2.2 .rings rfl
@[simp] theorem State.modDir_pool (s : State) (key : Nat) (f : DirEnt → DirEnt) : (s.modDir key f).pool = s.pool := (s.modDir_fr _ _).2.2.2.2 .pool rfl
@[simp] theorem State.modDir_ecc (s : State) (key : Nat) (f : DirEnt → DirEnt) : (s.modDir key f).ecc = s.ecc := (s.modDir_fr _ _).2.2.2.2 .ecc rfl
@[simp] theorem State.modDir_steward (s : State) (key : Nat) (f : DirEnt → DirEnt) : (s.modDir key f).steward = s.steward := (s.modDir_fr _ _).2.2.2.2 .steward rfl
@[simp] theorem State.modDir_sbox (s : State) (key : Nat) (f : DirEnt → DirEnt) : (s.modDir key f).sbox = s.sbox := (s.modDir_fr _ _).2.2.2.2 .sbox rfl
@[simp] theorem State.modDir_power (s : State) (key : Nat) (f : DirEnt → DirEnt) : (s.modDir key f).power = s.power := (s.modDir_fr _ _).2.2.2.2 .power rfl

theorem State.modRing_fr (s : State) (r : Nat) (f : Ring → Ring) : Laws.Fr 64 s (s.modRing r f) := Laws.fr_modRing Laws.in_self Laws.fr_refl _ _
@[simp] theorem State.modRing_pending (s : State) (r : Nat) (f : Ring → Ring) : (s.modRing r f).pending = s.pending := (s.modRing_fr _ _).1
@[simp] theorem State.modRing_now (s : State) (r : Nat) (f : Ring → Ring) : (s.modRing r f).now = s.now := (s.modRing_fr _ _).2.1
@[simp] theorem State.modRing_out (s : State) (r : Nat) (f : Ring → Ring) : (s.modRing r f).out = s.out := (s.modRing_fr _ _).2.2.2.2 .out rfl
@[simp] theorem State.modRing_mem (s : State) (r : Nat) (f : Ring → Ring) : (s.modRing r f).mem = s.mem := (s.modRing_fr _ _).2.2.2.2 .mem rfl
@[simp] theorem State.modRing_settings (s : State) (r : Nat) (f : Ring → Ring) : (s.modRing r f).settings = s.settings := (s.modRing_fr _ _).2.2.2.2 .settings rfl
@[simp] theorem State.modRing_dict (s : State) (r : Nat) (f : Ring → Ring) : (s.modRing r f).dict = s.dict := (s.modRing_fr _ _).2.2.2.2 .dict rfl
@[simp] theorem State.modRing_pace (s : State) (r : Nat) (f : Ring → Ring) : (s.modRing r f).pace = s.pace := (s.modRing_fr _ _).2.2.2.2 .pace rfl
@[simp] theorem State.modRing_host (s : State) (r : Nat) (f : Ring → Ring) : (s.modRing r f).host = s.host := (s.modRing_fr _ _).2.2.2.2 .host rfl
@[simp] theorem State.modRing_place (s : State) (r : Nat) (f : Ring → Ring) : (s.modRing r f).place = s.place := (s.modRing_fr _ _).2.2.2.2 .place rfl
@[simp] theorem State.modRing_persist (s : State) (r : Nat) (f : Ring → Ring) : (s.modRing r f).persist = s.persist := (s.modRing_fr _ _).2.2.2.2 .persist rfl
@[simp] theorem State.modRing_twin (s : State) (r : Nat) (f : Ring → Ring) : (s.modRing r f).twin = s.twin := (s.modRing_fr _ _).2.2.2.2 .twin rfl
@[simp] theorem State.modRing_hinge (s : State) (r : Nat) (f : Ring → Ring) : (s.modRing r f).hinge = s.hinge := (s.modRing_fr _ _).2.2.2.2 .hinge rfl
@[simp] theorem State.modRing_pool (s : State) (r : Nat) (f : Ring → Ring) : (s.modRing r f).pool = s.pool := (s.modRing_fr _ _).2.2.2.2 .pool rfl
@[simp] theorem State.modRing_lattice (s : State) (r : Nat) (f : Ring → Ring) : (s.modRing r f).lattice = s.lattice := (s.modRing_fr _ _).2.2.2.2 .lattice rfl
@[simp] theorem State.modRing_dram (s : State) (r : Nat) (f : Ring → Ring) : (s.modRing r f).dram = s.dram := (s.modRing_fr _ _).2.2.2.2 .dram rfl
@[simp] theorem State.modRing_ecc (s : State) (r : Nat) (f : Ring → Ring) : (s.modRing r f).ecc = s.ecc := (s.modRing_fr _ _).2.2.2.2 .ecc rfl
@[simp] theorem State.modRing_cipher (s : State) (r : Nat) (f : Ring → Ring) : (s.modRing r f).cipher = s.cipher := (s.modRing_fr _ _).2.2.2.2 .cipher rfl
@[simp] theorem State.modRing_steward (s : State) (r : Nat) (f : Ring → Ring) : (s.modRing r f).steward = s.steward := (s.modRing_fr _ _).2.2.2.2 .steward rfl
@[simp] theorem State.modRing_sbox (s : State) (r : Nat) (f : Ring → Ring) : (s.modRing r f).sbox = s.sbox := (s.modRing_fr _ _).2.2.2.2 .sbox rfl
@[simp] theorem State.modRing_rec_ (s : State) (r : Nat) (f : Ring → Ring) : (s.modRing r f).rec_ = s.rec_ := (s.modRing_fr _ _).2.2.2.2 .recorder rfl
@[simp] theorem State.modRing_power (s : State) (r : Nat) (f : Ring → Ring) : (s.modRing r f).power = s.power := (s.modRing_fr _ _).2.2.2.2 .power rfl
@[simp] theorem State.modRing_setting (s : State) (r : Nat) (f : Ring → Ring) (idx sub : Nat) : (s.modRing r f).setting idx sub = s.setting idx sub := by simp only [State.setting, State.modRing_settings, State.modRing_hinge]

theorem State.modWork_fr (s : State) (id : Nat) (f : Work → Work) : Laws.Fr 64 s (s.modWork id f) := Laws.fr_modWork Laws.in_self Laws.fr_refl _ _
@[simp] theorem State.modWork_pending (s : State) (id : Nat) (f : Work → Work) : (s.modWork id f).pending = s.pending := (s.modWork_fr _ _).1
@[simp] theorem State.modWork_now (s : State) (id : Nat) (f : Work → Work) : (s.modWork id f).now = s.now := (s.modWork_fr _ _).2.1
@[simp] theorem State.modWork_out (s : State) (id : Nat) (f : Work → Work) : (s.modWork id f).out = s.out := (s.modWork_fr _ _).2.2.2.2 .out rfl
@[simp] theorem State.modWork_mem (s : State) (id : Nat) (f : Work → Work) : (s.modWork id f).mem = s.mem := (s.modWork_fr _ _).2.2.2.2 .mem rfl
@[simp] theorem State.modWork_settings (s : State) (id : Nat) (f : Work → Work) : (s.modWork id f).settings = s.settings := (s.modWork_fr _ _).2.2.2.2 .settings rfl
@[simp] theorem State.modWork_dict (s : State) (id : Nat) (f : Work → Work) : (s.modWork id f).dict = s.dict := (s.modWork_fr _ _).2.2.2.2 .dict rfl
@[simp] theorem State.modWork_pace (s : State) (id : Nat) (f : Work → Work) : (s.modWork id f).pace = s.pace := (s.modWork_fr _ _).2.2.2.2 .pace rfl
@[simp] theorem State.modWork_host (s : State) (id : Nat) (f : Work → Work) : (s.modWork id f).host = s.host := (s.modWork_fr _ _).2.2.2.2 .host rfl
@[simp] theorem State.modWork_place (s : State) (id : Nat) (f : Work → Work) : (s.modWork id f).place = s.place := (s.modWork_fr _ _).2.2.2.2 .place rfl
@[simp] theorem State.modWork_persist (s : State) (id : Nat) (f : Work → Work) : (s.modWork id f).persist = s.persist := (s.modWork_fr _ _).2.2.2.2 .persist rfl
@[simp] theorem State.modWork_twin (s : State) (id : Nat) (f : Work → Work) : (s.modWork id f).twin = s.twin := (s.modWork_fr _ _).2.2.2.2 .twin rfl
@[simp] theorem State.modWork_hinge (s : State) (id : Nat) (f : Work → Work) : (s.modWork id f).hinge = s.hinge := (s.modWork_fr _ _).2.2.2.2 .hinge rfl
@[simp] theorem State.modWork_pool (s : State) (id : Nat) (f : Work → Work) : (s.modWork id f).pool = s.pool := (s.modWork_fr _ _).2.2.2.2 .pool rfl
@[simp] theorem State.modWork_lattice (s : State) (id : Nat) (f : Work → Work) : (s.modWork id f).lattice = s.lattice := (s.modWork_fr _ _).2.2.2.2 .lattice rfl
@[simp] theorem State.modWork_dram (s : State) (id : Nat) (f : Work → Work) : (s.modWork id f).dram = s.dram := (s.modWork_fr _ _).2.2.2.2 .dram rfl
@[simp] theorem State.modWork_ecc (s : State) (id : Nat) (f : Work → Work) : (s.modWork id f).ecc = s.ecc := (s.modWork_fr _ _).2.2.2.2 .ecc rfl
@[simp] theorem State.modWork_cipher (s : State) (id : Nat) (f : Work → Work) : (s.modWork id f).cipher = s.cipher := (s.modWork_fr _ _).2.2.2.2 .cipher rfl
@[simp] theorem State.modWork_steward (s : State) (id : Nat) (f : Work → Work) : (s.modWork id f).steward = s.steward := (s.modWork_fr _ _).2.2.2.2 .steward rfl
@[simp] theorem State.modWork_sbox (s : State) (id : Nat) (f : Work → Work) : (s.modWork id f).sbox = s.sbox := (s.modWork_fr _ _).2.2.2.2 .sbox rfl
@[simp] theorem State.modWork_rec_ (s : State) (id : Nat) (f : Work → Work) : (s.modWork id f).rec_ = s.rec_ := (s.modWork_fr _ _).2.2.2.2 .recorder rfl
@[simp] theorem State.modWork_power (s : State) (id : Nat) (f : Work → Work) : (s.modWork id f).power = s.power := (s.modWork_fr _ _).2.2.2.2 .power rfl
@[simp] theorem State.modWork_setting (s : State) (id : Nat) (f : Work → Work) (idx sub : Nat) : (s.modWork id f).setting idx sub = s.setting idx sub := by simp only [State.setting, State.modWork_settings, State.modWork_hinge]

theorem State.modSess_fr (s : State) (n : Nat) (f : Sess → Sess) : Laws.Fr 32 s (s.modSess n f) := Laws.fr_modSess Laws.in_self Laws.fr_refl _ _
@[simp] theorem State.modSess_pending (s : State) (n : Nat) (f : Sess → Sess) : (s.modSess n f).pending = s.pending := (s.modSess_fr _ _).1
@[simp] theorem State.modSess_now (s : State) (n : Nat) (f : Sess → Sess) : (s.modSess n f).now = s.now := (s.modSess_fr _ _).2.1
@[simp] theorem State.modSess_out (s : State) (n : Nat) (f : Sess → Sess) : (s.modSess n f).out = s.out := (s.modSess_fr _ _).2.2.2.2 .out rfl
@[simp] theorem State.modSess_mem (s : State) (n : Nat) (f : Sess → Sess) : (s.modSess n f).mem = s.mem := (s.modSess_fr _ _).2.2.2.2 .mem rfl
@[simp] theorem State.modSess_settings (s : State) (n : Nat) (f : Sess → Sess) : (s.modSess n f).settings = s.settings := (s.modSess_fr _ _).2.2.2.2 .settings rfl
@[simp] theorem State.modSess_dict (s : State) (n : Nat) (f : Sess → Sess) : (s.modSess n f).dict = s.dict := (s.modSess_fr _ _).2.2.2.2 .dict rfl
@[simp] theorem State.modSess_pace (s : State) (n : Nat) (f : Sess → Sess) : (s.modSess n f).pace = s.pace := (s.modSess_fr _ _).2.2.2.2 .pace rfl
@[simp] theorem State.modSess_rings (s : State) (n : Nat) (f : Sess → Sess) : (s.modSess n f).rings = s.rings := (s.modSess_fr _ _).2.2.2.2 .rings rfl
@[simp] theorem State.modSess_place (s : State) (n : Nat) (f : Sess → Sess) : (s.modSess n f).place = s.place := (s.modSess_fr _ _).2.2.2.2 .place rfl
@[simp] theorem State.modSess_persist (s : State) (n : Nat) (f : Sess → Sess) : (s.modSess n f).persist = s.persist := (s.modSess_fr _ _).2.2.2.2 .persist rfl
@[simp] theorem State.modSess_twin (s : State) (n : Nat) (f : Sess → Sess) : (s.modSess n f).twin = s.twin := (s.modSess_fr _ _).2.2.2.2 .twin rfl
@[simp] theorem State.modSess_hinge (s : State) (n : Nat) (f : Sess → Sess) : (s.modSess n f).hinge = s.hinge := (s.modSess_fr _ _).2.2.2.2 .hinge rfl
@[simp] theorem State.modSess_pool (s : State) (n : Nat) (f : Sess → Sess) : (s.modSess n f).pool = s.pool := (s.modSess_fr _ _).2.2.2.2 .pool rfl
@[simp] theorem State.modSess_lattice (s : State) (n : Nat) (f : Sess → Sess) : (s.modSess n f).lattice = s.lattice := (s.modSess_fr _ _).2.2.2.2 .lattice rfl
@[simp] theorem State.modSess_dram (s : State) (n : Nat) (f : Sess → Sess) : (s.modSess n f).dram = s.dram := (s.modSess_fr _ _).2.2.2.2 .dram rfl
@[simp] theorem State.modSess_ecc (s : State) (n : Nat) (f : Sess → Sess) : (s.modSess n f).ecc = s.ecc := (s.modSess_fr _ _).2.2.2.2 .ecc rfl
@[simp] theorem State.modSess_cipher (s : State) (n : Nat) (f : Sess → Sess) : (s.modSess n f).cipher = s.cipher := (s.modSess_fr _ _).2.2.2.2 .cipher rfl
@[simp] theorem State.modSess_steward (s : State) (n : Nat) (f : Sess → Sess) : (s.modSess n f).steward = s.steward := (s.modSess_fr _ _).2.2.2.2 .steward rfl
@[simp] theorem State.modSess_sbox (s : State) (n : Nat) (f : Sess → Sess) : (s.modSess n f).sbox = s.sbox := (s.modSess_fr _ _).2.2.2.2 .sbox rfl
@[simp] theorem State.modSess_rec_ (s : State) (n : Nat) (f : Sess → Sess) : (s.modSess n f).rec_ = s.rec_ := (s.modSess_fr _ _).2.2.2.2 .recorder rfl
@[simp] theorem State.modSess_power (s : State) (n : Nat) (f : Sess → Sess) : (s.modSess n f).power = s.power := (s.modSess_fr _ _).2.2.2.2 .power rfl
@[simp] theorem State.modSess_setting (s : State) (n : Nat) (f : Sess → Sess) (idx sub : Nat) : (s.modSess n f).setting idx sub = s.setting idx sub := by simp only [State.setting, State.modSess_settings, State.modSess_hinge]

theorem State.modLdev_fr (s : State) (p : Nat) (l : Nat) (f : LDev → LDev) : Laws.Fr 32 s (s.modLdev p l f) := Laws.fr_modLdev Laws.in_self Laws.fr_refl _ _ _
@[simp] theorem State.modLdev_pending (s : State) (p : Nat) (l : Nat) (f : LDev → LDev) : (s.modLdev p l f).pending = s.pending := (s.modLdev_fr _ _ _).1
@[simp] theorem State.modLdev_now (s : State) (p : Nat) (l : Nat) (f : LDev → LDev) : (s.modLdev p l f).now = s.now := (s.modLdev_fr _ _ _).2.1
@[simp] theorem State.modLdev_out (s : State) (p : Nat) (l : Nat) (f : LDev → LDev) : (s.modLdev p l f).out = s.out := (s.modLdev_fr _ _ _).2.2.2.2 .out rfl
@[simp] theorem State.modLdev_mem (s : State) (p : Nat) (l : Nat) (f : LDev → LDev) : (s.modLdev p l f).mem = s.mem := (s.modLdev_fr _ _ _).2.2.2.2 .mem rfl
@[simp] theorem State.modLdev_settings (s : State) (p : Nat) (l : Nat) (f : LDev → LDev) : (s.modLdev p l f).settings = s.settings := (s.modLdev_fr _ _ _).2.2.2.2 .settings rfl
@[simp] theorem State.modLdev_dict (s : State) (p : Nat) (l : Nat) (f : LDev → LDev) : (s.modLdev p l f).dict = s.dict := (s.modLdev_fr _ _ _).2.2.2.2 .dict rfl
@[simp] theorem State.modLdev_pace (s : State) (p : Nat) (l : Nat) (f : LDev → LDev) : (s.modLdev p l f).pace = s.pace := (s.modLdev_fr _ _ _).2.2.2.2 .pace rfl
@[simp] theorem State.modLdev_rings (s : State) (p : Nat) (l : Nat) (f : LDev → LDev) : (s.modLdev p l f).rings = s.rings := (s.modLdev_fr _ _ _).2.2.2.2 .rings rfl
@[simp] theorem State.modLdev_place (s : State) (p : Nat) (l : Nat) (f : LDev → LDev) : (s.modLdev p l f).place = s.place := (s.modLdev_fr _ _ _).2.2.2.2 .place rfl
@[simp] theorem State.modLdev_persist (s : State) (p : Nat) (l : Nat) (f : LDev → LDev) : (s.modLdev p l f).persist = s.persist := (s.modLdev_fr _ _ _).2.2.2.2 .persist rfl
@[simp] theorem State.modLdev_twin (s : State) (p : Nat) (l : Nat) (f : LDev → LDev) : (s.modLdev p l f).twin = s.twin := (s.modLdev_fr _ _ _).2.2.2.2 .twin rfl
@[simp] theorem State.modLdev_hinge (s : State) (p : Nat) (l : Nat) (f : LDev → LDev) : (s.modLdev p l f).hinge = s.hinge := (s.modLdev_fr _ _ _).2.2.2.2 .hinge rfl
@[simp] theorem State.modLdev_pool (s : State) (p : Nat) (l : Nat) (f : LDev → LDev) : (s.modLdev p l f).pool = s.pool := (s.modLdev_fr _ _ _).2.2.2.2 .pool rfl
@[simp] theorem State.modLdev_lattice (s : State) (p : Nat) (l : Nat) (f : LDev → LDev) : (s.modLdev p l f).lattice = s.lattice := (s.modLdev_fr _ _ _).2.2.2.2 .lattice rfl
@[simp] theorem State.modLdev_dram (s : State) (p : Nat) (l : Nat) (f : LDev → LDev) : (s.modLdev p l f).dram = s.dram := (s.modLdev_fr _ _ _).2.2.2.2 .dram rfl
@[simp] theorem State.modLdev_ecc (s : State) (p : Nat) (l : Nat) (f : LDev → LDev) : (s.modLdev p l f).ecc = s.ecc := (s.modLdev_fr _ _ _).2.2.2.2 .ecc rfl
@[simp] theorem State.modLdev_cipher (s : State) (p : Nat) (l : Nat) (f : LDev → LDev) : (s.modLdev p l f).cipher = s.cipher := (s.modLdev_fr _ _ _).2.2.2.2 .cipher rfl
@[simp] theorem State.modLdev_steward (s : State) (p : Nat) (l : Nat) (f : LDev → LDev) : (s.modLdev p l f).steward = s.steward := (s.modLdev_fr _ _ _).2.2.2.2 .steward rfl
@[simp] theorem State.modLdev_sbox (s : State) (p : Nat) (l : Nat) (f : LDev → LDev) : (s.modLdev p l f).sbox = s.sbox := (s.modLdev_fr _ _ _).2.2.2.2 .sbox rfl
@[simp] theorem State.modLdev_rec_ (s : State) (p : Nat) (l : Nat) (f : LDev → LDev) : (s.modLdev p l f).rec_ = s.rec_ := (s.modLdev_fr _ _ _).2.2.2.2 .recorder rfl
@[simp] theorem State.modLdev_power (s : State) (p : Nat) (l : Nat) (f : LDev → LDev) : (s.modLdev p l f).power = s.power := (s.modLdev_fr _ _ _).2.2.2.2 .power rfl
@[simp] theorem State.modLdev_setting (s : State) (p : Nat) (l : Nat) (f : LDev → LDev) (idx sub : Nat) : (s.modLdev p l f).setting idx sub = s.setting idx sub := by simp only [State.setting, State.modLdev_settings, State.modLdev_hinge]

theorem State.modDrive_fr (s : State) (d : Nat) (f : Drive → Drive) : Laws.Fr 256 s (s.modDrive d f) := Laws.fr_modDrive Laws.in_self Laws.fr_refl _ _
@[simp] theorem State.modDrive_pending (s : State) (d : Nat) (f : Drive → Drive) : (s.modDrive d f).pending = s.pending := (s.modDrive_fr _ _).1
@[simp] theorem State.modDrive_now (s : State) (d : Nat) (f : Drive → Drive) : (s.modDrive d f).now = s.now := (s.modDrive_fr _ _).2.1
@[simp] theorem State.modDrive_out (s : State) (d : Nat) (f : Drive → Drive) : (s.modDrive d f).out = s.out := (s.modDrive_fr _ _).2.2.2.2 .out rfl
@[simp] theorem State.modDrive_mem (s : State) (d : Nat) (f : Drive → Drive) : (s.modDrive d f).mem = s.mem := (s.modDrive_fr _ _).2.2.2.2 .mem rfl
@[simp] theorem State.modDrive_settings (s : State) (d : Nat) (f : Drive → Drive) : (s.modDrive d f).settings = s.settings := (s.modDrive_fr _ _).2.2.2.2 .settings rfl
@[simp] theorem State.modDrive_dict (s : State) (d : Nat) (f : Drive → Drive) : (s.modDrive d f).dict = s.dict := (s.modDrive_fr _ _).2.2.2.2 .dict rfl
@[simp] theorem State.modDrive_pace (s : State) (d : Nat) (f : Drive → Drive) : (s.modDrive d f).pace = s.pace := (s.modDrive_fr _ _).2.2.2.2 .pace rfl
@[simp] theorem State.modDrive_host (s : State) (d : Nat) (f : Drive → Drive) : (s.modDrive d f).host = s.host := (s.modDrive_fr _ _).2.2.2.2 .host rfl
@[simp] theorem State.modDrive_rings (s : State) (d : Nat) (f : Drive → Drive) : (s.modDrive d f).rings = s.rings := (s.modDrive_fr _ _).2.2.2.2 .rings rfl
@[simp] theorem State.modDrive_place (s : State) (d : Nat) (f : Drive → Drive) : (s.modDrive d f).place = s.place := (s.modDrive_fr _ _).2.2.2.2 .place rfl
@[simp] theorem State.modDrive_twin (s : State) (d : Nat) (f : Drive → Drive) : (s.modDrive d f).twin = s.twin := (s.modDrive_fr _ _).2.2.2.2 .twin rfl
@[simp] theorem State.modDrive_hinge (s : State) (d : Nat) (f : Drive → Drive) : (s.modDrive d f).hinge = s.hinge := (s.modDrive_fr _ _).2.2.2.2 .hinge rfl
@[simp] theorem State.modDrive_pool (s : State) (d : Nat) (f : Drive → Drive) : (s.modDrive d f).pool = s.pool := (s.modDrive_fr _ _).2.2.2.2 .pool rfl
@[simp] theorem State.modDrive_lattice (s : State) (d : Nat) (f : Drive → Drive) : (s.modDrive d f).lattice = s.lattice := (s.modDrive_fr _ _).2.2.2.2 .lattice rfl
@[simp] theorem State.modDrive_dram (s : State) (d : Nat) (f : Drive → Drive) : (s.modDrive d f).dram = s.dram := (s.modDrive_fr _ _).2.2.2.2 .dram rfl
@[simp] theorem State.modDrive_ecc (s : State) (d : Nat) (f : Drive → Drive) : (s.modDrive d f).ecc = s.ecc := (s.modDrive_fr _ _).2.2.2.2 .ecc rfl
@[simp] theorem State.modDrive_cipher (s : State) (d : Nat) (f : Drive → Drive) : (s.modDrive d f).cipher = s.cipher := (s.modDrive_fr _ _).2.2.2.2 .cipher rfl
@[simp] theorem State.modDrive_steward (s : State) (d : Nat) (f : Drive → Drive) : (s.modDrive d f).steward = s.steward := (s.modDrive_fr _ _).2.2.2.2 .steward rfl
@[simp] theorem State.modDrive_sbox (s : State) (d : Nat) (f : Drive → Drive) : (s.modDrive d f).sbox = s.sbox := (s.modDrive_fr _ _).2.2.2.2 .sbox rfl
@[simp] theorem State.modDrive_rec_ (s : State) (d : Nat) (f : Drive → Drive) : (s.modDrive d f).rec_ = s.rec_ := (s.modDrive_fr _ _).2.2.2.2 .recorder rfl
@[simp] theorem State.modDrive_power (s : State) (d : Nat) (f : Drive → Drive) : (s.modDrive d f).power = s.power := (s.modDrive_fr _ _).2.2.2.2 .power rfl
@[simp] theorem State.modDrive_setting (s : State) (d : Nat) (f : Drive → Drive) (idx sub : Nat) : (s.modDrive d f).setting idx sub = s.setting idx sub := by simp only [State.setting, State.modDrive_settings, State.modDrive_hinge]

theorem State.setSetting_fr (s : State) (idx : Nat) (sub : Nat) (v : Nat) : Laws.Fr 4 s (s.setSetting idx sub v) := Laws.fr_setSetting Laws.in_self Laws.fr_refl _ _ _
@[simp] theorem State.setSetting_pending (s : State) (idx : Nat) (sub : Nat) (v : Nat) : (s.setSetting idx sub v).pending = s.pending := (s.setSetting_fr _ _ _).1
@[simp] theorem State.setSetting_now (s : State) (idx : Nat) (sub : Nat) (v : Nat) : (s.setSetting idx sub v).now = s.now := (s.setSetting_fr _ _ _).2.1
@[simp] theorem State.setSetting_out (s : State) (idx : Nat) (sub : Nat) (v : Nat) : (s.setSetting idx sub v).out = s.out := (s.setSetting_fr _ _ _).2.2.2.2 .out rfl
@[simp] theorem State.setSetting_mem (s : State) (idx : Nat) (sub : Nat) (v : Nat) : (s.setSetting idx sub v).mem = s.mem := (s.setSetting_fr _ _ _).2.2.2.2 .mem rfl
@[simp] theorem State.setSetting_dict (s : State) (idx : Nat) (sub : Nat) (v : Nat) : (s.setSetting idx sub v).dict = s.dict := (s.setSetting_fr _ _ _).2.2.2.2 .dict rfl
@[simp] theorem State.setSetting_pace (s : State) (idx : Nat) (sub : Nat) (v : Nat) : (s.setSetting idx sub v).pace = s.pace := (s.setSetting_fr _ _ _).2.2.2.2 .pace rfl
@[simp] theorem State.setSetting_host (s : State) (idx : Nat) (sub : Nat) (v : Nat) : (s.setSetting idx sub v).host = s.host := (s.setSetting_fr _ _ _).2.2.2.2 .host rfl
@[simp] theorem State.setSetting_rings (s : State) (idx : Nat) (sub : Nat) (v : Nat) : (s.setSetting idx sub v).rings = s.rings := (s.setSetting_fr _ _ _).2.2.2.2 .rings rfl
@[simp] theorem State.setSetting_place (s : State) (idx : Nat) (sub : Nat) (v : Nat) : (s.setSetting idx sub v).place = s.place := (s.setSetting_fr _ _ _).2.2.2.2 .place rfl
@[simp] theorem State.setSetting_persist (s : State) (idx : Nat) (sub : Nat) (v : Nat) : (s.setSetting idx sub v).persist = s.persist := (s.setSetting_fr _ _ _).2.2.2.2 .persist rfl
@[simp] theorem State.setSetting_twin (s : State) (idx : Nat) (sub : Nat) (v : Nat) : (s.setSetting idx sub v).twin = s.twin := (s.setSetting_fr _ _ _).2.2.2.2 .twin rfl
@[simp] theorem State.setSetting_hinge (s : State) (idx : Nat) (sub : Nat) (v : Nat) : (s.setSetting idx sub v).hinge = s.hinge := (s.setSetting_fr _ _ _).2.2.2.2 .hinge rfl
@[simp] theorem State.setSetting_pool (s : State) (idx : Nat) (sub : Nat) (v : Nat) : (s.setSetting idx sub v).pool = s.pool := (s.setSetting_fr _ _ _).2.2.2.2 .pool rfl
@[simp] theorem State.setSetting_lattice (s : State) (idx : Nat) (sub : Nat) (v : Nat) : (s.setSetting idx sub v).lattice = s.lattice := (s.setSetting_fr _ _ _).2.2.2.2 .lattice rfl
@[simp] theorem State.setSetting_dram (s : State) (idx : Nat) (sub : Nat) (v : Nat) : (s.setSetting idx sub v).dram = s.dram := (s.setSetting_fr _ _ _).2.2.2.2 .dram rfl
@[simp] theorem State.setSetting_ecc (s : State) (idx : Nat) (sub : Nat) (v : Nat) : (s.setSetting idx sub v).ecc = s.ecc := (s.setSetting_fr _ _ _).2.2.2.2 .ecc rfl
@[simp] theorem State.setSetting_cipher (s : State) (idx : Nat) (sub : Nat) (v : Nat) : (s.setSetting idx sub v).cipher = s.cipher := (s.setSetting_fr _ _ _).2.2.2.2 .cipher rfl
@[simp] theorem State.setSetting_steward (s : State) (idx : Nat) (sub : Nat) (v : Nat) : (s.setSetting idx sub v).steward = s.steward := (s.setSetting_fr _ _ _).2.2.2.2 .steward rfl
@[simp] theorem State.setSetting_sbox (s : State) (idx : Nat) (sub : Nat) (v : Nat) : (s.setSetting idx sub v).sbox = s.sbox := (s.setSetting_fr _ _ _).2.2.2.2 .sbox rfl
@[simp] theorem State.setSetting_rec_ (s : State) (idx : Nat) (sub : Nat) (v : Nat) : (s.setSetting idx sub v).rec_ = s.rec_ := (s.setSetting_fr _ _ _).2.2.2.2 .recorder rfl
@[simp] theorem State.setSetting_power (s : State) (idx : Nat) (sub : Nat) (v : Nat) : (s.setSetting idx sub v).power = s.power := (s.setSetting_fr _ _ _).2.2.2.2 .power rfl

theorem State.modSlot_fr (s : State) (n : Nat) (f : Requester → Requester) : Laws.Fr 8 s (s.modSlot n f) := Laws.fr_modSlot Laws.in_self Laws.fr_refl _ _
@[simp] theorem State.modSlot_pending (s : State) (n : Nat) (f : Requester → Requester) : (s.modSlot n f).pending = s.pending := (s.modSlot_fr _ _).1
@[simp] theorem State.modSlot_now (s : State) (n : Nat) (f : Requester → Requester) : (s.modSlot n f).now = s.now := (s.modSlot_fr _ _).2.1
@[simp] theorem State.modSlot_out (s : State) (n : Nat) (f : Requester → Requester) : (s.modSlot n f).out = s.out := (s.modSlot_fr _ _).2.2.2.2 .out rfl
@[simp] theorem State.modSlot_mem (s : State) (n : Nat) (f : Requester → Requester) : (s.modSlot n f).mem = s.mem := (s.modSlot_fr _ _).2.2.2.2 .mem rfl
@[simp] theorem State.modSlot_settings (s : State) (n : Nat) (f : Requester → Requester) : (s.modSlot n f).settings = s.settings := (s.modSlot_fr _ _).2.2.2.2 .settings rfl
@[simp] theorem State.modSlot_pace (s : State) (n : Nat) (f : Requester → Requester) : (s.modSlot n f).pace = s.pace := (s.modSlot_fr _ _).2.2.2.2 .pace rfl
@[simp] theorem State.modSlot_host (s : State) (n : Nat) (f : Requester → Requester) : (s.modSlot n f).host = s.host := (s.modSlot_fr _ _).2.2.2.2 .host rfl
@[simp] theorem State.modSlot_rings (s : State) (n : Nat) (f : Requester → Requester) : (s.modSlot n f).rings = s.rings := (s.modSlot_fr _ _).2.2.2.2 .rings rfl
@[simp] theorem State.modSlot_place (s : State) (n : Nat) (f : Requester → Requester) : (s.modSlot n f).place = s.place := (s.modSlot_fr _ _).2.2.2.2 .place rfl
@[simp] theorem State.modSlot_persist (s : State) (n : Nat) (f : Requester → Requester) : (s.modSlot n f).persist = s.persist := (s.modSlot_fr _ _).2.2.2.2 .persist rfl
@[simp] theorem State.modSlot_twin (s : State) (n : Nat) (f : Requester → Requester) : (s.modSlot n f).twin = s.twin := (s.modSlot_fr _ _).2.2.2.2 .twin rfl
@[simp] theorem State.modSlot_hinge (s : State) (n : Nat) (f : Requester → Requester) : (s.modSlot n f).hinge = s.hinge := (s.modSlot_fr _ _).2.2.2.2 .hinge rfl
@[simp] theorem State.modSlot_pool (s : State) (n : Nat) (f : Requester → Requester) : (s.modSlot n f).pool = s.pool := (s.modSlot_fr _ _).2.2.2.2 .pool rfl
@[simp] theorem State.modSlot_lattice (s : State) (n : Nat) (f : Requester → Requester) : (s.modSlot n f).lattice = s.lattice := (s.modSlot_fr _ _).2.2.2.2 .lattice rfl
@[simp] theorem State.modSlot_dram (s : State) (n : Nat) (f : Requester → Requester) : (s.modSlot n f).dram = s.dram := (s.modSlot_fr _ _).2.2.2.2 .dram rfl
@[simp] theorem State.modSlot_ecc (s : State) (n : Nat) (f : Requester → Requester) : (s.modSlot n f).ecc = s.ecc := (s.modSlot_fr _ _).2.2.2.2 .ecc rfl
@[simp] theorem State.modSlot_cipher (s : State) (n : Nat) (f : Requester → Requester) : (s.modSlot n f).cipher = s.cipher := (s.modSlot_fr _ _).2.2.2.2 .cipher rfl
@[simp] theorem State.modSlot_steward (s : State) (n : Nat) (f : Requester → Requester) : (s.modSlot n f).steward = s.steward := (s.modSlot_fr _ _).2.2.2.2 .steward rfl
@[simp] theorem State.modSlot_sbox (s : State) (n : Nat) (f : Requester → Requester) : (s.modSlot n f).sbox = s.sbox := (s.modSlot_fr _ _).2.2.2.2 .sbox rfl
@[simp] theorem State.modSlot_rec_ (s : State) (n : Nat) (f : Requester → Requester) : (s.modSlot n f).rec_ = s.rec_ := (s.modSlot_fr _ _).2.2.2.2 .recorder rfl
@[simp] theorem State.modSlot_power (s : State) (n : Nat) (f : Requester → Requester) : (s.modSlot n f).power = s.power := (s.modSlot_fr _ _).2.2.2.2 .power rfl
@[simp] theorem State.modSlot_setting (s : State) (n : Nat) (f : Requester → Requester) (idx sub : Nat) : (s.modSlot n f).setting idx sub = s.setting idx sub := by simp only [State.setting, State.modSlot_settings, State.modSlot_hinge]

theorem State.modPlane_fr (s : State) (n : Nat) (f : Plane → Plane) : Laws.Fr 131072 s (s.modPlane n f) := Laws.fr_modPlane Laws.in_self Laws.fr_refl _ _
@[simp] theorem State.modPlane_pending (s : State) (n : Nat) (f : Plane → Plane) : (s.modPlane n f).pending = s.pending := (s.modPlane_fr _ _).1
@[simp] theorem State.modPlane_now (s : State) (n : Nat) (f : Plane → Plane) : (s.modPlane n f).now = s.now := (s.modPlane_fr _ _).2.1
@[simp] theorem State.modPlane_out (s : State) (n : Nat) (f : Plane → Plane) : (s.modPlane n f).out = s.out := (s.modPlane_fr _ _).2.2.2.2 .out rfl
@[simp] theorem State.modPlane_mem (s : State) (n : Nat) (f : Plane → Plane) : (s.modPlane n f).mem = s.mem := (s.modPlane_fr _ _).2.2.2.2 .mem rfl
@[simp] theorem State.modPlane_settings (s : State) (n : Nat) (f : Plane → Plane) : (s.modPlane n f).settings = s.settings := (s.modPlane_fr _ _).2.2.2.2 .settings rfl
@[simp] theorem State.modPlane_dict (s : State) (n : Nat) (f : Plane → Plane) : (s.modPlane n f).dict = s.dict := (s.modPlane_fr _ _).2.2.2.2 .dict rfl
@[simp] theorem State.modPlane_pace (s : State) (n : Nat) (f : Plane → Plane) : (s.modPlane n f).pace = s.pace := (s.modPlane_fr _ _).2.2.2.2 .pace rfl
@[simp] theorem State.modPlane_host (s : State) (n : Nat) (f : Plane → Plane) : (s.modPlane n f).host = s.host := (s.modPlane_fr _ _).2.2.2.2 .host rfl
@[simp] theorem State.modPlane_rings (s : State) (n : Nat) (f : Plane → Plane) : (s.modPlane n f).rings = s.rings := (s.modPlane_fr _ _).2.2.2.2 .rings rfl
@[simp] theorem State.modPlane_place (s : State) (n : Nat) (f : Plane → Plane) : (s.modPlane n f).place = s.place := (s.modPlane_fr _ _).2.2.2.2 .place rfl
@[simp] theorem State.modPlane_persist (s : State) (n : Nat) (f : Plane → Plane) : (s.modPlane n f).persist = s.persist := (s.modPlane_fr _ _).2.2.2.2 .persist rfl
@[simp] theorem State.modPlane_twin (s : State) (n : Nat) (f : Plane → Plane) : (s.modPlane n f).twin = s.twin := (s.modPlane_fr _ _).2.2.2.2 .twin rfl
@[simp] theorem State.modPlane_hinge (s : State) (n : Nat) (f : Plane → Plane) : (s.modPlane n f).hinge = s.hinge := (s.modPlane_fr _ _).2.2.2.2 .hinge rfl
@[simp] theorem State.modPlane_pool (s : State) (n : Nat) (f : Plane → Plane) : (s.modPlane n f).pool = s.pool := (s.modPlane_fr _ _).2.2.2.2 .pool rfl
@[simp] theorem State.modPlane_lattice (s : State) (n : Nat) (f : Plane → Plane) : (s.modPlane n f).lattice = s.lattice := (s.modPlane_fr _ _).2.2.2.2 .lattice rfl
@[simp] theorem State.modPlane_dram (s : State) (n : Nat) (f : Plane → Plane) : (s.modPlane n f).dram = s.dram := (s.modPlane_fr _ _).2.2.2.2 .dram rfl
@[simp] theorem State.modPlane_ecc (s : State) (n : Nat) (f : Plane → Plane) : (s.modPlane n f).ecc = s.ecc := (s.modPlane_fr _ _).2.2.2.2 .ecc rfl
@[simp] theorem State.modPlane_cipher (s : State) (n : Nat) (f : Plane → Plane) : (s.modPlane n f).cipher = s.cipher := (s.modPlane_fr _ _).2.2.2.2 .cipher rfl
@[simp] theorem State.modPlane_steward (s : State) (n : Nat) (f : Plane → Plane) : (s.modPlane n f).steward = s.steward := (s.modPlane_fr _ _).2.2.2.2 .steward rfl
@[simp] theorem State.modPlane_rec_ (s : State) (n : Nat) (f : Plane → Plane) : (s.modPlane n f).rec_ = s.rec_ := (s.modPlane_fr _ _).2.2.2.2 .recorder rfl
@[simp] theorem State.modPlane_power (s : State) (n : Nat) (f : Plane → Plane) : (s.modPlane n f).power = s.power := (s.modPlane_fr _ _).2.2.2.2 .power rfl
@[simp] theorem State.modPlane_setting (s : State) (n : Nat) (f : Plane → Plane) (idx sub : Nat) : (s.modPlane n f).setting idx sub = s.setting idx sub := by simp only [State.setting, State.modPlane_settings, State.modPlane_hinge]

theorem State.modSector_fr (s : State) (p : Nat) (f : Sector → Sector) : Laws.Fr 131072 s (s.modSector p f) := Laws.fr_modSector Laws.in_self Laws.fr_refl _ _
@[simp] theorem State.modSector_pending (s : State) (p : Nat) (f : Sector → Sector) : (s.modSector p f).pending = s.pending := (s.modSector_fr _ _).1
@[simp] theorem State.modSector_now (s : State) (p : Nat) (f : Sector → Sector) : (s.modSector p f).now = s.now := (s.modSector_fr _ _).2.1
@[simp] theorem State.modSector_out (s : State) (p : Nat) (f : Sector → Sector) : (s.modSector p f).out = s.out := (s.modSector_fr _ _).2.2.2.2 .out rfl
@[simp] theorem State.modSector_mem (s : State) (p : Nat) (f : Sector → Sector) : (s.modSector p f).mem = s.mem := (s.modSector_fr _ _).2.2.2.2 .mem rfl
@[simp] theorem State.modSector_settings (s : State) (p : Nat) (f : Sector → Sector) : (s.modSector p f).settings = s.settings := (s.modSector_fr _ _).2.2.2.2 .settings rfl
@[simp] theorem State.modSector_dict (s : State) (p : Nat) (f : Sector → Sector) : (s.modSector p f).dict = s.dict := (s.modSector_fr _ _).2.2.2.2 .dict rfl
@[simp] theorem State.modSector_pace (s : State) (p : Nat) (f : Sector → Sector) : (s.modSector p f).pace = s.pace := (s.modSector_fr _ _).2.2.2.2 .pace rfl
@[simp] theorem State.modSector_host (s : State) (p : Nat) (f : Sector → Sector) : (s.modSector p f).host = s.host := (s.modSector_fr _ _).2.2.2.2 .host rfl
@[simp] theorem State.modSector_rings (s : State) (p : Nat) (f : Sector → Sector) : (s.modSector p f).rings = s.rings := (s.modSector_fr _ _).2.2.2.2 .rings rfl
@[simp] theorem State.modSector_place (s : State) (p : Nat) (f : Sector → Sector) : (s.modSector p f).place = s.place := (s.modSector_fr _ _).2.2.2.2 .place rfl
@[simp] theorem State.modSector_persist (s : State) (p : Nat) (f : Sector → Sector) : (s.modSector p f).persist = s.persist := (s.modSector_fr _ _).2.2.2.2 .persist rfl
@[simp] theorem State.modSector_twin (s : State) (p : Nat) (f : Sector → Sector) : (s.modSector p f).twin = s.twin := (s.modSector_fr _ _).2.2.2.2 .twin rfl
@[simp] theorem State.modSector_hinge (s : State) (p : Nat) (f : Sector → Sector) : (s.modSector p f).hinge = s.hinge := (s.modSector_fr _ _).2.2.2.2 .hinge rfl
@[simp] theorem State.modSector_pool (s : State) (p : Nat) (f : Sector → Sector) : (s.modSector p f).pool = s.pool := (s.modSector_fr _ _).2.2.2.2 .pool rfl
@[simp] theorem State.modSector_lattice (s : State) (p : Nat) (f : Sector → Sector) : (s.modSector p f).lattice = s.lattice := (s.modSector_fr _ _).2.2.2.2 .lattice rfl
@[simp] theorem State.modSector_dram (s : State) (p : Nat) (f : Sector → Sector) : (s.modSector p f).dram = s.dram := (s.modSector_fr _ _).2.2.2.2 .dram rfl
@[simp] theorem State.modSector_ecc (s : State) (p : Nat) (f : Sector → Sector) : (s.modSector p f).ecc = s.ecc := (s.modSector_fr _ _).2.2.2.2 .ecc rfl
@[simp] theorem State.modSector_cipher (s : State) (p : Nat) (f : Sector → Sector) : (s.modSector p f).cipher = s.cipher := (s.modSector_fr _ _).2.2.2.2 .cipher rfl
@[simp] theorem State.modSector_steward (s : State) (p : Nat) (f : Sector → Sector) : (s.modSector p f).steward = s.steward := (s.modSector_fr _ _).2.2.2.2 .steward rfl
@[simp] theorem State.modSector_rec_ (s : State) (p : Nat) (f : Sector → Sector) : (s.modSector p f).rec_ = s.rec_ := (s.modSector_fr _ _).2.2.2.2 .recorder rfl
@[simp] theorem State.modSector_power (s : State) (p : Nat) (f : Sector → Sector) : (s.modSector p f).power = s.power := (s.modSector_fr _ _).2.2.2.2 .power rfl
@[simp] theorem State.modSector_setting (s : State) (p : Nat) (f : Sector → Sector) (idx sub : Nat) : (s.modSector p f).setting idx sub = s.setting idx sub := by simp only [State.setting, State.modSector_settings, State.modSector_hinge]

theorem State.modEccChan_fr (s : State) (n : Nat) (f : EccChan → EccChan) : Laws.Fr 16384 s (s.modEccChan n f) := Laws.fr_modEccChan Laws.in_self Laws.fr_refl _ _
@[simp] theorem State.modEccChan_pending (s : State) (n : Nat) (f : EccChan → EccChan) : (s.modEccChan n f).pending = s.pending := (s.modEccChan_fr _ _).1
@[simp] theorem State.modEccChan_now (s : State) (n : Nat) (f : EccChan → EccChan) : (s.modEccChan n f).now = s.now := (s.modEccChan_fr _ _).2.1
@[simp] theorem State.modEccChan_out (s : State) (n : Nat) (f : EccChan → EccChan) : (s.modEccChan n f).out = s.out := (s.modEccChan_fr _ _).2.2.2.2 .out rfl
@[simp] theorem State.modEccChan_mem (s : State) (n : Nat) (f : EccChan → EccChan) : (s.modEccChan n f).mem = s.mem := (s.modEccChan_fr _ _).2.2.2.2 .mem rfl
@[simp] theorem State.modEccChan_settings (s : State) (n : Nat) (f : EccChan → EccChan) : (s.modEccChan n f).settings = s.settings := (s.modEccChan_fr _ _).2.2.2.2 .settings rfl
@[simp] theorem State.modEccChan_dict (s : State) (n : Nat) (f : EccChan → EccChan) : (s.modEccChan n f).dict = s.dict := (s.modEccChan_fr _ _).2.2.2.2 .dict rfl
@[simp] theorem State.modEccChan_pace (s : State) (n : Nat) (f : EccChan → EccChan) : (s.modEccChan n f).pace = s.pace := (s.modEccChan_fr _ _).2.2.2.2 .pace rfl
@[simp] theorem State.modEccChan_host (s : State) (n : Nat) (f : EccChan → EccChan) : (s.modEccChan n f).host = s.host := (s.modEccChan_fr _ _).2.2.2.2 .host rfl
@[simp] theorem State.modEccChan_rings (s : State) (n : Nat) (f : EccChan → EccChan) : (s.modEccChan n f).rings = s.rings := (s.modEccChan_fr _ _).2.2.2.2 .rings rfl
@[simp] theorem State.modEccChan_place (s : State) (n : Nat) (f : EccChan → EccChan) : (s.modEccChan n f).place = s.place := (s.modEccChan_fr _ _).2.2.2.2 .place rfl
@[simp] theorem State.modEccChan_persist (s : State) (n : Nat) (f : EccChan → EccChan) : (s.modEccChan n f).persist = s.persist := (s.modEccChan_fr _ _).2.2.2.2 .persist rfl
@[simp] theorem State.modEccChan_twin (s : State) (n : Nat) (f : EccChan → EccChan) : (s.modEccChan n f).twin = s.twin := (s.modEccChan_fr _ _).2.2.2.2 .twin rfl
@[simp] theorem State.modEccChan_hinge (s : State) (n : Nat) (f : EccChan → EccChan) : (s.modEccChan n f).hinge = s.hinge := (s.modEccChan_fr _ _).2.2.2.2 .hinge rfl
@[simp] theorem State.modEccChan_pool (s : State) (n : Nat) (f : EccChan → EccChan) : (s.modEccChan n f).pool = s.pool := (s.modEccChan_fr _ _).2.2.2.2 .pool rfl
@[simp] theorem State.modEccChan_lattice (s : State) (n : Nat) (f : EccChan → EccChan) : (s.modEccChan n f).lattice = s.lattice := (s.modEccChan_fr _ _).2.2.2.2 .lattice rfl
@[simp] theorem State.modEccChan_dram (s : State) (n : Nat) (f : EccChan → EccChan) : (s.modEccChan n f).dram = s.dram := (s.modEccChan_fr _ _).2.2.2.2 .dram rfl
@[simp] theorem State.modEccChan_cipher (s : State) (n : Nat) (f : EccChan → EccChan) : (s.modEccChan n f).cipher = s.cipher := (s.modEccChan_fr _ _).2.2.2.2 .cipher rfl
@[simp] theorem State.modEccChan_steward (s : State) (n : Nat) (f : EccChan → EccChan) : (s.modEccChan n f).steward = s.steward := (s.modEccChan_fr _ _).2.2.2.2 .steward rfl
@[simp] theorem State.modEccChan_sbox (s : State) (n : Nat) (f : EccChan → EccChan) : (s.modEccChan n f).sbox = s.sbox := (s.modEccChan_fr _ _).2.2.2.2 .sbox rfl
@[simp] theorem State.modEccChan_rec_ (s : State) (n : Nat) (f : EccChan → EccChan) : (s.modEccChan n f).rec_ = s.rec_ := (s.modEccChan_fr _ _).2.2.2.2 .recorder rfl
@[simp] theorem State.modEccChan_power (s : State) (n : Nat) (f : EccChan → EccChan) : (s.modEccChan n f).power = s.power := (s.modEccChan_fr _ _).2.2.2.2 .power rfl
@[simp] theorem State.modEccChan_setting (s : State) (n : Nat) (f : EccChan → EccChan) (idx sub : Nat) : (s.modEccChan n f).setting idx sub = s.setting idx sub := by simp only [State.setting, State.modEccChan_settings, State.modEccChan_hinge]

theorem State.modMig_fr (s : State) (key : Nat) (f : Mig → Mig) : Laws.Fr 128 s (s.modMig key f) := Laws.fr_modMig Laws.in_self Laws.fr_refl _ _
@[simp] theorem State.modMig_pending (s : State) (key : Nat) (f : Mig → Mig) : (s.modMig key f).pending = s.pending := (s.modMig_fr _ _).1
@[simp] theorem State.modMig_now (s : State) (key : Nat) (f : Mig → Mig) : (s.modMig key f).now = s.now := (s.modMig_fr _ _).2.1
@[simp] theorem State.modMig_out (s : State) (key : Nat) (f : Mig → Mig) : (s.modMig key f).out = s.out := (s.modMig_fr _ _).2.2.2.2 .out rfl
@[simp] theorem State.modMig_mem (s : State) (key : Nat) (f : Mig → Mig) : (s.modMig key f).mem = s.mem := (s.modMig_fr _ _).2.2.2.2 .mem rfl
@[simp] theorem State.modMig_settings (s : State) (key : Nat) (f : Mig → Mig) : (s.modMig key f).settings = s.settings := (s.modMig_fr _ _).2.2.2.2 .settings rfl
@[simp] theorem State.modMig_dict (s : State) (key : Nat) (f : Mig → Mig) : (s.modMig key f).dict = s.dict := (s.modMig_fr _ _).2.2.2.2 .dict rfl
@[simp] theorem State.modMig_pace (s : State) (key : Nat) (f : Mig → Mig) : (s.modMig key f).pace = s.pace := (s.modMig_fr _ _).2.2.2.2 .pace rfl
@[simp] theorem State.modMig_host (s : State) (key : Nat) (f : Mig → Mig) : (s.modMig key f).host = s.host := (s.modMig_fr _ _).2.2.2.2 .host rfl
@[simp] theorem State.modMig_rings (s : State) (key : Nat) (f : Mig → Mig) : (s.modMig key f).rings = s.rings := (s.modMig_fr _ _).2.2.2.2 .rings rfl
@[simp] theorem State.modMig_persist (s : State) (key : Nat) (f : Mig → Mig) : (s.modMig key f).persist = s.persist := (s.modMig_fr _ _).2.2.2.2 .persist rfl
@[simp] theorem State.modMig_twin (s : State) (key : Nat) (f : Mig → Mig) : (s.modMig key f).twin = s.twin := (s.modMig_fr _ _).2.2.2.2 .twin rfl
@[simp] theorem State.modMig_hinge (s : State) (key : Nat) (f : Mig → Mig) : (s.modMig key f).hinge = s.hinge := (s.modMig_fr _ _).2.2.2.2 .hinge rfl
@[simp] theorem State.modMig_pool (s : State) (key : Nat) (f : Mig → Mig) : (s.modMig key f).pool = s.pool := (s.modMig_fr _ _).2.2.2.2 .pool rfl
@[simp] theorem State.modMig_lattice (s : State) (key : Nat) (f : Mig → Mig) : (s.modMig key f).lattice = s.lattice := (s.modMig_fr _ _).2.2.2.2 .lattice rfl
@[simp] theorem State.modMig_dram (s : State) (key : Nat) (f : Mig → Mig) : (s.modMig key f).dram = s.dram := (s.modMig_fr _ _).2.2.2.2 .dram rfl
@[simp] theorem State.modMig_ecc (s : State) (key : Nat) (f : Mig → Mig) : (s.modMig key f).ecc = s.ecc := (s.modMig_fr _ _).2.2.2.2 .ecc rfl
@[simp] theorem State.modMig_cipher (s : State) (key : Nat) (f : Mig → Mig) : (s.modMig key f).cipher = s.cipher := (s.modMig_fr _ _).2.2.2.2 .cipher rfl
@[simp] theorem State.modMig_steward (s : State) (key : Nat) (f : Mig → Mig) : (s.modMig key f).steward = s.steward := (s.modMig_fr _ _).2.2.2.2 .steward rfl
@[simp] theorem State.modMig_sbox (s : State) (key : Nat) (f : Mig → Mig) : (s.modMig key f).sbox = s.sbox := (s.modMig_fr _ _).2.2.2.2 .sbox rfl
@[simp] theorem State.modMig_rec_ (s : State) (key : Nat) (f : Mig → Mig) : (s.modMig key f).rec_ = s.rec_ := (s.modMig_fr _ _).2.2.2.2 .recorder rfl
@[simp] theorem State.modMig_power (s : State) (key : Nat) (f : Mig → Mig) : (s.modMig key f).power = s.power := (s.modMig_fr _ _).2.2.2.2 .power rfl
@[simp] theorem State.modMig_setting (s : State) (key : Nat) (f : Mig → Mig) (idx sub : Nat) : (s.modMig key f).setting idx sub = s.setting idx sub := by simp only [State.setting, State.modMig_settings, State.modMig_hinge]

theorem State.putLine_fr (s : State) (ln : Nat) (v : Line) (p : Bool) : Laws.Fr 16386 s (s.putLine ln v p) := Laws.fr_putLine Laws.in_self Laws.fr_refl _ _ _
@[simp] theorem State.putLine_pending (s : State) (ln : Nat) (v : Line) (p : Bool) : (s.putLine ln v p).pending = s.pending := (s.putLine_fr _ _ _).1
@[simp] theorem State.putLine_now (s : State) (ln : Nat) (v : Line) (p : Bool) : (s.putLine ln v p).now = s.now := (s.putLine_fr _ _ _).2.1
@[simp] theorem State.putLine_out (s : State) (ln : Nat) (v : Line) (p : Bool) : (s.putLine ln v p).out = s.out := (s.putLine_fr _ _ _).2.2.2.2 .out rfl
@[simp] theorem State.putLine_settings (s : State) (ln : Nat) (v : Line) (p : Bool) : (s.putLine ln v p).settings = s.settings := (s.putLine_fr _ _ _).2.2.2.2 .settings rfl
@[simp] theorem State.putLine_dict (s : State) (ln : Nat) (v : Line) (p : Bool) : (s.putLine ln v p).dict = s.dict := (s.putLine_fr _ _ _).2.2.2.2 .dict rfl
@[simp] theorem State.putLine_pace (s : State) (ln : Nat) (v : Line) (p : Bool) : (s.putLine ln v p).pace = s.pace := (s.putLine_fr _ _ _).2.2.2.2 .pace rfl
@[simp] theorem State.putLine_host (s : State) (ln : Nat) (v : Line) (p : Bool) : (s.putLine ln v p).host = s.host := (s.putLine_fr _ _ _).2.2.2.2 .host rfl
@[simp] theorem State.putLine_rings (s : State) (ln : Nat) (v : Line) (p : Bool) : (s.putLine ln v p).rings = s.rings := (s.putLine_fr _ _ _).2.2.2.2 .rings rfl
@[simp] theorem State.putLine_place (s : State) (ln : Nat) (v : Line) (p : Bool) : (s.putLine ln v p).place = s.place := (s.putLine_fr _ _ _).2.2.2.2 .place rfl
@[simp] theorem State.putLine_persist (s : State) (ln : Nat) (v : Line) (p : Bool) : (s.putLine ln v p).persist = s.persist := (s.putLine_fr _ _ _).2.2.2.2 .persist rfl
@[simp] theorem State.putLine_twin (s : State) (ln : Nat) (v : Line) (p : Bool) : (s.putLine ln v p).twin = s.twin := (s.putLine_fr _ _ _).2.2.2.2 .twin rfl
@[simp] theorem State.putLine_hinge (s : State) (ln : Nat) (v : Line) (p : Bool) : (s.putLine ln v p).hinge = s.hinge := (s.putLine_fr _ _ _).2.2.2.2 .hinge rfl
@[simp] theorem State.putLine_pool (s : State) (ln : Nat) (v : Line) (p : Bool) : (s.putLine ln v p).pool = s.pool := (s.putLine_fr _ _ _).2.2.2.2 .pool rfl
@[simp] theorem State.putLine_lattice (s : State) (ln : Nat) (v : Line) (p : Bool) : (s.putLine ln v p).lattice = s.lattice := (s.putLine_fr _ _ _).2.2.2.2 .lattice rfl
@[simp] theorem State.putLine_dram (s : State) (ln : Nat) (v : Line) (p : Bool) : (s.putLine ln v p).dram = s.dram := (s.putLine_fr _ _ _).2.2.2.2 .dram rfl
@[simp] theorem State.putLine_cipher (s : State) (ln : Nat) (v : Line) (p : Bool) : (s.putLine ln v p).cipher = s.cipher := (s.putLine_fr _ _ _).2.2.2.2 .cipher rfl
@[simp] theorem State.putLine_steward (s : State) (ln : Nat) (v : Line) (p : Bool) : (s.putLine ln v p).steward = s.steward := (s.putLine_fr _ _ _).2.2.2.2 .steward rfl
@[simp] theorem State.putLine_sbox (s : State) (ln : Nat) (v : Line) (p : Bool) : (s.putLine ln v p).sbox = s.sbox := (s.putLine_fr _ _ _).2.2.2.2 .sbox rfl
@[simp] theorem State.putLine_rec_ (s : State) (ln : Nat) (v : Line) (p : Bool) : (s.putLine ln v p).rec_ = s.rec_ := (s.putLine_fr _ _ _).2.2.2.2 .recorder rfl
@[simp] theorem State.putLine_power (s : State) (ln : Nat) (v : Line) (p : Bool) : (s.putLine ln v p).power = s.power := (s.putLine_fr _ _ _).2.2.2.2 .power rfl
@[simp] theorem State.putLine_setting (s : State) (ln : Nat) (v : Line) (p : Bool) (idx sub : Nat) : (s.putLine ln v p).setting idx sub = s.setting idx sub := by simp only [State.setting, State.putLine_settings, State.putLine_hinge]

theorem State.setPoison_fr (s : State) (ln : Nat) (p : Bool) : Laws.Fr 16384 s (s.setPoison ln p) := Laws.fr_setPoison Laws.in_self Laws.fr_refl _ _
@[simp] theorem State.setPoison_pending (s : State) (ln : Nat) (p : Bool) : (s.setPoison ln p).pending = s.pending := (s.setPoison_fr _ _).1
@[simp] theorem State.setPoison_now (s : State) (ln : Nat) (p : Bool) : (s.setPoison ln p).now = s.now := (s.setPoison_fr _ _).2.1
@[simp] theorem State.setPoison_out (s : State) (ln : Nat) (p : Bool) : (s.setPoison ln p).out = s.out := (s.setPoison_fr _ _).2.2.2.2 .out rfl
@[simp] theorem State.setPoison_mem (s : State) (ln : Nat) (p : Bool) : (s.setPoison ln p).mem = s.mem := (s.setPoison_fr _ _).2.2.2.2 .mem rfl
@[simp] theorem State.setPoison_settings (s : State) (ln : Nat) (p : Bool) : (s.setPoison ln p).settings = s.settings := (s.setPoison_fr _ _).2.2.2.2 .settings rfl
@[simp] theorem State.setPoison_dict (s : State) (ln : Nat) (p : Bool) : (s.setPoison ln p).dict = s.dict := (s.setPoison_fr _ _).2.2.2.2 .dict rfl
@[simp] theorem State.setPoison_pace (s : State) (ln : Nat) (p : Bool) : (s.setPoison ln p).pace = s.pace := (s.setPoison_fr _ _).2.2.2.2 .pace rfl
@[simp] theorem State.setPoison_host (s : State) (ln : Nat) (p : Bool) : (s.setPoison ln p).host = s.host := (s.setPoison_fr _ _).2.2.2.2 .host rfl
@[simp] theorem State.setPoison_rings (s : State) (ln : Nat) (p : Bool) : (s.setPoison ln p).rings = s.rings := (s.setPoison_fr _ _).2.2.2.2 .rings rfl
@[simp] theorem State.setPoison_place (s : State) (ln : Nat) (p : Bool) : (s.setPoison ln p).place = s.place := (s.setPoison_fr _ _).2.2.2.2 .place rfl
@[simp] theorem State.setPoison_persist (s : State) (ln : Nat) (p : Bool) : (s.setPoison ln p).persist = s.persist := (s.setPoison_fr _ _).2.2.2.2 .persist rfl
@[simp] theorem State.setPoison_twin (s : State) (ln : Nat) (p : Bool) : (s.setPoison ln p).twin = s.twin := (s.setPoison_fr _ _).2.2.2.2 .twin rfl
@[simp] theorem State.setPoison_hinge (s : State) (ln : Nat) (p : Bool) : (s.setPoison ln p).hinge = s.hinge := (s.setPoison_fr _ _).2.2.2.2 .hinge rfl
@[simp] theorem State.setPoison_pool (s : State) (ln : Nat) (p : Bool) : (s.setPoison ln p).pool = s.pool := (s.setPoison_fr _ _).2.2.2.2 .pool rfl
@[simp] theorem State.setPoison_lattice (s : State) (ln : Nat) (p : Bool) : (s.setPoison ln p).lattice = s.lattice := (s.setPoison_fr _ _).2.2.2.2 .lattice rfl
@[simp] theorem State.setPoison_dram (s : State) (ln : Nat) (p : Bool) : (s.setPoison ln p).dram = s.dram := (s.setPoison_fr _ _).2.2.2.2 .dram rfl
@[simp] theorem State.setPoison_cipher (s : State) (ln : Nat) (p : Bool) : (s.setPoison ln p).cipher = s.cipher := (s.setPoison_fr _ _).2.2.2.2 .cipher rfl
@[simp] theorem State.setPoison_steward (s : State) (ln : Nat) (p : Bool) : (s.setPoison ln p).steward = s.steward := (s.setPoison_fr _ _).2.2.2.2 .steward rfl
@[simp] theorem State.setPoison_sbox (s : State) (ln : Nat) (p : Bool) : (s.setPoison ln p).sbox = s.sbox := (s.setPoison_fr _ _).2.2.2.2 .sbox rfl
@[simp] theorem State.setPoison_rec_ (s : State) (ln : Nat) (p : Bool) : (s.setPoison ln p).rec_ = s.rec_ := (s.setPoison_fr _ _).2.2.2.2 .recorder rfl
@[simp] theorem State.setPoison_power (s : State) (ln : Nat) (p : Bool) : (s.setPoison ln p).power = s.power := (s.setPoison_fr _ _).2.2.2.2 .power rfl
@[simp] theorem State.setPoison_setting (s : State) (ln : Nat) (p : Bool) (idx sub : Nat) : (s.setPoison ln p).setting idx sub = s.setting idx sub := by simp only [State.setting, State.setPoison_settings, State.setPoison_hinge]

theorem State.sbComplete_fr (s : State) (d : SbDesc) (status : Nat) (progress : Nat) (pulses : Nat) (retired : Bool) (weak : Bool) (data : Bytes) : Laws.Fr 131073 s (s.sbComplete d status progress pulses retired weak data) := Laws.fr_sbComplete Laws.in_self Laws.fr_refl _ _ _ _ _ _ _
@[simp] theorem State.sbComplete_pending (s : State) (d : SbDesc) (status : Nat) (progress : Nat) (pulses : Nat) (retired : Bool) (weak : Bool) (data : Bytes) : (s.sbComplete d status progress pulses retired weak data).pending = s.pending := (s.sbComplete_fr _ _ _ _ _ _ _).1
@[simp] theorem State.sbComplete_now (s : State) (d : SbDesc) (status : Nat) (progress : Nat) (pulses : Nat) (retired : Bool) (weak : Bool) (data : Bytes) : (s.sbComplete d status progress pulses retired weak data).now = s.now := (s.sbComplete_fr _ _ _ _ _ _ _).2.1
@[simp] theorem State.sbComplete_mem (s : State) (d : SbDesc) (status : Nat) (progress : Nat) (pulses : Nat) (retired : Bool) (weak : Bool) (data : Bytes) : (s.sbComplete d status progress pulses retired weak data).mem = s.mem := (s.sbComplete_fr _ _ _ _ _ _ _).2.2.2.2 .mem rfl
@[simp] theorem State.sbComplete_settings (s : State) (d : SbDesc) (status : Nat) (progress : Nat) (pulses : Nat) (retired : Bool) (weak : Bool) (data : Bytes) : (s.sbComplete d status progress pulses retired weak data).settings = s.settings := (s.sbComplete_fr _ _ _ _ _ _ _).2.2.2.2 .settings rfl
@[simp] theorem State.sbComplete_dict (s : State) (d : SbDesc) (status : Nat) (progress : Nat) (pulses : Nat) (retired : Bool) (weak : Bool) (data : Bytes) : (s.sbComplete d status progress pulses retired weak data).dict = s.dict := (s.sbComplete_fr _ _ _ _ _ _ _).2.2.2.2 .dict rfl
@[simp] theorem State.sbComplete_pace (s : State) (d : SbDesc) (status : Nat) (progress : Nat) (pulses : Nat) (retired : Bool) (weak : Bool) (data : Bytes) : (s.sbComplete d status progress pulses retired weak data).pace = s.pace := (s.sbComplete_fr _ _ _ _ _ _ _).2.2.2.2 .pace rfl
@[simp] theorem State.sbComplete_host (s : State) (d : SbDesc) (status : Nat) (progress : Nat) (pulses : Nat) (retired : Bool) (weak : Bool) (data : Bytes) : (s.sbComplete d status progress pulses retired weak data).host = s.host := (s.sbComplete_fr _ _ _ _ _ _ _).2.2.2.2 .host rfl
@[simp] theorem State.sbComplete_rings (s : State) (d : SbDesc) (status : Nat) (progress : Nat) (pulses : Nat) (retired : Bool) (weak : Bool) (data : Bytes) : (s.sbComplete d status progress pulses retired weak data).rings = s.rings := (s.sbComplete_fr _ _ _ _ _ _ _).2.2.2.2 .rings rfl
@[simp] theorem State.sbComplete_place (s : State) (d : SbDesc) (status : Nat) (progress : Nat) (pulses : Nat) (retired : Bool) (weak : Bool) (data : Bytes) : (s.sbComplete d status progress pulses retired weak data).place = s.place := (s.sbComplete_fr _ _ _ _ _ _ _).2.2.2.2 .place rfl
@[simp] theorem State.sbComplete_persist (s : State) (d : SbDesc) (status : Nat) (progress : Nat) (pulses : Nat) (retired : Bool) (weak : Bool) (data : Bytes) : (s.sbComplete d status progress pulses retired weak data).persist = s.persist := (s.sbComplete_fr _ _ _ _ _ _ _).2.2.2.2 .persist rfl
@[simp] theorem State.sbComplete_twin (s : State) (d : SbDesc) (status : Nat) (progress : Nat) (pulses : Nat) (retired : Bool) (weak : Bool) (data : Bytes) : (s.sbComplete d status progress pulses retired weak data).twin = s.twin := (s.sbComplete_fr _ _ _ _ _ _ _).2.2.2.2 .twin rfl
@[simp] theorem State.sbComplete_hinge (s : State) (d : SbDesc) (status : Nat) (progress : Nat) (pulses : Nat) (retired : Bool) (weak : Bool) (data : Bytes) : (s.sbComplete d status progress pulses retired weak data).hinge = s.hinge := (s.sbComplete_fr _ _ _ _ _ _ _).2.2.2.2 .hinge rfl
@[simp] theorem State.sbComplete_pool (s : State) (d : SbDesc) (status : Nat) (progress : Nat) (pulses : Nat) (retired : Bool) (weak : Bool) (data : Bytes) : (s.sbComplete d status progress pulses retired weak data).pool = s.pool := (s.sbComplete_fr _ _ _ _ _ _ _).2.2.2.2 .pool rfl
@[simp] theorem State.sbComplete_lattice (s : State) (d : SbDesc) (status : Nat) (progress : Nat) (pulses : Nat) (retired : Bool) (weak : Bool) (data : Bytes) : (s.sbComplete d status progress pulses retired weak data).lattice = s.lattice := (s.sbComplete_fr _ _ _ _ _ _ _).2.2.2.2 .lattice rfl
@[simp] theorem State.sbComplete_dram (s : State) (d : SbDesc) (status : Nat) (progress : Nat) (pulses : Nat) (retired : Bool) (weak : Bool) (data : Bytes) : (s.sbComplete d status progress pulses retired weak data).dram = s.dram := (s.sbComplete_fr _ _ _ _ _ _ _).2.2.2.2 .dram rfl
@[simp] theorem State.sbComplete_ecc (s : State) (d : SbDesc) (status : Nat) (progress : Nat) (pulses : Nat) (retired : Bool) (weak : Bool) (data : Bytes) : (s.sbComplete d status progress pulses retired weak data).ecc = s.ecc := (s.sbComplete_fr _ _ _ _ _ _ _).2.2.2.2 .ecc rfl
@[simp] theorem State.sbComplete_cipher (s : State) (d : SbDesc) (status : Nat) (progress : Nat) (pulses : Nat) (retired : Bool) (weak : Bool) (data : Bytes) : (s.sbComplete d status progress pulses retired weak data).cipher = s.cipher := (s.sbComplete_fr _ _ _ _ _ _ _).2.2.2.2 .cipher rfl
@[simp] theorem State.sbComplete_steward (s : State) (d : SbDesc) (status : Nat) (progress : Nat) (pulses : Nat) (retired : Bool) (weak : Bool) (data : Bytes) : (s.sbComplete d status progress pulses retired weak data).steward = s.steward := (s.sbComplete_fr _ _ _ _ _ _ _).2.2.2.2 .steward rfl
@[simp] theorem State.sbComplete_rec_ (s : State) (d : SbDesc) (status : Nat) (progress : Nat) (pulses : Nat) (retired : Bool) (weak : Bool) (data : Bytes) : (s.sbComplete d status progress pulses retired weak data).rec_ = s.rec_ := (s.sbComplete_fr _ _ _ _ _ _ _).2.2.2.2 .recorder rfl
@[simp] theorem State.sbComplete_power (s : State) (d : SbDesc) (status : Nat) (progress : Nat) (pulses : Nat) (retired : Bool) (weak : Bool) (data : Bytes) : (s.sbComplete d status progress pulses retired weak data).power = s.power := (s.sbComplete_fr _ _ _ _ _ _ _).2.2.2.2 .power rfl
@[simp] theorem State.sbComplete_setting (s : State) (d : SbDesc) (status : Nat) (progress : Nat) (pulses : Nat) (retired : Bool) (weak : Bool) (data : Bytes) (idx sub : Nat) : (s.sbComplete d status progress pulses retired weak data).setting idx sub = s.setting idx sub := by simp only [State.setting, State.sbComplete_settings, State.sbComplete_hinge]

theorem State.chanEvent_fr (s : State) (n : Nat) (cause : Nat) (step : Nat) (rank : Nat) (poisoned : Nat) : Laws.Fr 262144 s (s.chanEvent n cause step rank poisoned) := Laws.fr_chanEvent Laws.in_self Laws.fr_refl _ _ _ _ _
@[simp] theorem State.chanEvent_pending (s : State) (n : Nat) (cause : Nat) (step : Nat) (rank : Nat) (poisoned : Nat) : (s.chanEvent n cause step rank poisoned).pending = s.pending := (s.chanEvent_fr _ _ _ _ _).1
@[simp] theorem State.chanEvent_now (s : State) (n : Nat) (cause : Nat) (step : Nat) (rank : Nat) (poisoned : Nat) : (s.chanEvent n cause step rank poisoned).now = s.now := (s.chanEvent_fr _ _ _ _ _).2.1
@[simp] theorem State.chanEvent_out (s : State) (n : Nat) (cause : Nat) (step : Nat) (rank : Nat) (poisoned : Nat) : (s.chanEvent n cause step rank poisoned).out = s.out := (s.chanEvent_fr _ _ _ _ _).2.2.2.2 .out rfl
@[simp] theorem State.chanEvent_mem (s : State) (n : Nat) (cause : Nat) (step : Nat) (rank : Nat) (poisoned : Nat) : (s.chanEvent n cause step rank poisoned).mem = s.mem := (s.chanEvent_fr _ _ _ _ _).2.2.2.2 .mem rfl
@[simp] theorem State.chanEvent_settings (s : State) (n : Nat) (cause : Nat) (step : Nat) (rank : Nat) (poisoned : Nat) : (s.chanEvent n cause step rank poisoned).settings = s.settings := (s.chanEvent_fr _ _ _ _ _).2.2.2.2 .settings rfl
@[simp] theorem State.chanEvent_dict (s : State) (n : Nat) (cause : Nat) (step : Nat) (rank : Nat) (poisoned : Nat) : (s.chanEvent n cause step rank poisoned).dict = s.dict := (s.chanEvent_fr _ _ _ _ _).2.2.2.2 .dict rfl
@[simp] theorem State.chanEvent_pace (s : State) (n : Nat) (cause : Nat) (step : Nat) (rank : Nat) (poisoned : Nat) : (s.chanEvent n cause step rank poisoned).pace = s.pace := (s.chanEvent_fr _ _ _ _ _).2.2.2.2 .pace rfl
@[simp] theorem State.chanEvent_host (s : State) (n : Nat) (cause : Nat) (step : Nat) (rank : Nat) (poisoned : Nat) : (s.chanEvent n cause step rank poisoned).host = s.host := (s.chanEvent_fr _ _ _ _ _).2.2.2.2 .host rfl
@[simp] theorem State.chanEvent_rings (s : State) (n : Nat) (cause : Nat) (step : Nat) (rank : Nat) (poisoned : Nat) : (s.chanEvent n cause step rank poisoned).rings = s.rings := (s.chanEvent_fr _ _ _ _ _).2.2.2.2 .rings rfl
@[simp] theorem State.chanEvent_place (s : State) (n : Nat) (cause : Nat) (step : Nat) (rank : Nat) (poisoned : Nat) : (s.chanEvent n cause step rank poisoned).place = s.place := (s.chanEvent_fr _ _ _ _ _).2.2.2.2 .place rfl
@[simp] theorem State.chanEvent_persist (s : State) (n : Nat) (cause : Nat) (step : Nat) (rank : Nat) (poisoned : Nat) : (s.chanEvent n cause step rank poisoned).persist = s.persist := (s.chanEvent_fr _ _ _ _ _).2.2.2.2 .persist rfl
@[simp] theorem State.chanEvent_twin (s : State) (n : Nat) (cause : Nat) (step : Nat) (rank : Nat) (poisoned : Nat) : (s.chanEvent n cause step rank poisoned).twin = s.twin := (s.chanEvent_fr _ _ _ _ _).2.2.2.2 .twin rfl
@[simp] theorem State.chanEvent_hinge (s : State) (n : Nat) (cause : Nat) (step : Nat) (rank : Nat) (poisoned : Nat) : (s.chanEvent n cause step rank poisoned).hinge = s.hinge := (s.chanEvent_fr _ _ _ _ _).2.2.2.2 .hinge rfl
@[simp] theorem State.chanEvent_pool (s : State) (n : Nat) (cause : Nat) (step : Nat) (rank : Nat) (poisoned : Nat) : (s.chanEvent n cause step rank poisoned).pool = s.pool := (s.chanEvent_fr _ _ _ _ _).2.2.2.2 .pool rfl
@[simp] theorem State.chanEvent_lattice (s : State) (n : Nat) (cause : Nat) (step : Nat) (rank : Nat) (poisoned : Nat) : (s.chanEvent n cause step rank poisoned).lattice = s.lattice := (s.chanEvent_fr _ _ _ _ _).2.2.2.2 .lattice rfl
@[simp] theorem State.chanEvent_dram (s : State) (n : Nat) (cause : Nat) (step : Nat) (rank : Nat) (poisoned : Nat) : (s.chanEvent n cause step rank poisoned).dram = s.dram := (s.chanEvent_fr _ _ _ _ _).2.2.2.2 .dram rfl
@[simp] theorem State.chanEvent_ecc (s : State) (n : Nat) (cause : Nat) (step : Nat) (rank : Nat) (poisoned : Nat) : (s.chanEvent n cause step rank poisoned).ecc = s.ecc := (s.chanEvent_fr _ _ _ _ _).2.2.2.2 .ecc rfl
@[simp] theorem State.chanEvent_cipher (s : State) (n : Nat) (cause : Nat) (step : Nat) (rank : Nat) (poisoned : Nat) : (s.chanEvent n cause step rank poisoned).cipher = s.cipher := (s.chanEvent_fr _ _ _ _ _).2.2.2.2 .cipher rfl
@[simp] theorem State.chanEvent_steward (s : State) (n : Nat) (cause : Nat) (step : Nat) (rank : Nat) (poisoned : Nat) : (s.chanEvent n cause step rank poisoned).steward = s.steward := (s.chanEvent_fr _ _ _ _ _).2.2.2.2 .steward rfl
@[simp] theorem State.chanEvent_sbox (s : State) (n : Nat) (cause : Nat) (step : Nat) (rank : Nat) (poisoned : Nat) : (s.chanEvent n cause step rank poisoned).sbox = s.sbox := (s.chanEvent_fr _ _ _ _ _).2.2.2.2 .sbox rfl
@[simp] theorem State.chanEvent_power (s : State) (n : Nat) (cause : Nat) (step : Nat) (rank : Nat) (poisoned : Nat) : (s.chanEvent n cause step rank poisoned).power = s.power := (s.chanEvent_fr _ _ _ _ _).2.2.2.2 .power rfl
@[simp] theorem State.chanEvent_setting (s : State) (n : Nat) (cause : Nat) (step : Nat) (rank : Nat) (poisoned : Nat) (idx sub : Nat) : (s.chanEvent n cause step rank poisoned).setting idx sub = s.setting idx sub := by simp only [State.setting, State.chanEvent_settings, State.chanEvent_hinge]

theorem State.record_fr (s : State) (x : Rec) : Laws.Fr 262144 s (s.record x) := Laws.fr_record Laws.in_self Laws.fr_refl _
@[simp] theorem State.record_pending (s : State) (x : Rec) : (s.record x).pending = s.pending := (s.record_fr _).1
@[simp] theorem State.record_now (s : State) (x : Rec) : (s.record x).now = s.now := (s.record_fr _).2.1
@[simp] theorem State.record_out (s : State) (x : Rec) : (s.record x).out = s.out := (s.record_fr _).2.2.2.2 .out rfl
@[simp] theorem State.record_mem (s : State) (x : Rec) : (s.record x).mem = s.mem := (s.record_fr _).2.2.2.2 .mem rfl
@[simp] theorem State.record_settings (s : State) (x : Rec) : (s.record x).settings = s.settings := (s.record_fr _).2.2.2.2 .settings rfl
@[simp] theorem State.record_dict (s : State) (x : Rec) : (s.record x).dict = s.dict := (s.record_fr _).2.2.2.2 .dict rfl
@[simp] theorem State.record_pace (s : State) (x : Rec) : (s.record x).pace = s.pace := (s.record_fr _).2.2.2.2 .pace rfl
@[simp] theorem State.record_host (s : State) (x : Rec) : (s.record x).host = s.host := (s.record_fr _).2.2.2.2 .host rfl
@[simp] theorem State.record_rings (s : State) (x : Rec) : (s.record x).rings = s.rings := (s.record_fr _).2.2.2.2 .rings rfl
@[simp] theorem State.record_place (s : State) (x : Rec) : (s.record x).place = s.place := (s.record_fr _).2.2.2.2 .place rfl
@[simp] theorem State.record_persist (s : State) (x : Rec) : (s.record x).persist = s.persist := (s.record_fr _).2.2.2.2 .persist rfl
@[simp] theorem State.record_twin (s : State) (x : Rec) : (s.record x).twin = s.twin := (s.record_fr _).2.2.2.2 .twin rfl
@[simp] theorem State.record_hinge (s : State) (x : Rec) : (s.record x).hinge = s.hinge := (s.record_fr _).2.2.2.2 .hinge rfl
@[simp] theorem State.record_pool (s : State) (x : Rec) : (s.record x).pool = s.pool := (s.record_fr _).2.2.2.2 .pool rfl
@[simp] theorem State.record_lattice (s : State) (x : Rec) : (s.record x).lattice = s.lattice := (s.record_fr _).2.2.2.2 .lattice rfl
@[simp] theorem State.record_dram (s : State) (x : Rec) : (s.record x).dram = s.dram := (s.record_fr _).2.2.2.2 .dram rfl
@[simp] theorem State.record_ecc (s : State) (x : Rec) : (s.record x).ecc = s.ecc := (s.record_fr _).2.2.2.2 .ecc rfl
@[simp] theorem State.record_cipher (s : State) (x : Rec) : (s.record x).cipher = s.cipher := (s.record_fr _).2.2.2.2 .cipher rfl
@[simp] theorem State.record_steward (s : State) (x : Rec) : (s.record x).steward = s.steward := (s.record_fr _).2.2.2.2 .steward rfl
@[simp] theorem State.record_sbox (s : State) (x : Rec) : (s.record x).sbox = s.sbox := (s.record_fr _).2.2.2.2 .sbox rfl
@[simp] theorem State.record_power (s : State) (x : Rec) : (s.record x).power = s.power := (s.record_fr _).2.2.2.2 .power rfl
@[simp] theorem State.record_setting (s : State) (x : Rec) (idx sub : Nat) : (s.record x).setting idx sub = s.setting idx sub := by simp only [State.setting, State.record_settings, State.record_hinge]

end Sys2Proof.Machine
end

