-- ==== Sys2Proof/Tests/Slice0.lean ====
section
/-! SUPPORT. The model's own tests: the spec's worked examples and self-test patterns, the known answers of the standards it names, and
an ill-formed term for every kind of check of WellFormed. -/

set_option Elab.async false

namespace Sys2Proof.Tests

open Sys2Proof.Machine

/-! ### Words and codes -/

/-- R141: the standard check value of CRC-32C, over the nine digits from 1. -/
theorem test_crc32c : crc32cOf ((List.range 9).map (fun i => BitVec.ofNat 8 (0x31 + i))) = 0xE3069283 := by decide +kernel

/-- The half-codeword of R427: data bytes 0x00 to 0x1F, encoded. -/
def half : List Nat :=
  let d := (List.range 16).map (fun s => 2 * s + 256 * (2 * s + 1))
  d ++ burstCheck d

/-- The half with some symbols changed. -/
def flipped (r : List Nat) (es : List (Nat × Nat)) : List Nat := es.foldl (fun r e => modNth r e.1 (· ^^^ e.2)) r

/-- R427, B1: encoded data is clean. -/
theorem test_burst_clean : decodeHalf half [] = .clean ∧ half.length = 20 := by decide +kernel
/-- R427, B2: one symbol wrong is corrected. -/
theorem test_burst_one : ∀ s ∈ [0, 7, 15, 16, 19], decodeHalf (flipped half [(s, 0xFFFF)]) [] = .corrected half [s] := by decide +kernel
/-- R427, B3: a ×4 device wrong is corrected and the device named. -/
theorem test_burst_device : ∀ j ∈ [0, 5, 9], attributed false (decodeHalf (flipped half [(2 * j, 0xA5A5), (2 * j + 1, 0x5A5A)]) []) = some j := by
  decide +kernel
/-- R427, B4 and B5: the poison encoding reads as poisoned, also with a symbol wrong. -/
theorem test_burst_poison : decodeHalf poisonConst [] = .poisoned ∧ ∀ s ∈ [0, 15, 16, 19], decodeHalf (flipped poisonConst [(s, 1)]) [] = .poisoned := by
  decide +kernel
/-- R427, B6: device 3 erased and wrong, with symbol 12 wrong as well. -/
theorem test_burst_erasure :
    decodeHalf (flipped half [(6, 0xFFFF), (7, 0xFFFF), (12, 0x1234)]) (deviceSymbols false 3) = .corrected half [6, 7, 12] := by decide +kernel
/-- R427, B7: three symbols wrong are no error of one symbol. -/
theorem test_burst_three : findError [] 1 (burstSyn (flipped half [(0, 1), (1, 1), (2, 1)])) = none := by decide +kernel

/-- R427, W1 and W2: a word is clean, and one wrong bit is corrected. -/
theorem test_word_one : decodeWord (encodeWord 0x0123456789ABCDEF) = some (0x0123456789ABCDEF, false) ∧
    ∀ i ∈ [0, 63, 64, 79], decodeWord (encodeWord 0x0123456789ABCDEF ^^^ 2 ^ i) = some (0x0123456789ABCDEF, true) := by decide +kernel
/-- R427, W3: two wrong bits side by side are corrected. -/
theorem test_word_two : ∀ i ∈ [0, 64, 78], decodeWord (encodeWord 0x0123456789ABCDEF ^^^ 3 * 2 ^ i) = some (0x0123456789ABCDEF, true) := by
  decide +kernel
/-- R427, W4: three wrong bits are uncorrectable. -/
theorem test_word_three : ∀ i ∈ [0, 31, 77], decodeWord (encodeWord 0x0123456789ABCDEF ^^^ 7 * 2 ^ i) = none := by decide +kernel
/-- R427, W5: the poison bit is delivered. -/
theorem test_word_poison : decodeWord (encodeWord (2 ^ 64 + 0x0123456789ABCDEF)) = some (2 ^ 64 + 0x0123456789ABCDEF, false) := by decide +kernel

/-- A number written most significant byte first, as the standards print blocks. -/
def printed (n v : Nat) : Nat := fromLe (leBytes n v).reverse

/-- R432: the known answer of FIPS 197, appendix C.1 (AES-128). -/
theorem test_aes128 : aesEnc 16 (printed 16 0x000102030405060708090A0B0C0D0E0F) (printed 16 0x00112233445566778899AABBCCDDEEFF) =
    printed 16 0x69C4E0D86A7B0430D8CDB78070B4C55A := by decide +kernel
/-- R432: the inverse cipher on the known answer of FIPS 197, appendix C.3 (AES-256). -/
theorem test_aes256 : aesDec 32 (printed 32 0x000102030405060708090A0B0C0D0E0F101112131415161718191A1B1C1D1E1F)
    (printed 16 0x8EA2B7CA516745BFEAFC49904B496089) = printed 16 0x00112233445566778899AABBCCDDEEFF := by decide +kernel
/-- R432: the GCM test case of a zero key, a zero block and a 96-bit zero vector: ciphertext and tag. -/
theorem test_gcm : cipherOut 4 16 0 true (printed 16 1) (leBytes 16 0) 16 = leBytes 16 (printed 16 0x0388DACE60B6A392F328C2B971B2FE78) ∧
    gcmTag 16 0 (printed 16 1) (leBytes 16 (printed 16 0x0388DACE60B6A392F328C2B971B2FE78)) =
      leBytes 16 (printed 16 0xAB6E47D42CEC13BDF53A67B21257BDDF) := by decide +kernel
/-- R432: the first block of the CBC example of SP 800-38A, F.2.1. -/
theorem test_cbc : cipherOut 1 16 (printed 16 0x2B7E151628AED2A6ABF7158809CF4F3C) true (printed 16 0x000102030405060708090A0B0C0D0E0F)
    (leBytes 16 (printed 16 0x6BC1BEE22E409F96E93D7E117393172A)) 16 = leBytes 16 (printed 16 0x7649ABAC8119B246CEE98E9B12E9197D) := by decide +kernel

/-! ### Addresses and capacity -/

/-- The session of the spec's worked example of a load (R27 to R33): 0x0123 on volume 7. -/
def loadChain : State := { State.reset with settings := [(okey 0x4123 5, 0x4000000000), (okey 0x4123 7, 7), (okey 0x4123 8, 0x1000000000)] }
/-- The worked example of a load: its pool address, extent key and offset. -/
theorem test_load_chain : loadChain.poolAt 0x123 0x4012345640 = 0x7001012345640 ∧ 0x7001012345640 / extentBytes = 0x38008091 ∧
    0x7001012345640 % extentBytes = 0x145640 := by decide +kernel

/-- A device whose channels each hold two full DIMMs of two ranks. -/
def fullDevice : State := { State.reset with dram := { pop := 1, colBits := 7, rowBits := 17, chipBits := 1, ranks2 := 1, dimms2 := 1 } }
/-- The worked example of an address (R378, R379): channel 12, rank 0, subchannel B; the next slot is on channel 13. -/
theorem test_dram_address : slotChan 0x20A3C = 12 ∧ fullDevice.slotRank 0x20A3C = 0 ∧ fullDevice.lineSub (0x4147945640 / 64) = 1 ∧ slotChan 0x20A3D = 13 ∧
    fullDevice.ownExtents = 4194304 := by decide +kernel

/-- The worked example of a vault's shares (R34). -/
theorem test_vault_shares : spareReserve 4194304 32 = 262144 ∧ copySpace 4194304 16 = 131072 ∧ metaExtents 4194304 = 8192 ∧
    homeableOf 4194304 32 16 = 3792896 ∧ placeableOf 4194304 32 16 60 = 3555840 ∧ placeableOf 4194304 32 16 58 = 3437312 := by decide +kernel

/-- The 28-device pool of the worked example of a start without device 0 (R326): device 1 is the root. -/
def pool28 : State := { State.reset with pool := { entries := (List.range 28).map (fun d => { dev := d, ident := d }), number := 18, root := 1 } }
/-- Its tree: devices 2 to 17 under the root, devices 18 to 27 and device 0 under device 2. -/
theorem test_tree_positions : pool28.parentOf 2 = 1 ∧ pool28.parentOf 17 = 1 ∧ pool28.parentOf 18 = 2 ∧ pool28.parentOf 27 = 2 ∧ pool28.position 0 = 27 ∧
    pool28.parentOf 0 = 2 := by decide +kernel

/-- Sixteen striped drives of 6,000 MB/s and a hold-up of 4 s (R223). -/
def sixteenDrives : State := { State.reset with
  settings := [(okey 0x3300 1, 4000000000), (okey 0x3310 1, 16), (okey 0x3310 2, 0)] ++ (List.range 16).map (fun d => (okey (0x3340 + d) 2, 6000))
  persist := { State.reset.persist with drives := (List.range 16).map (fun d => (d, { state := 2 })) } }
/-- The worked example of the dirty ceiling. -/
theorem test_dirty_ceiling : sixteenDrives.ceiling = 66796875 := by decide +kernel

/-! ### The dictionary -/

/-- The header of the forwarded WRITE in the worked example of a forwarded change, field by field of the header table (R67). -/
theorem test_forwarded_write : headBytes { version := 1, opcode := 2, tag := 0x41, index := 0x2010, sub := 8, fwd := true, target := 18, type := 2, total := 1, value := [0x3A] } =
    [0x10, 0x02, 0x41, 0x00, 0x10, 0x20, 0x08, 0x01, 0x12, 0x00, 0x00, 0x02, 0, 0, 0, 0, 1, 0, 0, 0] := by decide +kernel

/-! ### Commands -/

/-- No row of the table gives bits: no word spells a command. -/
theorem test_no_word_decodes : decodeTableWord 32 0 = none ∧ State.reset.withFetchWord 32 0 = State.reset := by decide +kernel

/-- An ill-formed term for each check of the operands' own types is refused. -/
theorem test_ill_formed_parts :
    (Path.cxl 8 0).wf = false ∧ (Path.cxl 0 17).wf = false ∧
    (Req.mctp .i3c0 256).wf = false ∧ (Req.ld 8 0).wf = false ∧ (Req.ld 0 16).wf = false ∧ (Req.fwd 65536 0).wf = false ∧ (Req.fwd 0 32).wf = false ∧
    ([{ opcode := 128 }, { opcode := 1, tag := 65536 }, { opcode := 1, index := 65536 }, { opcode := 1, sub := 256 }, { opcode := 1, rsv7 := 32 },
      { opcode := 1, target := 65536 }, { opcode := 1, type := 256 }, { opcode := 1, offset := 2 ^ 32 }, { opcode := 1, total := 2 ^ 32 },
      { opcode := 1, version := 16 }, { opcode := 1, rsv0 := 16 }, { opcode := 1, value := List.replicate 1025 0 }, { opcode := 1, iana := 2 ^ 32 }, { opcode := 1, crc := 2 ^ 32 }] : List DictMsg).all (fun m => !m.wf) = true ∧
    ([{ dev := 65536, slot := 0, level := 0 }, { dev := 0, slot := 32, level := 0 }, { dev := 0, slot := 0, level := 4 }] : List FwdPrefix).all (fun f => !f.wf) = true ∧
    ([{ src := 65536, dst := 0, sport := 0, dport := 0 }, { src := 0, dst := 65536, sport := 0, dport := 0 }, { src := 0, dst := 0, sport := 4, dport := 0 },
      { src := 0, dst := 0, sport := 0, dport := 4 }, { src := 0, dst := 0, sport := 0, dport := 0, seq := 2 ^ 32 }, { src := 0, dst := 0, sport := 0, dport := 0, ack := 2 ^ 32 },
      { src := 0, dst := 0, sport := 0, dport := 0, claim := 2 ^ 64 }, { src := 0, dst := 0, sport := 0, dport := 0, poison := 2 ^ 32 }, { src := 0, dst := 0, sport := 0, dport := 0, check := 2 ^ 32 },
      { src := 0, dst := 0, sport := 0, dport := 0, tag := 2 ^ 128 }] : List Hdr).all (fun h => !h.wf) = true ∧
    ([{ entry := 65536, num := 0, key := 0 }, { entry := 0, num := 0, key := 2 ^ 39 }, { entry := 0, num := 0, key := 0, gen := 65536 },
      { entry := 0, num := 0, key := 0, slot := 2 ^ 23 }, { entry := 0, num := 0, key := 0, cls := 4 }, { entry := 0, num := 0, key := 0, off := 2 ^ 21 },
      { entry := 0, num := 0, key := 0, off := 1 }, { entry := 0, num := 0, key := 0, len := 2 ^ 21 + 64 }, { entry := 0, num := 0, key := 0, len := 65 }, { entry := 0, num := 2 ^ 48, key := 0 }] : List ReqSub).all (fun q => !q.wf) = true ∧
    ([{ entry := 65536, num := 0 }, { entry := 0, num := 0, status := 256 }, { entry := 0, num := 0, gen := 65536 }, { entry := 0, num := 0, vault := 65536 },
      { entry := 0, num := 0, slot := 2 ^ 23 }, { entry := 0, num := 0, off := 2 ^ 32 }, { entry := 0, num := 0, result := 2 ^ 64 }, { entry := 0, num := 2 ^ 48 }] : List RespSub).all (fun r => !r.wf) = true ∧
    ([{ key := 2 ^ 40 }, { key := 0, status := 256 }, { key := 0, vault := 65536 }, { key := 0, slot := 2 ^ 23 }, { key := 0, gen := 65536 }] : List PMsg).all (fun m => !m.wf) = true ∧
    ([{ seq := 2 ^ 32, epoch := 0, credits := [0, 0, 0, 0], enc := false, keyGen := 0 }, { seq := 0, epoch := 2 ^ 24, credits := [0, 0, 0, 0], enc := false, keyGen := 0 },
      { seq := 0, epoch := 0, credits := [], enc := false, keyGen := 0 }, { seq := 0, epoch := 0, credits := [0, 0, 0, 65536], enc := false, keyGen := 0 }] : List ConnBody).all (fun b => !b.wf) = true ∧
    ([{ root := 65536, term := 0, pool := 0 }, { root := 0, term := 2 ^ 64, pool := 0 }, { root := 0, term := 0, pool := 2 ^ 64 }, { root := 0, term := 0, pool := 0, op := 2 ^ 64 },
      { root := 0, term := 0, pool := 0, latch := 2 ^ 64 }] : List TreeHdr).all (fun t => !t.wf) = true ∧
    ([{ key := 2 ^ 39, kind := 0, slot := 0, line := 0, count := 0, pass := 0 }, { key := 0, kind := 2, slot := 0, line := 0, count := 0, pass := 0 },
      { key := 0, kind := 0, slot := 2 ^ 23, line := 0, count := 0, pass := 0 }, { key := 0, kind := 0, slot := 0, line := 32768, count := 0, pass := 0 },
      { key := 0, kind := 0, slot := 0, line := 0, count := 33, pass := 0 }] : List ChunkSub).all (fun c => !c.wf) = true ∧
    ([{ dev := 65536, ident := 0 }, { dev := 0, ident := 0, macs := [] }, { dev := 0, ident := 0, ips := [] }, { dev := 0, ident := 0, macs := [2 ^ 48, 0, 0, 0] },
      { dev := 0, ident := 0, ips := [2 ^ 128, 0, 0, 0] }, { dev := 0, ident := 2 ^ 128 }, { dev := 0, ident := 0, extents := 2 ^ 32 }, { dev := 0, ident := 0, gen := 2 ^ 32 },
      { dev := 0, ident := 0, check := 2 ^ 32 }] : List MEntry).all (fun e => !e.wf) = true ∧
    ([{ opcode := 128, tag := 0, index := 0, sub := 0, status := 0 }, { opcode := 1, tag := 0, index := 0, sub := 0, status := 256 },
      { opcode := 1, tag := 0, index := 0, sub := 0, status := 0, value := List.replicate 1025 0 }] : List DictResp).all (fun r => !r.wf) = true ∧
    ({ gen := 2 ^ 32 } : DirtyMap).wf = false ∧ ({ id := 2 ^ 64, gen := 0 } : PoolImage).wf = false ∧ ({ id := 0, gen := 0, dirMap := [(4096, 0)] } : PoolImage).wf = false ∧
    (PtpMsg.announce 256 0 0 0).wf = false ∧
    ([{ src := .firmware, sector := 2048 }, { src := .firmware, sector := 0, off := 65536 }, { src := .firmware, sector := 0, tag := 65536 },
      { src := .firmware, sector := 0, len := 2 ^ 32 }, { src := .firmware, sector := 0, buffer := 2 ^ 64 }, { src := .firmware, sector := 0, rsv := 2 ^ 76 },
      { src := .firmware, sector := 0, check := 2 ^ 32 }] : List SbDesc).all (fun d => !d.wf) = true := by decide +kernel

/-- An ill-formed action for each action that has a check is refused. -/
theorem test_ill_formed_actions : ([.volCreate 4096 0 0 0, .volCreate 0 0 4 0, .volResize 4096 0, .volDelete 4096, .volAttr 0 4 0, .share 32768 0 0 0, .share 0 512 0 0,
    .share 0 0 512 0, .share 0 0 0 65, .manAdd { dev := 65536, ident := 0 }, .manAddr { dev := 65536, ident := 0 }, .manRemove 65536, .mapEntry 4096 0,
    .mapEntry 0 32768, .freeze (2 ^ 32), .release (2 ^ 32), .room 32768 0 0 0, .outcome 0 65536 0 0, .outcome 0 0 0 256] : List Action).all (fun a => !a.wf) = true := by
  decide +kernel

/-- A well-formed header and requester, for the checks a command adds to its parts'. -/
def okHdr : Hdr := { src := 0, dst := 0, sport := 0, dport := 0 }

/-- An ill-formed command for each kind of check a command adds is refused: opcode, tag, ring, port, logical device, key, slot, granule,
drive, channel, rank, arbiter, context, pipeline, engine, cluster, way, plane, source, counter, module and the lists a release needs. -/
theorem test_ill_formed_commands : ([.dictRead (.mctp .i3c0 8) { opcode := 2 }, .commit (.mctp .i3c0 8) 65536, .copy 4096, .hostRead 8 0 0 0, .hostRead 0 4096 0 0,
    .hostRead 0 0 (2 ^ 52) 0, .identify 0 17, .volumeDelete 4096 0, .volumeDelete 0 65536, .sessionUnbindDone 16384, .getEventRecords 0 0 256,
    .moveLeaseExpiry (2 ^ 39), .copyLeaseExpiry (2 ^ 23), .writebackVisit 0 512, .mirrorAck okHdr 2 0, .rebuildBatch 16, .hingeLinkUp 4 100 0,
    .hingeLinkUp 0 300 0, .hingeLinkUp 0 100 256, .hingeLaneFailure 0 8 [], .retransmitTimeout 0 0 4, .pfcPause 0 8 0, .arbitrate 26 true, .refreshDue 16 0 false,
    .refreshDue 0 4 false, .rcdAlert 0 2, .keyErase (.mctp .i3c0 8) 0 4096, .cipherBlockDone 64 0 true true true, .cipherBlockDone 0 16 true true true, .engineRestart 48,
    .drain 6, .lockWay 0 16, .suspendHoldExpiry 16, .acknowledgeSource (.mctp .i3c0 8) 0 320, .counterPreset (.mctp .i3c0 8) 0 1024 0, .ucieModuleFailure 2,
    .thermalSample [] [], .paceWindow [] [], .porstRelease [] [], .wrstRelease [] [], .hdmDecoderCommit 0 0 4 0 0 0 0 0 false, .msixVectorMaskWrite 0 0 64 false,
    .i3cDynamicAddress 2 0, .i3cDynamicAddress 0 128, .mapTransferEntries okHdr 4096 [] false] : List Instr).all (fun i => !i.wf) = true := by decide +kernel

/-- Well-formed commands pass. -/
theorem test_well_formed : ([.dictRead (.mctp .i3c0 8) { opcode := 1 }, .copy 4095, .hostRead 7 4095 (2 ^ 52 - 1) 65535, .hingeLinkUp 3 800 255, .engineRestart 47,
    .moveLeaseExpiry (2 ^ 39 - 1)] : List Instr).all Instr.wf = true := by decide +kernel

end Sys2Proof.Tests
end

