-- ==== Sys2Proof/Tests/Witness.lean ====
section
/-! SUPPORT. Small states that the witnesses of the statements' hypotheses are built from, and what lifts a delivered frame to the
predicates the statements use. -/

namespace Sys2Proof.Tests

open Sys2Proof.Machine Sys2Proof.Claims

/-- A frame whose checks answer true leaves the device in the state they leave. -/
theorem got_of {p : State × Bool} (h : p.2 = true) : p = (p.1, true) := Prod.ext rfl h

/-- The state a step answers, where it answers one. -/
def after (o : Host.Outcome State Fault Refusal) : State :=
  match o with
  | .next t => t
  | .fault _ => State.reset
  | .refused _ => State.reset

/-- A step that goes on answers that state. -/
theorem after_of {o : Host.Outcome State Fault Refusal} (h : goesOn o = true) : o = .next (after o) := by
  cases o with
  | next t => rfl
  | fault _ => cases h
  | refused _ => cases h

/-- A requester on the first management port. -/
def rq : Req := .mctp .i3c0 8

/-- A manifest entry. -/
def man (d : Nat) : MEntry := { dev := d, ident := 100 + d, macs := [16 * d + 1, 16 * d + 2, 16 * d + 3, 16 * d + 4], extents := 16384 }

/-- An open connection. -/
def link (peer port : Nat) : Conn := { peer := peer, port := port, state := 2, chans := [{ granted := 64 }, { granted := 64 }, { granted := 64 }, { granted := 64 }] }

/-- Device 2 of a pool of four, active with its twin in sync, its ports up, its connections open, its channels in service. -/
def dev : State := { State.reset with
  now := 10000000000000
  power := { good := true, vmainMv := 12000, state := 2, phase := 8, temp := 40000 }
  pool := {
    id := 9
    gen := 5
    entries := [man 0, man 1, man 2, man 3]
    number := 2
    root := 0
    term := 1
    parent := 0
    present := [0, 1, 2, 3]
    wave := 4
    gather := 2 }
  twin := { state := 1, claim := 1, inSync := true, hearing := true, frameSilent := false, beat := .toggling }
  hinge := {
    ports := [(0, { link := 2 }), (1, { link := 2 }), (2, { link := 2 }), (3, { link := 2 })]
    conns := [link 3 0, link 0 2, link 1 3] }
  host := { ports := [(0, { link := 2 }), (1, { link := 2 })] }
  dram := { pop := 1, chans := (List.range 16).map (fun n => (n, { state := 2, ranks := [(0, { state := 1 })] })) }
  persist := { state := 2, opened := true, drives := [(0, { state := 2, link := true, lbas := 100000000000 })], header := {} } }

/-- The same device, its requester holding an owner grant. -/
def owner : State := { dev with dict := { slots := [(0, { rq := rq, grant := true })] } }

/-- The same device serving a host: session 0 maps volume 0 for logical device 0 of port 0, with a window of 1 GiB at 0. -/
def hosted : State := { dev with
  settings := [(okey 0x4000 9, 2)]
  host := {
    ports := [(0, { link := 2 }), (1, { link := 2 })]
    lds := [(0, { decoders := [(0, { base := 0, size := 2 ^ 40, ways := 1, gran := 256, dpa := 0 })] })]
    sess := [(0, { state := 1, acc := 2 ^ 30 })]
    creditsOpen := true }
  pool := { dev.pool with vols := [(0, { state := 2, size := 512 })] } }

/-- A work descriptor of opcode `op` on sessions `a` and `b`. -/
def desc (op a b aux addrA addrB len : Nat) (opnd : Bytes) : Bytes :=
  let x := leBytes 2 op ++ leBytes 2 a ++ leBytes 2 b ++ leBytes 2 aux ++ leBytes 8 7 ++ leBytes 8 addrA ++ leBytes 8 addrB ++ leBytes 8 len ++
    opnd ++ leBytes (20 - opnd.length) 0
  x ++ leBytes 4 (crc32cOf x)

/-- The same device with ring 0 registered to logical device 0 of port 0, the descriptor fetched, and key slot 3 loaded for session 0. -/
def ringed (d : Bytes) : State := { hosted with
  settings := [(okey 0x4000 9, 2), (okey 0x4000 10, 3)]
  host := { hosted.host with lds := [(0, { busMaster := true })] }
  rings := { rings := [(0, { state := 1, tail := 1, head := 1, fetched := [{ idx := 0, bytes := d }] })] }
  cipher := { slots := [(3, { state := 1, kind := 0, gen := 1 })] } }

/-- The descriptor a ring of that device has fetched. -/
def front (d : Bytes) : Desc := { idx := 0, bytes := d }

/-- The same device as the directory of extent key 5. -/
def directed : State := { dev with pool := { dev.pool with dirMap := [(mapIndex 5, 1)] } }

/-- The header of a frame from the twin. -/
def fromTwin : Hdr := { src := 3, dst := 2, sport := 0, dport := 0, claim := 1 }
/-- The header of a frame from device 0. -/
def from0 : Hdr := { src := 0, dst := 2, sport := 2, dport := 2, claim := 1 }

/-- The header of a frame from device 1. -/
def from1 : Hdr := { src := 1, dst := 2, sport := 3, dport := 3, claim := 1 }

/-- The same device as the root of its pool. -/
def rooted : State := { owner with pool := { owner.pool with root := 2, isRoot := true, authority := true } }

/-- The same device with device 3 as a child of its own. -/
def parented : State := { dev with pool := { dev.pool with adopted := [3] } }

/-- A strongbox descriptor with the check of its bytes. -/
def sbSeal (op : Nat) (d : SbDesc) : SbDesc := { d with check := crc32cOf (sbDescBytes op d) }

/-- The header of a tree message of the term in force. -/
def term1 (op : Nat) : TreeHdr := { root := 0, term := 1, pool := 9, op := op }

/-- A header whose check was computed over the frame passes (R294). -/
theorem sealed_passes {h : Hdr} {b : FBody} (o : bodyOpen b = false) (k : h.hdrOk = true) (p : h.poison < 2 ^ bodyLines b) : headPasses (sealHdr h b) b = true := by
  have e : headCheck (sealHdr h b) b = headCheck h b := by simp only [headCheck, o]; rfl
  have e1 : (sealHdr h b).check = headCheck h b := rfl
  have e2 : (sealHdr h b).hdrOk = h.hdrOk := rfl
  have e3 : (sealHdr h b).poison = h.poison := rfl
  simp [headPasses, e, e1, e2, e3, o, k, p]

/-- What a device has heard of a tree message from its parent. -/
def heard (s : State) (h : Hdr) (t : TreeHdr) (b : TBody) : State :=
  (((counted s h (.tree t b)).seqTake h 3).count 502 1).modPool (fun p => { p with seen := max p.seen t.term })

/-- How a tree message of a listed device in its claim, going down, is received, its header's check left to its seal. -/
theorem down_got {s : State} {h : Hdr} {t : TreeHdr} {b : TBody} (o : bodyOpen (.tree t b) = false)
    (f : h.fcsOk = true ∧ h.addrOk = true ∧ h.hdrOk = true ∧ h.poison = 0 ∧ h.enc = false ∧ h.src ≠ 0xFFFF)
    (n : s.numbered = true ∧ h.dst = s.pool.number ∧ s.listed h.src = true) (c : h.claim = s.claimOf (h.src / 2))
    (q : s.seqFits h 3 = true) (p : t.pool = s.pool.id) (m : s.termOk t = true) (g : (heard s h t b).treeFollows t = true) :
    s.rxTree (sealHdr h (.tree t b)) t true b = ((heard s h t b).takeTerm t, true) := by
  obtain ⟨f1, f2, f3, f4, f5, f6⟩ := f
  obtain ⟨n1, n2, n3⟩ := n
  have k : headPasses (sealHdr h (.tree t b)) (.tree t b) = true := sealed_passes o f3 (by rw [f4]; exact Nat.two_pow_pos _)
  have e : ({ sealHdr h (.tree t b) with hdrOk := (sealHdr h (.tree t b)).hdrOk && t.pool == s.pool.id && (!true || s.termOk t) } : Hdr) = sealHdr h (.tree t b) := by
    simp [sealHdr, f3, p, m]
  have r : s.rx (sealHdr h (.tree t b)) (.tree t b) false = ((counted s h (.tree t b)).seqTake h 3, true) := by
    have a1 : (sealHdr h (.tree t b)).fcsOk = true := f1
    have a2 : (sealHdr h (.tree t b)).addrOk = true := f2
    have a3 : (sealHdr h (.tree t b)).dst = h.dst := rfl
    have a4 : (sealHdr h (.tree t b)).src = h.src := rfl
    have a5 : (sealHdr h (.tree t b)).enc = false := f5
    have a6 : (sealHdr h (.tree t b)).claim = h.claim := rfl
    have a7 : (sealHdr h (.tree t b)).dport = h.dport := rfl
    have a8 : s.seqFits (sealHdr h (.tree t b)) 3 = true := q
    have a9 (u : State) : u.seqTake (sealHdr h (.tree t b)) 3 = u.seqTake h 3 := rfl
    unfold State.rx counted
    simp [a1, a2, a3, a4, a5, a6, a7, a8, a9, k, n1, n2, n3, f5, f6, c, State.claimStep, State.learnClaim, bodyVc]
  unfold State.rxTree
  simp only [e, r, if_true]
  have g' : State.treeFollows ((((counted s h (.tree t b)).seqTake h 3).count 502 1).modPool (fun p => { p with seen := max p.seen t.term })) t = true := g
  simp [g', heard]

/-- A message taken leaves the device with its own operations sent on. -/
theorem tree_of {p : State × Bool} {u : State} (e : p = (u, true)) : p.2 = true ∧ p.1.castOps = u.castOps := by
  subst e
  exact ⟨rfl, rfl⟩

/-- The same as the statements say it. -/
theorem got_down {s : State} {h : Hdr} {t : TreeHdr} {b : TBody} (o : bodyOpen (.tree t b) = false)
    (f : h.fcsOk = true ∧ h.addrOk = true ∧ h.hdrOk = true ∧ h.poison = 0 ∧ h.enc = false ∧ h.src ≠ 0xFFFF)
    (n : s.numbered = true ∧ h.dst = s.pool.number ∧ s.listed h.src = true) (c : h.claim = s.claimOf (h.src / 2)) (q : s.seqFits h 3 = true)
    (p : t.pool = s.pool.id) (m : s.termOk t = true) (g : (heard s h t b).treeFollows t = true) :
    GotTree s (sealHdr h (.tree t b)) t true b ((heard s h t b).takeTerm t).castOps := by
  unfold GotTree
  exact tree_of (down_got o f n c q p m g)

end Sys2Proof.Tests
end

