-- ==== Sys2Proof/Tests/WitnessFabric.lean ====
section
/-! SUPPORT. The hypotheses of the statements about the Hinge transport, the pool, the lattice and the DRAM channels are met: one theorem a statement, with a state and operands for
each of its clauses. -/

set_option Elab.async false

namespace Sys2Proof.Tests
open Sys2Proof.Machine Sys2Proof.Claims

/-- States and operands that meet the hypotheses of HingePortsAct, clause by clause. -/
theorem witness_hingePortsAct :
    (∃ (s : State) (p : Nat) (mode : Nat) (lanes : Nat), s.power.inReset = false ∧ 2 ≤ s.power.state ∧ (s.power.state ≠ 3 ∨ p = 0) ∧ s.portUp p = false ∧ (∀ l ∈ (s.xport p).badLanes, lanes.testBit l = false) ∧ s.flag (0x2210 + p) 6 = true ∧ mode ≤ s.setting (0x2210 + p) 3) ∧
    (∃ (s : State) (p : Nat), s.portUp p = true) ∧
    (∃ (s : State) (u : State) (p : Nat) (lane : Nat) (mode : Nat) (first : Nat) (n : Nat) (pm : List (Nat × Nat)), s.portUp p = true ∧ u = (s.modXport p (fun x => { x with badLanes := addSet lane x.badLanes })).portLost p 1 ∧ fallback (u.xport p).badLanes (u.setting (0x2210 + p) 3) = some (mode, first, n) ∧ (mode, first) ∈ pm) ∧
    (∃ (s : State) (u : State) (p : Nat) (lane : Nat), s.portUp p = true ∧ u = (s.modXport p (fun x => { x with badLanes := addSet lane x.badLanes })).portLost p 1 ∧ fallback (u.xport p).badLanes (u.setting (0x2210 + p) 3) = none) ∧
    (∃ (s : State) (rq : Req) (p : Nat), MayPut s rq (0x2210 + p) 7 1 1 ∧ s.flag (0x2210 + p) 6 = true) ∧
    (∃ (s : State) (rq : Req) (p : Nat), MayPut s rq (0x2210 + p) 6 1 0 ∧ s.flag (0x2210 + p) 6 = true) ∧
    (∃ (s : State) (rq : Req) (p : Nat), MayPut s rq (0x2210 + p) 6 1 1 ∧ s.flag (0x2210 + p) 6 = false) ∧
    (∃ (s : State) (u : State) (p : Nat) (prio : Nat) (quanta : Nat), s.flag (0x2210 + p) 0x0C = true ∧ (List.range 3).any (fun vc => s.setting (0x2210 + p) 0x0A / 16 ^ vc % 16 == prio) = true ∧ quanta ≠ 0 ∧ u = s.countPause p) ∧
    (∃ (s : State) (p : Nat) (ip : Nat) (own : Nat), (s.xport p).carriage = 1 ∧ s.ownAddr p = some (ip, own)) := by
  and_intros
  · exact ⟨({ dev with settings := [(okey 0x2213 6, 1)], hinge := {} }), 3, 0, 255, by decide +kernel, by decide +kernel, by decide +kernel, by decide +kernel, by decide +kernel, by decide +kernel, by decide +kernel⟩
  · exact ⟨dev, 0, by decide +kernel⟩
  · exact ⟨dev, (((dev : State).modXport 0 (fun x => { x with badLanes := addSet 7 x.badLanes })).portLost 0 1), 0, 7, (((fallback ((((dev : State).modXport 0 (fun x => { x with badLanes := addSet 7 x.badLanes })).portLost 0 1 : State).xport 0).badLanes ((((dev : State).modXport 0 (fun x => { x with badLanes := addSet 7 x.badLanes })).portLost 0 1 : State).setting 0x2210 3)).getD (0, 0, 0)).1), (((fallback ((((dev : State).modXport 0 (fun x => { x with badLanes := addSet 7 x.badLanes })).portLost 0 1 : State).xport 0).badLanes ((((dev : State).modXport 0 (fun x => { x with badLanes := addSet 7 x.badLanes })).portLost 0 1 : State).setting 0x2210 3)).getD (0, 0, 0)).2.1), (((fallback ((((dev : State).modXport 0 (fun x => { x with badLanes := addSet 7 x.badLanes })).portLost 0 1 : State).xport 0).badLanes ((((dev : State).modXport 0 (fun x => { x with badLanes := addSet 7 x.badLanes })).portLost 0 1 : State).setting 0x2210 3)).getD (0, 0, 0)).2.2), ([((((fallback ((((dev : State).modXport 0 (fun x => { x with badLanes := addSet 7 x.badLanes })).portLost 0 1 : State).xport 0).badLanes ((((dev : State).modXport 0 (fun x => { x with badLanes := addSet 7 x.badLanes })).portLost 0 1 : State).setting 0x2210 3)).getD (0, 0, 0)).1 : Nat), (((fallback ((((dev : State).modXport 0 (fun x => { x with badLanes := addSet 7 x.badLanes })).portLost 0 1 : State).xport 0).badLanes ((((dev : State).modXport 0 (fun x => { x with badLanes := addSet 7 x.badLanes })).portLost 0 1 : State).setting 0x2210 3)).getD (0, 0, 0)).2.1 : Nat))]), by decide +kernel, rfl, by decide +kernel, by decide +kernel⟩
  · exact ⟨({ dev with hinge := { dev.hinge with ports := [(0, { link := 2, badLanes := [0, 1, 2, 3, 4, 5, 6] })] } }), ((({ dev with hinge := { dev.hinge with ports := [(0, { link := 2, badLanes := [0, 1, 2, 3, 4, 5, 6] })] } } : State).modXport 0 (fun x => { x with badLanes := addSet 7 x.badLanes })).portLost 0 1), 0, 7, by decide +kernel, rfl, by decide +kernel⟩
  · exact ⟨owner, rq, 0, by unfold MayPut MayWrite; decide +kernel, by decide +kernel⟩
  · exact ⟨owner, rq, 0, by unfold MayPut MayWrite; decide +kernel, by decide +kernel⟩
  · exact ⟨({ owner with settings := [(okey 0x2210 6, 0)] }), rq, 0, by unfold MayPut MayWrite; decide +kernel, by decide +kernel⟩
  · exact ⟨({ dev with settings := [(okey 0x2210 0x0C, 1)] }), (({ dev with settings := [(okey 0x2210 0x0C, 1)] } : State).countPause 0), 0, (({ dev with settings := [(okey 0x2210 0x0C, 1)] } : State).setting 0x2210 0x0A % 16), 5, by decide +kernel, by decide +kernel, by decide +kernel, rfl⟩
  · exact ⟨({ dev with hinge := { dev.hinge with ports := [(0, { link := 2, carriage := 1 })] } }), 0, (((({ dev with hinge := { dev.hinge with ports := [(0, { link := 2, carriage := 1 })] } } : State).ownAddr 0).getD (0, 0)).1), (((({ dev with hinge := { dev.hinge with ports := [(0, { link := 2, carriage := 1 })] } } : State).ownAddr 0).getD (0, 0)).2), by decide +kernel, by decide +kernel⟩

/-- States and operands that meet the hypotheses of HingeRequestsAndResponsesAct, clause by clause. -/
theorem witness_hingeRequestsAndResponsesAct :
    (∃ (s : State) (u : State) (h : Hdr) (q : ReqSub), Got s h (.read q) u) ∧
    (∃ (s : State) (u : State) (h : Hdr) (q : ReqSub), Got s h (.read q) u ∧ q.homeStore = false ∧ u.serves = true ∧ u.twin.state ≠ 4 ∧ q.num < 2 ^ 47 ∧ u.copyCovers q = none) ∧
    (∃ (s : State) (u : State) (h : Hdr) (q : ReqSub) (ls : List Line) (slot : Nat), Got s h (.write q ls []) u ∧ u.serves = true ∧ u.holdsWrite (.remote h.src q.entry q.num) = false ∧ (∀ t ∈ u.twin.tags, ¬ (t.1 = q.entry ∧ t.2.1 = q.num)) ∧ u.classify q.key q.slot = .serve slot) ∧
    (∃ (s : State) (u : State) (h : Hdr) (q : ReqSub) (desc : Bytes) (off : Nat) (len : Nat) (slot : Nat), Got s h (.piece q desc off len) u ∧ (∀ w ∈ u.rings.works, ¬ (w.from_ = .remote h.src q.entry q.num ∧ w.off = off)) ∧ (∀ y ∈ u.place.heldPieces, ¬ (y.peer = h.src ∧ y.q.entry = q.entry ∧ y.q.num = q.num ∧ y.off = off)) ∧ u.serves = true ∧ dOp (desc.take 64) ≠ 6 ∧ u.classify q.key q.slot = .serve slot) ∧
    (∃ (s : State) (u : State) (h : Hdr) (q : ReqSub) (desc : Bytes) (off : Nat) (len : Nat), Got s h (.piece q desc off len) u ∧ (∀ w ∈ u.rings.works, ¬ (w.from_ = .remote h.src q.entry q.num ∧ w.off = off)) ∧ (∀ y ∈ u.place.heldPieces, ¬ (y.peer = h.src ∧ y.q.entry = q.entry ∧ y.q.num = q.num ∧ y.off = off)) ∧ u.serves = true ∧ dOp (desc.take 64) ≠ 6 ∧ (u.classify q.key q.slot = .holdFrozen ∨ u.classify q.key q.slot = .holdDest)) ∧
    (∃ (s : State) (u : State) (h : Hdr) (r : RespSub) (ls : List Line) (e : EReq), Got s h (.data r ls []) u ∧ r.entry = u.pool.number ∧ r.num < 2 ^ 45 ∧ u.reqOf r.num = some e ∧ e.locate = false ∧ e.write = false) ∧
    (∃ (s : State) (u : State) (h : Hdr) (r : RespSub) (e : EReq), Got s h (.status r) u ∧ r.entry = u.pool.number ∧ r.num < 2 ^ 45 ∧ u.reqOf r.num = some e ∧ e.locate = false ∧ r.status = St.busy) ∧
    (∃ (s : State) (u : State) (h : Hdr) (r : RespSub) (e : EReq), Got s h (.status r) u ∧ r.entry = u.pool.number ∧ r.num < 2 ^ 45 ∧ u.reqOf r.num = some e ∧ e.lookup = false ∧ e.locate = false ∧ r.status = St.moved ∧ r.vault ≠ 0xFFFF ∧ (u.tcacheFill e.key r.vault r.slot r.gen).atHome e = false) ∧
    (∃ (s : State) (u : State) (h : Hdr) (r : RespSub) (e : EReq), Got s h (.status r) u ∧ r.entry = u.pool.number ∧ r.num < 2 ^ 45 ∧ u.reqOf r.num = some e ∧ e.lookup = false ∧ e.locate = false ∧ e.write = true ∧ stListed r.status = false) := by
  and_intros
  · exact ⟨dev, ((State.rx (dev : State) (sealHdr (from0 : Hdr) ((.read ({ entry := 0, num := 2, key := 5, slot := 3 } : ReqSub))) : Hdr) (.read ({ entry := 0, num := 2, key := 5, slot := 3 } : ReqSub)) false).1), (sealHdr (from0 : Hdr) ((.read ({ entry := 0, num := 2, key := 5, slot := 3 } : ReqSub)))), ({ entry := 0, num := 2, key := 5, slot := 3 }), got_of (by decide +kernel)⟩
  · exact ⟨dev, ((State.rx (dev : State) (sealHdr (from0 : Hdr) ((.read ({ entry := 0, num := 2, key := 5, slot := 3 } : ReqSub))) : Hdr) (.read ({ entry := 0, num := 2, key := 5, slot := 3 } : ReqSub)) false).1), (sealHdr (from0 : Hdr) ((.read ({ entry := 0, num := 2, key := 5, slot := 3 } : ReqSub)))), ({ entry := 0, num := 2, key := 5, slot := 3 }), got_of (by decide +kernel), by decide +kernel, by decide +kernel, by decide +kernel, by decide +kernel, by decide +kernel⟩
  · exact ⟨({ dev with place := { slots := [(3, .home 5)] } }), ((State.rx ({ dev with place := { slots := [(3, .home 5)] } } : State) (sealHdr (from0 : Hdr) ((.write ({ entry := 0, num := 2, key := 5, slot := 3 } : ReqSub) ([7] : List Line) [])) : Hdr) (.write ({ entry := 0, num := 2, key := 5, slot := 3 } : ReqSub) ([7] : List Line) []) false).1), (sealHdr (from0 : Hdr) ((.write ({ entry := 0, num := 2, key := 5, slot := 3 } : ReqSub) ([7] : List Line) []))), ({ entry := 0, num := 2, key := 5, slot := 3 }), ([7]), 3, got_of (by decide +kernel), by decide +kernel, by decide +kernel, by decide +kernel, by decide +kernel⟩
  · exact ⟨({ dev with place := { slots := [(3, .home 5)] } }), ((State.rx ({ dev with place := { slots := [(3, .home 5)] } } : State) (sealHdr (from0 : Hdr) ((.piece ({ entry := 0, num := 2, key := 5, slot := 3 } : ReqSub) (desc 2 0 0xFFFF 0 0 0 64 [] : Bytes) (0 : Nat) (64 : Nat))) : Hdr) (.piece ({ entry := 0, num := 2, key := 5, slot := 3 } : ReqSub) (desc 2 0 0xFFFF 0 0 0 64 [] : Bytes) (0 : Nat) (64 : Nat)) false).1), (sealHdr (from0 : Hdr) ((.piece ({ entry := 0, num := 2, key := 5, slot := 3 } : ReqSub) (desc 2 0 0xFFFF 0 0 0 64 [] : Bytes) (0 : Nat) (64 : Nat)))), ({ entry := 0, num := 2, key := 5, slot := 3 }), (desc 2 0 0xFFFF 0 0 0 64 []), 0, 64, 3, got_of (by decide +kernel), by decide +kernel, by decide +kernel, by decide +kernel, by decide +kernel, by decide +kernel⟩
  · exact ⟨({ dev with place := { slots := [(3, .home 5)], migs := [{ key := 5, slot := 3, dst := 0, phase := 3 }] } }), ((State.rx ({ dev with place := { slots := [(3, .home 5)], migs := [{ key := 5, slot := 3, dst := 0, phase := 3 }] } } : State) (sealHdr (from0 : Hdr) ((.piece ({ entry := 0, num := 2, key := 5, slot := 3 } : ReqSub) (desc 2 0 0xFFFF 0 0 0 64 [] : Bytes) (0 : Nat) (64 : Nat))) : Hdr) (.piece ({ entry := 0, num := 2, key := 5, slot := 3 } : ReqSub) (desc 2 0 0xFFFF 0 0 0 64 [] : Bytes) (0 : Nat) (64 : Nat)) false).1), (sealHdr (from0 : Hdr) ((.piece ({ entry := 0, num := 2, key := 5, slot := 3 } : ReqSub) (desc 2 0 0xFFFF 0 0 0 64 [] : Bytes) (0 : Nat) (64 : Nat)))), ({ entry := 0, num := 2, key := 5, slot := 3 }), (desc 2 0 0xFFFF 0 0 0 64 []), 0, 64, got_of (by decide +kernel), by decide +kernel, by decide +kernel, by decide +kernel, by decide +kernel, by decide +kernel⟩
  · exact ⟨({ dev with host := { dev.host with reqs := [{ num := 9, write := false, port := 0, host := 0, tag := 1, sess := 0, key := 5, off := 64 }] } }), ((State.rx ({ dev with host := { dev.host with reqs := [{ num := 9, write := false, port := 0, host := 0, tag := 1, sess := 0, key := 5, off := 64 }] } } : State) (sealHdr (from0 : Hdr) ((.data ({ entry := 2, num := 9 } : RespSub) ([7] : List Line) [])) : Hdr) (.data ({ entry := 2, num := 9 } : RespSub) ([7] : List Line) []) false).1), (sealHdr (from0 : Hdr) ((.data ({ entry := 2, num := 9 } : RespSub) ([7] : List Line) []))), ({ entry := 2, num := 9 }), ([7]), ({ num := 9, write := false, port := 0, host := 0, tag := 1, sess := 0, key := 5, off := 64 }), got_of (by decide +kernel), by decide +kernel, by decide +kernel, by decide +kernel, by decide +kernel, by decide +kernel⟩
  · exact ⟨({ dev with host := { dev.host with reqs := [{ num := 9, write := false, port := 0, host := 0, tag := 1, sess := 0, key := 5, off := 64 }] } }), ((State.rx ({ dev with host := { dev.host with reqs := [{ num := 9, write := false, port := 0, host := 0, tag := 1, sess := 0, key := 5, off := 64 }] } } : State) (sealHdr (from0 : Hdr) ((.status ({ entry := 2, num := 9, status := St.busy } : RespSub))) : Hdr) (.status ({ entry := 2, num := 9, status := St.busy } : RespSub)) false).1), (sealHdr (from0 : Hdr) ((.status ({ entry := 2, num := 9, status := St.busy } : RespSub)))), ({ entry := 2, num := 9, status := St.busy }), ({ num := 9, write := false, port := 0, host := 0, tag := 1, sess := 0, key := 5, off := 64 }), got_of (by decide +kernel), by decide +kernel, by decide +kernel, by decide +kernel, by decide +kernel, by decide +kernel⟩
  · exact ⟨({ dev with host := { dev.host with reqs := [{ num := 9, write := false, port := 0, host := 0, tag := 1, sess := 0, key := 5, off := 64 }] } }), ((State.rx ({ dev with host := { dev.host with reqs := [{ num := 9, write := false, port := 0, host := 0, tag := 1, sess := 0, key := 5, off := 64 }] } } : State) (sealHdr (from0 : Hdr) ((.status ({ entry := 2, num := 9, status := St.moved, vault := 1 } : RespSub))) : Hdr) (.status ({ entry := 2, num := 9, status := St.moved, vault := 1 } : RespSub)) false).1), (sealHdr (from0 : Hdr) ((.status ({ entry := 2, num := 9, status := St.moved, vault := 1 } : RespSub)))), ({ entry := 2, num := 9, status := St.moved, vault := 1 }), ({ num := 9, write := false, port := 0, host := 0, tag := 1, sess := 0, key := 5, off := 64 }), got_of (by decide +kernel), by decide +kernel, by decide +kernel, by decide +kernel, by decide +kernel, by decide +kernel, by decide +kernel, by decide +kernel, by decide +kernel⟩
  · exact ⟨({ dev with host := { dev.host with reqs := [{ num := 9, write := true, port := 0, host := 0, tag := 1, sess := 0, key := 5, off := 64 }] } }), ((State.rx ({ dev with host := { dev.host with reqs := [{ num := 9, write := true, port := 0, host := 0, tag := 1, sess := 0, key := 5, off := 64 }] } } : State) (sealHdr (from0 : Hdr) ((.status ({ entry := 2, num := 9, status := 0x55 } : RespSub))) : Hdr) (.status ({ entry := 2, num := 9, status := 0x55 } : RespSub)) false).1), (sealHdr (from0 : Hdr) ((.status ({ entry := 2, num := 9, status := 0x55 } : RespSub)))), ({ entry := 2, num := 9, status := 0x55 }), ({ num := 9, write := true, port := 0, host := 0, tag := 1, sess := 0, key := 5, off := 64 }), got_of (by decide +kernel), by decide +kernel, by decide +kernel, by decide +kernel, by decide +kernel, by decide +kernel, by decide +kernel, by decide +kernel⟩

/-- States and operands that meet the hypotheses of ConnectionsAct, clause by clause. -/
theorem witness_connectionsAct :
    (∃ (s : State) (u : State) (h : Hdr) (next : List Nat) (credits : List Nat) (c : Conn), s.rx h (.ack next credits) (s.joins h) = (u, true) ∧ u.connFor h = some c ∧ c.state = 2) ∧
    (∃ (s : State) (u : State) (h : Hdr) (vc : Nat) (next : Nat) (c : Conn), s.rx h (.nak vc next) (s.joins h) = (u, true) ∧ u.connFor h = some c ∧ c.state = 2) ∧
    (∃ (s : State) (u : State) (h : Hdr) (b : ConnBody), s.rx h (.connect b) (s.joins h) = (u, true)) ∧
    (∃ (s : State) (u : State) (h : Hdr) (b : ConnBody) (c : Conn), s.rx h (.accept b) (s.joins h) = (u, true) ∧ u.connFor h = some c ∧ c.state = 1 ∧ b.enc = c.enc ∧ b.keyGen = c.keyGen ∧ (u.pool.joinState ≠ 1 ∨ h.src ≠ u.setting 0x2002 3)) ∧
    (∃ (s : State) (u : State) (h : Hdr) (b : ConnBody) (c : Conn), s.rx h (.accept b) (s.joins h) = (u, true) ∧ u.connFor h = some c ∧ c.state = 1 ∧ b.enc = c.enc ∧ b.keyGen = c.keyGen ∧ u.pool.joinState = 1 ∧ h.src = u.setting 0x2002 3) ∧
    (∃ (s : State) (u : State) (h : Hdr) (b : ConnBody) (c : Conn), s.rx h (.accept b) (s.joins h) = (u, true) ∧ u.connFor h = some c ∧ c.state = 1 ∧ (b.enc ≠ c.enc ∨ b.keyGen ≠ c.keyGen)) ∧
    (∃ (s : State) (u : State) (h : Hdr) (why : Nat) (c : Conn), s.rx h (.close why) (s.joins h) = (u, true) ∧ u.pool.joinState = 0 ∧ u.connFor h = some c ∧ c.state = 2) ∧
    (∃ (s : State) (peer : Nat) (port : Nat) (vc : Nat) (c : Conn), s.conn peer port = some c ∧ c.state = 2 ∧ (c.chan vc).unacked ≠ [] ∧ (c.chan vc).oldest + s.setting (0x2210 + port) 0x10 ≤ s.now) ∧
    (∃ (s : State) (peer : Nat) (port : Nat) (vc : Nat) (c : Conn), s.conn peer port = some c ∧ c.state = 2 ∧ 0 < (c.chan vc).sinceAck ∧ (c.chan vc).accAt + 1000 ≤ s.now) ∧
    (∃ (s : State) (peer : Nat) (port : Nat) (c : Conn), s.conn peer port = some c ∧ c.state = 1 ∧ c.lastUse + s.setting 0x2200 0x0A ≤ s.now ∧ c.tries < 3) ∧
    (∃ (s : State) (peer : Nat) (port : Nat) (c : Conn), s.conn peer port = some c ∧ c.state = 1 ∧ c.lastUse + s.setting 0x2200 0x0A ≤ s.now ∧ 3 ≤ c.tries) ∧
    (∃ (s : State) (peer : Nat) (port : Nat) (c : Conn), s.conn peer port = some c ∧ c.state = 2 ∧ (∀ k ∈ c.chans, k.unacked = [] ∧ k.waiting = []) ∧ c.lastUse + s.setting 0x2200 6 ≤ s.now) ∧
    (∃ (s : State) (p : Nat), s.portRole p = 0 ∧ ((s.hinge.conns.filter (fun c => c.port == p && c.state == 2)) = [])) ∧
    (∃ (s : State) (u : State) (p : Nat) (c : Conn), (s.hinge.conns.filter (fun c => c.port == p && c.state == 2)) = [c] ∧ u = (List.range 4).foldl (fun s v => s.pumpAll c.peer p v) s ∧ u.portRole p ≠ 0 ∧ c.chans.any ChanSt.usedUp = true) := by
  and_intros
  · exact ⟨dev, ((State.rx (dev : State) (sealHdr (from0 : Hdr) ((.ack ([0, 0, 0, 0] : List Nat) ([64, 64, 64, 64] : List Nat))) : Hdr) (.ack ([0, 0, 0, 0] : List Nat) ([64, 64, 64, 64] : List Nat)) ((dev : State).joins (sealHdr (from0 : Hdr) ((.ack ([0, 0, 0, 0] : List Nat) ([64, 64, 64, 64] : List Nat))) : Hdr))).1), (sealHdr (from0 : Hdr) ((.ack ([0, 0, 0, 0] : List Nat) ([64, 64, 64, 64] : List Nat)))), ([0, 0, 0, 0]), ([64, 64, 64, 64]), ((((State.rx (dev : State) (sealHdr (from0 : Hdr) ((.ack ([0, 0, 0, 0] : List Nat) ([64, 64, 64, 64] : List Nat))) : Hdr) (.ack ([0, 0, 0, 0] : List Nat) ([64, 64, 64, 64] : List Nat)) ((dev : State).joins (sealHdr (from0 : Hdr) ((.ack ([0, 0, 0, 0] : List Nat) ([64, 64, 64, 64] : List Nat))) : Hdr))).1 : State).conn 0 2).getD (link 0 2)), got_of (by decide +kernel), by decide +kernel, by decide +kernel⟩
  · exact ⟨dev, ((State.rx (dev : State) (sealHdr (from0 : Hdr) ((.nak (0 : Nat) (0 : Nat))) : Hdr) (.nak (0 : Nat) (0 : Nat)) ((dev : State).joins (sealHdr (from0 : Hdr) ((.nak (0 : Nat) (0 : Nat))) : Hdr))).1), (sealHdr (from0 : Hdr) ((.nak (0 : Nat) (0 : Nat)))), 0, 0, ((((State.rx (dev : State) (sealHdr (from0 : Hdr) ((.nak (0 : Nat) (0 : Nat))) : Hdr) (.nak (0 : Nat) (0 : Nat)) ((dev : State).joins (sealHdr (from0 : Hdr) ((.nak (0 : Nat) (0 : Nat))) : Hdr))).1 : State).conn 0 2).getD (link 0 2)), got_of (by decide +kernel), by decide +kernel, by decide +kernel⟩
  · exact ⟨dev, ((State.rx (dev : State) (sealHdr (from0 : Hdr) ((.connect ({ seq := 1, epoch := 1, credits := [64, 64, 64, 64], enc := false, keyGen := 0 } : ConnBody))) : Hdr) (.connect ({ seq := 1, epoch := 1, credits := [64, 64, 64, 64], enc := false, keyGen := 0 } : ConnBody)) ((dev : State).joins (sealHdr (from0 : Hdr) ((.connect ({ seq := 1, epoch := 1, credits := [64, 64, 64, 64], enc := false, keyGen := 0 } : ConnBody))) : Hdr))).1), (sealHdr (from0 : Hdr) ((.connect ({ seq := 1, epoch := 1, credits := [64, 64, 64, 64], enc := false, keyGen := 0 } : ConnBody)))), ({ seq := 1, epoch := 1, credits := [64, 64, 64, 64], enc := false, keyGen := 0 }), got_of (by decide +kernel)⟩
  · exact ⟨({ dev with hinge := { dev.hinge with conns := [{ peer := 0, port := 2, state := 1 }] } }), ((State.rx ({ dev with hinge := { dev.hinge with conns := [{ peer := 0, port := 2, state := 1 }] } } : State) (sealHdr (from0 : Hdr) ((.accept ({ seq := 1, epoch := 1, credits := [64, 64, 64, 64], enc := false, keyGen := 0 } : ConnBody))) : Hdr) (.accept ({ seq := 1, epoch := 1, credits := [64, 64, 64, 64], enc := false, keyGen := 0 } : ConnBody)) (({ dev with hinge := { dev.hinge with conns := [{ peer := 0, port := 2, state := 1 }] } } : State).joins (sealHdr (from0 : Hdr) ((.accept ({ seq := 1, epoch := 1, credits := [64, 64, 64, 64], enc := false, keyGen := 0 } : ConnBody))) : Hdr))).1), (sealHdr (from0 : Hdr) ((.accept ({ seq := 1, epoch := 1, credits := [64, 64, 64, 64], enc := false, keyGen := 0 } : ConnBody)))), ({ seq := 1, epoch := 1, credits := [64, 64, 64, 64], enc := false, keyGen := 0 }), ((((State.rx ({ dev with hinge := { dev.hinge with conns := [{ peer := 0, port := 2, state := 1 }] } } : State) (sealHdr (from0 : Hdr) ((.accept ({ seq := 1, epoch := 1, credits := [64, 64, 64, 64], enc := false, keyGen := 0 } : ConnBody))) : Hdr) (.accept ({ seq := 1, epoch := 1, credits := [64, 64, 64, 64], enc := false, keyGen := 0 } : ConnBody)) (({ dev with hinge := { dev.hinge with conns := [{ peer := 0, port := 2, state := 1 }] } } : State).joins (sealHdr (from0 : Hdr) ((.accept ({ seq := 1, epoch := 1, credits := [64, 64, 64, 64], enc := false, keyGen := 0 } : ConnBody))) : Hdr))).1 : State).conn 0 2).getD (link 0 2)), got_of (by decide +kernel), by decide +kernel, by decide +kernel, by decide +kernel, by decide +kernel, by decide +kernel⟩
  · exact ⟨({ dev with settings := [(okey 0x2002 3, 0)], pool := { dev.pool with joinState := 1 }, hinge := { dev.hinge with conns := [{ peer := 0, port := 2, state := 1 }] } }), ((State.rx ({ dev with settings := [(okey 0x2002 3, 0)], pool := { dev.pool with joinState := 1 }, hinge := { dev.hinge with conns := [{ peer := 0, port := 2, state := 1 }] } } : State) (sealHdr (from0 : Hdr) ((.accept ({ seq := 1, epoch := 1, credits := [64, 64, 64, 64], enc := false, keyGen := 0 } : ConnBody))) : Hdr) (.accept ({ seq := 1, epoch := 1, credits := [64, 64, 64, 64], enc := false, keyGen := 0 } : ConnBody)) (({ dev with settings := [(okey 0x2002 3, 0)], pool := { dev.pool with joinState := 1 }, hinge := { dev.hinge with conns := [{ peer := 0, port := 2, state := 1 }] } } : State).joins (sealHdr (from0 : Hdr) ((.accept ({ seq := 1, epoch := 1, credits := [64, 64, 64, 64], enc := false, keyGen := 0 } : ConnBody))) : Hdr))).1), (sealHdr (from0 : Hdr) ((.accept ({ seq := 1, epoch := 1, credits := [64, 64, 64, 64], enc := false, keyGen := 0 } : ConnBody)))), ({ seq := 1, epoch := 1, credits := [64, 64, 64, 64], enc := false, keyGen := 0 }), ((((State.rx ({ dev with settings := [(okey 0x2002 3, 0)], pool := { dev.pool with joinState := 1 }, hinge := { dev.hinge with conns := [{ peer := 0, port := 2, state := 1 }] } } : State) (sealHdr (from0 : Hdr) ((.accept ({ seq := 1, epoch := 1, credits := [64, 64, 64, 64], enc := false, keyGen := 0 } : ConnBody))) : Hdr) (.accept ({ seq := 1, epoch := 1, credits := [64, 64, 64, 64], enc := false, keyGen := 0 } : ConnBody)) (({ dev with settings := [(okey 0x2002 3, 0)], pool := { dev.pool with joinState := 1 }, hinge := { dev.hinge with conns := [{ peer := 0, port := 2, state := 1 }] } } : State).joins (sealHdr (from0 : Hdr) ((.accept ({ seq := 1, epoch := 1, credits := [64, 64, 64, 64], enc := false, keyGen := 0 } : ConnBody))) : Hdr))).1 : State).conn 0 2).getD (link 0 2)), got_of (by decide +kernel), by decide +kernel, by decide +kernel, by decide +kernel, by decide +kernel, by decide +kernel, by decide +kernel⟩
  · exact ⟨({ dev with hinge := { dev.hinge with conns := [{ peer := 0, port := 2, state := 1 }] } }), ((State.rx ({ dev with hinge := { dev.hinge with conns := [{ peer := 0, port := 2, state := 1 }] } } : State) (sealHdr (from0 : Hdr) ((.accept ({ seq := 1, epoch := 1, credits := [64, 64, 64, 64], enc := true, keyGen := 0 } : ConnBody))) : Hdr) (.accept ({ seq := 1, epoch := 1, credits := [64, 64, 64, 64], enc := true, keyGen := 0 } : ConnBody)) (({ dev with hinge := { dev.hinge with conns := [{ peer := 0, port := 2, state := 1 }] } } : State).joins (sealHdr (from0 : Hdr) ((.accept ({ seq := 1, epoch := 1, credits := [64, 64, 64, 64], enc := true, keyGen := 0 } : ConnBody))) : Hdr))).1), (sealHdr (from0 : Hdr) ((.accept ({ seq := 1, epoch := 1, credits := [64, 64, 64, 64], enc := true, keyGen := 0 } : ConnBody)))), ({ seq := 1, epoch := 1, credits := [64, 64, 64, 64], enc := true, keyGen := 0 }), ((((State.rx ({ dev with hinge := { dev.hinge with conns := [{ peer := 0, port := 2, state := 1 }] } } : State) (sealHdr (from0 : Hdr) ((.accept ({ seq := 1, epoch := 1, credits := [64, 64, 64, 64], enc := true, keyGen := 0 } : ConnBody))) : Hdr) (.accept ({ seq := 1, epoch := 1, credits := [64, 64, 64, 64], enc := true, keyGen := 0 } : ConnBody)) (({ dev with hinge := { dev.hinge with conns := [{ peer := 0, port := 2, state := 1 }] } } : State).joins (sealHdr (from0 : Hdr) ((.accept ({ seq := 1, epoch := 1, credits := [64, 64, 64, 64], enc := true, keyGen := 0 } : ConnBody))) : Hdr))).1 : State).conn 0 2).getD (link 0 2)), got_of (by decide +kernel), by decide +kernel, by decide +kernel, by decide +kernel⟩
  · exact ⟨dev, ((State.rx (dev : State) (sealHdr (from0 : Hdr) ((.close (1 : Nat))) : Hdr) (.close (1 : Nat)) ((dev : State).joins (sealHdr (from0 : Hdr) ((.close (1 : Nat))) : Hdr))).1), (sealHdr (from0 : Hdr) ((.close (1 : Nat)))), 1, ((((State.rx (dev : State) (sealHdr (from0 : Hdr) ((.close (1 : Nat))) : Hdr) (.close (1 : Nat)) ((dev : State).joins (sealHdr (from0 : Hdr) ((.close (1 : Nat))) : Hdr))).1 : State).conn 0 2).getD (link 0 2)), got_of (by decide +kernel), by decide +kernel, by decide +kernel, by decide +kernel⟩
  · exact ⟨({ dev with hinge := { dev.hinge with conns := [{ peer := 0, port := 2, state := 2, chans := [{ unacked := [{ peer := 0, port := 2, vc := 0, body := .invalAck 9 }] }] }] } }), 0, 2, 0, ({ peer := 0, port := 2, state := 2, chans := [{ unacked := [{ peer := 0, port := 2, vc := 0, body := .invalAck 9 }] }] }), by decide +kernel, by decide +kernel, by decide +kernel, by decide +kernel⟩
  · exact ⟨({ dev with hinge := { dev.hinge with conns := [{ peer := 0, port := 2, state := 2, chans := [{ sinceAck := 1 }] }] } }), 0, 2, 0, ({ peer := 0, port := 2, state := 2, chans := [{ sinceAck := 1 }] }), by decide +kernel, by decide +kernel, by decide +kernel, by decide +kernel⟩
  · exact ⟨({ dev with hinge := { dev.hinge with conns := [{ peer := 0, port := 2, state := 1 }] } }), 0, 2, ({ peer := 0, port := 2, state := 1 }), by decide +kernel, by decide +kernel, by decide +kernel, by decide +kernel⟩
  · exact ⟨({ dev with hinge := { dev.hinge with conns := [{ peer := 0, port := 2, state := 1, tries := 3 }] } }), 0, 2, ({ peer := 0, port := 2, state := 1, tries := 3 }), by decide +kernel, by decide +kernel, by decide +kernel, by decide +kernel⟩
  · exact ⟨dev, 0, 2, (link 0 2), by decide +kernel, by decide +kernel, by decide +kernel, by decide +kernel⟩
  · exact ⟨({ dev with hinge := { ports := [(1, { link := 2 })] }, power := { dev.power with state := 1 } }), 1, by decide +kernel, by decide +kernel⟩
  · exact ⟨({ dev with hinge := { dev.hinge with conns := [{ link 0 2 with chans := [{ granted := 64, usedUp := true }, {}, {}, {}] }] } }), (((List.range 4).foldl (fun s v => s.pumpAll (({ link 0 2 with chans := [{ granted := 64, usedUp := true }, {}, {}, {}] } : Conn)).peer 2 v) ({ dev with hinge := { dev.hinge with conns := [{ link 0 2 with chans := [{ granted := 64, usedUp := true }, {}, {}, {}] }] } } : State))), 2, ({ link 0 2 with chans := [{ granted := 64, usedUp := true }, {}, {}, {}] }), by decide +kernel, rfl, by decide +kernel, by decide +kernel⟩

/-- States and operands that meet the hypotheses of NoticesAndTimeServiceAct, clause by clause. -/
theorem witness_noticesAndTimeServiceAct :
    (∃ (s : State) (u : State) (h : Hdr) (v : Nat) (d : Nat), Got s h (.notice 1 v d) u ∧ h.src = u.activeOf v) ∧
    (∃ (s : State) (u : State) (h : Hdr) (v : Nat) (d : Nat), Got s h (.notice 2 v d) u ∧ h.src = u.activeOf v) ∧
    (∃ (s : State) (u : State) (h : Hdr) (v : Nat) (d : Nat), Got s h (.notice 3 v d) u) ∧
    (∃ (s : State) (u : State) (h : Hdr) (v : Nat) (d : Nat), Got s h (.notice 4 v d) u ∧ v = u.vault ∧ u.twin.state = 4) ∧
    (∃ (s : State) (prio : Nat) (quality : Nat) (prio2 : Nat) (clock : Nat), s.flag 0x2230 1 = true ∧ s.hinge.ptpState = 1 ∧ betterClock s.ownClock (prio, quality, prio2, clock) = false) ∧
    (∃ (s : State) (prio : Nat) (quality : Nat) (prio2 : Nat) (clock : Nat), s.flag 0x2230 1 = true ∧ s.hinge.ptpState = 9 ∧ betterClock s.ownClock (prio, quality, prio2, clock) = true) ∧
    (∃ (s : State) (u : State) (offset : Int) (delay : Nat), s.flag 0x2230 1 = true ∧ s.hinge.ptpState = 8 ∧ s.pool.wave = 0 ∧ offset.natAbs ≤ s.setting 0x2230 0x0D ∧ u = s.modHinge (fun h => { h with ptpState := 9, ptpOffset := offset, ptpDelay := delay, ptpAcc := 1, base := h.base - offset, syncAt := s.now })) ∧
    (∃ (s : State) (offset : Int) (fix : Int), s.flag 0x2230 1 = true ∧ s.hinge.ptpState = 9 ∧ s.pool.wave ≠ 0 ∧ offset.natAbs ≤ 1000000 ∧ fix = max (-(((s.now - s.hinge.syncAt) / 5000 : Nat) : Int)) (min (((s.now - s.hinge.syncAt) / 5000 : Nat) : Int) offset)) ∧
    (∃ (s : State), s.hinge.ptpState = 6 ∧ s.flag 0x2230 1 = true ∧ s.hinge.syncSent = none ∧ s.hinge.annSent = none) ∧
    (∃ (s : State), s.hinge.ptpState = 9 ∧ s.flag 0x2230 1 = true ∧ s.hinge.reqSent = none) ∧
    (∃ (s : State) (u : State) (offset : Int), s.pool.wave ≠ 0 ∧ s.hinge.ptpState = 9 ∧ 1000000 < offset.natAbs ∧ s.hinge.ptpOffset = offset ∧ u = s.modHinge (fun h => { h with base := h.base - offset, steps := h.steps + 1, ptpOffset := 0 })) ∧
    (∃ (s : State), s.flag 0x2230 1 = true ∧ s.hinge.ptpState = 9) := by
  and_intros
  · exact ⟨dev, ((State.rx (dev : State) (sealHdr (from0 : Hdr) ((.notice 1 (0 : Nat) (0 : Nat))) : Hdr) (.notice 1 (0 : Nat) (0 : Nat)) false).1), (sealHdr (from0 : Hdr) ((.notice 1 (0 : Nat) (0 : Nat)))), 0, 0, got_of (by decide +kernel), by decide +kernel⟩
  · exact ⟨dev, ((State.rx (dev : State) (sealHdr (from0 : Hdr) ((.notice 2 (0 : Nat) (0 : Nat))) : Hdr) (.notice 2 (0 : Nat) (0 : Nat)) false).1), (sealHdr (from0 : Hdr) ((.notice 2 (0 : Nat) (0 : Nat)))), 0, 0, got_of (by decide +kernel), by decide +kernel⟩
  · exact ⟨dev, ((State.rx (dev : State) (sealHdr (from0 : Hdr) ((.notice 3 (0 : Nat) (0 : Nat))) : Hdr) (.notice 3 (0 : Nat) (0 : Nat)) false).1), (sealHdr (from0 : Hdr) ((.notice 3 (0 : Nat) (0 : Nat)))), 0, 0, got_of (by decide +kernel)⟩
  · exact ⟨({ dev with twin := { dev.twin with state := 4 } }), ((State.rx ({ dev with twin := { dev.twin with state := 4 } } : State) (sealHdr (fromTwin : Hdr) ((.notice 4 (1 : Nat) (0 : Nat))) : Hdr) (.notice 4 (1 : Nat) (0 : Nat)) false).1), (sealHdr (fromTwin : Hdr) ((.notice 4 (1 : Nat) (0 : Nat)))), 1, 0, got_of (by decide +kernel), by decide +kernel, by decide +kernel⟩
  · exact ⟨({ dev with settings := [(okey 0x2230 1, 1)], hinge := { dev.hinge with ptpState := 1 } }), 0, 0, 0, 0, by decide +kernel, by decide +kernel, by decide +kernel⟩
  · exact ⟨({ dev with settings := [(okey 0x2230 1, 1)], hinge := { dev.hinge with ptpState := 9 } }), 255, 255, 255, 0, by decide +kernel, by decide +kernel, by decide +kernel⟩
  · exact ⟨({ dev with settings := [(okey 0x2230 1, 1)], hinge := { dev.hinge with ptpState := 8 }, pool := { dev.pool with wave := 0 } }), ((({ dev with settings := [(okey 0x2230 1, 1)], hinge := { dev.hinge with ptpState := 8 }, pool := { dev.pool with wave := 0 } } : State).modHinge (fun h => { h with ptpState := 9, ptpOffset := (0 : Int), ptpDelay := (50 : Nat), ptpAcc := 1, base := h.base - (0 : Int), syncAt := (({ dev with settings := [(okey 0x2230 1, 1)], hinge := { dev.hinge with ptpState := 8 }, pool := { dev.pool with wave := 0 } } : State)).now }))), 0, 50, by decide +kernel, by decide +kernel, by decide +kernel, by decide +kernel, rfl⟩
  · exact ⟨({ dev with settings := [(okey 0x2230 1, 1)], hinge := { dev.hinge with ptpState := 9 } }), 500, ((max (-((((({ dev with settings := [(okey 0x2230 1, 1)], hinge := { dev.hinge with ptpState := 9 } } : State)).now - (({ dev with settings := [(okey 0x2230 1, 1)], hinge := { dev.hinge with ptpState := 9 } } : State)).hinge.syncAt) / 5000 : Nat) : Int)) (min ((((({ dev with settings := [(okey 0x2230 1, 1)], hinge := { dev.hinge with ptpState := 9 } } : State)).now - (({ dev with settings := [(okey 0x2230 1, 1)], hinge := { dev.hinge with ptpState := 9 } } : State)).hinge.syncAt) / 5000 : Nat) : Int) (500 : Int)))), by decide +kernel, by decide +kernel, by decide +kernel, by decide +kernel, by decide +kernel⟩
  · exact ⟨({ dev with settings := [(okey 0x2230 1, 1)], hinge := { dev.hinge with ptpState := 6 } }), by decide +kernel, by decide +kernel, by decide +kernel, by decide +kernel⟩
  · exact ⟨({ dev with settings := [(okey 0x2230 1, 1)], hinge := { dev.hinge with ptpState := 9 } }), by decide +kernel, by decide +kernel, by decide +kernel⟩
  · exact ⟨({ dev with hinge := { dev.hinge with ptpState := 9, ptpOffset := 2000000 } }), (({ dev with hinge := { dev.hinge with ptpState := 9, ptpOffset := 2000000 } } : State).modHinge (fun h => { h with base := h.base - 2000000, steps := h.steps + 1, ptpOffset := 0 })), 2000000, by decide +kernel, by decide +kernel, by decide +kernel, by decide +kernel, rfl⟩
  · exact ⟨({ dev with settings := [(okey 0x2230 1, 1)], hinge := { dev.hinge with ptpState := 9 } }), by decide +kernel, by decide +kernel⟩

/-- States and operands that meet the hypotheses of RootHandlesActions, clause by clause. -/
theorem witness_rootHandlesActions :
    (∃ (s : State), s.pool.isRoot = true ∧ s.rootBusy = false) ∧
    (∃ (s : State) (n : Nat) (size : Nat) (cls : Nat) (label : Nat), s.pool.isRoot = true ∧ s.rootBusy = true ∧ isOrdered (.volCreate n size cls label) = true) ∧
    (∃ (s : State) (n : Nat), (s.vol n).state = 4 ∧ (∀ o ∈ s.pool.ops, o.done = true ∨ o.act ≠ .volDelete n)) ∧
    (∃ (s : State) (n : Nat) (o : LatchOp), o ∈ s.pool.ops ∧ o.done = false ∧ o.act = .volDelete n) := by
  and_intros
  · exact ⟨rooted, by decide +kernel, by decide +kernel⟩
  · exact ⟨({ rooted with pool := { rooted.pool with ops := [{ op := 3, act := .volDelete 1, latch := 1 }] } }), 1, 4, 1, 0, by decide +kernel, by decide +kernel, by decide +kernel⟩
  · exact ⟨({ dev with pool := { dev.pool with vols := [(1, { state := 4, size := 4 })] } }), 1, by decide +kernel, by decide +kernel⟩
  · exact ⟨({ dev with pool := { dev.pool with ops := [{ op := 3, act := .volDelete 1, latch := 1 }] } }), 1, ({ op := 3, act := .volDelete 1, latch := 1 }), by decide +kernel, by decide +kernel, by decide +kernel⟩

/-- States and operands that meet the hypotheses of TreeMessagesAct, clause by clause. -/
theorem witness_treeMessagesAct :
    (∃ (s : State) (u : State) (v : State) (h : Hdr) (t : TreeHdr) (gen : Nat) (ranks : List (Nat × Bool)), GotTree s h t false (.gather gen ranks) u ∧ u.pool.gen ≤ gen ∧ u.pool.root ≠ noDev ∧ v = u.modPool (fun p => { p with adopted := p.adopted.filter (fun d => d == h.src || !ranks.contains (u.rankAt d, true)) }) ∧ h.src ∈ v.children ∧ u.pool.isRoot = false) ∧
    (∃ (s : State) (u : State) (v : State) (h : Hdr) (t : TreeHdr) (gen : Nat) (ranks : List (Nat × Bool)), GotTree s h t false (.gather gen ranks) u ∧ u.pool.gen ≤ gen ∧ u.pool.root ≠ noDev ∧ v = u.modPool (fun p => { p with adopted := p.adopted.filter (fun d => d == h.src || !ranks.contains (u.rankAt d, true)) }) ∧ h.src ∈ v.children ∧ u.pool.isRoot = true ∧ u.pool.gather = 2 ∧ (∃ r, (r, true) ∈ ranks)) ∧
    (∃ (s : State) (u : State) (h : Hdr) (t : TreeHdr) (segment : Nat) (present : List Nat), GotTree s h t true (.ready segment present) u ∧ t.op ≤ (u.treeDown t.op 0 (.ready segment present)).pool.wave) ∧
    (∃ (s : State) (u : State) (v : State) (h : Hdr) (t : TreeHdr) (segment : Nat) (present : List Nat), GotTree s h t true (.ready segment present) u ∧ u.treeDown t.op 0 (.ready segment present) = v ∧ v.pool.wave < t.op ∧ (insertKey segment present (if segment = 0 then [] else v.pool.segments)).length < 4) ∧
    (∃ (s : State) (u : State) (v : State) (h : Hdr) (t : TreeHdr) (segment : Nat) (present : List Nat), GotTree s h t true (.ready segment present) u ∧ u.treeDown t.op 0 (.ready segment present) = v ∧ v.pool.wave < t.op ∧ 4 ≤ (insertKey segment present (if segment = 0 then [] else v.pool.segments)).length) ∧
    (∃ (s : State) (u : State) (h : Hdr) (t : TreeHdr), GotTree s h t true .tick u) ∧
    (∃ (s : State) (u : State) (h : Hdr) (t : TreeHdr), GotTree s h t true .tick u ∧ u.unreachable (u.parentOf u.pool.number) = true) ∧
    (∃ (s : State) (u : State) (h : Hdr) (t : TreeHdr), GotTree s h t true .tick u ∧ u.unreachable (u.parentOf u.pool.number) = false ∧ u.pool.parent ≠ u.parentOf u.pool.number) ∧
    (∃ (s : State) (u : State) (h : Hdr) (t : TreeHdr) (arrived : Nat) (absent : Nat), GotTree s h t false (.arrive arrived absent) u ∧ u.pool.barrier.map Prod.fst = some t.op ∧ h.src ∈ u.pool.arrived) ∧
    (∃ (s : State) (u : State) (v : State) (h : Hdr) (t : TreeHdr) (arrived : Nat) (absent : Nat) (n : Nat) (k : Nat), GotTree s h t false (.arrive arrived absent) u ∧ u.pool.barrier = some (t.op, n, k) ∧ h.src ∉ u.pool.arrived ∧ v = u.modPool (fun p => { p with arrived := addSet h.src p.arrived, barrier := some (t.op, n + arrived, k + absent) })) ∧
    (∃ (s : State) (u : State) (v : State) (h : Hdr) (t : TreeHdr) (arrived : Nat) (absent : Nat) (n : Nat) (k : Nat), GotTree s h t false (.arrive arrived absent) u ∧ u.pool.barrier = some (t.op, n, k) ∧ h.src ∉ u.pool.arrived ∧ v = u.modPool (fun p => { p with arrived := addSet h.src p.arrived, barrier := some (t.op, n + arrived, k + absent) }) ∧ (∃ d ∈ v.presentChildren, v.unreachable d = false ∧ d ∉ v.pool.arrived)) ∧
    (∃ (s : State) (u : State) (v : State) (h : Hdr) (t : TreeHdr) (arrived : Nat) (absent : Nat) (n : Nat) (k : Nat), GotTree s h t false (.arrive arrived absent) u ∧ u.pool.barrier = some (t.op, n, k) ∧ h.src ∉ u.pool.arrived ∧ v = u.modPool (fun p => { p with arrived := addSet h.src p.arrived, barrier := some (t.op, n + arrived, k + absent) }) ∧ (∀ d ∈ v.presentChildren, v.unreachable d = false → d ∈ v.pool.arrived)) ∧
    (∃ (s : State) (u : State) (h : Hdr) (t : TreeHdr) (st : Nat), GotTree s h t true (.release st) u) ∧
    (∃ (s : State) (u : State) (v : State) (h : Hdr) (t : TreeHdr) (payload : Bytes) (census : List (Nat × Census)), GotTree s h t true (.broadcast (payload.map BitVec.toNat) census) u ∧ v = (u.treeDown t.op 0 (.broadcast (payload.map BitVec.toNat) census)).count 497 1) ∧
    (∃ (s : State) (u : State) (v : State) (h : Hdr) (t : TreeHdr) (r : Nat × Nat × Nat × Nat), GotTree s h t true (.broadcast [r.1, r.2.1, r.2.2.1, r.2.2.2] []) u ∧ v = (u.treeDown t.op 0 (.broadcast [r.1, r.2.1, r.2.2.1, r.2.2.2] [])).count 497 1 ∧ v.serves = false) ∧
    (∃ (s : State) (u : State) (h : Hdr) (t : TreeHdr) (a : Action) (dev : Nat), GotTree s h t true (.announce a dev) u ∧ u.pool.ops = [] ∧ u.pool.opNo < t.op ∧ h.src ≠ u.pool.parent) ∧
    (∃ (s : State) (u : State) (v : State) (h : Hdr) (t : TreeHdr) (a : Action) (dev : Nat), GotTree s h t true (.announce a dev) u ∧ u.pool.ops = [] ∧ u.pool.opNo < t.op ∧ h.src = u.pool.parent ∧ u.pool.parent ≠ u.pool.root ∧ v = u.treeDown t.op t.latch (.announce a dev)) ∧
    (∃ (s : State) (u : State) (h : Hdr) (t : TreeHdr) (st : Nat) (covered : Nat) (missed : Nat) (firstMissed : Nat), GotTree s h t false (.done st covered missed firstMissed) u ∧ (∀ o ∈ u.pool.ops, o.op = t.op → h.src ∉ o.dones)) ∧
    (∃ (s : State) (u : State) (h : Hdr) (t : TreeHdr) (a : Action) (dev : Nat), GotTree s h t false (.action a dev) u) ∧
    (∃ (s : State) (u : State) (h : Hdr) (t : TreeHdr) (st : Nat), GotTree s h t true (.result st) u) ∧
    (∃ (s : State) (u : State) (h : Hdr) (t : TreeHdr) (ident : Nat) (number : Nat) (mac : Nat) (e : MEntry), s.rx { h with hdrOk := h.hdrOk && t.pool == s.pool.id } (.tree t (.join ident number)) true = (u, true) ∧ u.numbered = true ∧ u.entryOf number = some e ∧ e.ident = ident ∧ mac ∈ e.macs ∧ number ∉ u.pool.present) ∧
    (∃ (s : State) (u : State) (h : Hdr) (t : TreeHdr) (img : PoolImage), s.pool.joinState = 0 ∧ s.rx { h with hdrOk := h.hdrOk && t.pool == s.pool.id } (.tree t (.state img)) false = (u, true) ∧ u.pool.gen = img.gen) ∧
    (∃ (s : State) (u : State) (v : State) (h : Hdr) (t : TreeHdr) (img : PoolImage), s.pool.joinState = 0 ∧ s.rx { h with hdrOk := h.hdrOk && t.pool == s.pool.id } (.tree t (.state img)) false = (u, true) ∧ u.pool.gen < img.gen ∧ v = (((u.count 502 1).count 503 1).takeImage img).raise 136 1 (leBytes 2 h.src ++ leBytes 8 img.gen)) ∧
    (∃ (s : State) (u : State) (h : Hdr) (i : Nat) (a : Nat) (ents : List MapEnt), Got s h (.mapEntries i ents false) u ∧ assoc u.pool.mapWait i = some a) := by
  and_intros
  · exact ⟨parented, ((State.rxTree (parented : State) (sealHdr (fromTwin : Hdr) ((.tree (term1 0 : TreeHdr) (.gather (5 : Nat) ([(3, true)] : List (Nat × Bool))))) : Hdr) (term1 0 : TreeHdr) false (.gather (5 : Nat) ([(3, true)] : List (Nat × Bool)))).1.castOps), ((((State.rxTree (parented : State) (sealHdr (fromTwin : Hdr) ((.tree (term1 0 : TreeHdr) (.gather (5 : Nat) ([(3, true)] : List (Nat × Bool))))) : Hdr) (term1 0 : TreeHdr) false (.gather (5 : Nat) ([(3, true)] : List (Nat × Bool)))).1.castOps : State).modPool (fun p => { p with adopted := p.adopted.filter (fun d => d == ((sealHdr (fromTwin : Hdr) ((.tree (term1 0 : TreeHdr) (.gather (5 : Nat) ([(3, true)] : List (Nat × Bool))))) : Hdr)).src || !(([(3, true)] : List (Nat × Bool))).contains (((State.rxTree (parented : State) (sealHdr (fromTwin : Hdr) ((.tree (term1 0 : TreeHdr) (.gather (5 : Nat) ([(3, true)] : List (Nat × Bool))))) : Hdr) (term1 0 : TreeHdr) false (.gather (5 : Nat) ([(3, true)] : List (Nat × Bool)))).1.castOps : State).rankAt d, true)) }))), (sealHdr (fromTwin : Hdr) ((.tree (term1 0 : TreeHdr) (.gather (5 : Nat) ([(3, true)] : List (Nat × Bool)))))), (term1 0), 5, ([(3, true)]), ⟨by decide +kernel, rfl⟩, by decide +kernel, by decide +kernel, rfl, by decide +kernel, by decide +kernel⟩
  · exact ⟨({ rooted with pool := { rooted.pool with adopted := [3] } }), ((State.rxTree ({ rooted with pool := { rooted.pool with adopted := [3] } } : State) (sealHdr (fromTwin : Hdr) ((.tree ({ term1 0 with root := 2 } : TreeHdr) (.gather (5 : Nat) ([(3, true)] : List (Nat × Bool))))) : Hdr) ({ term1 0 with root := 2 } : TreeHdr) false (.gather (5 : Nat) ([(3, true)] : List (Nat × Bool)))).1.castOps), ((((State.rxTree ({ rooted with pool := { rooted.pool with adopted := [3] } } : State) (sealHdr (fromTwin : Hdr) ((.tree ({ term1 0 with root := 2 } : TreeHdr) (.gather (5 : Nat) ([(3, true)] : List (Nat × Bool))))) : Hdr) ({ term1 0 with root := 2 } : TreeHdr) false (.gather (5 : Nat) ([(3, true)] : List (Nat × Bool)))).1.castOps : State).modPool (fun p => { p with adopted := p.adopted.filter (fun d => d == ((sealHdr (fromTwin : Hdr) ((.tree ({ term1 0 with root := 2 } : TreeHdr) (.gather (5 : Nat) ([(3, true)] : List (Nat × Bool))))) : Hdr)).src || !(([(3, true)] : List (Nat × Bool))).contains (((State.rxTree ({ rooted with pool := { rooted.pool with adopted := [3] } } : State) (sealHdr (fromTwin : Hdr) ((.tree ({ term1 0 with root := 2 } : TreeHdr) (.gather (5 : Nat) ([(3, true)] : List (Nat × Bool))))) : Hdr) ({ term1 0 with root := 2 } : TreeHdr) false (.gather (5 : Nat) ([(3, true)] : List (Nat × Bool)))).1.castOps : State).rankAt d, true)) }))), (sealHdr (fromTwin : Hdr) ((.tree ({ term1 0 with root := 2 } : TreeHdr) (.gather (5 : Nat) ([(3, true)] : List (Nat × Bool)))))), ({ term1 0 with root := 2 }), 5, ([(3, true)]), ⟨by decide +kernel, rfl⟩, by decide +kernel, by decide +kernel, rfl, by decide +kernel, by decide +kernel, by decide +kernel, ⟨3, by decide +kernel⟩⟩
  · exact ⟨dev, ((((heard (dev : State) from0 (term1 4 : TreeHdr) (.ready (0 : Nat) ([0, 1, 2, 3] : List Nat))).takeTerm (term1 4 : TreeHdr)).castOps)), (sealHdr (from0 : Hdr) ((.tree (term1 4 : TreeHdr) (.ready (0 : Nat) ([0, 1, 2, 3] : List Nat))))), (term1 4), 0, ([0, 1, 2, 3]), got_down (by decide +kernel) (by decide +kernel) (by decide +kernel) (by decide +kernel) (by decide +kernel) (by decide +kernel) (by decide +kernel) (by decide +kernel), by decide +kernel⟩
  · exact ⟨dev, ((((heard (dev : State) from0 (term1 5 : TreeHdr) (.ready (0 : Nat) ([0, 1, 2, 3] : List Nat))).takeTerm (term1 5 : TreeHdr)).castOps)), ((((((heard (dev : State) from0 (term1 5 : TreeHdr) (.ready (0 : Nat) ([0, 1, 2, 3] : List Nat))).takeTerm (term1 5 : TreeHdr)).castOps) : State).treeDown ((term1 5 : TreeHdr)).op 0 (.ready (0 : Nat) ([0, 1, 2, 3] : List Nat)))), (sealHdr (from0 : Hdr) ((.tree (term1 5 : TreeHdr) (.ready (0 : Nat) ([0, 1, 2, 3] : List Nat))))), (term1 5), 0, ([0, 1, 2, 3]), got_down (by decide +kernel) (by decide +kernel) (by decide +kernel) (by decide +kernel) (by decide +kernel) (by decide +kernel) (by decide +kernel) (by decide +kernel), rfl, by decide +kernel, by decide +kernel⟩
  · exact ⟨({ dev with pool := { dev.pool with segments := [(0, [0]), (1, [1]), (2, [2])] } }), ((((heard ({ dev with pool := { dev.pool with segments := [(0, [0]), (1, [1]), (2, [2])] } } : State) from0 (term1 5 : TreeHdr) (.ready (3 : Nat) ([3] : List Nat))).takeTerm (term1 5 : TreeHdr)).castOps)), ((((((heard ({ dev with pool := { dev.pool with segments := [(0, [0]), (1, [1]), (2, [2])] } } : State) from0 (term1 5 : TreeHdr) (.ready (3 : Nat) ([3] : List Nat))).takeTerm (term1 5 : TreeHdr)).castOps) : State).treeDown ((term1 5 : TreeHdr)).op 0 (.ready (3 : Nat) ([3] : List Nat)))), (sealHdr (from0 : Hdr) ((.tree (term1 5 : TreeHdr) (.ready (3 : Nat) ([3] : List Nat))))), (term1 5), 3, ([3]), got_down (by decide +kernel) (by decide +kernel) (by decide +kernel) (by decide +kernel) (by decide +kernel) (by decide +kernel) (by decide +kernel) (by decide +kernel), rfl, by decide +kernel, by decide +kernel⟩
  · exact ⟨parented, ((State.rxTree (parented : State) (sealHdr (from0 : Hdr) ((.tree (term1 6 : TreeHdr) .tick)) : Hdr) (term1 6 : TreeHdr) true .tick).1.castOps), (sealHdr (from0 : Hdr) ((.tree (term1 6 : TreeHdr) .tick))), (term1 6), ⟨by decide +kernel, rfl⟩⟩
  · exact ⟨({ dev with pool := { dev.pool with parent := 1 }, hinge := { dev.hinge with unreach := [(0, 2), (0, 3)] } }), ((State.rxTree ({ dev with pool := { dev.pool with parent := 1 }, hinge := { dev.hinge with unreach := [(0, 2), (0, 3)] } } : State) (sealHdr (from1 : Hdr) ((.tree (term1 6 : TreeHdr) .tick)) : Hdr) (term1 6 : TreeHdr) true .tick).1.castOps), (sealHdr (from1 : Hdr) ((.tree (term1 6 : TreeHdr) .tick))), (term1 6), ⟨by decide +kernel, rfl⟩, by decide +kernel⟩
  · exact ⟨({ dev with pool := { dev.pool with parent := 1 } }), ((State.rxTree ({ dev with pool := { dev.pool with parent := 1 } } : State) (sealHdr (from1 : Hdr) ((.tree (term1 6 : TreeHdr) .tick)) : Hdr) (term1 6 : TreeHdr) true .tick).1.castOps), (sealHdr (from1 : Hdr) ((.tree (term1 6 : TreeHdr) .tick))), (term1 6), ⟨by decide +kernel, rfl⟩, by decide +kernel, by decide +kernel⟩
  · exact ⟨({ parented with pool := { parented.pool with barrier := some (6, 0, 0), arrived := [3] } }), ((State.rxTree ({ parented with pool := { parented.pool with barrier := some (6, 0, 0), arrived := [3] } } : State) (sealHdr (fromTwin : Hdr) ((.tree (term1 6 : TreeHdr) (.arrive (1 : Nat) (0 : Nat)))) : Hdr) (term1 6 : TreeHdr) false (.arrive (1 : Nat) (0 : Nat))).1.castOps), (sealHdr (fromTwin : Hdr) ((.tree (term1 6 : TreeHdr) (.arrive (1 : Nat) (0 : Nat))))), (term1 6), 1, 0, ⟨by decide +kernel, rfl⟩, by decide +kernel, by decide +kernel⟩
  · exact ⟨({ parented with pool := { parented.pool with barrier := some (6, 1, 0) } }), ((State.rxTree ({ parented with pool := { parented.pool with barrier := some (6, 1, 0) } } : State) (sealHdr (fromTwin : Hdr) ((.tree (term1 6 : TreeHdr) (.arrive (1 : Nat) (0 : Nat)))) : Hdr) (term1 6 : TreeHdr) false (.arrive (1 : Nat) (0 : Nat))).1.castOps), ((((State.rxTree ({ parented with pool := { parented.pool with barrier := some (6, 1, 0) } } : State) (sealHdr (fromTwin : Hdr) ((.tree (term1 6 : TreeHdr) (.arrive (1 : Nat) (0 : Nat)))) : Hdr) (term1 6 : TreeHdr) false (.arrive (1 : Nat) (0 : Nat))).1.castOps : State).modPool (fun p => { p with arrived := addSet ((sealHdr (fromTwin : Hdr) ((.tree (term1 6 : TreeHdr) (.arrive (1 : Nat) (0 : Nat)))) : Hdr)).src p.arrived, barrier := some (((term1 6 : TreeHdr)).op, (1 : Nat) + (1 : Nat), (0 : Nat) + (0 : Nat)) }))), (sealHdr (fromTwin : Hdr) ((.tree (term1 6 : TreeHdr) (.arrive (1 : Nat) (0 : Nat))))), (term1 6), 1, 0, 1, 0, ⟨by decide +kernel, rfl⟩, by decide +kernel, by decide +kernel, rfl⟩
  · exact ⟨({ parented with pool := { parented.pool with barrier := some (6, 1, 0), adopted := [1, 3] } }), ((State.rxTree ({ parented with pool := { parented.pool with barrier := some (6, 1, 0), adopted := [1, 3] } } : State) (sealHdr (fromTwin : Hdr) ((.tree (term1 6 : TreeHdr) (.arrive (1 : Nat) (0 : Nat)))) : Hdr) (term1 6 : TreeHdr) false (.arrive (1 : Nat) (0 : Nat))).1.castOps), ((((State.rxTree ({ parented with pool := { parented.pool with barrier := some (6, 1, 0), adopted := [1, 3] } } : State) (sealHdr (fromTwin : Hdr) ((.tree (term1 6 : TreeHdr) (.arrive (1 : Nat) (0 : Nat)))) : Hdr) (term1 6 : TreeHdr) false (.arrive (1 : Nat) (0 : Nat))).1.castOps : State).modPool (fun p => { p with arrived := addSet ((sealHdr (fromTwin : Hdr) ((.tree (term1 6 : TreeHdr) (.arrive (1 : Nat) (0 : Nat)))) : Hdr)).src p.arrived, barrier := some (((term1 6 : TreeHdr)).op, (1 : Nat) + (1 : Nat), (0 : Nat) + (0 : Nat)) }))), (sealHdr (fromTwin : Hdr) ((.tree (term1 6 : TreeHdr) (.arrive (1 : Nat) (0 : Nat))))), (term1 6), 1, 0, 1, 0, ⟨by decide +kernel, rfl⟩, by decide +kernel, by decide +kernel, rfl, by decide +kernel⟩
  · exact ⟨({ parented with pool := { parented.pool with barrier := some (6, 1, 0) } }), ((State.rxTree ({ parented with pool := { parented.pool with barrier := some (6, 1, 0) } } : State) (sealHdr (fromTwin : Hdr) ((.tree (term1 6 : TreeHdr) (.arrive (1 : Nat) (0 : Nat)))) : Hdr) (term1 6 : TreeHdr) false (.arrive (1 : Nat) (0 : Nat))).1.castOps), ((((State.rxTree ({ parented with pool := { parented.pool with barrier := some (6, 1, 0) } } : State) (sealHdr (fromTwin : Hdr) ((.tree (term1 6 : TreeHdr) (.arrive (1 : Nat) (0 : Nat)))) : Hdr) (term1 6 : TreeHdr) false (.arrive (1 : Nat) (0 : Nat))).1.castOps : State).modPool (fun p => { p with arrived := addSet ((sealHdr (fromTwin : Hdr) ((.tree (term1 6 : TreeHdr) (.arrive (1 : Nat) (0 : Nat)))) : Hdr)).src p.arrived, barrier := some (((term1 6 : TreeHdr)).op, (1 : Nat) + (1 : Nat), (0 : Nat) + (0 : Nat)) }))), (sealHdr (fromTwin : Hdr) ((.tree (term1 6 : TreeHdr) (.arrive (1 : Nat) (0 : Nat))))), (term1 6), 1, 0, 1, 0, ⟨by decide +kernel, rfl⟩, by decide +kernel, by decide +kernel, rfl, by decide +kernel⟩
  · exact ⟨parented, ((State.rxTree (parented : State) (sealHdr (from0 : Hdr) ((.tree (term1 6 : TreeHdr) (.release (0 : Nat)))) : Hdr) (term1 6 : TreeHdr) true (.release (0 : Nat))).1.castOps), (sealHdr (from0 : Hdr) ((.tree (term1 6 : TreeHdr) (.release (0 : Nat))))), (term1 6), 0, ⟨by decide +kernel, rfl⟩⟩
  · exact ⟨parented, ((State.rxTree (parented : State) (sealHdr (from0 : Hdr) ((.tree (term1 6 : TreeHdr) (.broadcast (([7] : Bytes).map BitVec.toNat) ([(1, {})] : List (Nat × Census))))) : Hdr) (term1 6 : TreeHdr) true (.broadcast (([7] : Bytes).map BitVec.toNat) ([(1, {})] : List (Nat × Census)))).1.castOps), (((((State.rxTree (parented : State) (sealHdr (from0 : Hdr) ((.tree (term1 6 : TreeHdr) (.broadcast (([7] : Bytes).map BitVec.toNat) ([(1, {})] : List (Nat × Census))))) : Hdr) (term1 6 : TreeHdr) true (.broadcast (([7] : Bytes).map BitVec.toNat) ([(1, {})] : List (Nat × Census)))).1.castOps : State).treeDown ((term1 6 : TreeHdr)).op 0 (.broadcast ((([7] : Bytes)).map BitVec.toNat) ([(1, {})] : List (Nat × Census)))).count 497 1)), (sealHdr (from0 : Hdr) ((.tree (term1 6 : TreeHdr) (.broadcast (([7] : Bytes).map BitVec.toNat) ([(1, {})] : List (Nat × Census)))))), (term1 6), ([7]), ([(1, {})]), ⟨by decide +kernel, rfl⟩, rfl⟩
  · exact ⟨({ parented with twin := { parented.twin with state := 4 } }), ((State.rxTree ({ parented with twin := { parented.twin with state := 4 } } : State) (sealHdr (from0 : Hdr) ((.tree (term1 6 : TreeHdr) (.broadcast [((1, 5, 6, 0) : Nat × Nat × Nat × Nat).1, ((1, 5, 6, 0) : Nat × Nat × Nat × Nat).2.1, ((1, 5, 6, 0) : Nat × Nat × Nat × Nat).2.2.1, ((1, 5, 6, 0) : Nat × Nat × Nat × Nat).2.2.2] []))) : Hdr) (term1 6 : TreeHdr) true (.broadcast [((1, 5, 6, 0) : Nat × Nat × Nat × Nat).1, ((1, 5, 6, 0) : Nat × Nat × Nat × Nat).2.1, ((1, 5, 6, 0) : Nat × Nat × Nat × Nat).2.2.1, ((1, 5, 6, 0) : Nat × Nat × Nat × Nat).2.2.2] [])).1.castOps), (((((State.rxTree ({ parented with twin := { parented.twin with state := 4 } } : State) (sealHdr (from0 : Hdr) ((.tree (term1 6 : TreeHdr) (.broadcast [((1, 5, 6, 0) : Nat × Nat × Nat × Nat).1, ((1, 5, 6, 0) : Nat × Nat × Nat × Nat).2.1, ((1, 5, 6, 0) : Nat × Nat × Nat × Nat).2.2.1, ((1, 5, 6, 0) : Nat × Nat × Nat × Nat).2.2.2] []))) : Hdr) (term1 6 : TreeHdr) true (.broadcast [((1, 5, 6, 0) : Nat × Nat × Nat × Nat).1, ((1, 5, 6, 0) : Nat × Nat × Nat × Nat).2.1, ((1, 5, 6, 0) : Nat × Nat × Nat × Nat).2.2.1, ((1, 5, 6, 0) : Nat × Nat × Nat × Nat).2.2.2] [])).1.castOps : State).treeDown ((term1 6 : TreeHdr)).op 0 (.broadcast [(((1, 5, 6, 0) : Nat × Nat × Nat × Nat)).1, (((1, 5, 6, 0) : Nat × Nat × Nat × Nat)).2.1, (((1, 5, 6, 0) : Nat × Nat × Nat × Nat)).2.2.1, (((1, 5, 6, 0) : Nat × Nat × Nat × Nat)).2.2.2] [])).count 497 1)), (sealHdr (from0 : Hdr) ((.tree (term1 6 : TreeHdr) (.broadcast [((1, 5, 6, 0) : Nat × Nat × Nat × Nat).1, ((1, 5, 6, 0) : Nat × Nat × Nat × Nat).2.1, ((1, 5, 6, 0) : Nat × Nat × Nat × Nat).2.2.1, ((1, 5, 6, 0) : Nat × Nat × Nat × Nat).2.2.2] [])))), (term1 6), ((1, 5, 6, 0)), ⟨by decide +kernel, rfl⟩, rfl, by decide +kernel⟩
  · exact ⟨({ dev with pool := { dev.pool with parent := 1 } }), ((State.rxTree ({ dev with pool := { dev.pool with parent := 1 } } : State) (sealHdr (from0 : Hdr) ((.tree (term1 6 : TreeHdr) (.announce (.point 1 : Action) (7 : Nat)))) : Hdr) (term1 6 : TreeHdr) true (.announce (.point 1 : Action) (7 : Nat))).1.castOps), (sealHdr (from0 : Hdr) ((.tree (term1 6 : TreeHdr) (.announce (.point 1 : Action) (7 : Nat))))), (term1 6), (.point 1), 7, ⟨by decide +kernel, rfl⟩, by decide +kernel, by decide +kernel, by decide +kernel⟩
  · exact ⟨({ dev with pool := { dev.pool with parent := 1 } }), ((State.rxTree ({ dev with pool := { dev.pool with parent := 1 } } : State) (sealHdr (from1 : Hdr) ((.tree (term1 6 : TreeHdr) (.announce (.point 1 : Action) (7 : Nat)))) : Hdr) (term1 6 : TreeHdr) true (.announce (.point 1 : Action) (7 : Nat))).1.castOps), ((((State.rxTree ({ dev with pool := { dev.pool with parent := 1 } } : State) (sealHdr (from1 : Hdr) ((.tree (term1 6 : TreeHdr) (.announce (.point 1 : Action) (7 : Nat)))) : Hdr) (term1 6 : TreeHdr) true (.announce (.point 1 : Action) (7 : Nat))).1.castOps : State).treeDown ((term1 6 : TreeHdr)).op ((term1 6 : TreeHdr)).latch (.announce (.point 1 : Action) (7 : Nat)))), (sealHdr (from1 : Hdr) ((.tree (term1 6 : TreeHdr) (.announce (.point 1 : Action) (7 : Nat))))), (term1 6), (.point 1), 7, ⟨by decide +kernel, rfl⟩, by decide +kernel, by decide +kernel, by decide +kernel, by decide +kernel, rfl⟩
  · exact ⟨parented, ((State.rxTree (parented : State) (sealHdr (fromTwin : Hdr) ((.tree (term1 6 : TreeHdr) (.done (0 : Nat) (1 : Nat) (0 : Nat) (0xFFFF : Nat)))) : Hdr) (term1 6 : TreeHdr) false (.done (0 : Nat) (1 : Nat) (0 : Nat) (0xFFFF : Nat))).1.castOps), (sealHdr (fromTwin : Hdr) ((.tree (term1 6 : TreeHdr) (.done (0 : Nat) (1 : Nat) (0 : Nat) (0xFFFF : Nat))))), (term1 6), 0, 1, 0, 0xFFFF, ⟨by decide +kernel, rfl⟩, by decide +kernel⟩
  · exact ⟨parented, ((State.rxTree (parented : State) (sealHdr (fromTwin : Hdr) ((.tree (term1 0 : TreeHdr) (.action (.volDelete 1 : Action) (3 : Nat)))) : Hdr) (term1 0 : TreeHdr) false (.action (.volDelete 1 : Action) (3 : Nat))).1.castOps), (sealHdr (fromTwin : Hdr) ((.tree (term1 0 : TreeHdr) (.action (.volDelete 1 : Action) (3 : Nat))))), (term1 0), (.volDelete 1), 3, ⟨by decide +kernel, rfl⟩⟩
  · exact ⟨dev, ((State.rxTree (dev : State) (sealHdr (from0 : Hdr) ((.tree (term1 6 : TreeHdr) (.result (0 : Nat)))) : Hdr) (term1 6 : TreeHdr) true (.result (0 : Nat))).1.castOps), (sealHdr (from0 : Hdr) ((.tree (term1 6 : TreeHdr) (.result (0 : Nat))))), (term1 6), 0, ⟨by decide +kernel, rfl⟩⟩
  · exact ⟨({ dev with pool := { dev.pool with present := [0, 1, 2] }, hinge := { dev.hinge with conns := [link 0xFFFF 0] } }), ((State.rx ({ dev with pool := { dev.pool with present := [0, 1, 2] }, hinge := { dev.hinge with conns := [link 0xFFFF 0] } } : State) { (sealHdr ({ fromTwin with src := 0xFFFF } : Hdr) ((.tree (term1 0 : TreeHdr) (.join (103 : Nat) (3 : Nat)))) : Hdr) with hdrOk := (sealHdr ({ fromTwin with src := 0xFFFF } : Hdr) ((.tree (term1 0 : TreeHdr) (.join (103 : Nat) (3 : Nat)))) : Hdr).hdrOk && (term1 0 : TreeHdr).pool == ({ dev with pool := { dev.pool with present := [0, 1, 2] }, hinge := { dev.hinge with conns := [link 0xFFFF 0] } } : State).pool.id } (.tree (term1 0 : TreeHdr) (.join (103 : Nat) (3 : Nat))) true).1), (sealHdr ({ fromTwin with src := 0xFFFF } : Hdr) ((.tree (term1 0 : TreeHdr) (.join (103 : Nat) (3 : Nat))))), (term1 0), 103, 3, 49, (man 3), got_of (by decide +kernel), by decide +kernel, by decide +kernel, by decide +kernel, by decide +kernel, by decide +kernel⟩
  · exact ⟨dev, ((State.rx (dev : State) { (sealHdr (from0 : Hdr) ((.tree (term1 0 : TreeHdr) (.state ({ id := 9, gen := 5 } : PoolImage)))) : Hdr) with hdrOk := (sealHdr (from0 : Hdr) ((.tree (term1 0 : TreeHdr) (.state ({ id := 9, gen := 5 } : PoolImage)))) : Hdr).hdrOk && (term1 0 : TreeHdr).pool == (dev : State).pool.id } (.tree (term1 0 : TreeHdr) (.state ({ id := 9, gen := 5 } : PoolImage))) false).1), (sealHdr (from0 : Hdr) ((.tree (term1 0 : TreeHdr) (.state ({ id := 9, gen := 5 } : PoolImage))))), (term1 0), ({ id := 9, gen := 5 }), by decide +kernel, got_of (by decide +kernel), by decide +kernel⟩
  · exact ⟨dev, ((State.rx (dev : State) { (sealHdr (from0 : Hdr) ((.tree (term1 0 : TreeHdr) (.state ({ id := 9, gen := 6 } : PoolImage)))) : Hdr) with hdrOk := (sealHdr (from0 : Hdr) ((.tree (term1 0 : TreeHdr) (.state ({ id := 9, gen := 6 } : PoolImage)))) : Hdr).hdrOk && (term1 0 : TreeHdr).pool == (dev : State).pool.id } (.tree (term1 0 : TreeHdr) (.state ({ id := 9, gen := 6 } : PoolImage))) false).1), (((((((State.rx (dev : State) { (sealHdr (from0 : Hdr) ((.tree (term1 0 : TreeHdr) (.state ({ id := 9, gen := 6 } : PoolImage)))) : Hdr) with hdrOk := (sealHdr (from0 : Hdr) ((.tree (term1 0 : TreeHdr) (.state ({ id := 9, gen := 6 } : PoolImage)))) : Hdr).hdrOk && (term1 0 : TreeHdr).pool == (dev : State).pool.id } (.tree (term1 0 : TreeHdr) (.state ({ id := 9, gen := 6 } : PoolImage))) false).1 : State).count 502 1).count 503 1).takeImage ({ id := 9, gen := 6 } : PoolImage)).raise 136 1 (leBytes 2 ((sealHdr (from0 : Hdr) ((.tree (term1 0 : TreeHdr) (.state ({ id := 9, gen := 6 } : PoolImage)))) : Hdr)).src ++ leBytes 8 (({ id := 9, gen := 6 } : PoolImage)).gen))), (sealHdr (from0 : Hdr) ((.tree (term1 0 : TreeHdr) (.state ({ id := 9, gen := 6 } : PoolImage))))), (term1 0), ({ id := 9, gen := 6 }), by decide +kernel, got_of (by decide +kernel), by decide +kernel, rfl⟩
  · exact ⟨({ dev with pool := { dev.pool with mapWait := [(7, 3)] } }), ((State.rx ({ dev with pool := { dev.pool with mapWait := [(7, 3)] } } : State) (sealHdr (from0 : Hdr) ((.mapEntries (7 : Nat) ([] : List MapEnt) false)) : Hdr) (.mapEntries (7 : Nat) ([] : List MapEnt) false) false).1), (sealHdr (from0 : Hdr) ((.mapEntries (7 : Nat) ([] : List MapEnt) false))), 7, 3, ([]), got_of (by decide +kernel), by decide +kernel⟩

/-- States and operands that meet the hypotheses of TreeTimersAct, clause by clause. -/
theorem witness_treeTimersAct :
    (∃ (s : State) (l : List (Nat × Bool)), s.numbered = true ∧ s.pool.isRoot = false ∧ s.pool.gatherSent = 0 ∧ s.pool.parent ≠ noDev ∧ l = mergeRanks (if s.pool.gather < 2 then [(s.rankAt s.pool.number, true)] else []) (s.pool.report ++ s.lostRanks) ∧ l ≠ [] ∧ l.length ≤ 508) ∧
    (∃ (s : State), s.pool.isRoot = true ∧ s.pool.gather = 1 ∧ s.pool.gatherAt + s.setting 0x2020 7 ≤ s.now) ∧
    (∃ (s : State) (rq : Req), MayPut s rq 0x2020 9 1 1 ∧ s.pool.isRoot = true ∧ s.pool.gather = 1) ∧
    (∃ (s : State) (rq : Req), MayPut s rq 0x2020 9 1 1 ∧ s.pool.isRoot = false) ∧
    (∃ (s : State) (u : State), s.pool.isRoot = true ∧ s.pool.gather = 2 ∧ s.pool.waveAt + s.setting 0x2020 0x0B ≤ s.now ∧ u = s.modPool (fun p => { p with gathered := mergeRanks p.gathered s.lostRanks }) ∧ (u.pool.waveOwed = true ∨ u.presentChanged = true)) ∧
    (∃ (s : State), s.pool.isRoot = true ∧ s.pool.lastTick + s.setting 0x2020 0x0A ≤ s.now) ∧
    (∃ (s : State), s.numbered = true ∧ s.pool.isRoot = false ∧ s.pool.root ≠ noDev ∧ s.pool.lastTick + 3 * s.setting 0x2020 0x0A ≤ s.now ∧ s.ancestor s.pool.number 6 = noDev) ∧
    (∃ (s : State), s.numbered = true ∧ s.pool.isRoot = false ∧ s.pool.parent ≠ noDev ∧ s.unreachable s.pool.parent = true ∧ s.ancestor s.pool.number 6 ≠ noDev) ∧
    (∃ (s : State) (c : Nat), s.candidateNo = some c ∧ s.pool.root = noDev ∧ s.numbered = true ∧ (s.candidates.take c).all s.unreachable = true ∧ s.pool.lastTick + c * s.setting 0x2020 6 ≤ s.now) ∧
    (∃ (s : State) (op : Nat) (n : Nat) (k : Nat), s.pool.barrier = some (op, n, k) ∧ s.pool.isRoot = true ∧ s.pool.barrierAt + s.setting 0x2300 3 ≤ s.now) ∧
    (∃ (s : State) (u : State) (rq : Req), MayPut s rq 0x2002 7 1 1 ∧ s.numbered = false ∧ u = (s.touch rq).modPool (fun p => { p with joinState := 1 })) := by
  and_intros
  · exact ⟨({ dev with pool := { dev.pool with gather := 0 } }), ((mergeRanks (if (({ dev with pool := { dev.pool with gather := 0 } } : State)).pool.gather < 2 then [(({ dev with pool := { dev.pool with gather := 0 } } : State).rankAt (({ dev with pool := { dev.pool with gather := 0 } } : State)).pool.number, true)] else []) ((({ dev with pool := { dev.pool with gather := 0 } } : State)).pool.report ++ State.lostRanks ({ dev with pool := { dev.pool with gather := 0 } } : State)))), by decide +kernel, by decide +kernel, by decide +kernel, by decide +kernel, rfl, by decide +kernel, by decide +kernel⟩
  · exact ⟨({ rooted with pool := { rooted.pool with gather := 1 } }), by decide +kernel, by decide +kernel, by decide +kernel⟩
  · exact ⟨({ rooted with pool := { rooted.pool with gather := 1 } }), rq, by unfold MayPut MayWrite; decide +kernel, by decide +kernel, by decide +kernel⟩
  · exact ⟨owner, rq, by unfold MayPut MayWrite; decide +kernel, by decide +kernel⟩
  · exact ⟨rooted, ((rooted : State).modPool (fun p => { p with gathered := mergeRanks p.gathered (State.lostRanks (rooted : State)) })), by decide +kernel, by decide +kernel, by decide +kernel, rfl, by decide +kernel⟩
  · exact ⟨rooted, by decide +kernel, by decide +kernel⟩
  · exact ⟨({ dev with hinge := { dev.hinge with unreach := [(0, 2), (0, 3)] } }), by decide +kernel, by decide +kernel, by decide +kernel, by decide +kernel, by decide +kernel⟩
  · exact ⟨({ dev with pool := { dev.pool with entries := (List.range 20).map man, number := 18, parent := 1 }, hinge := { dev.hinge with unreach := [(1, 2), (1, 3)] } }), by decide +kernel, by decide +kernel, by decide +kernel, by decide +kernel, by decide +kernel⟩
  · exact ⟨({ dev with pool := { dev.pool with root := noDev }, hinge := { dev.hinge with unreach := [(0, 2), (0, 3), (1, 2), (1, 3)] } }), 2, by decide +kernel, by decide +kernel, by decide +kernel, by decide +kernel, by decide +kernel⟩
  · exact ⟨({ rooted with pool := { rooted.pool with barrier := some (6, 1, 0) } }), 6, 1, 0, by decide +kernel, by decide +kernel, by decide +kernel⟩
  · exact ⟨({ owner with pool := {} }), ((({ owner with pool := {} } : State).touch (rq : Req)).modPool (fun p => { p with joinState := 1 })), rq, by unfold MayPut MayWrite; decide +kernel, by decide +kernel, rfl⟩

/-- States and operands that meet the hypotheses of LatchOperationsAct, clause by clause. -/
theorem witness_latchOperationsAct :
    (∃ (s : State) (o : LatchOp) (m : Nat), s.opDue (fun a => match a with | .freeze _ => true | _ => false) = some o ∧ o.act = .freeze m) ∧
    (∃ (s : State) (o : LatchOp) (m : Nat), s.opDue (fun a => match a with | .release _ => true | _ => false) = some o ∧ o.act = .release m) ∧
    (∃ (s : State) (o : LatchOp), s.opDue isStateAction = some o) ∧
    (∃ (s : State) (u : State) (o : LatchOp) (cold : Bool) (c : Instr), (cold, c) ∈ [(false, Instr.poolResetWarm), (true, .poolResetCold)] ∧ s.opDue (fun a => match a with | .poolReset c => c == cold | _ => false) = some o ∧ u = s.opLate o) := by
  and_intros
  · exact ⟨({ dev with pool := { dev.pool with ops := [{ op := 3, act := .freeze 5, latch := 1000 }] } }), ({ op := 3, act := .freeze 5, latch := 1000 }), 5, by decide +kernel, by decide +kernel⟩
  · exact ⟨({ dev with pool := { dev.pool with ops := [{ op := 3, act := .release 5, latch := 1000 }] } }), ({ op := 3, act := .release 5, latch := 1000 }), 5, by decide +kernel, by decide +kernel⟩
  · exact ⟨({ dev with pool := { dev.pool with ops := [{ op := 3, act := .volDelete 1, latch := 1000 }] } }), ({ op := 3, act := .volDelete 1, latch := 1000 }), by decide +kernel⟩
  · exact ⟨({ dev with pool := { dev.pool with ops := [{ op := 3, act := .poolReset true, latch := 1000 }] } }), (({ dev with pool := { dev.pool with ops := [{ op := 3, act := .poolReset true, latch := 1000 }] } } : State).opLate ({ op := 3, act := .poolReset true, latch := 1000 } : LatchOp)), ({ op := 3, act := .poolReset true, latch := 1000 }), true, .poolResetCold, by decide +kernel, by decide +kernel, rfl⟩

/-- States and operands that meet the hypotheses of LatticeGrantsAndSwaps, clause by clause. -/
theorem witness_latticeGrantsAndSwaps :
    (∃ (s : State) (r : Nat), (s.arb r).lock = none) ∧
    (∃ (s : State) (r : Nat) (src : Nat) (left : Nat) (stop : Nat), (s.arb r).lock = some (src, left, stop) ∧ s.poolTime < stop) ∧
    (∃ (s : State) (r : Nat), (s.arb r).queue = []) ∧
    (∃ (s : State) (r : Nat) (owner : Nat) (q : LReq), (s.arb r).queue = [q] ∧ q.cls = owner ∧ q.lockLen = 0 ∧ s.keyOf r q ≠ ageCap) ∧
    (∃ (s : State) (r : Nat) (owner : Nat) (q : LReq), (s.arb r).queue = [q] ∧ q.cls ≠ owner) ∧
    (∃ (s : State) (r : Nat) (a : Arb), s.lattice.arbs = [(r, a)] ∧ a.pending.isSome = true ∧ a.swapAt ≤ s.poolTime ∧ s.lattice.pendSenior = none) ∧
    (∃ (s : State) (rq : Req) (r : Nat), MayPut s rq (0x3440 + r) 0x0F 1 1) := by
  and_intros
  · exact ⟨dev, 0, by decide +kernel⟩
  · exact ⟨({ dev with lattice := { arbs := [(0, { lock := some (3, 2, 20000000000000) })] } }), 0, 3, 2, 20000000000000, by decide +kernel, by decide +kernel⟩
  · exact ⟨dev, 0, by decide +kernel⟩
  · exact ⟨({ dev with lattice := { arbs := [(0, { queue := [{ src := 3, cls := 1, stamp := 10000000000000 }] })] } }), 0, 1, ({ src := 3, cls := 1, stamp := 10000000000000 }), by decide +kernel, by decide +kernel, by decide +kernel, by decide +kernel⟩
  · exact ⟨({ dev with lattice := { arbs := [(0, { queue := [{ src := 3, cls := 2, stamp := 10000000000000 }] })] } }), 0, 1, ({ src := 3, cls := 2, stamp := 10000000000000 }), by decide +kernel, by decide +kernel⟩
  · exact ⟨({ dev with lattice := { arbs := [(0, { pending := some [], swapAt := 5 })] } }), 0, ({ pending := some [], swapAt := 5 }), by decide +kernel, by decide +kernel, by decide +kernel, by decide +kernel⟩
  · exact ⟨owner, rq, 0, by unfold MayPut MayWrite; decide +kernel⟩

/-- States and operands that meet the hypotheses of ChannelsTrainRefreshAndRetry, clause by clause. -/
theorem witness_channelsTrainRefreshAndRetry :
    (∃ (s : State) (n : Nat), (s.chan n).state = 1) ∧
    (∃ (s : State) (n : Nat), (s.chan n).state = 1) ∧
    (∃ (s : State) (n : Nat), (s.chan n).state = 3) ∧
    (∃ (s : State) (n : Nat) (rank : Nat), s.refreshes n = true ∧ (s.rankOf n rank).state ≠ 0) ∧
    (∃ (s : State) (n : Nat) (rank : Nat), s.refreshes n = true ∧ (s.rankOf n rank).state ≠ 0 ∧ (s.rankOf n rank).owed + 1 < s.setting 0x3500 0x0D) ∧
    (∃ (s : State) (n : Nat) (rank : Nat), s.refreshes n = true ∧ (s.rankOf n rank).state ≠ 0) ∧
    (∃ (s : State) (n : Nat) (rank : Nat), s.refreshes n = true ∧ (s.rankOf n rank).state ≠ 0 ∧ (s.rankOf n rank).hotAt = none) ∧
    (∃ (s : State) (n : Nat), (s.chan n).state = 2 ∧ ((s.chan n).driftAt = 0 ∨ (s.chan n).driftAt + s.setting 0x3500 0x11 ≤ s.now)) ∧
    (∃ (s : State) (n : Nat), (s.chan n).state = 2 ∧ ((s.chan n).driftAt = 0 ∨ (s.chan n).driftAt + s.setting 0x3500 0x11 ≤ s.now)) ∧
    (∃ (s : State) (n : Nat), s.refreshes n = true) ∧
    (∃ (s : State) (n : Nat), (s.chan n).alert ≠ [] ∧ 0 < s.setting 0x3500 0x0E) ∧
    (∃ (s : State) (n : Nat), (s.chan n).state = 2 ∧ s.setting 0x3500 0x0F ≠ 0 ∧ (s.chan n).lastUse + s.setting 0x3500 0x0F ≤ s.now) := by
  and_intros
  · exact ⟨({ dev with dram := { pop := 1, chans := [(0, { state := 1 })] } }), 0, by decide +kernel⟩
  · exact ⟨({ dev with dram := { pop := 1, chans := [(0, { state := 1 })] } }), 0, by decide +kernel⟩
  · exact ⟨({ dev with dram := { pop := 1, chans := [(0, { state := 3 })] } }), 0, by decide +kernel⟩
  · exact ⟨dev, 0, 0, by decide +kernel, by decide +kernel⟩
  · exact ⟨dev, 0, 0, by decide +kernel, by decide +kernel, by decide +kernel⟩
  · exact ⟨dev, 0, 0, by decide +kernel, by decide +kernel⟩
  · exact ⟨dev, 0, 0, by decide +kernel, by decide +kernel, by decide +kernel⟩
  · exact ⟨dev, 0, by decide +kernel, by decide +kernel⟩
  · exact ⟨dev, 0, by decide +kernel, by decide +kernel⟩
  · exact ⟨dev, 0, by decide +kernel⟩
  · exact ⟨({ dev with dram := { pop := 1, chans := [(0, { state := 2, alert := [1] })] } }), 0, by decide +kernel, by decide +kernel⟩
  · exact ⟨({ dev with settings := [(okey 0x3500 0x0F, 1000)] }), 0, by decide +kernel, by decide +kernel, by decide +kernel⟩

/-- States and operands that meet the hypotheses of ChannelsByOperator, clause by clause. -/
theorem witness_channelsByOperator :
    (∃ (s : State) (u : State) (rq : Req) (n : Nat) (st : Nat), MayPut s rq (0x3510 + n) 8 1 1 ∧ ((s.touch rq).chan n).state = 2 ∧ (s.touch rq).askLeave n 1 = (u, st)) ∧
    (∃ (s : State) (u : State) (rq : Req) (n : Nat) (st : Nat), MayPut s rq (0x3510 + n) 7 1 1 ∧ ((s.touch rq).chan n).state = 2 ∧ (s.touch rq).askLeave n 2 = (u, st)) ∧
    (∃ (s : State), s.twin.state = 1 ∧ s.standbyInSync = true) ∧
    (∃ (s : State) (rq : Req) (n : Nat), MayPut s rq (0x3510 + n) 7 1 2 ∧ ((s.touch rq).chan n).state = 5) ∧
    (∃ (s : State) (rq : Req) (n : Nat), MayPut s rq (0x3510 + n) 7 1 2 ∧ ((s.touch rq).chan n).state = 2) ∧
    (∃ (s : State) (rq : Req) (n : Nat) (rank : Nat), MayPut s rq (0x3510 + n) 5 1 rank ∧ ((s.touch rq).rankOf n rank).state ≠ 0) ∧
    (∃ (s : State) (rq : Req) (n : Nat) (rank : Nat), MayPut s rq (0x3510 + n) 5 1 rank ∧ ((s.touch rq).rankOf n rank).state = 0) ∧
    (∃ (s : State) (rq : Req) (n : Nat), MayPut s rq 0x3500 0x17 1 n) ∧
    (∃ (s : State) (rq : Req) (addr : Nat), MayPut s rq 0x3500 0x15 8 addr ∧ (s.touch rq).dram.frozen ≠ 0xFF ∧ slotChan (addr / extentBytes) = (s.touch rq).dram.frozen ∧ addr < (s.touch rq).ownExtents * extentBytes) ∧
    (∃ (s : State), s.dram.reading.isSome = true) := by
  and_intros
  · exact ⟨owner, (((owner : State).touch rq).askLeave 0 1 |>.1), rq, 0, (((owner : State).touch rq).askLeave 0 1 |>.2), by unfold MayPut MayWrite; decide +kernel, by decide +kernel, rfl⟩
  · exact ⟨owner, (((owner : State).touch rq).askLeave 0 2 |>.1), rq, 0, (((owner : State).touch rq).askLeave 0 2 |>.2), by unfold MayPut MayWrite; decide +kernel, by decide +kernel, rfl⟩
  · exact ⟨({ dev with twin := { dev.twin with peer := some { state := 4, hearing := true, fenced := false, withdrawn := false, inSync := true, handover := false, seq := 1, echo := 0, claim := 1, horizon := 0, assigned := 0 } } }), by decide +kernel, by decide +kernel⟩
  · exact ⟨({ owner with dram := { pop := 1, chans := [(0, { state := 5 })] } }), rq, 0, by unfold MayPut MayWrite; decide +kernel, by decide +kernel⟩
  · exact ⟨owner, rq, 0, by unfold MayPut MayWrite; decide +kernel, by decide +kernel⟩
  · exact ⟨owner, rq, 0, 0, by unfold MayPut MayWrite; decide +kernel, by decide +kernel⟩
  · exact ⟨owner, rq, 0, 1, by unfold MayPut MayWrite; decide +kernel, by decide +kernel⟩
  · exact ⟨owner, rq, 0, by unfold MayPut MayWrite; decide +kernel⟩
  · exact ⟨({ owner with dram := { owner.dram with frozen := 0 } }), rq, 4096, by unfold MayPut MayWrite; decide +kernel, by decide +kernel, by decide +kernel, by decide +kernel⟩
  · exact ⟨({ dev with dram := { dev.dram with reading := some 5 } }), by decide +kernel⟩

end Sys2Proof.Tests
end

