-- ==== Sys2Proof/Tests/WitnessHost.lean ====
section
/-! SUPPORT. The hypotheses of the statements about host ports and rings are met: one theorem a statement, with a state and operands for
each of its clauses. -/

set_option Elab.async false

namespace Sys2Proof.Tests
open Sys2Proof.Machine Sys2Proof.Claims

/-- States and operands that meet the hypotheses of HostAccesses, clause by clause. -/
theorem witness_hostAccesses :
    (∃ (s : State) (p : Nat) (host : Nat) (hpa : Nat) (dpa : Nat) (k : Nat), s.hostOpen p = true ∧ s.claimed p host (hpa / 64 * 64) = some dpa ∧ s.sessAt p host dpa = some k ∧ s.sessGrants k false = true) ∧
    (∃ (s : State) (p : Nat) (host : Nat) (hpa : Nat), s.hostOpen p = true ∧ s.claimed p host (hpa / 64 * 64) = none) ∧
    (∃ (s : State) (p : Nat) (host : Nat) (hpa : Nat), (s.hostPort p).link = 2 ∧ s.claimed p host (hpa / 64 * 64) = none) ∧
    (∃ (s : State) (p : Nat) (host : Nat) (hpa : Nat) (dpa : Nat), s.hostOpen p = true ∧ s.claimed p host (hpa / 64 * 64) = some dpa ∧ s.sessAt p host dpa = none) ∧
    (∃ (s : State) (p : Nat) (host : Nat) (hpa : Nat) (dpa : Nat), (s.hostPort p).link = 2 ∧ s.claimed p host (hpa / 64 * 64) = some dpa) ∧
    (∃ (s : State) (p : Nat) (host : Nat) (hpa : Nat) (be : BitVec 64) (dpa : Nat), (s.hostPort p).link = 2 ∧ be ≠ BitVec.allOnes 64 ∧ s.claimed p host (hpa / 64 * 64) = some dpa) ∧
    (∃ (s : State) (p : Nat) (e : EReq), s.host.held.find? (fun e => e.port == p) = some e ∧ s.withheld p e.host e.off = false ∧ s.now - e.since ≤ s.setting 0x3000 4) ∧
    (∃ (s : State) (p : Nat) (e : EReq), e ∈ s.host.held ∧ e.port = p ∧ s.setting 0x3000 4 < s.now - e.since) ∧
    (∃ (s : State) (num : Nat) (e : EReq), s.reqOf num = some e ∧ e.lookup = true ∧ e.since + s.setting 0x3000 5 ≤ s.now ∧ e.outcome = none ∧ e.work = none ∧ e.mailbox = none ∧ e.write = true ∧ e.port < noPort) ∧
    (∃ (s : State) (p : Nat), (s.hostPort p).link = 2) ∧
    (∃ (s : State) (p : Nat), (s.hostPort p).link = 2) ∧
    (∃ (s : State) (p : Nat) (g : Gpf), s.host.gpf.find? (fun g => g.port == p) = some g ∧ g.nums = []) := by
  and_intros
  · exact ⟨hosted, 0, 0, 64, 64, 0, by decide +kernel, by decide +kernel, by decide +kernel, by decide +kernel⟩
  · exact ⟨hosted, 0, 0, (2 ^ 40), by decide +kernel, by decide +kernel⟩
  · exact ⟨hosted, 0, 0, (2 ^ 40), by decide +kernel, by decide +kernel⟩
  · exact ⟨hosted, 0, 0, (2 ^ 30), (2 ^ 30), by decide +kernel, by decide +kernel, by decide +kernel⟩
  · exact ⟨hosted, 0, 0, 64, 64, by decide +kernel, by decide +kernel⟩
  · exact ⟨hosted, 0, 0, 64, 1, 64, by decide +kernel, by decide +kernel, by decide +kernel⟩
  · exact ⟨({ hosted with host := { hosted.host with held := [{ num := 0, write := true, port := 0, host := 0, tag := 1, sess := 0, key := 0, off := 64, since := hosted.now }] } }), 0, ({ num := 0, write := true, port := 0, host := 0, tag := 1, sess := 0, key := 0, off := 64, since := hosted.now }), by decide +kernel, by decide +kernel, by decide +kernel⟩
  · exact ⟨({ hosted with host := { hosted.host with held := [{ num := 0, write := true, port := 0, host := 0, tag := 1, sess := 0, key := 0, off := 64 }] } }), 0, ({ num := 0, write := true, port := 0, host := 0, tag := 1, sess := 0, key := 0, off := 64 }), by decide +kernel, by decide +kernel, by decide +kernel⟩
  · exact ⟨({ hosted with host := { hosted.host with reqs := [{ num := 0, write := true, port := 0, host := 0, tag := 1, sess := 0, key := 0, off := 64, lookup := true }] } }), 0, ({ num := 0, write := true, port := 0, host := 0, tag := 1, sess := 0, key := 0, off := 64, lookup := true }), by decide +kernel, by decide +kernel, by decide +kernel, by decide +kernel, by decide +kernel, by decide +kernel, by decide +kernel, by decide +kernel⟩
  · exact ⟨dev, 0, by decide +kernel⟩
  · exact ⟨dev, 0, by decide +kernel⟩
  · exact ⟨({ dev with host := { dev.host with gpf := [{ port := 0, nums := [] }] } }), 0, ({ port := 0, nums := [] }), by decide +kernel, by decide +kernel⟩

/-- States and operands that meet the hypotheses of HostPorts, clause by clause. -/
theorem witness_hostPorts :
    (∃ (s : State) (p : Nat) (speed : Nat) (width : Nat), s.portExists p = true ∧ (s.hostPort p).link = 0 ∧ s.power.state = 2 ∧ s.power.inReset = false ∧ min speed (s.setting (0x3010 + p) 3) = 64 ∧ width = s.portLanes) ∧
    (∃ (s : State) (p : Nat) (width : Nat), s.portExists p = true ∧ (s.hostPort p).link = 0 ∧ s.power.state = 2 ∧ s.power.inReset = false ∧ 2 * width < s.portLanes) ∧
    (∃ (s : State) (p : Nat), (s.hostPort p).link = 2) ∧
    (∃ (s : State) (rq : Req) (p : Nat), MayPut s rq (0x3010 + p) 7 1 1 ∧ s.portExists p = true ∧ (s.hostPort p).link ≠ 4) ∧
    (∃ (s : State) (rq : Req) (p : Nat), MayPut s rq (0x3010 + p) 6 1 0 ∧ s.portExists p = true ∧ (s.touch rq).portSessions p = [] ∧ (s.hostPort p).link = 0) ∧
    (∃ (s : State) (rq : Req) (p : Nat), MayPut s rq (0x3010 + p) 6 1 1 ∧ s.portExists p = true ∧ (s.touch rq).portSessions p = [] ∧ (s.hostPort p).link = 4) ∧
    (∃ (s : State) (p : Nat), s.portExists p = true ∧ s.power.state = 2 ∧ (s.hostPort p).link = 2) ∧
    (∃ (size : Nat) (ways : Nat) (gran : Nat), ways ∈ [1, 2, 4, 8, 16] ∧ gran ∈ [256, 512, 1024, 2048, 4096, 8192, 16384] ∧ 0 < size) := by
  and_intros
  · exact ⟨({ dev with power := { dev.power with inReset := false } }), 2, 64, 8, by decide +kernel, by decide +kernel, by decide +kernel, by decide +kernel, by decide +kernel, by decide +kernel⟩
  · exact ⟨dev, 2, 3, by decide +kernel, by decide +kernel, by decide +kernel, by decide +kernel, by decide +kernel⟩
  · exact ⟨dev, 0, by decide +kernel⟩
  · exact ⟨dev, rq, 0, by unfold MayPut MayWrite; decide +kernel, by decide +kernel, by decide +kernel⟩
  · exact ⟨dev, rq, 2, by unfold MayPut MayWrite; decide +kernel, by decide +kernel, by decide +kernel, by decide +kernel⟩
  · exact ⟨({ dev with host := { ports := [(2, { link := 4 })] } }), rq, 2, by unfold MayPut MayWrite; decide +kernel, by decide +kernel, by decide +kernel, by decide +kernel⟩
  · exact ⟨dev, 0, by decide +kernel, by decide +kernel, by decide +kernel⟩
  · exact ⟨(2 ^ 40), 16, 256, by decide +kernel, by decide +kernel, by decide +kernel⟩

/-- States and operands that meet the hypotheses of SessionsAndCapacity, clause by clause. -/
theorem witness_sessionsAndCapacity :
    (∃ (s : State) (n : Nat), (s.sess n).state = 3 ∧ s.sessWrites n = false ∧ (s.sess n).rebind = false ∧ (s.sess n).waiter = []) ∧
    (∃ (s : State) (n : Nat), (s.sess n).state = 2 ∧ (s.sess n).offerAt ≤ s.now) ∧
    (∃ (s : State) (n : Nat) (len : Nat), (s.sess n).release = some len ∧ s.writesBeyond n len = false) ∧
    (∃ (s : State) (p : Nat) (ld : Nat) (n : Nat), s.ldThere p ld = true ∧ (s.dcSessions p ld).filter (fun n => (s.sess n).state == 2) = [n]) ∧
    (∃ (s : State) (p : Nat) (ld : Nat) (n : Nat) (start : Nat) (len : Nat), s.ldThere p ld = true ∧ s.dcSessions p ld = [n] ∧ (s.sess n).state = 1 ∧ (s.sess n).release = none ∧ s.setting (0x4000 + n) 5 ≤ start ∧ 0 < len ∧ len % extentBytes = 0 ∧ start + len = s.setting (0x4000 + n) 5 + (s.sess n).acc) := by
  and_intros
  · exact ⟨({ dev with host := { sess := [(0, { state := 3 })] } }), 0, by decide +kernel, by decide +kernel, by decide +kernel, by decide +kernel⟩
  · exact ⟨({ dev with host := { sess := [(0, { state := 2 })] } }), 0, by decide +kernel, by decide +kernel⟩
  · exact ⟨({ dev with host := { sess := [(0, { state := 1, release := some 0 })] } }), 0, 0, by decide +kernel, by decide +kernel⟩
  · exact ⟨({ hosted with settings := [(okey 0x4000 9, 2), (okey 0x4000 14, 0)], host := { hosted.host with sess := [(0, { state := 2 })] } }), 0, 0, 0, by decide +kernel, by decide +kernel⟩
  · exact ⟨({ hosted with settings := [(okey 0x4000 9, 2), (okey 0x4000 14, 0)] }), 0, 0, 0, (2 ^ 30 - 2 ^ 21), (2 ^ 21), by decide +kernel, by decide +kernel, by decide +kernel, by decide +kernel, by decide +kernel, by decide +kernel, by decide +kernel, by decide +kernel⟩

/-- A state and operands that meet the hypotheses of MailboxReadsAnswer. -/
theorem witness_mailboxReadsAnswer :
    (∃ (s : State) (p : Nat) (ld : Nat), s.ldThere p ld = true) :=
  ⟨dev, 0, 0, by decide +kernel⟩

/-- States and operands that meet the hypotheses of MailboxSetsAndFmApi, clause by clause. -/
theorem witness_mailboxSetsAndFmApi :
    (∃ (s : State) (p : Nat) (ld : Nat), s.ldThere p ld = true) ∧
    (∃ (s : State) (p : Nat), (s.hostPort p).link = 2) := by
  and_intros
  · exact ⟨dev, 0, 0, by decide +kernel⟩
  · exact ⟨dev, 0, by decide +kernel⟩

/-- States and operands that meet the hypotheses of PoisonByCommand, clause by clause. -/
theorem witness_poisonByCommand :
    (∃ (s : State) (p : Nat) (ld : Nat), s.ldThere p ld = true) ∧
    (∃ (s : State) (p : Nat) (ld : Nat) (dpa : Nat) (n : Nat), s.flag 0x3000 6 = true ∧ s.ldThere p ld = true ∧ s.sessAt p ld (dpa / 64 * 64) = some n ∧ s.sessGrants n true = true) ∧
    (∃ (s : State) (p : Nat) (ld : Nat) (dpa : Nat) (n : Nat), s.ldThere p ld = true ∧ s.sessAt p ld (dpa / 64 * 64) = some n ∧ s.sessGrants n true = true) ∧
    (∃ (s : State) (p : Nat) (ld : Nat) (dpa : Nat) (n : Nat), s.ldThere p ld = true ∧ s.sessAt p ld (dpa / 64 * 64) = some n ∧ (s.sess n).state = 3 ∧ 2 ≤ s.setting (0x4000 + n) 9) ∧
    (∃ (s : State) (num : Nat) (p : Nat) (ld : Nat) (opcode : Nat) (e : EReq), s.reqOf num = some e ∧ e.mailbox = some (p, ld, opcode) ∧ e.outcome = some 1) ∧
    (∃ (s : State) (num : Nat) (p : Nat) (ld : Nat) (opcode : Nat) (e : EReq), s.reqOf num = some e ∧ e.mailbox = some (p, ld, opcode) ∧ e.outcome = some 0) := by
  and_intros
  · exact ⟨dev, 0, 0, by decide +kernel⟩
  · exact ⟨({ hosted with settings := [(okey 0x3000 6, 1), (okey 0x4000 9, 2)] }), 0, 0, 64, 0, by decide +kernel, by decide +kernel, by decide +kernel, by decide +kernel⟩
  · exact ⟨hosted, 0, 0, 64, 0, by decide +kernel, by decide +kernel, by decide +kernel⟩
  · exact ⟨({ hosted with host := { hosted.host with sess := [(0, { state := 3, acc := 2 ^ 30 })] } }), 0, 0, 64, 0, by decide +kernel, by decide +kernel, by decide +kernel, by decide +kernel⟩
  · exact ⟨({ hosted with host := { hosted.host with reqs := [{ num := 0, write := true, port := 0, host := 0, tag := 1, sess := 0, key := 0, off := 64, mailbox := some (0, 0, 0x4302), outcome := some 1 }] } }), 0, 0, 0, 0x4302, ({ num := 0, write := true, port := 0, host := 0, tag := 1, sess := 0, key := 0, off := 64, mailbox := some (0, 0, 0x4302), outcome := some 1 }), by decide +kernel, by decide +kernel, by decide +kernel⟩
  · exact ⟨({ hosted with host := { hosted.host with reqs := [{ num := 0, write := true, port := 0, host := 0, tag := 1, sess := 0, key := 0, off := 64, mailbox := some (0, 0, 0x4302), outcome := some 0 }] } }), 0, 0, 0, 0x4302, ({ num := 0, write := true, port := 0, host := 0, tag := 1, sess := 0, key := 0, off := 64, mailbox := some (0, 0, 0x4302), outcome := some 0 }), by decide +kernel, by decide +kernel, by decide +kernel⟩

/-- States and operands that meet the hypotheses of RingDoorbellsAndFetch, clause by clause. -/
theorem witness_ringDoorbellsAndFetch :
    (∃ (s : State) (p : Nat) (ld : Nat) (n : Nat) (tail : Nat), s.ringOfLd p ld n = true ∧ (tail + 2 ^ 32 - (s.ring n).head) % 2 ^ 32 ≤ (s.ring n).dents) ∧
    (∃ (s : State) (p : Nat) (ld : Nat) (n : Nat) (tail : Nat), s.ringOfLd p ld n = true ∧ (s.ring n).dents < (tail + 2 ^ 32 - (s.ring n).head) % 2 ^ 32) ∧
    (∃ (s : State) (p : Nat) (ld : Nat) (n : Nat), s.ringOfLd p ld n = false) ∧
    (∃ (s : State) (p : Nat) (ld : Nat) (n : Nat), s.ringOfLd p ld n = true ∧ ((s.ring n).tail + 2 ^ 32 - (s.ring n).head) % 2 ^ 32 ≤ (s.ring n).dents) ∧
    (∃ (s : State) (p : Nat) (ld : Nat) (n : Nat), s.ringOfLd p ld n = true ∧ (s.ring n).state = 2) ∧
    (∃ (s : State) (pbr : Nat) (hpa : Nat) (n : Nat) (r : Ring), s.rings.rings.find? (fun e => e.2.mem != 0xFFFF && e.2.host == pbr && e.2.bell == hpa) = some (n, r)) ∧
    (∃ (s : State) (rq : Req) (block : Bytes), MayWrite s rq 0x3110 1 block ∧ (s.touch rq).blockBad block ((s.touch rq).blockRing rq block) = false ∧ ((s.touch rq).ring (field block 0 2)).state = 0 ∧ ((s.touch rq).level rq ≠ 0 ∨ (s.host.mode ≠ 1 ∧ reqLd rq ≠ none))) ∧
    (∃ (s : State) (rq : Req) (n : Nat), MayPut s rq 0x3110 2 2 n ∧ (s.touch rq).reachesRing rq n = true) ∧
    (∃ (s : State) (rq : Req) (n : Nat), MayPut s rq 0x3110 3 2 n ∧ (s.touch rq).reachesRing rq n = true) ∧
    (∃ (s : State) (n : Nat) (bytes : Bytes), (s.ring n).state = 1 ∧ (s.ring n).mem = 0xFFFF ∧ (s.ring n).fetching = true ∧ crc32cOf (bytes.take 60) = field bytes 60 4) ∧
    (∃ (s : State) (n : Nat) (bytes : Bytes) (poisoned : Bool), (s.ring n).state = 1 ∧ (s.ring n).mem = 0xFFFF ∧ (s.ring n).fetching = true ∧ (poisoned = true ∨ crc32cOf (bytes.take 60) ≠ field bytes 60 4)) := by
  and_intros
  · exact ⟨(ringed []), 0, 0, 0, 17, by decide +kernel, by decide +kernel⟩
  · exact ⟨(ringed []), 0, 0, 0, 18, by decide +kernel, by decide +kernel⟩
  · exact ⟨dev, 0, 0, 0, by decide +kernel⟩
  · exact ⟨(ringed []), 0, 0, 0, by decide +kernel, by decide +kernel⟩
  · exact ⟨({ dev with rings := { rings := [(0, { state := 2 })] } }), 0, 0, 0, by decide +kernel, by decide +kernel⟩
  · exact ⟨({ dev with host := { mode := 1 }, rings := { rings := [(0, { state := 1, host := 7, mem := 0, bell := 4096 })] } }), 7, 4096, 0, ({ state := 1, host := 7, mem := 0, bell := 4096 }), by decide +kernel⟩
  · exact ⟨dev, rq, (leBytes 2 0 ++ leBytes 2 2 ++ leBytes 2 1 ++ leBytes 2 1 ++ leBytes 8 4096 ++ leBytes 8 8192 ++ leBytes 4 16 ++ leBytes 4 16 ++ leBytes 4 0 ++ leBytes 2 0xFFFF ++ leBytes 2 0 ++ leBytes 8 0 ++ leBytes 16 0), by unfold MayWrite; decide +kernel, by decide +kernel, by decide +kernel, by decide +kernel⟩
  · exact ⟨(ringed []), rq, 0, by unfold MayPut MayWrite; decide +kernel, by decide +kernel⟩
  · exact ⟨(ringed []), rq, 0, by unfold MayPut MayWrite; decide +kernel, by decide +kernel⟩
  · exact ⟨({ dev with rings := { rings := [(0, { state := 1, fetching := true })] } }), 0, (desc 14 0xFFFF 0xFFFF 0 0 0 0 []), by decide +kernel, by decide +kernel, by decide +kernel, by decide +kernel⟩
  · exact ⟨({ dev with rings := { rings := [(0, { state := 1, fetching := true })] } }), 0, ([]), true, by decide +kernel, by decide +kernel, by decide +kernel, by decide +kernel⟩

/-- States and operands that meet the hypotheses of OpcodesStart, clause by clause. -/
theorem witness_opcodesStart :
    (∃ (s : State) (n : Nat) (op : Nat) (d : Desc) (rest : List Desc) (c : Instr), (op, c) ∈ [(1, Instr.copy n), (2, .fill n), (3, .importRange n), (4, .exportRange n), (5, .persist n), (6, .place n), (8, .compare n), (9, .crc32c n)] ∧ TurnOf s n op d rest) ∧
    (∃ (s : State) (n : Nat) (d : Desc) (rest : List Desc), TurnOf s n 7 d rest) ∧
    (∃ (s : State) (n : Nat) (op : Nat) (d : Desc) (rest : List Desc) (c : Instr) (k : Nat), (op, c) ∈ [(10, Instr.encrypt n), (11, .decrypt n)] ∧ TurnOf s n op d rest ∧ s.keyFails d.bytes = St.ok ∧ s.cipherQueue = [] ∧ s.holdUsed + dHold d.bytes ≤ 33554432 ∧ s.freeCtx .ring = some k ∧ s.cipher.waiting.find? (fun w => w.1 == n && w.2.1 == d.idx) = none) ∧
    (∃ (s : State) (n : Nat) (d : Desc) (rest : List Desc), TurnOf s n 12 d rest) ∧
    (∃ (s : State) (n : Nat) (d : Desc) (rest : List Desc), TurnOf s n 13 d rest) ∧
    (∃ (s : State) (n : Nat) (d : Desc) (rest : List Desc), TurnOf s n 14 d rest) := by
  and_intros
  · exact ⟨(ringed (desc 1 0 0 0 0 4096 64 [])), 0, 1, (front (desc 1 0 0 0 0 4096 64 [])), ([]), (.copy 0), by decide +kernel, by unfold TurnOf; decide +kernel⟩
  · exact ⟨(ringed (desc 7 0 0xFFFF 1 0 0 0 [])), 0, (front (desc 7 0 0xFFFF 1 0 0 0 [])), ([]), by unfold TurnOf; decide +kernel⟩
  · exact ⟨(ringed (desc 10 0 0 3 0 0 16 [1, 0, 1, 0])), 0, 10, (front (desc 10 0 0 3 0 0 16 [1, 0, 1, 0])), ([]), (.encrypt 0), (((ringed (desc 10 0 0 3 0 0 16 [1, 0, 1, 0]) : State).freeCtx .ring).getD 0), by decide +kernel, by unfold TurnOf; decide +kernel, by decide +kernel, by decide +kernel, by decide +kernel, by decide +kernel, by decide +kernel⟩
  · exact ⟨(ringed (desc 12 0 0xFFFF 0 0 0 0 [])), 0, (front (desc 12 0 0xFFFF 0 0 0 0 [])), ([]), by unfold TurnOf; decide +kernel⟩
  · exact ⟨(ringed (desc 13 0xFFFF 0xFFFF 0 0 0 0 [])), 0, (front (desc 13 0xFFFF 0xFFFF 0 0 0 0 [])), ([]), by unfold TurnOf; decide +kernel⟩
  · exact ⟨(ringed (desc 14 0xFFFF 0xFFFF 0 0 0 0 [])), 0, (front (desc 14 0xFFFF 0xFFFF 0 0 0 0 [])), ([]), by unfold TurnOf; decide +kernel⟩

/-- States and operands that meet the hypotheses of RingProgress, clause by clause. -/
theorem witness_ringProgress :
    (∃ (s : State) (n : Nat) (idx : Nat) (off : Nat) (i : Nat) (f : Flight) (w : Work), s.advanceWorks.flight n idx = some f ∧ f.work = some i ∧ s.advanceWorks.workOf i = some w ∧ w.state = 5 ∧ w.kind = 0 ∧ w.off = off) ∧
    (∃ (s : State) (n : Nat), (s.ring n).state ≠ 0 ∧ 0 < (s.ring n).modT ∧ 0 < (s.ring n).unsig ∧ (s.ring n).unsigAt + (s.ring n).modT ≤ s.now) ∧
    (∃ (s : State) (n : Nat) (idx : Nat) (off : Nat) (l : List HReq), l = s.persist.waitAdmit.filter (fun h => h.write && s.lineOf n idx off h) ∧ (∃ h ∈ l, h.since + h.limit ≤ s.now)) ∧
    (∃ (s : State) (n : Nat) (idx : Nat) (off : Nat) (i : Nat) (bytes : Bytes) (f : Flight) (w : Work), s.flight n idx = some f ∧ f.waitBus = false ∧ f.work = some i ∧ s.workOf i = some w ∧ dOp f.bytes = 3 ∧ w.state = 2 ∧ off = w.off + w.bytes.length ∧ w.bytes.length + bytes.length = w.len) ∧
    (∃ (s : State) (n : Nat) (idx : Nat) (f : Flight), s.flight n idx = some f ∧ f.waitBus = true) ∧
    (∃ (s : State) (n : Nat) (idx : Nat) (status : Nat) (f : Flight), s.flight n idx = some f ∧ f.waitBus = true ∧ status ≠ 0) ∧
    (∃ (s : State) (n : Nat) (idx : Nat), s.busFlight n idx = none ∧ (s.ring n).fetching = true) ∧
    (∃ (s : State) (n : Nat) (idx : Nat) (status : Nat), s.busFlight n idx = none ∧ (s.ring n).fetching = true ∧ status ≠ 0) := by
  and_intros
  · exact ⟨({ dev with rings := { rings := [(0, { state := 1, flight := [{ idx := 0, bytes := [], work := some 0 }] })], works := [{ id := 0, desc := [], off := 0, len := 64, state := 5 }] } }), 0, 0, 0, 0, ({ idx := 0, bytes := [], work := some 0 }), ({ id := 0, desc := [], off := 0, len := 64, state := 5 }), by decide +kernel, by decide +kernel, by decide +kernel, by decide +kernel, by decide +kernel, by decide +kernel⟩
  · exact ⟨({ dev with rings := { rings := [(0, { state := 1, modT := 1000, unsig := 1 })] } }), 0, by decide +kernel, by decide +kernel, by decide +kernel, by decide +kernel⟩
  · exact ⟨({ dev with persist := { dev.persist with waitAdmit := [{ write := true, origin := .ring 0, vault := 1, key := 5, slot := 3, off := 0, piece := some (0, 0) }] } }), 0, 0, 0, ((({ dev with persist := { dev.persist with waitAdmit := [{ write := true, origin := .ring 0, vault := 1, key := 5, slot := 3, off := 0, piece := some (0, 0) }] } } : State).persist.waitAdmit.filter (fun h => h.write && ({ dev with persist := { dev.persist with waitAdmit := [{ write := true, origin := .ring 0, vault := 1, key := 5, slot := 3, off := 0, piece := some (0, 0) }] } } : State).lineOf 0 0 0 h))), by decide +kernel, by decide +kernel⟩
  · exact ⟨({ dev with rings := { rings := [(0, { state := 1, flight := [{ idx := 0, bytes := desc 3 0 0xFFFF 0 0 0 64 [], work := some 0 }] })], works := [{ id := 0, desc := [], off := 0, len := 1, state := 2 }] } }), 0, 0, 0, 0, ([7]), ({ idx := 0, bytes := desc 3 0 0xFFFF 0 0 0 64 [], work := some 0 }), ({ id := 0, desc := [], off := 0, len := 1, state := 2 }), by decide +kernel, by decide +kernel, by decide +kernel, by decide +kernel, by decide +kernel, by decide +kernel, by decide +kernel, by decide +kernel⟩
  · exact ⟨({ dev with rings := { rings := [(0, { state := 1, flight := [{ idx := 0, bytes := [], waitBus := true }] })] } }), 0, 0, ({ idx := 0, bytes := [], waitBus := true }), by decide +kernel, by decide +kernel⟩
  · exact ⟨({ dev with rings := { rings := [(0, { state := 1, flight := [{ idx := 0, bytes := [], waitBus := true }] })] } }), 0, 0, 1, ({ idx := 0, bytes := [], waitBus := true }), by decide +kernel, by decide +kernel, by decide +kernel⟩
  · exact ⟨({ dev with rings := { rings := [(0, { state := 1, fetching := true })] } }), 0, 0, by decide +kernel, by decide +kernel⟩
  · exact ⟨({ dev with rings := { rings := [(0, { state := 1, fetching := true })] } }), 0, 0, 1, by decide +kernel, by decide +kernel, by decide +kernel⟩

/-- A descriptor whose turn has come, for each of the fourteen opcodes (OpcodesStart). -/
theorem witness_everyOpcode : ∀ x ∈ [
    (1, desc 1 0 0 0 0 4096 64 []),
    (2, desc 2 0 0xFFFF 0 0 0 64 []),
    (3, desc 3 0 0xFFFF 0 0 0 64 []),
    (4, desc 4 0xFFFF 0 0 0 0 64 []),
    (5, desc 5 0 0xFFFF 0 0 0 64 []),
    (6, desc 6 0 0xFFFF 0 0 0 (2 ^ 21) []),
    (7, desc 7 0 0xFFFF 1 0 0 0 []),
    (8, desc 8 0 0 0 0 4096 64 []),
    (9, desc 9 0 0xFFFF 0 0 0 64 []),
    (10, desc 10 0 0 3 0 0 16 [1, 0, 1, 0]),
    (11, desc 11 0 0 3 0 0 16 [1, 0, 1, 0]),
    (12, desc 12 0 0xFFFF 0 0 0 0 []),
    (13, desc 13 0xFFFF 0xFFFF 0 0 0 0 []),
    (14, desc 14 0xFFFF 0xFFFF 0 0 0 0 [])], TurnOf (ringed x.2) 0 x.1 (front x.2) [] := by
  unfold TurnOf
  decide +kernel

end Sys2Proof.Tests
end

