-- ==== Sys2Proof/Tests/WitnessMachine.lean ====
section
/-! SUPPORT. The hypotheses of the statements about the machine as a whole are met: one theorem a statement, with a state and operands for
each of its clauses. -/

set_option Elab.async false

namespace Sys2Proof.Tests
open Sys2Proof.Machine Sys2Proof.Claims

/-- A state and operands that meet the hypotheses of IdleStepPassesOneNanosecond. -/
theorem witness_idleStepPassesOneNanosecond :
    (∃ (s : State), s.pending = []) :=
  ⟨dev, by decide +kernel⟩

/-- A state and operands that meet the hypotheses of EveryStepUsesUpOneCommand. -/
theorem witness_everyStepUsesUpOneCommand :
    (∃ (s : State) (t : State), step s = .next t) :=
  ⟨dev, (after (step (dev : State))), after_of (by decide +kernel)⟩

/-- A state and operands that meet the hypotheses of ResetHoldsSpecValues. -/
theorem witness_resetHoldsSpecValues :
    (∃ (idx : Nat), ¬(0x2210 ≤ idx ∧ idx ≤ 0x2213) ∧ ¬(0x3410 ≤ idx ∧ idx ≤ 0x3429)) :=
  ⟨0x1010, by decide +kernel, by decide +kernel⟩

/-- A state and operands that meet the hypotheses of EveryStepKeepsMemoryCanonical. -/
theorem witness_everyStepKeepsMemoryCanonical :
    (∃ (s : State) (t : State), Memory.wf s.mem = true ∧ step s = .next t) :=
  ⟨({ dev with pending := [.gpfPhase1 0] }), (after (step ({ dev with pending := [.gpfPhase1 0] } : State))), by decide +kernel, after_of (by decide +kernel)⟩

/-- States and operands that meet the hypotheses of EveryCommandKeepsToItsParts, clause by clause. -/
theorem witness_everyCommandKeepsToItsParts :
    (∃ (c : Instr) (s : State) (t : State), exec c s = .next t) ∧
    (∃ (c : Instr), carriesLines c = false) ∧
    (∃ (c : Instr), carriesLines c = true) := by
  and_intros
  · exact ⟨(.gpfPhase1 0), dev, (after (exec (.gpfPhase1 0) dev)), after_of (by decide +kernel)⟩
  · exact ⟨(.gpfPhase1 0), by decide +kernel⟩
  · exact ⟨(.mirror fromTwin 0 []), by decide +kernel⟩

/-- States and operands that meet the hypotheses of LinesReadBack, clause by clause. -/
theorem witness_linesReadBack :
    (∃ (s : State), Memory.wf s.mem = true) ∧
    (∃ (ln : Nat) (m : Nat), m ≠ ln) ∧
    (∃ (slot : Nat) (ln : Nat), lineSlot ln = slot) ∧
    (∃ (slot : Nat) (ln : Nat), lineSlot ln ≠ slot) ∧
    (∃ (s : State) (src : Nat) (dst : Nat) (i : Nat), Memory.wf s.mem = true ∧ src ≠ dst ∧ i < 32768) ∧
    (∃ (s : State) (dst : Nat) (ln : Nat), Memory.wf s.mem = true ∧ lineSlot ln ≠ dst) := by
  and_intros
  · exact ⟨dev, by decide +kernel⟩
  · exact ⟨1, 2, by decide +kernel⟩
  · exact ⟨1, 65535, by decide +kernel⟩
  · exact ⟨1, 65536, by decide +kernel⟩
  · exact ⟨dev, 1, 2, 32767, by decide +kernel, by decide +kernel, by decide +kernel⟩
  · exact ⟨dev, 2, 98304, by decide +kernel, by decide +kernel⟩

/-- States and operands that meet the hypotheses of LineWritesMerge, clause by clause. -/
theorem witness_lineWritesMerge :
    (∃ (s : State) (i : Nat), Memory.wf s.mem = true ∧ i < 64) ∧
    (∃ (s : State), Memory.wf s.mem = true) ∧
    (∃ (s : State) (t : State) (slot : Nat) (key : Nat) (off : Nat) (v : Line) (w : Line) (be : BitVec 64) (ce : BitVec 64) (tag : Option (Nat × Nat)) (tag' : Option (Nat × Nat)) (write : Nat) (write' : Nat) (cause : Nat) (cause' : Nat) (i : Nat), Memory.wf s.mem = true ∧ be &&& ce = 0 ∧ i < 64 ∧ be.getLsbD i = true ∧ t = (s.applyLine slot key off v be false tag none write cause).applyLine slot key off w ce false tag' none write' cause') := by
  and_intros
  · exact ⟨dev, 63, by decide +kernel, by decide +kernel⟩
  · exact ⟨dev, by decide +kernel⟩
  · exact ⟨dev, (((dev : State).applyLine 1 2 64 7 1 false none none 0 2).applyLine 1 2 64 8 2 false none none 0 2), 1, 2, 64, 7, 8, 1, 2, none, none, 0, 0, 2, 2, 0, by decide +kernel, by decide +kernel, by decide +kernel, by decide +kernel, rfl⟩

/-- States and operands that meet the hypotheses of StoresKeepOtherBytes, clause by clause. -/
theorem witness_storesKeepOtherBytes :
    (∃ (slot : Nat) (off : Nat) (a : Nat), (a < 64 * slotLine slot off ∨ 64 * slotLine slot off + 64 ≤ a)) ∧
    (∃ (ln : Nat) (a : Nat), (a < 64 * ln ∨ 64 * ln + 64 ≤ a)) ∧
    (∃ (g : Nat) (a : Nat), (a < 64 * granLine g ∨ 64 * (granLine g + 64) ≤ a)) ∧
    (∃ (s : State) (u : State) (t : State) (h : Hdr) (c : ChunkSub) (lines : List Line) (a : Nat), Got s h (.chunk c lines []) u ∧ exec (.chunk h c lines) s = .next t ∧ (a < 64 * slotLine c.slot (64 * c.line) ∨ 64 * (slotLine c.slot (64 * c.line) + lines.length) ≤ a)) ∧
    (∃ (s : State) (u : State) (t : State) (h : Hdr) (part : Nat) (off : Nat) (lines : List Line) (upds : List MetaUpd) (a : Nat), Got s h (.metaArea part off lines upds) u ∧ exec (.metaFrame h part off (lines, upds)) s = .next t ∧ (∀ e ∈ upds, ∀ n sp, e ≠ .slot n none sp) ∧ (a < 64 * (32768 * (u.extents - metaExtents u.extents) + off) ∨ 64 * (32768 * (u.extents - metaExtents u.extents) + off + lines.length) ≤ a)) := by
  and_intros
  · exact ⟨1, 64, 0, by decide +kernel⟩
  · exact ⟨1, 128, by decide +kernel⟩
  · exact ⟨1, 4095, by decide +kernel⟩
  · exact ⟨dev, ((State.rx (dev : State) (sealHdr (from0 : Hdr) ((.chunk ({ key := 5, kind := 1, slot := 3, line := 64, count := 1, pass := 0 } : ChunkSub) ([7] : List Line) [])) : Hdr) (.chunk ({ key := 5, kind := 1, slot := 3, line := 64, count := 1, pass := 0 } : ChunkSub) ([7] : List Line) []) false).1), (after (exec (.chunk (sealHdr (from0 : Hdr) ((.chunk ({ key := 5, kind := 1, slot := 3, line := 64, count := 1, pass := 0 } : ChunkSub) ([7] : List Line) [])) : Hdr) { key := 5, kind := 1, slot := 3, line := 64, count := 1, pass := 0 } [7]) (dev : State))), (sealHdr (from0 : Hdr) ((.chunk ({ key := 5, kind := 1, slot := 3, line := 64, count := 1, pass := 0 } : ChunkSub) ([7] : List Line) []))), ({ key := 5, kind := 1, slot := 3, line := 64, count := 1, pass := 0 }), ([7]), 0, got_of (by decide +kernel), after_of (by decide +kernel), by decide +kernel⟩
  · exact ⟨({ dev with twin := { dev.twin with state := 5 } }), ((State.rx ({ dev with twin := { dev.twin with state := 5 } } : State) (sealHdr (fromTwin : Hdr) ((.metaArea (0 : Nat) (0 : Nat) ([7] : List Line) ([.dirty [5]] : List MetaUpd))) : Hdr) (.metaArea (0 : Nat) (0 : Nat) ([7] : List Line) ([.dirty [5]] : List MetaUpd)) false).1), (after (exec (.metaFrame (sealHdr (fromTwin : Hdr) ((.metaArea (0 : Nat) (0 : Nat) ([7] : List Line) ([.dirty [5]] : List MetaUpd))) : Hdr) 0 0 ([7], [.dirty [5]])) ({ dev with twin := { dev.twin with state := 5 } } : State))), (sealHdr (fromTwin : Hdr) ((.metaArea (0 : Nat) (0 : Nat) ([7] : List Line) ([.dirty [5]] : List MetaUpd)))), 0, 0, ([7]), ([.dirty [5]]), 0, got_of (by decide +kernel), after_of (by decide +kernel), by intro e he n sp; simp at he; simp [he], by decide +kernel⟩

/-- States and operands that meet the hypotheses of RanksNumberListedDevices, clause by clause. -/
theorem witness_ranksNumberListedDevices :
    (∃ (s : State) (d : Nat), d ∈ s.devices) ∧
    (∃ (s : State) (r : Nat), s.devices.Nodup ∧ r < s.listedCount) := by
  and_intros
  · exact ⟨dev, 3, by decide +kernel⟩
  · exact ⟨dev, 3, by decide +kernel, by decide +kernel⟩

/-- States and operands that meet the hypotheses of ExtentKeysHash, clause by clause. -/
theorem witness_extentKeysHash :
    (∃ (key : Nat), key < 2 ^ 39) ∧
    (∃ (g : Nat), g < 2 ^ 39) := by
  and_intros
  · exact ⟨(2 ^ 39 - 1), by decide +kernel⟩
  · exact ⟨65535, by decide +kernel⟩

/-- States and operands that meet the hypotheses of FifthRequestIsBusy, clause by clause. -/
theorem witness_fifthRequestIsBusy :
    (∃ (s : State) (u : State) (rq : Req) (m : DictMsg), s.answers rq = true ∧ msgWhole rq m = true ∧ msgForm m = true ∧ 4 ≤ (s.touch rq).outstandingOf rq ∧ u = (if presents m = true ∧ m.fwd = false then (s.touch rq).raise 6 0 (reqBytes rq ++ leBytes 2 (s.touch rq).dict.fails) else s.touch rq)) ∧
    (∃ (s : State) (rq : Req), 4 ≤ (s.touch rq).outstandingOf rq) ∧
    (∃ (s : State) (eid : Nat) (r : DictResp), (.mctp .jtag eid, r.tag) ∉ s.dict.segTags) ∧
    (∃ (s : State) (p : Path) (eid : Nat) (r : DictResp), (p = .i3c0 ∨ p = .i3c1) ∧ (.mctp p eid, r.tag) ∉ s.dict.segTags) ∧
    (∃ (s : State) (p : Nat) (l : Nat) (r : DictResp), (.ld p l, r.tag) ∉ s.dict.segTags) ∧
    (∃ (s : State) (dev : Nat) (slot : Nat) (r : DictResp), (.fwd dev slot, r.tag) ∉ s.dict.segTags) := by
  and_intros
  · exact ⟨({ dev with dict := { slots := [(0, { rq := rq })], fwds := (List.range 4).map (fun n => { slot := 0, tag := n, target := 1, msg := { opcode := 1 }, since := 0 }) } }), ((if presents (sealMsg ({ opcode := 1 } : DictMsg) : DictMsg) = true ∧ ((sealMsg ({ opcode := 1 } : DictMsg) : DictMsg)).fwd = false then (State.touch ({ dev with dict := { slots := [(0, { rq := rq })], fwds := (List.range 4).map (fun n => { slot := 0, tag := n, target := 1, msg := { opcode := 1 }, since := 0 }) } } : State) rq).raise 6 0 (reqBytes rq ++ leBytes 2 (State.touch ({ dev with dict := { slots := [(0, { rq := rq })], fwds := (List.range 4).map (fun n => { slot := 0, tag := n, target := 1, msg := { opcode := 1 }, since := 0 }) } } : State) rq).dict.fails) else State.touch ({ dev with dict := { slots := [(0, { rq := rq })], fwds := (List.range 4).map (fun n => { slot := 0, tag := n, target := 1, msg := { opcode := 1 }, since := 0 }) } } : State) rq)), rq, (sealMsg ({ opcode := 1 } : DictMsg)), by decide +kernel, by decide +kernel, by decide +kernel, by decide +kernel, rfl⟩
  · exact ⟨({ dev with dict := { slots := [(0, { rq := rq })], fwds := (List.range 4).map (fun n => { slot := 0, tag := n, target := 1, msg := { opcode := 1 }, since := 0 }) } }), rq, by decide +kernel⟩
  · exact ⟨dev, 8, ({ opcode := 1, tag := 3, index := 0x1010, sub := 2, status := 0 }), by decide +kernel⟩
  · exact ⟨dev, .i3c0, 8, ({ opcode := 1, tag := 3, index := 0x1010, sub := 2, status := 0 }), by decide +kernel, by decide +kernel⟩
  · exact ⟨dev, 0, 0, ({ opcode := 1, tag := 3, index := 0x1010, sub := 2, status := 0 }), by decide +kernel⟩
  · exact ⟨dev, 0, 1, ({ opcode := 1, tag := 3, index := 0x1010, sub := 2, status := 0 }), by decide +kernel⟩

/-- States and operands that meet the hypotheses of PresetSetsACounter, clause by clause. -/
theorem witness_presetSetsACounter :
    (∃ (s : State) (rq : Req) (n : Nat) (v : Nat), MayPut s rq (0xB000 + n) 7 8 v) ∧
    (∃ (s : State) (rq : Req) (n : Nat) (v : Nat), n < 1024 ∧ 2 ^ 48 ≤ v ∧ v < 2 ^ 64 ∧ (s.touch rq).level rq ≠ 0 ∧ (s.touch rq).outstandingOf rq < 4) := by
  and_intros
  · exact ⟨dev, rq, 1023, (2 ^ 48 - 1), by unfold MayPut MayWrite; decide +kernel⟩
  · exact ⟨dev, rq, 1023, (2 ^ 48), by decide +kernel, by decide +kernel, by decide +kernel, by decide +kernel, by decide +kernel⟩

/-- States and operands that meet the hypotheses of FramesAreDeliveredInOrder, clause by clause. -/
theorem witness_framesAreDeliveredInOrder :
    (∃ (s : State) (h : Hdr) (b : FBody) (vc : Nat) (c : Conn), Passes s h b ∧ bodyVc b = (vc, true) ∧ s.connFor h = some c ∧ c.state = 2 ∧ h.src ≠ 0xFFFF) ∧
    (∃ (s : State) (h : Hdr) (b : FBody) (vc : Nat) (c : Conn), Passes s h b ∧ bodyVc b = (vc, true) ∧ s.connFor h = some c ∧ c.state = 2 ∧ h.src ≠ 0xFFFF ∧ h.seq = (c.chan vc).nextRx ∧ h.claim = s.claimOf (h.src / 2)) ∧
    (∃ (s : State) (h : Hdr) (b : FBody) (vc : Nat) (c : Conn), Passes s h b ∧ bodyVc b = (vc, true) ∧ s.connFor h = some c ∧ c.state = 2 ∧ h.src ≠ 0xFFFF ∧ h.seq = (c.chan vc).nextRx ∧ vc < 3 ∧ h.claim < s.claimOf (h.src / 2)) ∧
    (∃ (s : State) (h : Hdr) (b : FBody) (vc : Nat) (c : Conn), Passes s h b ∧ bodyVc b = (vc, true) ∧ s.connFor h = some c ∧ c.state = 2 ∧ h.src ≠ 0xFFFF ∧ h.seq ≠ (c.chan vc).nextRx ∧ seqBefore h.seq (c.chan vc).nextRx = true) ∧
    (∃ (s : State) (h : Hdr) (b : FBody) (vc : Nat) (c : Conn), Passes s h b ∧ bodyVc b = (vc, true) ∧ s.connFor h = some c ∧ c.state = 2 ∧ h.src ≠ 0xFFFF ∧ h.seq ≠ (c.chan vc).nextRx ∧ seqBefore h.seq (c.chan vc).nextRx = false ∧ (c.chan vc).nakAt = none) ∧
    (∃ (s : State) (h : Hdr) (b : FBody), Passes s h b ∧ bodyVc b = (3, false) ∧ h.src ≠ 0xFFFF ∧ h.claim = s.claimOf (h.src / 2)) ∧
    (∃ (h : Hdr), h.fcsOk = false) ∧
    (∃ (h : Hdr), h.fcsOk = true ∧ h.addrOk = false) ∧
    (∃ (h : Hdr) (b : FBody), h.fcsOk = true ∧ h.addrOk = true ∧ headPasses h b = false) ∧
    (∃ (s : State) (h : Hdr) (b : FBody), h.fcsOk = true ∧ h.addrOk = true ∧ headPasses h b = true ∧ s.listed h.src = false) ∧
    (∃ (s : State) (h : Hdr) (b : FBody), h.fcsOk = true ∧ h.addrOk = true ∧ headPasses h b = true ∧ s.numbered = true ∧ h.dst = s.pool.number ∧ s.listed h.src = true ∧ h.enc = true ∧ s.tagPasses h b = false) := by
  and_intros
  · exact ⟨dev, (sealHdr (fromTwin : Hdr) ((.read { entry := 3, num := 2, key := 5, slot := 3 } : FBody))), (.read { entry := 3, num := 2, key := 5, slot := 3 }), ((bodyVc (.read { entry := 3, num := 2, key := 5, slot := 3 } : FBody)).1), ((State.connFor (dev : State) (sealHdr (fromTwin : Hdr) ((.read { entry := 3, num := 2, key := 5, slot := 3 } : FBody)) : Hdr)).getD (link 3 0)), by unfold Passes; decide +kernel, by decide +kernel, by decide +kernel, by decide +kernel, by decide +kernel⟩
  · exact ⟨dev, (sealHdr (fromTwin : Hdr) ((.read { entry := 3, num := 2, key := 5, slot := 3 } : FBody))), (.read { entry := 3, num := 2, key := 5, slot := 3 }), ((bodyVc (.read { entry := 3, num := 2, key := 5, slot := 3 } : FBody)).1), ((State.connFor (dev : State) (sealHdr (fromTwin : Hdr) ((.read { entry := 3, num := 2, key := 5, slot := 3 } : FBody)) : Hdr)).getD (link 3 0)), by unfold Passes; decide +kernel, by decide +kernel, by decide +kernel, by decide +kernel, by decide +kernel, by decide +kernel, by decide +kernel⟩
  · exact ⟨dev, (sealHdr ({ fromTwin with claim := 0 } : Hdr) ((.read { entry := 3, num := 2, key := 5, slot := 3 } : FBody))), (.read { entry := 3, num := 2, key := 5, slot := 3 }), ((bodyVc (.read { entry := 3, num := 2, key := 5, slot := 3 } : FBody)).1), ((State.connFor (dev : State) (sealHdr ({ fromTwin with claim := 0 } : Hdr) ((.read { entry := 3, num := 2, key := 5, slot := 3 } : FBody)) : Hdr)).getD (link 3 0)), by unfold Passes; decide +kernel, by decide +kernel, by decide +kernel, by decide +kernel, by decide +kernel, by decide +kernel, by decide +kernel, by decide +kernel⟩
  · exact ⟨dev, (sealHdr ({ fromTwin with seq := 2 ^ 32 - 1 } : Hdr) ((.read { entry := 3, num := 2, key := 5, slot := 3 } : FBody))), (.read { entry := 3, num := 2, key := 5, slot := 3 }), ((bodyVc (.read { entry := 3, num := 2, key := 5, slot := 3 } : FBody)).1), ((State.connFor (dev : State) (sealHdr ({ fromTwin with seq := 2 ^ 32 - 1 } : Hdr) ((.read { entry := 3, num := 2, key := 5, slot := 3 } : FBody)) : Hdr)).getD (link 3 0)), by unfold Passes; decide +kernel, by decide +kernel, by decide +kernel, by decide +kernel, by decide +kernel, by decide +kernel, by decide +kernel⟩
  · exact ⟨dev, (sealHdr ({ fromTwin with seq := 5 } : Hdr) ((.read { entry := 3, num := 2, key := 5, slot := 3 } : FBody))), (.read { entry := 3, num := 2, key := 5, slot := 3 }), ((bodyVc (.read { entry := 3, num := 2, key := 5, slot := 3 } : FBody)).1), ((State.connFor (dev : State) (sealHdr ({ fromTwin with seq := 5 } : Hdr) ((.read { entry := 3, num := 2, key := 5, slot := 3 } : FBody)) : Hdr)).getD (link 3 0)), by unfold Passes; decide +kernel, by decide +kernel, by decide +kernel, by decide +kernel, by decide +kernel, by decide +kernel, by decide +kernel, by decide +kernel⟩
  · exact ⟨dev, (sealHdr (fromTwin : Hdr) ((.ack [0, 0, 0, 0] [64, 64, 64, 64] : FBody))), (.ack [0, 0, 0, 0] [64, 64, 64, 64]), by unfold Passes; decide +kernel, by decide +kernel, by decide +kernel, by decide +kernel⟩
  · exact ⟨({ fromTwin with fcsOk := false }), by decide +kernel⟩
  · exact ⟨({ fromTwin with addrOk := false }), by decide +kernel, by decide +kernel⟩
  · exact ⟨({ fromTwin with check := 1 }), (.read { entry := 3, num := 2, key := 5, slot := 3 }), by decide +kernel, by decide +kernel, by decide +kernel⟩
  · exact ⟨dev, (sealHdr { fromTwin with src := 4 } (.read { entry := 3, num := 2, key := 5, slot := 3 } : FBody)), (.read { entry := 3, num := 2, key := 5, slot := 3 }), by decide +kernel, by decide +kernel, by decide +kernel, by decide +kernel⟩
  · exact ⟨dev, (sealHdr { fromTwin with enc := true } (.read { entry := 3, num := 2, key := 5, slot := 3 } : FBody)), (.read { entry := 3, num := 2, key := 5, slot := 3 }), by decide +kernel, by decide +kernel, by decide +kernel, by decide +kernel, by decide +kernel, by decide +kernel, by decide +kernel, by decide +kernel⟩

/-- States and operands that meet the hypotheses of CounterPageReads, clause by clause. -/
theorem witness_counterPageReads :
    (∃ (s : State) (p : Nat) (ld : Nat) (c : Nat), c < 1024 ∧ s.counterOpen p ld c = true) ∧
    (∃ (s : State) (p : Nat) (ld : Nat) (c : Nat), c < 1024 ∧ s.counterOpen p ld c = false) ∧
    (∃ (off : Nat) (size : Nat), 0x20000 ≤ off ∧ off < 0x22000 ∧ (size ≠ 8 ∨ off % 8 ≠ 0)) ∧
    (∃ (off : Nat), 0x20000 ≤ off ∧ off < 0x22000) ∧
    (∃ (s : State) (u : State), u = (List.range 4).foldl (fun s p => s.countPause p) s ∧ u.rec_.sLostAt = none) := by
  and_intros
  · exact ⟨({ hosted with settings := [(okey 0x4000 9, 2), (okey 0x4000 0x0D, 1)] }), 0, 0, 31, by decide +kernel, by decide +kernel⟩
  · exact ⟨({ hosted with settings := [(okey 0x4000 9, 2), (okey 0x4000 0x0D, 1)] }), 0, 0, 32, by decide +kernel, by decide +kernel⟩
  · exact ⟨0x20004, 8, by decide +kernel, by decide +kernel, by decide +kernel⟩
  · exact ⟨0x21FFF, by decide +kernel, by decide +kernel⟩
  · exact ⟨dev, ((List.range 4).foldl (fun s p => s.countPause p) (dev : State)), rfl, by decide +kernel⟩

end Sys2Proof.Tests
end

