-- ==== Sys2Proof/Tests/WitnessManagement.lean ====
section
/-! SUPPORT. The hypotheses of the statements about the dictionary, the management port, power and reset are met: one theorem a statement, with a state and operands for
each of its clauses. -/

set_option Elab.async false

namespace Sys2Proof.Tests
open Sys2Proof.Machine Sys2Proof.Claims

/-- States and operands that meet the hypotheses of DictionaryReadsAnswer, clause by clause. -/
theorem witness_dictionaryReadsAnswer :
    (∃ (s : State) (rq : Req) (m : DictMsg), Served s rq m ∧ m.opcode = 1 ∧ (s.touch rq).readFails rq m.index m.sub = [] ∧ m.type = 0 ∧ (s.touch rq).ecc.deadObjs.contains (okey m.index m.sub) = false ∧ ((s.touch rq).valueFor rq m).length ≤ 1024) ∧
    (∃ (s : State) (rq : Req) (m : DictMsg) (x : Xfer), Served s rq m ∧ m.opcode = 3 ∧ (s.touch rq).xferOf rq m.tag false = some x ∧ m.offset = x.next ∧ x.next + 1024 < x.total) ∧
    (∃ (s : State) (rq : Req) (m : DictMsg), Served s rq m ∧ m.opcode = 5) ∧
    (∃ (s : State) (rq : Req) (m : DictMsg) (b : Bytes), Served s rq m ∧ m.opcode = 6 ∧ describe m.index m.sub = some b) ∧
    (∃ (s : State) (rq : Req) (m : DictMsg) (i : Nat), Served s rq m ∧ m.opcode = 7 ∧ nextIndex m.index = some i) ∧
    (∃ (s : State) (rq : Req) (tag : Nat) (x : Xfer), x ∈ s.dict.xfers ∧ x.rq = rq ∧ x.tag = tag ∧ x.lastUse + s.setting 0x1F20 2 ≤ s.now) := by
  and_intros
  · exact ⟨dev, rq, (sealMsg ({ opcode := 1, tag := 3, index := 0x1010, sub := 2 } : DictMsg)), by unfold Served; decide +kernel, by decide +kernel, by decide +kernel, by decide +kernel, by decide +kernel, by decide +kernel⟩
  · exact ⟨({ dev with dict := { xfers := [{ rq := rq, tag := 3, key := 0x10101, isWrite := false, type := 10, total := 3000, data := [], next := 1024, prev := 0, lastUse := 0 }] } }), rq, (sealMsg ({ opcode := 3, tag := 3, offset := 1024 } : DictMsg)), ({ rq := rq, tag := 3, key := 0x10101, isWrite := false, type := 10, total := 3000, data := [], next := 1024, prev := 0, lastUse := 0 }), by unfold Served; decide +kernel, by decide +kernel, by decide +kernel, by decide +kernel, by decide +kernel⟩
  · exact ⟨dev, rq, (sealMsg ({ opcode := 5, tag := 3 } : DictMsg)), by unfold Served; decide +kernel, by decide +kernel⟩
  · exact ⟨dev, rq, (sealMsg ({ opcode := 6, index := 0x1010, sub := 2 } : DictMsg)), ((describe 0x1010 2).getD []), by unfold Served; decide +kernel, by decide +kernel, by decide +kernel⟩
  · exact ⟨dev, rq, (sealMsg ({ opcode := 7, index := 0x1010 } : DictMsg)), ((nextIndex 0x1010).getD 0), by unfold Served; decide +kernel, by decide +kernel, by decide +kernel⟩
  · exact ⟨({ dev with dict := { xfers := [{ rq := rq, tag := 3, key := 0x10101, isWrite := false, type := 10, total := 3000, data := [], next := 1024, prev := 0, lastUse := 0 }] } }), rq, 3, ({ rq := rq, tag := 3, key := 0x10101, isWrite := false, type := 10, total := 3000, data := [], next := 1024, prev := 0, lastUse := 0 }), by decide +kernel, by decide +kernel, by decide +kernel, by decide +kernel⟩

/-- States and operands that meet the hypotheses of DictionaryWritesAct, clause by clause. -/
theorem witness_dictionaryWritesAct :
    (∃ (s : State) (rq : Req) (m : DictMsg) (o : Obj), Served s rq m ∧ m.opcode = 2 ∧ m.index ≠ 0x1F00 ∧ m.index ≠ 0x1F10 ∧ objFind m.index m.sub = some o ∧ o.acc = .rwc ∧ (s.touch rq).writeFails rq m.index m.sub m.type m.value = [] ∧ (s.touch rq).ruleFails m.index m.sub m.value = []) ∧
    (∃ (s : State) (rq : Req) (m : DictMsg) (o : Obj), Served s rq m ∧ m.opcode = 2 ∧ m.index ≠ 0x1F00 ∧ m.index ≠ 0x1F10 ∧ objFind m.index m.sub = some o ∧ o.acc ≠ .rwc ∧ (s.touch rq).writeFails rq m.index m.sub m.type m.value = [] ∧ (s.touch rq).ruleFails m.index m.sub m.value = [] ∧ (s.touch rq).rowWrite rq m.tag m.index m.sub m.value = none) ∧
    (∃ (s : State) (rq : Req) (m : DictMsg) (x : Xfer), Served s rq m ∧ m.opcode = 4 ∧ (s.touch rq).xferOf rq m.tag true = some x ∧ m.offset = x.next ∧ m.total = x.total ∧ m.more = true ∧ m.offset + m.value.length < x.total ∧ x.key ≠ okey 0x3820 1) ∧
    (∃ (s : State) (rq : Req) (m : DictMsg) (x : Xfer), Served s rq m ∧ m.opcode = 4 ∧ (s.touch rq).xferOf rq m.tag true = some x ∧ x.key = okey 0x3820 1 ∧ m.offset = x.next ∧ m.total = x.total ∧ m.more = false ∧ m.offset + m.value.length = x.total) ∧
    (∃ (s : State) (rq : Req) (tag : Nat) (n : Nat) (set : List (Nat × Bytes)), (s.touch rq).outstandingOf rq < 4 ∧ (s.touch rq).slotOf rq = some n ∧ ((s.touch rq).requester rq).map Requester.staged = some set ∧ set ≠ [] ∧ commitStatus ((s.touch rq).commitFails rq set) = (St.ok, 0) ∧ (∀ e ∈ (((s.touch rq).commitDone n St.ok 0).applySet rq tag set).host.sess, (rq, tag) ∉ e.2.waiter)) ∧
    (∃ (s : State) (rq : Req) (n : Nat), MayPut s rq 0x1F00 1 1 2 ∧ (s.touch rq).slotOf rq = some n) ∧
    (∃ (s : State) (n : Nat) (r : Requester), assoc s.dict.slots n = some r ∧ r.staged ≠ [] ∧ r.stageAt + s.setting 0x1F00 7 ≤ s.now) ∧
    (∃ (s : State) (n : Nat) (r : Requester), assoc s.dict.slots n = some r ∧ s.slotInUse n r = false ∧ r.lastUse + s.setting 0x1F00 7 ≤ s.now) := by
  and_intros
  · exact ⟨dev, rq, (sealMsg ({ opcode := 2, tag := 3, index := 0x2100, sub := 4, type := 8, total := 8, value := leBytes 8 200000 } : DictMsg)), ((objFind 0x2100 4).getD ⟨0, 0, 0, 0, .u8, .ro, 0, 0, 0, []⟩), by unfold Served; decide +kernel, by decide +kernel, by decide +kernel, by decide +kernel, by decide +kernel, by decide +kernel, by decide +kernel, by decide +kernel⟩
  · exact ⟨dev, rq, (sealMsg ({ opcode := 2, tag := 3, index := 0x1010, sub := 2, type := 3, total := 2, value := leBytes 2 1000 } : DictMsg)), ((objFind 0x1010 2).getD ⟨0, 0, 0, 0, .u8, .ro, 0, 0, 0, []⟩), by unfold Served; decide +kernel, by decide +kernel, by decide +kernel, by decide +kernel, by decide +kernel, by decide +kernel, by decide +kernel, by decide +kernel, by decide +kernel⟩
  · exact ⟨({ dev with dict := { xfers := [{ rq := rq, tag := 3, key := okey 0x1010 6, isWrite := true, type := 10, total := 3000, data := [], next := 1024, prev := 0, lastUse := 0 }] } }), rq, (sealMsg ({ opcode := 4, tag := 3, more := true, offset := 1024, total := 3000, value := [1] } : DictMsg)), ({ rq := rq, tag := 3, key := okey 0x1010 6, isWrite := true, type := 10, total := 3000, data := [], next := 1024, prev := 0, lastUse := 0 }), by unfold Served; decide +kernel, by decide +kernel, by decide +kernel, by decide +kernel, by decide +kernel, by decide +kernel, by decide +kernel, by decide +kernel⟩
  · exact ⟨({ dev with dict := { xfers := [{ rq := rq, tag := 3, key := okey 0x3820 1, isWrite := true, type := 10, total := 3, data := [], next := 2, prev := 0, lastUse := 0 }] } }), rq, (sealMsg ({ opcode := 4, tag := 3, offset := 2, total := 3, value := [1] } : DictMsg)), ({ rq := rq, tag := 3, key := okey 0x3820 1, isWrite := true, type := 10, total := 3, data := [], next := 2, prev := 0, lastUse := 0 }), by unfold Served; decide +kernel, by decide +kernel, by decide +kernel, by decide +kernel, by decide +kernel, by decide +kernel, by decide +kernel, by decide +kernel⟩
  · exact ⟨({ dev with dict := { slots := [(0, { rq := rq, staged := [(okey 0x2120 4, [1])] })] } }), rq, 3, 0, ([(okey 0x2120 4, [1])]), by decide +kernel, by decide +kernel, by decide +kernel, by decide +kernel, by decide +kernel, by decide +kernel⟩
  · exact ⟨({ dev with dict := { slots := [(0, { rq := rq })] } }), rq, 0, by unfold MayPut MayWrite; decide +kernel, by decide +kernel⟩
  · exact ⟨({ dev with dict := { slots := [(0, { rq := rq, staged := [(okey 0x2120 4, [1])] })] } }), 0, ({ rq := rq, staged := [(okey 0x2120 4, [1])] }), by decide +kernel, by decide +kernel, by decide +kernel⟩
  · exact ⟨({ dev with dict := { slots := [(0, { rq := rq })] } }), 0, ({ rq := rq }), by decide +kernel, by decide +kernel, by decide +kernel⟩

/-- States and operands that meet the hypotheses of SavesResetsAndGrants, clause by clause. -/
theorem witness_savesResetsAndGrants :
    (∃ (s : State) (rq : Req), MayPut s rq 0x1F00 2 1 1 ∧ s.dict.saving = none ∧ s.sbox.flushHold = false) ∧
    (∃ (s : State) (gen : Nat) (l : List (Nat × Nat)), s.dict.saving = some (gen, l)) ∧
    (∃ (s : State) (gen : Nat) (l : List (Nat × Nat)), s.dict.saving = some (gen, l)) ∧
    (∃ (s : State) (rq : Req), MayPut s rq 0x1F00 3 1 1 ∧ s.dict.saving = none ∧ s.sbox.flushHold = false) ∧
    (∃ (s : State) (rq : Req), MayPut s rq 0x1F00 4 1 1 ∧ s.power.evac = false ∧ (s.touch rq).dict.resetReq = none) ∧
    (∃ (s : State) (rq : Req), MayPut s rq 0x1F00 4 1 2 ∧ (s.touch rq).dict.resetReq = none) ∧
    (∃ (s : State) (cold : Bool) (at_ : Nat), s.dict.resetReq = some (cold, at_) ∧ at_ ≤ s.now ∧ s.persist.state ≠ 3) ∧
    (∃ (s : State) (rq : Req) (n : Nat) (pw : Bytes), MayWrite s rq 0x1F10 1 pw ∧ s.slotOf rq = some n ∧ s.dict.refuseUntil ≤ s.now ∧ (if s.dict.pwSet then Config.pwHash s.dict.pwSalt (fromLe pw) = s.dict.pwHash else fromLe pw = 0)) ∧
    (∃ (s : State), s.dict.refuseUntil ≤ s.now) ∧
    (∃ (s : State) (rq : Req) (n : Nat), MayPut s rq 0x1F10 3 1 1 ∧ (s.touch rq).slotOf rq = some n) ∧
    (∃ (s : State) (n : Nat) (r : Requester), assoc s.dict.slots n = some r ∧ r.grant = true ∧ r.lastUse + s.setting 0x1F10 7 ≤ s.now) ∧
    (∃ (s : State) (rq : Req) (pw : Bytes), MayWrite s rq 0x1F10 2 pw) := by
  and_intros
  · exact ⟨dev, rq, by unfold MayPut MayWrite; decide +kernel, by decide +kernel, by decide +kernel⟩
  · exact ⟨({ dev with dict := { saving := some (1, []) } }), 1, ([]), by decide +kernel⟩
  · exact ⟨({ dev with dict := { saving := some (1, []) } }), 1, ([]), by decide +kernel⟩
  · exact ⟨owner, rq, by unfold MayPut MayWrite; decide +kernel, by decide +kernel, by decide +kernel⟩
  · exact ⟨dev, rq, by unfold MayPut MayWrite; decide +kernel, by decide +kernel, by decide +kernel⟩
  · exact ⟨dev, rq, by unfold MayPut MayWrite; decide +kernel, by decide +kernel⟩
  · exact ⟨({ dev with dict := { resetReq := some (true, 10000000) } }), true, 10000000, by decide +kernel, by decide +kernel, by decide +kernel⟩
  · exact ⟨({ dev with dict := { slots := [(0, { rq := rq })] } }), rq, 0, (leBytes 32 0), by unfold MayWrite; decide +kernel, by decide +kernel, by decide +kernel, by decide +kernel⟩
  · exact ⟨dev, by decide +kernel⟩
  · exact ⟨({ dev with dict := { slots := [(0, { rq := rq })] } }), rq, 0, by unfold MayPut MayWrite; decide +kernel, by decide +kernel⟩
  · exact ⟨owner, 0, ({ rq := rq, grant := true }), by decide +kernel, by decide +kernel, by decide +kernel⟩
  · exact ⟨owner, rq, (leBytes 32 7), by unfold MayWrite; decide +kernel⟩

/-- States and operands that meet the hypotheses of MctpControlAnswers, clause by clause. -/
theorem witness_mctpControlAnswers :
    (∃ (s : State) (p : Path) (eid : Nat), s.mctpPath p = true ∧ 1 ≤ eid ∧ eid ≤ 254) ∧
    (∃ (s : State) (p : Path), s.mctpPath p = true) := by
  and_intros
  · exact ⟨dev, .i3c0, 8, by decide +kernel, by decide +kernel, by decide +kernel⟩
  · exact ⟨dev, .i3c0, by decide +kernel⟩

/-- States and operands that meet the hypotheses of ForwardingCarriesRequests, clause by clause. -/
theorem witness_forwardingCarriesRequests :
    (∃ (s : State) (u : State) (rq : Req) (m : DictMsg) (n : Nat), s.answers rq = true ∧ msgWhole rq m = true ∧ msgForm m = true ∧ (s.touch rq).outstandingOf rq < 4 ∧ m.fwd = true ∧ m.target ≠ 0xFFFF ∧ m.target ≠ s.pool.number ∧ s.numbered = true ∧ s.listed m.target = true ∧ (s.touch rq).takeReqSlot rq = some (u, n)) ∧
    (∃ (s : State) (u : State) (h : Hdr) (pre : FwdPrefix) (r : DictResp) (f : Fwd) (q : Requester), Got s h (.mgmtResp pre r) u ∧ u.dict.fwds.find? (fun f => pre.dev == u.pool.number && f.slot == pre.slot && f.tag == r.tag && f.target == h.src) = some f ∧ assoc u.dict.slots f.slot = some q) ∧
    (∃ (s : State) (slot : Nat) (tag : Nat) (f : Fwd) (q : Requester), s.dict.fwds.find? (fun f => f.slot == slot && f.tag == tag && s.elapsed f.since (s.setting 0x1F20 1)) = some f ∧ assoc s.dict.slots slot = some q) ∧
    (∃ (s : State) (u : State) (h : Hdr) (pre : FwdPrefix) (m : DictMsg), Got s h (.mgmtReq pre m) u ∧ pre.slot ≠ ownSlot ∧ crcPasses m = true ∧ msgForm m = true ∧ m.target = u.pool.number ∧ m.fwd = true) ∧
    (∃ (s : State) (p : Nat) (ld : Nat) (m : DictMsg), s.ldThere p ld = true ∧ crcPasses m = true) ∧
    (∃ (s : State) (p : Nat) (ld : Nat) (m : DictMsg), s.ldThere p ld = true ∧ crcPasses m = false) := by
  and_intros
  · exact ⟨({ dev with dict := { slots := [(0, { rq := rq })] } }), (({ dev with dict := { slots := [(0, { rq := rq })] } } : State).touch rq), rq, (sealMsg ({ opcode := 1, fwd := true, target := 0 } : DictMsg)), 0, by decide +kernel, by decide +kernel, by decide +kernel, by decide +kernel, by decide +kernel, by decide +kernel, by decide +kernel, by decide +kernel, by decide +kernel, by decide +kernel⟩
  · exact ⟨({ dev with dict := { slots := [(0, { rq := rq })], fwds := [{ slot := 0, tag := 3, target := 0, msg := { opcode := 1 }, since := 0 }] } }), ((State.rx ({ dev with dict := { slots := [(0, { rq := rq })], fwds := [{ slot := 0, tag := 3, target := 0, msg := { opcode := 1 }, since := 0 }] } } : State) (sealHdr (from0 : Hdr) ((.mgmtResp ({ dev := 2, slot := 0, level := 0 } : FwdPrefix) ({ opcode := 1, tag := 3, index := 0, sub := 0, status := 0 } : DictResp))) : Hdr) (.mgmtResp ({ dev := 2, slot := 0, level := 0 } : FwdPrefix) ({ opcode := 1, tag := 3, index := 0, sub := 0, status := 0 } : DictResp)) false).1), (sealHdr (from0 : Hdr) ((.mgmtResp ({ dev := 2, slot := 0, level := 0 } : FwdPrefix) ({ opcode := 1, tag := 3, index := 0, sub := 0, status := 0 } : DictResp)))), ({ dev := 2, slot := 0, level := 0 }), ({ opcode := 1, tag := 3, index := 0, sub := 0, status := 0 }), ({ slot := 0, tag := 3, target := 0, msg := { opcode := 1 }, since := 0 }), ({ rq := rq }), got_of (by decide +kernel), by decide +kernel, by decide +kernel⟩
  · exact ⟨({ dev with dict := { slots := [(0, { rq := rq })], fwds := [{ slot := 0, tag := 3, target := 0, msg := { opcode := 1 }, since := 0 }] } }), 0, 3, ({ slot := 0, tag := 3, target := 0, msg := { opcode := 1 }, since := 0 }), ({ rq := rq }), by decide +kernel, by decide +kernel⟩
  · exact ⟨dev, ((State.rx (dev : State) (sealHdr (from0 : Hdr) ((.mgmtReq ({ dev := 0, slot := 0, level := 1 } : FwdPrefix) (sealMsg ({ opcode := 1, fwd := true, target := 2 } : DictMsg) : DictMsg))) : Hdr) (.mgmtReq ({ dev := 0, slot := 0, level := 1 } : FwdPrefix) (sealMsg ({ opcode := 1, fwd := true, target := 2 } : DictMsg) : DictMsg)) false).1), (sealHdr (from0 : Hdr) ((.mgmtReq ({ dev := 0, slot := 0, level := 1 } : FwdPrefix) (sealMsg ({ opcode := 1, fwd := true, target := 2 } : DictMsg) : DictMsg)))), ({ dev := 0, slot := 0, level := 1 }), (sealMsg ({ opcode := 1, fwd := true, target := 2 } : DictMsg)), got_of (by decide +kernel), by decide +kernel, by decide +kernel, by decide +kernel, by decide +kernel, by decide +kernel⟩
  · exact ⟨dev, 0, 0, (sealMsg ({ opcode := 1 } : DictMsg)), by decide +kernel, by decide +kernel⟩
  · exact ⟨dev, 0, 0, ({ opcode := 1, crc := 1 }), by decide +kernel, by decide +kernel⟩

/-- States and operands that meet the hypotheses of PaceVoltageAndHeat, clause by clause. -/
theorem witness_paceVoltageAndHeat :
    (∃ (s : State) (since : Nat), s.pace.below = some since ∧ since + 10000000 ≤ s.now ∧ s.pace.volt = 880 ∧ s.pace.held = true) ∧
    (∃ (s : State), s.pace.stepAt + 50000 ≤ s.now ∧ s.power.regFault = false) ∧
    (∃ (s : State) (mv : Nat), (mv + 25 < s.pace.volt ∨ s.pace.volt + 25 < mv)) ∧
    (∃ (s : State) (v : List Int) (w : List Int) (a : Int) (b : Int), v.foldl max (v.headD 0) = a ∧ w.foldl max (w.headD 0) = b ∧ max a b < toInt 32 (s.setting 0x3C30 4) - 5000 ∧ max a b < 110000 ∧ s.power.evac = false ∧ s.power.vaux = true ∧ s.power.inReset = false) ∧
    (∃ (s : State) (v : List Int) (w : List Int), 120000 ≤ max (v.foldl max (v.headD 0)) (w.foldl max (w.headD 0)) ∧ s.power.tripped = false ∧ s.power.vaux = true ∧ s.power.inReset = false) := by
  and_intros
  · exact ⟨({ dev with pace := { below := some 0 } }), 0, by decide +kernel, by decide +kernel, by decide +kernel, by decide +kernel⟩
  · exact ⟨dev, by decide +kernel, by decide +kernel⟩
  · exact ⟨dev, 854, by decide +kernel⟩
  · exact ⟨dev, ([40000]), ([41000]), 40000, 41000, by decide +kernel, by decide +kernel, by decide +kernel, by decide +kernel, by decide +kernel, by decide +kernel, by decide +kernel⟩
  · exact ⟨dev, ([40000]), ([120000]), by decide +kernel, by decide +kernel, by decide +kernel, by decide +kernel⟩

/-- States and operands that meet the hypotheses of PowerInputs, clause by clause. -/
theorem witness_powerInputs :
    (∃ (s : State), s.power.pfail = 0 ∧ (s.power.recent.filter (fun t => decide (s.now < t + 1000000000))).length < 8) ∧
    (∃ (s : State), s.power.pfail = 0 ∧ 8 ≤ (s.power.recent.filter (fun t => decide (s.now < t + 1000000000))).length ∧ s.persist.state ≠ 4) ∧
    (∃ (s : State), s.power.pfail = 2) ∧
    (∃ (s : State), s.power.pfail = 1) ∧
    (∃ (s : State), s.power.pfail = 2) ∧
    (∃ (s : State) (high : Nat), s.power.pfail = 2 ∧ s.power.highAt = some high ∧ max high (maxOf s.power.recent 0) + s.setting 0x3C10 3 ≤ s.now) ∧
    (∃ (s : State) (at_ : Nat), s.power.deassertAt = some at_ ∧ s.power.pfail = 0 ∧ s.power.good = true ∧ at_ + s.setting 0x3300 0x0A ≤ s.now ∧ s.persist.state = 4 ∧ s.persist.standbyFlush = false) ∧
    (∃ (s : State) (at_ : Nat), s.power.reminded = some at_ ∧ s.power.pfail ≠ 0 ∧ at_ + 60000000000 ≤ s.now) ∧
    (∃ (s : State), s.power.vaux = false) ∧
    (∃ (s : State), s.power.vaux = true) ∧
    (∃ (mv : Nat), (mv < 3135 ∨ 3465 < mv)) ∧
    (∃ (s : State), s.power.good = false ∧ s.power.state < 2 ∧ s.power.inReset = true ∧ s.power.warmReset = false) ∧
    (∃ (s : State), s.power.good = false ∧ s.power.state = 1 ∧ s.power.inReset = false) ∧
    (∃ (s : State), s.power.good = true ∧ s.power.state < 2) ∧
    (∃ (s : State) (u : State), s.power.good = true ∧ 2 ≤ s.power.state ∧ u = ((s.modPower (fun p => { p with good := false })).railEvent 0).qualified s.power.pfail) ∧
    (∃ (s : State) (u : State), s.power.good = true ∧ 2 ≤ s.power.state ∧ u = ((s.modPower (fun p => { p with good := false })).railEvent 0).qualified s.power.pfail ∧ u.persist.state = 3) ∧
    (∃ (s : State) (u : State), s.power.good = true ∧ 2 ≤ s.power.state ∧ u = ((s.modPower (fun p => { p with good := false })).railEvent 0).qualified s.power.pfail ∧ u.persist.state ≠ 3 ∧ 2 ≤ u.power.state) ∧
    (∃ (s : State) (mv : Nat), 2 ≤ s.power.state ∧ s.power.good = true ∧ mv < 1710) ∧
    (∃ (s : State) (mv : Nat), 2 ≤ s.power.state ∧ mv < 1620) := by
  and_intros
  · exact ⟨({ dev with power := { dev.power with pfail := 0 } }), by decide +kernel, by decide +kernel⟩
  · exact ⟨({ dev with power := { dev.power with pfail := 0, recent := [9999999999999, 9999999999999, 9999999999999, 9999999999999, 9999999999999, 9999999999999, 9999999999999, 9999999999999] } }), by decide +kernel, by decide +kernel, by decide +kernel⟩
  · exact ⟨({ dev with power := { dev.power with pfail := 2 } }), by decide +kernel⟩
  · exact ⟨({ dev with power := { dev.power with pfail := 1 } }), by decide +kernel⟩
  · exact ⟨({ dev with power := { dev.power with pfail := 2 } }), by decide +kernel⟩
  · exact ⟨({ dev with power := { dev.power with pfail := 2, highAt := some 0 } }), 0, by decide +kernel, by decide +kernel, by decide +kernel⟩
  · exact ⟨({ dev with power := { dev.power with pfail := 0, deassertAt := some 0 }, persist := { dev.persist with state := 4 } }), 0, by decide +kernel, by decide +kernel, by decide +kernel, by decide +kernel, by decide +kernel, by decide +kernel⟩
  · exact ⟨({ dev with power := { dev.power with pfail := 1, reminded := some 0 } }), 0, by decide +kernel, by decide +kernel, by decide +kernel⟩
  · exact ⟨({ dev with power := { dev.power with vaux := false } }), by decide +kernel⟩
  · exact ⟨dev, by decide +kernel⟩
  · exact ⟨3134, by decide +kernel⟩
  · exact ⟨({ dev with power := { dev.power with good := false, state := 1, inReset := true, warmReset := false } }), by decide +kernel, by decide +kernel, by decide +kernel, by decide +kernel⟩
  · exact ⟨({ dev with power := { dev.power with good := false, state := 1, inReset := false } }), by decide +kernel, by decide +kernel, by decide +kernel⟩
  · exact ⟨({ dev with power := { dev.power with good := true, state := 1 } }), by decide +kernel, by decide +kernel⟩
  · exact ⟨dev, ((((dev : State).modPower (fun p => { p with good := false })).railEvent 0).qualified ((dev : State)).power.pfail), by decide +kernel, by decide +kernel, by decide +kernel⟩
  · exact ⟨({ dev with persist := { dev.persist with state := 3 } }), (((({ dev with persist := { dev.persist with state := 3 } } : State).modPower (fun p => { p with good := false })).railEvent 0).qualified (({ dev with persist := { dev.persist with state := 3 } } : State)).power.pfail), by decide +kernel, by decide +kernel, by decide +kernel, by decide +kernel⟩
  · exact ⟨dev, ((((dev : State).modPower (fun p => { p with good := false })).railEvent 0).qualified ((dev : State)).power.pfail), by decide +kernel, by decide +kernel, by decide +kernel, by decide +kernel, by decide +kernel⟩
  · exact ⟨dev, 1709, by decide +kernel, by decide +kernel, by decide +kernel⟩
  · exact ⟨dev, 1619, by decide +kernel, by decide +kernel⟩

/-- States and operands that meet the hypotheses of ResetsBeginAndEnd, clause by clause. -/
theorem witness_resetsBeginAndEnd :
    (∃ (s : State), s.power.vaux = true) ∧
    (∃ (s : State), s.power.vaux = true ∧ s.persist.state ≠ 3 ∧ s.power.inReset = false) ∧
    (∃ (s : State), s.power.vaux = true ∧ s.persist.state = 3 ∧ s.power.deferred = none) ∧
    (∃ (s : State), s.dict.jtag = true) ∧
    (∃ (s : State) (cold : Bool) (cause : Nat), s.power.deferred = some (cold, cause) ∧ s.persist.state ≠ 3) ∧
    (∃ (s : State) (cold : Bool) (at_ : Nat), s.pool.resetDue = some (cold, at_) ∧ at_ + 50000 ≤ s.now ∧ s.persist.state ≠ 3) ∧
    (∃ (s : State) (failed : List Nat), s.power.vaux = true ∧ s.power.good = true ∧ s.power.inReset = true ∧ s.power.warmReset = false ∧ (s.phase1 failed).rec_.alertBoot = false) ∧
    (∃ (s : State) (failed : List Nat), s.power.vaux = true ∧ s.power.inReset = true ∧ s.power.warmReset = true ∧ (s.phase1 failed).power.state = 2 ∧ (s.phase1 failed).rec_.alertBoot = false) := by
  and_intros
  · exact ⟨dev, by decide +kernel⟩
  · exact ⟨dev, by decide +kernel, by decide +kernel, by decide +kernel⟩
  · exact ⟨({ dev with persist := { dev.persist with state := 3 } }), by decide +kernel, by decide +kernel, by decide +kernel⟩
  · exact ⟨({ dev with dict := { jtag := true } }), by decide +kernel⟩
  · exact ⟨({ dev with power := { dev.power with deferred := some (false, 4) } }), false, 4, by decide +kernel, by decide +kernel⟩
  · exact ⟨({ dev with pool := { dev.pool with resetDue := some (true, 0) } }), true, 0, by decide +kernel, by decide +kernel, by decide +kernel⟩
  · exact ⟨({ dev with power := { dev.power with inReset := true } }), ([]), by decide +kernel, by decide +kernel, by decide +kernel, by decide +kernel, by decide +kernel⟩
  · exact ⟨({ dev with power := { dev.power with inReset := true, warmReset := true } }), ([]), by decide +kernel, by decide +kernel, by decide +kernel, by decide +kernel, by decide +kernel⟩

/-- States and operands that meet the hypotheses of StartPhases, clause by clause. -/
theorem witness_startPhases :
    (∃ (s : State), s.power.inReset = false ∧ s.power.blocked = false ∧ s.power.state = 2) ∧
    (∃ (s : State), s.power.inReset = false ∧ s.power.blocked = false ∧ s.power.state = 2 ∧ s.power.phase = 1) ∧
    (∃ (s : State), s.power.inReset = false ∧ s.power.blocked = false ∧ s.power.state = 2 ∧ s.power.phase = 2 ∧ s.dram.pop = 1 ∧ (∀ c ∈ s.dram.chans, c.2.state ≠ 1)) ∧
    (∃ (s : State), s.host.creditsOpen = false ∧ s.mayOpen = true) := by
  and_intros
  · exact ⟨dev, by decide +kernel, by decide +kernel, by decide +kernel⟩
  · exact ⟨({ dev with power := { dev.power with phase := 1 } }), by decide +kernel, by decide +kernel, by decide +kernel, by decide +kernel⟩
  · exact ⟨({ dev with power := { dev.power with phase := 2 } }), by decide +kernel, by decide +kernel, by decide +kernel, by decide +kernel, by decide +kernel, by decide +kernel⟩
  · exact ⟨dev, by decide +kernel, by decide +kernel⟩

end Sys2Proof.Tests
end

