-- ==== Sys2Proof/Tests/WitnessUnits.lean ====
section
/-! SUPPORT. The hypotheses of the statements about error correction, the cipher, the steward, the strongbox and the recorder are met: one theorem a statement, with a state and operands for
each of its clauses. -/

set_option Elab.async false

namespace Sys2Proof.Tests
open Sys2Proof.Machine Sys2Proof.Claims

/-- States and operands that meet the hypotheses of LinesAreCheckedAndRepaired, clause by clause. -/
theorem witness_linesAreCheckedAndRepaired :
    (∃ (s : State) (ln : Nat) (b0 : List Nat) (b1 : List Nat) (h0 : List Nat) (h1 : List Nat), s.chanServes (slotChan (lineSlot ln)) = true ∧ lineSlot ln < s.ownExtents ∧ (∀ r ∈ s.ecc.repairs, r.line ≠ ln) ∧ s.x8Mirrored ln = false ∧ h0 = halfOf s.x8 0 (b0 ++ b1) ∧ h1 = halfOf s.x8 1 (b0 ++ b1) ∧ assoc (s.eccChan (slotChan (lineSlot ln))).erased (s.rankSub ln) = none ∧ decodeHalf h0 [] = .clean ∧ decodeHalf h1 [] = .clean) ∧
    (∃ (s : State) (ln : Nat) (b0 : List Nat) (b1 : List Nat) (h0 : List Nat) (h1 : List Nat) (r : List Nat) (sy : List Nat), s.chanServes (slotChan (lineSlot ln)) = true ∧ lineSlot ln < s.ownExtents ∧ (∀ r ∈ s.ecc.repairs, r.line ≠ ln) ∧ s.x8Mirrored ln = false ∧ h0 = halfOf s.x8 0 (b0 ++ b1) ∧ h1 = halfOf s.x8 1 (b0 ++ b1) ∧ assoc (s.eccChan (slotChan (lineSlot ln))).erased (s.rankSub ln) = none ∧ decodeHalf h0 [] = .corrected r sy ∧ decodeHalf h1 [] = .clean) ∧
    (∃ (s : State) (ln : Nat) (b0 : List Nat) (b1 : List Nat) (h0 : List Nat) (h1 : List Nat), s.chanServes (slotChan (lineSlot ln)) = true ∧ lineSlot ln < s.ownExtents ∧ (∀ r ∈ s.ecc.repairs, r.line ≠ ln) ∧ s.x8Mirrored ln = false ∧ h0 = halfOf s.x8 0 (b0 ++ b1) ∧ h1 = halfOf s.x8 1 (b0 ++ b1) ∧ assoc (s.eccChan (slotChan (lineSlot ln))).erased (s.rankSub ln) = none ∧ decodeHalf h0 [] = .poisoned) ∧
    (∃ (s : State) (ln : Nat) (b0 : List Nat) (b1 : List Nat) (h0 : List Nat) (h1 : List Nat), s.chanServes (slotChan (lineSlot ln)) = true ∧ lineSlot ln < s.ownExtents ∧ (∀ r ∈ s.ecc.repairs, r.line ≠ ln) ∧ s.x8Mirrored ln = false ∧ h0 = halfOf s.x8 0 (b0 ++ b1) ∧ h1 = halfOf s.x8 1 (b0 ++ b1) ∧ assoc (s.eccChan (slotChan (lineSlot ln))).erased (s.rankSub ln) = none ∧ decodeHalf h0 [] = .uncorrectable ∧ decodeHalf h1 [] = .clean) ∧
    (∃ (s : State) (rq : Req) (n : Nat) (v : Nat), MayPut s rq (0x3620 + n) 4 2 v ∧ ((s.touch rq).rankOf n (v % 4)).state ≠ 0 ∧ v / 16 % 16 < (if (s.touch rq).x8 then 5 else 10) ∧ v = v % 4 + 4 * (v / 4 % 2) + 16 * (v / 16 % 16) ∧ assoc ((s.touch rq).eccChan n).erased (2 * (v % 4) + v / 4 % 2) = none) ∧
    (∃ (s : State) (rq : Req) (n : Nat) (v : Nat) (j : Nat), MayPut s rq (0x3620 + n) 5 1 v ∧ assoc ((s.touch rq).eccChan n).erased v = some j) ∧
    (∃ (s : State) (n : Nat), (s.eccChan n).countsAt + s.setting 0x3600 0x0A ≤ s.now) ∧
    (∃ (s : State) (ln : Nat) (r : Repair), s.ecc.repairs.find? (fun r => r.line == ln) = some r ∧ r.since + s.setting 0x3600 7 ≤ s.now) ∧
    (∃ (s : State) (slot : Nat) (g : Nat) (at_ : Nat) (top : Nat), s.ecc.resend.find? (fun e => e.1 == slotGran slot g) = some (slotGran slot g, at_, top) ∧ at_ + s.setting 0x3600 7 ≤ s.now ∧ slotGran slot g ∉ s.twin.stale) ∧
    (∃ (s : State) (n : Nat), s.flag 0x3600 3 = true ∧ s.chanServes n = true ∧ s.chanLines ≠ 0 ∧ (s.eccChan n).scrubAt + s.setting 0x3600 4 / s.chanLines ≤ s.now ∧ s.chanLines ≤ s.skipRetired n (s.eccChan n).scrub (s.chanLines / 32768)) ∧
    (∃ (s : State) (w : State) (u : State) (v : State) (n : Nat) (k : Nat) (ln : Nat) (b0 : List Nat) (b1 : List Nat), s.flag 0x3600 3 = true ∧ s.chanServes n = true ∧ s.chanLines ≠ 0 ∧ (s.eccChan n).scrubAt + s.setting 0x3600 4 / s.chanLines ≤ s.now ∧ k = s.skipRetired n (s.eccChan n).scrub (s.chanLines / 32768) ∧ k < s.chanLines ∧ ln = scrubLineOf n k ∧ w = ((s.askRead (lineSlot ln) 0x0F 6 1).count 485 1).modEcc (fun e => { e with scrubbed := e.scrubbed + 1 }) ∧ u = w.modEccChan n (fun e => { e with scrub := k + 1, scrubAt := w.now, passLines := e.passLines + 1 }) ∧ (∀ r ∈ u.ecc.repairs, r.line ≠ ln) ∧ v = ((u.lineRead ln 1 (b0 ++ b1)).scrubPoison n ln).scrubLeave ln ∧ v.skipRetired n (k + 1) (v.chanLines / 32768) < v.chanLines) := by
  and_intros
  · exact ⟨dev, 70, ([]), [], ((halfOf (State.x8 (dev : State)) 0 ([] : List Nat))), ((halfOf (State.x8 (dev : State)) 1 ([] : List Nat))), by decide +kernel, by decide +kernel, by decide +kernel, by decide +kernel, rfl, rfl, by decide +kernel, by decide +kernel, by decide +kernel⟩
  · exact ⟨dev, 70, ([5]), [], ((halfOf (State.x8 (dev : State)) 0 ([5] : List Nat))), ((halfOf (State.x8 (dev : State)) 1 ([5] : List Nat))), ((match decodeHalf ((halfOf (State.x8 (dev : State)) 0 ([5] : List Nat)) : List Nat) [] with | .corrected r _ => r | _ => [])), ((match decodeHalf ((halfOf (State.x8 (dev : State)) 0 ([5] : List Nat)) : List Nat) [] with | .corrected _ y => y | _ => [])), by decide +kernel, by decide +kernel, by decide +kernel, by decide +kernel, rfl, rfl, by decide +kernel, by decide +kernel, by decide +kernel⟩
  · exact ⟨dev, 70, ([605590388736, 283467841536, 738734374912, 227633266688, 236223201280, 816043786240, 416611827712, 1000727379968]), [], ((halfOf (State.x8 (dev : State)) 0 ([605590388736, 283467841536, 738734374912, 227633266688, 236223201280, 816043786240, 416611827712, 1000727379968] : List Nat))), ((halfOf (State.x8 (dev : State)) 1 ([605590388736, 283467841536, 738734374912, 227633266688, 236223201280, 816043786240, 416611827712, 1000727379968] : List Nat))), by decide +kernel, by decide +kernel, by decide +kernel, by decide +kernel, rfl, rfl, by decide +kernel, by decide +kernel⟩
  · exact ⟨dev, 70, ([30001, 0, 0, 0, 1602]), [], ((halfOf (State.x8 (dev : State)) 0 ([30001, 0, 0, 0, 1602] : List Nat))), ((halfOf (State.x8 (dev : State)) 1 ([30001, 0, 0, 0, 1602] : List Nat))), by decide +kernel, by decide +kernel, by decide +kernel, by decide +kernel, rfl, rfl, by decide +kernel, by decide +kernel, by decide +kernel⟩
  · exact ⟨owner, rq, 0, 16, by unfold MayPut MayWrite; decide +kernel, by decide +kernel, by decide +kernel, by decide +kernel, by decide +kernel⟩
  · exact ⟨({ owner with ecc := { chans := [(0, { erased := [(0, 1)] })] } }), rq, 0, 0, 1, by unfold MayPut MayWrite; decide +kernel, by decide +kernel⟩
  · exact ⟨({ dev with now := 1000000000000000 }), 0, by decide +kernel⟩
  · exact ⟨({ dev with ecc := { repairs := [{ line := 70, since := 0 }] } }), 70, ({ line := 70, since := 0 }), by decide +kernel, by decide +kernel⟩
  · exact ⟨({ dev with ecc := { resend := [(slotGran 1 2, 0, 5)] } }), 1, 2, 0, 5, by decide +kernel, by decide +kernel, by decide +kernel⟩
  · exact ⟨({ dev with ecc := { chans := [(0, { scrub := 536870912 })] } }), 0, by decide +kernel, by decide +kernel, by decide +kernel, by decide +kernel, by decide +kernel⟩
  · exact ⟨dev, (((((dev : State).askRead (lineSlot (scrubLineOf 0 0 : Nat)) 0x0F 6 1).count 485 1).modEcc (fun e => { e with scrubbed := e.scrubbed + 1 }))), (((((((dev : State).askRead (lineSlot (scrubLineOf 0 0 : Nat)) 0x0F 6 1).count 485 1).modEcc (fun e => { e with scrubbed := e.scrubbed + 1 })) : State).modEccChan (0 : Nat) (fun e => { e with scrub := (0 : Nat) + 1, scrubAt := ((((((dev : State).askRead (lineSlot (scrubLineOf 0 0 : Nat)) 0x0F 6 1).count 485 1).modEcc (fun e => { e with scrubbed := e.scrubbed + 1 })) : State)).now, passLines := e.passLines + 1 }))), (((((((((((dev : State).askRead (lineSlot (scrubLineOf 0 0 : Nat)) 0x0F 6 1).count 485 1).modEcc (fun e => { e with scrubbed := e.scrubbed + 1 })) : State).modEccChan (0 : Nat) (fun e => { e with scrub := (0 : Nat) + 1, scrubAt := ((((((dev : State).askRead (lineSlot (scrubLineOf 0 0 : Nat)) 0x0F 6 1).count 485 1).modEcc (fun e => { e with scrubbed := e.scrubbed + 1 })) : State)).now, passLines := e.passLines + 1 })) : State).lineRead (scrubLineOf 0 0 : Nat) 1 ([] : List Nat)).scrubPoison (0 : Nat) (scrubLineOf 0 0 : Nat)).scrubLeave (scrubLineOf 0 0 : Nat))), 0, 0, (scrubLineOf 0 0), ([]), [], by decide +kernel, by decide +kernel, by decide +kernel, by decide +kernel, by decide +kernel, by decide +kernel, by decide +kernel, rfl, rfl, by decide +kernel, rfl, by decide +kernel⟩

/-- States and operands that meet the hypotheses of CipherKeysAndBlocksAct, clause by clause. -/
theorem witness_cipherKeysAndBlocksAct :
    (∃ (s : State) (rq : Req) (n : Nat) (b : Bytes), MayWrite s rq (0x8000 + n) 1 b ∧ tyCode (0x8000 + n) 1 = 9 ∧ (s.touch rq).loadFails n b = St.ok) ∧
    (∃ (s : State) (rq : Req) (n : Nat), MayPut s rq (0x8000 + n) 2 1 1) ∧
    (∃ (s : State) (slot : Nat), (s.keySlot slot).state = 0 ∧ s.hingeKeyUsed slot = true ∧ assoc s.cipher.reminded (2 * slot + 1) = none) ∧
    (∃ (s : State) (user : CipherUser) (slot : Nat) (gen : Nat) (k : Nat), user ≠ .ring ∧ s.keyFits user slot gen = true ∧ s.freeCtx user = some k) ∧
    (∃ (s : State) (ctx : Nat) (pipe : Nat) (c : CCtx), assoc s.cipher.ctxs ctx = some c ∧ c.user ≠ .ring ∧ s.cipher.pipes.getLsbD pipe = true ∧ c.released + 16 < c.len) ∧
    (∃ (s : State) (ctx : Nat) (pipe : Nat) (c : CCtx), assoc s.cipher.ctxs ctx = some c ∧ c.user ≠ .ring ∧ s.cipher.pipes.getLsbD pipe = true ∧ c.len ≤ c.released + 16) ∧
    (∃ (s : State) (ctx : Nat) (pipe : Nat) (c : CCtx) (f : Flight), assoc s.cipher.ctxs ctx = some c ∧ c.user = .ring ∧ s.cipher.pipes.getLsbD pipe = true ∧ s.flight c.ring c.idx = some f ∧ f.stage = 2 ∧ c.released < c.len) ∧
    (∃ (s : State) (ctx : Nat) (pipe : Nat) (c : CCtx) (stageOk : Bool) (keyOk : Bool) (hashOk : Bool), assoc s.cipher.ctxs ctx = some c ∧ c.user ≠ .ring ∧ s.cipher.pipes.getLsbD pipe = true ∧ (stageOk && keyOk && hashOk) = false) ∧
    (∃ (s : State) (rq : Req), MayPut s rq 0x3700 8 1 1 ∧ (s.touch rq).cipher.pipes = BitVec.allOnes 16) ∧
    (∃ (s : State) (rq : Req) (p : Nat), MayPut s rq 0x3700 8 1 1 ∧ (List.range 16).filter (fun p => !(s.touch rq).cipher.pipes.getLsbD p) = [p]) := by
  and_intros
  · exact ⟨owner, rq, 0, (leBytes 1 2 ++ leBytes 1 0 ++ leBytes 2 1 ++ leBytes 4 0 ++ leBytes 32 5 ++ leBytes 32 0), by unfold MayWrite; decide +kernel, by decide +kernel, by decide +kernel⟩
  · exact ⟨owner, rq, 0, by unfold MayPut MayWrite; decide +kernel⟩
  · exact ⟨({ dev with settings := [(okey 0x2200 7, 3), (okey 0x2210 8, 1)] }), 3, by decide +kernel, by decide +kernel, by decide +kernel⟩
  · exact ⟨(ringed []), .hingeTx, 3, 1, 0, by decide +kernel, by decide +kernel, by decide +kernel⟩
  · exact ⟨({ dev with cipher := { ctxs := [(0, { user := .hingeTx, slot := 3, gen := 1, key := 5, mode := 1, len := 64 })] } }), 0, 2, ({ user := .hingeTx, slot := 3, gen := 1, key := 5, mode := 1, len := 64 }), by decide +kernel, by decide +kernel, by decide +kernel, by decide +kernel⟩
  · exact ⟨({ dev with cipher := { ctxs := [(12, { user := .hingeRx, slot := 3, gen := 1, key := 5, mode := 1, len := 16 })] } }), 12, 2, ({ user := .hingeRx, slot := 3, gen := 1, key := 5, mode := 1, len := 16 }), by decide +kernel, by decide +kernel, by decide +kernel, by decide +kernel⟩
  · exact ⟨({ dev with rings := { rings := [(0, { state := 1, flight := [{ idx := 0, bytes := [], stage := 2 }] })] }, cipher := { ctxs := [(32, { user := .ring, slot := 3, gen := 1, key := 5, mode := 1, len := 64 })] } }), 32, 2, ({ user := .ring, slot := 3, gen := 1, key := 5, mode := 1, len := 64 }), ({ idx := 0, bytes := [], stage := 2 }), by decide +kernel, by decide +kernel, by decide +kernel, by decide +kernel, by decide +kernel, by decide +kernel⟩
  · exact ⟨({ dev with cipher := { ctxs := [(0, { user := .hingeTx, slot := 3, gen := 1, key := 5, mode := 1, len := 64 })] } }), 0, 2, ({ user := .hingeTx, slot := 3, gen := 1, key := 5, mode := 1, len := 64 }), true, false, true, by decide +kernel, by decide +kernel, by decide +kernel, by decide +kernel⟩
  · exact ⟨owner, rq, by unfold MayPut MayWrite; decide +kernel, by decide +kernel⟩
  · exact ⟨({ owner with cipher := { pipes := BitVec.allOnes 16 ^^^ 4 } }), rq, 2, by unfold MayPut MayWrite; decide +kernel, by decide +kernel⟩

/-- States and operands that meet the hypotheses of EnginesAndImagesAct, clause by clause. -/
theorem witness_enginesAndImagesAct :
    (∃ (s : State) (e : Nat), s.engineRuns e = true ∧ s.steward.updating = 0xFF) ∧
    (∃ (s : State) (e : Nat), (s.engine e).state = 3) ∧
    (∃ (s : State) (rq : Req), MayPut s rq 0x3820 4 1 1 ∧ (s.touch rq).steward.updating = 0xFF ∧ ((s.touch rq).image (s.touch rq).otherSlot).state = 1 ∧ ((s.touch rq).image (s.touch rq).otherSlot).ifaceNow = ((s.touch rq).image (s.touch rq).steward.running).ifaceNow ∧ s.persist.state ≠ 1 ∧ s.persist.state ≠ 3 ∧ s.twin.state ≠ 6 ∧ s.twin.state ≠ 9 ∧ (∀ c, c < 6 → ((s.touch rq).cluster c).state = 0)) ∧
    (∃ (s : State) (rq : Req), MayPut s rq 0x3820 4 1 2 ∧ (s.touch rq).steward.updating = 0xFF ∧ ((s.touch rq).image (s.touch rq).otherSlot).state = 1) ∧
    (∃ (s : State) (rq : Req), MayPut s rq 0x3820 4 1 3 ∧ (s.touch rq).steward.updating = 0xFF ∧ ((s.touch rq).image 0).active = true ∧ (((s.touch rq).image 1).state = 1 ∨ ((s.touch rq).image 1).state = 2)) ∧
    (∃ (s : State), s.steward.updating < 5 ∧ s.steward.rollBack = none ∧ (((s.clusterServes s.steward.updating).clusterEvent s.steward.updating 2 St.ok).steward.rollStop = false)) ∧
    (∃ (s : State), s.steward.updating < 6 ∧ s.steward.rollBack = none) ∧
    (∃ (v : Nat) (word : BitVec 80), decodeWord word.toNat = some (v, false)) ∧
    (∃ (v : Nat) (word : BitVec 80), decodeWord word.toNat = some (v, true)) ∧
    (∃ (word : BitVec 80), decodeWord word.toNat = none) := by
  and_intros
  · exact ⟨dev, 3, by decide +kernel, by decide +kernel⟩
  · exact ⟨({ dev with steward := { engines := [(3, { state := 3 })] } }), 3, by decide +kernel⟩
  · exact ⟨({ owner with steward := { images := [{ state := 2, active := true }, { state := 1 }] } }), rq, by unfold MayPut MayWrite; decide +kernel, by decide +kernel, by decide +kernel, by decide +kernel, by decide +kernel, by decide +kernel, by decide +kernel⟩
  · exact ⟨({ owner with steward := { images := [{ state := 2, active := true, factory := true }, { state := 1 }] } }), rq, by unfold MayPut MayWrite; decide +kernel, by decide +kernel, by decide +kernel⟩
  · exact ⟨({ owner with steward := { images := [{ state := 2, active := true, factory := true }, { state := 1 }] } }), rq, by unfold MayPut MayWrite; decide +kernel, by decide +kernel, by decide +kernel, by decide +kernel⟩
  · exact ⟨({ dev with steward := { updating := 2 } }), by decide +kernel, by decide +kernel, by decide +kernel⟩
  · exact ⟨({ dev with steward := { updating := 2 } }), by decide +kernel, by decide +kernel⟩
  · exact ⟨0, 0, by decide +kernel⟩
  · exact ⟨0, 1, by decide +kernel⟩
  · exact ⟨7, by decide +kernel⟩

/-- States and operands that meet the hypotheses of CachesServeAndMaintain, clause by clause. -/
theorem witness_cachesServeAndMaintain :
    (∃ (s : State) (e : Nat) (addr : Nat) (w : Nat) (x : CWay), s.engineRuns e = true ∧ s.cacheOn (e / 8) = true ∧ (s.cluster (e / 8)).find (addr / 64) = some (w, x) ∧ x.prefetched = false) ∧
    (∃ (s : State) (e : Nat) (addr : Nat), s.engineRuns e = true ∧ s.cacheOn (e / 8) = true ∧ (s.cluster (e / 8)).find (addr / 64) = none) ∧
    (∃ (s : State) (e : Nat) (be : BitVec 64), s.engineRuns e = true ∧ s.cacheOn (e / 8) = false ∧ (s.cluster (e / 8)).merge = [] ∧ be ≠ BitVec.allOnes 64) ∧
    (∃ (s : State) (c : Nat) (addr : Nat) (f : CFill), (s.cluster c).fills.find? (fun f => f.line == addr / 64) = some f ∧ f.install = false ∧ s.inDram (addr / 64) = false) ∧
    (∃ (s : State) (c : Nat) (addr : Nat) (f : CFill), (s.cluster c).fills.find? (fun f => f.line == addr / 64) = some f ∧ f.install = false ∧ s.inDram (addr / 64) = true) ∧
    (∃ (s : State) (u : State) (c : Nat) (e : MEnt), (s.cluster c).merge = [e] ∧ s.inDram e.line = true ∧ u = ((s.modCluster c (fun k => { k with merge := k.merge.drop 1 })).emit (.clusterStore c (64 * e.line) e.data e.mask e.poison)).askWrite (lineSlot e.line) (0x12 + c) 7 1) ∧
    (∃ (s : State) (c : Nat), (∀ e ∈ (s.cluster c).merge, s.inDram e.line = false)) ∧
    (∃ (s : State) (c : Nat) (way : Nat) (addr : Nat), (s.cluster c).locked.getLsbD way = true ∧ s.cacheOn c = true ∧ (s.cluster c).find (addr / 64) = none ∧ (s.cluster c).fills = []) ∧
    (∃ (s : State) (c : Nat) (way : Nat), (s.cluster c).locked = 0 ∧ (s.cluster c).lockPend = [] ∧ way < 16) ∧
    (∃ (s : State) (rq : Req) (c : Nat), MayPut s rq (0x3810 + c) 2 1 0) ∧
    (∃ (s : State) (rq : Req) (c : Nat), MayPut s rq (0x3810 + c) 2 1 1) := by
  and_intros
  · exact ⟨({ dev with steward := { clusters := [(0, { sets := [(lineSet 64, [(0, { tag := lineTag 64, valid := true, age := 0, data := 7 })])] })] } }), 3, 4096, 0, ({ tag := lineTag 64, valid := true, age := 0, data := 7 }), by decide +kernel, by decide +kernel, by decide +kernel, by decide +kernel⟩
  · exact ⟨dev, 3, 4096, by decide +kernel, by decide +kernel, by decide +kernel⟩
  · exact ⟨({ dev with settings := [(okey 0x3810 2, 0)] }), 3, 255, by decide +kernel, by decide +kernel, by decide +kernel, by decide +kernel⟩
  · exact ⟨({ dev with steward := { clusters := [(0, { fills := [{ line := 2 ^ 34, kind := 1, install := false }] })] } }), 0, (2 ^ 40), ({ line := 2 ^ 34, kind := 1, install := false }), by decide +kernel, by decide +kernel, by decide +kernel⟩
  · exact ⟨({ dev with steward := { clusters := [(0, { fills := [{ line := 64, kind := 1, install := false }] })] } }), 0, 4096, ({ line := 64, kind := 1, install := false }), by decide +kernel, by decide +kernel, by decide +kernel⟩
  · exact ⟨({ dev with steward := { clusters := [(0, { merge := [{ line := 64, data := 7, mask := 255, since := 0 }] })] } }), ((((State.modCluster ({ dev with steward := { clusters := [(0, { merge := [{ line := 64, data := 7, mask := 255, since := 0 }] })] } } : State) (0 : Nat) (fun k => { k with merge := k.merge.drop 1 })).emit (.clusterStore (0 : Nat) (64 * (({ line := 64, data := 7, mask := 255, since := 0 } : MEnt)).line) (({ line := 64, data := 7, mask := 255, since := 0 } : MEnt)).data (({ line := 64, data := 7, mask := 255, since := 0 } : MEnt)).mask (({ line := 64, data := 7, mask := 255, since := 0 } : MEnt)).poison)).askWrite (lineSlot (({ line := 64, data := 7, mask := 255, since := 0 } : MEnt)).line) (0x12 + (0 : Nat)) 7 1)), 0, ({ line := 64, data := 7, mask := 255, since := 0 }), by decide +kernel, by decide +kernel, rfl⟩
  · exact ⟨({ dev with steward := { clusters := [(0, { merge := [{ line := 2 ^ 34, data := 7, mask := 255, since := 0 }] })] } }), 0, by decide +kernel⟩
  · exact ⟨({ dev with steward := { clusters := [(0, { locked := 4 })] } }), 0, 2, 4096, by decide +kernel, by decide +kernel, by decide +kernel, by decide +kernel⟩
  · exact ⟨dev, 0, 2, by decide +kernel, by decide +kernel, by decide +kernel⟩
  · exact ⟨owner, rq, 0, by unfold MayPut MayWrite; decide +kernel⟩
  · exact ⟨owner, rq, 0, by unfold MayPut MayWrite; decide +kernel⟩

/-- States and operands that meet the hypotheses of StrongboxTakesWork, clause by clause. -/
theorem witness_strongboxTakesWork :
    (∃ (s : State) (op : Nat) (d : SbDesc) (bad : List Nat) (c : Instr), (op, c) ∈ [(1, Instr.sbRead d bad), (6, .sbMarginRead d bad)] ∧ SbAccepts s op d) ∧
    (∃ (s : State) (d : SbDesc), SbAccepts s 2 d ∧ d.poison = false) ∧
    (∃ (s : State) (d : SbDesc), SbAccepts s 2 d ∧ d.poison = true) ∧
    (∃ (s : State) (d : SbDesc), SbAccepts s 3 d) ∧
    (∃ (s : State) (d : SbDesc), SbAccepts s 4 d) ∧
    (∃ (s : State) (d : SbDesc), SbAccepts s 5 d) ∧
    (∃ (s : State) (d : SbDesc), formFails 3 d = [] ∧ s.protFails 3 d = [] ∧ 64 ≤ s.sbOut (fun _ => true) ∧ srcIsDict d.src = false) ∧
    (∃ (s : State) (d : SbDesc), s.protFails 3 d = [] ∧ sbDescChecks 3 d = false) ∧
    (∃ (s : State) (n : Nat) (g : SbProg), (s.plane n).prog = some g ∧ g.pulses < 15) ∧
    (∃ (s : State) (n : Nat) (g : SbProg), (s.plane n).prog = some g ∧ 256 * (g.done + 1) ≠ g.entry.d.len ∧ (((g.entry.d.data.drop (256 * g.done)).take 256).length = 256)) ∧
    (∃ (s : State) (n : Nat), (s.plane n).state = 2) ∧
    (∃ (s : State) (n : Nat), (s.plane n).state = 2 ∧ (s.plane n).pulses + 1 = 40) ∧
    (∃ (s : State) (n : Nat), (s.plane n).state = 3) ∧
    (∃ (s : State) (n : Nat), (s.plane n).state = 1 ∧ s.sbox.flushHold = false) ∧
    (∃ (s : State) (n : Nat), (s.plane n).state = 4 ∧ (s.plane n).prog = none ∧ (s.plane n).suspAt + s.setting 0x3900 9 ≤ s.now) ∧
    (∃ (s : State) (n : Nat), (s.plane n).state = 2 ∧ s.ranLong n = true) := by
  and_intros
  · exact ⟨dev, 1, (sbSeal 1 ({ src := .firmware, sector := 5, len := 64 })), ([]), (.sbRead (sbSeal 1 ({ src := .firmware, sector := 5, len := 64 }) : SbDesc) ([] : List Nat)), by decide +kernel, by unfold SbAccepts; decide +kernel⟩
  · exact ⟨dev, (sbSeal 2 ({ src := .firmware, sector := 5, len := 256 })), by unfold SbAccepts; decide +kernel, by decide +kernel⟩
  · exact ⟨dev, (sbSeal 2 ({ src := .firmware, sector := 5, len := 256, poison := true })), by unfold SbAccepts; decide +kernel, by decide +kernel⟩
  · exact ⟨dev, (sbSeal 3 ({ src := .firmware, sector := 5 })), by unfold SbAccepts; decide +kernel⟩
  · exact ⟨dev, (sbSeal 4 ({ src := .firmware, sector := 5 })), by unfold SbAccepts; decide +kernel⟩
  · exact ⟨dev, (sbSeal 5 ({ src := .firmware, sector := 5 })), by unfold SbAccepts; decide +kernel⟩
  · exact ⟨({ dev with sbox := { dev.sbox with queue := List.replicate 64 { op := 1, d := { src := .firmware, sector := 5, len := 64 } } } }), (sbSeal 3 ({ src := .firmware, sector := 5 })), by decide +kernel, by decide +kernel, by decide +kernel, by decide +kernel⟩
  · exact ⟨dev, ({ src := .firmware, sector := 5, check := 1 }), by decide +kernel, by decide +kernel⟩
  · exact ⟨({ dev with sbox := { dev.sbox with planes := [(0, { state := 1, prog := some { entry := { op := 2, d := { src := .firmware, sector := 5, len := 256 } } } })] } }), 0, ({ entry := { op := 2, d := { src := .firmware, sector := 5, len := 256 } } }), by decide +kernel, by decide +kernel⟩
  · exact ⟨({ dev with sbox := { dev.sbox with planes := [(0, { state := 1, prog := some { entry := { op := 2, d := { src := .firmware, sector := 5, len := 512, data := List.replicate 512 7 } } } })] } }), 0, ({ entry := { op := 2, d := { src := .firmware, sector := 5, len := 512, data := List.replicate 512 7 } } }), by decide +kernel, by decide +kernel, by decide +kernel⟩
  · exact ⟨({ dev with sbox := { dev.sbox with planes := [(0, { state := 2 })] } }), 0, by decide +kernel⟩
  · exact ⟨({ dev with sbox := { dev.sbox with planes := [(0, { state := 2, pulses := 39 })] } }), 0, by decide +kernel, by decide +kernel⟩
  · exact ⟨({ dev with sbox := { dev.sbox with planes := [(0, { state := 3 })] } }), 0, by decide +kernel⟩
  · exact ⟨({ dev with sbox := { dev.sbox with planes := [(0, { state := 1 })] } }), 0, by decide +kernel, by decide +kernel⟩
  · exact ⟨({ dev with sbox := { dev.sbox with planes := [(0, { state := 4 })] } }), 0, by decide +kernel, by decide +kernel, by decide +kernel⟩
  · exact ⟨({ dev with sbox := { dev.sbox with planes := [(0, { state := 2 })] } }), 0, by decide +kernel, by decide +kernel⟩

/-- States and operands that meet the hypotheses of RecorderAndCountersAct, clause by clause. -/
theorem witness_recorderAndCountersAct :
    (∃ (s : State) (rq : Req) (n : Nat), MayPut s rq (0xA000 + n) 9 1 0) ∧
    (∃ (s : State) (rq : Req), MayPut s rq 0x3A00 0x0D 1 1) ∧
    (∃ (s : State) (rq : Req), MayPut s rq 0x3A00 6 1 1 ∧ (s.touch rq).sbox.flushHold = false) ∧
    (∃ (s : State) (rq : Req), MayPut s rq 0x3A00 5 1 1) ∧
    (∃ (s : State) (source : Nat) (cause : Nat) (w : Window), s.syncMode.windowOf (source * 256 + cause) = some w ∧ w.bucket = false ∧ w.since + w.len ≤ s.syncMode.now ∧ w.count = 0) ∧
    (∃ (s : State) (source : Nat) (cause : Nat) (w : Window), s.syncMode.windowOf (source * 256 + cause) = some w ∧ w.bucket = false ∧ w.since + w.len ≤ s.syncMode.now ∧ 0 < w.count) ∧
    (∃ (s : State) (source : Nat) (cause : Nat) (w : Window), s.syncMode.windowOf (source * 256 + cause) = some w ∧ w.bucket = true ∧ s.syncMode.setting 0x3A00 0x0B ≤ w.tokens + (s.syncMode.now - w.since) * s.syncMode.setting 0x3A00 0x0A / 1000000000 ∧ w.count = 0) ∧
    (∃ (s : State) (u : State) (source : Nat) (cause : Nat) (w : Window), s.syncMode.windowOf (source * 256 + cause) = some w ∧ w.bucket = true ∧ u = s.syncMode.record (s.syncMode.summaryOf w) ∧ s.syncMode.setting 0x3A00 0x0B ≤ w.tokens + (s.syncMode.now - w.since) * s.syncMode.setting 0x3A00 0x0A / 1000000000 ∧ 0 < w.count) ∧
    (∃ (s : State) (src : Nat), assoc s.rec_.irq 0 = some src ∧ assoc s.rec_.irqAt 0 = none ∧ (assoc s.dict.i3c 0).isSome = true) ∧
    (∃ (s : State) (rq : Req) (n : Nat) (v : Nat), MayPut s rq (0xB000 + n) 7 8 v) ∧
    (∃ (s : State) (rq : Req) (mask : Nat), MayPut s rq 0x3B00 1 4 mask) ∧
    (∃ (s : State) (u : State), u = (List.range 4).foldl (fun s p => s.countPause p) s ∧ u.rec_.sLostAt = none) := by
  and_intros
  · exact ⟨owner, rq, 16, by unfold MayPut MayWrite; decide +kernel⟩
  · exact ⟨owner, rq, by unfold MayPut MayWrite; decide +kernel⟩
  · exact ⟨owner, rq, by unfold MayPut MayWrite; decide +kernel, by decide +kernel⟩
  · exact ⟨owner, rq, by unfold MayPut MayWrite; decide +kernel⟩
  · exact ⟨({ hosted with rec_ := { dev.rec_ with mode := 1, windows := [{ code := 25601, since := 0, len := 5 }] } }), 100, 1, ({ code := 25601, since := 0, len := 5 }), by decide +kernel, by decide +kernel, by decide +kernel, by decide +kernel⟩
  · exact ⟨({ hosted with rec_ := { dev.rec_ with mode := 1, windows := [{ code := 25601, since := 0, len := 5, count := 2 }] } }), 100, 1, ({ code := 25601, since := 0, len := 5, count := 2 }), by decide +kernel, by decide +kernel, by decide +kernel, by decide +kernel⟩
  · exact ⟨({ hosted with rec_ := { dev.rec_ with mode := 1, windows := [{ code := 25601, since := 0, bucket := true }] } }), 100, 1, ({ code := 25601, since := 0, bucket := true }), by decide +kernel, by decide +kernel, by decide +kernel, by decide +kernel⟩
  · exact ⟨({ hosted with rec_ := { dev.rec_ with mode := 1, windows := [{ code := 25601, since := 0, bucket := true, count := 2 }] } }), (((State.syncMode ({ hosted with rec_ := { dev.rec_ with mode := 1, windows := [{ code := 25601, since := 0, bucket := true, count := 2 }] } } : State)).record ((State.syncMode ({ hosted with rec_ := { dev.rec_ with mode := 1, windows := [{ code := 25601, since := 0, bucket := true, count := 2 }] } } : State)).summaryOf ({ code := 25601, since := 0, bucket := true, count := 2 } : Window)))), 100, 1, ({ code := 25601, since := 0, bucket := true, count := 2 }), by decide +kernel, by decide +kernel, rfl, by decide +kernel, by decide +kernel⟩
  · exact ⟨({ dev with dict := { i3c := [(0, 8)] }, rec_ := { dev.rec_ with irq := [(0, 100)] } }), 100, by decide +kernel, by decide +kernel, by decide +kernel⟩
  · exact ⟨owner, rq, 0, 7, by unfold MayPut MayWrite; decide +kernel⟩
  · exact ⟨owner, rq, 5, by unfold MayPut MayWrite; decide +kernel⟩
  · exact ⟨dev, ((List.range 4).foldl (fun s p => State.countPause s p) (dev : State)), rfl, by decide +kernel⟩

end Sys2Proof.Tests
end

