-- ==== Sys2Proof/Tests/WitnessVault.lean ====
section
/-! SUPPORT. The hypotheses of the statements about placement, persistence and the twin are met: one theorem a statement, with a state and operands for
each of its clauses. -/

set_option Elab.async false

namespace Sys2Proof.Tests
open Sys2Proof.Machine Sys2Proof.Claims

/-- States and operands that meet the hypotheses of PlacementTimersAct, clause by clause. -/
theorem witness_placementTimersAct :
    (∃ (s : State), s.place.epochAt / s.setting 0x3200 2 < s.poolTime / s.setting 0x3200 2 ∧ s.serves = false) ∧
    (∃ (s : State), s.place.epochAt / s.setting 0x3200 2 < s.poolTime / s.setting 0x3200 2 ∧ s.serves = true) ∧
    (∃ (s : State) (key : Nat), s.ownDir key = true ∧ (s.dirEnt key).state = 3 ∧ (s.dirEnt key).since + s.setting 0x3220 7 ≤ s.now ∧ (s.dirEnt key).home ≠ s.vault) ∧
    (∃ (s : State) (key : Nat) (m : Mig), s.serves = true ∧ (s.heldTooLong key).migOf key = some m ∧ (m.phase = 3 ∨ m.phase = 5) ∧ m.frozen + (s.heldTooLong key).setting 0x3220 4 ≤ (s.heldTooLong key).now) ∧
    (∃ (s : State) (key : Nat) (x : Tomb), x ∈ s.place.tombs ∧ x.key = key ∧ x.acked = true ∧ x.expires ≤ s.now) ∧
    (∃ (s : State) (rq : Req), MayPut s rq 0x3230 8 1 1) ∧
    (∃ (s : State) (key : Nat) (vault : Nat) (c : CopyOut), s.place.copyOuts.find? (fun c => c.key == key && c.vault == vault) = some c ∧ 3 ≤ c.phase ∧ (c.dropping = true ∨ (∃ i ∈ s.place.invals, i.key = key ∧ i.vault = vault)) ∧ c.lease + s.setting 0x3220 0x0B ≤ s.poolTime) ∧
    (∃ (s : State), s.serves = true) := by
  and_intros
  · exact ⟨({ dev with twin := { dev.twin with state := 4 } }), by decide +kernel, by decide +kernel⟩
  · exact ⟨dev, by decide +kernel, by decide +kernel⟩
  · exact ⟨({ directed with place := { dir := [(5, { state := 3, home := 0, dst := 1 })] } }), 5, by decide +kernel, by decide +kernel, by decide +kernel, by decide +kernel⟩
  · exact ⟨({ dev with place := { migs := [{ key := 5, slot := 0, dst := 0, phase := 3 }] } }), 5, ({ key := 5, slot := 0, dst := 0, phase := 3 }), by decide +kernel, by decide +kernel, by decide +kernel, by decide +kernel⟩
  · exact ⟨({ dev with place := { tombs := [{ key := 5, vault := 0, slot := 1, gen := 2, acked := true, expires := 0 }] } }), 5, ({ key := 5, vault := 0, slot := 1, gen := 2, acked := true, expires := 0 }), by decide +kernel, by decide +kernel, by decide +kernel, by decide +kernel⟩
  · exact ⟨owner, rq, by unfold MayPut MayWrite; decide +kernel⟩
  · exact ⟨({ directed with place := { copyOuts := [{ key := 5, vault := 0, slot := 1, phase := 3 }], invals := [{ token := 1, key := 5, line := 0, vault := 0, write := 0, since := 0 }] } }), 5, 0, ({ key := 5, vault := 0, slot := 1, phase := 3 }), by decide +kernel, by decide +kernel, by decide +kernel, by decide +kernel⟩
  · exact ⟨dev, by decide +kernel⟩

/-- States and operands that meet the hypotheses of PlacementFramesAct, clause by clause. -/
theorem witness_placementFramesAct :
    (∃ (s : State) (u : State) (v : State) (h : Hdr) (q : ReqSub) (w : Bool) (home : Nat) (slot : Nat) (gen : Nat), Got s h (.lookup q w) u ∧ u.ownDir q.key = true ∧ u.lookupWaits q.key = false ∧ u.dirLookup q.key w (h.src, q.entry, q.num) = (v, .home home slot gen)) ∧
    (∃ (s : State) (u : State) (h : Hdr) (q : ReqSub) (w : Bool), Got s h (.lookup q w) u ∧ u.ownDir q.key = true ∧ u.lookupWaits q.key = true) ∧
    (∃ (s : State) (u : State) (h : Hdr) (c : ChunkSub) (ls : List Line), Got s h (.chunk c ls []) u ∧ u.serves = true ∧ c.slot < u.extents ∧ c.kind = 0 ∧ u.place.migIns.any (fun m => m.key == c.key && m.slot == c.slot) = true) ∧
    (∃ (s : State) (u : State) (h : Hdr) (c : ChunkSub) (ls : List Line), Got s h (.chunk c ls []) u ∧ u.serves = true ∧ c.slot < u.extents ∧ c.kind ≠ 0 ∧ u.place.copyIns.any (fun x => x.slot == c.slot && x.key == c.key) = true) ∧
    (∃ (s : State) (u : State) (h : Hdr) (c : ChunkSub) (ls : List Line), Got s h (.chunk c ls []) u ∧ u.serves = true ∧ u.extents ≤ c.slot) ∧
    (∃ (s : State) (u : State) (h : Hdr) (c : ChunkSub), Got s h (.chunkAck c) u ∧ u.serves = true ∧ c.kind = 0) ∧
    (∃ (s : State) (u : State) (h : Hdr) (key : Nat) (slot : Nat) (line : Nat) (count : Nat) (token : Nat), Got s h (.inval key slot line count token) u) ∧
    (∃ (s : State) (u : State) (h : Hdr) (token : Nat), Got s h (.invalAck token) u) := by
  and_intros
  · exact ⟨({ directed with place := { dir := [(5, { state := 2, home := 0, slot := 7, gen := 3 })] } }), ((State.rx ({ directed with place := { dir := [(5, { state := 2, home := 0, slot := 7, gen := 3 })] } } : State) (sealHdr (from0 : Hdr) ((.lookup ({ entry := 1, num := 2, key := 5 } : ReqSub) (false : Bool))) : Hdr) (.lookup ({ entry := 1, num := 2, key := 5 } : ReqSub) (false : Bool)) false).1), ((((State.rx ({ directed with place := { dir := [(5, { state := 2, home := 0, slot := 7, gen := 3 })] } } : State) (sealHdr (from0 : Hdr) ((.lookup ({ entry := 1, num := 2, key := 5 } : ReqSub) (false : Bool))) : Hdr) (.lookup ({ entry := 1, num := 2, key := 5 } : ReqSub) (false : Bool)) false).1 : State).dirLookup 5 false (0, 1, 2)).1), (sealHdr (from0 : Hdr) ((.lookup ({ entry := 1, num := 2, key := 5 } : ReqSub) (false : Bool)))), ({ entry := 1, num := 2, key := 5 }), false, 0, 7, 3, got_of (by decide +kernel), by decide +kernel, by decide +kernel, by decide +kernel⟩
  · exact ⟨({ directed with pool := { directed.pool with mapWait := [(mapIndex 5, 0)] } }), ((State.rx ({ directed with pool := { directed.pool with mapWait := [(mapIndex 5, 0)] } } : State) (sealHdr (from0 : Hdr) ((.lookup ({ entry := 1, num := 2, key := 5 } : ReqSub) (false : Bool))) : Hdr) (.lookup ({ entry := 1, num := 2, key := 5 } : ReqSub) (false : Bool)) false).1), (sealHdr (from0 : Hdr) ((.lookup ({ entry := 1, num := 2, key := 5 } : ReqSub) (false : Bool)))), ({ entry := 1, num := 2, key := 5 }), false, got_of (by decide +kernel), by decide +kernel, by decide +kernel⟩
  · exact ⟨({ dev with place := { migIns := [{ key := 5, slot := 1, src := 0, sslot := 0 }] } }), ((State.rx ({ dev with place := { migIns := [{ key := 5, slot := 1, src := 0, sslot := 0 }] } } : State) (sealHdr (from0 : Hdr) ((.chunk ({ key := 5, kind := 0, slot := 1, line := 0, count := 1, pass := 1 } : ChunkSub) ([0] : List Line) [])) : Hdr) (.chunk ({ key := 5, kind := 0, slot := 1, line := 0, count := 1, pass := 1 } : ChunkSub) ([0] : List Line) []) false).1), (sealHdr (from0 : Hdr) ((.chunk ({ key := 5, kind := 0, slot := 1, line := 0, count := 1, pass := 1 } : ChunkSub) ([0] : List Line) []))), ({ key := 5, kind := 0, slot := 1, line := 0, count := 1, pass := 1 }), ([0]), got_of (by decide +kernel), by decide +kernel, by decide +kernel, by decide +kernel, by decide +kernel⟩
  · exact ⟨({ dev with place := { copyIns := [{ key := 5, slot := 1, home := 0 }] } }), ((State.rx ({ dev with place := { copyIns := [{ key := 5, slot := 1, home := 0 }] } } : State) (sealHdr (from0 : Hdr) ((.chunk ({ key := 5, kind := 1, slot := 1, line := 0, count := 1, pass := 1 } : ChunkSub) ([0] : List Line) [])) : Hdr) (.chunk ({ key := 5, kind := 1, slot := 1, line := 0, count := 1, pass := 1 } : ChunkSub) ([0] : List Line) []) false).1), (sealHdr (from0 : Hdr) ((.chunk ({ key := 5, kind := 1, slot := 1, line := 0, count := 1, pass := 1 } : ChunkSub) ([0] : List Line) []))), ({ key := 5, kind := 1, slot := 1, line := 0, count := 1, pass := 1 }), ([0]), got_of (by decide +kernel), by decide +kernel, by decide +kernel, by decide +kernel, by decide +kernel⟩
  · exact ⟨dev, ((State.rx (dev : State) (sealHdr (from0 : Hdr) ((.chunk ({ key := 5, kind := 1, slot := 16384, line := 0, count := 1, pass := 1 } : ChunkSub) ([0] : List Line) [])) : Hdr) (.chunk ({ key := 5, kind := 1, slot := 16384, line := 0, count := 1, pass := 1 } : ChunkSub) ([0] : List Line) []) false).1), (sealHdr (from0 : Hdr) ((.chunk ({ key := 5, kind := 1, slot := 16384, line := 0, count := 1, pass := 1 } : ChunkSub) ([0] : List Line) []))), ({ key := 5, kind := 1, slot := 16384, line := 0, count := 1, pass := 1 }), ([0]), got_of (by decide +kernel), by decide +kernel, by decide +kernel⟩
  · exact ⟨dev, ((State.rx (dev : State) (sealHdr (from0 : Hdr) ((.chunkAck ({ key := 5, kind := 0, slot := 1, line := 0, count := 1, pass := 1 } : ChunkSub))) : Hdr) (.chunkAck ({ key := 5, kind := 0, slot := 1, line := 0, count := 1, pass := 1 } : ChunkSub)) false).1), (sealHdr (from0 : Hdr) ((.chunkAck ({ key := 5, kind := 0, slot := 1, line := 0, count := 1, pass := 1 } : ChunkSub)))), ({ key := 5, kind := 0, slot := 1, line := 0, count := 1, pass := 1 }), got_of (by decide +kernel), by decide +kernel, by decide +kernel⟩
  · exact ⟨dev, ((State.rx (dev : State) (sealHdr (from0 : Hdr) ((.inval (5 : Nat) (1 : Nat) (0 : Nat) (1 : Nat) (9 : Nat))) : Hdr) (.inval (5 : Nat) (1 : Nat) (0 : Nat) (1 : Nat) (9 : Nat)) false).1), (sealHdr (from0 : Hdr) ((.inval (5 : Nat) (1 : Nat) (0 : Nat) (1 : Nat) (9 : Nat)))), 5, 1, 0, 1, 9, got_of (by decide +kernel)⟩
  · exact ⟨dev, ((State.rx (dev : State) (sealHdr (from0 : Hdr) ((.invalAck (9 : Nat))) : Hdr) (.invalAck (9 : Nat)) false).1), (sealHdr (from0 : Hdr) ((.invalAck (9 : Nat)))), 9, got_of (by decide +kernel)⟩

/-- States and operands that meet the hypotheses of PlacementMessagesAct, clause by clause. -/
theorem witness_placementMessagesAct :
    (∃ (s : State) (u : State) (v : State) (h : Hdr) (m : PMsg) (st : Nat) (gen : Nat), GotPlace s h 1 m u ∧ u.ownDir m.key = true ∧ u.dirMove m.key (h.src / 2) m.a (m.b == 1) = (v, st, gen)) ∧
    (∃ (s : State) (u : State) (h : Hdr) (m : PMsg), GotPlace s h 1 m u ∧ u.ownDir m.key = false ∧ u.place.tombs.find? (fun t => t.key == m.key && (t.vault == m.a || m.a == 0xFFFF)) = none ∧ u.migOf m.key = none) ∧
    (∃ (s : State) (u : State) (h : Hdr) (m : PMsg), GotPlace s h 2 m u) ∧
    (∃ (s : State) (u : State) (v : State) (h : Hdr) (m : PMsg) (st : Nat) (slot : Nat), GotPlace s h 3 m u ∧ m.vault ≠ 0xFFFF ∧ u.reserveDest m.key (h.src / 2) m.a = (v, st, slot)) ∧
    (∃ (s : State) (u : State) (h : Hdr) (m : PMsg) (x : Mig), GotPlace s h 4 m u ∧ u.place.migs.find? (fun x => x.key == m.key && x.dst == m.vault && x.phase == 1) = some x ∧ m.status = St.ok) ∧
    (∃ (s : State) (u : State) (h : Hdr) (m : PMsg) (x : Mig), GotPlace s h 4 m u ∧ u.place.migs.find? (fun x => x.key == m.key && x.dst == m.vault && x.phase == 1) = some x ∧ m.status ≠ St.ok) ∧
    (∃ (s : State) (u : State) (h : Hdr) (m : PMsg), GotPlace s h 5 m u ∧ u.place.migIns = [] ∧ u.ownDir m.key = true ∧ (u.dirCommit m.key m.vault m.slot m.gen (h.src / 2)).ownDir m.key = true) ∧
    (∃ (s : State) (u : State) (h : Hdr) (m : PMsg) (x : Mig), GotPlace s h 6 m u ∧ u.migOf m.key = some x) ∧
    (∃ (s : State) (u : State) (h : Hdr) (m : PMsg), GotPlace s h 7 m u ∧ u.place.migIns = [] ∧ u.place.copyIns = [] ∧ m.a ≠ 0xFFFF ∧ u.ownDir m.key = true ∧ (u.dirEnt m.key).home = h.src / 2) ∧
    (∃ (s : State) (u : State) (v : State) (h : Hdr) (m : PMsg) (st : Nat), GotPlace s h 8 m u ∧ u.ownDir m.key = true ∧ m.vault = h.src / 2 ∧ u.dirCopy m.key m.a = (v, st)) ∧
    (∃ (s : State) (u : State) (h : Hdr) (m : PMsg), GotPlace s h 9 m u ∧ u.ownDir m.key = false ∧ m.vault = u.vault) ∧
    (∃ (s : State) (u : State) (h : Hdr) (m : PMsg), GotPlace s h 10 m u ∧ u.place.copyIns.any (fun c => c.key == m.key && c.slot == m.slot) = true) ∧
    (∃ (s : State) (u : State) (h : Hdr) (m : PMsg), GotPlace s h 10 m u ∧ u.place.copyIns.any (fun c => c.key == m.key && c.slot == m.slot) = false) ∧
    (∃ (s : State) (u : State) (h : Hdr) (m : PMsg), GotPlace s h 11 m u ∧ m.status ≠ St.busy ∧ m.vault = 0xFFFF) ∧
    (∃ (s : State) (u : State) (h : Hdr) (m : PMsg), GotPlace s h 12 m u) ∧
    (∃ (s : State) (u : State) (h : Hdr) (m : PMsg), GotPlace s h 13 m u ∧ u.ownDir m.key = false) ∧
    (∃ (s : State) (u : State) (h : Hdr) (m : PMsg) (slot : Nat), GotPlace s h 14 m u ∧ m.key < 2 ^ 39 ∧ m.vault = 0xFFFF ∧ u.homeSlot m.key = some slot) := by
  and_intros
  · exact ⟨({ directed with place := { dir := [(5, { state := 2, home := 0, slot := 7, gen := 3 })] } }), ((State.rx ({ directed with place := { dir := [(5, { state := 2, home := 0, slot := 7, gen := 3 })] } } : State) (sealHdr (from0 : Hdr) ((.placement 1 ({ key := 5, a := 1 } : PMsg))) : Hdr) (.placement 1 ({ key := 5, a := 1 } : PMsg)) false).1), ((((State.rx ({ directed with place := { dir := [(5, { state := 2, home := 0, slot := 7, gen := 3 })] } } : State) (sealHdr (from0 : Hdr) ((.placement 1 ({ key := 5, a := 1 } : PMsg))) : Hdr) (.placement 1 ({ key := 5, a := 1 } : PMsg)) false).1 : State).dirMove 5 0 1 false).1), (sealHdr (from0 : Hdr) ((.placement 1 ({ key := 5, a := 1 } : PMsg)))), ({ key := 5, a := 1 }), St.ok, 3, ⟨got_of (by decide +kernel), by decide +kernel⟩, by decide +kernel, by decide +kernel⟩
  · exact ⟨dev, ((State.rx (dev : State) (sealHdr (from0 : Hdr) ((.placement 1 ({ key := 5, a := 1 } : PMsg))) : Hdr) (.placement 1 ({ key := 5, a := 1 } : PMsg)) false).1), (sealHdr (from0 : Hdr) ((.placement 1 ({ key := 5, a := 1 } : PMsg)))), ({ key := 5, a := 1 }), ⟨got_of (by decide +kernel), by decide +kernel⟩, by decide +kernel, by decide +kernel, by decide +kernel⟩
  · exact ⟨({ dev with place := { migs := [{ key := 5, slot := 0, dst := 0 }] } }), ((State.rx ({ dev with place := { migs := [{ key := 5, slot := 0, dst := 0 }] } } : State) (sealHdr (from0 : Hdr) ((.placement 2 ({ key := 5, gen := 3 } : PMsg))) : Hdr) (.placement 2 ({ key := 5, gen := 3 } : PMsg)) false).1), (sealHdr (from0 : Hdr) ((.placement 2 ({ key := 5, gen := 3 } : PMsg)))), ({ key := 5, gen := 3 }), ⟨got_of (by decide +kernel), by decide +kernel⟩⟩
  · exact ⟨dev, ((State.rx (dev : State) (sealHdr (from0 : Hdr) ((.placement 3 ({ key := 5, vault := 1, a := 7 } : PMsg))) : Hdr) (.placement 3 ({ key := 5, vault := 1, a := 7 } : PMsg)) false).1), ((((State.rx (dev : State) (sealHdr (from0 : Hdr) ((.placement 3 ({ key := 5, vault := 1, a := 7 } : PMsg))) : Hdr) (.placement 3 ({ key := 5, vault := 1, a := 7 } : PMsg)) false).1 : State).reserveDest 5 0 7).1), (sealHdr (from0 : Hdr) ((.placement 3 ({ key := 5, vault := 1, a := 7 } : PMsg)))), ({ key := 5, vault := 1, a := 7 }), St.ok, ((((State.rx (dev : State) (sealHdr (from0 : Hdr) ((.placement 3 ({ key := 5, vault := 1, a := 7 } : PMsg))) : Hdr) (.placement 3 ({ key := 5, vault := 1, a := 7 } : PMsg)) false).1 : State).reserveDest 5 0 7).2.2), ⟨got_of (by decide +kernel), by decide +kernel⟩, by decide +kernel, by decide +kernel⟩
  · exact ⟨({ dev with place := { migs := [{ key := 5, slot := 0, dst := 0, phase := 1 }] } }), ((State.rx ({ dev with place := { migs := [{ key := 5, slot := 0, dst := 0, phase := 1 }] } } : State) (sealHdr (from0 : Hdr) ((.placement 4 ({ key := 5, vault := 0, slot := 4 } : PMsg))) : Hdr) (.placement 4 ({ key := 5, vault := 0, slot := 4 } : PMsg)) false).1), (sealHdr (from0 : Hdr) ((.placement 4 ({ key := 5, vault := 0, slot := 4 } : PMsg)))), ({ key := 5, vault := 0, slot := 4 }), ({ key := 5, slot := 0, dst := 0, phase := 1 }), ⟨got_of (by decide +kernel), by decide +kernel⟩, by decide +kernel, by decide +kernel⟩
  · exact ⟨({ dev with place := { migs := [{ key := 5, slot := 0, dst := 0, phase := 1 }] } }), ((State.rx ({ dev with place := { migs := [{ key := 5, slot := 0, dst := 0, phase := 1 }] } } : State) (sealHdr (from0 : Hdr) ((.placement 4 ({ key := 5, vault := 0, status := St.busy } : PMsg))) : Hdr) (.placement 4 ({ key := 5, vault := 0, status := St.busy } : PMsg)) false).1), (sealHdr (from0 : Hdr) ((.placement 4 ({ key := 5, vault := 0, status := St.busy } : PMsg)))), ({ key := 5, vault := 0, status := St.busy }), ({ key := 5, slot := 0, dst := 0, phase := 1 }), ⟨got_of (by decide +kernel), by decide +kernel⟩, by decide +kernel, by decide +kernel⟩
  · exact ⟨({ directed with place := { dir := [(5, { state := 3, home := 1, dst := 0 })] } }), ((State.rx ({ directed with place := { dir := [(5, { state := 3, home := 1, dst := 0 })] } } : State) (sealHdr (from0 : Hdr) ((.placement 5 ({ key := 5, vault := 0, slot := 2, gen := 4 } : PMsg))) : Hdr) (.placement 5 ({ key := 5, vault := 0, slot := 2, gen := 4 } : PMsg)) false).1), (sealHdr (from0 : Hdr) ((.placement 5 ({ key := 5, vault := 0, slot := 2, gen := 4 } : PMsg)))), ({ key := 5, vault := 0, slot := 2, gen := 4 }), ⟨got_of (by decide +kernel), by decide +kernel⟩, by decide +kernel, by decide +kernel, by decide +kernel⟩
  · exact ⟨({ dev with place := { migs := [{ key := 5, slot := 0, dst := 0, phase := 4 }] } }), ((State.rx ({ dev with place := { migs := [{ key := 5, slot := 0, dst := 0, phase := 4 }] } } : State) (sealHdr (from0 : Hdr) ((.placement 6 ({ key := 5, vault := 0 } : PMsg))) : Hdr) (.placement 6 ({ key := 5, vault := 0 } : PMsg)) false).1), (sealHdr (from0 : Hdr) ((.placement 6 ({ key := 5, vault := 0 } : PMsg)))), ({ key := 5, vault := 0 }), ({ key := 5, slot := 0, dst := 0, phase := 4 }), ⟨got_of (by decide +kernel), by decide +kernel⟩, by decide +kernel⟩
  · exact ⟨({ directed with place := { dir := [(5, { state := 3, home := 0, dst := 1 })] } }), ((State.rx ({ directed with place := { dir := [(5, { state := 3, home := 0, dst := 1 })] } } : State) (sealHdr (from0 : Hdr) ((.placement 7 ({ key := 5 } : PMsg))) : Hdr) (.placement 7 ({ key := 5 } : PMsg)) false).1), (sealHdr (from0 : Hdr) ((.placement 7 ({ key := 5 } : PMsg)))), ({ key := 5 }), ⟨got_of (by decide +kernel), by decide +kernel⟩, by decide +kernel, by decide +kernel, by decide +kernel, by decide +kernel, by decide +kernel⟩
  · exact ⟨({ directed with place := { dir := [(5, { state := 2, home := 0, slot := 7, gen := 3 })] } }), ((State.rx ({ directed with place := { dir := [(5, { state := 2, home := 0, slot := 7, gen := 3 })] } } : State) (sealHdr (from0 : Hdr) ((.placement 8 ({ key := 5, vault := 0, a := 1 } : PMsg))) : Hdr) (.placement 8 ({ key := 5, vault := 0, a := 1 } : PMsg)) false).1), ((((State.rx ({ directed with place := { dir := [(5, { state := 2, home := 0, slot := 7, gen := 3 })] } } : State) (sealHdr (from0 : Hdr) ((.placement 8 ({ key := 5, vault := 0, a := 1 } : PMsg))) : Hdr) (.placement 8 ({ key := 5, vault := 0, a := 1 } : PMsg)) false).1 : State).dirCopy 5 1).1), (sealHdr (from0 : Hdr) ((.placement 8 ({ key := 5, vault := 0, a := 1 } : PMsg)))), ({ key := 5, vault := 0, a := 1 }), St.ok, ⟨got_of (by decide +kernel), by decide +kernel⟩, by decide +kernel, by decide +kernel, by decide +kernel⟩
  · exact ⟨dev, ((State.rx (dev : State) (sealHdr (from0 : Hdr) ((.placement 9 ({ key := 5, vault := 1, slot := 2 } : PMsg))) : Hdr) (.placement 9 ({ key := 5, vault := 1, slot := 2 } : PMsg)) false).1), (sealHdr (from0 : Hdr) ((.placement 9 ({ key := 5, vault := 1, slot := 2 } : PMsg)))), ({ key := 5, vault := 1, slot := 2 }), ⟨got_of (by decide +kernel), by decide +kernel⟩, by decide +kernel, by decide +kernel⟩
  · exact ⟨({ dev with place := { copyIns := [{ key := 5, slot := 1, home := 0 }] } }), ((State.rx ({ dev with place := { copyIns := [{ key := 5, slot := 1, home := 0 }] } } : State) (sealHdr (from0 : Hdr) ((.placement 10 ({ key := 5, slot := 1 } : PMsg))) : Hdr) (.placement 10 ({ key := 5, slot := 1 } : PMsg)) false).1), (sealHdr (from0 : Hdr) ((.placement 10 ({ key := 5, slot := 1 } : PMsg)))), ({ key := 5, slot := 1 }), ⟨got_of (by decide +kernel), by decide +kernel⟩, by decide +kernel⟩
  · exact ⟨dev, ((State.rx (dev : State) (sealHdr (from0 : Hdr) ((.placement 10 ({ key := 5, slot := 1 } : PMsg))) : Hdr) (.placement 10 ({ key := 5, slot := 1 } : PMsg)) false).1), (sealHdr (from0 : Hdr) ((.placement 10 ({ key := 5, slot := 1 } : PMsg)))), ({ key := 5, slot := 1 }), ⟨got_of (by decide +kernel), by decide +kernel⟩, by decide +kernel⟩
  · exact ⟨dev, ((State.rx (dev : State) (sealHdr (from0 : Hdr) ((.placement 11 ({ key := 5 } : PMsg))) : Hdr) (.placement 11 ({ key := 5 } : PMsg)) false).1), (sealHdr (from0 : Hdr) ((.placement 11 ({ key := 5 } : PMsg)))), ({ key := 5 }), ⟨got_of (by decide +kernel), by decide +kernel⟩, by decide +kernel, by decide +kernel⟩
  · exact ⟨dev, ((State.rx (dev : State) (sealHdr (from0 : Hdr) ((.placement 12 ({ key := 5, list := [(0, 3)] } : PMsg))) : Hdr) (.placement 12 ({ key := 5, list := [(0, 3)] } : PMsg)) false).1), (sealHdr (from0 : Hdr) ((.placement 12 ({ key := 5, list := [(0, 3)] } : PMsg)))), ({ key := 5, list := [(0, 3)] }), ⟨got_of (by decide +kernel), by decide +kernel⟩⟩
  · exact ⟨dev, ((State.rx (dev : State) (sealHdr (from0 : Hdr) ((.placement 13 ({ key := 5 } : PMsg))) : Hdr) (.placement 13 ({ key := 5 } : PMsg)) false).1), (sealHdr (from0 : Hdr) ((.placement 13 ({ key := 5 } : PMsg)))), ({ key := 5 }), ⟨got_of (by decide +kernel), by decide +kernel⟩, by decide +kernel⟩
  · exact ⟨({ dev with place := { slots := [(3, .home 5)] } }), ((State.rx ({ dev with place := { slots := [(3, .home 5)] } } : State) (sealHdr (from0 : Hdr) ((.placement 14 ({ key := 5 } : PMsg))) : Hdr) (.placement 14 ({ key := 5 } : PMsg)) false).1), (sealHdr (from0 : Hdr) ((.placement 14 ({ key := 5 } : PMsg)))), ({ key := 5 }), 3, ⟨got_of (by decide +kernel), by decide +kernel⟩, by decide +kernel, by decide +kernel, by decide +kernel⟩

/-- States and operands that meet the hypotheses of MirrorAndHomeWritesAct, clause by clause. -/
theorem witness_mirrorAndHomeWritesAct :
    (∃ (s : State) (u : State) (h : Hdr) (stream : Nat) (runs : List Run), Got s h (.mirror stream runs) u ∧ (u.twin.state = 4 ∨ u.twin.state = 5) ∧ (∀ r ∈ runs, r.slot < u.extents)) ∧
    (∃ (s : State) (u : State) (h : Hdr) (stream : Nat) (runs : List Run) (r : Run), Got s h (.mirror stream runs) u ∧ (u.twin.state = 4 ∨ u.twin.state = 5) ∧ r ∈ runs ∧ u.extents ≤ r.slot) ∧
    (∃ (s : State) (u : State) (h : Hdr) (stream : Nat) (entries : List (Nat × Nat)), Got s h (.clean stream entries) u ∧ (u.twin.state = 4 ∨ u.twin.state = 5)) ∧
    (∃ (s : State) (u : State) (h : Hdr) (stream : Nat) (seq : Nat), Got s h (.mirrorAck stream seq) u ∧ u.isActive = true) ∧
    (∃ (s : State) (slot : Nat) (g : Nat), s.serves = true ∧ s.persist.state = 2 ∧ s.driveCount ≠ 0 ∧ slotGran slot g ∈ s.persist.dirty ∧ s.homeBusy (slotGran slot g) = false ∧ (s.flag 0x3320 1 = false ∨ slotGran slot g ∉ s.persist.fresh ∨ s.ceiling * s.setting 0x3320 2 / 64 ≤ s.dirtySet) ∧ s.isRestoring (slotGran slot g) = false ∧ s.granSafe (slotGran slot g) = true ∧ (s.drivesOf (slotGran slot g)).any s.driveUp = true ∧ s.queueRoom (slotGran slot g) = true) ∧
    (∃ (s : State) (slot : Nat) (g : Nat), s.serves = true ∧ s.persist.state = 2 ∧ s.driveCount ≠ 0 ∧ slotGran slot g ∈ s.persist.dirty ∧ s.homeBusy (slotGran slot g) = false ∧ s.flag 0x3320 1 = true ∧ slotGran slot g ∈ s.persist.fresh ∧ s.dirtySet < s.ceiling * s.setting 0x3320 2 / 64) ∧
    (∃ (s : State) (id : Nat) (w : HomeW), s.persist.home.find? (fun w => w.id == id) = some w ∧ s.twin.latch = false) := by
  and_intros
  · exact ⟨({ dev with twin := { dev.twin with state := 4 } }), ((State.rx ({ dev with twin := { dev.twin with state := 4 } } : State) (sealHdr (fromTwin : Hdr) ((.mirror (0 : Nat) ([{ first := 1, slot := 2, line := 5, lines := [7] }] : List Run))) : Hdr) (.mirror (0 : Nat) ([{ first := 1, slot := 2, line := 5, lines := [7] }] : List Run)) false).1), (sealHdr (fromTwin : Hdr) ((.mirror (0 : Nat) ([{ first := 1, slot := 2, line := 5, lines := [7] }] : List Run)))), 0, ([{ first := 1, slot := 2, line := 5, lines := [7] }]), got_of (by decide +kernel), by decide +kernel, by decide +kernel⟩
  · exact ⟨({ dev with twin := { dev.twin with state := 4 } }), ((State.rx ({ dev with twin := { dev.twin with state := 4 } } : State) (sealHdr (fromTwin : Hdr) ((.mirror (0 : Nat) ([{ first := 1, slot := 16384, line := 5, lines := [7] }] : List Run))) : Hdr) (.mirror (0 : Nat) ([{ first := 1, slot := 16384, line := 5, lines := [7] }] : List Run)) false).1), (sealHdr (fromTwin : Hdr) ((.mirror (0 : Nat) ([{ first := 1, slot := 16384, line := 5, lines := [7] }] : List Run)))), 0, ([{ first := 1, slot := 16384, line := 5, lines := [7] }]), ({ first := 1, slot := 16384, line := 5, lines := [7] }), got_of (by decide +kernel), by decide +kernel, by decide +kernel, by decide +kernel⟩
  · exact ⟨({ dev with twin := { dev.twin with state := 4 } }), ((State.rx ({ dev with twin := { dev.twin with state := 4 } } : State) (sealHdr (fromTwin : Hdr) ((.clean (0 : Nat) ([(2, 3)] : List (Nat × Nat)))) : Hdr) (.clean (0 : Nat) ([(2, 3)] : List (Nat × Nat))) false).1), (sealHdr (fromTwin : Hdr) ((.clean (0 : Nat) ([(2, 3)] : List (Nat × Nat))))), 0, ([(2, 3)]), got_of (by decide +kernel), by decide +kernel⟩
  · exact ⟨dev, ((State.rx (dev : State) (sealHdr (fromTwin : Hdr) ((.mirrorAck (0 : Nat) (3 : Nat))) : Hdr) (.mirrorAck (0 : Nat) (3 : Nat)) false).1), (sealHdr (fromTwin : Hdr) ((.mirrorAck (0 : Nat) (3 : Nat)))), 0, 3, got_of (by decide +kernel), by decide +kernel⟩
  · exact ⟨({ dev with settings := [(okey 0x3310 1, 2)], persist := { dev.persist with dirty := [slotGran 1 2], drives := [(0, { state := 2 }), (1, { state := 2 })] } }), 1, 2, by decide +kernel, by decide +kernel, by decide +kernel, by decide +kernel, by decide +kernel, by decide +kernel, by decide +kernel, by decide +kernel, by decide +kernel, by decide +kernel⟩
  · exact ⟨({ dev with settings := [(okey 0x3310 1, 2)], persist := { dev.persist with dirty := [slotGran 1 2], fresh := [slotGran 1 2], drives := [(0, { state := 2 }), (1, { state := 2 })] } }), 1, 2, by decide +kernel, by decide +kernel, by decide +kernel, by decide +kernel, by decide +kernel, by decide +kernel, by decide +kernel, by decide +kernel⟩
  · exact ⟨({ dev with persist := { dev.persist with home := [{ id := 4, gran := 514, drives := [0], seq := 1 }] } }), 4, ({ id := 4, gran := 514, drives := [0], seq := 1 }), by decide +kernel, by decide +kernel⟩

/-- States and operands that meet the hypotheses of HomeDrivesAct, clause by clause. -/
theorem witness_homeDrivesAct :
    (∃ (s : State) (id : Nat) (d : Nat) (w : HomeW), s.persist.home.find? (fun w => w.id == id && w.drives.contains d) = some w) ∧
    (∃ (s : State) (id : Nat) (d : Nat) (w : HomeW), s.persist.home.find? (fun w => w.id == id && w.drives.contains d) = some w) ∧
    (∃ (s : State) (id : Nat) (d : Nat) (w : HomeW), s.persist.home.find? (fun w => w.id == id && w.drives.contains d) = some w ∧ w.since + s.setting 0x3310 8 ≤ s.now) ∧
    (∃ (s : State) (rq : Req) (d : Nat), MayPut s rq (0x3340 + d) 1 1 0 ∧ (s.touch rq).driveUp d = true) ∧
    (∃ (s : State) (u : State) (rq : Req) (d : Nat) (i : DriveInfo), MayPut s rq (0x3340 + d) 1 1 1 ∧ (s.touch rq).driveUp d = false ∧ u = (s.touch rq).modDrive d (fun x => { x with lbas := i.lbas, link := true }) ∧ u.driveCheck d i = 0 ∧ i.empty = true ∧ u.isActive = true) ∧
    (∃ (s : State) (u : State) (rq : Req) (d : Nat) (i : DriveInfo), MayPut s rq (0x3340 + d) 1 1 1 ∧ (s.touch rq).driveUp d = false ∧ u = (s.touch rq).modDrive d (fun x => { x with lbas := i.lbas, link := true }) ∧ u.driveCheck d i ≠ 0) ∧
    (∃ (s : State) (d : Nat) (batch : List Nat), (s.drive d).state = 1 ∧ s.serves = true ∧ s.dirtySet < s.ceiling * s.setting 0x3320 2 / 64 ∧ batch = ((s.drive d).rebuild.filter (fun g => decide ((s.drive d).marked ≤ g))).take 65536) ∧
    (∃ (s : State) (d : Nat), s.driveUp d = true) := by
  and_intros
  · exact ⟨({ dev with persist := { dev.persist with home := [{ id := 4, gran := 514, drives := [0], seq := 1 }] } }), 4, 0, ({ id := 4, gran := 514, drives := [0], seq := 1 }), by decide +kernel⟩
  · exact ⟨({ dev with persist := { dev.persist with home := [{ id := 4, gran := 514, drives := [0], seq := 1 }] } }), 4, 0, ({ id := 4, gran := 514, drives := [0], seq := 1 }), by decide +kernel⟩
  · exact ⟨({ dev with persist := { dev.persist with home := [{ id := 4, gran := 514, drives := [0], seq := 1 }] } }), 4, 0, ({ id := 4, gran := 514, drives := [0], seq := 1 }), by decide +kernel, by decide +kernel⟩
  · exact ⟨({ owner with settings := [(okey 0x3310 1, 2)] }), rq, 0, by unfold MayPut MayWrite; decide +kernel, by decide +kernel⟩
  · exact ⟨({ owner with settings := [(okey 0x3310 1, 2)] }), ((({ owner with settings := [(okey 0x3310 1, 2)] } : State).touch rq).modDrive 1 (fun x => { x with lbas := (({ versionOk := true, dualPort := true, reserv := true, lbaOk := true, atomicOk := true, volatileCache := false, lbas := 100000000 } : DriveInfo)).lbas, link := true })), rq, 1, ({ versionOk := true, dualPort := true, reserv := true, lbaOk := true, atomicOk := true, volatileCache := false, lbas := 100000000 }), by unfold MayPut MayWrite; decide +kernel, by decide +kernel, rfl, by decide +kernel, by decide +kernel, by decide +kernel⟩
  · exact ⟨({ owner with settings := [(okey 0x3310 1, 2)] }), ((({ owner with settings := [(okey 0x3310 1, 2)] } : State).touch rq).modDrive 1 (fun x => { x with lbas := (({ versionOk := true, dualPort := false, reserv := true, lbaOk := true, atomicOk := true, volatileCache := false, lbas := 100000000 } : DriveInfo)).lbas, link := true })), rq, 1, ({ versionOk := true, dualPort := false, reserv := true, lbaOk := true, atomicOk := true, volatileCache := false, lbas := 100000000 }), by unfold MayPut MayWrite; decide +kernel, by decide +kernel, rfl, by decide +kernel⟩
  · exact ⟨({ dev with settings := [(okey 0x3310 1, 2)], persist := { dev.persist with drives := [(0, { state := 2 }), (1, { state := 1, rebuild := [3, 5] })] } }), 1, ([3, 5]), by decide +kernel, by decide +kernel, by decide +kernel, by decide +kernel⟩
  · exact ⟨dev, 0, by decide +kernel⟩

/-- States and operands that meet the hypotheses of FlushRestoreAndPointsAct, clause by clause. -/
theorem witness_flushRestoreAndPointsAct :
    (∃ (s : State), s.isActive = true ∧ s.persist.snap = none ∧ s.persist.state = 3 ∧ (∀ w ∈ s.persist.writes, s.twinSafe w.seq = true ∨ w.needHome = true)) ∧
    (∃ (s : State) (m : DirtyMap), s.persist.mapOut = some m ∧ m.overflow = false) ∧
    (∃ (s : State) (m : DirtyMap) (remapped : Nat), s.persist.mapOut = some m ∧ 0 < remapped) ∧
    (∃ (s : State) (slot : Nat) (g : Nat), s.persist.header.keySlot = 0xFFFF ∧ (∀ r ∈ s.persist.remoteReads, r.1 ≠ slotGran slot g) ∧ s.isRestoring (slotGran slot g) = true) ∧
    (∃ (s : State) (slot : Nat) (g : Nat) (d : Nat), s.isRestoring (slotGran slot g) = true ∧ d ∈ s.drivesOf (s.homeGran (slotGran slot g)) ∧ s.driveUp d = true ∧ s.persist.restoreTries.contains (slotGran slot g, d) = false) ∧
    (∃ (s : State) (u : State) (slot : Nat) (g : Nat) (d : Nat), s.isRestoring (slotGran slot g) = true ∧ d ∈ s.drivesOf (s.homeGran (slotGran slot g)) ∧ s.driveUp d = true ∧ s.persist.restoreTries.contains (slotGran slot g, d) = true ∧ u = (s.count (229 + 8 * d) 1).driveGone d 0 (s.driveLba (s.homeGran (slotGran slot g))) ∧ (u.drivesOf (s.homeGran (slotGran slot g))).any u.driveUp = true) ∧
    (∃ (s : State) (u : State) (slot : Nat) (g : Nat) (d : Nat), s.isRestoring (slotGran slot g) = true ∧ d ∈ s.drivesOf (s.homeGran (slotGran slot g)) ∧ s.driveUp d = true ∧ s.persist.restoreTries.contains (slotGran slot g, d) = true ∧ u = (s.count (229 + 8 * d) 1).driveGone d 0 (s.driveLba (s.homeGran (slotGran slot g))) ∧ (u.drivesOf (s.homeGran (slotGran slot g))).any u.driveUp = false) ∧
    (∃ (s : State) (u : State) (slot : Nat) (g : Nat) (t : Nat), assoc s.persist.restoreWait (slotGran slot g) = some t ∧ t + s.setting 0x3300 0x10 ≤ s.now ∧ u = (s.modPersist (fun p => { p with restoreWait := p.restoreWait.filter (fun e => e.1 != slotGran slot g) })).markSuspect slot ∧ (u.drivesOf (slotGran slot g)).any u.driveUp = true) ∧
    (∃ (s : State), s.pool.isRoot = true ∧ 0 < s.setting 0x3330 1 ∧ s.poolTime % s.setting 0x3330 1 = 0) ∧
    (∃ (s : State) (o : LatchOp) (n : Nat), s.pool.ops.find? (fun o => match o.act with | .point _ => true | _ => false) = some o ∧ o.act = .point n ∧ s.pool.isRoot = true ∧ o.latch + s.setting 0x3330 5 ≤ s.poolTime) ∧
    (∃ (s : State) (o : LatchOp) (n : Nat), s.opDue (fun a => match a with | .point _ => true | _ => false) = some o ∧ o.act = .point n ∧ s.persist.point = none ∧ s.isActive = false) := by
  and_intros
  · exact ⟨({ dev with persist := { dev.persist with state := 3 } }), by decide +kernel, by decide +kernel, by decide +kernel, by decide +kernel⟩
  · exact ⟨({ dev with persist := { dev.persist with mapOut := some { gen := 2 } } }), ({ gen := 2 }), by decide +kernel, by decide +kernel⟩
  · exact ⟨({ dev with persist := { dev.persist with mapOut := some { gen := 2 } } }), ({ gen := 2 }), 1, by decide +kernel, by decide +kernel⟩
  · exact ⟨({ dev with persist := { dev.persist with restoring := [slotGran 1 2] } }), 1, 2, by decide +kernel, by decide +kernel, by decide +kernel⟩
  · exact ⟨({ dev with settings := [(okey 0x3310 1, 1)], persist := { dev.persist with restoring := [slotGran 1 2] } }), 1, 2, 0, by decide +kernel, by decide +kernel, by decide +kernel, by decide +kernel⟩
  · exact ⟨({ dev with settings := [(okey 0x3310 1, 2), (okey 0x3310 2, 1)], persist := { dev.persist with drives := [(0, { state := 2, link := true, lbas := 100000000000 }), (1, { state := 2, link := true, lbas := 100000000000 })], restoring := [slotGran 1 2], restoreTries := [(slotGran 1 2, 0)] } }), ((State.count ({ dev with settings := [(okey 0x3310 1, 2), (okey 0x3310 2, 1)], persist := { dev.persist with drives := [(0, { state := 2, link := true, lbas := 100000000000 }), (1, { state := 2, link := true, lbas := 100000000000 })], restoring := [slotGran 1 2], restoreTries := [(slotGran 1 2, 0)] } } : State) (229 + 8 * (0 : Nat)) 1).driveGone (0 : Nat) 0 (State.driveLba ({ dev with settings := [(okey 0x3310 1, 2), (okey 0x3310 2, 1)], persist := { dev.persist with drives := [(0, { state := 2, link := true, lbas := 100000000000 }), (1, { state := 2, link := true, lbas := 100000000000 })], restoring := [slotGran 1 2], restoreTries := [(slotGran 1 2, 0)] } } : State) (State.homeGran ({ dev with settings := [(okey 0x3310 1, 2), (okey 0x3310 2, 1)], persist := { dev.persist with drives := [(0, { state := 2, link := true, lbas := 100000000000 }), (1, { state := 2, link := true, lbas := 100000000000 })], restoring := [slotGran 1 2], restoreTries := [(slotGran 1 2, 0)] } } : State) (slotGran (1 : Nat) (2 : Nat))))), 1, 2, 0, by decide +kernel, by decide +kernel, by decide +kernel, by decide +kernel, rfl, by decide +kernel⟩
  · exact ⟨({ dev with settings := [(okey 0x3310 1, 1)], persist := { dev.persist with restoring := [slotGran 1 2], restoreTries := [(slotGran 1 2, 0)] } }), ((State.count ({ dev with settings := [(okey 0x3310 1, 1)], persist := { dev.persist with restoring := [slotGran 1 2], restoreTries := [(slotGran 1 2, 0)] } } : State) (229 + 8 * (0 : Nat)) 1).driveGone (0 : Nat) 0 (State.driveLba ({ dev with settings := [(okey 0x3310 1, 1)], persist := { dev.persist with restoring := [slotGran 1 2], restoreTries := [(slotGran 1 2, 0)] } } : State) (State.homeGran ({ dev with settings := [(okey 0x3310 1, 1)], persist := { dev.persist with restoring := [slotGran 1 2], restoreTries := [(slotGran 1 2, 0)] } } : State) (slotGran (1 : Nat) (2 : Nat))))), 1, 2, 0, by decide +kernel, by decide +kernel, by decide +kernel, by decide +kernel, rfl, by decide +kernel⟩
  · exact ⟨({ dev with settings := [(okey 0x3310 1, 2)], persist := { dev.persist with restoring := [slotGran 1 2], restoreWait := [(slotGran 1 2, 0)] } }), ((({ dev with settings := [(okey 0x3310 1, 2)], persist := { dev.persist with restoring := [slotGran 1 2], restoreWait := [(slotGran 1 2, 0)] } } : State).modPersist (fun p => { p with restoreWait := p.restoreWait.filter (fun e => e.1 != slotGran (1 : Nat) (2 : Nat)) })).markSuspect (1 : Nat)), 1, 2, 0, by decide +kernel, by decide +kernel, rfl, by decide +kernel⟩
  · exact ⟨({ dev with settings := [(okey 0x3330 1, 1000)], pool := { dev.pool with root := 2, isRoot := true } }), by decide +kernel, by decide +kernel, by decide +kernel⟩
  · exact ⟨({ dev with pool := { dev.pool with root := 2, isRoot := true, ops := [{ op := 3, act := .point 1, latch := 1000 }] } }), ({ op := 3, act := .point 1, latch := 1000 }), 1, by decide +kernel, by decide +kernel, by decide +kernel, by decide +kernel⟩
  · exact ⟨({ dev with twin := { dev.twin with state := 4 }, pool := { dev.pool with ops := [{ op := 3, act := .point 1, latch := 1000 }] } }), ({ op := 3, act := .point 1, latch := 1000 }), 1, by decide +kernel, by decide +kernel, by decide +kernel, by decide +kernel⟩

/-- States and operands that meet the hypotheses of SignsOfLifeAct, clause by clause. -/
theorem witness_signsOfLifeAct :
    (∃ (s : State) (u : State), s.twin.sentAt = none ∧ s.twinListed = true ∧ s.power.inReset = false ∧ u = s.sendVals.modTwin (fun t => { t with sentAt := some s.now })) ∧
    (∃ (s : State) (u : State) (h : Hdr) (b : Beat), Got s h (.heartbeat b) u ∧ u.twinListed = true ∧ h.src = u.twinDev ∧ u.isActive = true ∧ b.hearing = true ∧ u.twin.frameSilent = false) ∧
    (∃ (s : State) (u : State) (h : Hdr) (b : Beat), Got s h (.heartbeat b) u ∧ u.twinListed = true ∧ h.src = u.twinDev ∧ u.twin.state = 4 ∧ u.twin.frameSilent = false) ∧
    (∃ (interval : Nat), interval < 125) ∧
    (∃ (s : State) (interval : Nat), 125 ≤ interval ∧ s.twin.shortAt = none) ∧
    (∃ (s : State) (cls : BeatClass), s.twin.beatAt + 8000 ≤ s.now ∧ (cls = .stuck ∨ cls = .openPath)) ∧
    (∃ (s : State), s.twin.frameSilent = false ∧ s.twin.lastFrame + 25000 ≤ s.now) ∧
    (∃ (s : State), s.twin.lastLife + 12000 ≤ s.now) ∧
    (∃ (s : State) (x : Nat), s.twin.idleSince = some x ∧ s.twin.beat = .quiet ∧ s.twin.signal = 0 ∧ x + 20000 ≤ s.now) ∧
    (∃ (s : State), s.twin.state = 4 ∧ s.twin.hearing = true ∧ s.twin.lastRec + s.setting 0x2100 5 / 2 ≤ s.now ∧ s.twin.lastFrame + s.setting 0x2100 5 / 2 ≤ s.now) ∧
    (∃ (s : State), s.twin.withdrawn = false ∧ s.twin.watchdog + s.setting 0x2100 4 / 4 ≤ s.now) := by
  and_intros
  · exact ⟨dev, ((State.sendVals (dev : State)).modTwin (fun t => { t with sentAt := some ((dev : State)).now })), by decide +kernel, by decide +kernel, by decide +kernel, rfl⟩
  · exact ⟨dev, ((State.rx (dev : State) (sealHdr (fromTwin : Hdr) ((.heartbeat ({ state := 4, hearing := true, fenced := false, withdrawn := false, inSync := true, handover := false, seq := 1, echo := 0, claim := 1, horizon := 0, assigned := 0 } : Beat))) : Hdr) (.heartbeat ({ state := 4, hearing := true, fenced := false, withdrawn := false, inSync := true, handover := false, seq := 1, echo := 0, claim := 1, horizon := 0, assigned := 0 } : Beat)) false).1), (sealHdr (fromTwin : Hdr) ((.heartbeat ({ state := 4, hearing := true, fenced := false, withdrawn := false, inSync := true, handover := false, seq := 1, echo := 0, claim := 1, horizon := 0, assigned := 0 } : Beat)))), ({ state := 4, hearing := true, fenced := false, withdrawn := false, inSync := true, handover := false, seq := 1, echo := 0, claim := 1, horizon := 0, assigned := 0 }), got_of (by decide +kernel), by decide +kernel, by decide +kernel, by decide +kernel, by decide +kernel, by decide +kernel⟩
  · exact ⟨({ dev with twin := { dev.twin with state := 4 } }), ((State.rx ({ dev with twin := { dev.twin with state := 4 } } : State) (sealHdr (fromTwin : Hdr) ((.heartbeat ({ state := 1, hearing := true, fenced := false, withdrawn := false, inSync := true, handover := false, seq := 1, echo := 0, claim := 1, horizon := 0, assigned := 0 } : Beat))) : Hdr) (.heartbeat ({ state := 1, hearing := true, fenced := false, withdrawn := false, inSync := true, handover := false, seq := 1, echo := 0, claim := 1, horizon := 0, assigned := 0 } : Beat)) false).1), (sealHdr (fromTwin : Hdr) ((.heartbeat ({ state := 1, hearing := true, fenced := false, withdrawn := false, inSync := true, handover := false, seq := 1, echo := 0, claim := 1, horizon := 0, assigned := 0 } : Beat)))), ({ state := 1, hearing := true, fenced := false, withdrawn := false, inSync := true, handover := false, seq := 1, echo := 0, claim := 1, horizon := 0, assigned := 0 }), got_of (by decide +kernel), by decide +kernel, by decide +kernel, by decide +kernel, by decide +kernel⟩
  · exact ⟨100, by decide +kernel⟩
  · exact ⟨dev, 125, by decide +kernel, by decide +kernel⟩
  · exact ⟨dev, .stuck, by decide +kernel, by decide +kernel⟩
  · exact ⟨dev, by decide +kernel, by decide +kernel⟩
  · exact ⟨dev, by decide +kernel⟩
  · exact ⟨({ dev with twin := { dev.twin with beat := .quiet, idleSince := some 5 } }), 5, by decide +kernel, by decide +kernel, by decide +kernel, by decide +kernel⟩
  · exact ⟨({ dev with twin := { dev.twin with state := 4 } }), by decide +kernel, by decide +kernel, by decide +kernel, by decide +kernel⟩
  · exact ⟨dev, by decide +kernel, by decide +kernel⟩

/-- States and operands that meet the hypotheses of FenceClaimAndHandoverAct, clause by clause. -/
theorem witness_fenceClaimAndHandoverAct :
    (∃ (s : State), s.isActive = true ∧ s.twin.state ≠ 3 ∧ s.bothSilent = true ∧ s.twin.absent = false ∧ s.setting 0x2100 4 / 2 ≤ s.silence) ∧
    (∃ (s : State), s.twin.state = 4 ∧ s.twin.inSync = true ∧ s.twin.withdrawn = false ∧ s.bothSilent = true ∧ s.setting 0x2100 4 ≤ s.silence) ∧
    (∃ (s : State), s.twin.state = 6 ∧ s.twin.recorded = false) ∧
    (∃ (s : State) (d : Nat) (holder : Nat) (r : ResvResult), s.twin.state = 6 ∧ s.twin.recorded = true ∧ s.driveUp d = true ∧ r ≠ .failed ∧ d ∉ s.twin.drivesTold ∧ s.twin.claimNew < holder) ∧
    (∃ (s : State) (d : Nat) (holder : Nat) (r : ResvResult), s.twin.state = 6 ∧ s.twin.recorded = true ∧ s.driveUp d = true ∧ r ≠ .failed ∧ d ∉ s.twin.drivesTold ∧ holder ≤ s.twin.claimNew) ∧
    (∃ (s : State), s.twin.state = 6 ∧ s.twin.claimAt + s.setting 0x2100 6 / 2 ≤ s.now) ∧
    (∃ (s : State), s.twin.state = 1 ∧ s.bothSilent = true ∧ s.twin.absent = true ∧ s.setting 0x2100 5 ≤ s.silence) ∧
    (∃ (s : State) (u : State) (h : Hdr) (vault : Nat) (claim : Nat), Got s h (.claim vault claim) u ∧ s.claimOf vault < claim) ∧
    (∃ (s : State) (u : State) (h : Hdr) (vault : Nat) (claim : Nat), Got s h (.claim vault claim) u ∧ claim ≤ s.claimOf vault) ∧
    (∃ (s : State), s.twin.withdrawn = false ∧ s.twin.reclaimed = false ∧ s.twin.state = 7 ∧ s.setting 0x2100 4 + s.setting 0x2100 6 ≤ s.silence) ∧
    (∃ (s : State) (rq : Req), MayPut s rq 0x2100 8 1 1 ∧ s.twin.state = 1 ∧ (s.twin.peer.map Beat.inSync) = some true) ∧
    (∃ (s : State) (rq : Req), MayPut s rq 0x2100 8 1 1 ∧ s.twin.state ≠ 1) ∧
    (∃ (s : State), s.twin.state = 9 ∧ s.twin.latch = false ∧ s.persist.writes = [] ∧ s.persist.waitAdmit = [] ∧ s.persist.home = [] ∧ s.persist.unacked = []) ∧
    (∃ (s : State), s.twin.state = 6 ∧ s.twin.trigger = 3 ∧ s.twin.drivesTold = [] ∧ s.twin.claimAt + s.setting 0x2100 9 ≤ s.now) := by
  and_intros
  · exact ⟨({ dev with twin := { dev.twin with frameSilent := true, beat := .stuck } }), by decide +kernel, by decide +kernel, by decide +kernel, by decide +kernel, by decide +kernel⟩
  · exact ⟨({ dev with twin := { dev.twin with state := 4, frameSilent := true, beat := .stuck } }), by decide +kernel, by decide +kernel, by decide +kernel, by decide +kernel, by decide +kernel⟩
  · exact ⟨({ dev with twin := { dev.twin with state := 6 } }), by decide +kernel, by decide +kernel⟩
  · exact ⟨({ dev with twin := { dev.twin with state := 6, recorded := true, claimNew := 2 } }), 0, 3, .held, by decide +kernel, by decide +kernel, by decide +kernel, by decide +kernel, by decide +kernel, by decide +kernel⟩
  · exact ⟨({ dev with twin := { dev.twin with state := 6, recorded := true, claimNew := 2 } }), 0, 1, .conflict, by decide +kernel, by decide +kernel, by decide +kernel, by decide +kernel, by decide +kernel, by decide +kernel⟩
  · exact ⟨({ dev with twin := { dev.twin with state := 6 } }), by decide +kernel, by decide +kernel⟩
  · exact ⟨({ dev with twin := { dev.twin with frameSilent := true, beat := .stuck, absent := true } }), by decide +kernel, by decide +kernel, by decide +kernel, by decide +kernel⟩
  · exact ⟨dev, ((State.rx (dev : State) (sealHdr (from0 : Hdr) ((.claim (0 : Nat) (2 : Nat))) : Hdr) (.claim (0 : Nat) (2 : Nat)) false).1), (sealHdr (from0 : Hdr) ((.claim (0 : Nat) (2 : Nat)))), 0, 2, got_of (by decide +kernel), by decide +kernel⟩
  · exact ⟨dev, ((State.rx (dev : State) (sealHdr (from0 : Hdr) ((.claim (0 : Nat) (0 : Nat))) : Hdr) (.claim (0 : Nat) (0 : Nat)) false).1), (sealHdr (from0 : Hdr) ((.claim (0 : Nat) (0 : Nat)))), 0, 0, got_of (by decide +kernel), by decide +kernel⟩
  · exact ⟨({ dev with twin := { dev.twin with state := 7 } }), by decide +kernel, by decide +kernel, by decide +kernel, by decide +kernel⟩
  · exact ⟨({ owner with twin := { dev.twin with peer := some { state := 4, hearing := true, fenced := false, withdrawn := false, inSync := true, handover := false, seq := 1, echo := 0, claim := 1, horizon := 0, assigned := 0 } } }), rq, by unfold MayPut MayWrite; decide +kernel, by decide +kernel, by decide +kernel⟩
  · exact ⟨({ owner with twin := { dev.twin with state := 4 } }), rq, by unfold MayPut MayWrite; decide +kernel, by decide +kernel⟩
  · exact ⟨({ dev with twin := { dev.twin with state := 9 } }), by decide +kernel, by decide +kernel, by decide +kernel, by decide +kernel, by decide +kernel, by decide +kernel⟩
  · exact ⟨({ dev with twin := { dev.twin with state := 6, trigger := 3 } }), by decide +kernel, by decide +kernel, by decide +kernel, by decide +kernel⟩

/-- States and operands that meet the hypotheses of ResyncActs, clause by clause. -/
theorem witness_resyncActs :
    (∃ (s : State), s.setting 0x2120 4 = 0) ∧
    (∃ (s : State) (slot : Nat) (g : Nat), s.twin.state = 2 ∧ s.twin.resyncOn = true ∧ slotGran slot g ∈ s.twin.resync ∧ s.chanServes (slotChan slot) = true ∧ s.persist.unacked = []) ∧
    (∃ (s : State) (u : State) (h : Hdr) (part : Nat) (us : List MetaUpd), Got s h (.metaArea part 0 [] us) u ∧ u.twin.state = 5) ∧
    (∃ (s : State) (u : State) (h : Hdr) (part : Nat) (off : Nat) (us : List MetaUpd), Got s h (.metaArea part off [] us) u ∧ u.twin.state = 5 ∧ 0 < off ∧ off ≤ 32768 * metaExtents u.extents) ∧
    (∃ (s : State) (u : State) (h : Hdr) (part : Nat) (off : Nat) (l : List Nat), Got s h (.metaArea part off [] [.dirty l]) u ∧ u.twin.state = 5 ∧ 0 < off ∧ off ≤ 32768 * metaExtents u.extents) ∧
    (∃ (s : State) (u : State) (h : Hdr) (part : Nat) (off : Nat) (ls : List Line) (us : List MetaUpd), Got s h (.metaArea part off ls us) u ∧ u.twin.state = 5 ∧ ls ≠ [] ∧ off + ls.length ≤ 32768 * metaExtents u.extents) ∧
    (∃ (s : State) (u : State) (h : Hdr) (part : Nat) (off : Nat) (ls : List Line) (us : List MetaUpd), Got s h (.metaArea part off ls us) u ∧ u.twin.state = 5 ∧ 32768 * metaExtents u.extents < off + ls.length) := by
  and_intros
  · exact ⟨dev, by decide +kernel⟩
  · exact ⟨({ dev with twin := { dev.twin with state := 2, resyncOn := true, resync := [slotGran 1 2] } }), 1, 2, by decide +kernel, by decide +kernel, by decide +kernel, by decide +kernel, by decide +kernel⟩
  · exact ⟨({ dev with twin := { dev.twin with state := 5 } }), ((State.rx ({ dev with twin := { dev.twin with state := 5 } } : State) (sealHdr (fromTwin : Hdr) ((.metaArea (0 : Nat) 0 [] ([.dirty [5]] : List MetaUpd))) : Hdr) (.metaArea (0 : Nat) 0 [] ([.dirty [5]] : List MetaUpd)) false).1), (sealHdr (fromTwin : Hdr) ((.metaArea (0 : Nat) 0 [] ([.dirty [5]] : List MetaUpd)))), 0, ([.dirty [5]]), got_of (by decide +kernel), by decide +kernel⟩
  · exact ⟨({ dev with twin := { dev.twin with state := 5 } }), ((State.rx ({ dev with twin := { dev.twin with state := 5 } } : State) (sealHdr (fromTwin : Hdr) ((.metaArea (0 : Nat) (7 : Nat) [] ([] : List MetaUpd))) : Hdr) (.metaArea (0 : Nat) (7 : Nat) [] ([] : List MetaUpd)) false).1), (sealHdr (fromTwin : Hdr) ((.metaArea (0 : Nat) (7 : Nat) [] ([] : List MetaUpd)))), 0, 7, ([]), got_of (by decide +kernel), by decide +kernel, by decide +kernel, by decide +kernel⟩
  · exact ⟨({ dev with twin := { dev.twin with state := 5 } }), ((State.rx ({ dev with twin := { dev.twin with state := 5 } } : State) (sealHdr (fromTwin : Hdr) ((.metaArea (0 : Nat) (7 : Nat) [] [.dirty ([9] : List Nat)])) : Hdr) (.metaArea (0 : Nat) (7 : Nat) [] [.dirty ([9] : List Nat)]) false).1), (sealHdr (fromTwin : Hdr) ((.metaArea (0 : Nat) (7 : Nat) [] [.dirty ([9] : List Nat)]))), 0, 7, ([9]), got_of (by decide +kernel), by decide +kernel, by decide +kernel, by decide +kernel⟩
  · exact ⟨({ dev with twin := { dev.twin with state := 5 } }), ((State.rx ({ dev with twin := { dev.twin with state := 5 } } : State) (sealHdr (fromTwin : Hdr) ((.metaArea (0 : Nat) (0 : Nat) ([7] : List Line) ([.dirty [5]] : List MetaUpd))) : Hdr) (.metaArea (0 : Nat) (0 : Nat) ([7] : List Line) ([.dirty [5]] : List MetaUpd)) false).1), (sealHdr (fromTwin : Hdr) ((.metaArea (0 : Nat) (0 : Nat) ([7] : List Line) ([.dirty [5]] : List MetaUpd)))), 0, 0, ([7]), ([.dirty [5]]), got_of (by decide +kernel), by decide +kernel, by decide +kernel, by decide +kernel⟩
  · exact ⟨({ dev with twin := { dev.twin with state := 5 } }), ((State.rx ({ dev with twin := { dev.twin with state := 5 } } : State) (sealHdr (fromTwin : Hdr) ((.metaArea (0 : Nat) (32768 * 16384 : Nat) ([7] : List Line) ([] : List MetaUpd))) : Hdr) (.metaArea (0 : Nat) (32768 * 16384 : Nat) ([7] : List Line) ([] : List MetaUpd)) false).1), (sealHdr (fromTwin : Hdr) ((.metaArea (0 : Nat) (32768 * 16384 : Nat) ([7] : List Line) ([] : List MetaUpd)))), 0, (32768 * 16384), ([7]), ([]), got_of (by decide +kernel), by decide +kernel, by decide +kernel⟩

end Sys2Proof.Tests
end

/-! SUPPORT. The dictionary's statements: what its seven commands run, when a message is refused for the four requests outstanding before it,
and where a response is shown. -/

namespace Sys2Proof.Machine

/-! ### What the seven opcodes run -/

section Dispatch
variable (rq : Req) (m : DictMsg) (s : State)

@[simp] theorem exec_dictRead : exec (.dictRead rq m) s = execDictRead rq m s := rfl
@[simp] theorem exec_dictWrite : exec (.dictWrite rq m) s = execDictWrite rq m s := rfl
@[simp] theorem exec_dictReadSegment : exec (.dictReadSegment rq m) s = execDictReadSegment rq m s := rfl
@[simp] theorem exec_dictWriteSegment : exec (.dictWriteSegment rq m) s = execDictWriteSegment rq m s := rfl
@[simp] theorem exec_dictAbortTransfer : exec (.dictAbortTransfer rq m) s = execDictAbortTransfer rq m s := rfl
@[simp] theorem exec_dictDescribe : exec (.dictDescribe rq m) s = execDictDescribe rq m s := rfl
@[simp] theorem exec_dictEnumerate : exec (.dictEnumerate rq m) s = execDictEnumerate rq m s := rfl

end Dispatch

/-! ### Four requests outstanding (R51) -/

/-- The state from which a fifth request is answered: its requester is touched, and a password it presents here counts as refused (R63). -/
def State.atFifth (s : State) (rq : Req) (m : DictMsg) : State :=
  if presents m = true ∧ m.fwd = false then (s.touch rq).failedPresentation rq else s.touch rq

/-- `f`, what the message would have done to its object, is not looked at: BUSY comes first, by the model's choice (log entry 101). -/
theorem State.onMsg_of_four_outstanding {s : State} {rq : Req} {m : DictMsg} (ha : s.answers rq = true) (hw : msgWhole rq m = true)
    (hf : msgForm m = true) (h4 : 4 ≤ (s.touch rq).outstandingOf rq) (f : State → State) :
    s.onMsg rq m f = (s.atFifth rq m).respond rq (refuse m St.busy) := by
  simp [State.onMsg, State.atFifth, ha, hw, hf, h4]

/-- `act` and the value written are not looked at (log entry 101). -/
theorem State.writeObj_of_four_outstanding {s : State} {rq : Req} (h4 : 4 ≤ (s.touch rq).outstandingOf rq) (tag idx sub ty : Nat) (b : Bytes)
    (act : State → State × Nat) : s.writeObj rq tag idx sub ty b act = (s.touch rq).respond rq (writeResp tag idx sub St.busy) := by
  simp only [State.writeObj, if_pos h4]

@[simp] theorem refuse_tag (m : DictMsg) (st : Nat) : (refuse m st).tag = m.tag := rfl
@[simp] theorem writeResp_tag (tag idx sub st : Nat) : (writeResp tag idx sub st).tag = tag := rfl

/-! ### Where a response is shown (R51, R65, R75, R118) -/

section Respond
variable {s : State} {r : DictResp}

theorem State.segResp_of_not_mem {rq : Req} (h : (rq, r.tag) ∉ s.dict.segTags) : s.segResp rq r = (s, r) := by
  simp [State.segResp, h]

theorem State.respond_jtag {eid : Nat} (h : (.mctp .jtag eid, r.tag) ∉ s.dict.segTags) :
    s.respond (.mctp .jtag eid) r = s.emit (.dict (.mctp .jtag eid) (sealResp r)) := by
  simp only [State.respond, State.segResp_of_not_mem h]

theorem State.respond_i3c {p : Path} {eid : Nat} (hp : p = .i3c0 ∨ p = .i3c1) (h : (.mctp p eid, r.tag) ∉ s.dict.segTags) :
    s.respond (.mctp p eid) r = (s.emit (.inBand p)).emit (.dict (.mctp p eid) (sealResp r)) := by
  rcases hp with rfl | rfl <;> simp only [State.respond, State.segResp_of_not_mem h]

theorem State.respond_mailbox {p l : Nat} (h : (.ld p l, r.tag) ∉ s.dict.segTags) :
    s.respond (.ld p l) r = (s.emit (.mailbox p l 0xC5A0 0 (respWords (sealResp r)))).msix p l 0 := by
  simp only [State.respond, State.segResp_of_not_mem h]

theorem State.respond_forwarded {dev slot : Nat} (h : (.fwd dev slot, r.tag) ∉ s.dict.segTags) :
    s.respond (.fwd dev slot) r = s.send dev (.mgmtResp { dev := dev, slot := slot, level := 0 } (sealResp r)) := by
  simp only [State.respond, State.segResp_of_not_mem h]

end Respond

/-- Settles O13. R51 gives the refusal and the requester that is answered. That BUSY comes before the checks of R9 and R70 is the model's choice
(log entry 101); the ways a response goes are those of R65, R75 and R118. -/
theorem fifthRequestIsBusy : Obligations.FifthRequestIsBusy := by
  unfold Obligations.FifthRequestIsBusy
  refine ⟨?messages, ?writes, ?jtag, ?i3c, ?mailbox, ?forwarded⟩
  case messages =>
    intro s u rq m ha hw hf h4 hu
    have hbusy : ∀ f, s.onMsg rq m f = u.respond rq (refuse m St.busy) := hu ▸ State.onMsg_of_four_outstanding ha hw hf h4
    refine ⟨_, rfl, refuse_tag m _, ?_⟩
    simp only [exec_dictRead, exec_dictWrite, exec_dictReadSegment, exec_dictWriteSegment, exec_dictAbortTransfer, exec_dictDescribe, exec_dictEnumerate,
      execDictRead, execDictWrite, execDictReadSegment, execDictWriteSegment, execDictAbortTransfer, execDictDescribe, execDictEnumerate, hbusy, and_self]
  case writes =>
    intro s rq tag idx sub ty b act h4
    exact ⟨State.writeObj_of_four_outstanding h4 tag idx sub ty b act, writeResp_tag tag idx sub _⟩
  case jtag => exact fun _ _ _ => State.respond_jtag
  case i3c => exact fun _ _ _ _ => State.respond_i3c
  case mailbox => exact fun _ _ _ _ => State.respond_mailbox
  case forwarded => exact fun _ _ _ _ => State.respond_forwarded

end Sys2Proof.Machine

/-! SUPPORT. Writes of a line at its home: a line as its 64 bytes, what a merge of two lines holds in each byte, and what applying a line
leaves in memory. -/

namespace Sys2Proof.Machine

/-! ### Lines as bytes -/

/-- Two lines with the same 64 bytes are the same line. -/
theorem line_ext_bytes {v w : Line} (h : ∀ i < 64, v.extractLsb' (8 * i) 8 = w.extractLsb' (8 * i) 8) : v = w := by
  refine BitVec.eq_of_getLsbD_eq fun j hj => ?_
  have hbit := congrArg (BitVec.getLsbD · (j % 8)) (h (j / 8) (by omega))
  simpa [BitVec.getLsbD_extractLsb', Nat.mod_lt, Nat.div_add_mod] using hbit

@[simp] theorem length_leBytes (n v : Nat) : (leBytes n v).length = n := by
  induction n generalizing v with
  | zero => rfl
  | succ n ih => rw [leBytes, List.length_cons, ih]

theorem getElem_leBytes {n v i : Nat} (hi : i < (leBytes n v).length) : (leBytes n v)[i] = BitVec.ofNat 8 (v >>> (8 * i)) := by
  induction n generalizing v i with
  | zero => exact absurd hi (Nat.not_lt_zero i)
  | succ n ih =>
    cases i with
    | zero => rfl
    | succ i =>
      simp only [leBytes, List.getElem_cons_succ]
      rw [ih, show 8 * (i + 1) = 8 + 8 * i by omega, Nat.shiftRight_add, Nat.shiftRight_eq_div_pow v 8]

@[simp] theorem length_lineToBytes (v : Line) : (lineToBytes v).length = 64 := length_leBytes 64 _

theorem getElem_lineToBytes {v : Line} {i : Nat} (hi : i < (lineToBytes v).length) : (lineToBytes v)[i] = v.extractLsb' (8 * i) 8 :=
  getElem_leBytes hi

theorem testBit_fromLe (b : Bytes) {i j : Nat} (hj : j < 8) : (fromLe b).testBit (8 * i + j) = (nth b i 0).getLsbD j := by
  induction b generalizing i with
  | nil => simp [fromLe, nth]
  | cons x b ih =>
    rw [fromLe, Nat.add_comm x.toNat, show 256 = 2 ^ 8 from rfl, Nat.testBit_two_pow_mul_add _ x.isLt]
    cases i with
    | zero => simp [hj, nth, BitVec.testBit_toNat]
    | succ i =>
      rw [if_neg (by omega), show 8 * (i + 1) + j - 8 = 8 * i + j by omega, ih]
      rfl

theorem extractLsb'_bytesToLine {b : Bytes} {i : Nat} (hb : b.length = 64) (hi : i < 64) :
    (bytesToLine b).extractLsb' (8 * i) 8 = nth b i 0 := by
  refine BitVec.eq_of_getLsbD_eq fun j hj => ?_
  have hin : 8 * i + j < 512 := by omega
  rw [bytesToLine, List.take_of_length_le hb.le]
  simp only [BitVec.getLsbD_extractLsb', BitVec.getLsbD_ofNat, hj, hin, decide_true, Bool.true_and, testBit_fromLe b hj]

/-! ### Lines in memory -/

@[simp] theorem Memory.length_readBytes (m : List Host.Cell) (a n : Nat) : (Memory.readBytes m a n).length = n := by
  induction n generalizing a with
  | zero => rfl
  | succ n ih => rw [Memory.readBytes, List.length_cons, ih]

theorem Memory.nth_readBytes (m : List Host.Cell) {a n i : Nat} (hi : i < n) : nth (Memory.readBytes m a n) i 0 = Memory.read m (a + i) := by
  induction n generalizing a i with
  | zero => exact absurd hi (Nat.not_lt_zero i)
  | succ n ih =>
    cases i with
    | zero => rfl
    | succ i => exact (ih (Nat.lt_of_succ_lt_succ hi)).trans (congrArg (Memory.read m) (Nat.add_right_comm a 1 i))

/-- A byte of a line is the byte of memory at its address. -/
theorem Memory.extractLsb'_line (m : List Host.Cell) (ln : Nat) {i : Nat} (hi : i < 64) :
    (Memory.line m ln).extractLsb' (8 * i) 8 = Memory.read m (64 * ln + i) := by
  rw [Memory.line, extractLsb'_bytesToLine (Memory.length_readBytes ..) hi, Memory.nth_readBytes m hi]

/-- The first byte stored lies below every later one, so a later one does not touch it. -/
theorem Memory.read_writeBytes_inside {m : List Host.Cell} (hm : Memory.wf m = true) (a : Nat) {b : Bytes} {i : Nat} (hi : i < b.length) :
    Memory.read (Memory.writeBytes m a b) (a + i) = b[i] := by
  induction b generalizing m a i with
  | nil => exact absurd hi (Nat.not_lt_zero i)
  | cons x b ih =>
    cases i with
    | zero =>
      exact (Laws.read_writeBytes_outside _ b (.inl (Nat.lt_succ_self a))).trans (Laws.read_write_same hm a x)
    | succ i =>
      rw [Memory.writeBytes, show a + (i + 1) = a + 1 + i by omega]
      exact ih (Laws.wf_write hm a x) (a + 1) (Nat.lt_of_succ_lt_succ hi)

theorem Memory.read_setLine {m : List Host.Cell} (hm : Memory.wf m = true) (ln : Nat) (v : Line) {i : Nat} (hi : i < 64) :
    Memory.read (Memory.setLine m ln v) (64 * ln + i) = v.extractLsb' (8 * i) 8 := by
  have hlen : i < (lineToBytes v).length := by simpa using hi
  rw [Memory.setLine, Memory.read_writeBytes_inside hm _ hlen, getElem_lineToBytes]

/-! ### Merging by byte enables -/

/-- The mask of the first `n` byte enables. -/
def beMaskUpTo (be : BitVec 64) (n : Nat) : Line :=
  (List.range n).foldl (fun m i => if be.getLsbD i then m ||| ((0xFF : Line) <<< (8 * i)) else m) 0

theorem beMask_eq_upTo (be : BitVec 64) : beMask be = beMaskUpTo be 64 := rfl

theorem beMaskUpTo_succ (be : BitVec 64) (n : Nat) :
    beMaskUpTo be (n + 1) = if be.getLsbD n then beMaskUpTo be n ||| ((0xFF : Line) <<< (8 * n)) else beMaskUpTo be n := by
  rw [beMaskUpTo, List.range_succ, List.foldl_append]
  rfl

/-- The ones of byte `n` of a line lie in byte `n` alone. -/
theorem getLsbD_byteOnes (n : Nat) {i j : Nat} (hi : i < 64) (hj : j < 8) :
    ((0xFF : Line) <<< (8 * n)).getLsbD (8 * i + j) = decide (i = n) := by
  have hones : ∀ k, k < 512 → (0xFF : Line).getLsbD k = decide (k < 8) := fun k hk => by
    rw [show (0xFF : Line) = BitVec.ofNat 512 (2 ^ 8 - 1) from rfl, BitVec.getLsbD_ofNat, Nat.testBit_two_pow_sub_one, decide_eq_true hk, Bool.true_and]
  rw [BitVec.getLsbD_shiftLeft, hones _ (by omega), Bool.eq_iff_iff]
  simp only [Bool.and_eq_true, Bool.not_eq_true', decide_eq_true_eq, decide_eq_false_iff_not]
  omega

theorem getLsbD_beMaskUpTo (be : BitVec 64) (n : Nat) {i j : Nat} (hi : i < 64) (hj : j < 8) :
    (beMaskUpTo be n).getLsbD (8 * i + j) = (decide (i < n) && be.getLsbD i) := by
  induction n with
  | zero =>
    rw [decide_eq_false (Nat.not_lt_zero i), Bool.false_and]
    exact BitVec.getLsbD_zero
  | succ n ih =>
    rw [beMaskUpTo_succ, apply_ite (BitVec.getLsbD · (8 * i + j))]
    simp only [BitVec.getLsbD_or, ih, getLsbD_byteOnes n hi hj]
    rcases Nat.lt_trichotomy i n with hlt | rfl | hgt
    · simp [hlt, Nat.lt_succ_of_lt hlt, Nat.ne_of_lt hlt]
    · cases be.getLsbD i <;> simp
    · simp [Nat.not_lt_of_gt hgt, Nat.not_lt.mpr hgt, Nat.ne_of_gt hgt]

theorem getLsbD_beMask (be : BitVec 64) {i j : Nat} (hi : i < 64) (hj : j < 8) : (beMask be).getLsbD (8 * i + j) = be.getLsbD i := by
  rw [beMask_eq_upTo, getLsbD_beMaskUpTo be 64 hi hj, decide_eq_true hi, Bool.true_and]

@[simp] theorem mergeLine_allOnes (old new : Line) : mergeLine old new (BitVec.allOnes 64) = new := if_pos rfl

theorem getLsbD_mergeLine (old new : Line) (be : BitVec 64) {i j : Nat} (hi : i < 64) (hj : j < 8) :
    (mergeLine old new be).getLsbD (8 * i + j) = if be.getLsbD i then new.getLsbD (8 * i + j) else old.getLsbD (8 * i + j) := by
  by_cases hfull : be = BitVec.allOnes 64
  · rw [hfull, mergeLine_allOnes, BitVec.getLsbD_allOnes, decide_eq_true hi, if_pos rfl]
  · have hin : 8 * i + j < 512 := by omega
    rw [mergeLine, if_neg hfull, BitVec.getLsbD_or, BitVec.getLsbD_and, BitVec.getLsbD_and, BitVec.getLsbD_not, getLsbD_beMask be hi hj]
    cases be.getLsbD i <;> simp [hin]

/-- R104: a byte of a merge is the new line's where its byte enable is set, and the old line's elsewhere. -/
theorem extractLsb'_mergeLine (old new : Line) (be : BitVec 64) {i : Nat} (hi : i < 64) :
    (mergeLine old new be).extractLsb' (8 * i) 8 = if be.getLsbD i then new.extractLsb' (8 * i) 8 else old.extractLsb' (8 * i) 8 := by
  refine BitVec.eq_of_getLsbD_eq fun j hj => ?_
  rw [BitVec.getLsbD_extractLsb', getLsbD_mergeLine old new be hi hj, apply_ite (BitVec.getLsbD · j)]
  simp only [BitVec.getLsbD_extractLsb', hj, decide_true, Bool.true_and]

/-! ### What applying a line leaves in memory (R203 step 4) -/

/-- A step framed by parts without memory keeps memory. -/
theorem mem_eq_of_fr {m : Nat} {s t : State} (h : Laws.Fr m s t) (hm : m.testBit (Laws.bit .mem) = false) : t.mem = s.mem :=
  h.2.2.2.2 .mem hm

section ApplyParts
variable (s : State)

@[simp] theorem State.syncHorizon_mem : s.syncHorizon.mem = s.mem := rfl
@[simp] theorem State.mergeKeep_mem (ln : Nat) (full : Bool) : (s.mergeKeep ln full).mem = s.mem := rfl
@[simp] theorem State.putLine_mem (ln : Nat) (v : Line) (p : Bool) : (s.putLine ln v p).mem = Memory.setLine s.mem ln v := rfl

@[simp] theorem State.markGran_mem (g seq : Nat) : (s.markGran g seq).mem = s.mem :=
  mem_eq_of_fr (Laws.fr_markGran Laws.in_self Laws.fr_refl g seq) rfl

@[simp] theorem State.mirrorRun_mem (slot seq : Nat) (r : Run) (sync : Bool) : (s.mirrorRun slot seq r sync).mem = s.mem :=
  mem_eq_of_fr (Laws.fr_mirrorRun Laws.in_self Laws.fr_refl slot seq r sync) rfl

@[simp] theorem State.poisonEnter_mem (ln cause : Nat) : (s.poisonEnter ln cause).mem = s.mem :=
  mem_eq_of_fr (Laws.fr_poisonEnter Laws.in_self Laws.fr_refl ln cause) rfl

@[simp] theorem State.poisonLeave_mem (ln : Nat) : (s.poisonLeave ln).mem = s.mem :=
  mem_eq_of_fr (Laws.fr_poisonLeave Laws.in_self Laws.fr_refl ln) rfl

@[simp] theorem State.invalidate_mem (key ln write : Nat) : (s.invalidate key ln write).mem = s.mem :=
  mem_eq_of_fr (Laws.fr_invalidate Laws.in_self Laws.fr_refl key ln write) rfl

end ApplyParts

section ApplyLine
variable {s : State} {slot key off : Nat} {v : Line} {be : BitVec 64} {poison : Bool} {tag : Option (Nat × Nat)}
  {atomic : Option (Nat × Nat × Nat)} {write cause : Nat}

/-- All that goes with an applied line (sequence number, granule bits, mirror record, poison list, invalidations) leaves memory alone:
memory changes by the one line stored, so a write is one unit. -/
@[simp] theorem State.applyLine_mem : (s.applyLine slot key off v be poison tag atomic write cause).mem =
    Memory.setLine s.mem (slotLine slot off) (mergeLine (s.line (slotLine slot off)) v be) := by
  unfold State.applyLine
  dsimp only
  rw [State.syncHorizon_mem, State.invalidate_mem]
  split
  · simp
  · split <;> simp

theorem State.read_applyLine {i : Nat} (hm : Memory.wf s.mem = true) (hi : i < 64) :
    Memory.read (s.applyLine slot key off v be poison tag atomic write cause).mem (64 * slotLine slot off + i) =
      if be.getLsbD i then v.extractLsb' (8 * i) 8 else Memory.read s.mem (64 * slotLine slot off + i) := by
  rw [State.applyLine_mem, Memory.read_setLine hm _ _ hi, extractLsb'_mergeLine _ _ _ hi, State.line, Memory.extractLsb'_line _ _ hi]

theorem State.line_applyLine_allOnes (hm : Memory.wf s.mem = true) :
    (s.applyLine slot key off v (BitVec.allOnes 64) poison tag atomic write cause).line (slotLine slot off) = v := by
  refine line_ext_bytes fun i hi => ?_
  rw [State.line, Memory.extractLsb'_line _ _ hi, State.applyLine_mem, mergeLine_allOnes, Memory.read_setLine hm _ _ hi]

theorem State.wf_applyLine_mem (hm : Memory.wf s.mem = true) :
    Memory.wf (s.applyLine slot key off v be poison tag atomic write cause).mem = true := by
  rw [State.applyLine_mem]
  exact Laws.wf_setLine hm _ _

end ApplyLine

/-- Byte enables that share no byte: one that is set in the first is clear in the second. -/
theorem not_getLsbD_of_disjoint {be ce : BitVec 64} {i : Nat} (hd : be &&& ce = 0) (hb : be.getLsbD i = true) : ¬ ce.getLsbD i = true := by
  simpa [hb] using congrArg (BitVec.getLsbD · i) hd

/-- Settles O9: memory changes by the merged line alone, and the merge is told apart byte by byte. Of two writes with disjoint byte enables,
the second sees the first's bytes as old ones and keeps them. -/
theorem lineWritesMerge : Obligations.LineWritesMerge := by
  unfold Obligations.LineWritesMerge
  refine ⟨?bytes, ?whole, ?disjoint⟩
  case bytes => exact fun _ _ _ _ _ _ _ _ _ _ _ _ hm hi => State.read_applyLine hm hi
  case whole => exact fun _ _ _ _ _ _ _ _ _ _ hm => State.line_applyLine_allOnes hm
  case disjoint =>
    intro s t slot key off v w be ce tag tag' write write' cause cause' i hm hd hi hb ht
    rw [ht, State.read_applyLine (State.wf_applyLine_mem hm) hi, if_neg (not_getLsbD_of_disjoint hd hb),
      State.read_applyLine hm hi, if_pos hb]

end Sys2Proof.Machine

/-! SUPPORT. The hash of extent keys and affinity groups: the register of the CRC-32C stays 32 bits wide, and a group's key is its number with
bit 39 set. -/

namespace Sys2Proof.Machine

/-! ### The width of the CRC-32C (R67, R141) -/

theorem crcBit_lt {c : Nat} (hc : c < 2 ^ 32) : crcBit c < 2 ^ 32 := by
  have hshift : c / 2 < 2 ^ 32 := by omega
  unfold crcBit
  split
  · exact Nat.xor_lt_two_pow hshift (by decide)
  · exact hshift

theorem crcByte_lt {c : Nat} (hc : c < 2 ^ 32) (b : Byte) : crcByte c b < 2 ^ 32 := by
  have hin : c ^^^ b.toNat < 2 ^ 32 := Nat.xor_lt_two_pow hc (b.isLt.trans (by decide))
  exact crcBit_lt <| crcBit_lt <| crcBit_lt <| crcBit_lt <| crcBit_lt <| crcBit_lt <| crcBit_lt <| crcBit_lt hin

theorem crcRun_lt {c : Nat} (hc : c < 2 ^ 32) (b : Bytes) : crcRun c b < 2 ^ 32 := by
  induction b generalizing c with
  | nil => exact hc
  | cons x b ih => exact ih (crcByte_lt hc x)

theorem crc32cOf_lt (b : Bytes) : crc32cOf b < 2 ^ 32 :=
  Nat.xor_lt_two_pow (crcRun_lt (by decide) b) (by decide)

/-! ### Bit 39 of a key (R172) -/

/-- An extent key fills bits 38:0, so that bit 39 tells it from a group's key. -/
theorem getLsbD_39_of_extentKey {key : Nat} (hk : key < 2 ^ 39) : (BitVec.ofNat 40 key).getLsbD 39 = false := by
  rw [BitVec.getLsbD_ofNat, Nat.testBit_lt_two_pow hk, Bool.and_false]

/-- The model adds 2^39 to a group number; below 2^39 nothing carries, so bit 39 is set as R172 writes it. -/
theorem groupKey_eq_or {g : Nat} (hg : g < 2 ^ 39) : groupKey g = g ||| (1 <<< 39) := by
  calc groupKey g = 2 ^ 39 * 1 + g := by rw [groupKey, Nat.mul_one, Nat.add_comm]
    _ = 2 ^ 39 * 1 ||| g := Nat.two_pow_add_eq_or_of_lt hg 1
    _ = g ||| (1 <<< 39) := by rw [Nat.or_comm, Nat.mul_one, Nat.one_shiftLeft]

/-- Settles O12: what needs an argument is the hash's width, kept by each bit of the CRC-32C, and bit 39 of the two kinds of key; the model's
index, cache set and directory vault are R172's by definition. -/
theorem extentKeysHash : Obligations.ExtentKeysHash := by
  unfold Obligations.ExtentKeysHash
  refine ⟨?hash, ?extent, ?places, ?group, ?vault⟩
  case hash => exact fun key => ⟨rfl, crc32cOf_lt (leBytes 5 key)⟩
  case extent => exact fun _ hk => getLsbD_39_of_extentKey hk
  case places => exact fun _ => ⟨rfl, rfl⟩
  case group => exact fun _ hg => groupKey_eq_or hg
  case vault => exact fun _ _ => rfl

end Sys2Proof.Machine

/-! SUPPORT. The ranks of the listed devices: a rank counts the devices below, so it grows strictly along the listed devices, and N different
ranks below N leave no hole. -/

namespace Sys2Proof.Machine

/-! ### Ranks (R324) -/

theorem State.length_devices (s : State) : s.devices.length = s.listedCount := List.length_map ..

/-- The model counts manifest entries; R324 counts device numbers. -/
theorem State.rankAt_eq_length_filter (s : State) (d : Nat) : s.rankAt d = (s.devices.filter (fun e => e < d)).length := by
  rw [State.devices, List.filter_map, List.length_map]
  rfl

/-- A listed device is not below itself, so its rank leaves at least one listed device out. -/
theorem State.rankAt_lt_listedCount {s : State} {d : Nat} (hd : d ∈ s.devices) : s.rankAt d < s.listedCount := by
  rw [s.rankAt_eq_length_filter, ← s.length_devices]
  exact List.length_filter_lt_length_iff_exists.mpr ⟨d, hd, by simp⟩

/-- The devices below `d` are among those below a higher `e`, and a listed `d` itself is one of the latter alone. -/
theorem State.rankAt_lt_rankAt {s : State} {d e : Nat} (hd : d ∈ s.devices) (hde : d < e) : s.rankAt d < s.rankAt e := by
  have hbelow : s.devices.filter (· < d) = (s.devices.filter (· < e)).filter (· < d) := by
    rw [List.filter_filter]
    refine List.filter_congr fun x _ => ?_
    rw [← Bool.decide_and, decide_eq_decide]
    exact ⟨fun hx => ⟨hx, hx.trans hde⟩, And.left⟩
  have hmem : d ∈ s.devices.filter (· < e) := List.mem_filter.mpr ⟨hd, decide_eq_true hde⟩
  rw [s.rankAt_eq_length_filter, s.rankAt_eq_length_filter, hbelow]
  exact List.length_filter_lt_length_iff_exists.mpr ⟨d, hmem, by simp⟩

theorem State.strictMonoOn_rankAt (s : State) : StrictMonoOn s.rankAt {d | d ∈ s.devices} :=
  fun _ hd _ _ hde => State.rankAt_lt_rankAt hd hde

/-- N devices, each listed once, have N different ranks below N, so the ranks have no hole. -/
theorem State.exists_rankAt_eq {s : State} {r : Nat} (hs : s.devices.Nodup) (hr : r < s.listedCount) : ∃ d ∈ s.devices, s.rankAt d = r := by
  have hmaps : Set.MapsTo s.rankAt s.devices.toFinset (Finset.range s.listedCount) := fun d hd =>
    Finset.mem_coe.mpr (Finset.mem_range.mpr (State.rankAt_lt_listedCount (List.mem_toFinset.mp hd)))
  have hinj : Set.InjOn s.rankAt s.devices.toFinset := s.strictMonoOn_rankAt.injOn.mono fun _ hd => List.mem_toFinset.mp hd
  have hcard : (Finset.range s.listedCount).card ≤ s.devices.toFinset.card := by
    rw [Finset.card_range, List.toFinset_card_of_nodup hs, s.length_devices]
  obtain ⟨d, hd, hdr⟩ := Finset.surjOn_of_injOn_of_card_le s.rankAt hmaps hinj hcard (Finset.mem_coe.mpr (Finset.mem_range.mpr hr))
  exact ⟨d, List.mem_toFinset.mp hd, hdr⟩

/-- Settles O11: ranks stay below the number of listed devices and grow strictly along them, so where no device is listed twice they are all
the numbers below it. -/
theorem ranksNumberListedDevices : Obligations.RanksNumberListedDevices := by
  unfold Obligations.RanksNumberListedDevices
  refine ⟨?count, ?bound, ?noHole⟩
  case count => exact fun s d => s.rankAt_eq_length_filter d
  case bound => exact fun _ _ hd => State.rankAt_lt_listedCount hd
  case noHole => exact fun _ _ hs hr => State.exists_rankAt_eq hs hr

end Sys2Proof.Machine

/-! SUPPORT. The counters' statements: maps with an entry changed, how a write of one object is answered once its checks are known, the object
that presets a counter, and the count that follows a preset. -/

namespace Sys2Proof.Machine

/-! ### Entries of a map -/

section Maps
variable {α : Type} (m : List (Nat × α)) (k : Nat)

@[simp] theorem getD_insertKey_same (v d : α) : getD (insertKey k v m) k d = v := by
  simp only [getD, Laws.assoc_insertKey_same, Option.getD_some]

theorem getD_insertKey_other {j : Nat} (hj : j ≠ k) (v d : α) : getD (insertKey k v m) j d = getD m j d := by
  simp only [getD, Laws.assoc_insertKey_other hj]

@[simp] theorem getD_modD_same (d : α) (f : α → α) : getD (modD m k d f) k d = f (getD m k d) := getD_insertKey_same m k _ d

theorem getD_modD_other {j : Nat} (hj : j ≠ k) (d : α) (f : α → α) : getD (modD m k d f) j d = getD m j d := getD_insertKey_other m k hj _ d

end Maps

/-! ### The number a little-endian string holds (R4) -/

theorem fromLe_leBytes (n v : Nat) : fromLe (leBytes n v) = v % 256 ^ n := by
  induction n generalizing v with
  | zero => rw [pow_zero, Nat.mod_one]; rfl
  | succ n ih =>
    have hlow : (BitVec.ofNat 8 v).toNat = v % 256 := BitVec.toNat_ofNat v 8
    rw [leBytes, fromLe, ih, hlow, Nat.pow_succ', Nat.mod_mul]

/-! ### A write of one object (R46, R47, R51) -/

section WriteNum
variable {s : State} {rq : Req} {idx sub n v : Nat} (tag : Nat) (act : State → State × Nat)

/-- A write that passes its checks acts, and its answer carries the act's status. -/
theorem State.writeNum_of_mayPut (h : Claims.MayPut s rq idx sub n v) :
    s.writeNum rq tag idx sub n v act = (act (s.touch rq)).1.respond rq (writeResp tag idx sub (act (s.touch rq)).2) := by
  obtain ⟨hbusy, hpasses⟩ := h
  simp only [State.writeNum, State.writeObj, hpasses, lowest, if_neg (Nat.not_le.mpr hbusy), if_true]

/-- A write that fails a check of its access is answered with the lowest code of those, where its act would find nothing more, and does not act. -/
theorem State.writeNum_of_fails {bad : Nat} (hbusy : (s.touch rq).outstandingOf rq < 4)
    (hbad : lowest ((s.touch rq).writeFails rq idx sub (tyCode idx sub) (leBytes n v)) = bad) (hne : bad ≠ St.ok) (hact : (act (s.touch rq)).2 = St.ok) :
    s.writeNum rq tag idx sub n v act = (s.touch rq).respond rq (writeResp tag idx sub bad) := by
  simp [State.writeNum, State.writeObj, refusal, Nat.not_le.mpr hbusy, hbad, hne, hact]

end WriteNum

/-! ### The object that presets a counter (R508) -/

/-- The row of 0xB000+n:07, which an operator writes and nobody reads. -/
def presetRow : Obj := ⟨0xB000, 0xB3FF, 7, 7, .u64, .wo, 255, 1, 0, [(0, 2 ^ 48 - 1)]⟩

/-- The counters' objects fill the indices of four high bytes. -/
theorem objsOf_counter {n : Nat} (hn : n < 1024) : objsOf (0xB000 + n) = objsB0 := by
  obtain ⟨q, hq, hdiv⟩ : ∃ q < 4, (0xB000 + n) / 256 = 0xB0 + q := ⟨n / 256, by omega, by omega⟩
  rw [objsOf, hdiv]
  interval_cases q <;> rfl

theorem objFind_preset {n : Nat} (hn : n < 1024) : objFind (0xB000 + n) 7 = some presetRow := by
  have hhi : 0xB000 + n ≤ 0xB3FF := by omega
  simp [objFind, objsOf_counter hn, objsB0, presetRow, hhi]

theorem tyCode_preset {n : Nat} (hn : n < 1024) : tyCode (0xB000 + n) 7 = Ty.code .u64 := by
  rw [tyCode, objFind_preset hn]; rfl

/-- R508: a preset takes the values from 0 to 2^48 - 1. -/
theorem rangeOk_preset {v : Nat} (n : Nat) (hv : v < 2 ^ 64) : rangeOk presetRow (0xB000 + n) 7 (leBytes 8 v) = decide (v < 2 ^ 48) := by
  have hval : fromLe (leBytes 8 v) = v := (fromLe_leBytes 8 v).trans (Nat.mod_eq_of_lt hv)
  have hstep : stepOk (0xB000 + n) 7 v = true := by simp [stepOk]
  simpa [rangeOk, presetRow, inPieces, hval, hstep] using show v ≤ 2 ^ 48 - 1 ↔ v < 2 ^ 48 by omega

/-- A requester above the level of a host passes every check of the access to a preset (R60, R61). -/
theorem State.accessFails_preset {s : State} {rq : Req} {n : Nat} (hn : n < 1024) (hlevel : s.level rq ≠ 0) :
    s.accessFails rq (0xB000 + n) 7 (Ty.code .u64) 8 = [] := by
  have hoperator : 1 ≤ s.level rq := Nat.one_le_iff_ne_zero.mpr hlevel
  have hsource : ¬ 0xB000 + n < 0xA140 := by omega
  simp [State.accessFails, objFind_preset hn, presetRow, hsource, fails, levelFails, Ty.lenOk, Ty.len, hoperator, hlevel]

/-- From 2^48 on a value fails the range of the object, and nothing else (R508). -/
theorem State.writeFails_preset {s : State} {rq : Req} {n v : Nat} (hn : n < 1024) (hlevel : s.level rq ≠ 0) (hlo : 2 ^ 48 ≤ v) (hhi : v < 2 ^ 64) :
    s.writeFails rq (0xB000 + n) 7 (tyCode (0xB000 + n) 7) (leBytes 8 v) = [St.badRange] := by
  have hrange : rangeOk presetRow (0xB000 + n) 7 (leBytes 8 v) = false := (rangeOk_preset n hhi).trans (decide_eq_false (Nat.not_lt.mpr hlo))
  rw [tyCode_preset hn, State.writeFails, length_leBytes, State.accessFails_preset hn hlevel, objFind_preset hn]
  simp only [hrange]
  rfl

/-! ### A preset and the count that follows it (R505, R507, R508) -/

/-- Counter `n` with its value set. -/
def State.presetCtr (s : State) (n v : Nat) : State := s.modRec fun r => { r with ctrs := modD r.ctrs n {} fun c => { c with value := v } }

section PresetCtr
variable (s : State) (n v : Nat)

theorem exec_counterPreset (rq : Req) (tag : Nat) :
    exec (.counterPreset rq tag n v) s = .next (s.writeNum rq tag (0xB000 + n) 7 8 v fun s => (s.presetCtr n v, St.ok)) := rfl

@[simp] theorem State.ctrs_presetCtr : (s.presetCtr n v).rec_.ctrs = modD s.rec_.ctrs n {} fun c => { c with value := v } := rfl

theorem State.getD_ctrs_presetCtr_same : getD (s.presetCtr n v).rec_.ctrs n {} = { getD s.rec_.ctrs n {} with value := v } := by
  rw [State.ctrs_presetCtr, getD_modD_same]

theorem State.getD_ctrs_presetCtr_other {m : Nat} (hm : m ≠ n) : getD (s.presetCtr n v).rec_.ctrs m {} = getD s.rec_.ctrs m {} := by
  rw [State.ctrs_presetCtr, getD_modD_other _ _ hm]

theorem State.onlyChanges_presetCtr : OnlyChanges [.recorder] s (s.presetCtr n v) := by
  refine ⟨rfl, rfl, fun p hp => ?_⟩
  cases p
  case recorder => exact absurd (List.mem_singleton_self _) hp
  all_goals rfl

end PresetCtr

theorem ctrAdd_of_lt {c : Ctr} {k : Nat} (h : c.value + k < 2 ^ 48) : ctrAdd c k = ({ c with value := c.value + k }, 0) := by
  rw [ctrAdd, Nat.mod_eq_of_lt h, Nat.div_eq_of_lt h]

/-- A counter that is not frozen and does not wrap counts all `k`; no carry goes on, so `fuel` is not looked at. -/
theorem State.value_advance {s : State} {n k : Nat} (hfrozen : s.frozen n = false) (hwrap : (getD s.rec_.ctrs n {}).value + k < 2 ^ 48) (fuel : Nat) :
    (getD (s.advance n k fuel).1.rec_.ctrs n {}).value = (getD s.rec_.ctrs n {}).value + k := by
  unfold State.advance
  cases k with
  | zero => simp
  | succ k => simp [hfrozen, ctrAdd_of_lt hwrap]

/-- Settles O14. The preset is the act of a write that passes its checks; a value from 2^48 on fails the range of the object and no other check. -/
theorem presetSetsACounter : Obligations.PresetSetsACounter := by
  unfold Obligations.PresetSetsACounter
  refine ⟨?preset, ?refused⟩
  case preset =>
    intro s rq tag n v hput
    have hget := (s.touch rq).getD_ctrs_presetCtr_same n v
    refine ⟨(s.touch rq).presetCtr n v, ?exec, State.onlyChanges_presetCtr .., ?value, ?ovf, ?others, ?counted⟩
    case exec => rw [exec_counterPreset, State.writeNum_of_mayPut tag _ hput]
    case value => rw [hget]
    case ovf => rw [hget, State.touch_rec_]
    case others => exact fun m hm => by rw [State.getD_ctrs_presetCtr_other _ _ _ hm, State.touch_rec_]
    case counted =>
      intro k hfrozen hwrap
      rw [State.value_advance hfrozen (by rwa [hget]) 7, hget]
  case refused =>
    intro s rq tag n v hn hlo hhi hlevel hbusy
    have hfails := State.writeFails_preset hn hlevel hlo hhi
    rw [exec_counterPreset, State.writeNum_of_fails (bad := St.badRange) tag _ hbusy (congrArg lowest hfails) (by decide) rfl]

end Sys2Proof.Machine

/-! SUPPORT. What holds of every command, whatever it does: which parts it may change, and whether it completes. Laws/Frame*.lean says the first of each
meaning; here it is gathered over the dispatch, and every step statement is read off it. -/

namespace Sys2Proof.Machine

open Laws Claims

/-! ### Sets of parts as numbers -/

/-- The number of a list of parts, a bit a part, as `Laws.Fr` takes it. -/
def partsMask (ps : List Part) : Nat := ps.foldr (fun p m => 2 ^ Laws.bit p ||| m) 0

theorem bit_injective : Function.Injective Laws.bit := Function.LeftInverse.injective (g := Part.ofNat) Part.ofNat_ctorIdx

theorem testBit_partsMask_of_notMem {p : Part} {ps : List Part} (hp : p ∉ ps) : (partsMask ps).testBit (Laws.bit p) = false := by
  induction ps with
  | nil => exact Nat.zero_testBit _
  | cons q ps ih =>
    have hne : p ≠ q := List.ne_of_not_mem_cons hp
    have hps : p ∉ ps := List.not_mem_of_not_mem_cons hp
    have hbit : Laws.bit q ≠ Laws.bit p := bit_injective.ne hne.symm
    rw [partsMask, List.foldr_cons, Nat.testBit_or, Nat.testBit_two_pow_of_ne hbit, Bool.false_or]
    exact ih hps

theorem onlyChanges_of_frParts {ps : List Part} {s t : State} (h : Fr (partsMask ps) s t) : OnlyChanges ps s t :=
  onlyChanges_of_fr h fun _ => testBit_partsMask_of_notMem

/-! ### Every command, over the dispatch -/

/-- The frame of every command: each meaning keeps to the parts that `touches` lists for its command. -/
theorem frOut_exec (c : Instr) (s : State) : FrOut (partsMask (touches c)) s (exec c s) := by
  cases c with (dsimp only [touches, exec])
  | dictRead => exact fr_execDictRead (by exact rfl) fr_refl _ _
  | dictWrite => exact fr_execDictWrite (by exact rfl) fr_refl _ _
  | dictReadSegment => exact fr_execDictReadSegment (by exact rfl) fr_refl _ _
  | dictWriteSegment => exact fr_execDictWriteSegment (by exact rfl) fr_refl _ _
  | dictAbortTransfer => exact fr_execDictAbortTransfer (by exact rfl) fr_refl _ _
  | dictDescribe => exact fr_execDictDescribe (by exact rfl) fr_refl _ _
  | dictEnumerate => exact fr_execDictEnumerate (by exact rfl) fr_refl _ _
  | setEndpointId => exact fr_execSetEndpointId (by exact rfl) fr_refl _ _
  | getEndpointId => exact fr_execGetEndpointId (by exact rfl) fr_refl _
  | getEndpointUuid => exact fr_execGetEndpointUuid (by exact rfl) fr_refl _
  | getMctpVersionSupport => exact fr_execGetMctpVersionSupport (by exact rfl) fr_refl _
  | getMessageTypeSupport => exact fr_execGetMessageTypeSupport (by exact rfl) fr_refl _
  | getVendorDefinedMessageSupport => exact fr_execGetVendorDefinedMessageSupport (by exact rfl) fr_refl _
  | forwardRequest => exact fr_execForwardRequest (by exact rfl) fr_refl _ _
  | forwardResponse => exact fr_execForwardResponse (by exact rfl) fr_refl _ _ _
  | forwardTimeout => exact fr_execForwardTimeout (by exact rfl) fr_refl _ _
  | mgmtFrame => exact fr_execMgmtFrame (by exact rfl) fr_refl _ _ _
  | commit => exact fr_execCommit (by exact rfl) fr_refl _ _
  | discardStaged => exact fr_execDiscardStaged (by exact rfl) fr_refl _ _
  | stageTimeout => exact fr_execStageTimeout (by exact rfl) fr_refl _
  | requesterSlotTimeout => exact fr_execRequesterSlotTimeout (by exact rfl) fr_refl _
  | save => exact fr_execSave (by exact rfl) fr_refl _ _
  | saveComplete => exact fr_execSaveComplete (by exact rfl) fr_refl _
  | restoreDefaults => exact fr_execRestoreDefaults (by exact rfl) fr_refl _ _
  | resetWarm => exact fr_execResetWarm (by exact rfl) fr_refl _ _
  | resetCold => exact fr_execResetCold (by exact rfl) fr_refl _ _
  | resetStartDelay => exact fr_execResetStartDelay (by exact rfl) fr_refl
  | presentPassword => exact fr_execPresentPassword (by exact rfl) fr_refl _ _ _
  | presentationRefusalEnd => exact fr_execPresentationRefusalEnd (by exact rfl) fr_refl
  | ownerLock => exact fr_execOwnerLock (by exact rfl) fr_refl _ _
  | elevationTimeout => exact fr_execElevationTimeout (by exact rfl) fr_refl _
  | newPassword => exact fr_execNewPassword (by exact rfl) fr_refl _ _ _
  | transferIdleTimeout => exact fr_execTransferIdleTimeout (by exact rfl) fr_refl _ _
  | registerWrite => exact fr_execRegisterWrite (by exact rfl) fr_refl _ _
  | paceWindow => exact fr_execPaceWindow (by exact rfl) fr_refl _ _
  | voltageStep => exact fr_execVoltageStep (by exact rfl) fr_refl
  | paceTargetMissed => exact fr_execPaceTargetMissed (by exact rfl) fr_refl
  | volumeCreate => exact fr_execVolumeCreate (by exact rfl) fr_refl _ _ _ _ _
  | volumeResize => exact fr_execVolumeResize (by exact rfl) fr_refl _ _ _
  | volumeDelete => exact fr_execVolumeDelete (by exact rfl) fr_refl _ _
  | zeroFillComplete => exact fr_execZeroFillComplete (by exact rfl) fr_refl _
  | capacityShareChange => exact fr_execCapacityShareChange (by exact rfl) fr_refl _ _ _ _ _
  | manifestAdd => exact fr_execManifestAdd (by exact rfl) fr_refl _ _
  | manifestChangeAddresses => exact fr_execManifestChangeAddresses (by exact rfl) fr_refl _ _
  | manifestRemove => exact fr_execManifestRemove (by exact rfl) fr_refl _ _
  | directoryMapChange => exact fr_execDirectoryMapChange (by exact rfl) fr_refl _ _ _
  | hostRead => exact fr_execHostRead (by exact rfl) fr_refl _ _ _ _
  | hostWrite => exact fr_execHostWrite (by exact rfl) fr_refl _ _ _ _ _ _ _
  | heldWriteAdmitted => exact fr_execHeldWriteAdmitted (by exact rfl) fr_refl _
  | writeHoldThreshold => exact fr_execWriteHoldThreshold (by exact rfl) fr_refl _
  | translationTimeLimit => exact fr_execTranslationTimeLimit (by exact rfl) fr_refl _
  | portLinkTrained => exact fr_execPortLinkTrained (by exact rfl) fr_refl _ _ _
  | portLinkDown => exact fr_execPortLinkDown (by exact rfl) fr_refl _
  | portRetrain => exact fr_execPortRetrain (by exact rfl) fr_refl _ _ _
  | portEnableWrite => exact fr_execPortEnableWrite (by exact rfl) fr_refl _ _ _ _
  | cxlPerst => exact fr_execCxlPerst (by exact rfl) fr_refl _
  | gpfPhase1 => exact fr_execGpfPhase1 (by exact rfl) fr_refl _
  | gpfPhase2 => exact fr_execGpfPhase2 (by exact rfl) fr_refl _
  | gpfPhase2Answer => exact fr_execGpfPhase2Answer (by exact rfl) fr_refl _
  | sessionUnbindDone => exact fr_execSessionUnbindDone (by exact rfl) fr_refl _
  | capacityOfferTimeout => exact fr_execCapacityOfferTimeout (by exact rfl) fr_refl _
  | releaseCapacityDone => exact fr_execReleaseCapacityDone (by exact rfl) fr_refl _
  | identify => exact fr_execIdentify (by exact rfl) fr_refl _ _
  | getEventRecords => exact fr_execGetEventRecords (by exact rfl) fr_refl _ _ _
  | clearEventRecords => exact fr_execClearEventRecords (by exact rfl) fr_refl _ _ _ _ _
  | getEventInterruptPolicy => exact fr_execGetEventInterruptPolicy (by exact rfl) fr_refl _ _
  | setEventInterruptPolicy => exact fr_execSetEventInterruptPolicy (by exact rfl) fr_refl _ _ _
  | getFwInfo => exact fr_execGetFwInfo (by exact rfl) fr_refl _ _
  | getTimestamp => exact fr_execGetTimestamp (by exact rfl) fr_refl _ _
  | setTimestamp => exact fr_execSetTimestamp (by exact rfl) fr_refl _ _ _
  | getSupportedLogs => exact fr_execGetSupportedLogs (by exact rfl) fr_refl _ _
  | getLog => exact fr_execGetLog (by exact rfl) fr_refl _ _ _ _
  | identifyMemoryDevice => exact fr_execIdentifyMemoryDevice (by exact rfl) fr_refl _ _
  | getPartitionInfo => exact fr_execGetPartitionInfo (by exact rfl) fr_refl _ _
  | getHealthInfo => exact fr_execGetHealthInfo (by exact rfl) fr_refl _ _
  | getAlertConfiguration => exact fr_execGetAlertConfiguration (by exact rfl) fr_refl _ _
  | setAlertConfiguration => exact fr_execSetAlertConfiguration (by exact rfl) fr_refl _ _ _
  | getShutdownState => exact fr_execGetShutdownState (by exact rfl) fr_refl _ _
  | setShutdownState => exact fr_execSetShutdownState (by exact rfl) fr_refl _ _ _
  | getPoisonList => exact fr_execGetPoisonList (by exact rfl) fr_refl _ _ _ _ _ _
  | injectPoison => exact fr_execInjectPoison (by exact rfl) fr_refl _ _ _
  | clearPoison => exact fr_execClearPoison (by exact rfl) fr_refl _ _ _ _
  | poisonCommandAnswer => exact fr_execPoisonCommandAnswer (by exact rfl) fr_refl _
  | getDynamicCapacityConfiguration => exact fr_execGetDynamicCapacityConfiguration (by exact rfl) fr_refl _ _
  | getDynamicCapacityExtentList => exact fr_execGetDynamicCapacityExtentList (by exact rfl) fr_refl _ _
  | addDynamicCapacityResponse => exact fr_execAddDynamicCapacityResponse (by exact rfl) fr_refl _ _ _
  | releaseDynamicCapacity => exact fr_execReleaseDynamicCapacity (by exact rfl) fr_refl _ _ _ _
  | dictionaryMessage => exact fr_execDictionaryMessage (by exact rfl) fr_refl _ _ _
  | mailboxUnsupported => exact fr_execMailboxUnsupported (by exact rfl) fr_refl _ _ _
  | getLdInfo => exact fr_execGetLdInfo (by exact rfl) fr_refl _
  | getLdAllocations => exact fr_execGetLdAllocations (by exact rfl) fr_refl _
  | setLdAllocations => exact fr_execSetLdAllocations (by exact rfl) fr_refl _ _
  | doorbellTailWrite => exact fr_execDoorbellTailWrite (by exact rfl) fr_refl _ _ _ _ _ _
  | completionHeadWrite => exact fr_execCompletionHeadWrite (by exact rfl) fr_refl _ _ _ _ _
  | doorbellRestart => exact fr_execDoorbellRestart (by exact rfl) fr_refl _ _ _
  | doorbellLineWrite => exact fr_execDoorbellLineWrite (by exact rfl) fr_refl _ _ _ _
  | ringRegister => exact fr_execRingRegister (by exact rfl) fr_refl _ _ _
  | ringUnregister => exact fr_execRingUnregister (by exact rfl) fr_refl _ _ _
  | ringRestart => exact fr_execRingRestart (by exact rfl) fr_refl _ _ _
  | descriptorFetch => exact fr_execDescriptorFetch (by exact rfl) fr_refl _ _ _
  | copy => exact fr_execCopy (by exact rfl) fr_refl _
  | fill => exact fr_execFill (by exact rfl) fr_refl _
  | importRange => exact fr_execImportRange (by exact rfl) fr_refl _
  | exportRange => exact fr_execExportRange (by exact rfl) fr_refl _
  | persist => exact fr_execPersist (by exact rfl) fr_refl _
  | place => exact fr_execPlace (by exact rfl) fr_refl _
  | atomic => exact fr_execAtomic (by exact rfl) fr_refl _
  | compare => exact fr_execCompare (by exact rfl) fr_refl _
  | crc32c => exact fr_execCrc32c (by exact rfl) fr_refl _
  | encrypt => exact fr_execEncrypt (by exact rfl) fr_refl _
  | decrypt => exact fr_execDecrypt (by exact rfl) fr_refl _
  | persistPoint => exact fr_execPersistPoint (by exact rfl) fr_refl _
  | fence => exact fr_execFence (by exact rfl) fr_refl _
  | nop => exact fr_execNop (by exact rfl) fr_refl _
  | pieceComplete => exact fr_execPieceComplete (by exact rfl) fr_refl _ _ _
  | moderationTimer => exact fr_execModerationTimer (by exact rfl) fr_refl _
  | ringHoldLimit => exact fr_execRingHoldLimit (by exact rfl) fr_refl _ _ _
  | epochEnd => exact fr_execEpochEnd (by exact rfl) fr_refl
  | lookup => exact fr_execLookup (by exact rfl) fr_refl _ _ _
  | moveLeaseExpiry => exact fr_execMoveLeaseExpiry (by exact rfl) fr_refl _
  | chunk => exact fr_execChunk (by exact rfl) fr_refl _ _ _
  | chunkAck => exact fr_execChunkAck (by exact rfl) fr_refl _ _
  | freezeLimitExpiry => exact fr_execFreezeLimitExpiry (by exact rfl) fr_refl _
  | tombstoneExpiry => exact fr_execTombstoneExpiry (by exact rfl) fr_refl _
  | translationCacheFlush => exact fr_execTranslationCacheFlush (by exact rfl) fr_refl _ _
  | inval => exact fr_execInval (by exact rfl) fr_refl _ _ _ _ _ _
  | invalAck => exact fr_execInvalAck (by exact rfl) fr_refl _ _
  | copyLeaseExpiry => exact fr_execCopyLeaseExpiry (by exact rfl) fr_refl _
  | copyLeaseGuardExpiry => exact fr_execCopyLeaseGuardExpiry (by exact rfl) fr_refl _ _
  | copyLeaseRenewTimer => exact fr_execCopyLeaseRenewTimer (by exact rfl) fr_refl
  | moveRequest => exact fr_execMoveRequest (by exact rfl) fr_refl _ _
  | moveAnswer => exact fr_execMoveAnswer (by exact rfl) fr_refl _ _
  | reserveRequest => exact fr_execReserveRequest (by exact rfl) fr_refl _ _
  | reserveAnswer => exact fr_execReserveAnswer (by exact rfl) fr_refl _ _
  | placementCommit => exact fr_execPlacementCommit (by exact rfl) fr_refl _ _
  | commitAcknowledgement => exact fr_execCommitAcknowledgement (by exact rfl) fr_refl _ _
  | placementAbort => exact fr_execPlacementAbort (by exact rfl) fr_refl _ _
  | copyGrant => exact fr_execCopyGrant (by exact rfl) fr_refl _ _
  | copyRegister => exact fr_execCopyRegister (by exact rfl) fr_refl _ _
  | leaseRenewal => exact fr_execLeaseRenewal (by exact rfl) fr_refl _ _
  | copyDropNotice => exact fr_execCopyDropNotice (by exact rfl) fr_refl _ _
  | heatReport => exact fr_execHeatReport (by exact rfl) fr_refl _ _
  | arrivalReport => exact fr_execArrivalReport (by exact rfl) fr_refl _ _
  | rebuildQuery => exact fr_execRebuildQuery (by exact rfl) fr_refl _ _
  | mirror => exact fr_execMirror (by exact rfl) fr_refl _ _ _
  | mirrorAck => exact fr_execMirrorAck (by exact rfl) fr_refl _ _ _
  | clean => exact fr_execClean (by exact rfl) fr_refl _ _ _
  | writebackVisit => exact fr_execWritebackVisit (by exact rfl) fr_refl _ _
  | homeWriteComplete => exact fr_execHomeWriteComplete (by exact rfl) fr_refl _
  | homeWriteFailed => exact fr_execHomeWriteFailed (by exact rfl) fr_refl _ _ _
  | driveTimeout => exact fr_execDriveTimeout (by exact rfl) fr_refl _ _
  | driveOutOfService => exact fr_execDriveOutOfService (by exact rfl) fr_refl _ _ _
  | driveInsert => exact fr_execDriveInsert (by exact rfl) fr_refl _ _ _ _
  | rebuildBatch => exact fr_execRebuildBatch (by exact rfl) fr_refl _
  | pfailAsserted => exact fr_execPfailAsserted (by exact rfl) fr_refl
  | flushSnapshot => exact fr_execFlushSnapshot (by exact rfl) fr_refl
  | dirtyMapWritten => exact fr_execDirtyMapWritten (by exact rfl) fr_refl _ _ _
  | pfailDeasserted => exact fr_execPfailDeasserted (by exact rfl) fr_refl
  | resumeDelayExpiry => exact fr_execResumeDelayExpiry (by exact rfl) fr_refl
  | unsteadyRelease => exact fr_execUnsteadyRelease (by exact rfl) fr_refl
  | pfailStartReminder => exact fr_execPfailStartReminder (by exact rfl) fr_refl
  | restoreReadComplete => exact fr_execRestoreReadComplete (by exact rfl) fr_refl _ _ _ _
  | restoreReadFailed => exact fr_execRestoreReadFailed (by exact rfl) fr_refl _ _ _
  | restoreSourceWaitExpiry => exact fr_execRestoreSourceWaitExpiry (by exact rfl) fr_refl _ _
  | pointPeriod => exact fr_execPointPeriod (by exact rfl) fr_refl
  | pointTimeout => exact fr_execPointTimeout (by exact rfl) fr_refl
  | heartbeatSend => exact fr_execHeartbeatSend (by exact rfl) fr_refl
  | heartbeat => exact fr_execHeartbeat (by exact rfl) fr_refl _ _
  | beatEdge => exact fr_execBeatEdge (by exact rfl) fr_refl _
  | beatPathTimeout => exact fr_execBeatPathTimeout (by exact rfl) fr_refl _
  | framePathSilent => exact fr_execFramePathSilent (by exact rfl) fr_refl
  | hearingWindowExpiry => exact fr_execHearingWindowExpiry (by exact rfl) fr_refl
  | twinAbsentDetected => exact fr_execTwinAbsentDetected (by exact rfl) fr_refl
  | selfFence => exact fr_execSelfFence (by exact rfl) fr_refl
  | claimStart => exact fr_execClaimStart (by exact rfl) fr_refl
  | claimRecordWritten => exact fr_execClaimRecordWritten (by exact rfl) fr_refl
  | reservationComplete => exact fr_execReservationComplete (by exact rfl) fr_refl _ _ _
  | claimLimitExpiry => exact fr_execClaimLimitExpiry (by exact rfl) fr_refl
  | twinLost => exact fr_execTwinLost (by exact rfl) fr_refl
  | inSyncTimeout => exact fr_execInSyncTimeout (by exact rfl) fr_refl
  | watchdogRefresh => exact fr_execWatchdogRefresh (by exact rfl) fr_refl
  | watchdogExpiry => exact fr_execWatchdogExpiry (by exact rfl) fr_refl
  | claimFrame => exact fr_execClaimFrame (by exact rfl) fr_refl _ _ _
  | reclaimDelayExpiry => exact fr_execReclaimDelayExpiry (by exact rfl) fr_refl _
  | handover => exact fr_execHandover (by exact rfl) fr_refl _ _
  | handoverDrained => exact fr_execHandoverDrained (by exact rfl) fr_refl
  | handoverHoldExpiry => exact fr_execHandoverHoldExpiry (by exact rfl) fr_refl
  | resyncStart => exact fr_execResyncStart (by exact rfl) fr_refl
  | resyncGranuleSend => exact fr_execResyncGranuleSend (by exact rfl) fr_refl _ _
  | metaFrame => exact fr_execMetaFrame (by exact rfl) fr_refl _ _ _ _
  | hingeLinkUp => exact fr_execHingeLinkUp (by exact rfl) fr_refl _ _ _
  | hingeLinkDown => exact fr_execHingeLinkDown (by exact rfl) fr_refl _
  | hingeLaneFailure => exact fr_execHingeLaneFailure (by exact rfl) fr_refl _ _ _
  | hingeRetrain => exact fr_execHingeRetrain (by exact rfl) fr_refl _ _ _
  | hingePortEnableWrite => exact fr_execHingePortEnableWrite (by exact rfl) fr_refl _ _ _ _
  | hingeRead => exact fr_execHingeRead (by exact rfl) fr_refl _ _
  | hingeWrite => exact fr_execHingeWrite (by exact rfl) fr_refl _ _ _ _
  | piece => exact fr_execPiece (by exact rfl) fr_refl _ _ _ _ _
  | dataFrame => exact fr_execDataFrame (by exact rfl) fr_refl _ _ _
  | status => exact fr_execStatus (by exact rfl) fr_refl _ _
  | ack => exact fr_execAck (by exact rfl) fr_refl _ _ _
  | nak => exact fr_execNak (by exact rfl) fr_refl _ _ _
  | connect => exact fr_execConnect (by exact rfl) fr_refl _ _
  | accept => exact fr_execAccept (by exact rfl) fr_refl _ _
  | close => exact fr_execClose (by exact rfl) fr_refl _ _
  | retransmitTimeout => exact fr_execRetransmitTimeout (by exact rfl) fr_refl _ _ _
  | ackTimer => exact fr_execAckTimer (by exact rfl) fr_refl _ _ _
  | connectTimeout => exact fr_execConnectTimeout (by exact rfl) fr_refl _ _
  | idleCloseTimer => exact fr_execIdleCloseTimer (by exact rfl) fr_refl _ _
  | creditWindow => exact fr_execCreditWindow (by exact rfl) fr_refl _
  | pfcPause => exact fr_execPfcPause (by exact rfl) fr_refl _ _ _
  | neighborSolicitation => exact fr_execNeighborSolicitation (by exact rfl) fr_refl _ _ _ _
  | ndCacheExpiry => exact fr_execNdCacheExpiry (by exact rfl) fr_refl _ _
  | throttleNotice => exact fr_execThrottleNotice (by exact rfl) fr_refl _ _ _
  | throttleReleaseNotice => exact fr_execThrottleReleaseNotice (by exact rfl) fr_refl _ _ _
  | flushNotice => exact fr_execFlushNotice (by exact rfl) fr_refl _ _ _
  | sealedNotice => exact fr_execSealedNotice (by exact rfl) fr_refl _ _ _
  | ptpMessage => exact fr_execPtpMessage (by exact rfl) fr_refl _
  | ptpSyncInterval => exact fr_execPtpSyncInterval (by exact rfl) fr_refl
  | ptpDelayRequestInterval => exact fr_execPtpDelayRequestInterval (by exact rfl) fr_refl
  | timeBaseStep => exact fr_execTimeBaseStep (by exact rfl) fr_refl _
  | treeGather => exact fr_execTreeGather (by exact rfl) fr_refl _ _ _ _
  | treeReady => exact fr_execTreeReady (by exact rfl) fr_refl _ _ _ _
  | treeTick => exact fr_execTreeTick (by exact rfl) fr_refl _ _
  | treeArrive => exact fr_execTreeArrive (by exact rfl) fr_refl _ _ _ _
  | treeRelease => exact fr_execTreeRelease (by exact rfl) fr_refl _ _ _
  | treeBroadcast => exact fr_execTreeBroadcast (by exact rfl) fr_refl _ _ _ _
  | treeAnnounce => exact fr_execTreeAnnounce (by exact rfl) fr_refl _ _ _ _
  | treeDone => exact fr_execTreeDone (by exact rfl) fr_refl _ _ _ _ _ _
  | treeAction => exact fr_execTreeAction (by exact rfl) fr_refl _ _ _ _
  | treeResult => exact fr_execTreeResult (by exact rfl) fr_refl _ _ _
  | treeJoin => exact fr_execTreeJoin (by exact rfl) fr_refl _ _ _ _ _
  | treeState => exact fr_execTreeState (by exact rfl) fr_refl _ _ _
  | gatherSendTimer => exact fr_execGatherSendTimer (by exact rfl) fr_refl
  | gatherTimeout => exact fr_execGatherTimeout (by exact rfl) fr_refl
  | closeGather => exact fr_execCloseGather (by exact rfl) fr_refl _ _
  | readyWaveSend => exact fr_execReadyWaveSend (by exact rfl) fr_refl
  | tickTimer => exact fr_execTickTimer (by exact rfl) fr_refl
  | tickMissed => exact fr_execTickMissed (by exact rfl) fr_refl
  | parentUnreachable => exact fr_execParentUnreachable (by exact rfl) fr_refl
  | successionWaitExpiry => exact fr_execSuccessionWaitExpiry (by exact rfl) fr_refl
  | barrierLimit => exact fr_execBarrierLimit (by exact rfl) fr_refl
  | counterFreeze => exact fr_execCounterFreeze (by exact rfl) fr_refl
  | counterRelease => exact fr_execCounterRelease (by exact rfl) fr_refl
  | poolPersistPoint => exact fr_execPoolPersistPoint (by exact rfl) fr_refl
  | poolStateApply => exact fr_execPoolStateApply (by exact rfl) fr_refl
  | poolResetWarm => exact fr_execPoolResetWarm (by exact rfl) fr_refl
  | poolResetCold => exact fr_execPoolResetCold (by exact rfl) fr_refl
  | poolResetFire => exact fr_execPoolResetFire (by exact rfl) fr_refl
  | joinStart => exact fr_execJoinStart (by exact rfl) fr_refl _ _
  | arbitrate => exact fr_execArbitrate (by exact rfl) fr_refl _ _
  | tableSwap => exact fr_execTableSwap (by exact rfl) fr_refl
  | ageInspection => exact fr_execAgeInspection (by exact rfl) fr_refl _
  | arbiterStatsClear => exact fr_execArbiterStatsClear (by exact rfl) fr_refl _ _ _
  | startPhaseAdvance => exact fr_execStartPhaseAdvance (by exact rfl) fr_refl _ _ _ _
  | hostServiceOpen => exact fr_execHostServiceOpen (by exact rfl) fr_refl
  | trainingComplete => exact fr_execTrainingComplete (by exact rfl) fr_refl _ _ _ _
  | refreshDue => exact fr_execRefreshDue (by exact rfl) fr_refl _ _ _
  | mr4Poll => exact fr_execMr4Poll (by exact rfl) fr_refl _ _ _ _
  | driftCheck => exact fr_execDriftCheck (by exact rfl) fr_refl _ _
  | rcdAlert => exact fr_execRcdAlert (by exact rfl) fr_refl _ _
  | retryReplay => exact fr_execRetryReplay (by exact rfl) fr_refl _ _
  | idleSelfRefresh => exact fr_execIdleSelfRefresh (by exact rfl) fr_refl _
  | channelRetrain => exact fr_execChannelRetrain (by exact rfl) fr_refl _ _ _
  | channelOffline => exact fr_execChannelOffline (by exact rfl) fr_refl _ _ _
  | channelReturn => exact fr_execChannelReturn (by exact rfl) fr_refl _ _ _ _
  | retrainComplete => exact fr_execRetrainComplete (by exact rfl) fr_refl _ _
  | retireRank => exact fr_execRetireRank (by exact rfl) fr_refl _ _ _ _
  | freezeChannel => exact fr_execFreezeChannel (by exact rfl) fr_refl _ _ _
  | freezeRead => exact fr_execFreezeRead (by exact rfl) fr_refl _ _ _
  | freezeReadDone => exact fr_execFreezeReadDone (by exact rfl) fr_refl _
  | dramReadComplete => exact fr_execDramReadComplete (by exact rfl) fr_refl _ _ _ _
  | markDeviceBad => exact fr_execMarkDeviceBad (by exact rfl) fr_refl _ _ _ _
  | clearErasure => exact fr_execClearErasure (by exact rfl) fr_refl _ _ _ _
  | deviceBadWindow => exact fr_execDeviceBadWindow (by exact rfl) fr_refl _
  | repairWaitExpiry => exact fr_execRepairWaitExpiry (by exact rfl) fr_refl _
  | standbyResendWaitExpiry => exact fr_execStandbyResendWaitExpiry (by exact rfl) fr_refl _ _
  | scrubLine => exact fr_execScrubLine (by exact rfl) fr_refl _ _ _
  | wordScrub => exact fr_execWordScrub (by exact rfl) fr_refl _ _ _
  | keyLoad => exact fr_execKeyLoad (by exact rfl) fr_refl _ _ _ _
  | keyErase => exact fr_execKeyErase (by exact rfl) fr_refl _ _ _
  | contextAcquired => exact fr_execContextAcquired (by exact rfl) fr_refl _ _ _ _ _ _ _
  | cipherBlockDone => exact fr_execCipherBlockDone (by exact rfl) fr_refl _ _ _ _ _
  | returnPipelines => exact fr_execReturnPipelines (by exact rfl) fr_refl _ _ _
  | keyWaitReminder => exact fr_execKeyWaitReminder (by exact rfl) fr_refl _ _
  | engineTrap => exact fr_execEngineTrap (by exact rfl) fr_refl _ _ _
  | engineWatchdogExpiry => exact fr_execEngineWatchdogExpiry (by exact rfl) fr_refl _
  | engineRestart => exact fr_execEngineRestart (by exact rfl) fr_refl _
  | imageLoad => exact fr_execImageLoad (by exact rfl) fr_refl _ _ _ _ _ _ _
  | activateRolling => exact fr_execActivateRolling (by exact rfl) fr_refl _ _
  | activateAtReset => exact fr_execActivateAtReset (by exact rfl) fr_refl _ _
  | activateRollback => exact fr_execActivateRollback (by exact rfl) fr_refl _ _
  | clusterUpdateDone => exact fr_execClusterUpdateDone (by exact rfl) fr_refl _
  | invalidateLine => exact fr_execInvalidateLine (by exact rfl) fr_refl _ _
  | invalidateAll => exact fr_execInvalidateAll (by exact rfl) fr_refl _
  | invalidateAllLocked => exact fr_execInvalidateAllLocked (by exact rfl) fr_refl _
  | drain => exact fr_execDrain (by exact rfl) fr_refl _
  | lockFill => exact fr_execLockFill (by exact rfl) fr_refl _ _ _
  | lockWay => exact fr_execLockWay (by exact rfl) fr_refl _ _
  | unlockWay => exact fr_execUnlockWay (by exact rfl) fr_refl _ _
  | cacheDisable => exact fr_execCacheDisable (by exact rfl) fr_refl _ _ _
  | cacheEnable => exact fr_execCacheEnable (by exact rfl) fr_refl _ _ _
  | cacheLoad => exact fr_execCacheLoad (by exact rfl) fr_refl _ _ _ _
  | cacheStore => exact fr_execCacheStore (by exact rfl) fr_refl _ _ _ _ _
  | cacheFillComplete => exact fr_execCacheFillComplete (by exact rfl) fr_refl _ _ _ _
  | mergeEntryTimeout => exact fr_execMergeEntryTimeout (by exact rfl) fr_refl _
  | sbRead => exact fr_execSbRead (by exact rfl) fr_refl _ _
  | sbProgram => exact fr_execSbProgram (by exact rfl) fr_refl _
  | sbErase => exact fr_execSbErase (by exact rfl) fr_refl _
  | sbSuspend => exact fr_execSbSuspend (by exact rfl) fr_refl _
  | sbResume => exact fr_execSbResume (by exact rfl) fr_refl _
  | sbMarginRead => exact fr_execSbMarginRead (by exact rfl) fr_refl _ _
  | pagePulseDone => exact fr_execPagePulseDone (by exact rfl) fr_refl _ _
  | erasePulseDone => exact fr_execErasePulseDone (by exact rfl) fr_refl _ _
  | flagCellPulseDone => exact fr_execFlagCellPulseDone (by exact rfl) fr_refl _ _
  | suspendHoldExpiry => exact fr_execSuspendHoldExpiry (by exact rfl) fr_refl _
  | minRunTimeElapsed => exact fr_execMinRunTimeElapsed (by exact rfl) fr_refl _
  | acknowledgeSource => exact fr_execAcknowledgeSource (by exact rfl) fr_refl _ _ _
  | acknowledgeAll => exact fr_execAcknowledgeAll (by exact rfl) fr_refl _ _
  | recorderFlush => exact fr_execRecorderFlush (by exact rfl) fr_refl _ _
  | clearFirstArea => exact fr_execClearFirstArea (by exact rfl) fr_refl _ _
  | repeatWindowExpiry => exact fr_execRepeatWindowExpiry (by exact rfl) fr_refl _ _
  | tokenRefill => exact fr_execTokenRefill (by exact rfl) fr_refl _ _
  | mgmtInterruptTimer => exact fr_execMgmtInterruptTimer (by exact rfl) fr_refl _
  | counterPreset => exact fr_execCounterPreset (by exact rfl) fr_refl _ _ _ _
  | localFreezeWrite => exact fr_execLocalFreezeWrite (by exact rfl) fr_refl _ _ _
  | counterSweep => exact fr_execCounterSweep (by exact rfl) fr_refl
  | ucieLaneFailure => exact fr_execUcieLaneFailure (by exact rfl) fr_refl _ _
  | ucieRetrain => exact fr_execUcieRetrain (by exact rfl) fr_refl _ _
  | ucieCrcRate => exact fr_execUcieCrcRate (by exact rfl) fr_refl _ _
  | ucieModuleFailure => exact fr_execUcieModuleFailure (by exact rfl) fr_refl _
  | timeBasePllLoss => exact fr_execTimeBasePllLoss (by exact rfl) fr_refl
  | vauxRise => exact fr_execVauxRise (by exact rfl) fr_refl
  | vauxLoss => exact fr_execVauxLoss (by exact rfl) fr_refl
  | vauxOutOfRange => exact fr_execVauxOutOfRange (by exact rfl) fr_refl _
  | powerGoodRise => exact fr_execPowerGoodRise (by exact rfl) fr_refl
  | powerGoodFall => exact fr_execPowerGoodFall (by exact rfl) fr_refl
  | vmainUndervoltage => exact fr_execVmainUndervoltage (by exact rfl) fr_refl _
  | brownOut => exact fr_execBrownOut (by exact rfl) fr_refl _
  | powerLimitCheck => exact fr_execPowerLimitCheck (by exact rfl) fr_refl _
  | thermalSample => exact fr_execThermalSample (by exact rfl) fr_refl _ _
  | regulatorFault => exact fr_execRegulatorFault (by exact rfl) fr_refl _
  | porstAssert => exact fr_execPorstAssert (by exact rfl) fr_refl
  | porstRelease => exact fr_execPorstRelease (by exact rfl) fr_refl _ _
  | wrstAssert => exact fr_execWrstAssert (by exact rfl) fr_refl
  | wrstRelease => exact fr_execWrstRelease (by exact rfl) fr_refl _ _
  | jtagReset => exact fr_execJtagReset (by exact rfl) fr_refl
  | deferredReset => exact fr_execDeferredReset (by exact rfl) fr_refl
  | nvmeLinkChange => exact fr_execNvmeLinkChange (by exact rfl) fr_refl _ _ _
  | hdmDecoderCommit => exact fr_execHdmDecoderCommit (by exact rfl) fr_refl _ _ _ _ _ _ _ _ _
  | busMasterEnableWrite => exact fr_execBusMasterEnableWrite (by exact rfl) fr_refl _ _ _
  | busMasterReadCompletion => exact fr_execBusMasterReadCompletion (by exact rfl) fr_refl _ _ _ _ _ _
  | busMasterCompletionTimeout => exact fr_execBusMasterCompletionTimeout (by exact rfl) fr_refl _ _
  | msixVectorMaskWrite => exact fr_execMsixVectorMaskWrite (by exact rfl) fr_refl _ _ _ _
  | mapTransferEntries => exact fr_execMapTransferEntries (by exact rfl) fr_refl _ _ _ _
  | i3cDynamicAddress => exact fr_execI3cDynamicAddress (by exact rfl) fr_refl _ _
  | jtagFactoryAccess => exact fr_execJtagFactoryAccess (by exact rfl) fr_refl _
  | ptpAnnounceTimeout => exact fr_execPtpAnnounceTimeout (by exact rfl) fr_refl

theorem fr_of_exec {c : Instr} {s t : State} (h : exec c s = .next t) : Fr (partsMask (touches c)) s t := frOut_elim (frOut_exec c s) t h

theorem execThermalSample_completes (v w : List Int) (s : State) : ∃ t, execThermalSample v w s = .next t := by
  by_cases hv : (!s.power.vaux) = true
  · exact ⟨_, if_pos hv⟩
  · exact ⟨_, if_neg hv⟩

/-- Every command completes but those that carry lines for a slot outside the vault (log entry 93). -/
theorem exec_completes {c : Instr} (h : carriesLines c = false) (s : State) : ∃ t, exec c s = .next t := by
  cases c
  case mirror | chunk | metaFrame => cases h
  case thermalSample => exact execThermalSample_completes ..
  all_goals exact ⟨_, rfl⟩

/-! ### The commands that carry lines (log entry 93) -/

theorem execMirror_outcome (h : Hdr) (stream : Nat) (runs : List Run) (s : State) :
    (∃ t, execMirror h stream runs s = .next t) ∨ execMirror h stream runs s = .fault .slotOutsideVault := by
  unfold execMirror
  dsimp only
  split
  · exact .inl ⟨_, rfl⟩
  · split
    · exact .inr rfl
    · exact .inl ⟨_, rfl⟩

theorem execChunk_outcome (h : Hdr) (c : ChunkSub) (lines : List Line) (s : State) :
    (∃ t, execChunk h c lines s = .next t) ∨ execChunk h c lines s = .fault .slotOutsideVault := by
  unfold execChunk
  dsimp only
  split
  · exact .inl ⟨_, rfl⟩
  · split
    · exact .inr rfl
    · exact .inl ⟨_, rfl⟩

theorem execMetaFrame_outcome (h : Hdr) (part off : Nat) (m : List Line × List MetaUpd) (s : State) :
    (∃ t, execMetaFrame h part off m s = .next t) ∨ execMetaFrame h part off m s = .fault .slotOutsideVault := by
  unfold execMetaFrame
  dsimp only
  split
  · exact .inl ⟨_, rfl⟩
  · split
    · exact .inr rfl
    · exact .inl ⟨_, rfl⟩

/-- Settles O7: the frame and the completion of every command, over the dispatch, and the three commands that can stop. -/
theorem everyCommandKeepsToItsParts : Obligations.EveryCommandKeepsToItsParts := by
  unfold Obligations.EveryCommandKeepsToItsParts
  refine ⟨?frame, ?completes, ?stops⟩
  case frame => exact fun c s t h => onlyChanges_of_frParts (fr_of_exec h)
  case completes =>
    intro c s hc
    obtain ⟨t, ht⟩ := exec_completes hc s
    exact ⟨t, ht, onlyChanges_of_frParts (fr_of_exec ht)⟩
  case stops =>
    intro c s hc
    cases c
    case mirror => exact execMirror_outcome ..
    case chunk => exact execChunk_outcome ..
    case metaFrame => exact execMetaFrame_outcome ..
    all_goals cases hc

/-! ### Steps -/

theorem step_of_pending_nil {s : State} (h : s.pending = []) : step s = .next { s with now := s.now + 1 } := by
  rw [step, h]

theorem step_of_pending_cons {s : State} {c : Instr} {rest : List Instr} (h : s.pending = c :: rest) :
    step s = exec c { s with pending := rest } := by
  rw [step, h]

/-- Settles O6: an idle step does not touch memory, and a command's frame keeps the canonical form. -/
theorem everyStepKeepsMemoryCanonical : Obligations.EveryStepKeepsMemoryCanonical := by
  unfold Obligations.EveryStepKeepsMemoryCanonical
  intro s t hwf hstep
  cases hp : s.pending with
  | nil =>
    rw [step_of_pending_nil hp] at hstep
    cases hstep
    exact hwf
  | cons c rest =>
    rw [step_of_pending_cons hp] at hstep
    obtain ⟨-, -, -, hkeeps, -⟩ := fr_of_exec hstep
    exact hkeeps hwf

/-- Settles O3: a command's frame leaves queue and clock alone, so that a step takes the front off the queue and nothing else. -/
theorem everyStepUsesUpOneCommand : Obligations.EveryStepUsesUpOneCommand := by
  unfold Obligations.EveryStepUsesUpOneCommand
  refine ⟨?step, fun _ _ _ => ⟨rfl, rfl⟩⟩
  case step =>
    intro s t hstep
    cases hp : s.pending with
    | nil =>
      rw [step_of_pending_nil hp] at hstep
      cases hstep
      exact ⟨hp, rfl, Nat.le_refl _⟩
    | cons c rest =>
      rw [step_of_pending_cons hp] at hstep
      obtain ⟨hqueue, hclock, hfresh, -, -⟩ := fr_of_exec hstep
      exact ⟨hqueue, hclock, hfresh⟩

/-- Settles O1. -/
theorem stepRunsFrontCommand : Obligations.StepRunsFrontCommand := by
  unfold Obligations.StepRunsFrontCommand
  exact fun _ _ _ => step_of_pending_cons rfl

/-- Settles O2. That an idle step passes one nanosecond is the model's choice (log entry 2). -/
theorem idleStepPassesOneNanosecond : Obligations.IdleStepPassesOneNanosecond := by
  unfold Obligations.IdleStepPassesOneNanosecond
  intro s hp
  exact ⟨_, step_of_pending_nil hp, rfl, hp, rfl, fun p => by cases p <;> rfl⟩

/-- Settles O5. -/
theorem resetMemoryIsCanonical : Obligations.ResetMemoryIsCanonical := by
  unfold Obligations.ResetMemoryIsCanonical
  exact wf_nil

theorem getD_nil {α : Type} (k : Nat) (d : α) : getD [] k d = d := rfl

/-- Settles O4. What a chapter names without a reset value starts empty or zero by the model's choice, and memory reads zero by another (log entries 4
and 3); objects start at their defaults since no setting is kept. -/
theorem resetHoldsSpecValues : Obligations.ResetHoldsSpecValues := by
  unfold Obligations.ResetHoldsSpecValues
  refine ⟨rfl, rfl, rfl, rfl, rfl, rfl, rfl, rfl, rfl, fun _ => rfl, fun _ => rfl, ?objects⟩
  case objects =>
    intro idx sub htimeout htable
    have hkept : assoc State.reset.settings (okey idx sub) = none := rfl
    rw [State.setting, hkept]
    simp only [htimeout, htable, ← and_assoc, false_and, if_false]

end Sys2Proof.Machine

/-! SUPPORT. What the memory operations leave in every byte: a line, a range made zero and a range copied, byte by byte, and the bytes that a store does
not reach. -/

namespace Sys2Proof.Machine

open Laws Claims

/-! ### Poison of lines -/

@[simp] theorem mem_addSet (k n : Nat) (l : List Nat) : n ∈ addSet k l ↔ n = k ∨ n ∈ l := by
  induction l with
  | nil => simp [addSet]
  | cons x l ih =>
    unfold addSet
    split
    · simp
    · split
      · simp_all
      · rw [List.mem_cons, ih, List.mem_cons, or_left_comm]

@[simp] theorem mem_delSet (k n : Nat) (l : List Nat) : n ∈ delSet k l ↔ n ∈ l ∧ n ≠ k := by simp [delSet]

@[simp] theorem mem_foldl_addSet (ks l : List Nat) (n : Nat) : n ∈ ks.foldl (fun l x => addSet x l) l ↔ n ∈ ks ∨ n ∈ l := by
  induction ks generalizing l with
  | nil => simp
  | cons k ks ih => rw [List.foldl_cons, ih, mem_addSet, List.mem_cons, or_left_comm, or_assoc]

/-! ### Bytes of a range made zero -/

theorem assoc_filter_key {α : Type} (p : Nat → Bool) (m : List (Nat × α)) (k : Nat) :
    assoc (m.filter fun c => p c.1) k = if p k then assoc m k else none := by
  induction m with
  | nil => simp [assoc]
  | cons c m ih =>
    obtain ⟨k', v⟩ := c
    by_cases hk : k = k'
    · subst hk
      by_cases hp : p k = true
      · simp [hp, assoc]
      · simp [hp, ih]
    · by_cases hp : p k' = true
      · simp [hp, assoc, hk, ih]
      · simp [hp, assoc, hk, ih]

theorem Memory.read_clear (m : List Host.Cell) (a n c : Nat) :
    Memory.read (Memory.clear m a n) c = if c < a ∨ a + n ≤ c then Memory.read m c else 0 := by
  have hkey := assoc_filter_key (fun k => decide (k < a) || decide (a + n ≤ k)) m c
  simp only [Memory.read, Memory.clear, getD, hkey, Bool.or_eq_true, decide_eq_true_eq]
  split <;> rfl

/-! ### Bytes of a range copied -/

/-- The cells of a list stored one after the other: where no address comes twice, each byte is the one listed for it. -/
theorem Memory.read_foldl_write {l m : List Host.Cell} (hl : Memory.wf l = true) (hm : Memory.wf m = true) (a : Nat) :
    Memory.read (l.foldl (fun m c => Memory.write m c.1 c.2) m) a = (assoc l a).getD (Memory.read m a) := by
  induction l generalizing m with
  | nil => rfl
  | cons c l ih =>
    obtain ⟨k, v⟩ := c
    obtain ⟨-, hbeyond, hl⟩ := (wf_cons k v l).mp hl
    rw [List.foldl_cons, ih hl (wf_write hm k v)]
    by_cases ha : a = k
    · subst ha
      simp [assoc_beyond hbeyond, assoc, read_write_same hm]
    · simp [assoc, ha, read_write_other m ha]

/-- The cells of a range, moved: what lies at `dst + i` came from `src + i`. -/
theorem Memory.assoc_shifted (m : List Host.Cell) {src dst n i : Nat} (hi : i < n) :
    assoc (Memory.shifted m src dst n) (dst + i) = assoc m (src + i) := by
  induction m with
  | nil => rfl
  | cons c m ih =>
    obtain ⟨k, v⟩ := c
    simp only [Memory.shifted] at ih ⊢
    by_cases hk : src ≤ k ∧ k < src + n
    · have hcell : dst + i = k - src + dst ↔ src + i = k := by omega
      simp [hk, assoc, hcell, ih]
    · have hne : src + i ≠ k := by omega
      have hout : (decide (src ≤ k) && decide (k < src + n)) = false := by simpa using hk
      simp [hout, assoc, hne, ih]

theorem Memory.assoc_shifted_outside (m : List Host.Cell) {src dst n a : Nat} (ha : a < dst ∨ dst + n ≤ a) :
    assoc (Memory.shifted m src dst n) a = none := by
  induction m with
  | nil => rfl
  | cons c m ih =>
    obtain ⟨k, v⟩ := c
    simp only [Memory.shifted] at ih ⊢
    by_cases hk : src ≤ k ∧ k < src + n
    · have hne : a ≠ k - src + dst := by omega
      simp [hk, assoc, hne, ih]
    · have hout : (decide (src ≤ k) && decide (k < src + n)) = false := by simpa using hk
      simp [hout, ih]

/-- Moving the cells of a range keeps their order. -/
theorem Memory.wf_shifted {m : List Host.Cell} (hm : Memory.wf m = true) (src dst n : Nat) : Memory.wf (Memory.shifted m src dst n) = true := by
  induction m with
  | nil => rfl
  | cons c m ih =>
    obtain ⟨k, v⟩ := c
    obtain ⟨hv, hbeyond, hm⟩ := (wf_cons k v m).mp hm
    simp only [Memory.shifted] at ih ⊢
    by_cases hk : src ≤ k ∧ k < src + n
    · simp only [List.filter_cons, hk, decide_true, Bool.and_self, if_true, List.map_cons]
      refine (wf_cons _ _ _).mpr ⟨hv, fun c hc => ?_, ih hm⟩
      obtain ⟨d, hd, rfl⟩ := List.mem_map.mp hc
      have hlt : k < d.1 := hbeyond d (List.mem_filter.mp hd).1
      show k - src + dst < d.1 - src + dst
      omega
    · have hout : (decide (src ≤ k) && decide (k < src + n)) = false := by simpa using hk
      simpa [List.filter_cons, hout] using ih hm

theorem Memory.read_copy_inside {m : List Host.Cell} (hm : Memory.wf m = true) {src dst n i : Nat} (hi : i < n) :
    Memory.read (Memory.copy m src dst n) (dst + i) = Memory.read m (src + i) := by
  have hzero : Memory.read (Memory.clear m dst n) (dst + i) = 0 := by
    rw [Memory.read_clear, if_neg (by omega)]
  rw [Memory.copy, Memory.read_foldl_write (Memory.wf_shifted hm ..) (wf_clear hm ..), Memory.assoc_shifted m hi, hzero]
  rfl

theorem Memory.read_copy_outside {m : List Host.Cell} (hm : Memory.wf m = true) {src dst n a : Nat} (ha : a < dst ∨ dst + n ≤ a) :
    Memory.read (Memory.copy m src dst n) a = Memory.read m a := by
  rw [Memory.copy, Memory.read_foldl_write (Memory.wf_shifted hm ..) (wf_clear hm ..), Memory.assoc_shifted_outside m ha, Option.getD_none,
    Memory.read_clear, if_pos ha]

/-! ### Lines -/

/-- Lines whose 64 bytes read the same are the same. -/
theorem Memory.line_eq_of_read {m m' : List Host.Cell} {ln ln' : Nat} (h : ∀ i < 64, Memory.read m (64 * ln + i) = Memory.read m' (64 * ln' + i)) :
    Memory.line m ln = Memory.line m' ln' :=
  line_ext_bytes fun i hi => by rw [Memory.extractLsb'_line _ _ hi, Memory.extractLsb'_line _ _ hi, h i hi]

theorem Memory.line_eq_zero {m : List Host.Cell} {ln : Nat} (h : ∀ i < 64, Memory.read m (64 * ln + i) = 0) : Memory.line m ln = 0 :=
  line_ext_bytes fun i hi => by rw [Memory.extractLsb'_line _ _ hi, h i hi]; simp

theorem Memory.read_setLine_outside (m : List Host.Cell) (v : Line) {ln a : Nat} (ha : a < 64 * ln ∨ 64 * ln + 64 ≤ a) :
    Memory.read (Memory.setLine m ln v) a = Memory.read m a :=
  read_writeBytes_outside m _ (by simpa using ha)

theorem Memory.line_setLine_same {m : List Host.Cell} (hm : Memory.wf m = true) (ln : Nat) (v : Line) : Memory.line (Memory.setLine m ln v) ln = v :=
  line_ext_bytes fun i hi => by rw [Memory.extractLsb'_line _ _ hi, Memory.read_setLine hm _ _ hi]

theorem Memory.line_setLine_other (m : List Host.Cell) (v : Line) {ln ln' : Nat} (h : ln' ≠ ln) : Memory.line (Memory.setLine m ln v) ln' = Memory.line m ln' :=
  Memory.line_eq_of_read fun _ _ => Memory.read_setLine_outside m v (by omega)

theorem State.linePoison_setPoison (s : State) (ln : Nat) (p : Bool) (n : Nat) :
    (s.setPoison ln p).linePoison n = if n = ln then p else s.linePoison n := by
  rw [Bool.eq_iff_iff]
  cases p <;> by_cases hn : n = ln <;> simp [State.setPoison, State.linePoison, hn]

@[simp] theorem State.putLine_linePoison (s : State) (ln : Nat) (v : Line) (p : Bool) (n : Nat) :
    (s.putLine ln v p).linePoison n = if n = ln then p else s.linePoison n := State.linePoison_setPoison ..

/-- A line of a slot holds the slot's bytes: its byte `i` lies in the slot's range exactly where the line lies in the slot (R33). -/
theorem byte_of_lineSlot {ln slot i : Nat} (hi : i < 64) :
    (64 * ln + i < extentBytes * slot ∨ extentBytes * slot + extentBytes ≤ 64 * ln + i) ↔ lineSlot ln ≠ slot := by
  have hbytes : extentBytes = 2097152 := rfl
  rw [hbytes, lineSlot]
  omega

/-- Settles O8. Bytes: what each memory operation leaves in every byte, read line by line; poison: the set of poisoned lines after it. -/
theorem linesReadBack : Obligations.LinesReadBack := by
  unfold Obligations.LinesReadBack
  refine ⟨?written, ?beside, ?emptied, ?notEmptied, ?copied, ?notCopied⟩
  case written => exact fun s ln v p hm => ⟨Memory.line_setLine_same hm ln v, by rw [State.putLine_linePoison, if_pos rfl]⟩
  case beside => exact fun s ln m v p hne => ⟨Memory.line_setLine_other _ _ hne, by rw [State.putLine_linePoison, if_neg hne]⟩
  case emptied =>
    intro s slot ln hslot
    refine ⟨Memory.line_eq_zero fun i hi => ?_, ?_⟩
    · exact (Memory.read_clear ..).trans (if_neg fun h => (byte_of_lineSlot hi).mp h hslot)
    · simp [State.zeroSlot, State.linePoison, hslot]
  case notEmptied =>
    intro s slot ln hslot
    refine ⟨Memory.line_eq_of_read fun i hi => ?_, ?_⟩
    · exact (Memory.read_clear ..).trans (if_pos ((byte_of_lineSlot hi).mpr hslot))
    · simp [State.zeroSlot, State.linePoison, hslot]
  case copied =>
    intro s src dst i hm hne hi
    have hbytes : extentBytes = 2097152 := rfl
    refine ⟨Memory.line_eq_of_read fun j hj => ?_, ?_⟩
    · have hin : 64 * i + j < extentBytes := by omega
      have hread := Memory.read_copy_inside hm hin (src := extentBytes * src) (dst := extentBytes * dst)
      rw [hbytes] at hread
      rwa [show 2097152 * dst + (64 * i + j) = 64 * (32768 * dst + i) + j by omega,
        show 2097152 * src + (64 * i + j) = 64 * (32768 * src + i) + j by omega] at hread
    · have hdst : lineSlot (32768 * dst + i) = dst := by rw [lineSlot]; omega
      have hmoved : ∀ x, lineSlot x = src ∧ x - 32768 * src + 32768 * dst = 32768 * dst + i ↔ x = 32768 * src + i := by
        intro x
        rw [lineSlot]
        omega
      rw [Bool.eq_iff_iff]
      simp [State.copySlot, State.linePoison, hdst, and_assoc, hmoved]
  case notCopied =>
    intro s src dst ln hm hslot
    refine ⟨Memory.line_eq_of_read fun i hi => Memory.read_copy_outside hm ((byte_of_lineSlot hi).mpr hslot), ?_⟩
    have hmoved : ∀ x, lineSlot x = src → x - 32768 * src + 32768 * dst ≠ ln := by
      intro x hx h
      rw [lineSlot] at hx hslot
      omega
    rw [Bool.eq_iff_iff]
    simpa [State.copySlot, State.linePoison, hslot] using fun x _ hx h => absurd h (hmoved x hx)

/-! ### The bytes a command stores to -/

/-- From `s` to `t` at most the bytes of the `n` lines from `ln` on change. -/
structure StoresIn (ln n : Nat) (s t : State) : Prop where
  outside : ∀ a, (a < 64 * ln ∨ 64 * (ln + n) ≤ a) → Memory.read t.mem a = Memory.read s.mem a

section StoresIn
variable {ln n : Nat} {s t u : State}

theorem StoresIn.of_mem_eq (h : t.mem = s.mem) : StoresIn ln n s t := ⟨fun a _ => by rw [h]⟩

theorem StoresIn.of_fr {m : Nat} (h : Fr m s t) (hm : m.testBit (Laws.bit .mem) = false) : StoresIn ln n s t := .of_mem_eq (mem_eq_of_fr h hm)

theorem StoresIn.trans (h : StoresIn ln n s t) (k : StoresIn ln n t u) : StoresIn ln n s u :=
  ⟨fun a ha => (k.outside a ha).trans (h.outside a ha)⟩

theorem StoresIn.putLine {i : Nat} (hi : i < n) (v : Line) (p : Bool) : StoresIn ln n s (s.putLine (ln + i) v p) :=
  ⟨fun _ ha => Memory.read_setLine_outside _ v (by omega)⟩

theorem StoresIn.foldl {α : Type} {f : State → α → State} {l : List α} (hf : ∀ s, ∀ x ∈ l, StoresIn ln n s (f s x)) (s : State) :
    StoresIn ln n s (l.foldl f s) := by
  induction l generalizing s with
  | nil => exact .of_mem_eq rfl
  | cons x l ih =>
    exact (hf s x (List.mem_cons_self ..)).trans (ih (fun s y hy => hf s y (List.mem_cons_of_mem x hy)) _)

/-- Lines stored one after the other from `ln` on. -/
theorem StoresIn.foldl_putLine {at_ : Nat → Nat} (hat : ∀ i, at_ i = ln + i) (v : Nat → Line) (p : Nat → Bool) (s : State) :
    StoresIn ln n s ((List.range n).foldl (fun s i => s.putLine (at_ i) (v i) (p i)) s) :=
  .foldl (fun s i hi => by rw [hat]; exact StoresIn.putLine (List.mem_range.mp hi) _ _) s

end StoresIn

@[simp] theorem length_gcmLines (kb key iv : Nat) (ls : List Line) : (gcmLines kb key iv ls).length = ls.length := by simp [gcmLines]

/-- Deciphering a data area keeps the number of its lines (R313). -/
@[simp] theorem State.length_clear (s : State) (h : Hdr) (vc : Nat) (ls : List Line) : (s.clear h vc ls).length = ls.length := by
  unfold State.clear
  split
  · split <;> simp
  · rfl

theorem slotLine_add (slot line i : Nat) : slotLine slot (64 * (line + i)) = slotLine slot (64 * line) + i := by
  simp only [slotLine]
  omega

theorem State.mirrorLine_mem (s : State) (ln : Nat) (v : Line) (be : BitVec 64) (poison : Bool) :
    (s.mirrorLine ln v be poison).mem = Memory.setLine s.mem ln (mergeLine (s.line ln) v be) := by
  have hcost : ∀ full, (s.lineCost ln full { cls := 1, src := 0x0C }).mem = s.mem := fun _ => mem_eq_of_fr (fr_lineCost in_self fr_refl ..) rfl
  simp only [State.mirrorLine, State.modPersist_mem, State.putLine_mem, State.mergeKeep_mem, hcost]

theorem State.storesIn_putGranule (s : State) (g : Nat) (b : Bytes) (bad : List Nat) : StoresIn (granLine g) 64 s (s.putGranule g b bad) := by
  refine StoresIn.trans (.of_fr (fr_askWrite in_self fr_refl ..) rfl) (.foldl (fun s i hi => ?_) _)
  dsimp only
  split
  · exact StoresIn.trans (StoresIn.putLine (List.mem_range.mp hi) _ _) (.of_mem_eq (State.poisonEnter_mem ..))
  · exact StoresIn.putLine (List.mem_range.mp hi) _ _

theorem State.storesIn_putChunk (s : State) (slot line : Nat) (ls : List Line) (ps : List Bool) :
    StoresIn (slotLine slot (64 * line)) ls.length s (s.putChunk slot line ls ps) := by
  unfold State.putChunk
  dsimp only
  refine StoresIn.trans ?lines (.trans (.foldl (fun s i _ => ?poison) _) (.of_mem_eq rfl))
  case poison =>
    split
    · exact .of_mem_eq (State.poisonEnter_mem ..)
    · exact .of_mem_eq (State.poisonLeave_mem ..)
  case lines =>
    refine StoresIn.trans ?_ (.of_mem_eq (State.mirrorRun_mem ..))
    refine StoresIn.trans ?_ (.of_mem_eq (State.modPersist_mem ..))
    exact StoresIn.trans (.of_fr (fr_askWrite in_self fr_refl ..) rfl) (.foldl_putLine (slotLine_add slot line) ..)

theorem State.storesIn_putCopy (s : State) (c : ChunkSub) (ls : List Line) (ps : List Bool) :
    StoresIn (slotLine c.slot (64 * c.line)) ls.length s (s.putCopy c ls ps) := by
  unfold State.putCopy
  dsimp only
  refine StoresIn.trans ?_ (.of_mem_eq (State.modPlace_mem ..))
  exact StoresIn.trans (.of_fr (fr_askWrite in_self fr_refl ..) rfl) (.foldl_putLine (slotLine_add c.slot c.line) ..)

/-- A change of the metadata area leaves memory alone unless it empties a slot, which it zero-fills (R26). -/
theorem State.applyUpd_mem (s : State) {u : MetaUpd} (hu : ∀ n sp, u ≠ .slot n none sp) : (s.applyUpd u).mem = s.mem := by
  cases u
  case slot n u spare =>
    cases u with
    | none => exact absurd rfl (hu n spare)
    | some u => rfl
  all_goals rfl

/-- What a delivered CHUNK stores, whichever way it is taken (R180, R186). -/
theorem storesIn_chunk {s u t : State} {h : Hdr} {c : ChunkSub} {lines : List Line} (hgot : Got s h (.chunk c lines []) u)
    (ht : execChunk h c lines s = .next t) : StoresIn (slotLine c.slot (64 * c.line)) lines.length u t := by
  have hput := u.storesIn_putChunk c.slot c.line (u.clear h 2 lines) (framePoison h lines.length)
  have hcopy := u.storesIn_putCopy c (u.clear h 2 lines) (framePoison h lines.length)
  rw [State.length_clear] at hput hcopy
  simp only [execChunk, show s.rx h (.chunk c lines []) false = (u, true) from hgot] at ht
  split at ht
  · cases ht; exact .of_mem_eq rfl
  · split at ht
    · cases ht
    · injection ht with ht
      subst ht
      split
      · split
        · exact hput.trans (.trans (.of_mem_eq (State.modPlace_mem ..)) (.of_fr (fr_ackChunks in_self fr_refl) rfl))
        · exact .of_mem_eq rfl
      · split
        · exact hcopy.trans (.of_fr (fr_send in_self fr_refl ..) rfl)
        · exact .of_mem_eq rfl

/-- What a delivered META frame stores, where none of its entries empties a slot (R274). -/
theorem storesIn_metaFrame {s u t : State} {h : Hdr} {part off : Nat} {lines : List Line} {upds : List MetaUpd}
    (hgot : Got s h (.metaArea part off lines upds) u) (ht : execMetaFrame h part off (lines, upds) s = .next t)
    (hupds : ∀ e ∈ upds, ∀ n sp, e ≠ .slot n none sp) :
    StoresIn (32768 * (u.extents - metaExtents u.extents) + off) lines.length u t := by
  simp only [execMetaFrame, show s.rx h (.metaArea part off lines upds) false = (u, true) from hgot] at ht
  split at ht
  · cases ht; exact .of_mem_eq rfl
  · split at ht
    · cases ht
    · injection ht with ht
      subst ht
      refine StoresIn.trans ?_ (.trans (.foldl (fun s e he => .of_mem_eq (s.applyUpd_mem (hupds e he))) _) (.of_fr (fr_ranksGone in_self fr_refl) rfl))
      have hlines := StoresIn.foldl_putLine (n := (u.clear h 2 lines).length) (fun i => rfl) (fun i => nth (u.clear h 2 lines) i 0)
        (fun i => h.poison.testBit i) (ln := 32768 * (u.extents - metaExtents u.extents) + off) u
      rw [State.length_clear] at hlines ⊢
      split
      · exact hlines.trans (.of_fr (fr_emptyMeta in_self fr_refl) rfl)
      · exact hlines

/-- Settles O10: each store reaches the lines its meaning computes, and all that goes with it leaves memory alone. -/
theorem storesKeepOtherBytes : Obligations.StoresKeepOtherBytes := by
  unfold Obligations.StoresKeepOtherBytes
  refine ⟨?applied, ?mirrored, ?restored, ?chunk, ?metaArea⟩
  case applied =>
    intro s slot key off v be poison tag atomic write cause a ha
    rw [State.applyLine_mem, Memory.read_setLine_outside _ _ ha]
  case mirrored =>
    intro s ln v be poison a ha
    rw [State.mirrorLine_mem, Memory.read_setLine_outside _ _ ha]
  case restored => exact fun s g b bad a ha => (s.storesIn_putGranule g b bad).outside a ha
  case chunk => exact fun s u t h c lines a hgot ht ha => (storesIn_chunk hgot ht).outside a ha
  case metaArea => exact fun s u t h part off lines upds a hgot ht hupds ha => (storesIn_metaFrame hgot ht hupds).outside a ha

end Sys2Proof.Machine

/-! SUPPORT. The rules that the statements of management share: what a served message, a permitted write and a delivered frame come down to, and which
parts the plain updaters change. Then the dictionary, its transfers, saved sets and grants, MCTP control and forwarding. -/

namespace Sys2Proof.Machine

open Laws Claims

/-! ### What only some parts change -/

theorem OnlyChanges.mono {ps qs : List Part} {s t : State} (h : OnlyChanges ps s t) (hsub : ∀ p ∈ ps, p ∈ qs) : OnlyChanges qs s t :=
  ⟨h.1, h.2.1, fun p hp => h.2.2 p fun hps => hp (hsub p hps)⟩

theorem OnlyChanges.trans {ps : List Part} {s t u : State} (h : OnlyChanges ps s t) (k : OnlyChanges ps t u) : OnlyChanges ps s u :=
  ⟨k.1.trans h.1, k.2.1.trans h.2.1, fun p hp => same_trans (h.2.2 p hp) (k.2.2 p hp)⟩

/-- A command keeps to the parts that `touches` lists for it (O7). -/
theorem onlyChanges_of_exec {c : Instr} {s t : State} (h : exec c s = .next t) : OnlyChanges (touches c) s t := onlyChanges_of_frParts (fr_of_exec h)

section Updaters
variable (s : State)

theorem onlyChanges_emit (o : Output) : OnlyChanges [.out] s (s.emit o) := onlyChanges_of_frParts (fr_emit (by exact rfl) fr_refl o)
theorem onlyChanges_modDict (f : Dict → Dict) : OnlyChanges [.dict] s (s.modDict f) := onlyChanges_of_frParts (fr_modDict (by exact rfl) fr_refl f)
theorem onlyChanges_modPower (f : Power → Power) : OnlyChanges [.power] s (s.modPower f) := onlyChanges_of_frParts (fr_modPower (by exact rfl) fr_refl f)
theorem onlyChanges_modHost (f : HostSt → HostSt) : OnlyChanges [.host] s (s.modHost f) := onlyChanges_of_frParts (fr_modHost (by exact rfl) fr_refl f)
theorem onlyChanges_modSteward (f : Steward → Steward) : OnlyChanges [.steward] s (s.modSteward f) :=
  onlyChanges_of_frParts (fr_modSteward (by exact rfl) fr_refl f)
theorem onlyChanges_modDram (f : Dram → Dram) : OnlyChanges [.dram] s (s.modDram f) := onlyChanges_of_frParts (fr_modDram (by exact rfl) fr_refl f)
theorem onlyChanges_raise (src cause : Nat) (detail : Bytes) : OnlyChanges [.recorder] s (s.raise src cause detail) :=
  onlyChanges_of_frParts (fr_raise (by exact rfl) fr_refl src cause detail)

end Updaters

/-! ### Messages, writes and frames -/

section Rules
variable {s : State} {rq : Req}

/-- A message that the device takes as its own is given to its service (R65 to R70, R74). -/
theorem State.onMsg_of_served {m : DictMsg} (h : Served s rq m) (f : State → State) : s.onMsg rq m f = f (s.touch rq) := by
  obtain ⟨hanswers, hwhole, hform, hroom, htarget⟩ := h
  have hhere : (m.fwd && m.target != 0xFFFF && m.target != s.pool.number) = false := by
    rcases htarget with h | h | h <;> simp [h]
  simp only [State.onMsg, hanswers, hwhole, hform, Nat.not_le.mpr hroom, State.touch_pool, hhere, Bool.not_true, Bool.false_eq_true, if_false]

/-- A write that passes its checks acts, and its answer carries the act's status. -/
theorem State.writeObj_of_mayWrite {idx sub : Nat} {b : Bytes} (h : MayWrite s rq idx sub b) (tag : Nat) (act : State → State × Nat) :
    s.writeObj rq tag idx sub (tyCode idx sub) b act = (act (s.touch rq)).1.respond rq (writeResp tag idx sub (act (s.touch rq)).2) := by
  obtain ⟨hroom, hpasses⟩ := h
  simp only [State.writeObj, hpasses, lowest, if_neg (Nat.not_le.mpr hroom), if_true]

theorem State.onFrame_of_got {h : Hdr} {b : FBody} {u : State} (hgot : Got s h b u) (f : State → State) : s.onFrame h b f = f u := by
  simp only [State.onFrame, show s.rx h b false = (u, true) from hgot, if_true]

theorem State.onPlace_of_gotPlace {h : Hdr} {code : Nat} {m : PMsg} {u : State} (hgot : GotPlace s h code m u) (f : State → State) :
    s.onPlace h code m f = (f u).advanceWorks := by
  obtain ⟨hgot, hserves⟩ := hgot
  rw [State.onPlace, State.onFrame_of_got hgot, if_pos hserves]

end Rules

/-! ### What a request leaves in its requester's slot (R50, R62) -/

section Touch
variable (s : State) (rq : Req)

@[simp] theorem State.slotOf_modSlot (n : Nat) {f : Requester → Requester} (hf : ∀ r, (f r).rq = r.rq) : (s.modSlot n f).slotOf rq = s.slotOf rq := by
  have hfind : ∀ l : List (Nat × Requester), ((l.map fun e => if e.1 = n then (n, f e.2) else e).find? fun e => e.2.rq == rq).map Prod.fst =
      (l.find? fun e => e.2.rq == rq).map Prod.fst := by
    intro l
    induction l with
    | nil => rfl
    | cons e l ih => by_cases he : e.1 = n <;> by_cases hr : (e.2.rq == rq) = true <;> simp_all
  exact hfind s.dict.slots

@[simp] theorem State.slotOf_touch (r : Req) : (s.touch r).slotOf rq = s.slotOf rq := by
  unfold State.touch
  split
  · exact s.slotOf_modSlot _ _ (fun _ => rfl)
  · rfl

/-- A request changes the table of requesters and nothing else of the dictionary. -/
theorem State.touch_dict : ∃ slots, (s.touch rq).dict = { s.dict with slots := slots } := by
  unfold State.touch
  split <;> exact ⟨_, rfl⟩

@[simp] theorem State.touch_saving : (s.touch rq).dict.saving = s.dict.saving := by obtain ⟨_, h⟩ := s.touch_dict rq; rw [h]
@[simp] theorem State.touch_savedA : (s.touch rq).dict.savedA = s.dict.savedA := by obtain ⟨_, h⟩ := s.touch_dict rq; rw [h]
@[simp] theorem State.touch_savedB : (s.touch rq).dict.savedB = s.dict.savedB := by obtain ⟨_, h⟩ := s.touch_dict rq; rw [h]
@[simp] theorem State.touch_fwds : (s.touch rq).dict.fwds = s.dict.fwds := by obtain ⟨_, h⟩ := s.touch_dict rq; rw [h]
@[simp] theorem State.touch_refuseUntil : (s.touch rq).dict.refuseUntil = s.dict.refuseUntil := by obtain ⟨_, h⟩ := s.touch_dict rq; rw [h]
@[simp] theorem State.touch_pwSet : (s.touch rq).dict.pwSet = s.dict.pwSet := by obtain ⟨_, h⟩ := s.touch_dict rq; rw [h]
@[simp] theorem State.touch_pwSalt : (s.touch rq).dict.pwSalt = s.dict.pwSalt := by obtain ⟨_, h⟩ := s.touch_dict rq; rw [h]
@[simp] theorem State.touch_pwHash : (s.touch rq).dict.pwHash = s.dict.pwHash := by obtain ⟨_, h⟩ := s.touch_dict rq; rw [h]
@[simp] theorem State.touch_newest : (s.touch rq).dict.newest = s.dict.newest := by obtain ⟨_, h⟩ := s.touch_dict rq; rw [h]; rfl

@[simp] theorem State.touch_fresh : (s.touch rq).fresh = s.fresh := by
  unfold State.touch
  split <;> rfl

@[simp] theorem State.outstandingOf_touch : (s.touch rq).outstandingOf rq = s.outstandingOf rq := by
  simp only [State.outstandingOf, State.slotOf_touch, State.outstanding, State.touch_fwds, State.waitsFor, State.touch_host]

end Touch

/-! ### Reads (R48, R69, R71, R73) -/

/-- Settles O16. -/
theorem dictionaryReadsAnswer : Obligations.DictionaryReadsAnswer := by
  unfold Obligations.DictionaryReadsAnswer
  refine ⟨?read, ?segment, ?abort, ?describe, ?enumerate, ?idle⟩
  case read =>
    intro s rq m hserved hop hpasses htype halive hshort
    refine ⟨_, ?_, rfl⟩
    simp only [exec, execDictRead, State.onMsg_of_served hserved, hop, if_true, State.serveRead, hpasses, htype, halive, hshort, fails, lowest, valueResp]
    simp
  case segment =>
    intro s rq m x hserved hop hopen hnext hmore
    simp only [exec, execDictReadSegment, State.onMsg_of_served hserved, hop, if_true, State.serveReadSegment, hopen, hnext, if_neg (Nat.not_le.mpr hmore),
      State.touch_now]
  case abort =>
    intro s rq m hserved hop
    simp only [exec, execDictAbortTransfer, State.onMsg_of_served hserved, hop, if_true]
  case describe =>
    intro s rq m b hserved hop hdesc
    simp only [exec, execDictDescribe, State.onMsg_of_served hserved, hop, ne_eq, not_true_eq_false, if_false, hdesc]
  case enumerate =>
    intro s rq m i hserved hop hnext
    simp only [exec, execDictEnumerate, State.onMsg_of_served hserved, hop, ne_eq, not_true_eq_false, if_false, hnext]
  case idle =>
    intro s rq tag x hx hrq htag hidle
    have hany : s.dict.xfers.any (fun x => x.rq == rq && x.tag == tag && s.elapsed x.lastUse (s.setting 0x1F20 2)) = true :=
      List.any_eq_true.mpr ⟨x, hx, by simp [hrq, htag, State.elapsed, hidle]⟩
    simp only [exec, execTransferIdleTimeout, hany, if_true]

/-! ### Writes (R46, R47, R52, R72) -/

/-- An object of the dictionary has bytes of its own type's length where a write of it passes the checks, so the object's own rules are asked too. -/
theorem State.serveWrite_of_passes {s : State} {rq : Req} {m : DictMsg} {o : Obj} (hcmd : m.index ≠ 0x1F00) (hpw : m.index ≠ 0x1F10)
    (hobj : objFind m.index m.sub = some o) (hpasses : s.writeFails rq m.index m.sub m.type m.value = [])
    (hrules : s.ruleFails m.index m.sub m.value = []) :
    s.serveWrite rq m =
      if o.acc = .rwc then (s.stage rq (okey m.index m.sub) m.value).1.respond rq (refuse m (s.stage rq (okey m.index m.sub) m.value).2)
      else match s.rowWrite rq m.tag m.index m.sub m.value with
        | some t => t
        | none => (s.plainWrite rq m.index m.sub m.value).1.respond rq (refuse m (s.plainWrite rq m.index m.sub m.value).2) := by
  have hbad : lowest (s.writeFails rq m.index m.sub m.type m.value ++ (if o.ty.lenOk m.value.length then s.ruleFails m.index m.sub m.value else [])) = St.ok := by
    rw [hpasses, hrules, ite_self]
    rfl
  unfold State.serveWrite
  simp only [hobj, hbad, ne_eq, not_true_eq_false, if_false, Option.map_some, Option.some.injEq]
  split
  case h_8 => rfl
  all_goals simp_all only [ne_eq, not_true_eq_false]

/-- Settles O17. -/
theorem dictionaryWritesAct : Obligations.DictionaryWritesAct := by
  unfold Obligations.DictionaryWritesAct
  refine ⟨?staged, ?plain, ?segment, ?image, ?commit, ?discard, ?stageTimeout, ?slotTimeout⟩
  case staged =>
    intro s rq m o hserved hop hcmd hpw hobj hacc hpasses hrules
    simp only [exec, execDictWrite, State.onMsg_of_served hserved, hop, if_true, State.serveWrite_of_passes hcmd hpw hobj hpasses hrules, hacc]
  case plain =>
    intro s rq m o hserved hop hcmd hpw hobj hacc hpasses hrules hrow
    simp only [exec, execRegisterWrite, State.onMsg_of_served hserved, hop, if_true, State.serveWrite_of_passes hcmd hpw hobj hpasses hrules, hacc, if_false,
      hrow]
  case segment =>
    intro s rq m x hserved hop hopen hnext htotal hmore hlen hkey
    rw [hnext] at hlen
    have hgood : segmentBad x m = false := by simp [segmentBad, hnext, htotal, hmore, hlen, hlen.le]
    simp only [exec, execDictWriteSegment, State.onMsg_of_served hserved, hop, if_true, State.serveWriteSegment, hopen, State.takeSegment, hgood, hmore, hkey,
      Bool.false_eq_true, if_false, State.touch_now]
  case image =>
    intro s rq m x checksOk programOk version interface size hserved hop hopen hkey hnext htotal hmore hlen
    rw [hnext] at hlen
    have hgood : segmentBad x m = false := by simp [segmentBad, hnext, htotal, hmore, hlen]
    simp only [exec, execImageLoad, State.onMsg_of_served hserved, hop, if_true, State.serveWriteSegment, hopen, State.takeSegment, hgood, hmore, hkey,
      Bool.false_eq_true, if_false, State.segmentsWhole]
  case commit =>
    intro s rq tag n set hroom hslot hset hne hpasses hfree
    have hwaits : (((s.touch rq).commitDone n St.ok 0).applySet rq tag set).host.sess.any (fun e => e.2.waiter.contains (rq, tag)) = false := by
      rw [List.any_eq_false]
      exact fun e he => by simpa using hfree e he
    simp only [exec, execCommit, if_neg (Nat.not_le.mpr hroom), State.commitNow, hslot, hset, Option.getD_some, hne, if_false, hpasses, ne_eq,
      not_true_eq_false, hwaits, Bool.false_eq_true]
  case discard =>
    intro s rq tag n hput hslot
    simp only [exec, execDiscardStaged, State.writeNum_of_mayPut tag _ hput, State.discardSet, hslot]
  case stageTimeout =>
    intro s n r hslot hne hold
    simp only [exec, execStageTimeout, hslot, hne, State.elapsed, hold, ne_eq, not_false_eq_true, decide_true, and_self, if_true]
  case slotTimeout =>
    intro s n r hslot hfree hold
    simp only [exec, execRequesterSlotTimeout, hslot, hfree, State.elapsed, hold, decide_true, Bool.not_false, Bool.and_self, if_true]

/-! ### Saved sets, resets, grants (R54 to R64) -/

/-- The older of the two sets is the one written over: B where A alone is valid or is the newer, else A (R54). -/
theorem Dict.putSet_cases (d : Dict) (x : SavedSet) :
    (d.putSet x = { d with savedA := x }) ∨ (d.putSet x = { d with savedB := x } ∧ d.savedA.valid = true) := by
  unfold Dict.putSet
  dsimp only
  split
  · exact .inr ⟨rfl, by simp_all⟩
  · exact .inl rfl

/-- A reset begins at its instant where no flush runs (R526). -/
theorem State.askReset_of_no_flush {s : State} (h : s.persist.state ≠ 3) (cold : Bool) (cause : Nat) :
    s.askReset cold cause = (s.modRec recFlush).enterReset cold cause := by
  simp only [State.askReset, h, if_false, State.flushedReset]

/-- The set that a save takes (R54): RWS and RWC objects outside the pool state. -/
def State.setInHand (s : State) : List (Nat × Nat) :=
  s.settings.filter fun e => match objFind (e.1 / 256) (e.1 % 256) with
    | some o => (o.acc == .rws || o.acc == .rwc) && !poolState e.1
    | none => false

/-- The generation of the next saved set (R54). -/
def State.nextGen (s : State) : Nat := ((s.dict.newest.map SavedSet.gen).getD 0) + 1

/-- A save begun: its set is in hand, and its outcome reads BUSY (R54). -/
def State.saveBegun (s : State) : State := s.modDict fun d => { d with saving := some (s.nextGen, s.setInHand), saveState := St.busy }

section Saves
variable {s : State} {rq : Req} {tag : Nat}

theorem exec_save (hput : MayPut s rq 0x1F00 2 1 1) (hsaving : s.dict.saving = none) (hhold : s.sbox.flushHold = false) :
    exec (.save rq tag) s = .next ((s.touch rq).saveBegun.respond rq (writeResp tag 0x1F00 2 St.ok)) := by
  simp only [exec, execSave, State.writeNum_of_mayPut tag _ hput, State.touch_saving, hsaving, State.touch_sbox, hhold, Option.isSome_none,
    Bool.false_eq_true, or_self, if_false]
  rfl

theorem exec_saveComplete {ok : Bool} {gen : Nat} {l : List (Nat × Nat)} (hsaving : s.dict.saving = some (gen, l)) :
    exec (.saveComplete ok) s = .next (
      let s := s.modDict fun d => { d with saving := none, saveState := if ok then St.ok else St.programFail }
      if ok then s.modDict fun d => d.putSet { valid := true, gen := gen, entries := l }
      else (s.modDict fun d => d.putSet {}).raise 7 1 (leBytes 4 gen ++ leBytes 4 0)) := by
  simp only [exec, execSaveComplete, hsaving]

end Saves

/-- Settles O18. -/
theorem savesResetsAndGrants : Obligations.SavesResetsAndGrants := by
  unfold Obligations.SavesResetsAndGrants
  refine ⟨?save, ?saved, ?saveFailed, ?defaults, ?warm, ?cold, ?resets, ?grants, ?refusalEnds, ?lock, ?elevationEnds, ?newPassword⟩
  case save =>
    intro s rq tag hput hsaving hhold
    refine ⟨_, (s.touch rq).saveBegun, exec_save hput hsaving hhold, rfl, ?frame, rfl, ?set⟩
    case frame => exact (onlyChanges_of_frParts (fr_touch (by exact rfl) fr_refl rq)).trans (onlyChanges_modDict ..)
    case set => simp only [State.saveBegun, State.modDict_dict, State.nextGen, State.setInHand, State.touch_newest, State.touch_settings] <;> rfl
  case saved =>
    intro s gen l hsaving
    refine ⟨_, exec_saveComplete hsaving, (onlyChanges_modDict ..).trans (onlyChanges_modDict ..), ?_⟩
    simp only [if_true, State.modDict_dict]
    rcases Dict.putSet_cases { s.dict with saving := none, saveState := St.ok } { valid := true, gen := gen, entries := l } with hset | ⟨hset, hvalid⟩
    · rw [hset]
      exact ⟨rfl, rfl, .inl ⟨rfl, rfl⟩⟩
    · rw [hset]
      exact ⟨rfl, rfl, .inr ⟨rfl, rfl, hvalid⟩⟩
  case saveFailed =>
    intro s gen l hsaving
    have hdone := exec_saveComplete (ok := false) hsaving
    refine ⟨_, hdone, onlyChanges_of_exec hdone, ?_⟩
    simp only [Bool.false_eq_true, if_false, State.raise_dict, State.modDict_dict]
    rcases Dict.putSet_cases { s.dict with saving := none, saveState := St.programFail } {} with hset | ⟨hset, -⟩ <;> rw [hset] <;> exact ⟨rfl, rfl⟩
  case defaults =>
    intro s rq tag hput hsaving hhold
    simp only [exec, execRestoreDefaults, State.writeNum_of_mayPut tag _ hput, State.touch_saving, hsaving, State.touch_sbox, hhold, Option.isSome_none,
      Bool.false_eq_true, or_self, if_false]
  case warm =>
    intro s rq tag hput hevac hnone
    have hact : (s.touch rq).resetLater false = ((s.touch rq).modDict (fun d => { d with resetReq := some (false, s.now + 10000000) }), St.ok) := by
      simp [State.resetLater, hevac, State.modDict, hnone]
    simp only [exec, execResetWarm, State.writeNum_of_mayPut tag _ hput, hact]
  case cold =>
    intro s rq tag hput hnone
    have hact : (s.touch rq).resetLater true = ((s.touch rq).modDict (fun d => { d with resetReq := some (true, s.now + 10000000) }), St.ok) := by
      simp [State.resetLater, State.modDict, hnone]
    simp only [exec, execResetCold, State.writeNum_of_mayPut tag _ hput, hact]
  case resets =>
    intro s cold at_ hreq hdue hflush
    simp only [exec, execResetStartDelay, hreq, Nat.not_lt.mpr hdue, if_false]
    rw [State.askReset_of_no_flush (by exact hflush)]
  case grants =>
    intro s rq tag n pw hwrite hslot huntil hright
    have hroom : ¬ 4 ≤ s.outstandingOf rq := by simpa using hwrite.1
    have hwritten := fun act => State.writeObj_of_mayWrite hwrite tag act
    rw [show tyCode 0x1F10 1 = 9 from rfl] at hwritten
    have hmatch : (if s.dict.pwSet = true then Config.pwHash s.dict.pwSalt (fromLe pw) == s.dict.pwHash else fromLe pw == 0) = true := by
      split at hright <;> simp_all
    refine ⟨_, ?_, rfl⟩
    simp only [exec, execPresentPassword, if_neg hroom, hwritten, State.takeReqSlot, State.slotOf_touch, hslot, State.touch_now, State.touch_refuseUntil,
      if_neg (Nat.not_lt.mpr huntil), State.touch_pwSet, State.touch_pwSalt, State.touch_pwHash, hmatch, if_true]
  case refusalEnds =>
    intro s huntil
    simp only [exec, execPresentationRefusalEnd, huntil, if_true]
  case lock =>
    intro s rq tag n hput hslot
    simp only [exec, execOwnerLock, State.writeNum_of_mayPut tag _ hput, hslot]
  case elevationEnds =>
    intro s n r hslot hgrant hidle
    simp only [exec, execElevationTimeout, hslot, hgrant, State.elapsed, hidle, decide_true, Bool.and_self, if_true]
  case newPassword =>
    intro s rq tag pw hwrite
    have hty : tyCode 0x1F10 2 = 9 := rfl
    have hwritten := fun act => State.writeObj_of_mayWrite hwrite tag act
    rw [hty] at hwritten
    simp only [exec, execNewPassword, hwritten, State.touch_fresh]

end Sys2Proof.Machine

/-! SUPPORT. MCTP control, requests forwarded between devices, and the receive checks of Hinge frames. -/

namespace Sys2Proof.Machine

open Laws Claims

/-! ### MCTP control (R65, R66) -/

theorem State.onMctp_of_path {s : State} {p : Path} (h : s.mctpPath p = true) (f : State → State) : s.onMctp p f = f s := if_pos h

/-- Settles O19. What DSP0236 adds to an answer is a constant of Config (log entry 89). -/
theorem mctpControlAnswers : Obligations.MctpControlAnswers := by
  unfold Obligations.MctpControlAnswers
  refine ⟨?set, ?get, ?i3c, ?jtag⟩
  case set =>
    intro s p eid hpath hlow hhigh
    have hgood : ¬ (eid = 0 ∨ 255 ≤ eid) := by omega
    have hdone : exec (.setEndpointId p eid) s = .next ((s.modDict fun d => { d with eids := insertKey (pathNum p) eid d.eids }).emit
        (.mctp p 1 [0, Config.standardField 0xFF01 0, eid, 0])) := by
      simp only [exec, execSetEndpointId, State.onMctp_of_path hpath, if_neg hgood]
    exact ⟨_, hdone, (onlyChanges_of_exec hdone).mono (by simp [touches]), assoc_insertKey_same .., rfl⟩
  case get =>
    intro s p hpath
    refine ⟨?eid, ?uuid, ?version, ?types, ?vendor⟩
    case eid => exact ⟨_, by simp only [exec, execGetEndpointId, State.onMctp_of_path hpath], onlyChanges_emit .., rfl⟩
    case uuid => exact ⟨_, by simp only [exec, execGetEndpointUuid, State.onMctp_of_path hpath], onlyChanges_emit .., rfl⟩
    case version => exact ⟨_, by simp only [exec, execGetMctpVersionSupport, State.onMctp_of_path hpath], onlyChanges_emit .., rfl⟩
    case types => exact ⟨_, by simp only [exec, execGetMessageTypeSupport, State.onMctp_of_path hpath], onlyChanges_emit .., rfl⟩
    case vendor => exact ⟨_, by simp only [exec, execGetVendorDefinedMessageSupport, State.onMctp_of_path hpath], onlyChanges_emit .., rfl⟩
  case i3c => exact fun s port addr => ⟨_, rfl, onlyChanges_modDict .., assoc_insertKey_same ..⟩
  case jtag =>
    intro s take
    have hdone : exec (.jtagFactoryAccess take) s = .next ((s.modDict fun d => { d with jtag := take }).syncMode) := rfl
    have hdict : ∀ t : State, t.syncMode.dict = t.dict := fun t => (fr_syncMode in_self fr_refl).2.2.2.2 .dict rfl
    exact ⟨_, hdone, onlyChanges_of_exec hdone, by rw [hdict]; rfl⟩

/-! ### Forwarding (R74 to R76) -/

/-- Whatever its opcode, a message goes through the checks of R65 to R74 first; `f` is what serves it here. -/
theorem State.serveMsg_eq_onMsg (s : State) (rq : Req) (m : DictMsg) : ∃ f, s.serveMsg rq m = s.onMsg rq m f := by
  simp only [State.serveMsg, execDictRead, execDictWrite, execDictReadSegment, execDictWriteSegment, execDictAbortTransfer, execDictDescribe,
    execDictEnumerate, nextOr]
  split <;> exact ⟨_, rfl⟩

/-- A request with FWD set for another listed device is sent on by the slot it takes (R74). -/
theorem State.onMsg_of_forwarded {s u : State} {rq : Req} {m : DictMsg} {n : Nat} (hanswers : s.answers rq = true) (hwhole : msgWhole rq m = true)
    (hform : msgForm m = true) (hroom : (s.touch rq).outstandingOf rq < 4) (hfwd : m.fwd = true) (htarget : m.target ≠ 0xFFFF)
    (hother : m.target ≠ s.pool.number) (hnumbered : s.numbered = true) (hlisted : s.listed m.target = true)
    (hslot : (s.touch rq).takeReqSlot rq = some (u, n)) (f : State → State) :
    s.onMsg rq m f = (awaits u n m).send m.target (.mgmtReq { dev := u.pool.number, slot := n, level := min ((awaits u n m).level rq) 1 } m) := by
  have hgone : (m.fwd && m.target != 0xFFFF && m.target != (s.touch rq).pool.number) = true := by simp [hfwd, htarget, hother]
  have hknown : ((s.touch rq).numbered && (s.touch rq).listed m.target) = true := by
    simp only [State.numbered, State.listed, State.touch_pool] at hnumbered hlisted ⊢
    simp [hnumbered, hlisted]
  simp only [State.onMsg, hanswers, hwhole, hform, Nat.not_le.mpr hroom, hgone, Bool.not_true, Bool.false_eq_true, if_false, if_true, State.forward, hknown,
    hslot]
  rfl

/-- Settles O20. -/
theorem forwardingCarriesRequests : Obligations.ForwardingCarriesRequests := by
  unfold Obligations.ForwardingCarriesRequests
  refine ⟨?request, ?response, ?timeout, ?target, ?mailbox, ?discarded⟩
  case request =>
    intro s u rq m n hanswers hwhole hform hroom hfwd htarget hother hnumbered hlisted hslot
    obtain ⟨f, hserve⟩ := s.serveMsg_eq_onMsg rq m
    simp only [exec, execForwardRequest, hserve,
      State.onMsg_of_forwarded hanswers hwhole hform hroom hfwd htarget hother hnumbered hlisted hslot]
  case response =>
    intro s u h pre r f q hgot hwaits hslot
    simp only [exec, execForwardResponse, State.onFrame_of_got hgot, hwaits, State.modDict_dict, hslot]
  case timeout =>
    intro s slot tag f q hwaits hslot
    simp only [exec, execForwardTimeout, hwaits, State.modDict_dict, hslot]
  case target =>
    intro s u h pre m hgot hslot hcrc hform htarget hfwd
    have hwhole : msgWhole (.fwd pre.dev pre.slot) m = true := by simp [msgWhole, hcrc]
    simp [exec, execMgmtFrame, State.onFrame_of_got hgot, hslot, hwhole, hform, htarget, hfwd]
  case mailbox =>
    intro s p ld m hthere hcrc
    have hwhole : msgWhole (.ld p ld) m = true := by simp [msgWhole, hcrc]
    simp [exec, execDictionaryMessage, hthere, hwhole]
  case discarded =>
    intro s p ld m hthere hcrc
    have hwhole : msgWhole (.ld p ld) m = false := by simp [msgWhole, hcrc]
    simp [exec, execDictionaryMessage, hthere, hwhole]

/-! ### The receive checks (R268, R292, R294, R300) -/

section Receive
variable {s : State} {h : Hdr} {b : FBody} {vc : Nat}

/-- A claim in force teaches nothing (R268). -/
theorem State.learnClaim_of_le {v c : Nat} (hc : c ≤ s.claimOf v) : s.learnClaim v c = s := if_pos hc

theorem State.claimStep_of_eq (hsrc : h.src ≠ 0xFFFF) (hclaim : h.claim = s.claimOf (h.src / 2)) : s.claimStep h vc = (s, true) := by
  have hlow : ¬ (vc < 3 ∧ h.claim < s.claimOf (h.src / 2)) := fun hlow => hclaim.not_lt hlow.2
  simp only [State.claimStep, hsrc, if_false, State.learnClaim_of_le hclaim.le, if_neg hlow]

theorem State.claimStep_of_lt (hsrc : h.src ≠ 0xFFFF) (hvc : vc < 3) (hclaim : h.claim < s.claimOf (h.src / 2)) :
    s.claimStep h vc = (((s.raise 107 0 (leBytes 2 h.src ++ leBytes 8 h.claim ++ leBytes 8 (s.claimOf (h.src / 2)))).count 495 1).send h.src
      (.claim (h.src / 2) (s.claimOf (h.src / 2))), false) := by
  have hkept : ((s.raise 107 0 (leBytes 2 h.src ++ leBytes 8 h.claim ++ leBytes 8 (s.claimOf (h.src / 2)))).count 495 1).claimOf (h.src / 2) =
      s.claimOf (h.src / 2) := by simp [State.claimOf]
  simp only [State.claimStep, hsrc, if_false, State.learnClaim_of_le hclaim.le, hvc, hclaim, and_self, if_true, hkept]

/-- Past the checks that come before its place in the sequence, a frame's fate is its sequence's and its claim's (R294). -/
theorem State.rx_of_passes (hp : Passes s h b) :
    s.rx h b false =
      if (bodyVc b).2 && !s.seqFits h (bodyVc b).1 then (s.seqMiss h (bodyVc b).1, false)
      else match s.claimStep h (bodyVc b).1 with
        | (s, false) => (s, false)
        | (s, true) => (if (bodyVc b).2 then (counted s h b).seqTake h (bodyVc b).1 else counted s h b, true) := by
  obtain ⟨hfcs, haddr, hhead, hnumbered, hdst, hlisted, hsealed⟩ := hp
  have htag : (h.enc && !s.tagPasses h b) = false := by cases henc : h.enc <;> simp_all
  have hlost : (h.enc && s.cipher.lost.contains (1, h.dport, h.seq)) = false := by cases henc : h.enc <;> simp_all
  simp only [State.rx, hfcs, haddr, hhead, hnumbered, hdst, hlisted, htag, hlost, Bool.not_true, Bool.false_eq_true, if_false, beq_self_eq_true, Bool.and_self,
    Bool.and_false]
  rfl

theorem State.seqFits_of_next {c : Conn} (hconn : s.connFor h = some c) (hopen : c.state = 2) (hseq : h.seq = (c.chan vc).nextRx) :
    s.seqFits h vc = true := by simp [State.seqFits, hconn, hopen, hseq]

theorem State.seqFits_of_ne {c : Conn} (hconn : s.connFor h = some c) (hseq : h.seq ≠ (c.chan vc).nextRx) : s.seqFits h vc = false := by
  simp [State.seqFits, hconn, hseq]

/-- A count leaves the connections alone. -/
@[simp] theorem State.connFor_count (n k : Nat) : (s.count n k).connFor h = s.connFor h := by simp [State.connFor, State.conn]

end Receive

/-- Settles O15. -/
theorem framesAreDeliveredInOrder : Obligations.FramesAreDeliveredInOrder := by
  unfold Obligations.FramesAreDeliveredInOrder
  refine ⟨?sequenced, ?unsequenced, ?fcs, ?address, ?header, ?unlisted, ?tag⟩
  case sequenced =>
    intro s h b vc c hp hvc hconn hopen hsrc
    refine ⟨?delivered, ?claim, ?duplicate, ?gap⟩
    case delivered =>
      intro hseq hclaim
      have hfits : s.seqFits h vc = true := State.seqFits_of_next hconn hopen hseq
      simp only [Got, State.rx_of_passes hp, hvc, hfits, Bool.not_true, Bool.and_false, Bool.false_eq_true, if_false, State.claimStep_of_eq hsrc hclaim, if_true]
    case claim =>
      intro hseq hlow hclaim
      have hfits : s.seqFits h vc = true := State.seqFits_of_next hconn hopen hseq
      simp only [State.rx_of_passes hp, hvc, hfits, Bool.not_true, Bool.and_false, Bool.false_eq_true, if_false, State.claimStep_of_lt hsrc hlow hclaim]
    case duplicate =>
      intro hseq hbefore
      have hfits : s.seqFits h vc = false := State.seqFits_of_ne hconn hseq
      simp only [State.rx_of_passes hp, hvc, hfits, Bool.not_false, Bool.and_self, if_true, State.seqMiss, State.connFor_count, hconn, hopen, ne_eq,
        not_true_eq_false, if_false, hbefore]
    case gap =>
      intro hseq hbefore hnak
      have hfits : s.seqFits h vc = false := State.seqFits_of_ne hconn hseq
      simp only [State.rx_of_passes hp, hvc, hfits, Bool.not_false, Bool.and_self, if_true, State.seqMiss, State.connFor_count, hconn, hopen, ne_eq,
        not_true_eq_false, if_false, hbefore, Bool.false_eq_true, hnak, State.count_now]
  case unsequenced =>
    intro s h b hp hvc hsrc hclaim
    simp only [Got, State.rx_of_passes hp, hvc, Bool.false_and, Bool.false_eq_true, if_false, State.claimStep_of_eq hsrc hclaim]
  case fcs =>
    intro s h b hfcs
    simp only [State.rx, hfcs, Bool.not_false, if_true]
  case address =>
    intro s h b hfcs haddr
    simp only [State.rx, hfcs, haddr, Bool.not_true, Bool.false_eq_true, if_false, Bool.not_false, if_true]
  case header =>
    intro s h b hfcs haddr hhead
    simp only [State.rx, hfcs, haddr, hhead, Bool.not_true, Bool.false_eq_true, if_false, Bool.not_false, if_true]
  case unlisted =>
    intro s h b hfcs haddr hhead hlisted
    simp only [State.rx, hfcs, haddr, hhead, hlisted, Bool.and_false, Bool.not_true, Bool.false_eq_true, if_false, Bool.not_false, Bool.and_self, if_true]
  case tag =>
    intro s h b hfcs haddr hhead hnumbered hdst hlisted henc htag
    simp only [State.rx, hfcs, haddr, hhead, hnumbered, hdst, hlisted, henc, htag, beq_self_eq_true, Bool.and_self, Bool.and_false, Bool.not_true,
      Bool.false_eq_true, if_false, Bool.not_false, if_true]

end Sys2Proof.Machine

/-! SUPPORT. Power: pace and voltage, the rails and PFAIL_N, how a reset begins and ends, and the phases of a start. -/

namespace Sys2Proof.Machine

open Laws Claims

/-! ### Pace, voltage, heat (R81, R350, R351, R519, R530, R536, R540) -/

section Pace
variable {s : State}

/-- A step to a goal leaves the voltage at the goal, whether or not it moves. -/
theorem State.volt_after_step (s : State) (goal : Nat) :
    (if goal = s.pace.volt then s else s.modPace (fun p => { p with volt := goal, stepAt := s.now })).pace.volt = goal := by
  split
  · exact Eq.symm ‹_›
  · rfl

theorem State.voltStep_of_due (hdue : s.pace.stepAt + 50000 ≤ s.now) (hfault : s.power.regFault = false) :
    s.voltStep.pace.volt =
      if s.power.limiting = true ∨ toInt 32 (s.setting 0x3C30 4) ≤ s.power.temp ∨ 105000 ≤ s.power.temp then max (s.pace.volt - 5) 620
      else if s.power.throttling then s.pace.volt
      else if s.pace.index < s.setting 0x1010 2 then min (s.pace.volt + 5) 880
      else if s.setting 0x1010 2 + s.setting 0x1010 7 < s.pace.index then max (s.pace.volt - 5) 620
      else s.pace.volt := by
  simp only [State.voltStep, State.elapsed, hdue, hfault, decide_true, Bool.not_true, Bool.false_eq_true, if_false, Bool.or_eq_true, decide_eq_true_eq, or_assoc]
  exact s.volt_after_step _

end Pace

/-- What a pace window leaves to be read: the indices, the history, and the core voltage. -/
structure PaceReads (v w volt : Nat) (hist : List Nat) (s : State) : Prop where
  vault : s.pace.vault = v
  steward : s.pace.steward = w
  volt : s.pace.volt = volt
  hist : s.pace.hist = hist

section PaceReads
variable {v w volt : Nat} {hist : List Nat} {s : State}

theorem PaceReads.held (h : PaceReads v w volt hist s) (b : Bool) : PaceReads v w volt hist (s.modPace fun p => { p with held := b }) :=
  ⟨h.vault, h.steward, h.volt, h.hist⟩

theorem PaceReads.told (h : PaceReads v w volt hist s) (b : Bool) (src cause : Nat) (detail : Bytes) :
    PaceReads v w volt hist ((s.modPace fun p => { p with apartTold := b }).raise src cause detail) :=
  ⟨by simpa using h.vault, by simpa using h.steward, by simpa using h.volt, by simpa using h.hist⟩

end PaceReads

/-- A window without its flags: the indices, the history, and what is worked out of them. -/
def State.paceKept (s : State) (v w : Nat) : State :=
  let hist := (s.pace.hist ++ [min v w]).drop ((s.pace.hist ++ [min v w]).length - 1000)
  let ix := hist.foldl (· + ·) 0 / hist.length
  let low := decide (ix < s.paceFloor) && s.pace.volt == 880
  let far := decide (v + 150 < w ∨ w + 150 < v)
  s.modPace (fun p => { p with
    vault := v
    steward := w
    hist := hist
    index := ix
    lowest := if p.hist = [] then ix else min p.lowest ix
    highest := if p.hist = [] then ix else max p.highest ix
    below := if low then some (p.below.getD s.now) else none
    above := if s.paceFloor ≤ ix then some (p.above.getD s.now) else none
    apart := if far then some (p.apart.getD s.now) else none
    apartTold := far && p.apartTold })

/-- A pace above its floor for 10 ms is held. -/
def State.paceHeld (s : State) : State := match s.pace.above with
  | some t => if s.elapsed t 10000000 then s.modPace (fun p => { p with held := true }) else s
  | none => s

/-- Dies apart for 10 ms are told of once. -/
def State.paceApart (s : State) (v w : Nat) : State := match s.pace.apart with
  | some t =>
    if s.elapsed t 10000000 && !s.pace.apartTold then
      (s.modPace (fun p => { p with apartTold := true })).raise 199 0 (leBytes 2 v ++ leBytes 2 w ++ leBytes 4 (ofInt 32 s.power.temp))
    else s
  | none => s

theorem exec_paceWindow (s : State) (v w : List Nat) :
    exec (.paceWindow v w) s = .next ((s.paceKept (dieIndex v) (dieIndex w)).paceHeld.paceApart (dieIndex v) (dieIndex w)) := rfl

section PaceReads
variable {v w volt : Nat} {hist : List Nat} {s : State}

theorem PaceReads.paceHeld (h : PaceReads v w volt hist s) : PaceReads v w volt hist s.paceHeld := by
  unfold State.paceHeld
  split
  · split
    · exact h.held true
    · exact h
  · exact h

theorem PaceReads.paceApart (h : PaceReads v w volt hist s) (a b : Nat) : PaceReads v w volt hist (s.paceApart a b) := by
  unfold State.paceApart
  split
  · split
    · exact h.told ..
    · exact h
  · exact h

end PaceReads

/-- A window joins the history, of which the last 1,000 are kept; the flags it sets afterwards are no part of what is read here. -/
theorem paceReads_paceKept (s : State) (v w : Nat) :
    PaceReads v w s.pace.volt ((s.pace.hist ++ [min v w]).drop ((s.pace.hist ++ [min v w]).length - 1000)) (s.paceKept v w) := by
  constructor <;> simp only [State.paceKept, State.modPace_pace]

/-! ### A reset begins (R525 to R527) -/

section Reset
variable {s : State} {cold : Bool} {cause : Nat}

theorem onlyChanges_sbCut (s : State) : OnlyChanges [.sbox] s s.sbCut := onlyChanges_of_frParts (fr_sbCut (by exact rfl) fr_refl)

/-- A reset begins where none runs, and a cold one where a warm one does. -/
def State.MayReset (s : State) (cold : Bool) : Prop := s.power.inReset = false ∨ (cold = true ∧ s.power.warmReset = true)

theorem State.MayReset.not_held (h : s.MayReset cold) : ¬ (s.power.inReset && !(cold && s.power.warmReset)) = true := by
  rcases h with h | ⟨hc, hw⟩
  · simp [h]
  · simp [hc, hw]

theorem State.enterReset_mem (h : s.MayReset cold) (cause : Nat) : (s.enterReset cold cause).mem = if cold then [] else s.mem := by
  simp only [State.enterReset, if_neg h.not_held]
  rw [show s.sbCut.mem = s.mem from (onlyChanges_sbCut s).2.2 .mem (by simp)]

theorem State.enterReset_power (h : s.MayReset cold) (cause : Nat) : (s.enterReset cold cause).power = s.sbCut.powerAfter cold cause := by
  simp only [State.enterReset, if_neg h.not_held]

theorem State.enterReset_settings (h : s.MayReset cold) (cause : Nat) :
    (s.enterReset cold cause).settings = s.settings.filter (fun e => poolState e.1) := by
  simp only [State.enterReset, if_neg h.not_held]
  rw [show s.sbCut.settings = s.settings from (onlyChanges_sbCut s).2.2 .settings (by simp)]

/-- A reset that begins holds the device, and is of the kind and the cause it was begun with. -/
theorem State.enterReset_holds (h : s.MayReset cold) (cause : Nat) :
    (s.enterReset cold cause).power.inReset = true ∧ (s.enterReset cold cause).power.warmReset = !cold ∧ (s.enterReset cold cause).power.cause = cause := by
  rw [State.enterReset_power h]
  exact ⟨rfl, rfl, rfl⟩

@[simp] theorem State.sbCut_power (s : State) : s.sbCut.power = s.power := (onlyChanges_sbCut s).2.2 .power (by simp)
theorem State.powerAfter_good (s : State) (cold : Bool) (cause : Nat) : (s.powerAfter cold cause).good = s.power.good := rfl
theorem State.powerAfter_vmainMv (s : State) (cold : Bool) (cause : Nat) : (s.powerAfter cold cause).vmainMv = s.power.vmainMv := rfl

end Reset

/-! ### A sample of heat (R530, R536) -/

section Heat
variable {s : State} {v w : List Int} {a b : Int}

/-- What a cool sample keeps: its readings, with heat throttling and the hot time over. -/
def Power.cooledTo (p : Power) (a b : Int) (since : Option Nat) : Power :=
  { p with tempV := a, tempS := b, temp := max a b, highest := max p.highest (max a b), throttling := false, hotSince := none, coolSince := since }

/-- A sample below the throttle point less 5 °C keeps its readings and, where heat throttled, raises source 3. -/
theorem exec_thermalSample_of_cool (ha : v.foldl max (v.headD 0) = a) (hb : w.foldl max (w.headD 0) = b)
    (hcool : max a b < toInt 32 (s.setting 0x3C30 4) - 5000) (hhot : max a b < 110000) (hevac : s.power.evac = false) (hvaux : s.power.vaux = true)
    (hreset : s.power.inReset = false) :
    exec (.thermalSample v w) s = .next (
      let u := s.modPower fun p => p.cooledTo a b (some (p.coolSince.getD s.now))
      if s.power.throttling then u.raise 3 1 (leBytes 4 (ofInt 32 (max a b)) ++ leBytes 2 s.pace.volt) else u) := by
  have hrelease : ¬ toInt 32 (s.setting 0x3C30 4) - 5000 < max a b := by omega
  have hbelow : ¬ toInt 32 (s.setting 0x3C30 4) ≤ max a b := by omega
  have hmild : ¬ (110000 : Int) ≤ max a b := by omega
  have htrip : ¬ (120000 : Int) ≤ max a b := by omega
  have hlow : max a b < toInt 32 (s.setting 0x3C30 4) := by omega
  cases hthrottle : s.power.throttling <;>
    simp only [exec, execThermalSample, done, ha, hb, hvaux, hrelease, hbelow, hmild, htrip, hlow, hthrottle, State.evacuate, State.modPower_power, State.raise_power,
      hreset, hevac, Bool.not_true, Bool.not_false, Bool.false_eq_true, decide_false, if_true, if_false, ite_self, false_and, true_or] <;> rfl

/-- A trip stops the VMAIN loads, and its cold reset has cause 9. -/
theorem State.thermalTrip_power {u : State} (hrun : u.power.inReset = false) :
    u.thermalTrip.power.tripped = true ∧ u.thermalTrip.power.state = 1 ∧ u.thermalTrip.power.cause = 9 := by
  obtain ⟨-, -, hcause⟩ := State.enterReset_holds (cold := true) (.inl hrun) 9
  simp only [State.thermalTrip, State.heatEvent, State.raise_power, State.modRec_power, State.modPower_power, hcause, and_self]

/-- A sample of 120 °C trips a device that has not tripped. -/
theorem exec_thermalSample_of_trip (hhot : 120000 ≤ max (v.foldl max (v.headD 0)) (w.foldl max (w.headD 0))) (htripped : s.power.tripped = false)
    (hvaux : s.power.vaux = true) (hrun : s.power.inReset = false) :
    ∃ u : State, exec (.thermalSample v w) s = .next u.thermalTrip ∧ u.power.inReset = false := by
  have htold : ∀ (c : Prop) [Decidable c] (u : State) (cause : Nat) (detail : Bytes), (if c then u else u.raise 3 cause detail).power = u.power := by
    intro c _ u cause detail
    split
    · rfl
    · exact State.raise_power ..
  refine ⟨_, by simp only [exec, execThermalSample, done, hvaux, Bool.not_true, Bool.false_eq_true, if_false, htold, State.modPower_power, hrun, htripped,
    if_pos hhot]; rfl, ?_⟩
  rw [htold]
  exact hrun

end Heat

/-- Settles O21. -/
theorem paceVoltageAndHeat : Obligations.PaceVoltageAndHeat := by
  unfold Obligations.PaceVoltageAndHeat
  refine ⟨?window, ?missed, ?step, ?limit, ?regulator, ?cool, ?trip⟩
  case window =>
    intro s v w
    have hreads := ((paceReads_paceKept s (dieIndex v) (dieIndex w)).paceHeld).paceApart (dieIndex v) (dieIndex w)
    refine ⟨_, exec_paceWindow s v w, onlyChanges_of_exec (exec_paceWindow s v w), hreads.vault, hreads.steward, hreads.volt, fun hshort => ?_⟩
    rw [hreads.hist, Nat.sub_eq_zero_of_le (by simpa using hshort), List.drop_zero]
  case missed =>
    intro s since hbelow hlong hfull hheld
    have hdone : exec .paceTargetMissed s = .next ((s.modPace fun p => { p with held := false }).raise 4 0
        (leBytes 2 s.pace.index ++ leBytes 2 (s.setting 0x1010 2) ++ leBytes 4 (ofInt 32 s.power.temp))) := by
      simp [exec, execPaceTargetMissed, hbelow, State.elapsed, hlong, hfull, hheld]
    exact ⟨_, hdone, onlyChanges_of_exec hdone, by simp⟩
  case step =>
    intro s hdue hfault
    refine ⟨_, rfl, onlyChanges_of_exec (c := .voltageStep) rfl, ?_, ?_⟩
    · intro hlimit
      rw [State.voltStep_of_due hdue hfault, if_pos (.inl hlimit)]
    · intro hlimit hcool htemp
      rw [State.voltStep_of_due hdue hfault, if_neg (by simp [hlimit, hcool, htemp])]
      exact ⟨fun hthrottle => if_pos hthrottle, fun hthrottle hslow => by simp [hthrottle, hslow]⟩
  case limit =>
    intro s watts
    refine ⟨_, rfl, onlyChanges_of_exec (c := .powerLimitCheck watts) rfl, ?_⟩
    have hstep : ∀ u : State, u.voltStep.power = u.power := fun u =>
      (onlyChanges_of_exec (c := .voltageStep) (s := u) rfl).2.2 .power (by simp [touches])
    simp only [apply_ite State.power, hstep, ite_self, State.raise_power, State.modPower_power]
  case regulator =>
    intro s mv hoff
    have hdone : exec (.regulatorFault mv) s = .next (((s.modPower fun p => { p with regFault := true }).modPace fun p => { p with volt := 880 }).raise 14 0
        (leBytes 2 s.pace.volt ++ leBytes 2 mv)) := by
      simp only [exec, execRegulatorFault, if_pos hoff]
    exact ⟨_, hdone, onlyChanges_of_exec hdone, by simp, by simp⟩
  case cool =>
    intro s v w a b ha hb hcool hhot hevac hvaux hreset
    refine ⟨_, exec_thermalSample_of_cool ha hb hcool hhot hevac hvaux hreset, ?_⟩
    have hkeep := (onlyChanges_modPower s fun p => p.cooledTo a b (some (p.coolSince.getD s.now))).mono (qs := [.recorder, .power]) (by simp)
    dsimp only
    split
    · have htold := (onlyChanges_raise (s.modPower fun p => p.cooledTo a b (some (p.coolSince.getD s.now))) 3 1
        (leBytes 4 (ofInt 32 (max a b)) ++ leBytes 2 s.pace.volt)).mono (qs := [.recorder, .power]) (by simp)
      simp only [State.raise_power, State.modPower_power]
      exact ⟨hkeep.trans htold, rfl, rfl, rfl, rfl, rfl, rfl⟩
    · exact ⟨hkeep, rfl, rfl, rfl, rfl, rfl, rfl⟩
  case trip =>
    intro s v w hhot htripped hvaux hreset
    obtain ⟨u, hdone, hrun⟩ := exec_thermalSample_of_trip hhot htripped hvaux hreset
    exact ⟨_, hdone, State.thermalTrip_power hrun⟩

/-! ### PFAIL_N and the rails (R233, R518, R521 to R524) -/

/-- An assertion that counts, on an input that is not unsteady: the ninth within a second makes it so, and is then no new reason to flush a sealed device. -/
theorem State.qualified_of_steady {s : State} {recent : List Nat} (hp : s.power.pfail = 0)
    (hr : s.power.recent.filter (fun t => decide (s.now < t + 1000000000)) = recent) (pin : Nat) (hseal : 8 ≤ recent.length → s.persist.state ≠ 4) :
    s.qualified pin = ((s.modPower (fun p => { p with
      pfail := if 8 < recent.length + 1 then 2 else pin
      asserts := satAdd p.asserts 1 0xFFFFFFFF
      recent := recent ++ [s.now]
      deassertAt := none })).pfailEvent (if 8 < recent.length + 1 then 2 else 1)).failing := by
  by_cases hmany : 8 < recent.length + 1
  · have hopen := hseal (by omega)
    simp [State.qualified, hp, hr, State.pfailEvent, Nat.le_of_lt_succ hmany, hopen]
  · have hfew : ¬ 8 ≤ recent.length := by omega
    simp [State.qualified, hp, hr, State.pfailEvent, hfew]

/-- Settles O22. What memory, the rails and a flush come to when power goes (a cold reset empties memory; VMAIN is set to 1,800 mV at its return; loads stay
while a flush runs; the cause codes 0 to 2; an undervoltage ends as it begins) is the model's choice in log entries 3, 72, 80, 81 and 135. -/
theorem powerInputs : Obligations.PowerInputs := by
  unfold Obligations.PowerInputs
  refine ⟨?steady, ?ninth, ?unsteady, ?deassert, ?high, ?release, ?resume, ?reminder, ?rise, ?loss, ?range, ?goodHeld, ?goodStart, ?fallAux, ?fall,
    ?under, ?brown⟩
  case steady =>
    intro s hp hfew
    have hstill : (s.modPower fun p => { p with highAt := none }).power.pfail = 0 := hp
    simp only [exec, execPfailAsserted, done, hstill, ne_eq, not_true_eq_false, if_false]
    obtain ⟨recent, hr⟩ : ∃ recent, s.power.recent.filter (fun t => decide (s.now < t + 1000000000)) = recent := ⟨_, rfl⟩
    rw [hr] at hfew ⊢
    rw [State.qualified_of_steady hstill hr 1 (fun h => absurd hfew (Nat.not_lt.mpr h))]
    have hsteady : ¬ 8 < recent.length + 1 := by omega
    simp only [State.modPower_modPower, State.modPower_now, hsteady, if_false]
  case ninth =>
    intro s hp hmany hopen
    have hstill : (s.modPower fun p => { p with highAt := none }).power.pfail = 0 := hp
    simp only [exec, execPfailAsserted, done, hstill, ne_eq, not_true_eq_false, if_false]
    obtain ⟨recent, hr⟩ : ∃ recent, s.power.recent.filter (fun t => decide (s.now < t + 1000000000)) = recent := ⟨_, rfl⟩
    rw [hr] at hmany ⊢
    rw [State.qualified_of_steady hstill hr 1 (fun _ => hopen)]
    have hwild : 8 < recent.length + 1 := by omega
    simp only [State.modPower_modPower, State.modPower_now, hwild, if_true]
  case unsteady =>
    intro s hp
    have hdone : exec .pfailAsserted s = .next (s.modPower fun p => { p with highAt := none }) := by
      simp [exec, execPfailAsserted, hp]
    exact ⟨_, hdone, onlyChanges_modPower s _, rfl⟩
  case deassert =>
    intro s hp
    have hdone : exec .pfailDeasserted s = .next (s.modPower fun p => { p with pfail := 0, deassertAt := some s.now, highAt := some (p.highAt.getD s.now) }) := by
      simp [exec, execPfailDeasserted, hp, State.modPower_modPower]
    exact ⟨_, hdone, onlyChanges_modPower s _, rfl⟩
  case high =>
    intro s hp
    have hdone : exec .pfailDeasserted s = .next (s.modPower fun p => { p with highAt := some (p.highAt.getD s.now) }) := by
      simp [exec, execPfailDeasserted, hp]
    exact ⟨_, hdone, onlyChanges_modPower s _, rfl⟩
  case release =>
    intro s high hp hhigh hlong
    have hdone : exec .unsteadyRelease s = .next (s.modPower fun p => { p with pfail := 0, recent := [], deassertAt := some s.now }) := by
      simp [exec, execUnsteadyRelease, hp, hhigh, State.elapsed, hlong]
    exact ⟨_, hdone, onlyChanges_modPower s _, rfl⟩
  case resume =>
    intro s at_ hat hp hgood hlong hsealed hflush
    simp [exec, execResumeDelayExpiry, hat, hp, hgood, State.elapsed, hlong, hsealed, hflush]
  case reminder =>
    intro s at_ hat hp hlong
    simp [exec, execPfailStartReminder, hat, hp, State.elapsed, hlong]
  case rise =>
    intro s hvaux
    simp [exec, execVauxRise, hvaux]
  case loss =>
    intro s hvaux
    refine ⟨_, by simp only [exec, execVauxLoss, hvaux, Bool.not_true, Bool.false_eq_true, if_false]; rfl, rfl, rfl, rfl, rfl, rfl, fun hrun => ?_⟩
    simpa using State.enterReset_mem (cold := true) (.inl hrun) 1
  case range =>
    intro s mv hout
    have hdone : exec (.vauxOutOfRange mv) s = .next ((s.modPower fun p => { p with vauxMv := mv }).raise 11 0 (leBytes 2 mv)) := by
      simp only [exec, execVauxOutOfRange, if_pos hout]
    exact ⟨_, hdone, onlyChanges_of_exec hdone, by simp⟩
  case goodHeld =>
    intro s hgood hlow hheld hcold
    have haux : ¬ 2 ≤ s.power.state := by omega
    have hdone : exec .powerGoodRise s = .next (s.modPower fun p => { p with good := true, vmainMv := 1800 }) := by
      simp [exec, execPowerGoodRise, hgood, hheld, hcold, State.modPower, haux]
    exact ⟨_, hdone, onlyChanges_modPower s _, rfl⟩
  case goodStart =>
    intro s hgood haux hrun
    have hdone : exec .powerGoodRise s = .next ((s.modPower fun p => { p with
        good := true
        vmainMv := 1800
        deassertAt := if p.pfail = 0 ∧ 2 ≤ p.state then some s.now else p.deassertAt }).enterReset true 8) := by
      simp [exec, execPowerGoodRise, hgood, haux, hrun]
    have hmay : (s.modPower fun p => { p with
        good := true
        vmainMv := 1800
        deassertAt := if p.pfail = 0 ∧ 2 ≤ p.state then some s.now else p.deassertAt }).MayReset true := .inl hrun
    obtain ⟨hin, hcold, hcause⟩ := State.enterReset_holds hmay 8
    refine ⟨_, hdone, ?_, ?_, hin, hcold, hcause, State.enterReset_mem hmay 8⟩
    · rw [State.enterReset_power hmay, State.powerAfter_good, State.sbCut_power]
      rfl
    · rw [State.enterReset_power hmay, State.powerAfter_vmainMv, State.sbCut_power]
      rfl
  case fallAux =>
    intro s hgood hlow
    have hdone : exec .powerGoodFall s = .next (s.modPower fun p => { p with good := false }) := by
      simp [exec, execPowerGoodFall, hgood, hlow]
    exact ⟨_, hdone, onlyChanges_modPower s _, rfl⟩
  case fall =>
    rintro s u hgood hon rfl
    have hrun : ¬ s.power.state < 2 := Nat.not_lt.mpr hon
    refine ⟨fun hflush => ?_, fun hflush hstill => ?_⟩
    · simp [exec, execPowerGoodFall, hgood, hrun, hflush]
    · simp [exec, execPowerGoodFall, hgood, hrun, hflush, Nat.not_lt.mpr hstill]
  case under =>
    intro s mv hon hgood hlow
    have hnow : ∀ (u : State) pin, (u.qualified pin).now = u.now := fun _ _ => (fr_qualified in_self fr_refl _).2.1
    simp only [exec, execVmainUndervoltage, done, hon, hgood, hlow, and_self, if_true, hnow, State.railEvent, State.raise_now, State.modPower_now]
  case brown =>
    intro s mv hon hlow
    simp only [exec, execBrownOut, hon, hlow, and_self, if_true]

/-- Settles O23. That a cold reset leaves memory empty, and that the releases of PORST and WRST end every cold and every warm reset, is the model's choice
in log entries 3 and 16. -/
theorem resetsBeginAndEnd : Obligations.ResetsBeginAndEnd := by
  unfold Obligations.ResetsBeginAndEnd
  refine ⟨?porst, ?wrst, ?held, ?jtag, ?deferred, ?pool, ?cold, ?warm⟩
  case porst =>
    intro s hvaux
    refine ⟨_, by simp only [exec, execPorstAssert, hvaux, if_true], rfl, fun hmay => ?_⟩
    have hmay : s.MayReset true := hmay.imp_right (⟨rfl, ·⟩)
    obtain ⟨hin, hwarm, hcause⟩ := State.enterReset_holds hmay 2
    exact ⟨State.enterReset_mem hmay 2, hin, hwarm, hcause, State.enterReset_settings hmay 2⟩
  case wrst =>
    intro s hvaux hflush hrun
    have hmay : (s.modRec recFlush).MayReset false := .inl hrun
    obtain ⟨hin, hwarm, hcause⟩ := State.enterReset_holds hmay 3
    exact ⟨_, by simp only [exec, execWrstAssert, hvaux, if_true, State.askReset_of_no_flush hflush], rfl, State.enterReset_mem hmay 3, hin, hwarm, hcause⟩
  case held =>
    intro s hvaux hflush hnone
    have hdone : exec .wrstAssert s = .next (s.modPower fun p => { p with deferred := match p.deferred with
        | some (true, c) => some (true, c)
        | _ => some (false, 3) }) := by
      simp only [exec, execWrstAssert, hvaux, if_true, State.askReset, hflush] <;> rfl
    exact ⟨_, hdone, onlyChanges_modPower s _, by simp [hnone]⟩
  case jtag =>
    intro s hjtag
    refine ⟨_, by simp only [exec, execJtagReset, hjtag, if_true], rfl, fun hrun => ?_⟩
    have hmay : s.MayReset true := .inl hrun
    obtain ⟨hin, hwarm, hcause⟩ := State.enterReset_holds hmay 10
    exact ⟨hin, hwarm, hcause, State.enterReset_mem hmay 10⟩
  case deferred =>
    intro s cold cause hdef hflush
    simp only [exec, execDeferredReset, hdef, hflush, if_false, State.flushedReset]
  case pool =>
    intro s cold at_ hdue hlong hflush
    simp only [exec, execPoolResetFire, hdue, State.elapsed, hlong, decide_true, or_true, if_true]
    rw [State.askReset_of_no_flush (s := s.modPool _) hflush]
  case cold =>
    intro s spds failed hvaux hgood hheld hcold hboot
    simp [exec, execPorstRelease, hvaux, hgood, hheld, hcold, hboot]
  case warm =>
    intro s pass failed hvaux hheld hwarm hup hboot
    simp [exec, execWrstRelease, hvaux, hheld, hwarm, hup, hboot]

/-! ### The phases of a start (R331 to R334) -/

/-- The recorder's mode is the recorder's alone. -/
theorem onlyChanges_syncMode (s : State) : OnlyChanges [.recorder] s s.syncMode := onlyChanges_of_frParts (fr_syncMode (by exact rfl) fr_refl)

/-- Settles O24. -/
theorem startPhases : Obligations.StartPhases := by
  unfold Obligations.StartPhases
  refine ⟨?phases, ?opens⟩
  case phases =>
    intro s drives keys heads m hrun hfree hon
    refine ⟨fun hone => ?_, fun htwo hpop htrained => ?_⟩
    · have hdone : exec (.startPhaseAdvance drives keys heads m) s = .next (s.modPower fun p => { p with phase := 2 }) := by
        simp [exec, execStartPhaseAdvance, hrun, hfree, hon, hone]
      exact ⟨_, hdone, onlyChanges_modPower s _, rfl⟩
    · have hnone : s.dram.chans.any (fun c => c.2.state == 1) = false := by
        simpa [List.any_eq_false] using htrained
      have hdone : exec (.startPhaseAdvance drives keys heads m) s = .next (s.modPower fun p => { p with phase := 3 }) := by
        simp [exec, execStartPhaseAdvance, hrun, hfree, hon, htwo, hpop, hnone]
      exact ⟨_, hdone, onlyChanges_modPower s _, rfl⟩
  case opens =>
    intro s hclosed hmay
    have hdone : exec .hostServiceOpen s =
        .next (((s.modHost fun h => { h with creditsOpen := true }).modPower fun p => { p with phase := 7 }).syncMode) := by
      simp only [exec, execHostServiceOpen, hclosed, hmay, Bool.not_false, Bool.and_self, if_true]
    have hkeep := onlyChanges_syncMode ((s.modHost fun h => { h with creditsOpen := true }).modPower fun p => { p with phase := 7 })
    exact ⟨_, hdone, onlyChanges_of_exec hdone, hkeep.2.2 .host (by simp), hkeep.2.2 .power (by simp)⟩

end Sys2Proof.Machine

/-! SUPPORT. Host access: the accesses of hosts, their ports and decoders, and sessions with their capacity. -/

namespace Sys2Proof.Machine

open Laws Claims

/-! ### Keyed parts of host access -/

section HostKeys
variable (s : State)

theorem State.sess_modSess_same (n : Nat) (f : Sess → Sess) : (s.modSess n f).sess n = f (s.sess n) := getD_modD_same ..
theorem State.ldev_modLdev_same (p l : Nat) (f : LDev → LDev) : (s.modLdev p l f).ldev p l = f (s.ldev p l) := getD_modD_same ..

theorem assoc_setSetting_same (idx sub v : Nat) : assoc (s.setSetting idx sub v).settings (okey idx sub) = some v := Laws.assoc_insertKey_same ..

theorem State.setting_of_assoc {s : State} {idx sub v : Nat} (h : assoc s.settings (okey idx sub) = some v) : s.setting idx sub = v := by
  simp only [State.setting, h]

theorem State.setting_setSetting_same (idx sub v : Nat) : (s.setSetting idx sub v).setting idx sub = v := State.setting_of_assoc (assoc_setSetting_same ..)

end HostKeys

/-- A command of a logical device that is there acts, and is answered. -/
theorem State.onMbox_of_there {s : State} {p ld : Nat} (h : s.ldThere p ld = true) (opcode : Nat) (f : State → State × Nat × List Nat) :
    s.onMbox p ld opcode f = (f s).1.mbox p ld opcode (f s).2.1 (f s).2.2 := by
  simp only [State.onMbox, h, if_true]

/-! ### Accesses (R93, R99 to R109, R203) -/

theorem onlyChanges_countFor (s : State) (n k : Nat) (t : ReqTag) : OnlyChanges [.recorder] s (s.countFor n k t) :=
  onlyChanges_of_frParts (fr_countFor (by exact rfl) fr_refl n k t)

theorem onlyChanges_tick (s : State) : OnlyChanges [] s s.tick := onlyChanges_of_frParts (fr_tick fr_refl)

/-- Events raised in a row leave what hosts hold as it is. -/
theorem foldl_raise_host {α : Type} (l : List α) (src : State → α → Nat) (cause : State → α → Nat) (detail : State → α → Bytes) (s : State) :
    (l.foldl (fun s e => s.raise (src s e) (cause s e) (detail s e)) s).host = s.host := by
  induction l generalizing s with
  | nil => rfl
  | cons e l ih => exact (ih _).trans (State.raise_host ..)

section CountFor
variable (s : State) (n k : Nat) (t : ReqTag)

@[simp] theorem State.sess_countFor (m : Nat) : (s.countFor n k t).sess m = s.sess m := by simp only [State.sess, State.countFor_host]
@[simp] theorem State.sessGrants_countFor (m : Nat) (w : Bool) : (s.countFor n k t).sessGrants m w = s.sessGrants m w := by
  simp only [State.sessGrants, State.sess_countFor, State.countFor_setting]
@[simp] theorem State.poolAt_countFor (m hpa : Nat) : (s.countFor n k t).poolAt m hpa = s.poolAt m hpa := by
  simp only [State.poolAt, State.countFor_setting]
theorem State.sessAt_countFor (p host dpa : Nat) : (s.countFor n k t).sessAt p host dpa = s.sessAt p host dpa := by
  simp only [State.sessAt, State.countFor_host, State.sessHost, State.inWindow, State.countFor_setting, State.sess_countFor]

end CountFor

/-- The refusal of an access answers it; what is answered last is the answer to the access itself. -/
theorem onlyChanges_accessRefused (s : State) (p host dpa : Nat) (n : Option Nat) :
    OnlyChanges [.out, .host, .recorder] s (s.accessRefused p host dpa n) :=
  onlyChanges_of_frParts (fr_accessRefused (by exact rfl) fr_refl p host dpa n)

/-- Settles O25. What a read returns that no decoder claims (any line), and that such a write completes, is the model's choice in log entry 69. -/
theorem hostAccesses : Obligations.HostAccesses := by
  unfold Obligations.HostAccesses
  refine ⟨?read, ?unclaimedRead, ?unclaimedWrite, ?refused, ?whole, ?part, ?admitted, ?threshold, ?limit, ?gpf1, ?gpf2, ?answer⟩
  case read =>
    intro s p host hpa tag dpa k hopen hclaim hsess hgrant
    simp only [exec, execHostRead, done, hopen, hclaim, Bool.not_true, Bool.false_eq_true, if_false, State.sessAt_countFor, hsess, State.sessGrants_countFor, hgrant,
      if_true, State.poolAt_countFor, State.sess_modSess_same, State.sess_countFor, State.modSess_now, State.countFor_now, Option.getD_some, Option.bind_some,
      State.hostTag]
  case unclaimedRead =>
    intro s p host hpa tag hopen hclaim
    have hdone : exec (.hostRead p host hpa tag) s = .next (((s.countFor (128 + 8 * p) 1 { src := p }).emit
        (.readDone p host tag (s.countFor (128 + 8 * p) 1 { src := p }).freeLine false)).tick) := by
      simp only [exec, execHostRead, done, hopen, hclaim, Bool.not_true, Bool.false_eq_true, if_false]
      rfl
    refine ⟨_, hdone, ?_, _, by rw [State.tick_out, State.emit_out, State.countFor_out]⟩
    exact (((onlyChanges_countFor ..).mono (by simp)).trans ((onlyChanges_emit ..).mono (by simp))).trans ((onlyChanges_tick _).mono (by simp))
  case unclaimedWrite =>
    intro s p host hpa line be poison tag hlink hclaim
    refine ⟨_, by simp only [exec, execHostWrite, done, hlink, hclaim, ne_eq, not_true_eq_false, if_false, Option.bind_none, State.hostTag]; rfl, ?_, ?_⟩
    · refine OnlyChanges.trans ?_ ((onlyChanges_emit ..).mono (by simp))
      split
      · exact (onlyChanges_countFor ..).mono (by simp)
      · exact ((onlyChanges_countFor ..).trans (onlyChanges_countFor ..)).mono (by simp)
    · split <;> simp
  case refused =>
    intro s p host hpa tag dpa hopen hclaim hsess
    refine ⟨_, by simp only [exec, execHostRead, done, hopen, hclaim, Bool.not_true, Bool.false_eq_true, if_false, State.sessAt_countFor, hsess]; rfl, ?_, ?_⟩
    · exact (((onlyChanges_countFor ..).mono (by simp)).trans (onlyChanges_accessRefused ..)).trans ((onlyChanges_emit ..).mono (by simp))
    · simp
  case whole =>
    intro s p host hpa line poison tag dpa hlink hclaim
    simp [exec, execHostWrite, hlink, hclaim]
  case part =>
    intro s p host hpa line be poison tag dpa hlink hbe hclaim
    simp only [exec, execHostWrite, done, hlink, hclaim, ne_eq, not_true_eq_false, hbe, if_false, Option.getD_some, Option.bind_some]
  case admitted =>
    intro s p e hfirst hfree hshort
    simp only [exec, execHeldWriteAdmitted, done, hfirst, hfree, Bool.false_eq_true, if_false]
    exact congrArg (fun u => Host.Outcome.next (State.acceptWrite u _)) (if_neg (Nat.not_lt.mpr hshort))
  case threshold =>
    intro s p e he hp hlate
    refine ⟨_, rfl, onlyChanges_of_exec (c := .writeHoldThreshold p) rfl, ?_⟩
    rw [foldl_raise_host]
    exact List.mem_map.mpr ⟨e, he, if_pos ⟨hp, hlate⟩⟩
  case limit =>
    intro s num e hreq hlookup hlong hout hwork hmail hwrite hport
    simp [exec, execTranslationTimeLimit, hreq, hlookup, State.elapsed, hlong, hout, hwork, hmail, hwrite, hport]
  case gpf1 =>
    intro s p hlink
    have hdone : exec (.gpfPhase1 p) s = .next (s.emit (.gpfDone p 1)) := by simp only [exec, execGpfPhase1, hlink, if_true]
    exact ⟨_, hdone, onlyChanges_emit .., rfl⟩
  case gpf2 =>
    intro s p hlink
    exact ⟨_, by simp only [exec, execGpfPhase2, done, hlink, if_true]; rfl, onlyChanges_modHost .., rfl⟩
  case answer =>
    intro s p g hfirst hempty
    have hdone : exec (.gpfPhase2Answer p) s =
        .next ((s.modHost fun h => { h with gpf := h.gpf.eraseP fun x => x.port == p }).emit (.gpfDone p 2)) := by
      simp only [exec, execGpfPhase2Answer, hfirst, hempty, if_true]
    exact ⟨_, hdone, onlyChanges_of_exec hdone, rfl⟩

/-! ### Ports and decoders (R86, R87, R93, R123, R531) -/

theorem State.hostPort_touch (s : State) (rq : Req) (p : Nat) : (s.touch rq).hostPort p = s.hostPort p := by simp only [State.hostPort, State.touch_host]
theorem State.portExists_touch (s : State) (rq : Req) (p : Nat) : (s.touch rq).portExists p = s.portExists p := by
  simp only [State.portExists, State.touch_host]
theorem State.hostPort_setSetting (s : State) (idx sub v p : Nat) : (s.setSetting idx sub v).hostPort p = s.hostPort p := rfl

/-- Settles O26. The PBR ID of a port is a free value, by log entry 94. -/
theorem hostPorts : Obligations.HostPorts := by
  unfold Obligations.HostPorts
  refine ⟨?trained, ?narrow, ?down, ?retrain, ?disable, ?enable, ?perst, ?decoder⟩
  case trained =>
    intro s p speed width hexists hlink hon hrun hspeed hwidth
    have hwide : s.portLanes ≤ 2 * s.portLanes := by omega
    have hlanes : ∀ f, (s.modPort p f).portLanes = s.portLanes := fun _ => rfl
    simp only [exec, execPortLinkTrained, done, hexists, hlink, hon, hrun, hspeed, hwidth]
    simp [hwide, hlanes]
  case narrow =>
    intro s p speed width hexists hlink hon hrun hnarrow
    simp [exec, execPortLinkTrained, hexists, hlink, hon, hrun, Nat.not_le.mpr hnarrow]
  case down =>
    intro s p hlink
    simp [exec, execPortLinkDown, hlink]
  case retrain =>
    intro s rq tag p hput hexists hlink
    simp only [exec, execPortRetrain, State.writeNum_of_mayPut tag _ hput, State.portExists_touch, State.hostPort_touch, hexists, hlink]
    rfl
  case disable =>
    intro s rq tag p hput hexists hfree hlink
    simp only [exec, execPortEnableWrite, done, b2n, Bool.false_eq_true, if_false, State.writeNum_of_mayPut tag _ hput, State.portExists_touch, hexists, hfree,
      State.hostPort_setSetting, State.hostPort_touch, hlink]
    rfl
  case enable =>
    intro s rq tag p hput hexists hfree hlink
    simp only [exec, execPortEnableWrite, done, b2n, if_true, State.writeNum_of_mayPut tag _ hput, State.portExists_touch, hexists, hfree, State.hostPort_setSetting, State.hostPort_touch, hlink]
    rfl
  case perst =>
    intro s p hexists hon hlink
    simp [exec, execCxlPerst, hexists, hon, hlink]
  case decoder =>
    intro s p ld i base size ways gran dpa hways hgran hsize
    have hok : ([1, 2, 4, 8, 16].contains ways && [256, 512, 1024, 2048, 4096, 8192, 16384].contains gran && decide (0 < size)) = true := by
      rw [List.contains_iff_mem.mpr hways, List.contains_iff_mem.mpr hgran, decide_eq_true hsize]
      rfl
    refine ⟨_, by simp only [exec, execHdmDecoderCommit, done, hok, Bool.and_true, if_true]; rfl, onlyChanges_modHost .., ?_⟩
    refine (congrArg (fun d => assoc d.decoders i) (State.ldev_modLdev_same ..)).trans ?_
    exact Laws.assoc_insertKey_same ..

/-! ### Sessions and capacity (R98, R114 to R116) -/

theorem onlyChanges_sendCensus (s : State) : OnlyChanges [.out, .hinge, .pool, .lattice, .dram, .cipher, .recorder] s s.sendCensus :=
  onlyChanges_of_frParts (fr_sendCensus (by exact rfl) fr_refl)

/-- A setting written leaves the others. -/
theorem State.setting_setSetting_other (s : State) {idx sub idx' sub' : Nat} (v : Nat) (h : okey idx' sub' ≠ okey idx sub) :
    (s.setSetting idx sub v).setting idx' sub' = s.setting idx' sub' := by
  simp only [State.setting, State.setSetting, State.modSettings_settings, Laws.assoc_insertKey_other h, State.modSettings_hinge] <;> rfl

theorem State.mem_out_msix {s : State} {o : Output} (p l v : Nat) (h : o ∈ s.out) : o ∈ (s.msix p l v).out := by
  unfold State.msix
  split
  · exact h
  · exact List.mem_append_left _ h

/-- Settles O27. -/
theorem sessionsAndCapacity : Obligations.SessionsAndCapacity := by
  unfold Obligations.SessionsAndCapacity
  refine ⟨?unbind, ?offer, ?release, ?response, ?tail⟩
  case unbind =>
    intro s n hstate hwrites hrebind hwaiter
    have hdone : exec (.sessionUnbindDone n) s = .next (((s.modSess n fun y => { y with state := 0, acc := 0, eff := 0 }).modSess n fun y =>
        { y with waiter := [] }).sendCensus) := by
      simp only [exec, execSessionUnbindDone, done, hstate, hwrites, hrebind, hwaiter, List.foldl_nil]
      rfl
    have hkeep := onlyChanges_sendCensus ((s.modSess n fun y => { y with state := 0, acc := 0, eff := 0 }).modSess n fun y => { y with waiter := [] })
    have hsess : ∀ t : State, t.host = ((s.modSess n fun y => { y with state := 0, acc := 0, eff := 0 }).modSess n fun y => { y with waiter := [] }).host →
        t.sess n = { s.sess n with state := 0, acc := 0, eff := 0, waiter := [] } := fun t ht => by
      rw [State.sess, ht, ← State.sess, State.sess_modSess_same, State.sess_modSess_same]
    have := hsess _ (hkeep.2.2 .host (by simp))
    exact ⟨_, hdone, by rw [this], by rw [this], hkeep.2.2 .settings (by simp), hkeep.2.2 .mem (by simp)⟩
  case offer =>
    intro s n hstate hdue
    have hsess : (s.offerEnds n).sess n = { s.sess n with state := 1 } := by
      simp only [State.offerEnds, State.sess, State.raise_host]
      exact State.sess_modSess_same ..
    refine ⟨_, by simp only [exec, execCapacityOfferTimeout, done, hstate, hdue, and_self, if_true], rfl, by rw [hsess], by rw [hsess], ?_⟩
    simp only [State.offerEnds, State.raise_setting, State.modSess_setting]
    exact State.setting_setSetting_same ..
  case release =>
    intro s n len hrelease hdone
    have hother : ∀ sub, sub < 6 → (s.setSetting (0x4000 + n) 6 len).setting (0x4000 + n) sub = s.setting (0x4000 + n) sub := fun sub hsub =>
      State.setting_setSetting_other _ _ (by simp only [okey]; omega)
    refine ⟨_, rfl, (onlyChanges_of_exec (c := .releaseCapacityDone n) (s := s) rfl).mono (by simp [touches]), ?_, ?_⟩
    · simp only [hrelease, hdone, Bool.false_eq_true, if_false, State.msix_setting]
      exact State.setting_setSetting_same s (0x4000 + n) 6 len
    · simp only [hrelease, hdone, Bool.false_eq_true, if_false, State.modSess_setting, hother 3 (by decide), hother 4 (by decide)]
      exact State.mem_out_msix _ _ _ (by simp [State.emit])
  case response =>
    intro s p ld n hthere hopen
    have hfind : (s.dcSessions p ld).find? (fun n => (s.sess n).state == 2) = some n := by rw [← List.head?_filter, hopen]; rfl
    have hwhole : ((s.dcSessions p ld).filter fun n => (s.sess n).state == 2).find? (fun m =>
        [(s.setting (0x4000 + n) 5 + (s.sess n).acc, s.setting (0x4000 + n) 6 - (s.sess n).acc)] ==
          [(s.setting (0x4000 + m) 5 + (s.sess m).acc, s.setting (0x4000 + m) 6 - (s.sess m).acc)]) = some n := by
      rw [hopen]
      exact List.find?_cons_of_pos (BEq.rfl)
    constructor
    · simp only [exec, execAddDynamicCapacityResponse, State.onMbox_of_there hthere, if_true, hopen, List.head?_cons]
    · simp only [exec, execAddDynamicCapacityResponse, State.onMbox_of_there hthere, hwhole, reduceCtorEq, if_false]
  case tail =>
    intro s p ld n start len hthere hone hstate hnone hlo hpos hmod hend
    simp [exec, execReleaseDynamicCapacity, hthere, hone, hstate, hnone, hlo, hpos, hmod, hend]

end Sys2Proof.Machine

/-! SUPPORT. The mailbox: what reads answer, what sets keep, the FM API, and poison by command. -/

namespace Sys2Proof.Machine

open Laws Claims

/-! ### Commands that read (R91, R117) -/

/-- Settles O28. The standard's fields, the return codes and the 15 records of one read are the model's choice in log entries 50, 49 and 70. -/
theorem mailboxReadsAnswer : Obligations.MailboxReadsAnswer := by
  unfold Obligations.MailboxReadsAnswer
  intro s p ld hthere
  refine ⟨?identify, ?records, ?policy, ?fw, ?time, ?logs, ?log, ?device, ?partition, ?health, ?alert, ?shutdown, ?config, ?extents⟩
  case identify => simp only [exec, execIdentify, State.onMbox_of_there hthere]
  case records =>
    intro log hlog
    simp only [exec, execGetEventRecords, State.onMbox_of_there hthere, if_neg (Nat.not_lt.mpr hlog), mboxRecords]
  case policy => simp only [exec, execGetEventInterruptPolicy, State.onMbox_of_there hthere]
  case fw => simp only [exec, execGetFwInfo, State.onMbox_of_there hthere]
  case time => simp only [exec, execGetTimestamp, State.onMbox_of_there hthere]
  case logs => simp only [exec, execGetSupportedLogs, State.onMbox_of_there hthere, celBytes]
  case log =>
    intro off len hin
    exact ⟨rfl, by simp only [exec, execGetLog, State.onMbox_of_there hthere, celBytes, if_neg (Nat.not_lt.mpr hin)]⟩
  case device => simp only [exec, execIdentifyMemoryDevice, State.onMbox_of_there hthere]
  case partition => simp only [exec, execGetPartitionInfo, State.onMbox_of_there hthere]
  case health => simp only [exec, execGetHealthInfo, State.onMbox_of_there hthere]
  case alert => simp only [exec, execGetAlertConfiguration, State.onMbox_of_there hthere]
  case shutdown => simp only [exec, execGetShutdownState, State.onMbox_of_there hthere]
  case config => simp only [exec, execGetDynamicCapacityConfiguration, State.onMbox_of_there hthere]
  case extents => simp only [exec, execGetDynamicCapacityExtentList, State.onMbox_of_there hthere]

/-! ### Commands that set, the FM API, and vector masks (R91, R117, R151) -/

/-- Settles O29. -/
theorem mailboxSetsAndFmApi : Obligations.MailboxSetsAndFmApi := by
  unfold Obligations.MailboxSetsAndFmApi
  refine ⟨?sets, ?fm, ?vectors⟩
  case sets =>
    intro s p ld hthere
    refine ⟨?clear, ?policy, ?time, ?alert, ?shutdown, ?unknown⟩
    case clear =>
      intro log handles hlog
      simp only [exec, execClearEventRecords, State.onMbox_of_there hthere, if_neg (Nat.not_lt.mpr hlog), if_true]
    case policy =>
      intro policy hbytes hshort
      have hall : (List.range 5).all (fun i => decide (policy / 256 ^ i % 256 ≤ 1)) = true :=
        List.all_eq_true.mpr fun i hi => decide_eq_true (hbytes i (List.mem_range.mp hi))
      simp only [exec, execSetEventInterruptPolicy, State.onMbox_of_there hthere, hall, hshort, and_self, if_true]
    case time => exact fun time => by simp only [exec, execSetTimestamp, State.onMbox_of_there hthere]
    case alert => exact fun cfg => by simp only [exec, execSetAlertConfiguration, State.onMbox_of_there hthere]
    case shutdown => exact fun v => by simp only [exec, execSetShutdownState, State.onMbox_of_there hthere]
    case unknown => exact fun opcode => by simp only [exec, execMailboxUnsupported, State.onMbox_of_there hthere]
  case fm =>
    intro s p hlink
    refine ⟨?info, ?allocations, ?set⟩
    case info => exact ⟨_, by simp only [exec, execGetLdInfo, hlink, if_true], onlyChanges_emit .., rfl⟩
    case allocations => exact ⟨_, by simp only [exec, execGetLdAllocations, hlink, if_true], onlyChanges_emit .., rfl⟩
    case set => exact fun opcode => ⟨_, by simp only [exec, execSetLdAllocations, hlink, if_true], onlyChanges_emit .., rfl⟩
  case vectors =>
    intro s p ld v
    refine ⟨⟨_, rfl, onlyChanges_modHost .., congrArg LDev.vecMask (State.ldev_modLdev_same ..)⟩, ⟨_, rfl, ?_, ?_⟩⟩
    · exact (onlyChanges_of_exec (c := .msixVectorMaskWrite p ld v false) (s := s) rfl).mono (by simp [touches])
    · have hldev : ∀ f, (s.modLdev p ld f).ldev p ld = f (s.ldev p ld) := fun f => State.ldev_modLdev_same ..
      simp only [Bool.false_eq_true, if_false]
      split
      · exact ⟨congrArg LDev.vecMask (hldev _), congrArg LDev.vecPend (hldev _), rfl⟩
      · exact ⟨congrArg LDev.vecMask (hldev _), congrArg LDev.vecPend (hldev _), (List.append_nil _).symm⟩

/-! ### Poison (R111, R418, R419, R542) -/

theorem mem_insertBy {x y : Nat × Nat × Nat} {l : List (Nat × Nat × Nat)} (h : y ∈ insertBy x l) : y = x ∨ y ∈ l := by
  induction l with
  | nil => exact .inl (List.mem_singleton.mp h)
  | cons z l ih =>
    rw [insertBy] at h
    split at h
    · exact List.mem_cons.mp h
    · rcases List.mem_cons.mp h with rfl | h
      · exact .inr List.mem_cons_self
      · exact (ih h).imp_right (List.mem_cons_of_mem _)

/-- Sorting entries into a list adds none. -/
theorem mem_foldl_insertBy {y : Nat × Nat × Nat} {l acc : List (Nat × Nat × Nat)} (h : y ∈ l.foldl (fun l e => insertBy e l) acc) : y ∈ l ∨ y ∈ acc := by
  induction l generalizing acc with
  | nil => exact .inr h
  | cons e l ih =>
    rcases ih h with h | h
    · exact .inl (List.mem_cons_of_mem _ h)
    · rcases mem_insertBy h with rfl | h
      · exact .inl List.mem_cons_self
      · exact .inr h

/-- The poison list of a logical device inside a range (R419): the entries of this vault and of the others, at their device addresses, in order. -/
def State.poisonListIn (s : State) (p ld start len : Nat) (others : List (Nat × Nat × Nat)) : List (Nat × Nat × Nat) :=
  ((((if s.serves then s.ownPoison else []) ++ others).filterMap (fun e => (s.dpaIn p ld e.1).map (fun d => (d, e.2.1, e.2.2)))).filter
    (fun e => decide (start ≤ e.1 ∧ e.1 < start + len))).foldl (fun l e => insertBy e l) []

theorem State.mem_poisonListIn {s : State} {p ld start len : Nat} {others : List (Nat × Nat × Nat)} {e : Nat × Nat × Nat}
    (h : e ∈ s.poisonListIn p ld start len others) : start ≤ e.1 ∧ e.1 < start + len := by
  rcases mem_foldl_insertBy h with h | h
  · exact of_decide_eq_true (List.mem_filter.mp h).2
  · exact absurd h List.not_mem_nil

/-- A full-line write by command arrives where the session that maps its line grants it. -/
theorem State.mboxWrite_of_grants {s : State} {p ld dpa n : Nat} (hthere : s.ldThere p ld = true) (hsess : s.sessAt p ld (dpa / 64 * 64) = some n)
    (hgrant : s.sessGrants n true = true) (opcode : Nat) (line : Line) (poison : Bool) :
    s.mboxWrite p ld opcode dpa line poison = s.arriveWrite
      { num := 0, write := true, port := p, host := ld, tag := 0, sess := 0xFFFF, key := 0, off := dpa / 64 * 64, line := line, poison := poison,
        mailbox := some (p, ld, opcode) } := by
  have hbound : ¬ ((s.sess n).state = 3 ∧ 2 ≤ s.setting (0x4000 + n) 9) := fun h => by
    simp [State.sessGrants, h.1] at hgrant
  simp only [State.mboxWrite, hthere, Bool.not_true, Bool.false_eq_true, if_false, hsess, if_neg hbound, hgrant, if_true]

/-- Settles O30. -/
theorem poisonByCommand : Obligations.PoisonByCommand := by
  unfold Obligations.PoisonByCommand
  refine ⟨?list, ?inject, ?clear, ?unbinding, ?again, ?applied⟩
  case list =>
    intro s p ld start len others overflow hthere
    exact ⟨s.poisonListIn p ld start len others, by simp only [exec, execGetPoisonList, State.onMbox_of_there hthere]; rfl, fun e he => State.mem_poisonListIn he⟩
  case inject =>
    intro s p ld dpa n hflag hthere hsess hgrant
    simp only [exec, execInjectPoison, done, hflag, if_true, State.mboxWrite_of_grants hthere hsess hgrant]
  case clear =>
    intro s p ld dpa n line hthere hsess hgrant
    simp only [exec, execClearPoison, State.mboxWrite_of_grants hthere hsess hgrant]
  case unbinding =>
    intro s p ld dpa n line hthere hsess hstate hmode
    simp [exec, execClearPoison, State.mboxWrite, hthere, hsess, hstate, hmode]
  case again =>
    intro s num p ld opcode e hreq hmail hout
    simp [exec, execPoisonCommandAnswer, hreq, hmail, hout]
  case applied =>
    intro s num p ld opcode e hreq hmail hout
    simp [exec, execPoisonCommandAnswer, hreq, hmail, hout]

end Sys2Proof.Machine

/-! SUPPORT. Work rings: doorbells, registration and fetch, the start of the fourteen opcodes, and what moves their descriptors on. -/

namespace Sys2Proof.Machine

open Laws Claims

section Rings
variable {s : State} {n : Nat}

theorem State.ring_modRing_same (s : State) (n : Nat) (f : Ring → Ring) : (s.modRing n f).ring n = f (s.ring n) := getD_modD_same ..

/-- A ring whose doorbell has been written goes on while its descriptors fit (R132), and halts when they do not. -/
theorem State.rung_of_fits (hfits : ((s.ring n).tail + 2 ^ 32 - (s.ring n).head) % 2 ^ 32 ≤ (s.ring n).dents) :
    s.rung n = s.ringStep n := by
  simp only [State.rung, Nat.not_lt.mpr hfits, if_false]

theorem State.rung_of_over (hover : (s.ring n).dents < ((s.ring n).tail + 2 ^ 32 - (s.ring n).head) % 2 ^ 32) :
    s.rung n = s.haltRing n St.badRange := by
  simp only [State.rung, hover, if_true]

end Rings

/-! ### Doorbells, registration and fetch (R127 to R134, R152, R153) -/

/-- A block that is right registers a ring that is free, for a requester above host level or one that is a logical device. -/
theorem State.registerRing_of_free {s : State} {rq : Req} {block : Bytes} (hgood : s.blockBad block (s.blockRing rq block) = false)
    (hfree : (s.ring (field block 0 2)).state = 0) (hreach : s.level rq ≠ 0 ∨ (s.host.mode ≠ 1 ∧ reqLd rq ≠ none)) :
    s.registerRing rq block = ((s.modRings (fun x => { x with
      rings := insertKey (field block 0 2) (s.blockRing rq block) x.rings })).publish (field block 0 2), St.ok) := by
  have hown : ¬ (s.level rq = 0 ∧ (s.host.mode = 1 ∨ reqLd rq = none ∨ ((s.ring (field block 0 2)).state ≠ 0 ∧
      ((s.ring (field block 0 2)).port ≠ (s.blockRing rq block).port ∨ (s.ring (field block 0 2)).host ≠ (s.blockRing rq block).host)))) := by
    rintro ⟨hlevel, hmode | hld | ⟨hold, -⟩⟩
    · exact hreach.elim (· hlevel) (·.1 hmode)
    · exact hreach.elim (· hlevel) (·.2 hld)
    · exact hold hfree
  unfold State.registerRing
  dsimp only
  rw [if_neg (Bool.eq_false_iff.mp hgood), if_neg hown, if_neg (not_not_intro hfree)]

/-- Settles O31. -/
theorem ringDoorbellsAndFetch : Obligations.RingDoorbellsAndFetch := by
  unfold Obligations.RingDoorbellsAndFetch
  refine ⟨?tail, ?ahead, ?stray, ?head, ?restart, ?line, ?register, ?unregister, ?restartWrite, ?fetch, ?bad⟩
  case tail =>
    intro s p ld n tail h hown hfits
    simp only [exec, execDoorbellTailWrite, hown, Bool.not_true, Bool.false_eq_true, if_false, if_true, State.setTail]
    rw [State.rung_of_fits (by rw [State.ring_modRing_same]; exact hfits)]
  case ahead =>
    intro s p ld n tail h hown hover
    simp only [exec, execDoorbellTailWrite, hown, Bool.not_true, Bool.false_eq_true, if_false, if_true, State.setTail]
    rw [State.rung_of_over (by rw [State.ring_modRing_same]; exact hover)]
  case stray =>
    intro s p ld n tail size h hown
    simp only [exec, execDoorbellTailWrite, hown, Bool.not_false, if_true, State.strayBell]
  case head =>
    intro s p ld n chead hown hfits
    simp only [exec, execCompletionHeadWrite, hown, Bool.not_true, Bool.false_eq_true, if_false, if_true, State.setHead]
    rw [State.rung_of_fits (by rw [State.ring_modRing_same]; exact hfits)]
  case restart =>
    intro s p ld n hown hhalted
    simp only [exec, execDoorbellRestart, hown, if_true, State.restartRing, hhalted]
  case line =>
    intro s pbr hpa n line be r hfind
    simp only [exec, execDoorbellLineWrite, hfind]
  case register =>
    intro s rq tag block hwrite hgood hfree hreach
    have hact := State.writeObj_of_mayWrite hwrite tag (fun s => s.registerRing rq block)
    rw [State.registerRing_of_free hgood hfree (hreach.imp_right fun h => ⟨by rw [State.touch_host]; exact h.1, h.2⟩)] at hact
    exact congrArg Host.Outcome.next hact
  case unregister =>
    intro s rq tag n hput hreach
    simp only [exec, execRingUnregister, State.writeNum_of_mayPut tag _ hput, hreach, if_true]
  case restartWrite =>
    intro s rq tag n hput hreach
    simp only [exec, execRingRestart, State.writeNum_of_mayPut tag _ hput, hreach, if_true]
  case fetch =>
    intro s n bytes hrun hmem hfetch hcrc
    simp [exec, execDescriptorFetch, hmem, State.fetchedDesc, hrun, hfetch, hcrc]
  case bad =>
    intro s n bytes poisoned hrun hmem hfetch hbad
    have hbad' : (poisoned || crc32cOf (bytes.take 60) != field bytes 60 4) = true := by
      rcases hbad with h | h <;> simp [h]
    simp [exec, execDescriptorFetch, hmem, State.fetchedDesc, hrun, hfetch, hbad', tagOnly]

/-! ### The opcodes start (R139 to R144, R434, R440) -/

/-- The front descriptor whose turn has come is taken, and its opcode acts. -/
theorem State.startOp_of_turn {s : State} {n op : Nat} {d : Desc} {rest : List Desc} (h : TurnOf s n op d rest) (f : State → Desc → State) :
    s.startOp n op f = (f (taken s n rest) d).ringStep n := by
  obtain ⟨hfront, hstart, hpasses, hop⟩ := h
  simp only [State.startOp, hfront, hstart, hpasses, hop, Bool.not_true, Bool.false_eq_true, if_false, ne_eq, not_true_eq_false, taken]

/-- The opcodes that start a flight, and nothing else, as their turn comes. -/
theorem exec_of_flight (s : State) (n : Nat) : ∀ x ∈ [(1, Instr.copy n), (2, .fill n), (3, .importRange n), (4, .exportRange n), (5, .persist n), (6, .place n),
    (8, .compare n), (9, .crc32c n)], exec x.2 s = .next (s.startOp n x.1 fun s d => s.startFlight n d) := by
  simp only [List.forall_mem_cons, List.not_mem_nil, false_imp_iff, implies_true, and_true]
  exact ⟨rfl, rfl, rfl, rfl, rfl, rfl, rfl, rfl⟩

theorem exec_of_cipher (s : State) (n : Nat) : ∀ x ∈ [(10, Instr.encrypt n), (11, .decrypt n)], exec x.2 s = .next (s.startCipher n x.1) := by
  simp only [List.forall_mem_cons, List.not_mem_nil, false_imp_iff, implies_true, and_true]
  exact ⟨rfl, rfl⟩

/-- Settles O32. -/
theorem opcodesStart : Obligations.OpcodesStart := by
  unfold Obligations.OpcodesStart
  refine ⟨?flights, ?atomic, ?cipher, ?point, ?fence, ?nop⟩
  case flights =>
    intro s n op d rest c hop hturn
    rw [exec_of_flight s n _ hop, State.startOp_of_turn hturn]
  case atomic =>
    intro s n d rest hturn
    simp only [exec, execAtomic, State.startOp_of_turn hturn]
  case cipher =>
    intro s n op d rest c k hop hturn hkey hqueue hroom hctx hnew
    obtain ⟨hfront, hstart, hpasses, hcode⟩ := hturn
    rw [exec_of_cipher s n _ hop]
    simp [State.startCipher, hfront, hstart, hpasses, hcode, hkey, hqueue, hroom, hctx, hnew, taken]
  case point =>
    intro s n d rest hturn
    simp only [exec, execPersistPoint, State.startOp_of_turn hturn]
  case fence =>
    intro s n d rest hturn
    simp only [exec, execFence, State.startOp_of_turn hturn, taken, State.ring_modRing_same]
  case nop =>
    intro s n d rest hturn
    simp only [exec, execNop, State.startOp_of_turn hturn]

/-! ### Progress (R126, R138, R146, R149, R151, R154) -/

/-- Settles O33. That a failure with no read out is the fetch's is the model's choice in log entry 117. -/
theorem ringProgress : Obligations.RingProgress := by
  unfold Obligations.RingProgress
  refine ⟨?piece, ?timer, ?hold, ?import_, ?batchTimeout, ?batchAborted, ?fetchTimeout, ?fetchAborted, ?off, ?on⟩
  case piece =>
    intro s n idx off i f w hf hi hw hdone hkind hoff
    simp [exec, execPieceComplete, State.pieceEnds, hf, hi, hw, hdone, hkind, hoff]
  case timer =>
    intro s n hreg hmod hunsig hlong
    simp [exec, execModerationTimer, hreg, hmod, hunsig, State.elapsed, hlong]
  case hold =>
    rintro s n idx off l rfl ⟨h, hh, hlate⟩
    obtain ⟨hwait, hline⟩ := List.mem_filter.mp hh
    have hheld : s.heldOf n idx off ≠ [] := List.ne_nil_of_mem (List.mem_filter.mpr ⟨hwait, by rw [hline]; exact decide_eq_true hlate⟩)
    simp only [exec, execRingHoldLimit, State.throttlePiece, if_neg hheld]
  case import_ =>
    intro s n idx off i bytes f w hf hbus hi hw hop hread hoff hlen
    have hfits : ¬ (off ≠ w.off + w.bytes.length ∨ w.len < w.bytes.length + bytes.length) := by omega
    have hwork : f.work.bind s.workOf = some w := by rw [hi]; exact hw
    have hflight : s.busFlight n idx = some f := by
      simp only [State.busFlight, hf, hbus, Bool.false_eq_true, if_false, hwork, hop, hread, and_self, if_true]
    simp only [exec, execBusMasterReadCompletion, hflight, if_true, State.busData, hbus, Bool.false_eq_true, if_false, hwork, if_neg hfits]
  case batchTimeout =>
    intro s n idx f hf hbus
    simp [exec, execBusMasterCompletionTimeout, State.busFlight, hf, hbus, State.busFailed]
  case batchAborted =>
    intro s n idx off status bytes poison f hf hbus hstatus
    simp [exec, execBusMasterReadCompletion, State.busFlight, hf, hbus, State.busFailed, hstatus]
  case fetchTimeout =>
    intro s n idx hnone hfetch
    simp [exec, execBusMasterCompletionTimeout, hnone, State.ringFailed, hfetch]
  case fetchAborted =>
    intro s n idx off status bytes poison hnone hfetch hstatus
    simp [exec, execBusMasterReadCompletion, hnone, State.ringFailed, hfetch, hstatus]
  case off => exact fun s p ld => rfl
  case on => exact fun s p ld => rfl

end Sys2Proof.Machine

/-! SUPPORT. Placement: what time does to it, its frames, and its fourteen messages. -/

namespace Sys2Proof.Machine

open Laws Claims

/-! ### Timers (R163 to R168, R175, R177, R182, R188) -/

/-- Whether a device serves its vault follows from its role alone. -/
theorem State.serves_of_twin {s t : State} (h : t.twin = s.twin) : t.serves = s.serves := by simp only [State.serves, h]

theorem onlyChanges_modPlace (s : State) (f : Place → Place) : OnlyChanges [.place] s (s.modPlace f) :=
  onlyChanges_of_frParts (fr_modPlace (by exact rfl) fr_refl f)

/-- Settles O34. That the census goes out at each end of an epoch is the model's choice in log entry 96. -/
theorem placementTimersAct : Obligations.PlacementTimersAct := by
  unfold Obligations.PlacementTimersAct
  refine ⟨?epochIdle, ?epoch, ?lease, ?freeze, ?tomb, ?flush, ?copyLease, ?guard, ?renew⟩
  case epochIdle =>
    intro s hlate hidle
    have hserves : ∀ f, (s.modPlace f).serves = false := fun f => (State.serves_of_twin rfl).trans hidle
    simp only [exec, execEpochEnd, done, Nat.not_le.mpr hlate, if_false, hserves, Bool.false_eq_true, State.modPlace_modPlace]
    rfl
  case epoch =>
    intro s hlate hserves
    have hfirst : ∀ f, (s.modPlace f).serves = true := fun f => (State.serves_of_twin rfl).trans hserves
    have hsecond : ∀ f g, ((s.modPlace f).decayAll.modPlace g).serves = true := fun f g =>
      (State.serves_of_twin ((fr_decayAll (s := s.modPlace f) in_self fr_refl).2.2.2.2 .twin rfl)).trans hserves
    have hsetting : ∀ f idx sub, (s.modPlace f).decayAll.setting idx sub = s.setting idx sub := fun f idx sub => by
      rw [State.decayAll, State.count_setting]
      rfl
    simp only [exec, execEpochEnd, done, Nat.not_le.mpr hlate, if_false, hfirst, if_true, hsecond, hsetting]
  case lease =>
    intro s key hown hstate hlong haway
    have haway : ∀ f, (s.dirEnt key).home ≠ (s.modDir key f).vault := fun _ => by rwa [State.vault, State.modDir_pool, ← State.vault]
    simp only [exec, execMoveLeaseExpiry, hown, hstate, State.elapsed, decide_eq_true hlong, BEq.rfl, Bool.and_self, Bool.not_true, Bool.false_eq_true, if_false, haway]
  case freeze =>
    intro s key m hserves hmig hphase hlong
    simp only [exec, execFreezeLimitExpiry, hserves, Bool.not_true, Bool.false_eq_true, if_false, hmig, hphase, State.elapsed, decide_eq_true hlong, and_self, if_true]
  case tomb =>
    intro s key x hx hkey hacked hexpired
    have hany : s.place.tombs.any (fun t => t.key == key && t.acked && decide (t.expires ≤ s.now)) = true :=
      List.any_eq_true.mpr ⟨x, hx, by simp [hkey, hacked, hexpired]⟩
    simp only [exec, execTombstoneExpiry, hany, if_true, State.dropTomb]
  case flush =>
    intro s rq tag hput
    simp only [exec, execTranslationCacheFlush, State.writeNum_of_mayPut tag _ hput]
  case copyLease => exact fun s slot => ⟨_, rfl, onlyChanges_modPlace .., rfl⟩
  case guard =>
    intro s key vault c hfind hphase hwaits hlong
    have hdue : ¬ ((s.place.invals.filter (fun i => i.key == key && i.vault == vault) = [] ∧ (!c.dropping) = true) ∨
        s.poolTime < c.lease + s.setting 0x3220 0x0B) := by
      rintro (⟨hnone, hstay⟩ | hearly)
      · rcases hwaits with hdrop | ⟨i, hi, hkey, hvault⟩
        · simp [hdrop] at hstay
        · exact List.ne_nil_of_mem (List.mem_filter.mpr ⟨hi, by simp [hkey, hvault]⟩) hnone
      · exact absurd hearly (Nat.not_lt.mpr hlong)
    simp only [exec, execCopyLeaseGuardExpiry, hfind, if_neg hdue, if_neg (Nat.not_lt.mpr hphase)]
  case renew =>
    intro s hserves
    simp only [exec, execCopyLeaseRenewTimer, hserves, Bool.not_true, Bool.false_eq_true, if_false]

/-! ### Frames (R174, R180, R181, R186 to R188) -/

/-- Settles O35. That a chunk for a slot outside the vault is a fault is the model's choice in log entry 93. -/
theorem placementFramesAct : Obligations.PlacementFramesAct := by
  unfold Obligations.PlacementFramesAct
  refine ⟨?home, ?waits, ?chunk, ?copy, ?outside, ?ack, ?inval, ?invalAck⟩
  case home =>
    intro s u v h q w home slot gen hgot hown hready hlook
    simp only [exec, execLookup, State.onFrame_of_got hgot, hown, if_true, State.serveLookup, hready, Bool.false_eq_true, if_false, hlook]
  case waits =>
    intro s u h q w hgot hown hwait
    simp only [exec, execLookup, State.onFrame_of_got hgot, hown, if_true, State.serveLookup, hwait]
  case chunk =>
    intro s u h c ls hgot hserves hin hkind hmig
    have hgot : s.rx h (.chunk c ls []) false = (u, true) := hgot
    simp only [exec, execChunk, hgot, hserves, Bool.not_true, Bool.or_self, Bool.false_eq_true, if_false, Nat.not_le.mpr hin, hkind, if_true, hmig, State.length_clear, done]
  case copy =>
    intro s u h c ls hgot hserves hin hkind hcopy
    have hgot : s.rx h (.chunk c ls []) false = (u, true) := hgot
    simp only [exec, execChunk, hgot, hserves, Bool.not_true, Bool.or_self, Bool.false_eq_true, if_false, Nat.not_le.mpr hin, hkind, hcopy, if_true, State.length_clear, done]
  case outside =>
    intro s u h c ls hgot hserves hout
    have hgot : s.rx h (.chunk c ls []) false = (u, true) := hgot
    simp only [exec, execChunk, hgot, hserves, Bool.not_true, Bool.or_self, Bool.false_eq_true, if_false, hout, if_true]
  case ack =>
    intro s u h c hgot hserves hkind
    simp only [exec, execChunkAck, State.onFrame_of_got hgot, hserves, Bool.not_true, Bool.false_eq_true, if_false, hkind, if_true]
  case inval =>
    intro s u h key slot line count token hgot
    simp only [exec, execInval, State.onFrame_of_got hgot]
  case invalAck =>
    intro s u h token hgot
    simp only [exec, execInvalAck, State.onFrame_of_got hgot]

/-! ### Messages (R169, R174, R177 to R190, R297) -/

/-- Settles O36. -/
theorem placementMessagesAct : Obligations.PlacementMessagesAct := by
  unfold Obligations.PlacementMessagesAct
  refine ⟨?move, ?unknown, ?answer, ?reserve, ?reserved, ?refused, ?commit, ?acked, ?abort, ?grant, ?register, ?lease, ?lost, ?drop, ?heat, ?arrival, ?query⟩
  case move =>
    intro s u v h m st gen hgot hown hmove
    simp only [exec, execMoveRequest, State.onPlace_of_gotPlace hgot, hown, if_true, hmove]
  case unknown =>
    intro s u h m hgot hown hnotomb hnomig
    simp only [exec, execMoveRequest, State.onPlace_of_gotPlace hgot, hown, Bool.false_eq_true, if_false, hnotomb, hnomig, Option.isSome_none]
  case answer =>
    intro s u h m hgot
    simp only [exec, execMoveAnswer, State.onPlace_of_gotPlace hgot]
  case reserve =>
    intro s u v h m st slot hgot hslot hdest
    simp only [exec, execReserveRequest, State.onPlace_of_gotPlace hgot, hslot, and_false, if_false, hdest]
  case reserved =>
    intro s u h m x hgot hfind hok
    simp only [exec, execReserveAnswer, State.onPlace_of_gotPlace hgot, hfind, hok, if_true]
  case refused =>
    intro s u h m x hgot hfind hbad
    simp only [exec, execReserveAnswer, State.onPlace_of_gotPlace hgot, hfind, hbad, if_false]
  case commit =>
    intro s u h m hgot hnone hown hstill
    simp only [exec, execPlacementCommit, State.onPlace_of_gotPlace hgot, hnone, List.find?_nil, hown, if_true, hstill, or_true]
  case acked =>
    intro s u h m x hgot hmig
    simp only [exec, execCommitAcknowledgement, State.onPlace_of_gotPlace hgot, hmig]
  case abort =>
    intro s u h m hgot hnoin hnocopy hslot hown hhome
    simp only [exec, execPlacementAbort, State.onPlace_of_gotPlace hgot, hnoin, hnocopy, List.find?_nil, hslot, false_and, if_false, hown, hhome, BEq.rfl,
      Bool.and_self, if_true]
  case grant =>
    intro s u v h m st hgot hown hhome hcopy
    simp only [exec, execCopyGrant, State.onPlace_of_gotPlace hgot, hown, ← hhome, and_self, if_true, hcopy]
  case register =>
    intro s u h m hgot hown hvault
    simp only [exec, execCopyRegister, State.onPlace_of_gotPlace hgot, hown, Bool.false_eq_true, if_false, hvault, if_true]
  case lease =>
    intro s u h m hgot hheld
    simp only [exec, execLeaseRenewal, State.onPlace_of_gotPlace hgot, hheld, if_true]
  case lost =>
    intro s u h m hgot hlost
    simp only [exec, execLeaseRenewal, State.onPlace_of_gotPlace hgot, hlost, Bool.false_eq_true, if_false]
  case drop =>
    intro s u h m hgot hstatus hall
    simp only [exec, execCopyDropNotice, State.onPlace_of_gotPlace hgot, hstatus, if_false, hall, if_true]
  case heat =>
    intro s u h m hgot
    simp only [exec, execHeatReport, State.onPlace_of_gotPlace hgot]
  case arrival =>
    intro s u h m hgot hown
    simp only [exec, execArrivalReport, State.onPlace_of_gotPlace hgot, hown, Bool.false_and, Bool.false_eq_true, if_false]
  case query =>
    intro s u h m slot hgot hkey hvault hhome
    simp only [exec, execRebuildQuery, State.onPlace_of_gotPlace hgot, Nat.not_le.mpr hkey, if_false, hvault, if_true, hhome]

end Sys2Proof.Machine

/-! SUPPORT. Persistence: the mirror stream and home writes, home drives, the flush, the restore and persist points. -/

namespace Sys2Proof.Machine

open Laws Claims

/-! ### The mirror stream and home writes (R206 to R210, R222, R298, R299) -/

/-- Settles O37. That a MIRROR run outside the vault is a fault is the model's choice in log entry 93. -/
theorem mirrorAndHomeWritesAct : Obligations.MirrorAndHomeWritesAct := by
  unfold Obligations.MirrorAndHomeWritesAct
  refine ⟨?mirror, ?outside, ?clean, ?ack, ?visit, ?fresh, ?complete⟩
  case mirror =>
    intro s u h stream runs hgot hrole hin
    have hgot : s.rx h (.mirror stream runs) false = (u, true) := hgot
    have hstandby : (u.twin.state == 4 || u.twin.state == 5) = true := by rcases hrole with h | h <;> simp [h]
    have hnone : runs.any (fun r => decide (u.extents ≤ r.slot)) = false := by simpa [List.any_eq_false] using hin
    simp only [exec, execMirror, hgot, hstandby, Bool.not_true, Bool.or_self, Bool.false_eq_true, if_false, hnone, State.modPersist_persist]
  case outside =>
    intro s u h stream runs r hgot hrole hr hout
    have hgot : s.rx h (.mirror stream runs) false = (u, true) := hgot
    have hstandby : (u.twin.state == 4 || u.twin.state == 5) = true := by rcases hrole with h | h <;> simp [h]
    have hany : runs.any (fun r => decide (u.extents ≤ r.slot)) = true := List.any_eq_true.mpr ⟨r, hr, decide_eq_true hout⟩
    simp only [exec, execMirror, hgot, hstandby, Bool.not_true, Bool.or_self, Bool.false_eq_true, if_false, hany, if_true]
  case clean =>
    intro s u h stream entries hgot hrole
    simp only [exec, execClean, State.onFrame_of_got hgot, hrole, if_true]
  case ack =>
    intro s u h stream seq hgot hactive
    simp only [exec, execMirrorAck, State.onFrame_of_got hgot, hactive, if_true]
  case visit =>
    intro s slot g hserves hopen hdrives hdirty hidle hold hdone hsafe hdrive hroom
    have hkeep : (s.flag 0x3320 1 && s.persist.fresh.contains (slotGran slot g) && decide (s.dirtySet < s.ceiling * s.setting 0x3320 2 / 64)) = false := by
      rcases hold with h | h | h
      · simp [h]
      · simp [h]
      · simp [Nat.not_lt.mpr h]
    have hgoes : (!s.serves || s.persist.state != 2 || s.driveCount == 0 || !s.persist.dirty.contains (slotGran slot g) || s.homeBusy (slotGran slot g)) = false := by
      simp [hserves, hopen, hdrives, hdirty, hidle]
    have hmay : (s.isRestoring (slotGran slot g) || !s.granSafe (slotGran slot g) || !(s.drivesOf (slotGran slot g)).any s.driveUp ||
        !s.queueRoom (slotGran slot g)) = false := by
      simp only [hdone, hsafe, hdrive, hroom, Bool.not_true, Bool.or_self]
    simp only [exec, execWritebackVisit, hgoes, hkeep, hmay, Bool.false_eq_true, if_false]
  case fresh =>
    intro s slot g hserves hopen hdrives hdirty hidle hlazy hfresh hlow
    simp [exec, execWritebackVisit, hserves, hopen, hdrives, hdirty, hidle, hlazy, hfresh, hlow]
  case complete =>
    intro s id w hfind hopen
    simp only [exec, execHomeWriteComplete, hfind, hopen, Bool.false_eq_true, if_false]

/-! ### Home drives (R211, R219, R220, R248, R267) -/

theorem State.drive_modDrive_same (s : State) (d : Nat) (f : Drive → Drive) : (s.modDrive d f).drive d = f (s.drive d) := getD_modD_same ..

/-- Settles O38. -/
theorem homeDrivesAct : Obligations.HomeDrivesAct := by
  unfold Obligations.HomeDrivesAct
  refine ⟨?conflict, ?failed, ?timeout, ?out, ?insert, ?rejected, ?batch, ?up, ?down⟩
  case conflict =>
    intro s id d w hfind
    simp only [exec, execHomeWriteFailed, hfind, if_true, State.drive, State.modPersist_persist, State.count_persist]
  case failed =>
    intro s id d w hfind
    simp only [exec, execHomeWriteFailed, hfind, Bool.false_eq_true, if_false]
  case timeout =>
    intro s id d w hfind hlong
    simp only [exec, execDriveTimeout, hfind, State.elapsed, decide_eq_true hlong, if_true]
  case out =>
    intro s rq tag d hput hup
    simp only [exec, execDriveOutOfService, State.writeNum_of_mayPut tag _ hput, hup, if_true]
  case insert =>
    intro s u rq tag d i hput hdown hu hgood hempty hactive
    subst hu
    have hstill : ∀ f, (((s.touch rq).modDrive d fun x => { x with lbas := i.lbas, link := true }).modPersist f).isActive = true := fun _ => hactive
    simp only [exec, execDriveInsert, State.writeNum_of_mayPut tag _ hput, hdown, Bool.false_eq_true, if_false, hgood, hempty, hstill, ne_eq, not_true_eq_false,
      Bool.not_true, or_self]
    rfl
  case rejected =>
    intro s u rq tag d i hput hdown hu hbad
    subst hu
    simp only [exec, execDriveInsert, State.writeNum_of_mayPut tag _ hput, hdown, Bool.false_eq_true, if_false, hbad, ne_eq, not_false_eq_true, true_or, if_true]
  case batch =>
    rintro s d batch hrebuilding hserves hlow rfl
    simp only [exec, execRebuildBatch, hrebuilding, hserves, hlow, and_self, if_true] <;> rfl
  case up => exact fun s d reserved => rfl
  case down =>
    intro s d reserved hup
    have hstill : (s.modDrive d fun x => { x with link := false }).driveUp d = true := by
      rw [State.driveUp, State.drive_modDrive_same]
      exact hup
    simp only [exec, execNvmeLinkChange, hstill, Bool.not_false, Bool.and_self, if_true]

/-! ### The flush, the restore and persist points (R229, R231, R238 to R245, R500, R545) -/

section CountedReads
variable (s : State) (n k : Nat)

@[simp] theorem State.driveUp_count : (s.count n k).driveUp = s.driveUp := by
  funext d
  simp only [State.driveUp, State.drive, State.count_persist]
@[simp] theorem State.driveLba_count (g : Nat) : (s.count n k).driveLba g = s.driveLba g := by
  simp only [State.driveLba, State.paired, State.driveCount, State.count_setting]
  rfl

end CountedReads

/-- A drive that holds the granule of a restore, and may be read, is read again the first time (R219, R545). -/
theorem exec_restoreReadFailed_first {s : State} {slot g d : Nat} (hwaits : s.isRestoring (slotGran slot g) = true)
    (hholds : d ∈ s.drivesOf (s.homeGran (slotGran slot g))) (hup : s.driveUp d = true) (hfirst : s.persist.restoreTries.contains (slotGran slot g, d) = false) :
    exec (.restoreReadFailed slot g d) s = .next
      (((((((s.count (229 + 8 * d) 1).modPersist fun p => { p with restoreTries := p.restoreTries ++ [(slotGran slot g, d)] }).ask (20 + d / 4) 0x0E 6 8).emit
        (.drive d (.read (s.driveLba (s.homeGran (slotGran slot g)))))).count (224 + 8 * d) 1).count (225 + 8 * d) 1).count (227 + 8 * d) granuleBytes) := by
  have hholds : (s.drivesOf (s.homeGran (slotGran slot g))).contains d = true := List.contains_iff_mem.mpr hholds
  have hlba : ∀ f a, ((s.count (229 + 8 * d) 1).modPersist f).driveLba a = s.driveLba a := fun f a => s.driveLba_count ..
  simp only [exec, execRestoreReadFailed, hwaits, hholds, Bool.true_or, Bool.not_true, Bool.or_self, Bool.false_eq_true, if_false, State.driveUp_count, hup,
    State.count_persist, hfirst, Bool.not_false, and_self, if_true, hlba]

/-- A drive that fails a granule a second time leaves service (R219, R545). -/
theorem exec_restoreReadFailed_second {s u : State} {slot g d : Nat} (hwaits : s.isRestoring (slotGran slot g) = true)
    (hholds : d ∈ s.drivesOf (s.homeGran (slotGran slot g))) (hup : s.driveUp d = true) (htried : s.persist.restoreTries.contains (slotGran slot g, d) = true)
    (hu : (s.count (229 + 8 * d) 1).driveGone d 0 (s.driveLba (s.homeGran (slotGran slot g))) = u) :
    exec (.restoreReadFailed slot g d) s = .next (
      if (u.drivesOf (s.homeGran (slotGran slot g))).any u.driveUp then u.readHome (s.homeGran (slotGran slot g)) else u.homeLost slot (slotGran slot g)) := by
  have hholds : (s.drivesOf (s.homeGran (slotGran slot g))).contains d = true := List.contains_iff_mem.mpr hholds
  simp only [exec, execRestoreReadFailed, hwaits, hholds, Bool.true_or, Bool.not_true, Bool.or_self, Bool.false_eq_true, if_false, State.driveUp_count, hup,
    State.count_persist, htried, Bool.not_true, Bool.false_eq_true, and_false, if_false, if_true, State.driveLba_count, hu]

theorem onlyChanges_count (s : State) (n k : Nat) : OnlyChanges [.recorder] s (s.count n k) :=
  onlyChanges_of_frParts (fr_count (by exact rfl) fr_refl n k)

theorem onlyChanges_modPersist (s : State) (f : Persist → Persist) : OnlyChanges [.persist] s (s.modPersist f) :=
  onlyChanges_of_frParts (fr_modPersist (by exact rfl) fr_refl f)

theorem onlyChanges_ask (s : State) (r src cls units : Nat) : OnlyChanges [.lattice, .dram, .recorder] s (s.ask r src cls units) :=
  onlyChanges_of_frParts (fr_ask (by exact rfl) fr_refl r src cls units)

/-- The step of an operation that acts late changes neither the role nor what persists. -/
theorem onlyChanges_opLate (s : State) (o : LatchOp) : OnlyChanges [.pool, .recorder] s (s.opLate o) :=
  onlyChanges_of_frParts (fr_opLate (by exact rfl) fr_refl o)

/-- Whether a device is active follows from its role alone. -/
theorem State.isActive_of_twin {s t : State} (h : t.twin = s.twin) : t.isActive = s.isActive := by simp only [State.isActive, State.serves, h]

/-- Settles O39. The records of source 169 for the own vault and for the first that missed are the model's choice in log entry 122. -/
theorem flushRestoreAndPointsAct : Obligations.FlushRestoreAndPointsAct := by
  unfold Obligations.FlushRestoreAndPointsAct
  refine ⟨?snapshot, ?map, ?remapped, ?restored, ?again, ?other, ?lost, ?wait, ?period, ?timeout, ?point⟩
  case snapshot =>
    intro s hactive hnone hflush hsafe
    have hall : s.persist.writes.all (fun w => s.twinSafe w.seq || w.needHome) = true :=
      List.all_eq_true.mpr fun w hw => by simpa using hsafe w hw
    simp only [exec, execFlushSnapshot, hactive, hnone, hflush, hall, true_or, and_self, if_true]
  case map =>
    intro s m hout hfits
    simp [exec, execDirtyMapWritten, hout, hfits]
  case remapped =>
    intro s m inc ovf remapped hout hpos
    simp [exec, execDirtyMapWritten, hout, hpos]
  case restored =>
    intro s slot g bytes bad hkey hremote hwaits
    have hnone : s.persist.remoteReads.any (fun r => r.1 == slotGran slot g) = false := by simpa [List.any_eq_false] using hremote
    simp only [exec, execRestoreReadComplete, hkey, if_true, hnone, Bool.false_eq_true, if_false, hwaits]
  case again =>
    intro s slot g d hwaits hholds hup hfirst
    refine ⟨_, exec_restoreReadFailed_first hwaits hholds hup hfirst, ?_, by simp, by simp⟩
    have hcount : ∀ (u : State) n k, OnlyChanges [.out, .persist, .lattice, .dram, .recorder] u (u.count n k) := fun u n k =>
      (onlyChanges_count u n k).mono (by simp)
    exact ((((((hcount ..).trans ((onlyChanges_modPersist ..).mono (by simp))).trans ((onlyChanges_ask ..).mono (by simp))).trans
      ((onlyChanges_emit ..).mono (by simp))).trans (hcount ..)).trans (hcount ..)).trans (hcount ..)
  case other =>
    intro s u slot g d hwaits hholds hup htried hu hany
    rw [exec_restoreReadFailed_second hwaits hholds hup htried hu.symm, if_pos hany]
  case lost =>
    intro s u slot g d hwaits hholds hup htried hu hnone
    rw [exec_restoreReadFailed_second hwaits hholds hup htried hu.symm, if_neg (Bool.eq_false_iff.mp hnone)]
  case wait =>
    rintro s u slot g t hwait hlong rfl hany
    simp only [exec, execRestoreSourceWaitExpiry, hwait, State.elapsed, decide_eq_true hlong, if_true, hany]
  case period =>
    intro s hroot hpos hmult
    simp only [exec, execPointPeriod, hroot, hpos, hmult, and_self, if_true]
  case timeout =>
    intro s o n hfind hact hroot hlate
    refine ⟨_, _, rfl, rfl, ?_⟩
    simp only [exec, execPointTimeout]
    split
    next o' ho' =>
      obtain rfl : o' = o := Option.some.inj (ho'.symm.trans hfind)
      simp only [hroot, hlate, and_self, if_true, hact]
      rfl
    next hnone => exact absurd (hnone.symm.trans hfind) (Option.some_ne_none _).symm
  case point =>
    intro s o n hdue hact hnone hidle
    have hpersist : (s.opLate o).persist = s.persist := (onlyChanges_opLate s o).2.2 .persist (by simp)
    have hstandby : ∀ f, (((s.opLate o).modPersist f).count 423 1).isActive = false := fun f =>
      (State.isActive_of_twin (by rw [State.count_twin]; exact (onlyChanges_opLate s o).2.2 .twin (by simp))).trans hidle
    simp only [exec, execPoolPersistPoint]
    split
    next hnever => exact absurd (hnever.symm.trans hdue) (Option.some_ne_none _).symm
    next o' ho' =>
      obtain rfl : o' = o := Option.some.inj (ho'.symm.trans hdue)
      simp only [hnone, Option.isSome_none, Bool.false_eq_true, if_false, hact, hstandby, Bool.not_false, if_true]

end Sys2Proof.Machine

/-! SUPPORT. The twin: signs of life, the fence, claims and handover, and resynchronisation. -/

namespace Sys2Proof.Machine

open Laws Claims

theorem onlyChanges_modTwin (s : State) (f : Twin → Twin) : OnlyChanges [.twin] s (s.modTwin f) :=
  onlyChanges_of_frParts (fr_modTwin (by exact rfl) fr_refl f)

/-! ### Signs of life (R253 to R258, R262, R263) -/

section Heartbeat
variable {s u : State}

/-- Values of 0x2100 that the twin told are settings; of the twin's own part only their list goes. -/
theorem State.takeVals_twin (s : State) : s.takeVals.twin = { s.twin with told := [] } := by
  have hfold : ∀ (l : List (Nat × Nat)) (v : State), (l.foldl (fun v e => v.setSetting (e.1 / 256) (e.1 % 256) e.2) v).twin = v.twin := by
    intro l
    induction l with
    | nil => exact fun v => rfl
    | cons e l ih => exact fun v => ih _
  rw [State.takeVals, State.modTwin_twin, hfold]

@[simp] theorem State.takeVals_now (s : State) : s.takeVals.now = s.now := (fr_takeVals in_self fr_refl).2.1

/-- A heartbeat of the twin, heard on a path that was not silent: what it says is kept, and the vault's device hears it by its role. -/
def State.heardBeat (u : State) (h : Hdr) (b : Beat) : State :=
  ((u.takeVals.count 488 1).modTwin (fun t => { t with peer := some b, echo := insertKey h.dport b.seq t.echo, lastFrame := u.now })).alive

theorem State.heardBeat_state (u : State) (h : Hdr) (b : Beat) : (u.heardBeat h b).twin.state = u.twin.state := by
  simp only [State.heardBeat, State.alive, State.modTwin_twin, State.count_twin, State.takeVals_twin]

theorem State.heardBeat_isActive (u : State) (h : Hdr) (b : Beat) : (u.heardBeat h b).isActive = u.isActive := by
  simp only [State.isActive, State.serves, State.heardBeat, State.alive, State.modTwin_twin, State.count_twin, State.takeVals_twin]

theorem exec_heartbeat_of_got {h : Hdr} {b : Beat} (hgot : Got s h (.heartbeat b) u) (htwin : u.twinListed = true) (hsrc : h.src = u.twinDev)
    (hheard : u.isActive = true → b.hearing = true) (hloud : u.twin.frameSilent = false) (hrole : u.isActive = true ∨ u.twin.state = 4) :
    exec (.heartbeat h b) s = .next (if u.isActive then (u.heardBeat h b).activeHears h b else (u.heardBeat h b).standbyHears b) := by
  have hgot : s.rx h (.heartbeat b) false = (u, true) := hgot
  have hgoes : (!true || !u.twinListed || h.src != u.twinDev || (u.isActive && !b.hearing)) = false := by
    cases hactive : u.isActive
    · simp [htwin, hsrc]
    · simp [htwin, hsrc, hheard hactive]
  have hloud' : ((u.takeVals.count 488 1).modTwin (fun t => { t with peer := some b, echo := insertKey h.dport b.seq t.echo, lastFrame := u.now })).twin.frameSilent =
      false := by
    simpa only [State.modTwin_twin, State.count_twin, State.takeVals_twin] using hloud
  have hheardBeat : ((u.takeVals.count 488 1).modTwin (fun t => { t with peer := some b, echo := insertKey h.dport b.seq t.echo, lastFrame := u.now })).alive =
      u.heardBeat h b := rfl
  simp only [exec, execHeartbeat, hgot, hgoes, Bool.false_eq_true, if_false, State.count_now, State.takeVals_now, hloud', hheardBeat, State.heardBeat_isActive,
    State.heardBeat_state]
  cases hactive : u.isActive
  · simp [hrole.resolve_left (by simp [hactive])]
  · simp

end Heartbeat

/-- Settles O40. That the vault's values go out behind a heartbeat and are taken with it is the model's choice in log entry 9. -/
theorem signsOfLifeAct : Obligations.SignsOfLifeAct := by
  unfold Obligations.SignsOfLifeAct
  refine ⟨?send, ?active, ?standby, ?short, ?edge, ?silentBeat, ?silentFrame, ?hearing, ?absent, ?inSync, ?refresh, ?expiry⟩
  case send =>
    intro s u hnone hlisted hrun hu
    subst hu
    simp only [exec, execHeartbeatSend, hnone, hlisted, hrun, Bool.not_true, Bool.or_self, Bool.false_eq_true, if_false]
  case active =>
    intro s u h b hgot hlisted hsrc hactive hhears hloud
    rw [exec_heartbeat_of_got hgot hlisted hsrc (fun _ => hhears) hloud (.inl hactive), if_pos hactive]
    rfl
  case standby =>
    intro s u h b hgot hlisted hsrc hstate hloud
    have hidle : u.isActive = false := by simp [State.isActive, State.serves, hstate]
    rw [exec_heartbeat_of_got hgot hlisted hsrc (fun h => by simp [hidle] at h) hloud (.inr hstate), if_neg (by simp [hidle])]
    rfl
  case short =>
    intro s interval hshort
    simp only [exec, execBeatEdge, hshort, if_true]
    rfl
  case edge =>
    intro s interval hlong hnone
    simp only [exec, execBeatEdge, Nat.not_lt.mpr hlong, if_false, State.modTwin_twin, hnone]
  case silentBeat =>
    intro s cls hlong hcls
    have hgoes : (!decide (s.twin.beatAt + 8000 ≤ s.now) || cls == .toggling || cls == .invalid) = false := by
      rcases hcls with rfl | rfl <;> simp [hlong]
    have hquiet : cls ≠ .quiet := by rcases hcls with rfl | rfl <;> simp
    simp only [exec, execBeatPathTimeout, State.elapsed, hgoes, Bool.false_eq_true, if_false, hquiet, false_and]
  case silentFrame =>
    intro s hloud hlong
    simp only [exec, execFramePathSilent, hloud, State.elapsed, decide_eq_true hlong, Bool.not_true, Bool.or_self, Bool.false_eq_true, if_false]
  case hearing =>
    intro s hlong
    exact ⟨_, by simp only [exec, execHearingWindowExpiry, State.elapsed, decide_eq_true hlong, if_true]; rfl, onlyChanges_modTwin .., rfl⟩
  case absent =>
    intro s x hidle hquiet hsignal hlong
    exact ⟨_, by simp only [exec, execTwinAbsentDetected, hidle, hquiet, hsignal, State.elapsed, decide_eq_true hlong, and_self, if_true]; rfl,
      onlyChanges_modTwin .., rfl⟩
  case inSync =>
    intro s hstate hhearing hrec hframe
    exact ⟨_, by simp only [exec, execInSyncTimeout, hstate, hhearing, State.elapsed, decide_eq_true hrec, decide_eq_true hframe, and_self, true_or, if_true]; rfl,
      onlyChanges_modTwin .., rfl, rfl⟩
  case refresh => exact fun s => ⟨_, rfl, onlyChanges_modTwin .., rfl⟩
  case expiry =>
    intro s hopen hlong
    simp only [exec, execWatchdogExpiry, hopen, State.elapsed, decide_eq_true hlong, Bool.not_true, Bool.or_self, Bool.false_eq_true, if_false]
    rfl

/-! ### The fence, claims and handover (R252, R259 to R271, R277) -/

/-- Settles O41. -/
theorem fenceClaimAndHandoverAct : Obligations.FenceClaimAndHandoverAct := by
  unfold Obligations.FenceClaimAndHandoverAct
  refine ⟨?fence, ?claim, ?recorded, ?higher, ?holder, ?limit, ?lost, ?newClaim, ?oldClaim, ?reclaim, ?handover, ?busy, ?drained, ?hold⟩
  case fence =>
    intro s hactive hstate hsilent hpresent hlong
    simp [exec, execSelfFence, hactive, hstate, hsilent, hpresent, hlong]
  case claim =>
    intro s hstate hsync hopen hsilent hlong
    simp [exec, execClaimStart, hstate, hsync, hopen, hsilent, hlong]
  case recorded =>
    intro s hstate hnew
    simp only [exec, execClaimRecordWritten, hstate, hnew, Bool.not_false, and_self, if_true]
    rfl
  case higher =>
    intro s d holder r hstate hrec hup hok hfirst hhigher
    simp [exec, execReservationComplete, hstate, hrec, hup, hok, hfirst, State.modDrive_twin, hhigher]
  case holder =>
    intro s d holder r hstate hrec hup hok hfirst hlower
    simp [exec, execReservationComplete, hstate, hrec, hup, hok, hfirst, State.modDrive_twin, Nat.not_lt.mpr hlower]
  case limit =>
    intro s hstate hlong
    simp [exec, execClaimLimitExpiry, hstate, State.elapsed, hlong]
  case lost =>
    intro s hstate hsilent habsent hlong
    simp [exec, execTwinLost, hstate, hsilent, habsent, hlong]
  case newClaim =>
    intro s u h vault claim hgot hhigher
    simp only [exec, execClaimFrame, State.onFrame_of_got hgot, decide_eq_true hhigher, if_true]
  case oldClaim =>
    intro s u h vault claim hgot hlower
    simp only [exec, execClaimFrame, State.onFrame_of_got hgot, decide_eq_false (Nat.not_lt.mpr hlower), Bool.false_eq_true, if_false]
  case reclaim =>
    intro s hopen honce hstate hlong
    simp [exec, execReclaimDelayExpiry, hopen, honce, hstate, hlong]
  case handover =>
    intro s rq tag hput hstate hsync
    simp only [exec, execHandover, State.writeNum_of_mayPut tag _ hput, State.touch_twin, hstate, hsync, and_self, if_true, State.touch_now]
  case busy =>
    intro s rq tag hput hstate
    simp only [exec, execHandover, State.writeNum_of_mayPut tag _ hput, State.touch_twin, hstate, false_and, if_false]
  case drained =>
    intro s hstate hopen hwrites hadmit hhome hacked
    simp only [exec, execHandoverDrained, hstate, hopen, hwrites, hadmit, hhome, hacked, Bool.not_false, and_self, if_true]
    rfl
  case hold =>
    intro s hstate htrigger hnone hlong
    have hdone : exec .handoverHoldExpiry s = .next (s.modTwin fun x => { x with state := 4 }) := by
      simp [exec, execHandoverHoldExpiry, hstate, htrigger, hnone, State.elapsed, hlong]
    exact ⟨_, hdone, onlyChanges_modTwin .., rfl⟩

/-! ### Resynchronisation (R273 to R275) -/

theorem onlyChanges_ranksGone (s : State) : OnlyChanges [.out, .hinge, .lattice, .dram, .cipher, .recorder] s s.ranksGone :=
  onlyChanges_of_frParts (fr_ranksGone (by exact rfl) fr_refl)

section MetaFrames
variable {s u : State} {h : Hdr} {part off : Nat} {us : List MetaUpd}

theorem State.clear_nil (s : State) (h : Hdr) (vc : Nat) : s.clear h vc [] = [] := List.eq_nil_of_length_eq_zero (s.length_clear h vc [])

/-- A META frame without lines at a resyncing device, inside the area: its entries are applied, behind the emptying at the area's start. -/
theorem exec_metaFrame_entries (hgot : Got s h (.metaArea part off [] us) u) (hstate : u.twin.state = 5) (hin : off ≤ 32768 * metaExtents u.extents) :
    exec (.metaFrame h part off ([], us)) s = .next (us.foldl (fun v e => v.applyUpd e) (if off = 0 then u.emptyMeta else u)).ranksGone := by
  have hgot : s.rx h (.metaArea part off [] us) false = (u, true) := hgot
  simp only [exec, execMetaFrame, hgot, hstate, State.clear_nil, List.length_nil, Nat.add_zero, Nat.not_lt.mpr hin, List.range_zero, List.foldl_nil, and_true,
    bne_self_eq_false, Bool.not_true, Bool.or_self, Bool.false_eq_true, if_false]

end MetaFrames

/-- Settles O42. The parts of the META frames are the model's choice in log entry 33, and the fault beyond the area is that of log entry 93. -/
theorem resyncActs : Obligations.ResyncActs := by
  unfold Obligations.ResyncActs
  refine ⟨?start, ?send, ?first, ?further, ?dirty, ?lines, ?outside⟩
  case start =>
    intro s hpolicy
    simp only [exec, execResyncStart, hpolicy, if_true]
  case send =>
    intro s slot g hstate hon hmarked hserves hempty
    simp [exec, execResyncGranuleSend, hstate, hon, hmarked, hserves, hempty]
  case first =>
    intro s u h part us hgot hstate
    rw [exec_metaFrame_entries hgot hstate (Nat.zero_le _), if_pos rfl]
  case further =>
    intro s u h part off us hgot hstate hpos hin
    rw [exec_metaFrame_entries hgot hstate hin, if_neg (Nat.pos_iff_ne_zero.mp hpos)]
  case dirty =>
    intro s u h part off l hgot hstate hpos hin
    refine ⟨_, exec_metaFrame_entries hgot hstate hin, fun g => ?_⟩
    rw [if_neg (Nat.pos_iff_ne_zero.mp hpos), show (State.ranksGone _).persist = _ from (onlyChanges_ranksGone _).2.2 .persist (by simp)]
    exact mem_foldl_addSet ..
  case lines =>
    intro s u h part off ls us hgot hstate hsome hin
    have hgot : s.rx h (.metaArea part off ls us) false = (u, true) := hgot
    have hclear : u.clear h 2 ls ≠ [] := fun h0 => hsome (List.eq_nil_of_length_eq_zero (by rw [← State.length_clear u h 2 ls, h0]; rfl))
    simp only [exec, execMetaFrame, hgot, hstate, State.length_clear, Nat.not_lt.mpr hin, hclear, and_false, bne_self_eq_false, Bool.not_true, Bool.or_self,
      Bool.false_eq_true, if_false]
  case outside =>
    intro s u h part off ls us hgot hstate hout
    have hgot : s.rx h (.metaArea part off ls us) false = (u, true) := hgot
    simp only [exec, execMetaFrame, hgot, hstate, hout, bne_self_eq_false, Bool.not_true, Bool.or_self, Bool.false_eq_true, if_false, if_true]

end Sys2Proof.Machine

/-! SUPPORT. The Hinge: ports, lanes and neighbours, requests and responses, and connections. -/

namespace Sys2Proof.Machine

open Laws Claims

theorem onlyChanges_modHinge (s : State) (f : Hinge → Hinge) : OnlyChanges [.hinge] s (s.modHinge f) :=
  onlyChanges_of_frParts (fr_modHinge (by exact rfl) fr_refl f)

/-! ### Ports, lanes, pauses and neighbours (R283 to R289, R301, R311) -/

section Ports
variable (s : State)

theorem State.xport_modXport_same (p : Nat) (f : XPort → XPort) : (s.modXport p f).xport p = f (s.xport p) := getD_modD_same ..

theorem State.flag_touch (rq : Req) (idx sub : Nat) : (s.touch rq).flag idx sub = s.flag idx sub := by simp only [State.flag, State.touch_setting]

/-- A change of a port leaves settings as they are. -/
theorem State.flag_modXport (p : Nat) (f : XPort → XPort) (idx sub : Nat) : (s.modXport p f).flag idx sub = s.flag idx sub := rfl

end Ports

/-- Settles O43. The cause codes that `portEvent` and `portServes` are given are the model's choice in log entry 36. -/
theorem hingePortsAct : Obligations.HingePortsAct := by
  unfold Obligations.HingePortsAct
  refine ⟨?up, ?down, ?fallback, ?lost, ?retrain, ?disable, ?enable, ?pause, ?solicit, ?expiry⟩
  case up =>
    intro s p mode lanes hrun hon hstate hdown hgood henabled hmode
    have hanswers : (s.power.state == 3 && p != 0) = false := by rcases hstate with h | h <;> simp [h]
    have hlanes : (s.xport p).badLanes.any (fun l => lanes.testBit l) = false := by simpa [List.any_eq_false] using hgood
    have hgoes : (s.power.inReset || decide (s.power.state < 2) || (s.power.state == 3 && p != 0) || s.portUp p || !s.flag (0x2210 + p) 6 ||
        decide (s.setting (0x2210 + p) 3 < mode) || (s.xport p).badLanes.any (fun l => lanes.testBit l)) = false := by
      rw [hrun, decide_eq_false (Nat.not_lt.mpr hon), hanswers, hdown, henabled, decide_eq_false (Nat.not_lt.mpr hmode), hlanes]
      rfl
    simp only [exec, execHingeLinkUp, hgoes, Bool.false_eq_true, if_false]
  case down =>
    intro s p hup
    simp only [exec, execHingeLinkDown, hup, if_true]
  case fallback =>
    intro s u p lane mode first n pm hup hu hfall hpm
    have hpm : pm.contains (mode, first) = true := List.contains_iff_mem.mpr hpm
    simp only [exec, execHingeLaneFailure, hup, Bool.not_true, Bool.false_eq_true, if_false, ← hu, hfall, hpm, if_true]
  case lost =>
    intro s u p lane pm hup hu hfall
    simp only [exec, execHingeLaneFailure, hup, Bool.not_true, Bool.false_eq_true, if_false, ← hu, hfall]
  case retrain =>
    intro s rq tag p hput henabled
    simp only [exec, execHingeRetrain, State.writeNum_of_mayPut tag _ hput, State.flag_modXport, State.flag_touch, henabled, if_true]
  case disable =>
    intro s rq tag p hput henabled
    simp only [exec, execHingePortEnableWrite, b2n, Bool.false_eq_true, if_false, State.writeNum_of_mayPut tag _ hput, State.flag_touch, henabled, Bool.not_false,
      Bool.and_self, if_true]
  case enable =>
    intro s rq tag p hput hdisabled
    simp only [exec, execHingePortEnableWrite, b2n, if_true, State.writeNum_of_mayPut tag _ hput, State.flag_touch, hdisabled, Bool.not_true, Bool.not_false,
      Bool.and_self, Bool.and_false, Bool.false_eq_true, if_false]
  case pause =>
    intro s u p prio quanta hon hprio hquanta hu
    simp only [exec, execPfcPause, hon, hprio, Bool.not_true, Bool.false_eq_true, or_self, if_false, ← hu, hquanta, ne_eq, not_false_eq_true, if_true]
  case solicit =>
    intro s p ip own mac hcarriage hown
    exact ⟨_, by simp only [exec, execNeighborSolicitation, hcarriage, ne_eq, not_true_eq_false, if_false, if_true, hown], onlyChanges_emit .., rfl⟩
  case expiry =>
    intro s p addr
    refine ⟨_, rfl, onlyChanges_modHinge .., fun e => ?_⟩
    rw [State.xport_modXport_same, List.mem_filter, Bool.not_eq_true', ← Bool.not_eq_true, Bool.and_eq_true, beq_iff_eq, State.elapsed, decide_eq_true_eq]

/-! ### Requests and responses (R176, R241, R296, R302, R307) -/

section Requests
variable {s u : State} {h : Hdr}

/-- No piece of a peer's request runs or is held, so the frame is no repeat (R302). -/
theorem State.pieceFrame_of_new {q : ReqSub} {desc : Bytes} {off len : Nat} {peer : Nat}
    (hnew : ∀ w ∈ u.rings.works, ¬ (w.from_ = .remote peer q.entry q.num ∧ w.off = off))
    (hheld : ∀ y ∈ u.place.heldPieces, ¬ (y.peer = peer ∧ y.q.entry = q.entry ∧ y.q.num = q.num ∧ y.off = off)) (hserves : u.serves = true)
    (hop : dOp (desc.take 64) ≠ 6) :
    u.pieceFrame peer q desc off len = (u.arrivePiece { peer := peer, q := q, desc := desc, off := off, len := len, since := u.now }).advanceWorks := by
  have hworks : u.rings.works.any (fun w => w.from_ == .remote peer q.entry q.num && w.off == off) = false := by
    simpa [List.any_eq_false] using hnew
  have hpieces : u.place.heldPieces.any (fun y => y.peer == peer && y.q.entry == q.entry && y.q.num == q.num && y.off == off) = false := by
    simpa [List.any_eq_false, and_assoc] using hheld
  simp only [State.pieceFrame, hworks, hpieces, Bool.or_self, Bool.false_eq_true, if_false, hserves, Bool.not_true, hop]

/-- A status of a request of this device, which is none of a restore or a repair. -/
theorem State.statusFor_of_own {r : RespSub} {e : EReq} {peer : Nat} (hown : r.entry = u.pool.number) (hnum : r.num < 2 ^ 45) (hreq : u.reqOf r.num = some e) :
    u.statusFor peer r =
      if recvSt r.status = St.busy then u.busyFor e r
      else if e.lookup then
        if recvSt r.status ≠ St.ok then u
        else if r.vault ≠ 0xFFFF then u.routeTo e.num e.key r.vault r.slot r.gen
        else if e.write ∧ !e.find then u
        else u.unhomed e
      else if recvSt r.status = St.moved then u.movedFor e r
      else if recvSt r.status = St.fenced then u.turnedAway e peer r
      else if e.locate then (u.servedBy e peer).pieceAnswered e r []
      else if e.write ∨ (e.work.isSome ∧ recvSt r.status ≠ St.uncorrectable) then (u.servedBy e peer).endWrite e.num (recvSt r.status)
      else (u.servedBy e peer).finishRead e 0 true := by
  have hmine : ¬ (r.entry ≠ u.pool.number ∨ 2 ^ 46 ≤ r.num) := by
    rintro (h | h)
    · exact h hown
    · omega
  simp only [State.statusFor, if_neg hmine, if_neg (Nat.not_le.mpr hnum), hreq]

end Requests

/-- Settles O44. -/
theorem hingeRequestsAndResponsesAct : Obligations.HingeRequestsAndResponsesAct := by
  unfold Obligations.HingeRequestsAndResponsesAct
  refine ⟨?read, ?readHome, ?write, ?piece, ?pieceHeld, ?data, ?busy, ?moved, ?unlisted⟩
  case read =>
    intro s u h q hgot
    simp only [exec, execHingeRead, State.onFrame_of_got hgot]
  case readHome =>
    intro s u h q hgot hown hserves hrole hnum hnone
    have hlow : ¬ 2 ^ 47 ≤ q.num := Nat.not_le.mpr hnum
    simp only [exec, execHingeRead, State.onFrame_of_got hgot, State.readFrame, hown, Bool.false_eq_true, if_false, hrole, false_and, hserves, hlow, and_false, hnone,
      if_true]
  case write =>
    intro s u h q ls slot hgot hserves hnew htags hserve
    have htags : u.twin.tags.any (fun t => t.1 == q.entry && t.2.1 == q.num) = false := by simpa [List.any_eq_false] using htags
    simp only [exec, execHingeWrite, State.onFrame_of_got hgot, State.writeFrame, hserves, Bool.not_true, Bool.false_eq_true, if_false, Bool.false_and, hnew, htags,
      hserve]
  case piece =>
    intro s u h q desc off len slot hgot hnew hheld hserves hop hserve
    simp only [exec, execPiece, State.onFrame_of_got hgot, State.pieceFrame_of_new hnew hheld hserves hop, State.arrivePiece, hserve, State.startPiece]
  case pieceHeld =>
    intro s u h q desc off len hgot hnew hheld hserves hop hhold
    simp only [exec, execPiece, State.onFrame_of_got hgot, State.pieceFrame_of_new hnew hheld hserves hop, State.arrivePiece]
    rcases hhold with hhold | hhold <;> simp only [hhold]
  case data =>
    intro s u h r ls e hgot hown hnum hreq hlocate hwrite
    have hlow : ¬ 2 ^ 46 ≤ r.num := by omega
    simp only [exec, execDataFrame, State.onFrame_of_got hgot, State.dataFor, hown, ne_eq, not_true_eq_false, if_false, hlow, Nat.not_le.mpr hnum, hreq, hlocate, hwrite,
      Bool.false_eq_true]
  case busy =>
    intro s u h r e hgot hown hnum hreq hlocate hbusy
    have hst : recvSt r.status = St.busy := by rw [hbusy]; rfl
    simp only [exec, execStatus, State.onFrame_of_got hgot, State.statusFor_of_own hown hnum hreq, hst, if_true, State.busyFor, hlocate, Bool.false_and,
      Bool.false_eq_true, if_false]
  case moved =>
    intro s u h r e hgot hown hnum hreq hlookup hlocate hmoved hvault haway
    have hst : recvSt r.status = St.moved := by rw [hmoved]; rfl
    have hbusy : St.moved ≠ St.busy := by decide
    simp only [exec, execStatus, State.onFrame_of_got hgot, State.statusFor_of_own hown hnum hreq, hst, hbusy, if_false, hlookup, Bool.false_eq_true, if_true,
      State.movedFor, hvault, hlocate, false_and, haway]
  case unlisted =>
    intro s u h r e hgot hown hnum hreq hlookup hlocate hwrite hunlisted
    have hst : recvSt r.status = St.internal := by rw [recvSt, if_neg (by simp [hunlisted])]
    have hbusy : St.internal ≠ St.busy := by decide
    have hmoved : St.internal ≠ St.moved := by decide
    have hfenced : St.internal ≠ St.fenced := by decide
    simp only [exec, execStatus, State.onFrame_of_got hgot, State.statusFor_of_own hown hnum hreq, hst, hbusy, hmoved, hfenced, if_false, hlookup, hlocate, hwrite,
      Bool.false_eq_true, true_or, if_true]

/-! ### Connections (R300 to R309, R312 to R315) -/

theorem State.onControl_of_got {s u : State} {h : Hdr} {b : FBody} (hgot : s.rx h b (s.joins h) = (u, true)) (f : State → State) : s.onControl h b f = f u := by
  simp only [State.onControl, hgot, if_true]

/-- Settles O45. That an ACCEPT of other terms has cause 6 is the model's choice in log entry 36. -/
theorem connectionsAct : Obligations.ConnectionsAct := by
  unfold Obligations.ConnectionsAct
  refine ⟨?ack, ?nak, ?connect, ?accept, ?joins, ?refused, ?close, ?retransmit, ?ackTimer, ?again, ?gone, ?idle, ?windowTwin, ?windowPool⟩
  case ack =>
    intro s u h next credits c hgot hconn hopen
    simp only [exec, execAck, State.onControl_of_got hgot, hconn, hopen, ne_eq, not_true_eq_false, if_false]
  case nak =>
    intro s u h vc next c hgot hconn hopen
    simp only [exec, execNak, State.onControl_of_got hgot, hconn, hopen, ne_eq, not_true_eq_false, if_false]
  case connect =>
    intro s u h b hgot
    simp only [exec, execConnect, State.onControl_of_got hgot]
  case accept =>
    intro s u h b c hgot hconn hstate henc hgen hfar
    have hsame : ¬ (b.enc ≠ c.enc ∨ b.keyGen ≠ c.keyGen) := by simp [henc, hgen]
    have hmember : ¬ (u.pool.joinState = 1 ∧ h.src = u.setting 0x2002 3) := fun hj => hfar.elim (· hj.1) (· hj.2)
    simp only [exec, execAccept, State.onControl_of_got hgot, hconn, hstate, ne_eq, not_true_eq_false, if_false, if_neg hsame, if_neg hmember]
  case joins =>
    intro s u h b c hgot hconn hstate henc hgen hjoin hsrc
    have hsame : ¬ (b.enc ≠ c.enc ∨ b.keyGen ≠ c.keyGen) := by simp [henc, hgen]
    simp only [exec, execAccept, State.onControl_of_got hgot, hconn, hstate, ne_eq, not_true_eq_false, if_false, if_neg hsame, hjoin, hsrc, and_self, if_true]
  case refused =>
    intro s u h b c hgot hconn hstate hother
    simp only [exec, execAccept, State.onControl_of_got hgot, hconn, hstate, ne_eq, not_true_eq_false, if_false, if_pos hother]
  case close =>
    intro s u h why c hgot hjoin hconn hopen
    have hnot : ¬ c.state = 1 := by omega
    simp [exec, execClose, State.onControl_of_got hgot, hjoin, hconn, hopen]
  case retransmit =>
    intro s peer port vc c hconn hopen hout hlong
    simp only [exec, execRetransmitTimeout, hconn, hopen, hout, State.elapsed, decide_eq_true hlong, ne_eq, not_false_eq_true, and_self, if_true]
  case ackTimer =>
    intro s peer port vc c hconn hopen hdue hlong
    simp only [exec, execAckTimer, hconn, hopen, hdue, State.elapsed, decide_eq_true hlong, and_self, if_true]
  case again =>
    intro s peer port c hconn hstate hlong hfew
    simp only [exec, execConnectTimeout, hconn, hstate, State.elapsed, decide_eq_true hlong, ne_eq, not_true_eq_false, Bool.not_true, Bool.false_eq_true, or_self, if_false,
      hfew, if_true]
  case gone =>
    intro s peer port c hconn hstate hlong hmany
    simp only [exec, execConnectTimeout, hconn, hstate, State.elapsed, decide_eq_true hlong, ne_eq, not_true_eq_false, Bool.not_true, Bool.false_eq_true, or_self, if_false,
      Nat.not_lt.mpr hmany]
  case idle =>
    intro s peer port c hconn hopen hempty hlong
    have hall : c.chans.all (fun k => k.unacked == [] && k.waiting == []) = true := List.all_eq_true.mpr fun k hk => by simp [hempty k hk]
    simp only [exec, execIdleCloseTimer, hconn, hopen, hall, State.elapsed, decide_eq_true hlong, and_self, if_true]
  case windowTwin =>
    intro s p hrole hnone
    simp only [exec, execCreditWindow, hnone, List.foldl_nil, hrole, if_true]
  case windowPool =>
    intro s u p c hone hu hrole hused
    simp only [exec, execCreditWindow, hone, List.foldl_cons, List.foldl_nil, ← hu, hrole, if_false, hused, if_true]

end Sys2Proof.Machine

/-! SUPPORT. Notices and the time service, and what the root handles in arrival order. -/

namespace Sys2Proof.Machine

open Laws Claims

/-! ### Notices and the time service (R226, R228, R230, R317, R318, R354) -/

section Clocks
variable {s : State}

/-- An Announce of this port's domain is weighed while the time service runs and the port is not faulty. -/
theorem exec_ptpMessage_announce (hon : s.flag 0x2230 1 = true) (hstate : s.hinge.ptpState ≠ 3) (prio quality prio2 clock : Nat) :
    exec (.ptpMessage (s.setting 0x2230 8, .announce prio quality prio2 clock)) s = .next ((s.announced (prio, quality, prio2, clock)).ptpEvent s.hinge) := by
  simp only [exec, execPtpMessage, hon, hstate, Bool.not_true, Bool.false_eq_true, ne_eq, not_true_eq_false, or_self, if_false]

/-- A Sync of this port's domain sets or slews the time likewise. -/
theorem exec_ptpMessage_sync (hon : s.flag 0x2230 1 = true) (hstate : s.hinge.ptpState ≠ 3) (offset : Int) (delay : Nat) :
    exec (.ptpMessage (s.setting 0x2230 8, .sync offset delay)) s = .next ((s.synced offset delay).ptpEvent s.hinge) := by
  simp only [exec, execPtpMessage, hon, hstate, Bool.not_true, Bool.false_eq_true, ne_eq, not_true_eq_false, or_self, if_false]

/-- A Sync heard by a slave after the first ready wave, its offset within 1 ms, slews pool time and keeps what it measured. -/
def Hinge.slewed (h : Hinge) (offset fix freq : Int) (delay acc now : Nat) : Hinge :=
  { h with ptpState := 9, ptpOffset := offset, ptpDelay := delay, ptpAcc := acc, base := h.base - fix, freq := freq, syncAt := now }

theorem State.synced_of_slave {offset : Int} {delay : Nat} (hstate : s.hinge.ptpState = 9) (hwave : s.pool.wave ≠ 0) (hnear : offset.natAbs ≤ 1000000) :
    ∃ freq, s.synced offset delay = s.modHinge fun h => h.slewed offset
      (max (-(((s.now - s.hinge.syncAt) / 5000 : Nat) : Int)) (min (((s.now - s.hinge.syncAt) / 5000 : Nat) : Int) offset)) freq delay
      (if s.setting 0x2230 0x0D < offset.natAbs then 3 else 1) s.now := by
  refine ⟨if s.now ≤ s.hinge.syncAt then s.hinge.freq else
    -(max (-slewMost (s.now - s.hinge.syncAt)) (min (slewMost (s.now - s.hinge.syncAt)) offset)) * 1000000000 / ((s.now - s.hinge.syncAt : Nat) : Int), ?_⟩
  have hslave : (s.hinge.ptpState == 8 || s.hinge.ptpState == 9) = true := by simp [hstate]
  simp only [State.synced, hslave, Bool.not_true, Bool.false_eq_true, if_false, hwave, Nat.not_lt.mpr hnear, false_or, decide_eq_true_eq]
  rfl

end Clocks

/-- Settles O46. That a silent master means holdover, that a Sync slews by 200 ppm of the time since the last, and how clocks compare is the model's choice
in log entries 60, 61 and 59. -/
theorem noticesAndTimeServiceAct : Obligations.NoticesAndTimeServiceAct := by
  unfold Obligations.NoticesAndTimeServiceAct
  refine ⟨?throttle, ?release, ?flush, ?sealed, ?better, ?worse, ?first, ?later, ?sync, ?delayReq, ?step, ?holdover⟩
  case throttle =>
    intro s u h v d hgot hsrc
    have hfrom : u.noticeFrom h v = true := beq_iff_eq.mpr hsrc
    simp only [exec, execThrottleNotice, State.onFrame_of_got hgot, hfrom, if_true]
  case release =>
    intro s u h v d hgot hsrc
    have hfrom : u.noticeFrom h v = true := beq_iff_eq.mpr hsrc
    simp only [exec, execThrottleReleaseNotice, State.onFrame_of_got hgot, hfrom, if_true]
  case flush =>
    intro s u h v d hgot
    simp only [exec, execFlushNotice, State.onFrame_of_got hgot, id]
  case sealed =>
    intro s u h v d hgot hvault hstandby
    simp only [exec, execSealedNotice, State.onFrame_of_got hgot, if_pos (And.intro hvault (Or.inl hstandby))]
  case better =>
    intro s prio quality prio2 clock hon hstate hbetter
    have hslave : (s.hinge.ptpState == 8 || s.hinge.ptpState == 9) = false := by simp [hstate]
    have hmaster : ¬ s.hinge.ptpState = 6 := by omega
    rw [exec_ptpMessage_announce hon (by omega)]
    simp only [State.announced, hslave, hbetter, hmaster, Bool.false_and, Bool.false_eq_true, if_false]
  case worse =>
    intro s prio quality prio2 clock hon hstate hworse
    have hmaster : ¬ s.hinge.ptpState = 6 := by omega
    rw [exec_ptpMessage_announce hon (by omega)]
    simp only [State.announced, hworse, hmaster, if_true, if_false]
  case first =>
    intro s u offset delay hon hstate hwave hnear hu
    rw [exec_ptpMessage_sync hon (by omega)]
    subst hu
    simp [State.synced, hstate, hwave, Nat.not_lt.mpr hnear]
  case later =>
    intro s offset fix delay hon hstate hwave hnear hfix
    obtain ⟨freq, hslewed⟩ := State.synced_of_slave (delay := delay) hstate hwave hnear
    subst hfix
    exact ⟨_, by rw [exec_ptpMessage_sync hon (by omega), hslewed], onlyChanges_modHinge .., rfl, rfl, rfl, rfl⟩
  case sync =>
    intro s hmaster hon hnone hann
    have hdone : exec .ptpSyncInterval s = .next ((((((s.modHinge fun h => { h with syncSent := some s.now }).emit (.ptp 0 0)).emit (.ptp 1 s.poolTime)).modHinge fun h =>
        { h with annSent := some s.now }).emit (.ptp 4 Config.clockIdentity))) := by
      simp only [exec, execPtpSyncInterval, hmaster, hon, hnone, and_self, if_true, State.announce, State.emit_hinge, State.modHinge_hinge, hann, Option.all_none]
      rfl
    exact ⟨_, hdone, onlyChanges_of_exec hdone, by simp⟩
  case delayReq =>
    intro s hstate hon hnone
    have hdone : exec .ptpDelayRequestInterval s = .next ((s.modHinge fun h => { h with reqSent := some s.now }).emit (.ptp 2 Config.clockIdentity)) := by
      simp only [exec, execPtpDelayRequestInterval, hstate, hon, hnone, or_true, and_self, if_true]
    exact ⟨_, hdone, onlyChanges_of_exec hdone, rfl⟩
  case step =>
    intro s u offset hwave hstate hfar hoff hu
    have hgoes : ¬ (s.pool.wave = 0 ∨ s.hinge.ptpState ≠ 9 ∨ offset.natAbs ≤ 1000000 ∨ s.hinge.ptpOffset ≠ offset) := by
      simp [hwave, hstate, hoff, Nat.not_le.mpr hfar]
    subst hu
    simp only [exec, execTimeBaseStep, if_neg hgoes]
    rfl
  case holdover =>
    intro s hon hstate
    simp only [exec, execPtpAnnounceTimeout, hon, Bool.not_true, Bool.false_eq_true, if_false, hstate, or_true, if_true]

/-! ### Actions at the root (R27, R29, R38, R325, R343, R345, R346) -/

/-- An action that reaches an idle root is taken up. -/
theorem State.atRoot_of_idle {s : State} (hroot : s.pool.isRoot = true) (hidle : s.rootBusy = false) (a : Action) (dev : Nat) :
    s.atRoot a dev = (s.rootAct a dev).settled := by
  simp only [State.atRoot, State.action, hroot, hidle, Bool.and_false, Bool.false_eq_true, if_false, if_true]

/-- Settles O47. -/
theorem rootHandlesActions : Obligations.RootHandlesActions := by
  unfold Obligations.RootHandlesActions
  refine ⟨?idle, ?busy, ?filled, ?early⟩
  case idle =>
    intro s dev hroot hidle
    have hact : ∀ a, done (s.atRoot a dev) = .next (s.rootAct a dev).settled := fun a => congrArg _ (State.atRoot_of_idle hroot hidle a dev)
    exact ⟨fun _ _ _ _ => hact _, fun _ _ => hact _, fun _ => hact _, fun _ _ _ _ => hact _, fun _ => hact _, fun _ => hact _, fun _ => hact _, fun _ _ => hact _⟩
  case busy =>
    intro s n size cls label dev hroot hbusy hordered
    simp only [exec, execVolumeCreate, State.atRoot, State.action, hroot, hbusy, hordered, Bool.and_self, if_true]
  case filled =>
    intro s n hstate hlatched
    have hnone : s.pool.ops.any (fun o => !o.done && o.act == .volDelete n) = false := by
      simpa [List.any_eq_false, or_iff_not_imp_left] using hlatched
    simp only [exec, execZeroFillComplete, hstate, hnone, ne_eq, not_true_eq_false, Bool.not_false, Bool.not_true, Bool.false_eq_true, or_self, if_false]
  case early =>
    intro s n o ho hdone hact
    have hany : s.pool.ops.any (fun o => !o.done && o.act == .volDelete n) = true := List.any_eq_true.mpr ⟨o, ho, by simp [hdone, hact]⟩
    simp only [exec, execZeroFillComplete, hany, Bool.not_true, Bool.not_false, or_true, if_true]

end Sys2Proof.Machine

/-! SUPPORT. The tree: its messages, its timers, and what acts at its latch time. -/

namespace Sys2Proof.Machine

open Laws Claims

theorem onlyChanges_modPool (s : State) (f : Pool → Pool) : OnlyChanges [.pool] s (s.modPool f) :=
  onlyChanges_of_frParts (fr_modPool (by exact rfl) fr_refl f)

/-- Two changes of the pool part that come to the same here are the same step. -/
theorem State.modPool_congr {s : State} {f g : Pool → Pool} (h : f s.pool = g s.pool) : s.modPool f = s.modPool g := by
  simp only [State.modPool, h]

theorem State.onTree_of_gotTree {s u : State} {h : Hdr} {t : TreeHdr} {down : Bool} {b : TBody} (hgot : GotTree s h t down b u) (f : State → State) :
    s.onTree h t down b f = f u := by
  obtain ⟨hpass, hcast⟩ := hgot
  simp only [State.onTree, hpass, if_true, hcast]

/-- Two changes of a latch operation that come to the same on the operations in hand are the same step. -/
theorem State.modOp_congr {s : State} {op : Nat} {f g : LatchOp → LatchOp} (h : ∀ o ∈ s.pool.ops, o.op = op → f o = g o) : s.modOp op f = s.modOp op g := by
  refine State.modPool_congr ?_
  have hops : s.pool.ops.map (fun o => if o.op = op then f o else o) = s.pool.ops.map (fun o => if o.op = op then g o else o) :=
    List.map_congr_left fun o ho => by
      by_cases hop : o.op = op
      · simp only [hop, if_true, h o ho hop]
      · simp only [hop, if_false]
  simp only [hops]

theorem State.attach_parent (s : State) (d : Nat) : (s.attach d).pool.parent = d := by
  unfold State.attach
  split
  case isTrue h => exact h
  case isFalse => rfl

theorem State.attach_root (s : State) (d : Nat) : (s.attach d).pool.root = s.pool.root := by
  unfold State.attach
  split <;> rfl

theorem onlyChanges_attach (s : State) (d : Nat) : OnlyChanges [.pool] s (s.attach d) := by
  unfold State.attach
  split
  case isTrue => exact onlyChanges_of_frParts fr_refl
  case isFalse => exact onlyChanges_modPool ..

/-! ### Messages (R327 to R333, R335 to R338, R340, R343, R344, R346) -/

section Messages
variable {s u v : State} {h : Hdr} {t : TreeHdr}

/-- The reports of a child join those of a device that knows its root; no closing of the gather is looked for. -/
theorem exec_treeGather_of_child {gen : Nat} {ranks : List (Nat × Bool)} (hgot : GotTree s h t false (.gather gen ranks) u) (hgen : u.pool.gen ≤ gen)
    (hroot : u.pool.root ≠ noDev) (hv : v = u.modPool (fun p => { p with adopted := p.adopted.filter (fun d => d == h.src || !ranks.contains (u.rankAt d, true)) }))
    (hchild : h.src ∈ v.children) (hclosed : (v.pool.isRoot && v.pool.gather == 1) = false) :
    exec (.treeGather h t gen ranks) s = .next (v.modPool (fun p => { p with
      gathered := mergeRanks p.gathered ranks
      report := if p.isRoot then [] else mergeRanks p.report ranks
      waveOwed := p.waveOwed || (p.isRoot && p.gather == 2 && ranks.any (fun e => e.2)) })) := by
  have hchild : v.children.contains h.src = true := List.contains_iff_mem.mpr hchild
  simp only [exec, execTreeGather, State.onTree_of_gotTree hgot, Nat.not_lt.mpr hgen, if_false, hroot, ← hv, hchild, if_true, State.modPool_pool, hclosed, Bool.false_and,
    Bool.false_eq_true]

/-- A segment of a newer wave is passed on and kept; with the fourth the wave is taken. -/
theorem exec_treeReady_of_newer {segment : Nat} {present : List Nat} (hgot : GotTree s h t true (.ready segment present) u)
    (hv : u.treeDown t.op 0 (.ready segment present) = v) (hnew : v.pool.wave < t.op) :
    exec (.treeReady h t segment present) s = .next (
      if (insertKey segment present (if segment = 0 then [] else v.pool.segments)).length < 4 then
        v.modPool (fun p => { p with segments := insertKey segment present (if segment = 0 then [] else p.segments) })
      else ((v.modPool (fun p => { p with segments := insertKey segment present (if segment = 0 then [] else p.segments) })).applyWave t.op
        (((insertKey segment present (if segment = 0 then [] else v.pool.segments)).flatMap Prod.snd).map v.devAt)).afterWave.settled) := by
  simp only [exec, execTreeReady, State.onTree_of_gotTree hgot, hv, Nat.not_le.mpr hnew, if_false, State.modPool_pool]
  rfl

/-- The first arrivals of a child in the barrier in hand are counted, and the barrier looked at. -/
theorem exec_treeArrive_of_first {arrived absent n k : Nat} (hgot : GotTree s h t false (.arrive arrived absent) u) (hbar : u.pool.barrier = some (t.op, n, k))
    (hfirst : h.src ∉ u.pool.arrived) :
    exec (.treeArrive h t arrived absent) s =
      .next (u.modPool (fun p => { p with arrived := addSet h.src p.arrived, barrier := some (t.op, n + arrived, k + absent) })).barrierCheck := by
  have hcount : u.modPool (fun p => { p with arrived := addSet h.src p.arrived, barrier := p.barrier.map (fun b => (b.1, b.2.1 + arrived, b.2.2 + absent)) }) =
      u.modPool (fun p => { p with arrived := addSet h.src p.arrived, barrier := some (t.op, n + arrived, k + absent) }) :=
    State.modPool_congr (by simp only [hbar, Option.map_some])
  simp [exec, execTreeArrive, State.onTree_of_gotTree hgot, hbar, hfirst, hcount]

/-- A barrier that a present child in reach still owes goes on. -/
theorem State.barrierCheck_of_owed {op n k d : Nat} (hbar : v.pool.barrier = some (op, n, k)) (hd : d ∈ v.presentChildren) (hreach : v.unreachable d = false)
    (howes : d ∉ v.pool.arrived) : v.barrierCheck = v := by
  have hnot : (v.presentChildren.filter (fun d => !v.unreachable d)).all v.pool.arrived.contains = false :=
    List.all_eq_false.mpr ⟨d, List.mem_filter.mpr ⟨hd, by simp [hreach]⟩, by simpa using howes⟩
  simp only [State.barrierCheck, hbar, hnot, Bool.not_false, if_true]

/-- A barrier that every present child in reach has arrived at ends at the root, and goes up elsewhere. -/
theorem State.barrierCheck_of_complete {op n k : Nat} (hbar : v.pool.barrier = some (op, n, k))
    (hall : ∀ d ∈ v.presentChildren, v.unreachable d = false → d ∈ v.pool.arrived) :
    v.barrierCheck =
      let lost := (v.presentChildren.filter (fun d => v.unreachable d && !v.pool.arrived.contains d)).length
      if v.pool.isRoot then v.barrierEnd op (if k + lost = 0 then St.ok else St.partialDone) (k + lost)
      else (v.modPool (fun p => { p with barrier := none, arrived := [] })).tree v.pool.parent op 0 false (.arrive n (k + lost)) := by
  have hyes : (v.presentChildren.filter (fun d => !v.unreachable d)).all v.pool.arrived.contains = true :=
    List.all_eq_true.mpr fun d hd => by
      obtain ⟨hd, hreach⟩ := List.mem_filter.mp hd
      exact List.contains_iff_mem.mpr (hall d hd (by simpa using hreach))
  simp only [State.barrierCheck, hbar, hyes, Bool.not_true, Bool.false_eq_true, if_false]

/-- A broadcast is passed on and counted; its counts are taken. -/
theorem exec_treeBroadcast_of_got {rooms : List (Nat × Nat × Nat × Nat)} {payload : Bytes} {census : List (Nat × Census)} {body : List Nat}
    (hbody : rooms.flatMap (fun r => [r.1, r.2.1, r.2.2.1, r.2.2.2]) ++ payload.map BitVec.toNat = body) (hgot : GotTree s h t true (.broadcast body census) u) :
    exec (.treeBroadcast h t rooms (payload, census)) s = .next (
      let v := (u.treeDown t.op 0 (.broadcast body census)).count 497 1
      let w := (census.filter (fun c => c.1 != v.pool.number)).foldl (fun s c => s.takeCensus c.1 c.2) v
      if rooms = [] then w
      else
        let w := w.modPlace (fun p => { p with
          room := rooms.foldl (fun l r => insertKey r.1 { p := r.2.1, h := r.2.2.1, state := r.2.2.2 } l) p.room
          roomEpoch := t.op })
        if w.serves then w.retryAllocations else w) := by
  simp only [exec, execTreeBroadcast, hbody, State.onTree_of_gotTree hgot]

/-- A pool state that a member takes: a newer one than its own goes on to the children that reported. -/
theorem exec_treeState_of_member {img : PoolImage} (hjoin : s.pool.joinState = 0)
    (hgot : s.rx { h with hdrOk := h.hdrOk && t.pool == s.pool.id } (.tree t (.state img)) false = (u, true)) (hgen : u.pool.gen ≤ img.gen) :
    exec (.treeState h t img) s = .next (
      let v := (((u.count 502 1).count 503 1).takeImage img).raise 136 1 (leBytes 2 h.src ++ leBytes 8 img.gen)
      if u.pool.gen < img.gen then (v.children.filter (fun d => v.pool.gathered.contains (v.rankAt d, true))).foldl (fun s d => s.sendState d) v else v).applyMissed := by
  simp only [exec, execTreeState, hjoin, Nat.reduceBEq, Bool.or_self, Bool.false_and, Bool.false_eq_true, if_false, hgot, Bool.not_true, Bool.not_false, Bool.true_and,
    Bool.and_true, State.count_pool, decide_eq_false (Nat.not_lt.mpr hgen), decide_eq_true_eq]

end Messages

/-- Settles O48. That the census goes by broadcast, and that a gather drops adopted children that now report by another, is the model's choice in log
entries 96 and 131. -/
theorem treeMessagesAct : Obligations.TreeMessagesAct := by
  unfold Obligations.TreeMessagesAct
  refine ⟨?gather, ?owed, ?oldReady, ?ready, ?wave, ?tick, ?repeat_, ?arrive, ?release, ?census, ?rooms, ?announce, ?passed, ?done_, ?action, ?result, ?join, ?same,
    ?newer, ?entries⟩
  case gather =>
    intro s u v h t gen ranks hgot hgen hroot hv hchild hleaf
    have hleaf : v.pool.isRoot = false := by rw [hv]; exact hleaf
    rw [exec_treeGather_of_child hgot hgen hroot hv hchild (by rw [hleaf]; rfl)]
    exact congrArg Host.Outcome.next (State.modPool_congr (by simp [hleaf]))
  case owed =>
    intro s u v h t gen ranks hgot hgen hroot hv hchild hisRoot hclosed hsome
    obtain ⟨r, hr⟩ := hsome
    have hisRoot : v.pool.isRoot = true := by rw [hv]; exact hisRoot
    have hclosed : v.pool.gather = 2 := by rw [hv]; exact hclosed
    have hany : ranks.any (fun e => e.2) = true := List.any_eq_true.mpr ⟨_, hr, rfl⟩
    rw [exec_treeGather_of_child hgot hgen hroot hv hchild (by rw [hisRoot, hclosed]; rfl)]
    exact congrArg Host.Outcome.next (State.modPool_congr (by simp [hisRoot, hclosed, hany]))
  case oldReady =>
    intro s u h t segment present hgot hold
    simp only [exec, execTreeReady, State.onTree_of_gotTree hgot, hold, if_true]
  case ready =>
    intro s u v h t segment present hgot hv hnew hfew
    rw [exec_treeReady_of_newer hgot hv hnew, if_pos hfew]
  case wave =>
    intro s u v h t segment present hgot hv hnew hfour
    rw [exec_treeReady_of_newer hgot hv hnew, if_neg (Nat.not_lt.mpr hfour)]
  case tick =>
    intro s u h t hgot
    have hreach : ∀ d, (u.modPool (fun p => { p with lastTick := u.now })).unreachable d = u.unreachable d := fun _ => rfl
    refine ⟨fun hfar => ?_, fun hnear hother => ?_⟩
    · simp only [exec, execTreeTick, State.onTree_of_gotTree hgot, hreach, hfar, if_true]
    · have hother : (u.modPool (fun p => { p with lastTick := u.now })).pool.parent ≠ u.parentOf u.pool.number := hother
      simp only [exec, execTreeTick, State.onTree_of_gotTree hgot, hreach, hnear, Bool.false_eq_true, if_false, State.attach, hother]
      rfl
  case repeat_ =>
    intro s u h t arrived absent hgot hbar hagain
    obtain ⟨⟨op, n, k⟩, hbar, hop⟩ := Option.map_eq_some_iff.mp hbar
    have hop : op = t.op := hop
    simp [exec, execTreeArrive, State.onTree_of_gotTree hgot, hbar, hop, hagain]
  case arrive =>
    intro s u v h t arrived absent n k hgot hbar hfirst hv
    have hbar' : v.pool.barrier = some (t.op, n + arrived, k + absent) := by rw [hv]; rfl
    have hdone := exec_treeArrive_of_first hgot hbar hfirst
    rw [← hv] at hdone
    refine ⟨fun ⟨d, hd, hreach, howes⟩ => ?_, fun hall => ⟨_, rfl, fun hroot => ?_, fun hroot => ?_⟩⟩
    · rw [hdone, State.barrierCheck_of_owed hbar' hd hreach howes]
    · rw [hdone, State.barrierCheck_of_complete hbar' hall]
      simp only [hroot, if_true]
    · rw [hdone, State.barrierCheck_of_complete hbar' hall]
      simp only [hroot, Bool.false_eq_true, if_false]
  case release =>
    intro s u h t st hgot
    simp only [exec, execTreeRelease, State.onTree_of_gotTree hgot]
  case census =>
    intro s u v h t payload census hgot hv
    rw [exec_treeBroadcast_of_got (by simp) hgot]
    simp only [← hv, if_true]
    rfl
  case rooms =>
    intro s u v h t r hgot hv hserves
    have hidle : ∀ f, (v.modPlace f).serves = false := fun f => (State.serves_of_twin rfl).trans hserves
    rw [exec_treeBroadcast_of_got (by simp) hgot]
    simp only [← hv, List.filter_nil, List.foldl_nil, reduceCtorEq, if_false, List.foldl_cons, hidle, Bool.false_eq_true]
  case announce =>
    intro s u h t a dev hgot hempty hnew hsrc
    have hnone : u.opOf t.op = none := by rw [State.opOf, hempty]; rfl
    simp only [exec, execTreeAnnounce, State.onTree_of_gotTree hgot, hnone, Option.isSome_none, decide_eq_false (Nat.not_le.mpr hnew), Bool.or_self, hsrc, false_and,
      Bool.false_eq_true, if_false]
  case passed =>
    intro s u v h t a dev hgot hempty hnew hsrc hbelow hv
    have hnone : u.opOf t.op = none := by rw [State.opOf, hempty]; rfl
    have hahead : (u.pool.parent == u.pool.root) = false := beq_false_of_ne hbelow
    simp only [exec, execTreeAnnounce, State.onTree_of_gotTree hgot, hnone, Option.isSome_none, decide_eq_false (Nat.not_le.mpr hnew), Bool.or_self, hsrc, hahead,
      Bool.false_and, Bool.not_false, or_true, and_self, Bool.false_eq_true, if_false, if_true, ← hv]
  case done_ =>
    intro s u h t st covered missed firstMissed hgot hfirst
    simp only [exec, execTreeDone, State.onTree_of_gotTree hgot]
    rw [State.modOp_congr fun o ho hop => if_neg (by simpa using hfirst o ho hop)]
  case action =>
    intro s u h t a dev hgot
    simp only [exec, execTreeAction, State.onTree_of_gotTree hgot]
  case result =>
    intro s u h t st hgot
    simp only [exec, execTreeResult, State.onTree_of_gotTree hgot]
  case join =>
    intro s u h t ident number mac e hgot hnumbered hentry hident hmac habsent
    refine ⟨_, rfl, ?_⟩
    have hentry : (u.count 502 1).entryOf number = some e := by rw [State.entryOf, State.count_pool]; exact hentry
    have hpasses : (e.ident == ident && e.macs.contains mac && !u.pool.present.contains number) = true := by
      simp [hident, hmac, habsent]
    simp only [exec, execTreeJoin, hgot, hnumbered, Bool.not_true, Bool.or_self, Bool.false_eq_true, if_false, hentry, hpasses, if_true, State.count_pool]
  case same =>
    intro s u h t img hjoin hgot hgen
    rw [exec_treeState_of_member hjoin hgot hgen.le]
    simp only [hgen, Nat.lt_irrefl, if_false]
  case newer =>
    intro s u v h t img hjoin hgot hgen hv
    rw [exec_treeState_of_member hjoin hgot hgen.le]
    simp only [hgen, ← hv, if_true]
  case entries =>
    intro s u h i a ents hgot hwait
    simp only [exec, execMapTransferEntries, State.onFrame_of_got hgot, hwait, Option.isNone_some, Bool.false_eq_true, if_false, Bool.not_false, if_true]

/-! ### Timers (R327, R328, R332, R333, R335, R337, R343) -/

/-- Settles O49. -/
theorem treeTimersAct : Obligations.TreeTimersAct := by
  unfold Obligations.TreeTimersAct
  refine ⟨?gather, ?limit, ?close, ?notRoot, ?wave, ?tick, ?missed, ?lost, ?succession, ?barrier, ?join⟩
  case gather =>
    intro s l hnumbered hleaf hnever hparent hl hsome hfew
    have hto : s.gatherTo = s.pool.parent := if_pos hparent
    have hreport : s.toReport = l := hl.symm
    have hgoes : (!s.numbered || s.pool.isRoot || !(s.pool.gatherSent == 0 || s.elapsed s.pool.gatherSent 10000000) || s.gatherTo == noDev || l == []) = false := by
      simp [hnumbered, hleaf, hnever, hto, hparent, hsome]
    simp only [exec, execGatherSendTimer, hreport, hgoes, Bool.false_eq_true, if_false]
    simp only [State.sendGather, hfew, if_true, State.gatherTo, State.modPool_pool, hparent, ne_eq, not_false_eq_true]
  case limit =>
    intro s hroot hopen hlong
    simp only [exec, execGatherTimeout, hroot, hopen, State.elapsed, decide_eq_true hlong, BEq.rfl, Bool.and_self, if_true]
  case close =>
    intro s rq tag hput hroot hopen
    simp only [exec, execCloseGather, State.writeNum_of_mayPut tag _ hput, State.touch_pool, hroot, hopen, Bool.not_true, Bool.false_eq_true, if_false, if_true]
  case notRoot =>
    intro s rq tag hput hroot
    simp only [exec, execCloseGather, State.writeNum_of_mayPut tag _ hput, State.touch_pool, hroot, Bool.not_false, if_true]
  case wave =>
    intro s u hroot hclosed hlong hu hdue
    have hdue : (u.pool.waveOwed || u.presentChanged) = true := by simpa using hdue
    simp only [exec, execReadyWaveSend, hroot, hclosed, State.elapsed, decide_eq_true hlong, BEq.rfl, Bool.and_self, if_true, ← hu, hdue]
  case tick =>
    intro s hroot hlong
    simp only [exec, execTickTimer, hroot, State.elapsed, decide_eq_true hlong, Bool.and_self, if_true]
  case missed =>
    intro s hnumbered hleaf hroot hlong hnone
    have hdone : exec .tickMissed s = .next (s.modPool (fun p => { p with parent := noDev, root := noDev, isRoot := false, authority := false })) := by
      simp [exec, execTickMissed, hnumbered, hleaf, hroot, State.elapsed, hlong, State.reattach, hnone]
    exact ⟨_, hdone, onlyChanges_modPool .., rfl, rfl, rfl⟩
  case lost =>
    intro s hnumbered hleaf hparent hfar hsome
    have hdone : exec .parentUnreachable s = .next (s.attach (s.ancestor s.pool.number 6)) := by
      simp [exec, execParentUnreachable, hnumbered, hleaf, hparent, hfar, State.reattach, hsome]
    exact ⟨_, hdone, onlyChanges_attach .., State.attach_parent .., State.attach_root ..⟩
  case succession =>
    intro s c hcand hroot hnumbered hfar hlong
    simp only [exec, execSuccessionWaitExpiry, hcand, hroot, hnumbered, hfar, State.elapsed, decide_eq_true hlong, BEq.rfl, Bool.and_self, if_true]
  case barrier =>
    intro s op n k hbar hroot hlong
    simp only [exec, execBarrierLimit, hbar, hroot, State.elapsed, decide_eq_true hlong, Bool.and_self, if_true]
  case join =>
    intro s u rq tag hput hnumbered hu
    have hnumbered : (s.touch rq).numbered = false := by rw [State.numbered, State.touch_pool]; exact hnumbered
    simp only [exec, execJoinStart, State.writeNum_of_mayPut tag _ hput, hnumbered, Bool.false_eq_true, if_false, ← hu]

/-! ### Latch times (R339 to R341, R510) -/

/-- The operation that is due among those of a kind is the one that acts, however the kind is told. -/
theorem State.onLatch_of_due {s : State} {p q : Action → Bool} {o : LatchOp} (h : s.opDue q = some o) (hkind : ∀ a, p a = q a) (f : State → LatchOp → State) :
    s.onLatch p f = f (s.opLate o) o := by
  rw [← funext hkind] at h
  simp only [State.onLatch, h]

/-- A pool reset that is due, warm or cold, withholds hosts and is due 50 us later. -/
theorem exec_poolReset_of_due {s : State} {o : LatchOp} {cold : Bool}
    (hdue : s.opDue (fun a => match a with | .poolReset c => c == cold | _ => false) = some o) :
    exec (if cold then .poolResetCold else .poolResetWarm) s = .next ((((s.opLate o).modHost (fun h => { h with withhold := addSet 2 h.withhold })).modPool (fun p => { p with
      resetDue := some (cold, (s.opLate o).now), ops := p.ops.filter (fun x => x.op != o.op) })).raise 138 (b2n cold) (leBytes 8 o.op ++ leBytes 1 (if cold then 5 else 4))) := by
  have hexec : exec (if cold then .poolResetCold else .poolResetWarm) s = .next (s.poolResetLatch cold) := by cases cold <;> rfl
  rw [hexec, State.poolResetLatch, State.onLatch_of_due hdue]
  · rfl
  · intro a; cases a <;> rfl

/-- Settles O50. -/
theorem latchOperationsAct : Obligations.LatchOperationsAct := by
  unfold Obligations.LatchOperationsAct
  refine ⟨?freeze, ?release, ?apply, ?reset⟩
  case freeze =>
    intro s o m hdue hact
    simp only [exec, execCounterFreeze]
    rw [State.onLatch_of_due hdue]
    · simp only [hact]
    · intro a; cases a <;> rfl
  case release =>
    intro s o m hdue hact
    simp only [exec, execCounterRelease]
    rw [State.onLatch_of_due hdue]
    · simp only [hact]
    · intro a; cases a <;> rfl
  case apply =>
    intro s o hdue
    simp only [exec, execPoolStateApply, State.onLatch_of_due hdue fun _ => rfl]
  case reset =>
    intro s u o cold c hc hdue hu
    subst hu
    have hlatch := exec_poolReset_of_due hdue
    rw [List.mem_cons, List.mem_singleton] at hc
    obtain hc | hc := hc <;> obtain ⟨rfl, rfl⟩ := Prod.mk.inj hc <;> exact hlatch

end Sys2Proof.Machine

/-! SUPPORT. The lattice's arbiters, and the DRAM channels. -/

namespace Sys2Proof.Machine

open Laws Claims

/-! ### Arbiters (R359 to R371) -/

section Arbiters
variable (s : State) (r : Nat)

theorem State.arb_modArb_same (f : Arb → Arb) : (s.modArb r f).arb r = f (s.arb r) := getD_modD_same ..

theorem State.arb_count (n k : Nat) : (s.count n k).arb r = s.arb r := by rw [State.arb, State.count_lattice, State.arb]

variable {s r} {owner : Nat} {lend : Bool}

/-- With no request that the entry may serve, the slot is idle. -/
theorem State.grantRule_of_none
    (hnone : (if (s.arb r).queue.filter (fun x => x.cls == owner) ≠ [] then (s.arb r).queue.filter (fun x => x.cls == owner) else if lend then (s.arb r).queue else []) = []) :
    s.grantRule r owner lend = (s.count 354 1).modArb r (fun a => { a with idle := a.idle + 1, borrow := none }) := by
  simp only [State.grantRule, hnone]
  rfl

/-- The owner's only request, not at the age cap and with no lock asked for, is granted. -/
theorem State.grantRule_of_only {q : LReq} (hqueue : (s.arb r).queue = [q]) (howner : q.cls = owner) (hlock : q.lockLen = 0) (hage : s.keyOf r q ≠ ageCap) :
    s.grantRule r owner lend = s.grant r q owner := by
  have hmine : (s.arb r).queue.filter (fun x => x.cls == owner) = [q] := by rw [hqueue, List.filter_singleton, beq_iff_eq.mpr howner]; rfl
  have hbest : s.bestOf r [q] = some q := rfl
  simp only [State.grantRule, hmine, ne_eq, List.cons_ne_self, not_false_eq_true, if_true, hbest, hlock, Nat.lt_irrefl, decide_false, Bool.false_and, hage, if_false,
    Bool.false_eq_true]

end Arbiters

/-- Settles O51. -/
theorem latticeGrantsAndSwaps : Obligations.LatticeGrantsAndSwaps := by
  unfold Obligations.LatticeGrantsAndSwaps
  refine ⟨?unlocked, ?locked, ?empty, ?only, ?unlent, ?swap, ?ages, ?clear⟩
  case unlocked =>
    intro s r hlock
    simp only [exec, execArbitrate, if_true, hlock]
  case locked =>
    intro s r src left stop hlock htime
    simp only [exec, execArbitrate, if_true, hlock, Nat.not_le.mpr htime, if_false]
  case empty =>
    intro s r owner lend hqueue
    exact State.grantRule_of_none (by simp [hqueue])
  case only =>
    intro s r owner lend q hqueue howner hlock hage
    exact State.grantRule_of_only hqueue howner hlock hage
  case unlent =>
    intro s r owner q hqueue hother
    exact State.grantRule_of_none (by simp [hqueue, hother])
  case swap =>
    intro s r a harbs hpend hat hsenior
    refine ⟨_, rfl, ?_⟩
    have hdue : (s.lattice.arbs.filter (fun e => e.2.pending.isSome && decide (e.2.swapAt ≤ s.poolTime))).map Prod.fst = [r] := by
      simp [harbs, hpend, hat]
    simp only [exec, execTableSwap, hdue, hsenior]
    simp [maxOf]
  case ages =>
    intro s r
    rfl
  case clear =>
    intro s rq tag r hput
    simp only [exec, execArbiterStatsClear, State.writeNum_of_mayPut tag _ hput]

/-! ### Channels (R382 to R402) -/

section Channels
variable (s : State) (n : Nat)

theorem onlyChanges_modChan (f : Chan → Chan) : OnlyChanges [.dram] s (s.modChan n f) := onlyChanges_modDram ..

theorem State.chan_modChan_same (f : Chan → Chan) : (s.modChan n f).chan n = f (s.chan n) := getD_modD_same ..

theorem State.chan_count (m k : Nat) : (s.count m k).chan n = s.chan n := by rw [State.chan, State.count_dram, State.chan]

/-- A channel's ranks change with the channel. -/
theorem State.rankOf_modChan_same (f : Chan → Chan) (rank : Nat) : (s.modChan n f).rankOf n rank = getD (f (s.chan n)).ranks rank {} := by
  rw [State.rankOf, State.chan_modChan_same]

variable {s n} {rank : Nat}

/-- The refresh step of a rank that is there, of a channel that refreshes. -/
theorem exec_refreshDue_of_there (href : s.refreshes n = true) (hrank : (s.rankOf n rank).state ≠ 0) (queued : Bool) :
    exec (.refreshDue n rank queued) s = .next (
      let set := fun k => s.modChan n (fun c => { c with ranks := modD c.ranks rank {} (fun r => { r with owed := k }) })
      if !queued then (set 0).count (8 * n + 4) ((s.rankOf n rank).owed + 1)
      else if (s.rankOf n rank).owed + 1 < s.setting 0x3500 0x0D then set ((s.rankOf n rank).owed + 1)
      else ((set (s.rankOf n rank).owed).count (8 * n + 4) 1).count (8 * n + 5) 1) := by
  have hgoes : (!s.refreshes n || (s.rankOf n rank).state == 0) = false := by simp [href, hrank]
  simp only [exec, execRefreshDue, hgoes, Bool.false_eq_true, if_false, Nat.add_sub_cancel]

/-- A drift check that is due reads the oscillators, and a drift beyond correction freezes the channel or loses it. -/
theorem exec_driftCheck_of_due (hstate : (s.chan n).state = 2) (hdue : (s.chan n).driftAt = 0 ∨ (s.chan n).driftAt + s.setting 0x3500 0x11 ≤ s.now) (absorbed : Bool) :
    exec (.driftCheck n absorbed) s = .next (
      if absorbed then (s.ask n 0x11 6 1).modChan n (fun c => { c with driftAt := s.now })
      else ((s.ask n 0x11 6 1).modChan n (fun c => { c with driftAt := s.now })).freezeOr n 2 (fun s => s.chanLost n 6 false)) := by
  have hgoes : ¬ ((s.chan n).state ≠ 2 ∨ (!((s.chan n).driftAt == 0 || s.elapsed (s.chan n).driftAt (s.setting 0x3500 0x11))) = true) := by
    simpa [hstate, State.elapsed, or_iff_not_imp_left] using hdue
  simp only [exec, execDriftCheck, if_neg hgoes]

end Channels

/-- Settles O52. The cause codes of a channel that leaves (1 training, 6 drift) are the model's choice in log entry 39. -/
theorem channelsTrainRefreshAndRetry : Obligations.ChannelsTrainRefreshAndRetry := by
  unfold Obligations.ChannelsTrainRefreshAndRetry
  refine ⟨?trained, ?untrained, ?retrainFailed, ?refreshed, ?owed, ?polled, ?hot, ?drift, ?driftLost, ?alert, ?replayed, ?idle⟩
  case trained =>
    intro s n step rank hstate
    simp only [exec, execTrainingComplete, hstate, ne_eq, not_true_eq_false, if_false, if_true]
  case untrained =>
    intro s n step rank hstate
    simp only [exec, execTrainingComplete, hstate, ne_eq, not_true_eq_false, Bool.false_eq_true, if_false]
  case retrainFailed =>
    intro s n hstate
    simp only [exec, execRetrainComplete, hstate, ne_eq, not_true_eq_false, Bool.false_eq_true, if_false]
  case refreshed =>
    intro s n rank href hrank
    exact exec_refreshDue_of_there href hrank false
  case owed =>
    intro s n rank href hrank hbound
    refine ⟨_, (exec_refreshDue_of_there href hrank true).trans (congrArg _ (if_pos hbound)), onlyChanges_modChan .., ?_⟩
    rw [State.rankOf_modChan_same, getD_modD_same]
  case polled =>
    intro s n rank doubled temp href hrank
    have hgoes : ¬ ((s.rankOf n rank).state = 0 ∨ (!s.refreshes n) = true) := by simp [href, hrank]
    refine ⟨_, by simp only [exec, execMr4Poll, if_neg hgoes, Bool.or_false, Bool.false_and, Bool.false_eq_true, if_false]; rfl, onlyChanges_modChan .., ?_, ?_⟩
    · rw [State.rankOf_modChan_same, getD_modD_same]
    · rw [State.chan_modChan_same]
  case hot =>
    intro s n rank doubled temp href hrank hnone
    have hgoes : ¬ ((s.rankOf n rank).state = 0 ∨ (!s.refreshes n) = true) := by simp [href, hrank]
    simp only [exec, execMr4Poll, if_neg hgoes, hnone, Bool.or_true, Bool.and_true, if_true, State.chan_modChan_same]
  case drift =>
    intro s n hstate hdue
    exact exec_driftCheck_of_due hstate hdue true
  case driftLost =>
    intro s n hstate hdue
    exact exec_driftCheck_of_due hstate hdue false
  case alert =>
    intro s n sub href
    exact ⟨_, by simp only [exec, execRcdAlert, href, if_true]; rfl, onlyChanges_modChan .., by rw [State.chan_modChan_same]⟩
  case replayed =>
    intro s n halert hlimit
    have hfew : ¬ s.setting 0x3500 0x0E ≤ 0 := Nat.not_le.mpr hlimit
    simp only [exec, execRetryReplay, halert, Bool.false_eq_true, if_false, State.chan_modChan_same, State.modChan_setting, State.count_setting, hfew]
  case idle =>
    intro s n hstate htime hlong
    simp only [exec, execIdleSelfRefresh, hstate, htime, State.elapsed, decide_eq_true hlong, ne_eq, not_false_eq_true, and_self, if_true]

/-- Settles O53. That a return of a channel in service is BUSY is the model's choice in log entry 41, the cause code 3 of its event that in log entry 39. -/
theorem channelsByOperator : Obligations.ChannelsByOperator := by
  unfold Obligations.ChannelsByOperator
  refine ⟨?retrain, ?offline, ?handover, ?return_, ?serving, ?retire, ?absent, ?freeze, ?read, ?arrived⟩
  case retrain =>
    intro s u rq tag n st hput hstate hleave
    simp only [exec, execChannelRetrain, State.writeNum_of_mayPut tag _ hput, hstate, true_or, if_true, hleave]
  case offline =>
    intro s u rq tag n st hput hstate hleave
    simp only [exec, execChannelOffline, State.writeNum_of_mayPut tag _ hput, hstate, true_or, if_true, hleave]
  case handover =>
    intro s n what hactive hsync
    simp only [State.askLeave, hactive, hsync, if_true]
  case return_ =>
    intro s rq tag n hput hstate
    simp only [exec, execChannelReturn, State.writeNum_of_mayPut tag _ hput, hstate, if_true]
  case serving =>
    intro s rq tag n hput hstate
    simp only [exec, execChannelReturn, State.writeNum_of_mayPut tag _ hput, hstate, Nat.reduceEqDiff, if_false]
  case retire =>
    intro s rq tag n rank hput hrank
    simp only [exec, execRetireRank, State.writeNum_of_mayPut tag _ hput, hrank, if_false]
  case absent =>
    intro s rq tag n rank hput hrank
    simp only [exec, execRetireRank, State.writeNum_of_mayPut tag _ hput, hrank, if_true]
  case freeze =>
    intro s rq tag n hput
    simp only [exec, execFreezeChannel, State.writeNum_of_mayPut tag _ hput]
  case read =>
    intro s rq tag addr hput hfrozen hchan hin
    have hgoes : ¬ ((s.touch rq).dram.frozen = 0xFF ∨ slotChan (addr / extentBytes) ≠ (s.touch rq).dram.frozen ∨ (s.touch rq).ownExtents * extentBytes ≤ addr) := by
      exact not_or.mpr ⟨hfrozen, not_or.mpr ⟨not_not.mpr hchan, Nat.not_le.mpr hin⟩⟩
    simp only [exec, execFreezeRead, State.writeNum_of_mayPut tag _ hput, if_neg hgoes, State.touch_now]
  case arrived =>
    intro s bytes hreading
    exact ⟨_, by simp only [exec, execFreezeReadDone, hreading, if_true]; rfl, onlyChanges_modDram .., rfl, rfl⟩

end Sys2Proof.Machine

/-! SUPPORT. Lines that are read, devices marked bad, repairs that wait, and the scrubber. -/

namespace Sys2Proof.Machine

open Laws Claims

theorem onlyChanges_modEccChan (s : State) (n : Nat) (f : EccChan → EccChan) : OnlyChanges [.ecc] s (s.modEccChan n f) :=
  onlyChanges_of_frParts (fr_modEcc (by exact rfl) fr_refl _)

theorem State.eccChan_modEccChan_same (s : State) (n : Nat) (f : EccChan → EccChan) : (s.modEccChan n f).eccChan n = f (s.eccChan n) := getD_modD_same ..

/-! ### Lines read (R410, R420) -/

section Reads
variable {s : State} {ln : Nat}

/-- A burst that a serving channel reads of a line under no repair is decoded. -/
theorem exec_dramReadComplete_of_read (hserves : s.chanServes (slotChan (lineSlot ln)) = true) (hin : lineSlot ln < s.ownExtents) (hnone : ∀ r ∈ s.ecc.repairs, r.line ≠ ln)
    (b0 b1 : List Nat) (st : Bool) : exec (.dramReadComplete ln b0 b1 st) s = .next (s.lineRead ln (if st then 2 else 0) (b0 ++ b1)) := by
  have hgoes : (!s.chanServes (slotChan (lineSlot ln)) || decide (s.ownExtents ≤ lineSlot ln) || s.ecc.repairs.any (fun r => r.line == ln)) = false := by
    simpa [hserves, Nat.not_le.mpr hin] using hnone
  simp only [exec, execDramReadComplete, hgoes, Bool.false_eq_true, if_false]

/-- A burst without an erasure is kept as its halves decode: a poisoned half before an uncorrectable one, and corrected halves rewritten. -/
theorem State.lineRead_of_unerased (hmirror : s.x8Mirrored ln = false) (herased : assoc (s.eccChan (slotChan (lineSlot ln))).erased (s.rankSub ln) = none)
    (reader : Nat) (beats : List Nat) :
    s.lineRead ln reader beats =
      let a := decodeHalf (halfOf s.x8 0 beats) []
      let b := decodeHalf (halfOf s.x8 1 beats) []
      if a = .poisoned ∨ b = .poisoned then s.setPoison ln true
      else if a = .uncorrectable ∨ b = .uncorrectable then s.uncorrectable ln reader
      else
        let t := s.putLine ln (BitVec.ofNat 512 (a.data (halfOf s.x8 0 beats) + b.data (halfOf s.x8 1 beats) * 2 ^ 256)) false
        if a = .clean ∧ b = .clean then t else (t.lineRewritten ln).corrected ln reader a b := by
  simp only [State.lineRead, herased, bne_self_eq_false, Bool.and_false, Bool.false_eq_true, if_false, hmirror]

end Reads

/-- Settles O54. -/
theorem linesAreCheckedAndRepaired : Obligations.LinesAreCheckedAndRepaired := by
  unfold Obligations.LinesAreCheckedAndRepaired
  refine ⟨?clean, ?corrected, ?poisoned, ?uncorrectable, ?mark, ?clear, ?window, ?repair, ?resend, ?passEnds, ?scrub⟩
  case clean =>
    intro s ln b0 b1 h0 h1 st hserves hin hnone hmirror hh0 hh1 herased hclean0 hclean1
    rw [exec_dramReadComplete_of_read hserves hin hnone, State.lineRead_of_unerased hmirror herased, ← hh0, ← hh1]
    simp only [hclean0, hclean1, reduceCtorEq, or_self, and_self, if_false, if_true, Half.data]
  case corrected =>
    intro s ln b0 b1 h0 h1 r sy hserves hin hnone hmirror hh0 hh1 herased hcorr hclean1
    rw [exec_dramReadComplete_of_read hserves hin hnone, State.lineRead_of_unerased hmirror herased, ← hh0, ← hh1]
    simp only [hcorr, hclean1, reduceCtorEq, or_self, and_true, Bool.false_eq_true, if_false, Half.data]
  case poisoned =>
    intro s ln b0 b1 h0 h1 hserves hin hnone hmirror hh0 hh1 herased hpoison
    rw [exec_dramReadComplete_of_read hserves hin hnone, State.lineRead_of_unerased hmirror herased, ← hh0, ← hh1]
    simp only [hpoison, true_or, if_true]
  case uncorrectable =>
    intro s ln b0 b1 h0 h1 hserves hin hnone hmirror hh0 hh1 herased hlost hclean1
    rw [exec_dramReadComplete_of_read hserves hin hnone, State.lineRead_of_unerased hmirror herased, ← hh0, ← hh1]
    simp only [hlost, hclean1, reduceCtorEq, or_self, true_or, Bool.false_eq_true, if_false, if_true]
  case mark =>
    intro s rq tag n v hput hrank hdev hform hfree
    have hgoes : ¬ (((s.touch rq).rankOf n (v % 4)).state = 0 ∨ (if (s.touch rq).x8 then 5 else 10) ≤ v / 16 % 16 ∨ v ≠ v % 4 + 4 * (v / 4 % 2) + 16 * (v / 16 % 16)) :=
      not_or.mpr ⟨hrank, not_or.mpr ⟨Nat.not_le.mpr hdev, not_not.mpr hform⟩⟩
    simp only [exec, execMarkDeviceBad, State.writeNum_of_mayPut tag _ hput, if_neg hgoes, hfree, Option.isSome_none, Bool.false_eq_true, if_false]
  case clear =>
    intro s rq tag n v j hput hmark
    simp only [exec, execClearErasure, State.writeNum_of_mayPut tag _ hput, hmark]
  case window =>
    intro s n hlong
    exact ⟨_, by simp only [exec, execDeviceBadWindow, State.elapsed, decide_eq_true hlong, if_true]; rfl, onlyChanges_modEccChan .., by rw [State.eccChan_modEccChan_same]⟩
  case repair =>
    intro s ln r hfind hlong
    simp only [exec, execRepairWaitExpiry, hfind, State.elapsed, decide_eq_true hlong, if_true]
  case resend =>
    intro s slot g at_ top hfind hlong hstale
    have hstale : s.twin.stale.contains (slotGran slot g) = false := by simpa using hstale
    simp only [exec, execStandbyResendWaitExpiry, hfind, State.elapsed, decide_eq_true hlong, hstale, Bool.not_false, and_self, if_true]
  case passEnds =>
    intro s n b0 b1 hon hserves hsome hlong hend
    have hgoes : (!s.flag 0x3600 3 || !s.chanServes n || s.chanLines == 0 || !s.elapsed (s.eccChan n).scrubAt (s.setting 0x3600 4 / s.chanLines)) = false := by
      simp [hon, hserves, hsome, State.elapsed, hlong]
    simp only [exec, execScrubLine, hgoes, Bool.false_eq_true, if_false, hend, if_true]
  case scrub =>
    intro s w u v n k ln b0 b1 hon hserves hsome hlong hk hmore hln hw hu hnone hv hgoesOn
    have hgoes : (!s.flag 0x3600 3 || !s.chanServes n || s.chanLines == 0 || !s.elapsed (s.eccChan n).scrubAt (s.setting 0x3600 4 / s.chanLines)) = false := by
      simp [hon, hserves, hsome, State.elapsed, hlong]
    have hnone : u.ecc.repairs.any (fun r => r.line == ln) = false := by simpa using hnone
    simp only [exec, execScrubLine, hgoes, Bool.false_eq_true, if_false, ← hk, Nat.not_le.mpr hmore, ← hln, ← hw, ← hu, hnone, ← hv, Nat.not_le.mpr hgoesOn]

end Sys2Proof.Machine

/-! SUPPORT. The cipher engine's keys, contexts and pipelines, and the steward's engines and images. -/

namespace Sys2Proof.Machine

open Laws Claims

/-! ### The cipher engine (R432 to R448) -/

section Cipher
variable {s : State} {ctx pipe : Nat} {c : CCtx}

/-- A pipeline's block of a frame or a granule: a fault where a check fails, the context's end behind its last block. -/
theorem exec_cipherBlockDone_of_plain (hctx : assoc s.cipher.ctxs ctx = some c) (huser : c.user ≠ .ring) (hpipe : s.cipher.pipes.getLsbD pipe = true)
    (stageOk keyOk hashOk : Bool) :
    exec (.cipherBlockDone ctx pipe stageOk keyOk hashOk) s = .next (
      if !(stageOk && keyOk && hashOk) then ((s.pipeFault pipe c.user).cipherFault ctx c).kickFlights
      else if c.len ≤ c.released + 16 then s.freeContext ctx else s.modCtx ctx (fun c => { c with released := c.released + 16 })) := by
  simp [exec, execCipherBlockDone, hctx, huser, hpipe]

/-- A block of a ring whose descriptor is at its ciphering and has bytes left acts on the descriptor. -/
theorem exec_cipherBlockDone_of_ring {f : Flight} (hctx : assoc s.cipher.ctxs ctx = some c) (huser : c.user = .ring) (hpipe : s.cipher.pipes.getLsbD pipe = true)
    (hflight : s.flight c.ring c.idx = some f) (hstage : f.stage = 2) (hmore : c.released < c.len) :
    exec (.cipherBlockDone ctx pipe true true true) s = .next (s.ringBlock ctx c f).kickFlights := by
  simp [exec, execCipherBlockDone, hctx, huser, hpipe, hflight, hstage, hmore]

/-- The self-test of pipelines that all pass: each that was out comes back. -/
theorem exec_returnPipelines_of_passed {rq : Req} (tag : Nat) (hput : MayPut s rq 0x3700 8 1 1) {out : List Nat}
    (hout : (List.range 16).filter (fun p => !(s.touch rq).cipher.pipes.getLsbD p) = out) :
    exec (.returnPipelines rq tag (BitVec.allOnes 16)) s = .next ((out.foldl (fun s p =>
      ((s.count 457 ((s.now - getD s.cipher.outAt p s.now) / 125)).modCipher (fun c => { c with
        pipes := c.pipes ||| (1#16 <<< p), outAt := eraseKey p c.outAt })).raise 211 1 (leBytes 1 p ++ leBytes 1 0))
      ((s.touch rq).modCipher (fun c => { c with testFail := (c.testFail ||| ~~~ c.pipes) &&& ~~~ BitVec.allOnes 16 }))).respond rq (writeResp tag 0x3700 8 St.ok)) := by
  have hpassed : ∀ p ∈ out, (BitVec.allOnes 16).getLsbD p = true := fun p hp => by
    rw [← hout, List.mem_filter, List.mem_range] at hp
    rw [BitVec.getLsbD_allOnes]
    exact decide_eq_true hp.1
  have hback : out.filter (BitVec.allOnes 16).getLsbD = out := List.filter_eq_self.mpr hpassed
  have hnone : out.filter (fun p => !(BitVec.allOnes 16).getLsbD p) = [] := List.filter_eq_nil_iff.mpr fun p hp => by simp only [hpassed p hp]; decide
  simp only [exec, execReturnPipelines, State.writeNum_of_mayPut tag _ hput, hout, hback, hnone, List.foldl_nil]

end Cipher

/-- Settles O55. -/
theorem cipherKeysAndBlocksAct : Obligations.CipherKeysAndBlocksAct := by
  unfold Obligations.CipherKeysAndBlocksAct
  refine ⟨?load, ?erase, ?reminder, ?acquired, ?block, ?last, ?ring, ?fault, ?noneOut, ?oneOut⟩
  case load =>
    intro s rq tag n b hwrite hty hok
    have hact := fun act => State.writeObj_of_mayWrite hwrite tag act
    rw [hty] at hact
    simp only [exec, execKeyLoad, hact, hok, ne_eq, not_true_eq_false, if_false]
  case erase =>
    intro s rq tag n hput
    simp only [exec, execKeyErase, State.writeNum_of_mayPut tag _ hput]
  case reminder =>
    intro s slot hempty hused hnone
    have hone : b2n true = 1 := rfl
    simp only [exec, execKeyWaitReminder, hempty, hused, hone, hnone, BEq.rfl, Bool.and_self, if_true]
  case acquired =>
    intro s user slot mode gen ring idx len k huser hfits hfree
    simp only [exec, execContextAcquired, huser, hfits, hfree, Bool.not_true, Bool.false_eq_true, if_false]
  case block =>
    intro s ctx pipe c hctx huser hpipe hmore
    rw [exec_cipherBlockDone_of_plain hctx huser hpipe]
    simp only [Bool.and_self, Bool.not_true, Bool.false_eq_true, if_false, Nat.not_le.mpr hmore]
  case last =>
    intro s ctx pipe c hctx huser hpipe hlast
    rw [exec_cipherBlockDone_of_plain hctx huser hpipe]
    simp only [Bool.and_self, Bool.not_true, Bool.false_eq_true, if_false, hlast, if_true]
  case ring =>
    intro s ctx pipe c f hctx huser hpipe hflight hstage hmore
    exact exec_cipherBlockDone_of_ring hctx huser hpipe hflight hstage hmore
  case fault =>
    intro s ctx pipe c stageOk keyOk hashOk hctx huser hpipe hbad
    rw [exec_cipherBlockDone_of_plain hctx huser hpipe]
    simp only [hbad, Bool.not_false, if_true]
  case noneOut =>
    intro s rq tag hput hall
    have hout : (List.range 16).filter (fun p => !(s.touch rq).cipher.pipes.getLsbD p) = [] := by rw [hall]; decide
    rw [exec_returnPipelines_of_passed tag hput hout, List.foldl_nil]
  case oneOut =>
    intro s rq tag p hput hout
    refine ⟨_, rfl, ?_⟩
    rw [exec_returnPipelines_of_passed tag hput hout, List.foldl_cons, List.foldl_nil, State.modCipher_now, State.touch_now]
    rfl

/-! ### Engines, images and the rolling update (R454 to R461) -/

section Engines
variable (s : State)

theorem State.engine_modEngine_same (e : Nat) (f : Engine → Engine) : (s.modEngine e f).engine e = f (s.engine e) := getD_modD_same ..

/-- A cluster's check leaves the roll as it is. -/
theorem State.clusterCheck_updating (c : Nat) : (s.clusterCheck c).steward.updating = s.steward.updating := by
  simp only [State.clusterCheck]
  split
  · rw [State.clusterEvent, State.raise_steward]; rfl
  · rfl

/-- With no roll in hand a trap is its engine's alone. -/
theorem State.trapEngine_of_idle {e : Nat} (hruns : s.engineRuns e = true) (hidle : s.steward.updating = 0xFF) (cause addr : Nat) :
    s.trapEngine e cause addr = (((s.modEngine e (fun x => { x with
      state := if 4 ≤ (((s.engine e).recent.filter (fun t => s.now < t + 10000000000)) ++ [s.now]).length then 2 else 3
      cause := cause
      traps := satAdd x.traps 1 0xFFFFFFFF
      recent := ((s.engine e).recent.filter (fun t => s.now < t + 10000000000)) ++ [s.now] })).count (512 + 8 * e + 7) 1).raise (224 + e) cause
        (leBytes 1 cause ++ leBytes 6 addr)).clusterCheck (e / 8) := by
  have hstill : ∀ (f : Engine → Engine) (n k src cz : Nat) (b : Bytes),
      ((((s.modEngine e f).count n k).raise src cz b).clusterCheck (e / 8)).steward.updating = 0xFF := fun f n k src cz b => by
    rw [State.clusterCheck_updating, State.raise_steward, State.count_steward]; exact hidle
  simp only [State.trapEngine, hruns, Bool.not_true, Bool.false_eq_true, if_false, hstill, ne_eq, not_true_eq_false, false_and]

end Engines

/-- Settles O56. -/
theorem enginesAndImagesAct : Obligations.EnginesAndImagesAct := by
  unfold Obligations.EnginesAndImagesAct
  refine ⟨?trap, ?watchdog, ?restart, ?rolling, ?atReset, ?rollback, ?updated, ?failed, ?clean, ?corrected, ?lost⟩
  case trap =>
    intro s e cause addr hruns hidle
    exact congrArg Host.Outcome.next (s.trapEngine_of_idle hruns hidle cause addr)
  case watchdog =>
    intro s e
    exact ⟨rfl, _, rfl⟩
  case restart =>
    intro s e hstate
    have hdone : exec (.engineRestart e) s = .next (s.modEngine e (fun x => { x with state := 0 })) := by
      simp only [exec, execEngineRestart, hstate, if_true]
    exact ⟨_, hdone, onlyChanges_modSteward .., congrArg Engine.state (s.engine_modEngine_same ..)⟩
  case rolling =>
    intro s rq tag hput hidle hvalid hiface hflush htwin hserve
    obtain ⟨hf1, hf3⟩ := hflush
    obtain ⟨ht6, ht9⟩ := htwin
    have hall : (List.range 6).any (fun c => ((s.touch rq).cluster c).state != 0) = false :=
      List.any_eq_false.mpr fun c hc => by simp [hserve c (List.mem_range.mp hc)]
    simp only [exec, execActivateRolling, State.writeNum_of_mayPut tag _ hput, hidle, hvalid, hiface, hall, State.touch_persist, State.touch_twin, bne_self_eq_false,
      beq_false_of_ne hf1, beq_false_of_ne hf3, beq_false_of_ne ht6, beq_false_of_ne ht9, Bool.or_self, ne_eq, not_true_eq_false, Bool.false_eq_true, if_false]
    rfl
  case atReset =>
    intro s rq tag hput hidle hvalid
    simp only [exec, execActivateAtReset, State.writeNum_of_mayPut tag _ hput, hidle, hvalid, ne_eq, not_true_eq_false, if_false]
  case rollback =>
    intro s rq tag hput hidle hactive hholds
    have hgoes : ¬ (((s.touch rq).image 1).state ≠ 1 ∧ ((s.touch rq).image 1).state ≠ 2) := by simpa [or_iff_not_imp_left] using hholds
    simp only [exec, execActivateRollback, State.writeNum_of_mayPut tag _ hput, hidle, hactive, if_true, if_neg hgoes, ne_eq, not_true_eq_false, if_false]
  case updated =>
    intro s hfew hnone hgoesOn
    have hroll : ¬ s.steward.updating = 0xFF := by omega
    simp only [exec, execClusterUpdateDone, hroll, hnone, hgoesOn, hfew, Bool.not_true, Bool.false_eq_true, if_false, if_true]
  case failed =>
    intro s hfew hnone
    have hroll : ¬ s.steward.updating = 0xFF := by omega
    simp only [exec, execClusterUpdateDone, hroll, hnone, Bool.not_false, if_false, if_true]
  case clean =>
    intro s mem addr v word hword
    simp only [exec, execWordScrub, hword]
  case corrected =>
    intro s mem addr v word hword
    simp only [exec, execWordScrub, hword]
  case lost =>
    intro s mem addr word hword
    simp only [exec, execWordScrub, hword]

end Sys2Proof.Machine

/-! SUPPORT. The clusters' caches and merging buffers. -/

namespace Sys2Proof.Machine

open Laws Claims

section Clusters
variable (s : State) (c : Nat)

theorem onlyChanges_modCluster (f : Cluster → Cluster) : OnlyChanges [.steward] s (s.modCluster c f) := onlyChanges_modSteward ..

theorem onlyChanges_emits (os : List Output) : OnlyChanges [.out] s (s.emits os) := onlyChanges_of_frParts (fr_emits (by exact rfl) fr_refl os)

theorem State.cluster_modCluster_same (f : Cluster → Cluster) : (s.modCluster c f).cluster c = f (s.cluster c) := getD_modD_same ..

theorem State.cluster_count (n k : Nat) : (s.count n k).cluster c = s.cluster c := by rw [State.cluster, State.count_steward, State.cluster]

theorem State.cacheOn_count (n k : Nat) : (s.count n k).cacheOn c = s.cacheOn c := by rw [State.cacheOn, State.flag, State.count_setting, State.cacheOn, State.flag]

/-- Two changes of a cluster that come to the same here are the same step. -/
theorem State.modCluster_congr {s : State} {c : Nat} {f g : Cluster → Cluster} (h : f (s.cluster c) = g (s.cluster c)) : s.modCluster c f = s.modCluster c g := by
  have hsame : modD s.steward.clusters c {} f = modD s.steward.clusters c {} g := congrArg (fun k => insertKey c k s.steward.clusters) h
  simp only [State.modCluster, State.modSteward, hsame]

variable {s c} {addr : Nat} {line : Line} {poison : Bool} {f : CFill}

/-- A fill that nothing keeps goes to the engines that wait for it. -/
theorem exec_cacheFillComplete_of_unkept (hfill : (s.cluster c).fills.find? (fun f => f.line == addr / 64) = some f) (hkeep : f.install = false) :
    exec (.cacheFillComplete c addr line poison) s = .next (
      ((s.modCluster c (fun k => { k with fills := k.fills.eraseP (fun x => x.line == addr / 64) })).modCluster c Cluster.settleLocks).emits
        (f.waiters.map (fun e => .clusterLoad c e ((s.cluster c).overlay (addr / 64) (if s.inDram (addr / 64) then s.line (addr / 64) else line))
          (if s.inDram (addr / 64) then s.linePoison (addr / 64) else poison)))) := by
  simp only [exec, execCacheFillComplete, hfill, hkeep, Bool.false_and, Bool.false_eq_true, if_false]
  split <;> rfl

/-- An entry that lies elsewhere than in DRAM goes out as a store. -/
theorem State.drainEntry_of_far {e : MEnt} (hfar : s.inDram e.line = false) : s.drainEntry c e = s.emit (.clusterStore c (64 * e.line) e.data e.mask e.poison) := by
  have hfar : (s.emit (.clusterStore c (64 * e.line) e.data e.mask e.poison)).inDram e.line = false := hfar
  simp only [State.drainEntry, hfar, Bool.false_eq_true, if_false]

/-- Entries that lie elsewhere than in DRAM go out as stores, one after the other. -/
theorem State.foldl_drainEntry_of_far (l : List MEnt) (hfar : ∀ e ∈ l, s.inDram e.line = false) :
    l.foldl (fun s e => s.drainEntry c e) s = s.emits (l.map (fun e => .clusterStore c (64 * e.line) e.data e.mask e.poison)) := by
  induction l generalizing s with
  | nil => simp [State.emits, State.modOut]
  | cons e l ih =>
    rw [List.foldl_cons, State.drainEntry_of_far (hfar e (List.mem_cons_self ..)), ih (s := s.emit _) fun x hx => hfar x (List.mem_cons_of_mem _ hx)]
    simp [State.emits, State.emit, State.modOut]

end Clusters

/-- Settles O57. That an address below the end of DRAM is device-local, and what a fill that nothing keeps does, is the model's choice in log entries 133 and
42. -/
theorem cachesServeAndMaintain : Obligations.CachesServeAndMaintain := by
  unfold Obligations.CachesServeAndMaintain
  refine ⟨?hit, ?miss, ?store, ?fillFar, ?timeout, ?invLine, ?invAll, ?invLocked, ?fillNear, ?drainNear, ?drainFar, ?lockFill, ?lock, ?unlock, ?disable, ?enable⟩
  case hit =>
    intro s e addr w x hruns hon hfind hplain
    have hnone : b2n false = 0 := rfl
    simp only [exec, execCacheLoad, hruns, hon, hfind, hplain, hnone, State.cluster_count, reduceCtorEq, Bool.not_true, Bool.false_eq_true, or_self, if_false, if_true]
  case miss =>
    intro s e addr hruns hon hfind
    have hplain : (CacheAttr.cached == CacheAttr.streaming) = false := rfl
    simp only [exec, execCacheLoad, hruns, hon, hfind, hplain, reduceCtorEq, Bool.not_true, Bool.false_eq_true, or_self, if_false]
  case store =>
    intro s e addr line be hruns hoff hempty hpart
    have hdone : exec (.cacheStore e addr line be .cached) s = .next ((s.count (512 + 8 * e + 6) 1).modCluster (e / 8) (fun k => { k with
        merge := k.merge ++ [{ line := addr / 64, data := line, mask := be, since := s.now }] })) := by
      have hfew : ¬ 24 ≤ ([] : List MEnt).length + 1 := by decide
      simp only [exec, execCacheStore, hruns, hoff, State.cacheOn_count, State.cluster_count, hempty, List.findIdx?_nil, hpart, State.cluster_modCluster_same, State.count_now,
        List.nil_append, List.length_cons, hfew, Bool.not_true, Bool.not_false, Bool.false_eq_true, or_true, if_false, if_true]
    refine ⟨_, hdone, ?_, ?_, ?_⟩
    · exact ((onlyChanges_count ..).mono (by simp)).trans ((onlyChanges_modCluster ..).mono (by simp))
    · exact State.count_out ..
    · rw [State.cluster_modCluster_same, State.cluster_count, hempty]
      rfl
  case fillFar =>
    intro s c addr line poison f hfill hkeep hfar
    simp only [exec_cacheFillComplete_of_unkept hfill hkeep, hfar, Bool.false_eq_true, if_false]
  case timeout => exact fun _ _ => rfl
  case invLine => exact fun _ _ _ => rfl
  case invAll => exact fun _ _ => rfl
  case invLocked => exact fun _ _ => rfl
  case fillNear =>
    intro s c addr line poison f hfill hkeep hnear
    simp only [exec_cacheFillComplete_of_unkept hfill hkeep, hnear, if_true]
  case drainNear =>
    intro s u c e hmerge hnear hu
    have hnear : ((s.modCluster c (fun k => { k with merge := k.merge.drop 1 })).emit (.clusterStore c (64 * e.line) e.data e.mask e.poison)).inDram e.line = true := hnear
    simp only [exec, execDrain, State.drainAll, State.drainFirst, hmerge, List.length_singleton, List.take_succ_cons, List.take_nil, List.foldl_cons, List.foldl_nil,
      State.drainEntry, hnear, if_true, ← hu]
    rfl
  case drainFar =>
    intro s c hfar
    have hdone : exec (.drain c) s = .next ((s.modCluster c (fun k => { k with merge := k.merge.drop (s.cluster c).merge.length })).emits
        ((s.cluster c).merge.map (fun e => .clusterStore c (64 * e.line) e.data e.mask e.poison))) := by
      simp only [exec, execDrain, State.drainAll, State.drainFirst, List.take_length]
      rw [State.foldl_drainEntry_of_far]
      exact hfar
    refine ⟨_, hdone, ?_, ?_, rfl⟩
    · exact ((onlyChanges_modCluster ..).mono (by simp)).trans ((onlyChanges_emits ..).mono (by simp))
    · exact (congrArg Cluster.merge (s.cluster_modCluster_same c _)).trans List.drop_length
  case lockFill =>
    intro s c way addr hlocked hon hmiss hnone
    simp [exec, execLockFill, hlocked, hon, hmiss, hnone]
  case lock =>
    intro s c way hunlocked hnone hway
    have hone : ∀ w < 16, ((List.range 16).filter (· == w)).length = 1 := by decide
    simp [exec, execLockWay, hunlocked, hnone, hone way hway]
  case unlock =>
    intro s c way
    refine ⟨_, rfl, onlyChanges_modCluster .., ?_⟩
    rw [State.cluster_modCluster_same]
    dsimp only
    split <;> rfl
  case disable =>
    intro s rq tag c hput
    simp only [exec, execCacheDisable, State.writeNum_of_mayPut tag _ hput]
  case enable =>
    intro s rq tag c hput
    simp only [exec, execCacheEnable, State.writeNum_of_mayPut tag _ hput]

end Sys2Proof.Machine

/-! SUPPORT. The strongbox: descriptors, pulses and timers. -/

namespace Sys2Proof.Machine

open Laws Claims

section Submission
variable {s : State} {op : Nat} {d : SbDesc}

/-- A descriptor that is accepted does what its opcode says: a poisoned program halts, suspend and resume act at once, the others queue. -/
theorem State.sbSubmit_of_accepts (haccepts : SbAccepts s op d) (bad : List Nat) :
    (s.sbSubmit op d bad).1 =
      if op = 2 ∧ d.poison then s.sbComplete d St.poisonHalt 0 0 false false []
      else if op = 4 then (s.sbSuspendNow d).sbPump
      else if op = 5 then (s.sbResumeNow d).sbPump
      else (s.modSbox (fun b => { b with queue := b.queue ++ [{ op := op, d := sbTaken s d, bad := bad }] })).sbPump := by
  obtain ⟨hform, hprot, hcheck, hroom, hdict⟩ := haccepts
  have hbusy : (decide (64 ≤ s.sbOut (fun _ => true)) || (srcIsDict d.src && (decide (1 ≤ s.sbOut (fun x => x == d.src)) || decide (4 ≤ s.sbOut srcIsDict)))) = false := by
    rw [decide_eq_false (Nat.not_le.mpr hroom), Bool.false_or, Bool.and_eq_false_imp]
    intro hsrc
    obtain ⟨hown, hall⟩ := hdict hsrc
    simp [hown, Nat.not_le.mpr hall]
  have hok : lowest ([] ++ []) = St.ok := rfl
  simp only [State.sbSubmit, hform, hprot, hcheck, hok, hbusy, Bool.not_true, Bool.false_eq_true, ne_eq, not_true_eq_false, if_false]
  split_ifs
  · rfl
  · rfl
  · rfl
  · cases hsrc : d.src <;> simp only [sbTaken, hsrc]

/-- A descriptor of the firmware or of critical work finds no room where 64 are out. -/
theorem State.sbSubmit_of_full (hform : formFails op d = []) (hprot : s.protFails op d = []) (hcheck : sbDescChecks op d = true) (hfull : 64 ≤ s.sbOut (fun _ => true))
    (hsrc : srcIsDict d.src = false) (bad : List Nat) : (s.sbSubmit op d bad).1 = s.emit (.sbDone d.src d.tag St.busy 0 0 false false []) := by
  have hok : lowest [] = St.ok := rfl
  simp [State.sbSubmit, hform, hprot, hcheck, hok, hfull, hsrc]

/-- A descriptor that is well formed has its check. -/
theorem sbDescChecks_of_formFails (hform : formFails op d = []) : sbDescChecks op d = true := by
  by_contra hcheck
  simp [formFails, fails, hcheck] at hform

/-- A descriptor whose check fails is refused for it before all else. -/
theorem lowest_formFails_of_check (hcheck : sbDescChecks op d = false) : lowest (formFails op d ++ []) = St.badDescriptor := by
  simp only [formFails, fails, hcheck, Bool.not_false, Bool.or_true, Bool.true_or, if_true]
  split <;> rfl

end Submission

/-- Settles O58. -/
theorem strongboxTakesWork : Obligations.StrongboxTakesWork := by
  unfold Obligations.StrongboxTakesWork
  refine ⟨?read, ?program, ?poisoned, ?erase, ?suspend, ?resume, ?full, ?badCheck, ?pulse, ?page, ?erased, ?fortieth, ?unmarked, ?marked, ?holdEnds, ?minRun⟩
  case read =>
    intro s op d bad c hc haccepts
    rw [List.mem_cons, List.mem_singleton] at hc
    obtain hc | hc := hc <;> obtain ⟨rfl, rfl⟩ := Prod.mk.inj hc <;> exact congrArg Host.Outcome.next (State.sbSubmit_of_accepts haccepts bad)
  case program =>
    intro s d haccepts hclean
    have hclean : ¬ (2 = 2 ∧ d.poison = true) := by simp [hclean]
    exact congrArg Host.Outcome.next ((State.sbSubmit_of_accepts haccepts []).trans (if_neg hclean))
  case poisoned =>
    intro s d haccepts hpoison
    exact congrArg Host.Outcome.next ((State.sbSubmit_of_accepts haccepts []).trans (if_pos ⟨rfl, hpoison⟩))
  case erase =>
    intro s d haccepts
    exact congrArg Host.Outcome.next (State.sbSubmit_of_accepts haccepts [])
  case suspend =>
    intro s d haccepts
    exact congrArg Host.Outcome.next (State.sbSubmit_of_accepts haccepts [])
  case resume =>
    intro s d haccepts
    exact congrArg Host.Outcome.next (State.sbSubmit_of_accepts haccepts [])
  case full =>
    intro s d hform hprot hfull hsrc
    exact congrArg Host.Outcome.next (State.sbSubmit_of_full hform hprot (sbDescChecks_of_formFails hform) hfull hsrc [])
  case badCheck =>
    intro s d hprot hcheck
    refine ⟨_, rfl, ?_⟩
    have hbad : ¬ St.badDescriptor = St.ok := by decide
    simp only [exec, execSbErase, State.sbSubmit, hprot, lowest_formFails_of_check hcheck, hcheck, hbad, Bool.not_false, ne_eq, not_true_eq_false, not_false_eq_true,
      if_false, if_true]
  case pulse =>
    intro s n g hprog hfew
    have hmore : ¬ g.pulses + 1 = 16 := by omega
    simp only [exec, execPagePulseDone, hprog, hmore, Bool.false_eq_true, if_false]
  case page =>
    intro s n g hprog hmore hfull
    simp only [exec, execPagePulseDone, hprog, hmore, hfull, if_false, if_true, Nat.sub_self, List.replicate_zero, List.append_nil]
  case erased =>
    intro s n hstate
    simp only [exec, execErasePulseDone, hstate, ne_eq, not_true_eq_false, if_false, if_true]
  case fortieth =>
    intro s n hstate hlast
    simp only [exec, execErasePulseDone, hstate, hlast, ne_eq, not_true_eq_false, Bool.false_eq_true, if_false, if_true]
  case unmarked =>
    intro s n hstate
    simp only [exec, execFlagCellPulseDone, hstate, Nat.reduceEqDiff, if_false, if_true]
  case marked =>
    intro s n hstate hflush
    simp only [exec, execFlagCellPulseDone, hstate, hflush, Bool.false_eq_true, if_false, if_true]
  case holdEnds =>
    intro s n hstate hnone hlong
    simp only [exec, execSuspendHoldExpiry, hstate, hnone, State.elapsed, decide_eq_true hlong, Option.isNone_none, and_self, if_true]
  case minRun =>
    intro s n hstate hlong
    simp only [exec, execMinRunTimeElapsed, hstate, hlong, and_self, if_true]

end Sys2Proof.Machine

/-! SUPPORT. The recorder, the counters and their page, UCIe and the time base. -/

namespace Sys2Proof.Machine

open Laws Claims

theorem onlyChanges_modRec (s : State) (f : Recorder → Recorder) : OnlyChanges [.recorder] s (s.modRec f) :=
  onlyChanges_of_frParts (fr_modRec (by exact rfl) fr_refl f)

/-! ### Windows and buckets (R503) -/

section Windows
variable {s : State} {code : Nat} {w : Window}

theorem State.code_of_windowOf (hfind : s.windowOf code = some w) : w.code = code := beq_iff_eq.mp (List.find?_some (p := fun w : Window => w.code == code) hfind)

/-- A window that has ended with occurrences withheld writes their summary and opens anew. -/
theorem State.settleWindow_of_ended (hfind : s.windowOf code = some w) (hwindow : w.bucket = false) (hcount : 0 < w.count) (hended : w.since + w.len ≤ s.now) :
    s.settleWindow w.code = (s.record (s.summaryOf w)).modRec (fun r => { r with
      windows := setWindow { code := w.code, since := w.since + w.len, len := s.setting 0x3A00 9 } r.windows }) := by
  have hgoes : ¬ (w.bucket = true ∨ w.count = 0 ∨ s.now < w.since + w.len) := not_or.mpr ⟨by simp [hwindow], by omega⟩
  rw [State.code_of_windowOf hfind]
  simp only [State.settleWindow, hfind, if_neg hgoes]

/-- A bucket that is full again holds its burst, and what it withheld is summed up. -/
theorem State.refillBucket_of_full (hfull : s.setting 0x3A00 0x0B ≤ w.tokens + (s.now - w.since) * s.setting 0x3A00 0x0A / 1000000000) :
    s.refillBucket w = (if 0 < w.count then s.record (s.summaryOf w) else s, { w with tokens := s.setting 0x3A00 0x0B, since := s.now, count := 0 }) := by
  simp only [State.refillBucket, Nat.not_lt.mpr hfull, if_false]

end Windows

/-- A sweep with no samples lost copies every counter. -/
theorem exec_counterSweep_of_none {s u : State} (hu : u = (List.range 4).foldl (fun s p => s.countPause p) s) (hnone : u.rec_.sLostAt = none) :
    exec .counterSweep s = .next (u.modRec (fun r => { r with ctrs := r.ctrs.map (fun e => (e.1, { e.2 with page := e.2.value })) })) := by
  simp only [exec, execCounterSweep, ← hu, State.modRec_rec_, hnone]

/-- Settles O59. -/
theorem recorderAndCountersAct : Obligations.RecorderAndCountersAct := by
  unfold Obligations.RecorderAndCountersAct
  refine ⟨?source, ?all, ?flush, ?first, ?idle, ?counted, ?full, ?withheld, ?irq, ?preset, ?freeze, ?sweep, ?lane, ?retrain, ?crc, ?module_, ?pll⟩
  case source =>
    intro s rq tag n hput
    simp only [exec, execAcknowledgeSource, State.writeNum_of_mayPut tag _ hput]
  case all =>
    intro s rq tag hput
    simp only [exec, execAcknowledgeAll, State.writeNum_of_mayPut tag _ hput]
  case flush =>
    intro s rq tag hput hfree
    simp only [exec, execRecorderFlush, State.writeNum_of_mayPut tag _ hput, hfree, Bool.false_and, Bool.false_eq_true, if_false]
  case first =>
    intro s rq tag hput
    simp only [exec, execClearFirstArea, State.writeNum_of_mayPut tag _ hput]
  case idle =>
    intro s source cause w hfind hwindow hended hnone
    simp only [exec, execRepeatWindowExpiry, hfind, hwindow, State.elapsed, decide_eq_true hended, hnone, Bool.not_true, Bool.false_eq_true, or_self, if_false, if_true]
  case counted =>
    intro s source cause w hfind hwindow hended hcount
    have hsome : ¬ w.count = 0 := by omega
    refine ⟨_, rfl, ?_⟩
    simp only [exec, execRepeatWindowExpiry, hfind, hwindow, State.elapsed, decide_eq_true hended, hsome, Bool.not_true, Bool.false_eq_true, or_self, if_false,
      State.settleWindow_of_ended hfind hwindow hcount hended]
  case full =>
    intro s source cause w hfind hbucket hfull hnone
    have hfew : ¬ 0 < w.count := by omega
    simp only [exec, execTokenRefill, hfind, hbucket, Bool.not_true, Bool.false_eq_true, if_false, State.refillBucket_of_full hfull, hfew]
  case withheld =>
    intro s u source cause w hfind hbucket hu hfull hcount
    simp only [exec, execTokenRefill, hfind, hbucket, Bool.not_true, Bool.false_eq_true, if_false, State.refillBucket_of_full hfull, hcount, if_true, ← hu]
  case irq =>
    intro s src hirq hnone hport
    have hpath : s.irqPath .i3c0 = true := by simp [State.irqPath, State.irqPaths, irqKey, hport]
    have hdone : exec (.mgmtInterruptTimer .i3c0) s = .next ((s.modRec fun r => { r with irq := eraseKey 0 r.irq, irqAt := insertKey 0 s.now r.irqAt }).emit
        (.mgmtIrq .i3c0 src)) := by
      simp only [exec, execMgmtInterruptTimer, irqKey, hirq, hnone, hpath, Bool.not_true, Bool.or_self, Bool.false_eq_true, if_false]
    exact ⟨_, hdone, ((onlyChanges_modRec ..).mono (by simp)).trans ((onlyChanges_emit ..).mono (by simp)), rfl, assoc_insertKey_same ..⟩
  case preset =>
    intro s rq tag n v hput
    simp only [exec, execCounterPreset, State.writeNum_of_mayPut tag _ hput]
  case freeze =>
    intro s rq tag mask hput
    simp only [exec, execLocalFreezeWrite, State.writeNum_of_mayPut tag _ hput]
  case sweep =>
    intro s u hu hnone
    exact exec_counterSweep_of_none hu hnone
  case lane => exact fun _ _ _ => rfl
  case retrain => exact fun _ _ _ => rfl
  case crc => exact fun _ _ _ => rfl
  case module_ => exact fun _ _ => rfl
  case pll => exact fun _ => rfl

/-! ### The counter page (R121) -/

section CounterPage

theorem bar2At_of_counters {off : Nat} (hlow : 0x20000 ≤ off) (hhigh : off < 0x22000) : bar2At off = .counters (off - 0x20000) := by
  have hdevice : ¬ off < 0x2000 := by omega
  have hbells : ¬ (0x10000 ≤ off ∧ off < 0x20000) := by omega
  simp only [bar2At, hdevice, hbells, if_false, if_pos (And.intro hlow hhigh)]

/-- A read inside the counter page is a read of the page. -/
theorem State.barRead_of_counters (s : State) (p ld size : Nat) {off : Nat} (hlow : 0x20000 ≤ off) (hhigh : off < 0x22000) :
    s.barRead p ld 2 off size = some (s.counterPage p ld (off - 0x20000) size) := by
  simp only [State.barRead, OfNat.ofNat_ne_zero, if_false, bar2At_of_counters hlow hhigh]

/-- An aligned read of a counter's entry. -/
theorem State.barRead_counter (s : State) (p ld : Nat) {c : Nat} (hc : c < 1024) :
    s.barRead p ld 2 (0x20000 + 8 * c) 8 =
      some (if s.counterOpen p ld c then BitVec.ofNat 64 ((getD s.rec_.ctrs c {}).page % 2 ^ 48 + 2 ^ 63) else 0) := by
  have hoff : 0x20000 + 8 * c - 0x20000 = 8 * c := by omega
  have haligned : 8 * c % 8 = 0 := by omega
  have hentry : 8 * c / 8 = c := by omega
  simp only [s.barRead_of_counters p ld 8 (off := 0x20000 + 8 * c) (by omega) (by omega), State.counterPage, hoff, haligned, hentry, true_and]

/-- What a read of an open counter's entry shows: its copy below, zeroes, and bit 63. -/
theorem counterEntry_fields (page : Nat) :
    (BitVec.ofNat 64 (page % 2 ^ 48 + 2 ^ 63)).getLsbD 63 = true ∧ (BitVec.ofNat 64 (page % 2 ^ 48 + 2 ^ 63)).extractLsb' 48 15 = 0 ∧
      (BitVec.ofNat 64 (page % 2 ^ 48 + 2 ^ 63)).extractLsb' 0 48 = BitVec.ofNat 48 page := by
  have hfits : (page % 2 ^ 48 + 2 ^ 63) % 2 ^ 64 = page % 2 ^ 48 + 2 ^ 63 := by omega
  refine ⟨?_, ?_, ?_⟩
  · rw [← BitVec.testBit_toNat, BitVec.toNat_ofNat, hfits, Nat.testBit_eq_decide_div_mod_eq]
    exact decide_eq_true (by omega)
  · refine BitVec.eq_of_toNat_eq ?_
    rw [BitVec.extractLsb'_toNat, BitVec.toNat_ofNat, hfits, Nat.shiftRight_eq_div_pow]
    simp only [BitVec.ofNat_eq_ofNat, BitVec.toNat_ofNat]
    omega
  · refine BitVec.eq_of_toNat_eq ?_
    rw [BitVec.extractLsb'_toNat, BitVec.toNat_ofNat, hfits, Nat.shiftRight_zero, BitVec.toNat_ofNat]
    omega

/-- The values of a map changed by a function that keeps the default. -/
theorem getD_map {α : Type} (m : List (Nat × α)) (k : Nat) (d : α) {f : α → α} (hd : f d = d) : getD (m.map (fun e => (e.1, f e.2))) k d = f (getD m k d) := by
  induction m with
  | nil => exact hd.symm
  | cons e m ih =>
    obtain ⟨j, v⟩ := e
    by_cases hj : k = j
    · simp only [getD, List.map_cons, assoc, hj, if_true, Option.getD_some]
    · simpa only [getD, List.map_cons, assoc, hj, if_false] using ih

end CounterPage

/-- Settles O60. -/
theorem counterPageReads : Obligations.CounterPageReads := by
  unfold Obligations.CounterPageReads
  refine ⟨?opens, ?opened, ?closed, ?odd, ?written, ?swept⟩
  case opens =>
    intro s p ld c
    simp only [State.counterOpen, List.any_eq_true, Bool.and_eq_true, bne_iff_ne, beq_iff_eq, and_assoc]
  case opened =>
    intro s p ld c hc hopen
    refine ⟨_, s.barRead_counter p ld hc, ?_⟩
    rw [if_pos hopen]
    exact counterEntry_fields _
  case closed =>
    intro s p ld c hc hclosed
    rw [s.barRead_counter p ld hc, hclosed]
    rfl
  case odd =>
    intro s p ld off size hlow hhigh hodd
    have hnot : ¬ (size = 8 ∧ (off - 0x20000) % 8 = 0 ∧ s.counterOpen p ld ((off - 0x20000) / 8) = true) := by omega
    rw [s.barRead_of_counters p ld size hlow hhigh, State.counterPage, if_neg hnot]
  case written =>
    intro off hlow hhigh
    simp only [writeIgnored, OfNat.ofNat_ne_zero, if_false, bar2At_of_counters hlow hhigh]
  case swept =>
    intro s u hu hnone
    refine ⟨_, exec_counterSweep_of_none hu hnone, fun p ld c hc hopen => ⟨_, State.barRead_counter _ p ld hc, ?_⟩⟩
    rw [if_pos hopen, (counterEntry_fields _).2.2]
    exact congrArg (fun x : Ctr => BitVec.ofNat 48 x.page) (getD_map u.rec_.ctrs c {} (f := fun x => { x with page := x.value }) rfl)

end Sys2Proof.Machine
